-- ==== Sys2Proof/Word.lean ====
section
/-! DEFINITION. Word.lean: the words and bytes the manual counts in (R6 to R8, R11). -/
namespace Sys2Proof

/-- A register of BAR0: every register is 32 bits wide (00_scope, "Register maps and access codes"). -/
abbrev Word := BitVec 32

/-- A byte of a frame, a descriptor, an image or a record (R8). -/
abbrev Byte := BitVec 8

end Sys2Proof
end

