-- ==== Sys2Proof/Syntax.lean ====
section
/-! DEFINITION. Syntax.lean: what crosses the balls and the host link (frames, descriptors, records, measured values), and Instr,
the commands: one constructor per row of spec/opcode_table.json. -/
namespace Sys2Proof

/-- The two roles of R1 and R526 (STRAP_ROLE 0 Basin, 1 Spring). -/
inductive Role where
  | basin
  | spring
  deriving DecidableEq, Repr

/-- The side of a Basin (STRAP_SIDE 0 side A, 1 side B; R526). -/
inductive Side where
  | a
  | b
  deriving DecidableEq, Repr

/-- The two synthesisers of R293. -/
inductive Pll where
  | s
  | l
  deriving DecidableEq, Repr

/-- A 64-byte descriptor (R326): the header fields and the 40 PARAM bytes 24 to 63. -/
structure Desc where
  opcode : Nat
  flags : Nat
  tag : Nat
  target : Nat
  applyTick : Nat
  length : Nat
  buffer : Nat
  param : List Nat
  deriving DecidableEq, Repr

/-- An event record (R469), its CRC apart. `payload` is its 32 payload bytes. -/
structure EvRec where
  seq : Nat
  stamp : Nat
  secLo : Nat
  epoch : Nat
  code : Nat
  source : Nat
  commit : Nat
  sev : Nat
  todValid : Bool
  journal : Bool
  suppressed : Nat
  lseq : Nat
  tick : Nat
  payload : List Nat
  deriving DecidableEq, Repr

/-- A ledger record (R486). -/
structure LedgerRec where
  packSerial : List Nat
  devSerial : Nat
  eIn : Nat
  eOut : Nat
  recSec : Nat
  epoch : Nat
  rseq : Nat
  kind : Nat
  todValid : Bool
  unauth : Bool
  index : Nat
  tag : Nat
  lseq : Nat
  deriving DecidableEq, Repr

/-- The payload of a HEALTH frame (R393). -/
structure Health where
  role : Nat
  side : Side
  fit : Nat
  claim : Nat
  tick : Nat
  shadowMis : Nat
  rowsLeft : Nat
  rowsPend : Nat
  eccCorr : Nat
  prbsTested : Nat
  prbsFail : Nat
  vaon : Nat
  sens : Nat
  voteExcl : Nat
  chainExcl : Nat
  secondPath : Nat
  norSpare : Nat
  recorder : Nat
  deriving DecidableEq, Repr

/-- A MGMT frame (R246): ADDR and RELAYED of the envelope, the 12-byte header (its LEN is the payload's length), the payload bytes. -/
structure Mgmt where
  relayed : Bool
  addr : Nat
  src : Nat
  op : Nat
  mseq : Nat
  chain : Nat
  hop : Nat
  param : Nat
  payload : List Nat
  deriving DecidableEq, Repr

/-- A SYNC frame's body (R254). Stamps count units of 2^-16 ns (48 bits). -/
structure SyncFrame where
  kind : Nat
  port : Nat
  facesA : Bool
  sseq : Nat
  t2 : Nat
  t3 : Nat
  mhop : Nat
  terr : Int
  deriving DecidableEq, Repr

/-- A Spring's 32-byte slot (R72). -/
structure Slot where
  mode : Nat
  level : Int
  seq : Nat
  m : Int
  phase : Nat
  restart : Bool
  dabEn : Bool
  pDab : Int
  cmdSrc : Nat
  cmdOp : Nat
  cmdParam : List Nat
  deriving DecidableEq, Repr

/-- The TICK header (R242), its HDR_CRC apart. `todValid` is whether its time of day is valid (R283); the header's bytes carry no bit for it. -/
structure TickHdr where
  tick : Nat
  bound : Nat
  period : Nat
  claim : Nat
  nslot : Nat
  state : Nat
  side : Side
  farFed : Bool
  weirStn : Bool
  weirHold : Nat
  epoch : Nat
  weirRstamp : Nat
  todSec : Nat
  todNs : Nat
  todValid : Bool
  deriving DecidableEq, Repr

/-- A TICK frame: the chain in ADDR, RELAYED, the header and the slots. -/
structure TickFrame where
  chain : Nat
  relayed : Bool
  hdr : TickHdr
  slots : List Slot
  deriving DecidableEq, Repr

/-- A TELEM frame's 96 bytes (R74), with the Spring index of its ADDR and RELAYED of its envelope. -/
structure Telem where
  spring : Nat
  tick : Nat
  epoch : Nat
  clip : Bool
  seqLate : Bool
  uncal : Bool
  busy : Bool
  blocked : Bool
  bypClosed : Bool
  held : Bool
  evtPending : Bool
  slotSeq : Nat
  measStamp : Nat
  vDc : Nat
  iStr : Int
  vLv : Nat
  iLv : Int
  iPack : Int
  pHb : Int
  pDab : Int
  mApplied : Int
  dabY : Int
  mode : Nat
  hbFault : Nat
  tHs : Int
  tDie : Int
  tCellMin : Int
  tCellMax : Int
  soc : Nat
  soh : Nat
  iChgLim : Nat
  iDisLim : Nat
  vPackBms : Nat
  bmsAge : Nat
  eIn : Nat
  eOut : Nat
  pLimChg : Nat
  pLimDis : Nat
  bmsFault : Nat
  cellStatus : Nat
  clipSrc : Nat
  evtCount : Nat
  timeErr : Int
  adcFlags : Nat
  sel : List Int
  relayed : Bool := false
  deriving DecidableEq, Repr

/-- The fields of a WEIR ordered set (R191), its O_CODE and CRC apart. -/
structure WeirSet where
  scope : Nat
  arm : Nat
  cause : Nat
  origin : Nat
  seq : Nat
  stamp : Nat
  deriving DecidableEq, Repr

/-- What the controller finds on one xSPI chip select at start-up (R490). -/
inductive NorProbe where
  | absent
  | unsupported (requirement : Nat)
  | device (blocks : Nat)
  deriving DecidableEq, Repr

/-- The strap levels at the release of PORST_N (R526) and the NOR devices found. -/
structure BootIn where
  role : Role
  side : Side
  boot : Nat
  cs0 : NorProbe
  cs1 : NorProbe
  test : Bool := false
  deriving DecidableEq, Repr

/-- The payload of an ENROL_REPLY (R253). -/
structure EnrolReply where
  index : Nat
  position : Nat
  ports : Nat
  epoch : Nat
  rev : Nat
  serial : Nat
  straps : Nat
  deriving DecidableEq, Repr

/-- A CAN or CAN FD frame (R447): identifier, format bits, data length code and data bytes. -/
structure CanFrame where
  ide : Bool
  id : Nat
  rtr : Bool
  fdf : Bool
  brs : Bool
  esi : Bool
  dlc : Nat
  data : List Nat
  deriving DecidableEq, Repr

/-- What the grid stages of a tick take from filters of which the manual gives the kind and no constants (R42: the sequence separation and the PLL): `err` and `ff`
are the input errors of controllers 0, 1 and 4 to 9 and the feed-forwards of 4 and 5, in Q8.24; `prot` the fault current that the grid code demands of each
arm as PROTECT, in VA; the angle of the grid, its frequency and nominal frequency in mHz, the positive-sequence voltage in mV. `links` are each chain's one-way
link delays as SYNC measures them (R254), in ps, from the A end on. -/
structure GridIn where
  err : List Int := []
  ff : List Int := []
  prot : List Nat := []
  angle : Int := 0
  freq : Nat := 50000
  nominal : Nat := 50000
  vPos : Nat := 0
  links : List (List Nat) := []
  deriving DecidableEq, Repr

/-- A read request of the host to BAR0 (R9): its offset, its length in bytes, whether its byte enables are contiguous. -/
structure HostRd where
  off : Nat
  len : Nat
  whole : Bool := true
  deriving DecidableEq, Repr

/-- What a write of a register needs to know of the balls: ports whose receive clock lane has been clean for 1 ms (R256), whether the MSI-X function mask is set
(R340), the inputs, in nV, of the burst that a software trigger discards (R172), the transmit buffer whose frame is on its bus, if any (R458), and the bit errors a PRBS checker has found since the write before (R251). -/
structure WrIn where
  clean : Nat := 0
  fmask : Bool := false
  vs : List Int := []
  sof : Option Nat := none
  prbs : Nat := 0
  deriving DecidableEq, Repr

/-- How a Spring's CAL_RUN or SYSCAL ends as the Basin that asked for it learns (R179, R183, R364): done, with the units whose self-calibration failed; refused, with the reason
of R183 less one; busy with an update (R357); or its frames lost with the path. -/
inductive RemoteAns where
  | done (failed : Fin 16)
  | refused (reason : Fin 5)
  | busy
  | lost
  deriving DecidableEq, Repr

/-- A block as a receiver tells its kinds apart (R237): data, start of a frame, end of a frame with its remaining bytes, idle, an ordered set's 56 bits (its O_CODE in
bits 3:0), any other block with a valid sync header, or one whose header is invalid. -/
inductive Block where
  | data (bs : List Nat)
  | start (bs : List Nat)
  | term (bs : List Nat)
  | idle
  | oset (v : Nat)
  | other
  | badHdr
  deriving DecidableEq, Repr

/-- A chain frame (R240). -/
inductive Frame where
  | tick (f : TickFrame)
  | telem (t : Telem)
  | mgmt (m : Mgmt)
  | sync (f : SyncFrame)
  deriving DecidableEq, Repr

/-- What a read of host memory gives (R328): the words, or the code of the error it ends with (1 unsupported request, 2 completer abort, 3 poisoned data,
4 completion timeout). -/
inductive HostBuf where
  | words (ws : List Word)
  | failed (code : Nat)
  deriving DecidableEq, Repr


/-- The commands: one constructor per row of spec/opcode_table.json, in the table's order. Operands carry what comes from outside the
block with the event (received frames, levels, measured values, values written); `dt` is the time in CORE cycles since the command before. -/
inductive Instr where
  /-- PORST_N_ASSERT (R152): PORST_N is asserted; the AON clamp drives every gate and SSD ball low and the device is held in full reset. -/
  | porstNAssert
  /-- PORST_N_RELEASE (R525): PORST_N is released; the device samples straps, loads fuses, maps spare rows and begins its start-up programme. -/
  | porstNRelease (b : BootIn)
  /-- HOST_WAIT_EXPIRY (R535): HOST_WAIT seconds pass after step 6 without pair 0 enabled, so step 8 begins. -/
  | hostWaitExpiry (dt : Nat)
  /-- BROWN_OUT (R523): A supervised rail falls below its falling level; gates are clamped and the device is held in reset until the rails recover for tBRD. -/
  | brownOut (rail : Fin 6)
  /-- AON_POWER_ON (R524): The OR of the VAON feeds falls below 2.50 V and returns, so the AON domain starts afresh and loses its contents. -/
  | aonPowerOn
  /-- RESET_N_ASSERT (R527): RESET_N is held low long enough to enter a warm reset. -/
  | resetNAssert (dt : Nat)
  /-- RESET_N_RELEASE (R530): RESET_N is released and the device resumes its start-up programme at its warm-reset entry step. -/
  | resetNRelease (dt : Nat)
  /-- RESET_STUCK (R531): RESET_N stays low for tSTK and the device enters SAFE_HOLD. -/
  | resetStuck (dt : Nat)
  /-- RESET_RELEASED (R532): RESET_N has been high for tREL and the device leaves SAFE_HOLD. -/
  | resetReleased (dt : Nat)
  /-- SOFTWARE_RESET (R533): A write of 0xA5 to CMN_SWRST.KEY makes a warm reset, or is refused with SWRST_REFUSED. -/
  | softwareReset (v : Word)
  /-- REGISTER_WRITE (R10): A write to a register without a row of its own updates its fields under their access codes. -/
  | registerWrite (dt : Nat) (off : Nat) (len : Nat) (ws : List Word) (w : WrIn)
  /-- GATHER_START (R23): At boundary T(k) the Basin starts gather, samples its configuration and apply queue, and applies tick-bound changes. -/
  | gatherStart (dt : Nat)
  /-- GATHER_DEADLINE (R43): The gather deadline passes and the Basin runs measure, control, allocation, modulation and dispatch for the tick. -/
  | gatherDeadline (dt : Nat) (grid : GridIn)
  /-- CELL_LOST (R47): A Spring stays STALE beyond STALE_MAX ticks and is marked LOST. -/
  | cellLost (dt : Nat) (sp : Fin 192)
  /-- CELL_RETURNED (R48): A LOST Spring delivers 16 consecutive timely frames and becomes a candidate again. -/
  | cellReturned (dt : Nat) (sp : Fin 192)
  /-- DEMAND_HOLD_EXPIRY (R94): A waiting demand entry's HOLD runs out and it completes with a refusal. -/
  | demandHoldExpiry (dt : Nat) (slot : Fin 64)
  /-- DEMAND_DURATION_END (R95): A served demand entry's DURATION runs out and its slot is freed silently. -/
  | demandDurationEnd (dt : Nat) (slot : Fin 64)
  /-- SPARE_INSERT_FAIL (R106): A spare's bypass does not open within TMO and the spare is withdrawn. -/
  | spareInsertFail (dt : Nat) (arm : Fin 12) (spare : Fin 192)
  /-- THROTTLE_GRACE_EXPIRY (R226): The grace timer expires with the throttle cause still present. -/
  | throttleGraceExpiry (dt : Nat)
  /-- TELEM_LATCH (R41): At T(k) + 0.4 µs a Spring latches its telemetry and integrates pack energy. -/
  | telemLatch (dt : Nat)
  /-- TELEM_SEND (R41): At T(k) + 0.5 µs a Spring sends its TELEM frame out of both ports. -/
  | telemSend (dt : Nat)
  /-- TELEM_RX (R28): A Basin receives a TELEM frame and uses, discards or relays it. -/
  | telemRx (dt : Nat) (port : Fin 12) (bs : List Block)
  /-- TICK_RX (R243): A Spring receives a TICK frame, checks address, header CRC and claim, and takes its Weir fields and slot. -/
  | tickRx (dt : Nat) (port : Fin 2) (bs : List Block)
  /-- SLOT_DEADLINE (R44): T(k + 1) − 1.0 µs passes without a valid slot, so the Spring holds its previous slot. -/
  | slotDeadline (dt : Nat)
  /-- SLOT_APPLY (R24): At a tick boundary the Spring applies its slot, leaves holds and CONFLICT as allowed, and restarts carriers on request. -/
  | slotApply (dt : Nat)
  /-- TICK_LOSS (R35): A Spring counts 3 ticks without a valid TICK frame, blocks and sends a Weir. -/
  | tickLoss (dt : Nat)
  /-- DAB_PERIOD (R70): A DAB period starts and the Spring computes the new phase shift. -/
  | dabPeriod (dt : Nat)
  /-- CLEAR (R135): The CLEAR operation clears latches, trips, retry histories and BLOCK when inputs are quiet. -/
  | clear (desat : Nat)
  /-- BYP_OPEN (R141): The BYP_OPEN operation energises BYP_CMD when its conditions hold. -/
  | bypOpen
  /-- BYP_CLOSE (R148): The BYP_CLOSE operation de-energises BYP_CMD without changing the mode. -/
  | bypClose
  /-- PACK_CLOSE (R145): The PACK_CLOSE operation energises PACK_CTR when the pack record and voltage check allow. -/
  | packClose
  /-- PACK_OPEN (R146): The PACK_OPEN operation de-energises PACK_CTR when current is low or FORCE is set. -/
  | packOpen
  /-- BYP_FB_CHANGE (R144): The filtered bypass feedback changes, completing an open or close or reporting an uncommanded change. -/
  | bypFbChange (dt : Nat) (level : Bool)
  /-- BYP_OPEN_FAIL (R141): The bypass does not show open within BYP_OPEN_TMO and BYP_CMD is de-energised. -/
  | bypOpenFail (dt : Nat)
  /-- BYP_CLOSE_FAIL (R143): The bypass does not show closed within BYP_CLOSE_TMO; active bypass or BLOCK follows. -/
  | bypCloseFail (dt : Nat)
  /-- PACK_FB_CHANGE (R144): The filtered pack-contactor feedback changes. -/
  | packFbChange (dt : Nat) (level : Bool)
  /-- PACK_FAIL (R145): The pack contactor feedback does not follow its command within PACK_TMO. -/
  | packFail (dt : Nat)
  /-- WIN_EXIT (R175): A window comparator leaves its window, and in a Spring may trip its half-bridge. -/
  | winExit (dt : Nat) (j : Fin 32) (v : Int) (sub : Fin 8)
  /-- WIN_RETURN (R175): A window comparator returns inside its window with hysteresis. -/
  | winReturn (j : Fin 32) (v : Int)
  /-- DESAT_FAULT (R121): A DESAT input of the conducting channel stays high for DESAT_FLT outside blanking. -/
  | desatFault (dt : Nat) (n : Fin 6) (hi : Bool) (desat : Nat) (sub : Fin 8)
  /-- READY_LOSS (R123): A ready input reads low for RDY_FLT; the half-bridge trips or clears RDY_OK. -/
  | readyLoss (dt : Nat) (n : Fin 6) (hi : Bool) (sub : Fin 8)
  /-- READY_TIMEOUT (R131): A half-bridge stays TRIPPED for READY beyond RDY_TMO and latches. -/
  | readyTimeout (dt : Nat) (n : Fin 6)
  /-- MULTI_TRIP_WINDOW (R132): The 100 ns window after the first of several trips closes and the multiple-trip record is raised. -/
  | multiTripWindow (dt : Nat)
  /-- SOFT_TURN_OFF (R124): tSSD after the SSD output rises, the tripped channel is driven low. -/
  | softTurnOff (dt : Nat) (n : Fin 6)
  /-- SSD_RELEASE (R124): 500 ns after the channel goes low, the SSD output is released. -/
  | ssdRelease (dt : Nat) (n : Fin 6)
  /-- RESUME_TEST (R127): At the next commanded on-edge a TRIPPED half-bridge is tested to resume, stay tripped or latch. -/
  | resumeTest (dt : Nat) (n : Fin 6) (hi : Bool) (desat : Nat)
  /-- RETRY_EXPIRY (R128): A retry expires RETRY_WIN after it was made. -/
  | retryExpiry (dt : Nat) (n : Fin 6)
  /-- CONFLICT (R118): A rising edge meets the other channel on and the half-bridge enters CONFLICT. -/
  | conflict (dt : Nat) (n : Fin 6) (sub : Fin 8)
  /-- GATE_TEST_GO (R154): A write of 1 to GATE_TEST.GO starts a commissioning pulse programme or is rejected. -/
  | gateTestGo (v : Word)
  /-- TEST_PULSE_PROGRAMME_END (R154): A commissioning pulse programme finishes and TEST_BUSY clears. -/
  | testPulseProgrammeEnd (dt : Nat)
  /-- OCP_TRIP (R207): The voted OCP inputs trip; a Spring blocks, a Basin originates a station Weir. -/
  | ocpTrip (dt : Nat) (a : Fin 3) (b : Fin 3) (c : Fin 3)
  /-- WEIR_RX_SPRING (R197): A Spring receives a valid Weir copy, forwards it and enters the matching hold. -/
  | weirRxSpring (dt : Nat) (port : Fin 2) (v : Nat)
  /-- WEIR_RX_BASIN (R201): A Basin receives a valid Weir, relays it and marks an arm held or enters FAULT_BLOCK. -/
  | weirRxBasin (dt : Nat) (port : Fin 12) (v : Nat)
  /-- WEIR_HOLD_MAX (R204): An arm stays held beyond WEIR_HOLD_MAX ticks and the station is escalated. -/
  | weirHoldMax (dt : Nat) (arm : Fin 12)
  /-- WEIR_MEMORY_EXPIRY (R195): A relayed (ORIGIN, SEQ) pair is forgotten after 1 ms. -/
  | weirMemoryExpiry (dt : Nat)
  /-- WEIR_REL (R203): A write to WEIR_REL requests release of held arms, or is refused. -/
  | weirRel (v : Word)
  /-- ADC_TRIGGER (R169): A scheduled or asynchronous trigger reaches a unit and starts, holds, discards or restarts a run. -/
  | adcTrigger (dt : Nat) (n : Fin 4) (src : Nat) (vs : List Int)
  /-- ADC_SWTRIG (R168): A write of 1 to ADCn_SWTRIG.GO triggers the unit. -/
  | adcSwtrig (n : Fin 4) (vs : List Int)
  /-- ADC_DELAY_END (R169): The trigger delay runs out and sampling of entry 0 begins. -/
  | adcDelayEnd (dt : Nat) (n : Fin 4)
  /-- ADC_ENTRY_DONE (R164): An entry's last conversion ends and its result word is written. -/
  | adcEntryDone (dt : Nat) (n : Fin 4) (convs : List (Int × Int))
  /-- ADC_RUN_END (R166): A run's last result is written; a pending trigger or CHAIN trigger starts the next run. -/
  | adcRunEnd (dt : Nat) (n : Fin 4) (vs : List (List Int))
  /-- SELF_CAL_DONE (R178): A unit's 3.2 ms self-calibration finishes and stores its factors or fails. -/
  | selfCalDone (dt : Nat) (n : Fin 4) (offset : Int) (gains : List Nat) (lins : List Int)
  /-- SYSCAL_MEASURE_DONE (R182): The 256 conversions of a SYSCAL step end and the record is stored or refused. -/
  | syscalMeasureDone (dt : Nat) (n : Fin 4) (convs : List (Int × Int))
  /-- PRECHG_FAIL (R541): V_TGT is not reached within CMN_PRECHG.TMO and the soft-start stops. -/
  | prechgFail (dt : Nat)
  /-- SENSOR_CONVERSION (R216): The die sensors convert every 100 µs; T_DIE is formed, cross-checked and compared with thresholds. -/
  | sensorConversion (dt : Nat) (t0 : Int) (t1 : Int) (t2 : Int) (t3 : Int) (t4 : Int)
  /-- NOP (R329): The NOP descriptor completes OK at once. -/
  | nop (dt : Nat) (q : Fin 16)
  /-- SET_REF (R56): SET_REF sets a grid or LV reference from its apply tick. -/
  | setRef (dt : Nat) (q : Fin 16)
  /-- SET_DEMAND (R93): SET_DEMAND creates or replaces a demand entry in a slot. -/
  | setDemand (dt : Nat) (q : Fin 16)
  /-- DEMAND_RELEASE (R93): SET_DEMAND with KIND RELEASE frees its entry slot at the apply tick. -/
  | demandRelease (dt : Nat) (q : Fin 16)
  /-- SPRING_CMD (R54): SPRING_CMD queues a slot operation for a Spring at its apply tick. -/
  | springCmd (dt : Nat) (q : Fin 16)
  /-- TABLE_LOAD (R510): TABLE_LOAD writes part of an image into a bank. -/
  | tableLoad (dt : Nat) (q : Fin 16) (buf : HostBuf)
  /-- TABLE_LOAD_DONE (R511): A load's bytes are programmed and verified; with LAST the bank is checked. -/
  | tableLoadDone (dt : Nat) (q : Fin 16)
  /-- TABLE_SWAP (R513): TABLE_SWAP checks a bank and pushes it to every Spring for tick A. -/
  | tableSwap (dt : Nat) (q : Fin 16)
  /-- REMOTE_READ (R329): REMOTE_READ reads registers of a Spring or the other Basin through MGMT frames. -/
  | remoteRead (dt : Nat) (q : Fin 16)
  /-- REMOTE_WRITE (R329): REMOTE_WRITE writes registers of a Spring or the other Basin through MGMT frames. -/
  | remoteWrite (dt : Nat) (q : Fin 16) (buf : HostBuf)
  /-- FENCE_CLEAR (R360): FENCE_CLEAR clears fence bits set before its fetch. -/
  | fenceClear (dt : Nat) (q : Fin 16)
  /-- LOG_FREEZE (R478): LOG_FREEZE stops commits to FIRST and LAST. -/
  | logFreeze (dt : Nat) (q : Fin 16)
  /-- LOG_READ (R479): LOG_READ returns committed records of an area from START. -/
  | logRead (dt : Nat) (q : Fin 16) (bad : List (Nat × Nat × Nat))
  /-- LOG_THAW (R478): LOG_THAW resumes commits. -/
  | logThaw (dt : Nat) (q : Fin 16)
  /-- LEDGER_READ (R487): LEDGER_READ returns ledger records in LSEQ order and advances REC_LEDGER_RD. -/
  | ledgerRead (dt : Nat) (q : Fin 16)
  /-- TIME_SET (R272): TIME_SET schedules setting time of day at its apply tick. -/
  | timeSet (dt : Nat) (q : Fin 16)
  /-- TIME_OFFSET (R274): TIME_OFFSET delivers a reference offset sample to the servo. -/
  | timeOffset (dt : Nat) (q : Fin 16)
  /-- CAL_RUN (R179): CAL_RUN starts self-calibration of the units in its mask. -/
  | calRun (dt : Nat) (q : Fin 16) (ans : Option RemoteAns) (mask : Fin 16)
  /-- SYSCAL_ZERO (R182): SYSCAL step ZERO measures and stores the zero sum. -/
  | syscalZero (dt : Nat) (q : Fin 16) (ans : Option RemoteAns) (p : List Nat)
  /-- SYSCAL_FULL (R182): SYSCAL step FULL measures full scale and computes the record. -/
  | syscalFull (dt : Nat) (q : Fin 16) (ans : Option RemoteAns) (p : List Nat)
  /-- SYSCAL_CLEAR (R182): SYSCAL step CLEAR clears VALID of a record. -/
  | syscalClear (dt : Nat) (q : Fin 16) (ans : Option RemoteAns) (p : List Nat)
  /-- SAFETY_UNLOCK (R424): SAFETY_UNLOCK checks the password and unlocks the safety configuration. -/
  | safetyUnlock (dt : Nat) (q : Fin 16)
  /-- SAFETY_CFG (R427): SAFETY_CFG writes RWL entries checked against SAFE_CRC, with rollback on failure. -/
  | safetyCfg (dt : Nat) (q : Fin 16) (buf : HostBuf)
  /-- STREAM_BUF (R335): STREAM_BUF posts a buffer to a stream pair. -/
  | streamBuf (dt : Nat) (q : Fin 16)
  /-- STREAM_FLUSH (R335): FLUSH µs after its first record, a stream buffer is completed. -/
  | streamFlush (dt : Nat) (q : Fin 16)
  /-- ENERGISE (R542): ENERGISE is checked, including tick and Weir budgets, and sampled. -/
  | energise (dt : Nat) (q : Fin 16) (links : List (List Nat))
  /-- DEENERGISE (R543): DEENERGISE completes when sampled. -/
  | deenergise (dt : Nat) (q : Fin 16)
  /-- RESUME (R413): RESUME clears latched causes and returns the station to READY when conditions hold. -/
  | resume (dt : Nat) (q : Fin 16)
  /-- SQ_TAIL_DOORBELL (R322): A write to a pair's SQ doorbell sets its tail. -/
  | sqTailDoorbell (q : Fin 16) (v : Word)
  /-- CQ_HEAD_DOORBELL (R322): A write to a pair's CQ doorbell sets its head and releases held completions. -/
  | cqHeadDoorbell (q : Fin 16) (v : Word)
  /-- DESCRIPTOR_FETCH (R323): The Basin fetches a descriptor from an SQ and checks it. -/
  | descriptorFetch (dt : Nat) (b : List Nat)
  /-- FETCH_ERR (R334): A descriptor read ends with an error and the pair enters ERROR. -/
  | fetchErr (dt : Nat) (code : Nat)
  /-- COMPLETION_WRITE (R333): A completion is written to its CQ in order once room exists. -/
  | completionWrite (dt : Nat) (q : Fin 16)
  /-- CQ_COAL_TIMER (R341): The coalescing TIME expires and the CQ source asserts. -/
  | cqCoalTimer (dt : Nat) (q : Fin 16)
  /-- MSIX_SEND (R340): A due vector's holdoff has passed and its MSI-X message is sent. -/
  | msixSend (dt : Nat) (v : Fin 64) (fmask : Bool)
  /-- MSIX_UNMASK (R340): A masked vector with a pending message is unmasked and sends it. -/
  | msixUnmask (v : Fin 64) (fmask : Bool)
  /-- QP_ENABLE (R321): Writing EN = 1 enables a disabled queue pair. -/
  | qpEnable (q : Fin 16)
  /-- QP_DISABLE (R321): Writing EN = 0 stops fetching and makes the pair DISABLING. -/
  | qpDisable (q : Fin 16)
  /-- QP_DISABLED (R321): A DISABLING pair's in-flight descriptors have all completed and it becomes DISABLED. -/
  | qpDisabled (q : Fin 16)
  /-- HIF_WD_WRITE (R342): A write to HIF_WD restarts the host watchdog. -/
  | hifWdWrite (v : Word)
  /-- HOST_WD_EXPIRED (R342): The host watchdog expires and may de-energise the station. -/
  | hostWdExpired (dt : Nat)
  /-- PCIE_LINK_DOWN (R317): The PCIe link goes down; queues are disabled and in-flight completions discarded. -/
  | pcieLinkDown
  /-- PCIE_FLR (R317): A Function Level Reset is received with the same effect as a link loss. -/
  | pcieFlr
  /-- PCIE_LINK_UP (R317): The PCIe link trains again. -/
  | pcieLinkUp (speed : Fin 4) (width : Fin 5) (cfg : List (Nat × Word))
  /-- CMD_BUSY_EXPIRED (R357): A descriptor held for a busy Spring reaches UPD_HOLD ticks and completes BUSY_UPDATE. -/
  | cmdBusyExpired (dt : Nat) (id : Nat)
  /-- RD_REQ (R246): A MGMT RD_REQ frame is received and answered with register words. -/
  | rdReq (dt : Nat) (port : Fin 12) (bs : List Block)
  /-- RD_RESP (R246): A MGMT RD_RESP is received and completes a read, command check or reconciliation read. -/
  | rdResp (dt : Nat) (port : Fin 12) (bs : List Block)
  /-- WR_REQ (R246): A MGMT WR_REQ frame is received and its words are written. -/
  | wrReq (dt : Nat) (port : Fin 12) (bs : List Block) (w : WrIn)
  /-- WR_ACK (R246): A MGMT WR_ACK is received and completes a write. -/
  | wrAck (dt : Nat) (port : Fin 12) (bs : List Block)
  /-- ACK (R247): A MGMT ACK frees an acknowledged frame at its sender. -/
  | ack (dt : Nat) (port : Fin 12) (bs : List Block)
  /-- NAK (R246): A MGMT NAK reports a refused frame, including busy with an update. -/
  | nak (dt : Nat) (port : Fin 12) (bs : List Block)
  /-- MGMT_TIMEOUT (R247): An unacknowledged MGMT frame times out and is resent, or the destination fails. -/
  | mgmtTimeout (dt : Nat) (dest : Nat)
  /-- RESPONSE_TIMEOUT (R588): An acknowledged request gets no response in time and ends as on MGMT_FAIL. -/
  | responseTimeout (dt : Nat) (dest : Nat) (mseq : Nat)
  /-- ENROL_REQ (R252): A Spring receives an enrolment request, takes its position, replies and forwards it. -/
  | enrolReq (dt : Nat) (port : Fin 2) (bs : List Block)
  /-- ENROL_REPLY (R253): A Basin receives an enrolment reply and enrols the Spring or sees its restart. -/
  | enrolReply (dt : Nat) (port : Fin 12) (bs : List Block)
  /-- ENROL_MISMATCH (R253): 1 ms after enrolment some positions are still silent. -/
  | enrolMismatch (dt : Nat) (chain : Fin 12)
  /-- LINK_REPORT (R257): A LINK_REPORT is received and feeds the chain-loss vote. -/
  | linkReport (dt : Nat) (port : Fin 12) (bs : List Block)
  /-- FAR_REPORT (R258): A FAR_REPORT is received and feeds ECHO and FAR_FIRST. -/
  | farReport (dt : Nat) (port : Fin 12) (bs : List Block)
  /-- TABLE_CHUNK_BEGIN (R515): A push BEGIN opens a pushed image and makes the Spring busy. -/
  | tableChunkBegin (dt : Nat) (port : Fin 2) (bs : List Block)
  /-- TABLE_CHUNK_DATA (R515): A push DATA chunk stores image bytes. -/
  | tableChunkData (dt : Nat) (port : Fin 2) (bs : List Block)
  /-- TABLE_CHUNK_END (R515): A push END makes the Spring check the image and answer RESULT. -/
  | tableChunkEnd (dt : Nat) (port : Fin 2) (bs : List Block)
  /-- TABLE_CHUNK_COMMIT (R516): A push COMMIT names the boundary at which the staged image applies. -/
  | tableChunkCommit (dt : Nat) (port : Fin 2) (bs : List Block)
  /-- TABLE_CHUNK_ABANDON (R515): A push ABANDON drops the staged image. -/
  | tableChunkAbandon (dt : Nat) (port : Fin 2) (bs : List Block)
  /-- TABLE_CHUNK_RESULT (R515): The Basin receives a Spring's push RESULT. -/
  | tableChunkResult (dt : Nat) (port : Fin 12) (bs : List Block)
  /-- RECORD (R476): A MGMT RECORD frame carries staged event or ledger records to the Basin for commit. -/
  | record (dt : Nat) (port : Fin 12) (bs : List Block)
  /-- HEALTH (R393): A HEALTH frame is received from the other Basin and kept in RED_PEER. -/
  | health (dt : Nat) (port : Fin 12) (bs : List Block)
  /-- HEALTH_SEND (R393): Every 100 ms (1 ms while electing) a Basin sends its HEALTH frame. -/
  | healthSend (dt : Nat)
  /-- PEER_LOST (R393): No HEALTH frame arrives for 300 ms. -/
  | peerLost (dt : Nat)
  /-- ELECT_TIMEOUT (R383): ELECT_TMO passes with no frame from the other Basin and it becomes ACTIVE. -/
  | electTimeout (dt : Nat)
  /-- HEARTBEAT (R384): A Basin receives a TICK frame: it counts a heartbeat, compares shadow slots, relays it or demotes itself. -/
  | heartbeat (dt : Nat) (port : Fin 12) (bs : List Block)
  /-- HB_MISS (R384): No heartbeat arrives by T(j) + WAIT; at the third miss the standby takes over. -/
  | hbMiss (dt : Nat)
  /-- HOST_TAKEOVER (R386): A write of 1 to RED_CTRL.TAKEOVER makes a fit standby take over. -/
  | hostTakeover
  /-- BIST_SEGMENT (R392): A standby tests one 4 KB SRAM segment every INT ms. -/
  | bistSegment (dt : Nat) (bad : Option Nat) (tested : Nat) (failing : Nat)
  /-- ECC_CORRECTED (R394): The scrubber or an access corrects an SRAM error and writes it back. -/
  | eccCorrected (dt : Nat) (bank : Fin 6) (row : Nat)
  /-- SRAM_UNCORR (R395): An uncorrectable SRAM error fails a Basin or warm-resets a Spring. -/
  | sramUncorr (dt : Nat) (bank : Fin 6) (row : Nat)
  /-- VAON_FEED_LOST (R397): A VAON feed stays below its level for 10 µs. -/
  | vaonFeedLost (dt : Nat) (feed : Fin 2)
  /-- VAON_FEED_OK (R397): A VAON feed stays above its level for 10 ms. -/
  | vaonFeedOk (dt : Nat) (feed : Fin 2)
  /-- VOTE_EXCLUDED (R398): A channel dissents for 100 ms and is excluded from its group. -/
  | voteExcluded (dt : Nat) (g : Fin 14)
  /-- DEGRADED_WARN (R399): A degraded group is one hour from DEGRADED_MAX. -/
  | degradedWarn (dt : Nat) (g : Fin 15)
  /-- DEGRADED_EXPIRED (R399): A group reaches DEGRADED_MAX; the station is de-energised or the Spring withdrawn. -/
  | degradedExpired (dt : Nat) (g : Fin 15)
  /-- VOTE_RESTORE (R400): A write to RED_VOTE_RST readmits an excluded channel or is refused. -/
  | voteRestore (dt : Nat) (v : Word)
  /-- TRAIN (R249): A TRAIN ordered set is received and drives the port toward UP or out of IDLE. -/
  | train (dt : Nat) (port : Fin 12) (v : Nat)
  /-- TRAIN_RETRY (R249): A port not UP 10 µs after a burst sends another burst. -/
  | trainRetry (dt : Nat) (port : Fin 12)
  /-- EI_ENTER (R250): A valid EI_ENTER is received and the following silence counts as announced idle. -/
  | eiEnter (dt : Nat) (port : Fin 12) (v : Nat)
  /-- LINK_LOSS (R255): A port loses block lock or sees no transitions and enters DOWN. -/
  | linkLoss (dt : Nat) (port : Fin 12) (cause : Fin 2) (hdrs : Nat)
  /-- CLK_FALLBACK (R256): A receive clock lane fails and the port switches to the recovered clock. -/
  | clkFallback (dt : Nat) (port : Fin 12)
  /-- CLK_RESTORE (R256): A write of CLK_RESTORE returns a clean port to its forwarded clock. -/
  | clkRestore (port : Fin 12) (clean : Bool)
  /-- RETRAIN (R265): A write of RETRAIN sends a TRAIN burst and retrains the port. -/
  | retrain (port : Fin 12)
  /-- PORT_LEAVE_IDLE (R249): Setting LNK_PCTRL.EN takes a port out of IDLE and starts training. -/
  | portLeaveIdle (port : Fin 12)
  /-- PRBS_GEN (R251): Setting or clearing LNK_PRBS_CTRL.GEN starts PRBS or training. -/
  | prbsGen (port : Fin 12) (gen : Bool) (errs : Nat)
  /-- PRBS_CLEAR (R265): A write of CLR clears the PRBS counters. -/
  | prbsClear (port : Fin 12) (errs : Nat)
  /-- FRAME_FORWARD (R244): A Spring forwards a received frame out of its other port block by block. -/
  | frameForward (dt : Nat) (port : Fin 2) (bs : List Block)
  /-- SYNC_INTERVAL (R254): Every SYNC interval a port sends a SYNC request. -/
  | syncInterval (dt : Nat) (port : Fin 12)
  /-- SYNC_REQUEST (R254): A SYNC request is received and answered with a response. -/
  | syncRequest (dt : Nat) (port : Fin 12) (bs : List Block) (ago : Nat)
  /-- SYNC_RESPONSE (R280): A SYNC response completes an exchange; the link delay and follower servo are updated. -/
  | syncResponse (dt : Nat) (port : Fin 12) (bs : List Block)
  /-- PPS_IN_EDGE (R274): A PPS_IN edge gives the master's servo a sample. -/
  | ppsInEdge (dt : Nat)
  /-- TIME_HOLDOVER (R277): No reference sample arrives in time and the servo enters HOLDOVER. -/
  | timeHoldover (dt : Nat)
  /-- TIME_ANCHOR (R270): Every ANCHOR_INT the master writes a periodic TIME_ANCHOR record. -/
  | timeAnchor (dt : Nat)
  /-- PPS_OUT (R278): TOD_NS passes 0 and PPS_OUT rises, or the pulse is skipped. -/
  | ppsOut (dt : Nat)
  /-- PPS_OUT_END (R278): PPS_OUT falls after WIDTH. -/
  | ppsOutEnd (dt : Nat)
  /-- TIME_STAMP_READ (R291): A read of TIME_STAMP latches the time registers. -/
  | timeStampRead (dt : Nat) (rq : Option HostRd)
  /-- PLL_HOLDOVER (R297): A PLL loses its reference and holds its tuning code. -/
  | pllHoldover (p : Pll) (cause : Nat)
  /-- PLL_REF_RETURN (R299): A reference qualifies and the PLL engages it by build-out or pull. -/
  | pllRefReturn (p : Pll) (src : Nat) (port : Nat) (jump : Int)
  /-- PLL_LOCKED (R301): A PLL has 256 samples within ±50 ps and is LOCKED. -/
  | pllLocked (p : Pll) (how : Nat) (us : Nat)
  /-- HOP_SLOT_STORE (R301): Every 1 ms a locked PLL stores its state into its hop slot. -/
  | hopSlotStore (dt : Nat) (p : Pll) (band : Nat) (med : Nat) (integ : Int)
  /-- PLL_UNLOCK (R302): The monitor finds a PLL off target; PLL-S moves to the safe clock and relocks. -/
  | pllUnlock (p : Pll) (cause : Nat)
  /-- SAFE_CLOCK_EXIT (R305): The DCO is within target for two windows and PLL-S outputs return to it. -/
  | safeClockExit
  /-- PLL_SEARCH_FAIL (R304): A full search ends without lock and restarts. -/
  | pllSearchFail (p : Pll) (band : Nat)
  /-- PLL_SEARCH (R304): A write of SEARCH starts a full search or is refused. -/
  | pllSearch (p : Pll) (v : Word)
  /-- SLOT_CLR (R303): A write of SLOT_CLR invalidates every hop slot of a PLL. -/
  | slotClr (p : Pll)
  /-- REF_SRC_WRITE (R300): A write of REF_SRC or PORT changes a PLL's source as a hop. -/
  | refSrcWrite (p : Pll) (v : Word)
  /-- REFCLK_BAD (R294): REFCLK shows no edge or is off frequency. -/
  | refclkBad (freq : Nat)
  /-- REFCLK_OK (R294): REFCLK has been good for 1 ms. -/
  | refclkOk (freq : Bool)
  /-- LOCKA_FAULT (R309): LOCK_A stays outside its window for 100 µs. -/
  | lockaFault (mv : Nat)
  /-- LOCKA_OK (R309): LOCK_A is back inside its window for 1 ms. -/
  | lockaOk (mv : Nat)
  /-- FPS_SAT (R310): A fine phase step waits for 1 ms. -/
  | fpsSat (waiting : Int) (net : Int)
  /-- SAFE_IN_CHANGE (R407): A filtered SAFE_IN change makes the vote demand and the Basin originates a station Weir. -/
  | safeInChange (dt : Nat) (filt : Fin 8) (raw : Fin 8)
  /-- GUARD_IN_CHANGE (R409): A filtered guard channel changes; the guard opens, closes or completes its test. -/
  | guardInChange (dt : Nat) (g : Fin 4)
  /-- GUARD_DISCREPANCY (R409): The guard channels differ for more than 100 ms. -/
  | guardDiscrepancy (dt : Nat)
  /-- SAFE_OUT_OFF (R416): OFF_DLY expires and both safety outputs switch off. -/
  | safeOutOff (dt : Nat)
  /-- OUT_EN (R415): A write of SAFE_CTRL.OUT_EN switches both safety outputs on when allowed. -/
  | outEn
  /-- HOST_OFF (R412): A write of SAFE_CTRL.OFF latches the cause HOST. -/
  | hostOff
  /-- SAFETY_LOCK (R426): A write of SAFE_CTRL.LOCK locks the safety configuration. -/
  | safetyLock
  /-- SAFETY_RELOCK_TIMEOUT (R426): 600 s without safety activity relock the configuration. -/
  | safetyRelockTimeout (dt : Nat)
  /-- AUTH_LOCKOUT_END (R424): The 60 s password lockout ends. -/
  | authLockoutEnd (dt : Nat)
  /-- SAFE_FB_CHANGE (R415): A safety readback changes and completes switch-on or a test pulse. -/
  | safeFbChange (dt : Nat) (hs : Bool) (ls : Bool)
  /-- SAFE_FB_FAULT (R417): A readback differs from its command for longer than FB_TMO. -/
  | safeFbFault (dt : Nat) (k : Fin 2)
  /-- TEST_PULSE_START (R418): Every 500 ms a safety output is pulsed off for 200 µs. -/
  | testPulseStart (dt : Nat)
  /-- TEST_PULSE_END (R418): A safety test pulse ends and is judged. -/
  | testPulseEnd (dt : Nat)
  /-- SAFE_OUT_DEGRADED (R420): No pulse of an output completes for 10 s. -/
  | safeOutDegraded (dt : Nat) (k : Fin 2)
  /-- SAFETY_PDU_TX (R433): Every TX_MS the Basin sends a status PDU. -/
  | safetyPduTx (dt : Nat)
  /-- SAFETY_PDU_RX (R434): A safety PDU is received and checked. -/
  | safetyPduRx (dt : Nat) (unit : Fin 4) (f : CanFrame)
  /-- PDU_TIMEOUT (R435): No valid PDU arrives within WD_MS. -/
  | pduTimeout (dt : Nat)
  /-- CAN_FRAME_RX (R454): A CAN frame is received, filtered, stored and passed to the pack decoder. -/
  | canFrameRx (dt : Nat) (n : Fin 4) (f : CanFrame) (ago : Nat) (exc : Bool) (tec : Fin 256) (rec : Fin 256)
  /-- BMS_STALE (R464): BMS_AGE exceeds STALE_MS and the BMS limits go to 0. -/
  | bmsStale (dt : Nat)
  /-- CAN_TXREQ (R456): Setting a TXREQ bit requests transmission of a buffer, or is refused. -/
  | canTxreq (dt : Nat) (n : Fin 4) (v : Word)
  /-- CAN_TX_DONE (R456): A buffer is sent successfully and an event entry may be written. -/
  | canTxDone (dt : Nat) (n : Fin 4) (ago : Nat) (tdcv : Option Nat) (tec : Fin 256) (rec : Fin 256)
  /-- CAN_TX_ATTEMPT_FAIL (R459): A transmission attempt ends in error, counted toward DUP_ID. -/
  | canTxAttemptFail (dt : Nat) (n : Fin 4) (ago : Nat) (bit : Bool) (lec : Fin 8) (dlec : Fin 8) (tdcv : Option Nat) (tec : Fin 256) (rec : Fin 256)
  /-- CAN_TXCAN (R458): Setting a TXCAN bit cancels a requested buffer. -/
  | canTxcan (dt : Nat) (n : Fin 4) (v : Word) (sof : Option Nat)
  /-- CAN_STATE (R443): A controller's error state changes. -/
  | canState (dt : Nat) (n : Fin 4) (st : Fin 3) (tec : Fin 256) (rec : Fin 256)
  /-- REC_REQ (R443): A write of REC_REQ starts bus-off recovery. -/
  | recReq (n : Fin 4)
  /-- BUS_OFF_RECOVERY (R443): 128 occurrences of 11 recessive bits complete bus-off recovery. -/
  | busOffRecovery (dt : Nat) (n : Fin 4)
  /-- CAN_INIT_CLEAR (R442): Clearing INIT checks the RAM partition and joins the bus. -/
  | canInitClear (n : Fin 4)
  /-- ELEMENT_LOCK (R450): A read of word 0 through a receive or TEF window locks the element. -/
  | elementLock (dt : Nat) (n : Fin 4) (w : Fin 4) (rq : Option HostRd)
  /-- ELEMENT_RELEASE (R450): A read of an element's last word releases and frees it. -/
  | elementRelease (n : Fin 4) (w : Fin 4) (rq : Option HostRd)
  /-- LOCK_TIMEOUT (R451): An element stays locked for LOCK_TMO and is released without freeing. -/
  | lockTimeout (dt : Nat) (n : Fin 4) (w : Fin 4)
  /-- REFERENCE_MESSAGE (R460): Every PERIOD ms the controller sends a reference message when the state allows. -/
  | referenceMessage (dt : Nat) (n : Fin 4)
  /-- PACK_REC_READ (R463): A read of CAN_PACK_REC0 latches the ten record words. -/
  | packRecRead
  /-- RECORD_COMMIT (R475): A staged record is programmed and verified in NOR, then streamed and asserts sources. -/
  | recordCommit (dt : Nat)
  /-- RATE_SUMMARY (R473): A code's bucket refills with a suppressed count pending and reports it. -/
  | rateSummary (dt : Nat) (code : Nat)
  /-- FREEZE_TIMEOUT (R478): FREEZE_MAX passes without LOG_THAW and the Basin thaws itself. -/
  | freezeTimeout (dt : Nat)
  /-- ERASE_FIRST (R480): A write of REC_CTRL.ERASE_FIRST erases FIRST. -/
  | eraseFirst
  /-- FORMAT (R493): A write of REC_CTRL.FORMAT erases the NOR and writes the default layout. -/
  | format
  /-- NOR_BLOCK_BAD (R494): A NOR program or erase fails, or a block wears out, and the block is retired and remapped. -/
  | norBlockBad (dt : Nat) (lb : Nat) (k : Nat) (cause : Fin 3)
  /-- NVM_SAG (R496): VDDIO or the VAON OR falls below 3.05 V and NOR programs and erases stop. -/
  | nvmSag (dt : Nat)
  /-- NVM_SAG_END (R496): Both supplies stay above 3.10 V for 10 ms and NOR work resumes. -/
  | nvmSagEnd (dt : Nat)
  /-- LEDGER_PERIODIC (R485): A ledger interval passes and a PERIODIC ledger record is staged. -/
  | ledgerPeriodic (dt : Nat)
  /-- E_IN_LATCH_READ (R498): A read of REC_E_IN_LO latches the four energy registers. -/
  | eInLatchRead
  /-- WITHDRAW (R101): SLU_CELL_CMD OP WITHDRAW requests withdrawal of a Spring. -/
  | withdraw (sp : Fin 256)
  /-- RETURN (R108): SLU_CELL_CMD OP RETURN makes a ready WITHDRAWN cell SPARE, or is rejected. -/
  | return (sp : Fin 256)
  /-- COMMANDED_EDGE (R112): Between tick boundaries the edge generator places a commanded on or off edge from the carrier crossing, the DAB waveform or a commissioning pulse, and dead time acts on it. -/
  | commandedEdge (dt : Nat) (c : Fin 12) (sub : Fin 8)
  /-- BLOCK_LOCK (R239): A receiver finds 64 consecutive valid sync headers at one offset and gains block lock. -/
  | blockLock (dt : Nat) (port : Fin 12)
  /-- READY_INPUT_HIGH (R123): Both ready inputs of a half-bridge read high again and its RDY_OK bit sets. -/
  | readyInputHigh (n : Fin 6)
  /-- OCP_CHANNEL_CHANGE (R206): A filtered OCP channel changes between OK, TRIP and INVALID without the vote tripping, updating WEIR_OCP_STAT and the dissent timing. -/
  | ocpChannelChange (dt : Nat) (a : Fin 3) (b : Fin 3) (c : Fin 3)
  /-- SLOT_RELOCK_TIMEOUT (R302): A slot relock is not LOCKED within tSLOT and falls back to a full search. -/
  | slotRelockTimeout (p : Pll)
  /-- FIRST_FULL_SEARCH (R309): After PORST_N release, the first full search starts once LOCK_A has been inside its window for 1 ms, or at 10 ms. -/
  | firstFullSearch
  deriving DecidableEq, Repr

end Sys2Proof
end

