-- ==== Sys2Proof/Decode.lean ====
section
/-! DEFINITION. Decode.lean: the words the opcode table spells. The table gives no row any bits (its rows are events, frames, descriptors and register writes, whose
contents are operands), so no word spells a command. -/
namespace Sys2Proof

/-- The command that a word of `nbits` bits spells by the table's bits: none, for the table gives no row bits. -/
def decodeTableWord (_nbits _w : Nat) : Option Instr := none

end Sys2Proof
end

