-- ==== Sys2Proof/Config.lean ====
section
/-! DEFINITION. Config.lean: what one device's manufacture fixes (fuses) and the values the manual leaves open. None of them has a body: a statement about the model holds whatever they are. -/
namespace Sys2Proof.Config

/-- Fuse-held bits of the register at a BAR0 offset (ADCn_CALx, R187). Safe: any value. -/
opaque fuseWord : Nat → Word

/-- SRAM rows that the fuses name as bad, 65,536 times the bank plus the row (R396, RED_SRAM). Safe: any list. -/
opaque fusedRows : List Nat

/-- The epoch a Spring's always-on counter starts from after a power-on of that domain (R38, R524). Safe: any value. -/
opaque epochSeed : Nat

/-- Whether an inexact quotient (numerator, denominator) is taken up to the next step where a rule states a quotient, a product of fractions or a square
root and not its rounding (R62, R70, R222). Safe: either way. -/
opaque roundUp : Int → Int → Bool

/-- The device serial number from fuses (R253, R486). Safe: any value. -/
opaque serialNumber : Nat

/-- The PCI-SIG identifier of the manufacturer, from fuses (R316). Safe: any value. -/
opaque vendorId : Nat

/-- The bank a Spring's TBL_STATUS shows for a pushed image of a GEN: the push names none (R515, R519). Safe: any value. -/
opaque pushedBank : Nat → Nat

/-- The bytes of a device's 256-bit ledger key, fused and read by no one (R486, R489). Safe: any value. -/
opaque ledgerKey : Nat → Byte

/-- The amount in W, var or mV that 1.0 of a controller's input error or output stands for (R61, R86): the manual gives no scale. Safe: any value. -/
opaque gridBase : Nat → Nat

/-- Active power in W and reactive power in var (`true`) at the point of connection, from the six grid quantities of R185: the manual gives no formula (R42).
Safe: any value. -/
opaque gridPower : Bool → List Int → Int

/-- An arm's voltage reference in mV from the outputs of controllers 4 to 9 and the grid's angle: the manual names the transformation and does not give it (R42).
Safe: any value. -/
opaque armVoltage : Nat → List Int → Int → Int

/-- The power in W by which the zero-sequence injection of controller 9's output shifts an arm (R42, R85): the manual gives no formula. Safe: any value. -/
opaque armShift : Nat → Int → Int

/-- The number an event gives a cause, condition or field that the manual names without numbering it: by event code and the model's own order. Safe: any value. -/
opaque eventNumber : Nat → Nat → Nat

/-- Whether the time of day (seconds, nanoseconds) of a TICK header is valid (R283): its layout (R242) has no bit that says so. Safe: either way. -/
opaque todShown : Nat → Nat → Bool

/-- A byte (its place 0 to 31) of an event's payload, by code and the values its event table names in order: the tables give widths and places for few codes only
(R270, R229, R371, R429). Safe: any layout. -/
opaque payloadByte : Nat → List Nat → Nat → Byte

/-- The value at a place of the event table's list that a reader takes from a payload's 32 bytes, for a code whose table gives no places (R516, R520). Safe: any value. -/
opaque payloadValue : Nat → List Nat → Nat → Nat

/-- A free value: a value the manual leaves open, drawn under a fresh number. Safe: any value. -/
opaque freeWord : Nat → Word

end Sys2Proof.Config
end

