-- ==== Sys2Proof/Machine/EventCodes.lean ====
section
/-! DEFINITION. EventCodes.lean: the event codes, as the event tables of chapters 02 to 18 give them (R76, R111, R158, R188, R215, R234, R266, R292, R315, R346, R377, R402, R440, R468, R499, R520, R547). -/
namespace Sys2Proof.Ev

def STARTED : Nat := 0x0101
def WARM_RESET : Nat := 0x0102
def STARTUP_STEP : Nat := 0x0103
def STARTUP_FAIL : Nat := 0x0104
def RESET_STUCK : Nat := 0x0108
def RESET_RELEASED : Nat := 0x0109
def SWRST_REFUSED : Nat := 0x010A
def ENERGISE_REFUSED : Nat := 0x0110
def STATION_READY : Nat := 0x0111
def PRECHG_DONE : Nat := 0x0120
def PRECHG_FAIL : Nat := 0x0121
def PLL_LOCKED : Nat := 0x0201
def PLL_UNLOCK : Nat := 0x0202
def PLL_HOLDOVER : Nat := 0x0203
def PLL_REF_RETURN : Nat := 0x0204
def PLL_SEARCH_FAIL : Nat := 0x0205
def REFCLK_BAD : Nat := 0x0206
def REFCLK_OK : Nat := 0x0207
def CLK_CMD_REFUSED : Nat := 0x0208
def LOCKA_FAULT : Nat := 0x0210
def LOCKA_OK : Nat := 0x0211
def FPS_SAT : Nat := 0x0220
def LINK_UP : Nat := 0x0301
def LINK_DOWN : Nat := 0x0302
def LINK_IDLE : Nat := 0x0303
def CLK_FALLBACK : Nat := 0x0304
def CLK_RESTORED : Nat := 0x0305
def FWD_OVERFLOW : Nat := 0x0306
def ENROL_DONE : Nat := 0x0310
def ENROL_MISMATCH : Nat := 0x0311
def ENROL_REJECT : Nat := 0x0312
def POS_CONFLICT : Nat := 0x0313
def ENROL_REV : Nat := 0x0314
def PATH_SWAP : Nat := 0x0320
def PATH_RESTORE : Nat := 0x0321
def RELAY_NONE : Nat := 0x0322
def MGMT_FAIL : Nat := 0x0323
def TICK_LATE : Nat := 0x0330
def TOD_SET : Nat := 0x0401
def TOD_STEP : Nat := 0x0402
def EPOCH_INC : Nat := 0x0403
def TIME_ANCHOR : Nat := 0x0404
def STEP_BLOCKED : Nat := 0x0405
def TIME_STATE : Nat := 0x0410
def TIME_HOLDOVER : Nat := 0x0411
def TIME_LOADED : Nat := 0x0413
def ALIGN_OK : Nat := 0x0420
def ALIGN_LOST : Nat := 0x0421
def PPS_SKIPPED : Nat := 0x0422
def HB_TRIP : Nat := 0x0501
def HB_RESUMED : Nat := 0x0502
def HB_RESUME_HELD : Nat := 0x0503
def HB_LATCHED : Nat := 0x0504
def CONFLICT : Nat := 0x0510
def CELL_BLOCK : Nat := 0x0511
def BLOCK_CLEARED : Nat := 0x0513
def BYP_OPENED : Nat := 0x0530
def BYP_CLOSED : Nat := 0x0531
def BYP_OPEN_FAIL : Nat := 0x0532
def BYP_CLOSE_FAIL : Nat := 0x0533
def BYP_FB_CHANGE : Nat := 0x0534
def BYP_INTERLOCK : Nat := 0x0535
def PACK_CLOSED : Nat := 0x0540
def PACK_OPENED : Nat := 0x0541
def PACK_FAIL : Nat := 0x0542
def PACK_FB_CHANGE : Nat := 0x0543
def PACK_FORCED_OPEN : Nat := 0x0544
def CMD_REFUSED : Nat := 0x0550
def TEST_REJECTED : Nat := 0x0551
def CAL_DONE : Nat := 0x0601
def CAL_FAIL : Nat := 0x0602
def TRIG_OVERRUN : Nat := 0x0610
def SEQ_RESTART : Nat := 0x0611
def ADC_OVR : Nat := 0x0620
def WIN_EXIT : Nat := 0x0630
def SYSCAL_DONE : Nat := 0x0640
def SYSCAL_REFUSED : Nat := 0x0641
def WEIR_SENT : Nat := 0x0701
def WEIR_OBEYED : Nat := 0x0702
def WEIR_MISS : Nat := 0x0703
def TICK_LOSS : Nat := 0x0704
def OCP_TRIP : Nat := 0x0705
def WEIR_BAD : Nat := 0x0706
def ARM_HOLD : Nat := 0x0710
def ARM_RELEASE : Nat := 0x0711
def STATION_BLOCK : Nat := 0x0712
def WEIR_ESCALATE : Nat := 0x0713
def WEIR_BUDGET_FAIL : Nat := 0x0714
def WEIR_REL_REFUSED : Nat := 0x0715
def DIE_HOT_WARN : Nat := 0x0801
def DIE_COLD_WARN : Nat := 0x0802
def DIE_COLD_LIMIT : Nat := 0x0803
def SENSOR_SUSPECT : Nat := 0x0810
def SENSOR_INVALID : Nat := 0x0811
def DIE_TEMP_INVALID : Nat := 0x0812
def THROTTLE_REQ : Nat := 0x0820
def THROTTLE_END : Nat := 0x0821
def THERMAL_SHUTDOWN : Nat := 0x0830
def SPRING_HOT_SHUT : Nat := 0x0831
def THERMAL_RESUME_REFUSED : Nat := 0x0832
def HS_WARN : Nat := 0x0840
def CLASS_SHORT : Nat := 0x0901
def CLASS_RESTORED : Nat := 0x0902
def DEMAND_REFUSED : Nat := 0x0903
def DEMAND_DELAYED : Nat := 0x0904
def CELL_WITHDRAWN : Nat := 0x0910
def SPARE_INSERT_START : Nat := 0x0911
def SPARE_INSERT_DONE : Nat := 0x0912
def SPARE_INSERT_FAIL : Nat := 0x0913
def SPARES_EXHAUSTED : Nat := 0x0914
def INSERT_OVER_CYCLE : Nat := 0x0915
def CELL_RETURNED_SPARE : Nat := 0x0916
def ARM_HEADROOM_LOW : Nat := 0x0917
def SLU_CMD_REJECTED : Nat := 0x0918
def WEIGHT_ZERO : Nat := 0x0919
def THROTTLE_ENFORCED : Nat := 0x091A
def CELL_STALE : Nat := 0x0940
def CELL_LOST : Nat := 0x0941
def CELL_RETURNED : Nat := 0x0942
def TICK_BUDGET_FAIL : Nat := 0x0943
def STATE_CHANGE : Nat := 0x0944
def TICK_CFG_REFUSED : Nat := 0x0945
def PCIE_LINK_UP : Nat := 0x0A01
def PCIE_LINK_DOWN : Nat := 0x0A02
def PCIE_FLR : Nat := 0x0A03
def DB_BAD : Nat := 0x0A10
def FETCH_ERR : Nat := 0x0A11
def CQ_FULL : Nat := 0x0A12
def INFLIGHT_FULL : Nat := 0x0A13
def STREAM_NOBUF : Nat := 0x0A14
def STREAM_GAP : Nat := 0x0A15
def HOST_WD_EXPIRED : Nat := 0x0A16
def FENCE_SET : Nat := 0x0A40
def FENCE_CLEARED : Nat := 0x0A41
def CMD_ABORTED_PATH : Nat := 0x0A42
def SPRING_RESTART_SEEN : Nat := 0x0A43
def CMD_REPLAYED : Nat := 0x0A44
def CMD_BUSY_EXPIRED : Nat := 0x0A45
def RECONCILE_DONE : Nat := 0x0A50
def RECONCILE_LO : Nat := 0x0A51
def RECONCILE_HI : Nat := 0x0A52
def TAKEOVER_ABORTS : Nat := 0x0A53
def PIPELINE_GAP : Nat := 0x0A54
def TAKEOVER : Nat := 0x0B01
def DEMOTED : Nat := 0x0B02
def HB_MISS : Nat := 0x0B03
def ELECTED : Nat := 0x0B04
def PEER_LOST : Nat := 0x0B05
def PEER_OK : Nat := 0x0B06
def SHADOW_DIVERGE : Nat := 0x0B10
def BIST_FAIL : Nat := 0x0B11
def SRAM_ROW_CANDIDATE : Nat := 0x0B12
def SRAM_UNCORR : Nat := 0x0B13
def SRAM_REPAIRED : Nat := 0x0B14
def SRAM_SPARES_LOW : Nat := 0x0B15
def VAON_FEED_LOST : Nat := 0x0B20
def VAON_FEED_OK : Nat := 0x0B21
def VOTE_EXCLUDED : Nat := 0x0B30
def VOTE_RESTORED : Nat := 0x0B31
def DEGRADED_EXPIRED : Nat := 0x0B32
def DEGRADED_WARN : Nat := 0x0B33
def VOTE_RESTORE_REFUSED : Nat := 0x0B34
def ISOLATED : Nat := 0x0B41
def TAKEOVER_INHIBITED : Nat := 0x0B42
def TAKEOVER_BUDGET_FAIL : Nat := 0x0B43
def SAFE_DEMAND : Nat := 0x0C01
def SAFE_OUT_OFF : Nat := 0x0C02
def SAFE_OUT_ON : Nat := 0x0C03
def SAFE_OUT_REFUSED : Nat := 0x0C04
def GUARD_TESTED : Nat := 0x0C10
def GUARD_DISCREPANCY : Nat := 0x0C11
def SAFE_FB_FAULT : Nat := 0x0C12
def TEST_NOT_COMPLETED : Nat := 0x0C13
def SAFE_OUT_DEGRADED : Nat := 0x0C14
def SAFETY_CHANGE : Nat := 0x0C20
def SAFETY_UNLOCKED : Nat := 0x0C21
def SAFETY_AUTH_FAIL : Nat := 0x0C22
def RWL_WRITE_DISCARDED : Nat := 0x0C23
def DEFAULT_PASSWORD : Nat := 0x0C24
def PDU_FAULT : Nat := 0x0C30
def PDU_RECOVERED : Nat := 0x0C31
def CAN_STATE : Nat := 0x0D01
def CAN_RAM_CFG_BAD : Nat := 0x0D05
def RX_LOST : Nat := 0x0D10
def LOCK_TIMEOUT : Nat := 0x0D11
def TX_REFUSED : Nat := 0x0D12
def TDC_FAIL : Nat := 0x0D13
def PROTOCOL_EXC : Nat := 0x0D20
def DUP_ID : Nat := 0x0D30
def PACK_FIRST : Nat := 0x0D40
def BMS_STALE : Nat := 0x0D41
def BMS_FRESH : Nat := 0x0D42
def PACK_ID_CHANGE : Nat := 0x0D43
def BMS_FIELD_SAT : Nat := 0x0D44
def BMS_ROW_SHORT : Nat := 0x0D45
def REC_LOST : Nat := 0x0E01
def RATE_SUMMARY : Nat := 0x0E02
def FREEZE_TIMEOUT : Nat := 0x0E03
def REC_STOPPED : Nat := 0x0E04
def FIRST_FULL : Nat := 0x0E05
def FIRST_ERASED : Nat := 0x0E06
def REC_CRC_BAD : Nat := 0x0E07
def SEQ_RESUMED : Nat := 0x0E08
def NOR_FORMATTED : Nat := 0x0E10
def NOR_FOREIGN : Nat := 0x0E11
def NOR_ABSENT : Nat := 0x0E12
def NOR_UNSUPPORTED : Nat := 0x0E13
def NOR_BLOCK_BAD : Nat := 0x0E14
def NOR_REMAP : Nat := 0x0E15
def NOR_SPARE_LOW : Nat := 0x0E16
def NOR_SPARES_EXHAUSTED : Nat := 0x0E17
def AREA_SHRUNK : Nat := 0x0E18
def NVM_SAG : Nat := 0x0E19
def LEDGER_UNAUTH_CLOSE : Nat := 0x0E20
def LEDGER_UNREAD_LOST : Nat := 0x0E21
def LEDGER_DROP : Nat := 0x0E22
def IMAGE_SELECTED : Nat := 0x0F01
def IMAGE_REFUSED : Nat := 0x0F02
def IMAGE_LOADED : Nat := 0x0F03
def NO_IMAGE : Nat := 0x0F04
def IMAGE_INVALID_BOOT : Nat := 0x0F05
def TABLE_SWAPPED : Nat := 0x0F10
def SWAP_REFUSED : Nat := 0x0F11
def PUSH_DONE : Nat := 0x0F20
def PUSH_FAIL : Nat := 0x0F21
def CONFIG_REFUSED : Nat := 0x0F22
def SPRING_SWAP_LATE : Nat := 0x0F23
def BANK_LOST : Nat := 0x0F30

end Sys2Proof.Ev

namespace Sys2Proof.Machine

/-- The number with which an event's payload gives the `i`-th of the cases its table names without numbering them: a value the manual leaves open. -/
def evNum (code i : Nat) : Nat := Config.eventNumber code i

end Sys2Proof.Machine
end

