-- ==== Sys2Proof/Machine/Operands.lean ====
section
/-! DEFINITION. Operands.lean: how bytes, fields and signed values of frames, descriptors, images and records are read and laid out
(R7, R8), and the check codes the manual computes over them (R240, R424, R486). -/
namespace Sys2Proof.Machine

/-- Little-endian value of a byte list (R8). -/
def leVal : List Nat → Nat
  | [] => 0
  | b :: t => b % 256 + 256 * leVal t

/-- `n` little-endian bytes of a value (R8). -/
def leBytes : Nat → Nat → List Nat
  | 0, _ => []
  | n + 1, v => v % 256 :: leBytes n (v / 256)

/-- `n` bytes of a list from position `i`, read little-endian. -/
def bytesAt (l : List Nat) (i n : Nat) : Nat := leVal ((l.drop i).take n)

/-- Bits `lo` up to `lo + w - 1` of a value (R7). -/
def bitsOf (v lo w : Nat) : Nat := (v >>> lo) % 2 ^ w

/-- One bit of a value (R7). -/
def bitOf (v i : Nat) : Bool := v.testBit i

/-- Two's complement value of the low `w` bits (R8). -/
def toSigned (w v : Nat) : Int :=
  let u := v % 2 ^ w
  if 2 * u < 2 ^ w then (u : Int) else (u : Int) - 2 ^ w

/-- The `w`-bit two's complement pattern of an integer. -/
def ofSigned (w : Nat) (v : Int) : Nat := (v % (2 ^ w : Int)).toNat

/-- An integer held within `w` signed bits. -/
def satSigned (w : Nat) (v : Int) : Int := max (-(2 ^ (w - 1) : Int)) (min v (2 ^ (w - 1) - 1))

/-- An integer clamped between two bounds. -/
def clampInt (lo hi v : Int) : Int := max lo (min v hi)

/-- A value as one bit. -/
def b2n (b : Bool) : Nat := if b then 1 else 0

/-- Difference of two short stamps read as signed 32-bit (R268). -/
def stampDiff (a b : Nat) : Int := toSigned 32 (a + 2 ^ 32 - b % 2 ^ 32)

/-- The set bits of a mask below `n`, lowest first. -/
def maskBits (n m : Nat) : List Nat := (List.range n).filter (fun i => m.testBit i)

/-- The mask whose set bits are the members of a list. -/
def bitsMask (l : List Nat) : Nat := l.foldl (fun m i => m ||| 2 ^ i) 0

/-- One bit step of the reflected CRC-32 of R240. -/
def crcBit (c : Nat) : Nat := if c % 2 = 1 then (c / 2) ^^^ 0xEDB88320 else c / 2

/-- One byte step of the CRC-32 of R240. -/
def crcByte (c b : Nat) : Nat := crcBit (crcBit (crcBit (crcBit (crcBit (crcBit (crcBit (crcBit (c ^^^ (b % 256)))))))))

/-- The CRC-32 of R240 over a byte list. -/
def crc32 (l : List Nat) : Nat := (l.foldl crcByte 0xFFFFFFFF) ^^^ 0xFFFFFFFF

/-! SHA-256 (FIPS 180-4), which R424 hashes the password with, and HMAC-SHA-256 (FIPS 198-1), which R486 tags ledger records with. Its constants are computed
from the primes they are defined by: no table of them stands here. -/

/-- The largest `r` below 2^n with r^k at most `v`, one bit at a time from the top. -/
def rootBits (k v : Nat) : Nat → Nat → Nat
  | 0, r => r
  | n + 1, r => rootBits k v n (if (r + 2 ^ n) ^ k ≤ v then r + 2 ^ n else r)

/-- The first 32 fraction bits of the k-th root of a number. -/
def rootFrac (k p : Nat) : Nat := rootBits k (p * 2 ^ (32 * k)) 37 0 % 2 ^ 32

/-- The 64 primes below 312. -/
def shaPrimes : List Nat := (List.range 312).filter (fun p => decide (2 ≤ p) && (List.range 18).all (fun d => d < 2 || p ≤ d || p % d != 0))

/-- A word turned right by `n` bits. -/
def turned (n x : Nat) : Nat := (x / 2 ^ n + x * 2 ^ (32 - n)) % 2 ^ 32

/-- The exclusive or of a word turned by each of three counts; the third is a shift where `sh` says so. -/
def spread (a b c : Nat) (sh : Bool) (x : Nat) : Nat := turned a x ^^^ turned b x ^^^ (if sh then x / 2 ^ c else turned c x)

/-- The eight working words of a hash. -/
structure Hash where
  a : Nat
  b : Nat
  c : Nat
  d : Nat
  e : Nat
  f : Nat
  g : Nat
  h : Nat
  deriving DecidableEq, Repr

/-- The words in order, and back. -/
def Hash.words (x : Hash) : List Nat := [x.a, x.b, x.c, x.d, x.e, x.f, x.g, x.h]
def hashOf (l : List Nat) : Hash :=
  ⟨l.getD 0 0, l.getD 1 0, l.getD 2 0, l.getD 3 0, l.getD 4 0, l.getD 5 0, l.getD 6 0, l.getD 7 0⟩

/-- One round with its constant and the schedule's word: where `e` has a 1 the choice is `f`, else `g`; the majority of `a`, `b`, `c`. -/
def Hash.round (x : Hash) (k w : Nat) : Hash :=
  let pick := (x.e &&& x.f) + ((2 ^ 32 - 1 - x.e) &&& x.g)
  let most := (x.a &&& (x.b ||| x.c)) ||| (x.b &&& x.c)
  let t := x.h + spread 6 11 25 false x.e + pick + k + w
  { a := (t + spread 2 13 22 false x.a + most) % 2 ^ 32, b := x.a, c := x.b, d := x.c, e := (x.d + t) % 2 ^ 32, f := x.e, g := x.f, h := x.g }

/-- The rounds of a block: `win` is the schedule's next sixteen words; the word used leaves it and the word sixteen later joins. -/
def Hash.rounds : List Nat → List Nat → Hash → Hash
  | [], _, x => x
  | k :: ks, win, x =>
    let w := fun i => win.getD i 0
    Hash.rounds ks (win.drop 1 ++ [(w 0 + spread 7 18 3 true (w 1) + w 9 + spread 17 19 10 true (w 14)) % 2 ^ 32]) (x.round k (w 0))

/-- A block of 64 bytes taken into the hash; its words are big-endian. -/
def Hash.block (ks : List Nat) (x : Hash) (bytes : List Nat) : Hash :=
  let win := (List.range 16).map (fun i => leVal ((bytes.drop (4 * i)).take 4).reverse)
  let y := Hash.rounds ks win x
  hashOf (List.zipWith (fun u v => (u + v) % 2 ^ 32) x.words y.words)

/-- `n` blocks of a message, one after another. -/
def Hash.blocks (ks : List Nat) : Nat → Hash → List Nat → Hash
  | 0, x, _ => x
  | n + 1, x, m => Hash.blocks ks n (x.block ks (m.take 64)) (m.drop 64)

/-- SHA-256 of a byte list, as 32 bytes. -/
def sha256 (m : List Nat) : List Nat :=
  let len := m.length
  let padded := m ++ [0x80] ++ List.replicate ((119 - len % 64) % 64) 0 ++ (leBytes 8 (8 * len)).reverse
  let start := hashOf ((shaPrimes.take 8).map (rootFrac 2))
  ((Hash.blocks (shaPrimes.map (rootFrac 3)) (padded.length / 64) start padded).words.map (fun w => (leBytes 4 w).reverse)).flatten

/-- HMAC-SHA-256 under a key of at most 64 bytes. -/
def hmacSha256 (key m : List Nat) : List Nat :=
  let k := key ++ List.replicate (64 - key.length) 0
  sha256 (k.map (· ^^^ 0x5C) ++ sha256 (k.map (· ^^^ 0x36) ++ m))

end Sys2Proof.Machine
end

