-- ==== Sys2Proof/Machine/RegMap.lean ====
section
/-! DEFINITION. RegMap.lean: the register map of BAR0, one row per register of the field maps of chapters 02 to 18
and of 20_register_index (R566), each field with its bits, access code (R10), reset (R12) and stated range. -/
namespace Sys2Proof.Machine

/-- A field of a register: the register's BAR0 offset, the field's lowest bit and its width (R7). -/
structure Fld where
  off : Nat
  lo : Nat
  w : Nat
  deriving DecidableEq, Repr

/-- The access codes of R10. -/
inductive Acc where
  | rw
  | ro
  | wo
  | w1c
  | w1s
  | rwl
  deriving DecidableEq, Repr

/-- One field row of a register's map: its bits, its code and the intervals its description allows (none: every value). -/
structure FldRow where
  lo : Nat
  w : Nat
  acc : Acc
  ok : List (Nat × Nat)
  deriving DecidableEq, Repr

/-- One register (or array of registers, with up to two strides) of the index: `role` 0 both, 1 Basin only, 2 Spring only. -/
structure RegRow where
  base : Nat
  s1 : Nat
  c1 : Nat
  s2 : Nat
  c2 : Nat
  role : Nat
  resetB : Nat
  resetS : Nat
  fields : List FldRow
  deriving DecidableEq, Repr

/-! The named fields: `F.<REGISTER>.<FIELD>`, as the field maps name them. -/
def F.CMN_IDENT.IDENT : Fld := ⟨0x0, 0, 32⟩
def F.CMN_REV.REV : Fld := ⟨0x4, 0, 32⟩
def F.CMN_STRAP.LIVE : Fld := ⟨0x8, 4, 4⟩
def F.CMN_STRAP.BOOT : Fld := ⟨0x8, 2, 2⟩
def F.CMN_STRAP.SIDE : Fld := ⟨0x8, 1, 1⟩
def F.CMN_STRAP.ROLE : Fld := ⟨0x8, 0, 1⟩
def F.CMN_RESET.CAUSE : Fld := ⟨0xC, 28, 4⟩
def F.CMN_RESET.BO_RAIL : Fld := ⟨0xC, 24, 4⟩
def F.CMN_RESET.SAFE_HOLD : Fld := ⟨0xC, 16, 1⟩
def F.CMN_RESET.WARM_CNT : Fld := ⟨0xC, 0, 16⟩
def F.CMN_PROG.FAIL : Fld := ⟨0x10, 4, 4⟩
def F.CMN_PROG.STEP : Fld := ⟨0x10, 0, 4⟩
def F.CMN_START_CFG.PRE_SRC : Fld := ⟨0x14, 16, 1⟩
def F.CMN_START_CFG.HOST_WAIT : Fld := ⟨0x14, 0, 6⟩
def F.CMN_PRECHG.STATE : Fld := ⟨0x18, 30, 2⟩
def F.CMN_PRECHG.V_DONE : Fld := ⟨0x18, 16, 12⟩
def F.CMN_PRECHG.RAMP : Fld := ⟨0x18, 8, 8⟩
def F.CMN_PRECHG.TMO : Fld := ⟨0x18, 0, 8⟩
def F.CMN_SUPPLY.SAG_CNT : Fld := ⟨0x1C, 16, 16⟩
def F.CMN_SUPPLY.SAG : Fld := ⟨0x1C, 0, 1⟩
def F.CMN_SWRST.KEY : Fld := ⟨0x20, 0, 8⟩
def F.CLK_PLLS_CTRL.SEARCH : Fld := ⟨0x1000, 31, 1⟩
def F.CLK_PLLS_CTRL.SLOT_CLR : Fld := ⟨0x1000, 30, 1⟩
def F.CLK_PLLS_CTRL.PORT : Fld := ⟨0x1000, 8, 4⟩
def F.CLK_PLLS_CTRL.REF_SRC : Fld := ⟨0x1000, 4, 2⟩
def F.CLK_PLLS_CTRL.PHASE_MODE : Fld := ⟨0x1000, 3, 1⟩
def F.CLK_PLLS_CTRL.BW : Fld := ⟨0x1000, 0, 3⟩
def F.CLK_PLLS_STAT.SLOT : Fld := ⟨0x1004, 20, 4⟩
def F.CLK_PLLS_STAT.PORT : Fld := ⟨0x1004, 16, 4⟩
def F.CLK_PLLS_STAT.SRC : Fld := ⟨0x1004, 12, 2⟩
def F.CLK_PLLS_STAT.ON_SAFE : Fld := ⟨0x1004, 11, 1⟩
def F.CLK_PLLS_STAT.REF_OK : Fld := ⟨0x1004, 10, 1⟩
def F.CLK_PLLS_STAT.STATE : Fld := ⟨0x1004, 0, 3⟩
def F.CLK_PLLL_CTRL.SEARCH : Fld := ⟨0x1008, 31, 1⟩
def F.CLK_PLLL_CTRL.SLOT_CLR : Fld := ⟨0x1008, 30, 1⟩
def F.CLK_PLLL_CTRL.REF_SRC : Fld := ⟨0x1008, 3, 1⟩
def F.CLK_PLLL_CTRL.BW : Fld := ⟨0x1008, 0, 3⟩
def F.CLK_PLLL_STAT.SLOT : Fld := ⟨0x100C, 20, 4⟩
def F.CLK_PLLL_STAT.PORT : Fld := ⟨0x100C, 16, 4⟩
def F.CLK_PLLL_STAT.SRC : Fld := ⟨0x100C, 12, 2⟩
def F.CLK_PLLL_STAT.ON_SAFE : Fld := ⟨0x100C, 11, 1⟩
def F.CLK_PLLL_STAT.REF_OK : Fld := ⟨0x100C, 10, 1⟩
def F.CLK_PLLL_STAT.STATE : Fld := ⟨0x100C, 0, 3⟩
def F.CLK_REF.BAD : Fld := ⟨0x1010, 1, 1⟩
def F.CLK_REF.FREQ : Fld := ⟨0x1010, 0, 1⟩
def F.CLK_PULL.RATE : Fld := ⟨0x1014, 0, 8⟩
def F.CLK_PHASE.VALUE : Fld := ⟨0x1018, 0, 32⟩
def F.CLK_BO.VALUE : Fld := ⟨0x101C, 0, 32⟩
def F.CLK_FPS.VALUE : Fld := ⟨0x1020, 0, 32⟩
def F.CLK_LOCKA.FAULT : Fld := ⟨0x1024, 31, 1⟩
def F.CLK_LOCKA.MV : Fld := ⟨0x1024, 0, 12⟩
def F.CLK_CNT.UNLOCK_S : Fld := ⟨0x1028, 24, 8⟩
def F.CLK_CNT.HOLD_S : Fld := ⟨0x1028, 16, 8⟩
def F.CLK_CNT.UNLOCK_L : Fld := ⟨0x1028, 8, 8⟩
def F.CLK_CNT.HOLD_L : Fld := ⟨0x1028, 0, 8⟩
def F.CLK_HOP.VALID (n : Nat) : Fld := ⟨0x1040 + 8 * n, 31, 1⟩
def F.CLK_HOP.SRC (n : Nat) : Fld := ⟨0x1040 + 8 * n, 29, 2⟩
def F.CLK_HOP.PORT (n : Nat) : Fld := ⟨0x1040 + 8 * n, 25, 4⟩
def F.CLK_HOP.BAND (n : Nat) : Fld := ⟨0x1040 + 8 * n, 19, 6⟩
def F.CLK_HOP.MED (n : Nat) : Fld := ⟨0x1040 + 8 * n, 10, 9⟩
def F.CLK_HOP2.INTEG (n : Nat) : Fld := ⟨0x1044 + 8 * n, 16, 16⟩
def F.CLK_HOP2.T_STORE (n : Nat) : Fld := ⟨0x1044 + 8 * n, 0, 16⟩
def F.CLK_LHOP.VALID (n : Nat) : Fld := ⟨0x1080 + 8 * n, 31, 1⟩
def F.CLK_LHOP.SRC (n : Nat) : Fld := ⟨0x1080 + 8 * n, 29, 2⟩
def F.CLK_LHOP.PORT (n : Nat) : Fld := ⟨0x1080 + 8 * n, 25, 4⟩
def F.CLK_LHOP.BAND (n : Nat) : Fld := ⟨0x1080 + 8 * n, 19, 6⟩
def F.CLK_LHOP.MED (n : Nat) : Fld := ⟨0x1080 + 8 * n, 10, 9⟩
def F.CLK_LHOP2.INTEG (n : Nat) : Fld := ⟨0x1084 + 8 * n, 16, 16⟩
def F.CLK_LHOP2.T_STORE (n : Nat) : Fld := ⟨0x1084 + 8 * n, 0, 16⟩
def F.TIME_CTRL.ANCHOR_INT : Fld := ⟨0x2000, 8, 4⟩
def F.TIME_CTRL.PPS_POL : Fld := ⟨0x2000, 7, 1⟩
def F.TIME_CTRL.PPS_EN : Fld := ⟨0x2000, 6, 1⟩
def F.TIME_CTRL.BACKSTEP_EN : Fld := ⟨0x2000, 5, 1⟩
def F.TIME_CTRL.STEP_EN : Fld := ⟨0x2000, 4, 1⟩
def F.TIME_CTRL.SRC : Fld := ⟨0x2000, 0, 2⟩
def F.TIME_STAMP.VALUE : Fld := ⟨0x2004, 0, 32⟩
def F.TIME_EXT_LO.VALUE : Fld := ⟨0x2008, 0, 32⟩
def F.TIME_EXT_HI.VALUE : Fld := ⟨0x200C, 0, 32⟩
def F.TIME_TOD_SEC_LO.VALUE : Fld := ⟨0x2010, 0, 32⟩
def F.TIME_TOD_SEC_HI.SEC_HI : Fld := ⟨0x2014, 0, 16⟩
def F.TIME_TOD_NS.TOD_VALID : Fld := ⟨0x2018, 31, 1⟩
def F.TIME_TOD_NS.NS : Fld := ⟨0x2018, 0, 30⟩
def F.TIME_STATUS.EPOCH : Fld := ⟨0x201C, 16, 16⟩
def F.TIME_STATUS.MHOP : Fld := ⟨0x201C, 8, 8⟩
def F.TIME_STATUS.UPPORT : Fld := ⟨0x201C, 4, 4⟩
def F.TIME_STATUS.TIME_OK : Fld := ⟨0x201C, 3, 1⟩
def F.TIME_STATUS.LOADED : Fld := ⟨0x201C, 2, 1⟩
def F.TIME_STATUS.STATE : Fld := ⟨0x201C, 0, 2⟩
def F.TIME_SERVO.SLEW_MAX : Fld := ⟨0x2020, 24, 8⟩
def F.TIME_SERVO.KP_SH : Fld := ⟨0x2020, 20, 4⟩
def F.TIME_SERVO.KI_SH : Fld := ⟨0x2020, 16, 4⟩
def F.TIME_SERVO.STEP_THR : Fld := ⟨0x2020, 0, 16⟩
def F.TIME_FREQ.VALUE : Fld := ⟨0x2024, 0, 32⟩
def F.TIME_ERR.VALUE : Fld := ⟨0x2028, 0, 32⟩
def F.TIME_OFS.VALUE : Fld := ⟨0x202C, 0, 32⟩
def F.TIME_ALIGN.GATE : Fld := ⟨0x2030, 16, 16⟩
def F.TIME_ALIGN.LIM : Fld := ⟨0x2030, 0, 16⟩
def F.TIME_PPS.ICOMP : Fld := ⟨0x2034, 16, 16⟩
def F.TIME_PPS.WIDTH : Fld := ⟨0x2034, 0, 9⟩
def F.TIME_CNT.OUTLIER : Fld := ⟨0x2038, 16, 16⟩
def F.TIME_CNT.PPS_SKIP : Fld := ⟨0x2038, 0, 16⟩
def F.TIME_ASYM.ASYM (n : Nat) : Fld := ⟨0x2040 + 4 * n, 0, 16⟩
def F.HIF_WD.ACT : Fld := ⟨0x4000, 16, 1⟩
def F.HIF_WD.TMO : Fld := ⟨0x4000, 0, 16⟩
def F.HIF_STATUS.LINK_UP : Fld := ⟨0x4004, 31, 1⟩
def F.HIF_STATUS.SPEED : Fld := ⟨0x4004, 28, 3⟩
def F.HIF_STATUS.WIDTH : Fld := ⟨0x4004, 25, 3⟩
def F.HIF_STATUS.INFLIGHT : Fld := ⟨0x4004, 0, 10⟩
def F.HIF_EVT_SEV.SEV : Fld := ⟨0x4008, 0, 4⟩
def F.HIF_DROP_CNT.COUNT : Fld := ⟨0x400C, 0, 32⟩
def F.HIF_DB_ERR.COUNT : Fld := ⟨0x4010, 0, 32⟩
def F.HIF_SQ_BASE_LO.ADDR (n : Nat) : Fld := ⟨0x4100 + 32 * n, 0, 32⟩
def F.HIF_SQ_BASE_HI.ADDR (n : Nat) : Fld := ⟨0x4104 + 32 * n, 0, 32⟩
def F.HIF_CQ_BASE_LO.ADDR (n : Nat) : Fld := ⟨0x4108 + 32 * n, 0, 32⟩
def F.HIF_CQ_BASE_HI.ADDR (n : Nat) : Fld := ⟨0x410C + 32 * n, 0, 32⟩
def F.HIF_QP_SIZE.CQ_SIZE (n : Nat) : Fld := ⟨0x4110 + 32 * n, 16, 13⟩
def F.HIF_QP_SIZE.SQ_SIZE (n : Nat) : Fld := ⟨0x4110 + 32 * n, 0, 13⟩
def F.HIF_QP_CFG.EN (n : Nat) : Fld := ⟨0x4114 + 32 * n, 31, 1⟩
def F.HIF_QP_CFG.TYPE (n : Nat) : Fld := ⟨0x4114 + 32 * n, 28, 1⟩
def F.HIF_QP_CFG.SOURCE (n : Nat) : Fld := ⟨0x4114 + 32 * n, 24, 2⟩
def F.HIF_QP_CFG.MAX_INFL (n : Nat) : Fld := ⟨0x4114 + 32 * n, 0, 10⟩
def F.HIF_QP_STAT.STATE (n : Nat) : Fld := ⟨0x4118 + 32 * n, 30, 2⟩
def F.HIF_QP_STAT.CQ_FULL (n : Nat) : Fld := ⟨0x4118 + 32 * n, 29, 1⟩
def F.HIF_QP_STAT.CQ_TAIL (n : Nat) : Fld := ⟨0x4118 + 32 * n, 16, 13⟩
def F.HIF_QP_STAT.NO_BUF (n : Nat) : Fld := ⟨0x4118 + 32 * n, 15, 1⟩
def F.HIF_QP_STAT.SQ_HEAD (n : Nat) : Fld := ⟨0x4118 + 32 * n, 0, 13⟩
def F.HIF_QP_STRM.DECIM (n : Nat) : Fld := ⟨0x411C + 32 * n, 20, 12⟩
def F.HIF_QP_STRM.SEV (n : Nat) : Fld := ⟨0x411C + 32 * n, 16, 4⟩
def F.HIF_QP_STRM.SPR_LAST (n : Nat) : Fld := ⟨0x411C + 32 * n, 8, 8⟩
def F.HIF_QP_STRM.SPR_FIRST (n : Nat) : Fld := ⟨0x411C + 32 * n, 0, 8⟩
def F.HIF_QP_COAL.FLUSH (n : Nat) : Fld := ⟨0x4300 + 16 * n, 20, 12⟩
def F.HIF_QP_COAL.TIME (n : Nat) : Fld := ⟨0x4300 + 16 * n, 8, 12⟩
def F.HIF_QP_COAL.COUNT (n : Nat) : Fld := ⟨0x4300 + 16 * n, 0, 8⟩
def F.HIF_QP_LOST.COUNT (n : Nat) : Fld := ⟨0x4304 + 16 * n, 0, 32⟩
def F.HIF_QP_INFL.COUNT (n : Nat) : Fld := ⟨0x4308 + 16 * n, 0, 32⟩
def F.HIF_EVT_MAP.EN0 (n : Nat) : Fld := ⟨0x4400 + 4 * n, 7, 1⟩
def F.HIF_EVT_MAP.VECTOR0 (n : Nat) : Fld := ⟨0x4400 + 4 * n, 0, 6⟩
def F.HIF_EVT_MAP.EN1 (n : Nat) : Fld := ⟨0x4400 + 4 * n, 15, 1⟩
def F.HIF_EVT_MAP.VECTOR1 (n : Nat) : Fld := ⟨0x4400 + 4 * n, 8, 6⟩
def F.HIF_EVT_MAP.EN2 (n : Nat) : Fld := ⟨0x4400 + 4 * n, 23, 1⟩
def F.HIF_EVT_MAP.VECTOR2 (n : Nat) : Fld := ⟨0x4400 + 4 * n, 16, 6⟩
def F.HIF_EVT_MAP.EN3 (n : Nat) : Fld := ⟨0x4400 + 4 * n, 31, 1⟩
def F.HIF_EVT_MAP.VECTOR3 (n : Nat) : Fld := ⟨0x4400 + 4 * n, 24, 6⟩
def F.HIF_EVT_STAT.PEND (n : Nat) : Fld := ⟨0x4500 + 4 * n, 0, 32⟩
def F.HIF_VEC_HOLD.HOLD (n : Nat) : Fld := ⟨0x4600 + 4 * n, 0, 10⟩
def F.HIF_ORD_CFG.REPLAY_MAX : Fld := ⟨0x4800, 8, 4⟩
def F.HIF_ORD_CFG.UPD_HOLD : Fld := ⟨0x4800, 0, 6⟩
def F.HIF_ORD_STAT.RECON_BUSY : Fld := ⟨0x4804, 31, 1⟩
def F.HIF_ORD_STAT.CHECKS : Fld := ⟨0x4804, 16, 8⟩
def F.HIF_ORD_STAT.FENCES : Fld := ⟨0x4804, 0, 12⟩
def F.HIF_FENCE.SQ (n : Nat) : Fld := ⟨0x4A00 + 4 * n, 0, 16⟩
def F.LNK_PCTRL.CLK_RESTORE (n : Nat) : Fld := ⟨0x8000 + 1024 * n, 3, 1⟩
def F.LNK_PCTRL.RETRAIN (n : Nat) : Fld := ⟨0x8000 + 1024 * n, 2, 1⟩
def F.LNK_PCTRL.RX_ON (n : Nat) : Fld := ⟨0x8000 + 1024 * n, 1, 1⟩
def F.LNK_PCTRL.EN (n : Nat) : Fld := ⟨0x8000 + 1024 * n, 0, 1⟩
def F.LNK_PSTAT.FACES_A (n : Nat) : Fld := ⟨0x8004 + 1024 * n, 7, 1⟩
def F.LNK_PSTAT.PEER_LOCKED (n : Nat) : Fld := ⟨0x8004 + 1024 * n, 6, 1⟩
def F.LNK_PSTAT.CDR (n : Nat) : Fld := ⟨0x8004 + 1024 * n, 5, 1⟩
def F.LNK_PSTAT.LOCK (n : Nat) : Fld := ⟨0x8004 + 1024 * n, 4, 1⟩
def F.LNK_PSTAT.STATE (n : Nat) : Fld := ⟨0x8004 + 1024 * n, 0, 3⟩
def F.LNK_HDR_ERR.COUNT (n : Nat) : Fld := ⟨0x8008 + 1024 * n, 0, 32⟩
def F.LNK_CRC_ERR.COUNT (n : Nat) : Fld := ⟨0x800C + 1024 * n, 0, 32⟩
def F.LNK_LOSS_CNT.COUNT (n : Nat) : Fld := ⟨0x8010 + 1024 * n, 0, 32⟩
def F.LNK_FWD_OVF.COUNT (n : Nat) : Fld := ⟨0x8014 + 1024 * n, 0, 32⟩
def F.LNK_MGMT_RETRY.COUNT (n : Nat) : Fld := ⟨0x8018 + 1024 * n, 0, 32⟩
def F.LNK_DELAY.DELAY (n : Nat) : Fld := ⟨0x801C + 1024 * n, 0, 32⟩
def F.LNK_PRBS_CTRL.CLR (n : Nat) : Fld := ⟨0x8020 + 1024 * n, 31, 1⟩
def F.LNK_PRBS_CTRL.CHK (n : Nat) : Fld := ⟨0x8020 + 1024 * n, 1, 1⟩
def F.LNK_PRBS_CTRL.GEN (n : Nat) : Fld := ⟨0x8020 + 1024 * n, 0, 1⟩
def F.LNK_PRBS_ERR.COUNT (n : Nat) : Fld := ⟨0x8024 + 1024 * n, 0, 32⟩
def F.LNK_PRBS_CNT.COUNT (n : Nat) : Fld := ⟨0x8028 + 1024 * n, 0, 32⟩
def F.LNK_SYNC_CFG.INT (n : Nat) : Fld := ⟨0x802C + 1024 * n, 0, 10⟩
def F.LNK_SYNC_T1_HI.STAMP (n : Nat) : Fld := ⟨0x8030 + 1024 * n, 0, 32⟩
def F.LNK_SYNC_T1_LO.STAMP (n : Nat) : Fld := ⟨0x8034 + 1024 * n, 0, 16⟩
def F.LNK_SYNC_T2_HI.STAMP (n : Nat) : Fld := ⟨0x8038 + 1024 * n, 0, 32⟩
def F.LNK_SYNC_T2_LO.STAMP (n : Nat) : Fld := ⟨0x803C + 1024 * n, 0, 16⟩
def F.LNK_SYNC_T3_HI.STAMP (n : Nat) : Fld := ⟨0x8040 + 1024 * n, 0, 32⟩
def F.LNK_SYNC_T3_LO.STAMP (n : Nat) : Fld := ⟨0x8044 + 1024 * n, 0, 16⟩
def F.LNK_SYNC_T4_HI.STAMP (n : Nat) : Fld := ⟨0x8048 + 1024 * n, 0, 32⟩
def F.LNK_SYNC_T4_LO.STAMP (n : Nat) : Fld := ⟨0x804C + 1024 * n, 0, 16⟩
def F.LNK_CHAIN.FAR_FIRST (n : Nat) : Fld := ⟨0xB000 + 4 * n, 24, 8⟩
def F.LNK_CHAIN.NEAR_LAST (n : Nat) : Fld := ⟨0xB000 + 4 * n, 16, 8⟩
def F.LNK_CHAIN.VOTE (n : Nat) : Fld := ⟨0xB000 + 4 * n, 12, 3⟩
def F.LNK_CHAIN.SWAPPED (n : Nat) : Fld := ⟨0xB000 + 4 * n, 10, 1⟩
def F.LNK_CHAIN.SECOND_PATH (n : Nat) : Fld := ⟨0xB000 + 4 * n, 9, 1⟩
def F.LNK_CHAIN.ENROLLED (n : Nat) : Fld := ⟨0xB000 + 4 * n, 8, 1⟩
def F.LNK_CHAIN.NSPR (n : Nat) : Fld := ⟨0xB000 + 4 * n, 0, 5⟩
def F.LNK_MGMT_CFG.RETRY : Fld := ⟨0xB040, 8, 4⟩
def F.LNK_MGMT_CFG.TMO : Fld := ⟨0xB040, 0, 8⟩
def F.LNK_SWAP_CFG.AUTO_RESTORE : Fld := ⟨0xB044, 17, 1⟩
def F.LNK_SWAP_CFG.AUTO_SWAP : Fld := ⟨0xB044, 16, 1⟩
def F.LNK_SWAP_CFG.RESTORE_DLY : Fld := ⟨0xB044, 0, 16⟩
def F.LNK_RELAY.ACTIVE : Fld := ⟨0xB048, 8, 1⟩
def F.LNK_RELAY.CHAIN : Fld := ⟨0xB048, 0, 4⟩
def F.LNK_SWAP_CNT.COUNT : Fld := ⟨0xB04C, 0, 32⟩
def F.LNK_SPOS.ENROLLED : Fld := ⟨0xB080, 31, 1⟩
def F.LNK_SPOS.A_PORT : Fld := ⟨0xB080, 16, 1⟩
def F.LNK_SPOS.INDEX : Fld := ⟨0xB080, 8, 8⟩
def F.LNK_SPOS.POSITION : Fld := ⟨0xB080, 0, 5⟩
def F.CTL_CTRL.STALE_MAX : Fld := ⟨0xC000, 0, 4⟩
def F.CTL_TICK_PERIOD.PERIOD : Fld := ⟨0xC004, 0, 15⟩
def F.CTL_GATHER_DL.DEADLINE : Fld := ⟨0xC008, 0, 15⟩
def F.CTL_TICK_NUM.TICK : Fld := ⟨0xC00C, 0, 32⟩
def F.CTL_STATUS.BUDGET_FAIL : Fld := ⟨0xC010, 6, 1⟩
def F.CTL_STATUS.TICK_RUN : Fld := ⟨0xC010, 5, 1⟩
def F.CTL_STATUS.STATE : Fld := ⟨0xC010, 0, 5⟩
def F.CTL_BUDGET.TLM_MARGIN : Fld := ⟨0xC014, 16, 16⟩
def F.CTL_BUDGET.CMD_MARGIN : Fld := ⟨0xC014, 0, 16⟩
def F.CTL_STALE_CNT.COUNT : Fld := ⟨0xC018, 0, 32⟩
def F.CTL_LOST_CNT.COUNT : Fld := ⟨0xC01C, 0, 32⟩
def F.CTL_LATE_CNT.COUNT : Fld := ⟨0xC020, 0, 32⟩
def F.CTL_APPLY_DEPTH.DEPTH : Fld := ⟨0xC024, 0, 10⟩
def F.CTL_HB_PER.PER : Fld := ⟨0xC040, 0, 24⟩
def F.CTL_DAB_PER.PER : Fld := ⟨0xC044, 0, 24⟩
def F.CTL_PULSE_MIN.MIN : Fld := ⟨0xC048, 0, 16⟩
def F.CTL_SPR_STATUS.TICK_LATE_CNT : Fld := ⟨0xC04C, 16, 16⟩
def F.CTL_SPR_STATUS.EPOCH : Fld := ⟨0xC04C, 8, 8⟩
def F.CTL_SPR_STATUS.MODE : Fld := ⟨0xC04C, 0, 8⟩
def F.CTL_SPR_TICK.TICK : Fld := ⟨0xC050, 0, 32⟩
def F.CTL_TLM_SEL.SEL3 : Fld := ⟨0xC054, 24, 8⟩
def F.CTL_TLM_SEL.SEL2 : Fld := ⟨0xC054, 16, 8⟩
def F.CTL_TLM_SEL.SEL1 : Fld := ⟨0xC054, 8, 8⟩
def F.CTL_TLM_SEL.SEL0 : Fld := ⟨0xC054, 0, 8⟩
def F.CTL_DAB_K.K_DAB : Fld := ⟨0xC058, 0, 32⟩
def F.CTL_DAB_LIM.SLEW : Fld := ⟨0xC05C, 16, 16⟩
def F.CTL_DAB_LIM.X_MAX : Fld := ⟨0xC05C, 0, 16⟩
def F.CTL_CMD_REC.RES (n : Nat) : Fld := ⟨0xC080 + 4 * n, 28, 4⟩
def F.CTL_CMD_REC.CNT (n : Nat) : Fld := ⟨0xC080 + 4 * n, 16, 12⟩
def F.CTL_CMD_REC.SEQ (n : Nat) : Fld := ⟨0xC080 + 4 * n, 0, 16⟩
def F.SLU_CTRL.STATUS_EN : Fld := ⟨0x10000, 2, 1⟩
def F.SLU_CTRL.TOPUP_EN : Fld := ⟨0x10000, 1, 1⟩
def F.SLU_CTRL.INSERT_EN : Fld := ⟨0x10000, 0, 1⟩
def F.SLU_TH_CAP.ENFORCED : Fld := ⟨0x10004, 31, 1⟩
def F.SLU_TH_CAP.CAP : Fld := ⟨0x10004, 0, 16⟩
def F.SLU_STORE_BAND.BAND : Fld := ⟨0x10008, 0, 32⟩
def F.SLU_INS_CFG.RSP_SEARCH : Fld := ⟨0x1000C, 16, 7⟩
def F.SLU_INS_CFG.TMO : Fld := ⟨0x1000C, 0, 16⟩
def F.SLU_RSP_WIN.WIN : Fld := ⟨0x10010, 0, 16⟩
def F.SLU_BMS_AGE_MAX.AGE : Fld := ⟨0x10014, 0, 16⟩
def F.SLU_BMS_WD_MASK.MASK : Fld := ⟨0x10018, 0, 16⟩
def F.SLU_CELL_CMD.OP : Fld := ⟨0x1001C, 8, 2⟩
def F.SLU_CELL_CMD.INDEX : Fld := ⟨0x1001C, 0, 8⟩
def F.SLU_ENTRY_STAT.WAITING : Fld := ⟨0x10020, 16, 7⟩
def F.SLU_ENTRY_STAT.IN_USE : Fld := ⟨0x10020, 0, 7⟩
def F.SLU_ARM_STAT.INS_BUSY (n : Nat) : Fld := ⟨0x10040 + 4 * n, 23, 1⟩
def F.SLU_ARM_STAT.HEADROOM_LOW (n : Nat) : Fld := ⟨0x10040 + 4 * n, 22, 1⟩
def F.SLU_ARM_STAT.SHORT (n : Nat) : Fld := ⟨0x10040 + 4 * n, 21, 1⟩
def F.SLU_ARM_STAT.SPARE (n : Nat) : Fld := ⟨0x10040 + 4 * n, 8, 8⟩
def F.SLU_ARM_STAT.ACTIVE (n : Nat) : Fld := ⟨0x10040 + 4 * n, 0, 8⟩
def F.SLU_ROLE.ROLE (n : Nat) : Fld := ⟨0x10080 + 4 * n, 0, 32⟩
def F.SLU_CLS.FRACTION (n : Nat) : Fld := ⟨0x100C0 + 4 * n, 16, 16⟩
def F.SLU_CLS.REASON (n : Nat) : Fld := ⟨0x100C0 + 4 * n, 8, 8⟩
def F.SLU_CLS.WHERE (n : Nat) : Fld := ⟨0x100C0 + 4 * n, 0, 8⟩
def F.SLU_INS_CNT.FAIL : Fld := ⟨0x100D0, 16, 16⟩
def F.SLU_INS_CNT.DONE : Fld := ⟨0x100D0, 0, 16⟩
def F.SLU_SHORT_CNT.COUNT : Fld := ⟨0x100D4, 0, 32⟩
def F.ADC_CTRL.CHAIN_UNIT (n : Nat) : Fld := ⟨0x14000 + 256 * n, 16, 2⟩
def F.ADC_CTRL.POLICY (n : Nat) : Fld := ⟨0x14000 + 256 * n, 15, 1⟩
def F.ADC_CTRL.LEN (n : Nat) : Fld := ⟨0x14000 + 256 * n, 8, 5⟩
def F.ADC_CTRL.TRIG_SRC (n : Nat) : Fld := ⟨0x14000 + 256 * n, 0, 4⟩
def F.ADC_TRIG_CFG.PERIOD (n : Nat) : Fld := ⟨0x14004 + 256 * n, 16, 16⟩
def F.ADC_TRIG_CFG.DELAY (n : Nat) : Fld := ⟨0x14004 + 256 * n, 0, 16⟩
def F.ADC_SWTRIG.GO (n : Nat) : Fld := ⟨0x14008 + 256 * n, 0, 1⟩
def F.ADC_STAT.CAL_BUSY (n : Nat) : Fld := ⟨0x1400C + 256 * n, 4, 1⟩
def F.ADC_STAT.CAL_OK (n : Nat) : Fld := ⟨0x1400C + 256 * n, 3, 1⟩
def F.ADC_STAT.CAL_FAIL (n : Nat) : Fld := ⟨0x1400C + 256 * n, 2, 1⟩
def F.ADC_STAT.PENDING (n : Nat) : Fld := ⟨0x1400C + 256 * n, 1, 1⟩
def F.ADC_STAT.RUNNING (n : Nat) : Fld := ⟨0x1400C + 256 * n, 0, 1⟩
def F.ADC_TRIG_CNT.COUNT (n : Nat) : Fld := ⟨0x14010 + 256 * n, 0, 32⟩
def F.ADC_TRIG_OVR.COUNT (n : Nat) : Fld := ⟨0x14014 + 256 * n, 0, 32⟩
def F.ADC_RUN_CNT.COUNT (n : Nat) : Fld := ⟨0x14018 + 256 * n, 0, 32⟩
def F.ADC_OVR_CNT.COUNT (n : Nat) : Fld := ⟨0x1401C + 256 * n, 0, 32⟩
def F.ADC_RESTART_CNT.COUNT (n : Nat) : Fld := ⟨0x14020 + 256 * n, 0, 32⟩
def F.ADC_CAL_SKIP.COUNT (n : Nat) : Fld := ⟨0x14024 + 256 * n, 0, 32⟩
def F.ADC_SEQ.SHIFT (n : Nat) (m : Nat) : Fld := ⟨0x14040 + 256 * n + 4 * m, 24, 4⟩
def F.ADC_SEQ.AVG (n : Nat) (m : Nat) : Fld := ⟨0x14040 + 256 * n + 4 * m, 20, 4⟩
def F.ADC_SEQ.SMP (n : Nat) (m : Nat) : Fld := ⟨0x14040 + 256 * n + 4 * m, 12, 8⟩
def F.ADC_SEQ.GAIN (n : Nat) (m : Nat) : Fld := ⟨0x14040 + 256 * n + 4 * m, 10, 2⟩
def F.ADC_SEQ.SYS (n : Nat) (m : Nat) : Fld := ⟨0x14040 + 256 * n + 4 * m, 9, 1⟩
def F.ADC_SEQ.INPUT (n : Nat) (m : Nat) : Fld := ⟨0x14040 + 256 * n + 4 * m, 0, 3⟩
def F.ADC_RES.FLAGS (n : Nat) (m : Nat) : Fld := ⟨0x14080 + 256 * n + 4 * m, 24, 8⟩
def F.ADC_RES.VALUE (n : Nat) (m : Nat) : Fld := ⟨0x14080 + 256 * n + 4 * m, 0, 24⟩
def F.ADC_CAL.HI (n : Nat) (m : Nat) : Fld := ⟨0x140C0 + 256 * n + 4 * m, 16, 16⟩
def F.ADC_CAL.LO (n : Nat) (m : Nat) : Fld := ⟨0x140C0 + 256 * n + 4 * m, 0, 16⟩
def F.ADC_WIN.EN (n : Nat) : Fld := ⟨0x14400 + 4 * n, 31, 1⟩
def F.ADC_WIN.HYST (n : Nat) : Fld := ⟨0x14400 + 4 * n, 28, 3⟩
def F.ADC_WIN.HIGH (n : Nat) : Fld := ⟨0x14400 + 4 * n, 16, 12⟩
def F.ADC_WIN.LOW (n : Nat) : Fld := ⟨0x14400 + 4 * n, 0, 12⟩
def F.ADC_WIN_STAT.OUT : Fld := ⟨0x14480, 0, 32⟩
def F.ADC_WIN_LATCH.OUT : Fld := ⟨0x14484, 0, 32⟩
def F.ADC_SYS_OFFSET.OFFSET (n : Nat) : Fld := ⟨0x14500 + 16 * n, 0, 32⟩
def F.ADC_SYS_GAIN.GAIN (n : Nat) : Fld := ⟨0x14504 + 16 * n, 0, 32⟩
def F.ADC_SYS_CFG.GAIN_SEL (n : Nat) : Fld := ⟨0x14508 + 16 * n, 1, 2⟩
def F.ADC_SYS_CFG.VALID (n : Nat) : Fld := ⟨0x14508 + 16 * n, 0, 1⟩
def F.ADC_MAP.OFST (n : Nat) : Fld := ⟨0x14700 + 8 * n, 16, 16⟩
def F.ADC_MAP.SRC (n : Nat) : Fld := ⟨0x14700 + 8 * n, 0, 8⟩
def F.ADC_MAP_SCALE.SCALE (n : Nat) : Fld := ⟨0x14704 + 8 * n, 0, 32⟩
def F.WEIR_CFG.HOLD_MIN : Fld := ⟨0x18000, 16, 8⟩
def F.WEIR_CFG.ESC_ARMS : Fld := ⟨0x18000, 12, 4⟩
def F.WEIR_CFG.ESC_MAX : Fld := ⟨0x18000, 8, 4⟩
def F.WEIR_CFG.STN_TRIP : Fld := ⟨0x18000, 2, 1⟩
def F.WEIR_CFG.AUTO_REL : Fld := ⟨0x18000, 0, 1⟩
def F.WEIR_ARM_MAX.MAX : Fld := ⟨0x18004, 0, 10⟩
def F.WEIR_HOLD_MAX.TICKS : Fld := ⟨0x18008, 0, 16⟩
def F.WEIR_ARM_STAT.STN_HOLD : Fld := ⟨0x1800C, 31, 1⟩
def F.WEIR_ARM_STAT.NOAUTO : Fld := ⟨0x1800C, 16, 12⟩
def F.WEIR_ARM_STAT.HELD : Fld := ⟨0x1800C, 0, 12⟩
def F.WEIR_REL.ARM : Fld := ⟨0x18010, 0, 12⟩
def F.WEIR_OCP_CFG.FLT : Fld := ⟨0x18014, 1, 2⟩
def F.WEIR_OCP_CFG.EN : Fld := ⟨0x18014, 0, 1⟩
def F.WEIR_OCP_STAT.EXCL : Fld := ⟨0x18018, 8, 3⟩
def F.WEIR_OCP_STAT.VOTE : Fld := ⟨0x18018, 7, 1⟩
def F.WEIR_OCP_STAT.STATE_C : Fld := ⟨0x18018, 4, 2⟩
def F.WEIR_OCP_STAT.STATE_B : Fld := ⟨0x18018, 2, 2⟩
def F.WEIR_OCP_STAT.STATE_A : Fld := ⟨0x18018, 0, 2⟩
def F.WEIR_TX_CNT.COUNT : Fld := ⟨0x18020, 0, 32⟩
def F.WEIR_RX_CNT.COUNT : Fld := ⟨0x18024, 0, 32⟩
def F.WEIR_CRC_CNT.COUNT : Fld := ⟨0x18028, 0, 32⟩
def F.WEIR_MISS_CNT.COUNT : Fld := ⟨0x1802C, 0, 32⟩
def F.WEIR_PATH.WORST (n : Nat) : Fld := ⟨0x18040 + 4 * n, 0, 16⟩
def F.WEIR_PATH_STN.WORST : Fld := ⟨0x18070, 0, 16⟩
def F.WEIR_SCFG.ARM_DAB : Fld := ⟨0x18080, 4, 1⟩
def F.WEIR_SCFG.ARM_ID : Fld := ⟨0x18080, 0, 4⟩
def F.WEIR_SSTAT.STN_HOLD : Fld := ⟨0x18084, 1, 1⟩
def F.WEIR_SSTAT.ARM_HOLD : Fld := ⟨0x18084, 0, 1⟩
def F.WEIR_HOLD_IN.STAMP : Fld := ⟨0x18088, 0, 32⟩
def F.WEIR_LAST.SCOPE : Fld := ⟨0x1808C, 30, 2⟩
def F.WEIR_LAST.ARM : Fld := ⟨0x1808C, 26, 4⟩
def F.WEIR_LAST.CAUSE : Fld := ⟨0x1808C, 22, 4⟩
def F.WEIR_LAST.ORIGIN : Fld := ⟨0x1808C, 14, 8⟩
def F.WEIR_LAST.SEQ : Fld := ⟨0x1808C, 6, 8⟩
def F.WEIR_STN_IN.STAMP : Fld := ⟨0x18090, 0, 32⟩
def F.THM_CTRL.SHUT_SAFE : Fld := ⟨0x1A000, 8, 1⟩
def F.THM_CTRL.HYST : Fld := ⟨0x1A000, 0, 4⟩
def F.THM_THR_CFG.CAP : Fld := ⟨0x1A004, 16, 16⟩
def F.THM_THR_CFG.GRACE : Fld := ⟨0x1A004, 0, 10⟩
def F.THM_STATUS.DIE_INVALID : Fld := ⟨0x1A008, 22, 1⟩
def F.THM_STATUS.SHUT : Fld := ⟨0x1A008, 21, 1⟩
def F.THM_STATUS.THR_CAUSE : Fld := ⟨0x1A008, 20, 1⟩
def F.THM_STATUS.COLD_LIMIT : Fld := ⟨0x1A008, 19, 1⟩
def F.THM_STATUS.COLD_WARN : Fld := ⟨0x1A008, 18, 1⟩
def F.THM_STATUS.HOT_WARN : Fld := ⟨0x1A008, 17, 1⟩
def F.THM_STATUS.THROTTLE : Fld := ⟨0x1A008, 16, 1⟩
def F.THM_STATUS.T_DIE : Fld := ⟨0x1A008, 0, 16⟩
def F.THM_SENS.REPLACED : Fld := ⟨0x1A00C, 24, 3⟩
def F.THM_SENS.INVALID : Fld := ⟨0x1A00C, 16, 5⟩
def F.THM_SENS.SUSPECT : Fld := ⟨0x1A00C, 8, 5⟩
def F.THM_SENS.IN_SERVICE : Fld := ⟨0x1A00C, 0, 5⟩
def F.THM_TS.VALUE (n : Nat) : Fld := ⟨0x1A020 + 4 * n, 0, 16⟩
def F.THM_HS_MAP.OFST : Fld := ⟨0x1A040, 16, 16⟩
def F.THM_HS_MAP.SRC : Fld := ⟨0x1A040, 0, 8⟩
def F.THM_HS_MAP_SCALE.SCALE : Fld := ⟨0x1A044, 0, 32⟩
def F.THM_HS_WARN.LIM : Fld := ⟨0x1A048, 0, 16⟩
def F.THM_RATING.P_RATED : Fld := ⟨0x1A04C, 0, 16⟩
def F.THM_HOT_SPR.COUNT : Fld := ⟨0x1A050, 24, 8⟩
def F.THM_HOT_SPR.INDEX : Fld := ⟨0x1A050, 16, 8⟩
def F.THM_HOT_SPR.T_MAX : Fld := ⟨0x1A050, 0, 16⟩
def F.THM_THR_CNT.COUNT : Fld := ⟨0x1A054, 0, 32⟩
def F.SAFE_CTRL.OFF : Fld := ⟨0x1C000, 31, 1⟩
def F.SAFE_CTRL.OUT_EN : Fld := ⟨0x1C000, 30, 1⟩
def F.SAFE_CTRL.LOCK : Fld := ⟨0x1C000, 29, 1⟩
def F.SAFE_CTRL.TEST_EN : Fld := ⟨0x1C000, 0, 1⟩
def F.SAFE_CFG.FB_TMO : Fld := ⟨0x1C004, 16, 8⟩
def F.SAFE_CFG.OFF_DLY : Fld := ⟨0x1C004, 0, 5⟩
def F.SAFE_STAT.UNLOCKED : Fld := ⟨0x1C008, 31, 1⟩
def F.SAFE_STAT.LOCKOUT : Fld := ⟨0x1C008, 30, 1⟩
def F.SAFE_STAT.DEFAULT_PW : Fld := ⟨0x1C008, 29, 1⟩
def F.SAFE_STAT.OUT_DEGRADED : Fld := ⟨0x1C008, 28, 1⟩
def F.SAFE_STAT.GUARD_TESTED : Fld := ⟨0x1C008, 27, 1⟩
def F.SAFE_STAT.CAUSE : Fld := ⟨0x1C008, 16, 8⟩
def F.SAFE_STAT.FAILING : Fld := ⟨0x1C008, 8, 8⟩
def F.SAFE_STAT.FB_LS : Fld := ⟨0x1C008, 5, 1⟩
def F.SAFE_STAT.FB_HS : Fld := ⟨0x1C008, 4, 1⟩
def F.SAFE_STAT.LS : Fld := ⟨0x1C008, 3, 1⟩
def F.SAFE_STAT.HS : Fld := ⟨0x1C008, 2, 1⟩
def F.SAFE_STAT.OUT_ON : Fld := ⟨0x1C008, 1, 1⟩
def F.SAFE_STAT.DEMAND : Fld := ⟨0x1C008, 0, 1⟩
def F.SAFE_IN_STAT.GUARD : Fld := ⟨0x1C00C, 8, 2⟩
def F.SAFE_IN_STAT.RAW : Fld := ⟨0x1C00C, 4, 3⟩
def F.SAFE_IN_STAT.VOTE : Fld := ⟨0x1C00C, 3, 1⟩
def F.SAFE_IN_STAT.FILT : Fld := ⟨0x1C00C, 0, 3⟩
def F.SAFE_TEST.NOT_DONE : Fld := ⟨0x1C010, 16, 16⟩
def F.SAFE_TEST.SINCE : Fld := ⟨0x1C010, 8, 8⟩
def F.SAFE_TEST.NEXT : Fld := ⟨0x1C010, 0, 1⟩
def F.SAFE_CRC.CRC : Fld := ⟨0x1C014, 0, 32⟩
def F.SAFE_SUNLOCK.UNLOCK : Fld := ⟨0x1C018, 0, 1⟩
def F.SAFE_PDU_CFG.TX_EN : Fld := ⟨0x1C020, 31, 1⟩
def F.SAFE_PDU_CFG.RX_EN : Fld := ⟨0x1C020, 30, 1⟩
def F.SAFE_PDU_CFG.UNIT : Fld := ⟨0x1C020, 28, 2⟩
def F.SAFE_PDU_CFG.TX_MS : Fld := ⟨0x1C020, 16, 10⟩
def F.SAFE_PDU_CFG.RX_WD_MAX : Fld := ⟨0x1C020, 0, 16⟩
def F.SAFE_PDU_TXID.IDE : Fld := ⟨0x1C024, 31, 1⟩
def F.SAFE_PDU_TXID.ID : Fld := ⟨0x1C024, 0, 29⟩
def F.SAFE_PDU_RXID.IDE : Fld := ⟨0x1C028, 31, 1⟩
def F.SAFE_PDU_RXID.ID : Fld := ⟨0x1C028, 0, 29⟩
def F.SAFE_PDU_TXCONN.CONN : Fld := ⟨0x1C02C, 0, 32⟩
def F.SAFE_PDU_RXCONN.CONN : Fld := ⟨0x1C030, 0, 32⟩
def F.SAFE_PDU_CNT.FAULT : Fld := ⟨0x1C034, 16, 16⟩
def F.SAFE_PDU_CNT.DUP : Fld := ⟨0x1C034, 0, 16⟩
def F.CAN_CTRL.INIT (n : Nat) : Fld := ⟨0x1E000 + 2048 * n, 31, 1⟩
def F.CAN_CTRL.MODE (n : Nat) : Fld := ⟨0x1E000 + 2048 * n, 28, 3⟩
def F.CAN_CTRL.FDOE (n : Nat) : Fld := ⟨0x1E000 + 2048 * n, 27, 1⟩
def F.CAN_CTRL.BRSE (n : Nat) : Fld := ⟨0x1E000 + 2048 * n, 26, 1⟩
def F.CAN_CTRL.DAR (n : Nat) : Fld := ⟨0x1E000 + 2048 * n, 25, 1⟩
def F.CAN_CTRL.DUP_ABORT (n : Nat) : Fld := ⟨0x1E000 + 2048 * n, 24, 1⟩
def F.CAN_CTRL.AUTO_REC (n : Nat) : Fld := ⟨0x1E000 + 2048 * n, 23, 1⟩
def F.CAN_CTRL.RXF1_OW (n : Nat) : Fld := ⟨0x1E000 + 2048 * n, 22, 1⟩
def F.CAN_CTRL.RXF0_OW (n : Nat) : Fld := ⟨0x1E000 + 2048 * n, 21, 1⟩
def F.CAN_CTRL.REC_REQ (n : Nat) : Fld := ⟨0x1E000 + 2048 * n, 20, 1⟩
def F.CAN_CTRL.CFG_ERR (n : Nat) : Fld := ⟨0x1E000 + 2048 * n, 19, 1⟩
def F.CAN_CTRL.LOCK_TMO (n : Nat) : Fld := ⟨0x1E000 + 2048 * n, 0, 16⟩
def F.CAN_NBTP.NSJW (n : Nat) : Fld := ⟨0x1E004 + 2048 * n, 25, 7⟩
def F.CAN_NBTP.NTSEG1 (n : Nat) : Fld := ⟨0x1E004 + 2048 * n, 16, 9⟩
def F.CAN_NBTP.NTSEG2 (n : Nat) : Fld := ⟨0x1E004 + 2048 * n, 9, 7⟩
def F.CAN_NBTP.NBRP (n : Nat) : Fld := ⟨0x1E004 + 2048 * n, 0, 9⟩
def F.CAN_DBTP.TDC_EN (n : Nat) : Fld := ⟨0x1E008 + 2048 * n, 31, 1⟩
def F.CAN_DBTP.DBRP (n : Nat) : Fld := ⟨0x1E008 + 2048 * n, 16, 6⟩
def F.CAN_DBTP.DTSEG1 (n : Nat) : Fld := ⟨0x1E008 + 2048 * n, 11, 5⟩
def F.CAN_DBTP.DTSEG2 (n : Nat) : Fld := ⟨0x1E008 + 2048 * n, 6, 5⟩
def F.CAN_DBTP.DSJW (n : Nat) : Fld := ⟨0x1E008 + 2048 * n, 1, 5⟩
def F.CAN_TDCR.TDCV (n : Nat) : Fld := ⟨0x1E00C + 2048 * n, 16, 7⟩
def F.CAN_TDCR.TDCF (n : Nat) : Fld := ⟨0x1E00C + 2048 * n, 8, 7⟩
def F.CAN_TDCR.TDCO (n : Nat) : Fld := ⟨0x1E00C + 2048 * n, 0, 7⟩
def F.CAN_ECR.STATE (n : Nat) : Fld := ⟨0x1E010 + 2048 * n, 30, 2⟩
def F.CAN_ECR.LEC (n : Nat) : Fld := ⟨0x1E010 + 2048 * n, 27, 3⟩
def F.CAN_ECR.DLEC (n : Nat) : Fld := ⟨0x1E010 + 2048 * n, 24, 3⟩
def F.CAN_ECR.REC (n : Nat) : Fld := ⟨0x1E010 + 2048 * n, 16, 8⟩
def F.CAN_ECR.TEC (n : Nat) : Fld := ⟨0x1E010 + 2048 * n, 8, 8⟩
def F.CAN_GFC.ANFS (n : Nat) : Fld := ⟨0x1E014 + 2048 * n, 4, 2⟩
def F.CAN_GFC.ANFE (n : Nat) : Fld := ⟨0x1E014 + 2048 * n, 2, 2⟩
def F.CAN_GFC.RRFS (n : Nat) : Fld := ⟨0x1E014 + 2048 * n, 1, 1⟩
def F.CAN_GFC.RRFE (n : Nat) : Fld := ⟨0x1E014 + 2048 * n, 0, 1⟩
def F.CAN_RAMSF.COUNT (n : Nat) : Fld := ⟨0x1E020 + 2048 * n, 24, 8⟩
def F.CAN_RAMSF.BASE (n : Nat) : Fld := ⟨0x1E020 + 2048 * n, 0, 14⟩
def F.CAN_RAMXF.COUNT (n : Nat) : Fld := ⟨0x1E024 + 2048 * n, 24, 8⟩
def F.CAN_RAMXF.BASE (n : Nat) : Fld := ⟨0x1E024 + 2048 * n, 0, 14⟩
def F.CAN_RAMRX0.COUNT (n : Nat) : Fld := ⟨0x1E028 + 2048 * n, 24, 8⟩
def F.CAN_RAMRX0.BASE (n : Nat) : Fld := ⟨0x1E028 + 2048 * n, 0, 14⟩
def F.CAN_RAMRX1.COUNT (n : Nat) : Fld := ⟨0x1E02C + 2048 * n, 24, 8⟩
def F.CAN_RAMRX1.BASE (n : Nat) : Fld := ⟨0x1E02C + 2048 * n, 0, 14⟩
def F.CAN_RAMRXB.COUNT (n : Nat) : Fld := ⟨0x1E030 + 2048 * n, 24, 8⟩
def F.CAN_RAMRXB.BASE (n : Nat) : Fld := ⟨0x1E030 + 2048 * n, 0, 14⟩
def F.CAN_RAMTX.COUNT (n : Nat) : Fld := ⟨0x1E034 + 2048 * n, 24, 8⟩
def F.CAN_RAMTX.BASE (n : Nat) : Fld := ⟨0x1E034 + 2048 * n, 0, 14⟩
def F.CAN_RAMTEF.COUNT (n : Nat) : Fld := ⟨0x1E038 + 2048 * n, 24, 8⟩
def F.CAN_RAMTEF.BASE (n : Nat) : Fld := ⟨0x1E038 + 2048 * n, 0, 14⟩
def F.CAN_FIFO.RXF0_FULL (n : Nat) : Fld := ⟨0x1E040 + 2048 * n, 31, 1⟩
def F.CAN_FIFO.RXF1_FULL (n : Nat) : Fld := ⟨0x1E040 + 2048 * n, 30, 1⟩
def F.CAN_FIFO.TEF_FULL (n : Nat) : Fld := ⟨0x1E040 + 2048 * n, 29, 1⟩
def F.CAN_FIFO.TEF_FILL (n : Nat) : Fld := ⟨0x1E040 + 2048 * n, 16, 8⟩
def F.CAN_FIFO.RXF1_FILL (n : Nat) : Fld := ⟨0x1E040 + 2048 * n, 8, 8⟩
def F.CAN_FIFO.RXF0_FILL (n : Nat) : Fld := ⟨0x1E040 + 2048 * n, 0, 8⟩
def F.CAN_SEL.TXB (n : Nat) : Fld := ⟨0x1E044 + 2048 * n, 8, 5⟩
def F.CAN_SEL.RXB (n : Nat) : Fld := ⟨0x1E044 + 2048 * n, 0, 6⟩
def F.CAN_RXB_NEW0.BUF (n : Nat) : Fld := ⟨0x1E048 + 2048 * n, 0, 32⟩
def F.CAN_RXB_NEW1.BUF (n : Nat) : Fld := ⟨0x1E04C + 2048 * n, 0, 32⟩
def F.CAN_TXREQ.BUF (n : Nat) : Fld := ⟨0x1E050 + 2048 * n, 0, 32⟩
def F.CAN_TXCAN.BUF (n : Nat) : Fld := ⟨0x1E054 + 2048 * n, 0, 32⟩
def F.CAN_TXDONE.BUF (n : Nat) : Fld := ⟨0x1E058 + 2048 * n, 0, 32⟩
def F.CAN_CNT0.LOCK_TMO_CNT (n : Nat) : Fld := ⟨0x1E060 + 2048 * n, 16, 16⟩
def F.CAN_CNT0.RX_LOST (n : Nat) : Fld := ⟨0x1E060 + 2048 * n, 0, 16⟩
def F.CAN_CNT1.DUP_CNT (n : Nat) : Fld := ⟨0x1E064 + 2048 * n, 16, 16⟩
def F.CAN_CNT1.TX_REFUSED (n : Nat) : Fld := ⟨0x1E064 + 2048 * n, 0, 16⟩
def F.CAN_DUP.IDE (n : Nat) : Fld := ⟨0x1E068 + 2048 * n, 31, 1⟩
def F.CAN_DUP.ID (n : Nat) : Fld := ⟨0x1E068 + 2048 * n, 0, 29⟩
def F.CAN_REF.EN (n : Nat) : Fld := ⟨0x1E070 + 2048 * n, 31, 1⟩
def F.CAN_REF.IDE (n : Nat) : Fld := ⟨0x1E070 + 2048 * n, 30, 1⟩
def F.CAN_REF.ID (n : Nat) : Fld := ⟨0x1E070 + 2048 * n, 0, 29⟩
def F.CAN_REF_CFG.PERIOD (n : Nat) : Fld := ⟨0x1E074 + 2048 * n, 0, 16⟩
def F.CAN_PAGE.PAGE (n : Nat) : Fld := ⟨0x1E07C + 2048 * n, 0, 6⟩
def F.CAN_PACK_CFG.EN : Fld := ⟨0x1E0C0, 31, 1⟩
def F.CAN_PACK_CFG.PROFILE : Fld := ⟨0x1E0C0, 0, 3⟩
def F.CAN_PACK_STAT.VALID : Fld := ⟨0x1E0C4, 31, 1⟩
def F.CAN_PACK_STAT.STALE : Fld := ⟨0x1E0C4, 30, 1⟩
def F.CAN_PACK_STAT.FRESH : Fld := ⟨0x1E0C4, 16, 14⟩
def F.CAN_PACK_STAT.AGE : Fld := ⟨0x1E0C4, 0, 16⟩
def F.CAN_PACK_CNT.SAT : Fld := ⟨0x1E0C8, 31, 1⟩
def F.CAN_PACK_CNT.ROW_SHORT : Fld := ⟨0x1E0C8, 16, 15⟩
def F.CAN_PACK_CNT.COMPLETE : Fld := ⟨0x1E0C8, 0, 16⟩
def F.CAN_PACK_REC.WORD (n : Nat) : Fld := ⟨0x1E0D0 + 4 * n, 0, 32⟩
def F.REC_CTRL.FORMAT : Fld := ⟨0x20000, 31, 1⟩
def F.REC_CTRL.ERASE_FIRST : Fld := ⟨0x20000, 30, 1⟩
def F.REC_CFG.FREEZE_MAX : Fld := ⟨0x20004, 0, 10⟩
def F.REC_STATUS.STATE : Fld := ⟨0x20008, 29, 3⟩
def F.REC_STATUS.LEDGER_STAGED : Fld := ⟨0x20008, 16, 8⟩
def F.REC_STATUS.STAGED : Fld := ⟨0x20008, 0, 9⟩
def F.REC_SEQ.VALUE : Fld := ⟨0x2000C, 0, 32⟩
def F.REC_CEIL.VALUE : Fld := ⟨0x20010, 0, 32⟩
def F.REC_LSEQ.VALUE : Fld := ⟨0x20014, 0, 32⟩
def F.REC_LEDGER_RD.VALUE : Fld := ⟨0x20018, 0, 32⟩
def F.REC_LOST_CNT.COUNT : Fld := ⟨0x2001C, 0, 32⟩
def F.REC_SUPP_CNT.COUNT : Fld := ⟨0x20020, 0, 32⟩
def F.REC_ATTR_SEL.CODE : Fld := ⟨0x20024, 0, 16⟩
def F.REC_ATTR.JOURNAL : Fld := ⟨0x20028, 20, 1⟩
def F.REC_ATTR.SEV : Fld := ⟨0x20028, 16, 4⟩
def F.REC_ATTR.BURST : Fld := ⟨0x20028, 8, 8⟩
def F.REC_ATTR.RATE : Fld := ⟨0x20028, 0, 8⟩
def F.REC_ATTR_SUPP.SUPP : Fld := ⟨0x2002C, 0, 16⟩
def F.REC_NOR.DEVICES : Fld := ⟨0x20030, 30, 2⟩
def F.REC_NOR.TOTAL : Fld := ⟨0x20030, 0, 13⟩
def F.REC_NOR_SPARE.RESERVE : Fld := ⟨0x20034, 16, 16⟩
def F.REC_NOR_SPARE.LEFT : Fld := ⟨0x20034, 0, 16⟩
def F.REC_LEDGER_CFG.INT : Fld := ⟨0x20040, 0, 12⟩
def F.REC_E_IN_LO.VALUE : Fld := ⟨0x20044, 0, 32⟩
def F.REC_E_IN_HI.VALUE : Fld := ⟨0x20048, 0, 32⟩
def F.REC_E_OUT_LO.VALUE : Fld := ⟨0x2004C, 0, 32⟩
def F.REC_E_OUT_HI.VALUE : Fld := ⟨0x20050, 0, 32⟩
def F.REC_TENURE.OPEN : Fld := ⟨0x20054, 31, 1⟩
def F.REC_TENURE.RSEQ : Fld := ⟨0x20054, 0, 16⟩
def F.RED_CTRL.TAKEOVER : Fld := ⟨0x24000, 2, 1⟩
def F.RED_CTRL.HEALTH_EN : Fld := ⟨0x24000, 1, 1⟩
def F.RED_CTRL.AUTO : Fld := ⟨0x24000, 0, 1⟩
def F.RED_CLAIM.SIDE : Fld := ⟨0x24004, 19, 1⟩
def F.RED_CLAIM.ROLE : Fld := ⟨0x24004, 16, 3⟩
def F.RED_CLAIM.CLAIM : Fld := ⟨0x24004, 0, 16⟩
def F.RED_HB_CFG.WAIT : Fld := ⟨0x24008, 16, 16⟩
def F.RED_HB_CFG.ELECT_TMO : Fld := ⟨0x24008, 0, 10⟩
def F.RED_HB_STAT.MISS : Fld := ⟨0x2400C, 24, 8⟩
def F.RED_HB_STAT.LAST : Fld := ⟨0x2400C, 0, 24⟩
def F.RED_PEER.PEER_OK : Fld := ⟨0x24010, 31, 1⟩
def F.RED_PEER.ROLE : Fld := ⟨0x24010, 24, 3⟩
def F.RED_PEER.FIT : Fld := ⟨0x24010, 16, 8⟩
def F.RED_PEER.CLAIM : Fld := ⟨0x24010, 0, 16⟩
def F.RED_SHADOW_CFG.LIM : Fld := ⟨0x24014, 24, 8⟩
def F.RED_SHADOW_CFG.TOL_M : Fld := ⟨0x24014, 16, 8⟩
def F.RED_SHADOW_CFG.TOL_P : Fld := ⟨0x24014, 0, 16⟩
def F.RED_SHADOW_CNT.COUNT : Fld := ⟨0x24018, 0, 32⟩
def F.RED_BIST_CFG.EN : Fld := ⟨0x2401C, 16, 1⟩
def F.RED_BIST_CFG.INT : Fld := ⟨0x2401C, 0, 16⟩
def F.RED_BIST_STAT.FAIL : Fld := ⟨0x24020, 16, 16⟩
def F.RED_BIST_STAT.PASS : Fld := ⟨0x24020, 0, 16⟩
def F.RED_SRAM.PEND : Fld := ⟨0x24024, 16, 8⟩
def F.RED_SRAM.USED : Fld := ⟨0x24024, 8, 8⟩
def F.RED_SRAM.LEFT : Fld := ⟨0x24024, 0, 8⟩
def F.RED_ECC_CNT.COUNT : Fld := ⟨0x24028, 0, 32⟩
def F.RED_VAON.LOSS_CNT : Fld := ⟨0x2402C, 16, 16⟩
def F.RED_VAON.B_OK : Fld := ⟨0x2402C, 1, 1⟩
def F.RED_VAON.A_OK : Fld := ⟨0x2402C, 0, 1⟩
def F.RED_VOTE_CFG.DEGRADED_MAX : Fld := ⟨0x24030, 0, 7⟩
def F.RED_VOTE_RST.GROUP : Fld := ⟨0x24034, 0, 14⟩
def F.RED_VOTE.EXPIRED (n : Nat) : Fld := ⟨0x24040 + 4 * n, 31, 1⟩
def F.RED_VOTE.EXCL (n : Nat) : Fld := ⟨0x24040 + 4 * n, 24, 3⟩
def F.RED_VOTE.DEG_MIN (n : Nat) : Fld := ⟨0x24040 + 4 * n, 0, 16⟩
def F.RED_SPARE_SUM.SPENT : Fld := ⟨0x24080, 0, 10⟩
def F.GATE_CTRL.CONF_LATCH : Fld := ⟨0x28000, 8, 4⟩
def F.GATE_CTRL.TEST_EN : Fld := ⟨0x28000, 7, 1⟩
def F.GATE_CTRL.HB_EN : Fld := ⟨0x28000, 0, 6⟩
def F.GATE_FAULT_CFG.RDY_FLT : Fld := ⟨0x28004, 24, 8⟩
def F.GATE_FAULT_CFG.RDY_TMO : Fld := ⟨0x28004, 16, 8⟩
def F.GATE_FAULT_CFG.RETRY_MAX : Fld := ⟨0x28004, 12, 4⟩
def F.GATE_FAULT_CFG.RETRY_WIN : Fld := ⟨0x28004, 0, 10⟩
def F.GATE_STATUS.BLOCK : Fld := ⟨0x28008, 31, 1⟩
def F.GATE_STATUS.TEST_BUSY : Fld := ⟨0x28008, 30, 1⟩
def F.GATE_STATUS.LATCHED : Fld := ⟨0x28008, 24, 6⟩
def F.GATE_STATUS.TRIPPED : Fld := ⟨0x28008, 16, 6⟩
def F.GATE_STATUS.CONFLICT : Fld := ⟨0x28008, 8, 6⟩
def F.GATE_STATUS.RDY_OK : Fld := ⟨0x28008, 0, 6⟩
def F.GATE_TEST.GO : Fld := ⟨0x2800C, 31, 1⟩
def F.GATE_TEST.CH : Fld := ⟨0x2800C, 24, 4⟩
def F.GATE_TEST.T_GAP : Fld := ⟨0x2800C, 12, 12⟩
def F.GATE_TEST.T_ON2 : Fld := ⟨0x2800C, 0, 12⟩
def F.GATE_TEST_T.T_ON1 : Fld := ⟨0x28010, 0, 16⟩
def F.GATE_DT.DT (n : Nat) : Fld := ⟨0x28020 + 4 * n, 16, 15⟩
def F.GATE_DT.DT_FLOOR (n : Nat) : Fld := ⟨0x28020 + 4 * n, 0, 15⟩
def F.GATE_PROT.TSSD (n : Nat) : Fld := ⟨0x28040 + 4 * n, 24, 8⟩
def F.GATE_PROT.BLANK (n : Nat) : Fld := ⟨0x28040 + 4 * n, 16, 8⟩
def F.GATE_PROT.DESAT_FLT (n : Nat) : Fld := ⟨0x28040 + 4 * n, 8, 8⟩
def F.GATE_PROT.OC_SEL (n : Nat) : Fld := ⟨0x28040 + 4 * n, 0, 6⟩
def F.GATE_CNT.CONFLICT_CNT (n : Nat) : Fld := ⟨0x28060 + 4 * n, 16, 16⟩
def F.GATE_CNT.TRIP_CNT (n : Nat) : Fld := ⟨0x28060 + 4 * n, 0, 16⟩
def F.GATE_LAST.STAMP (n : Nat) : Fld := ⟨0x28080 + 4 * n, 0, 32⟩
def F.CELL_CTRL.FB_FLT : Fld := ⟨0x2C000, 12, 4⟩
def F.CELL_CTRL.ACT_BYP_EN : Fld := ⟨0x2C000, 2, 1⟩
def F.CELL_CTRL.PACK_FB_POL : Fld := ⟨0x2C000, 1, 1⟩
def F.CELL_CTRL.BYP_FB_POL : Fld := ⟨0x2C000, 0, 1⟩
def F.CELL_TMO.PACK_TMO : Fld := ⟨0x2C004, 16, 8⟩
def F.CELL_TMO.BYP_CLOSE_TMO : Fld := ⟨0x2C004, 8, 8⟩
def F.CELL_TMO.BYP_OPEN_TMO : Fld := ⟨0x2C004, 0, 8⟩
def F.CELL_PACK_LIM.PACK_DV : Fld := ⟨0x2C008, 16, 16⟩
def F.CELL_PACK_LIM.PACK_I_OPEN : Fld := ⟨0x2C008, 0, 16⟩
def F.CELL_STATUS.STATUS : Fld := ⟨0x2C00C, 0, 16⟩
def F.CELL_OPS.BYP_OPS : Fld := ⟨0x2C010, 16, 16⟩
def F.CELL_OPS.PACK_OPS : Fld := ⟨0x2C010, 0, 16⟩
def F.TBL_STATUS.PUSHING : Fld := ⟨0x30000, 29, 1⟩
def F.TBL_STATUS.STAGED : Fld := ⟨0x30000, 28, 1⟩
def F.TBL_STATUS.LOAD_OPEN : Fld := ⟨0x30000, 27, 1⟩
def F.TBL_STATUS.LOAD_BANK : Fld := ⟨0x30000, 26, 1⟩
def F.TBL_STATUS.VALID_B : Fld := ⟨0x30000, 25, 1⟩
def F.TBL_STATUS.VALID_A : Fld := ⟨0x30000, 24, 1⟩
def F.TBL_STATUS.IN_FORCE : Fld := ⟨0x30000, 16, 2⟩
def F.TBL_GEN_A.GEN : Fld := ⟨0x30004, 0, 32⟩
def F.TBL_GEN_B.GEN : Fld := ⟨0x30008, 0, 32⟩
def F.TBL_GEN.GEN : Fld := ⟨0x3000C, 0, 32⟩
def F.TBL_WIN_SEL.PAGE : Fld := ⟨0x30010, 8, 8⟩
def F.TBL_WIN_SEL.SECT : Fld := ⟨0x30010, 0, 8⟩

/-- Register rows of the block at 0x0. -/
def regRows0 : List RegRow := [
  -- CMN_IDENT
  ⟨0x0, 0, 1, 0, 1, 0, 0x4C579216, 0x4C579216, [⟨0, 32, .ro, []⟩]⟩,
  -- CMN_REV
  ⟨0x4, 0, 1, 0, 1, 0, 0xC0, 0xC0, [⟨0, 32, .ro, []⟩]⟩,
  -- CMN_STRAP
  ⟨0x8, 0, 1, 0, 1, 0, 0x0, 0x0, [⟨4, 4, .ro, []⟩, ⟨2, 2, .ro, []⟩, ⟨1, 1, .ro, []⟩, ⟨0, 1, .ro, []⟩]⟩,
  -- CMN_RESET
  ⟨0xC, 0, 1, 0, 1, 0, 0x0, 0x0, [⟨28, 4, .ro, []⟩, ⟨24, 4, .ro, []⟩, ⟨16, 1, .ro, []⟩, ⟨0, 16, .ro, []⟩]⟩,
  -- CMN_PROG
  ⟨0x10, 0, 1, 0, 1, 0, 0x2, 0x2, [⟨4, 4, .ro, []⟩, ⟨0, 4, .ro, []⟩]⟩,
  -- CMN_START_CFG
  ⟨0x14, 0, 1, 0, 1, 0, 0x0, 0x0, [⟨16, 1, .rw, []⟩, ⟨0, 6, .rw, [(0, 60)]⟩]⟩,
  -- CMN_PRECHG
  ⟨0x18, 0, 1, 0, 1, 2, 0x0, 0x0, [⟨30, 2, .ro, []⟩, ⟨16, 12, .rw, [(0, 1500)]⟩, ⟨8, 8, .rw, [(1, 255)]⟩, ⟨0, 8, .rw, [(1, 255)]⟩]⟩,
  -- CMN_SUPPLY
  ⟨0x1C, 0, 1, 0, 1, 0, 0x0, 0x0, [⟨16, 16, .ro, []⟩, ⟨0, 1, .ro, []⟩]⟩,
  -- CMN_SWRST
  ⟨0x20, 0, 1, 0, 1, 0, 0x0, 0x0, [⟨0, 8, .wo, []⟩]⟩]

/-- Register rows of the block at 0x1000, part 1. -/
def regRows1_0 : List RegRow := [
  -- CLK_PLLS_CTRL
  ⟨0x1000, 0, 1, 0, 1, 0, 0x1, 0xA, [⟨31, 1, .wo, []⟩, ⟨30, 1, .wo, []⟩, ⟨8, 4, .rw, [(0, 11)]⟩, ⟨4, 2, .rw, []⟩, ⟨3, 1, .rw, []⟩, ⟨0, 3, .rw, [(0, 4)]⟩]⟩,
  -- CLK_PLLS_STAT
  ⟨0x1004, 0, 1, 0, 1, 0, 0xF00800, 0xF00800, [⟨20, 4, .ro, []⟩, ⟨16, 4, .ro, []⟩, ⟨12, 2, .ro, []⟩, ⟨11, 1, .ro, []⟩, ⟨10, 1, .ro, []⟩, ⟨0, 3, .ro, []⟩]⟩,
  -- CLK_PLLL_CTRL
  ⟨0x1008, 0, 1, 0, 1, 0, 0x2, 0xA, [⟨31, 1, .wo, []⟩, ⟨30, 1, .wo, []⟩, ⟨3, 1, .rw, []⟩, ⟨0, 3, .rw, [(0, 4)]⟩]⟩,
  -- CLK_PLLL_STAT
  ⟨0x100C, 0, 1, 0, 1, 0, 0xF00000, 0xF00000, [⟨20, 4, .ro, []⟩, ⟨16, 4, .ro, []⟩, ⟨12, 2, .ro, []⟩, ⟨11, 1, .ro, []⟩, ⟨10, 1, .ro, []⟩, ⟨0, 3, .ro, []⟩]⟩,
  -- CLK_REF
  ⟨0x1010, 0, 1, 0, 1, 0, 0x2, 0x2, [⟨1, 1, .ro, []⟩, ⟨0, 1, .ro, []⟩]⟩,
  -- CLK_PULL
  ⟨0x1014, 0, 1, 0, 1, 0, 0xA, 0xA, [⟨0, 8, .rw, [(1, 100)]⟩]⟩,
  -- CLK_PHASE
  ⟨0x1018, 0, 1, 0, 1, 0, 0x0, 0x0, [⟨0, 32, .ro, []⟩]⟩,
  -- CLK_BO
  ⟨0x101C, 0, 1, 0, 1, 0, 0x0, 0x0, [⟨0, 32, .ro, []⟩]⟩,
  -- CLK_FPS
  ⟨0x1020, 0, 1, 0, 1, 0, 0x0, 0x0, [⟨0, 32, .ro, []⟩]⟩,
  -- CLK_LOCKA
  ⟨0x1024, 0, 1, 0, 1, 0, 0x0, 0x0, [⟨31, 1, .ro, []⟩, ⟨0, 12, .ro, []⟩]⟩,
  -- CLK_CNT
  ⟨0x1028, 0, 1, 0, 1, 0, 0x0, 0x0, [⟨24, 8, .ro, []⟩, ⟨16, 8, .ro, []⟩, ⟨8, 8, .ro, []⟩, ⟨0, 8, .ro, []⟩]⟩,
  -- CLK_HOP
  ⟨0x1040, 8, 8, 0, 1, 0, 0x0, 0x0, [⟨31, 1, .ro, []⟩, ⟨29, 2, .ro, []⟩, ⟨25, 4, .ro, []⟩, ⟨19, 6, .ro, []⟩, ⟨10, 9, .ro, []⟩]⟩,
  -- CLK_HOP2
  ⟨0x1044, 8, 8, 0, 1, 0, 0x8000, 0x8000, [⟨16, 16, .ro, []⟩, ⟨0, 16, .ro, []⟩]⟩,
  -- CLK_LHOP
  ⟨0x1080, 8, 8, 0, 1, 0, 0x0, 0x0, [⟨31, 1, .ro, []⟩, ⟨29, 2, .ro, []⟩, ⟨25, 4, .ro, []⟩, ⟨19, 6, .ro, []⟩, ⟨10, 9, .ro, []⟩]⟩]

/-- Register rows of the block at 0x1000, part 2. -/
def regRows1_1 : List RegRow := [
  -- CLK_LHOP2
  ⟨0x1084, 8, 8, 0, 1, 0, 0x8000, 0x8000, [⟨16, 16, .ro, []⟩, ⟨0, 16, .ro, []⟩]⟩]

def regRows1 : List RegRow := regRows1_0 ++ regRows1_1

/-- Register rows of the block at 0x2000, part 1. -/
def regRows2_0 : List RegRow := [
  -- TIME_CTRL
  ⟨0x2000, 0, 1, 0, 1, 0, 0xA10, 0xA10, [⟨8, 4, .rw, [(1, 10)]⟩, ⟨7, 1, .rw, []⟩, ⟨6, 1, .rw, []⟩, ⟨5, 1, .rw, []⟩, ⟨4, 1, .rw, []⟩, ⟨0, 2, .rw, [(0, 2)]⟩]⟩,
  -- TIME_STAMP
  ⟨0x2004, 0, 1, 0, 1, 0, 0x0, 0x0, [⟨0, 32, .ro, []⟩]⟩,
  -- TIME_EXT_LO
  ⟨0x2008, 0, 1, 0, 1, 0, 0x0, 0x0, [⟨0, 32, .ro, []⟩]⟩,
  -- TIME_EXT_HI
  ⟨0x200C, 0, 1, 0, 1, 0, 0x0, 0x0, [⟨0, 32, .ro, []⟩]⟩,
  -- TIME_TOD_SEC_LO
  ⟨0x2010, 0, 1, 0, 1, 0, 0x0, 0x0, [⟨0, 32, .ro, []⟩]⟩,
  -- TIME_TOD_SEC_HI
  ⟨0x2014, 0, 1, 0, 1, 0, 0x0, 0x0, [⟨0, 16, .ro, []⟩]⟩,
  -- TIME_TOD_NS
  ⟨0x2018, 0, 1, 0, 1, 0, 0x0, 0x0, [⟨31, 1, .ro, []⟩, ⟨0, 30, .ro, []⟩]⟩,
  -- TIME_STATUS
  ⟨0x201C, 0, 1, 0, 1, 0, 0xFFFFFFF0, 0xFFFFFFF0, [⟨16, 16, .ro, []⟩, ⟨8, 8, .ro, []⟩, ⟨4, 4, .ro, []⟩, ⟨3, 1, .ro, []⟩, ⟨2, 1, .ro, []⟩, ⟨0, 2, .ro, []⟩]⟩,
  -- TIME_SERVO
  ⟨0x2020, 0, 1, 0, 1, 0, 0x64480032, 0xA480032, [⟨24, 8, .rw, [(1, 200)]⟩, ⟨20, 4, .rw, []⟩, ⟨16, 4, .rw, []⟩, ⟨0, 16, .rw, []⟩]⟩,
  -- TIME_FREQ
  ⟨0x2024, 0, 1, 0, 1, 0, 0x0, 0x0, [⟨0, 32, .ro, []⟩]⟩,
  -- TIME_ERR
  ⟨0x2028, 0, 1, 0, 1, 0, 0x0, 0x0, [⟨0, 32, .ro, []⟩]⟩,
  -- TIME_OFS
  ⟨0x202C, 0, 1, 0, 1, 0, 0x0, 0x0, [⟨0, 32, .ro, []⟩]⟩,
  -- TIME_ALIGN
  ⟨0x2030, 0, 1, 0, 1, 0, 0x6400FA, 0x6400FA, [⟨16, 16, .rw, [(1, 10000)]⟩, ⟨0, 16, .rw, [(10, 10000)]⟩]⟩,
  -- TIME_PPS
  ⟨0x2034, 0, 1, 0, 1, 0, 0x64, 0x64, [⟨16, 16, .rw, []⟩, ⟨0, 9, .rw, [(1, 500)]⟩]⟩]

/-- Register rows of the block at 0x2000, part 2. -/
def regRows2_1 : List RegRow := [
  -- TIME_CNT
  ⟨0x2038, 0, 1, 0, 1, 0, 0x0, 0x0, [⟨16, 16, .ro, []⟩, ⟨0, 16, .ro, []⟩]⟩,
  -- TIME_ASYM
  ⟨0x2040, 4, 12, 0, 1, 0, 0x0, 0x0, [⟨0, 16, .rw, []⟩]⟩]

def regRows2 : List RegRow := regRows2_0 ++ regRows2_1

/-- Register rows of the block at 0x4000, part 1. -/
def regRows4_0 : List RegRow := [
  -- HIF_WD
  ⟨0x4000, 0, 1, 0, 1, 1, 0x0, 0x0, [⟨16, 1, .rw, []⟩, ⟨0, 16, .rw, []⟩]⟩,
  -- HIF_STATUS
  ⟨0x4004, 0, 1, 0, 1, 1, 0x0, 0x0, [⟨31, 1, .ro, []⟩, ⟨28, 3, .ro, []⟩, ⟨25, 3, .ro, []⟩, ⟨0, 10, .ro, []⟩]⟩,
  -- HIF_EVT_SEV
  ⟨0x4008, 0, 1, 0, 1, 1, 0x0, 0x0, [⟨0, 4, .rw, []⟩]⟩,
  -- HIF_DROP_CNT
  ⟨0x400C, 0, 1, 0, 1, 1, 0x0, 0x0, [⟨0, 32, .ro, []⟩]⟩,
  -- HIF_DB_ERR
  ⟨0x4010, 0, 1, 0, 1, 1, 0x0, 0x0, [⟨0, 32, .ro, []⟩]⟩,
  -- HIF_SQ_BASE_LO
  ⟨0x4100, 32, 16, 0, 1, 1, 0x0, 0x0, [⟨0, 32, .rw, []⟩]⟩,
  -- HIF_SQ_BASE_HI
  ⟨0x4104, 32, 16, 0, 1, 1, 0x0, 0x0, [⟨0, 32, .rw, []⟩]⟩,
  -- HIF_CQ_BASE_LO
  ⟨0x4108, 32, 16, 0, 1, 1, 0x0, 0x0, [⟨0, 32, .rw, []⟩]⟩,
  -- HIF_CQ_BASE_HI
  ⟨0x410C, 32, 16, 0, 1, 1, 0x0, 0x0, [⟨0, 32, .rw, []⟩]⟩,
  -- HIF_QP_SIZE
  ⟨0x4110, 32, 16, 0, 1, 1, 0x0, 0x0, [⟨16, 13, .rw, [(0, 0), (2, 4096)]⟩, ⟨0, 13, .rw, [(0, 0), (2, 4096)]⟩]⟩,
  -- HIF_QP_CFG
  ⟨0x4114, 32, 16, 0, 1, 1, 0x0, 0x0, [⟨31, 1, .rw, []⟩, ⟨28, 1, .rw, []⟩, ⟨24, 2, .rw, [(0, 2)]⟩, ⟨0, 10, .rw, [(0, 512)]⟩]⟩,
  -- HIF_QP_STAT
  ⟨0x4118, 32, 16, 0, 1, 1, 0x0, 0x0, [⟨30, 2, .ro, []⟩, ⟨29, 1, .ro, []⟩, ⟨16, 13, .ro, []⟩, ⟨15, 1, .ro, []⟩, ⟨0, 13, .ro, []⟩]⟩,
  -- HIF_QP_STRM
  ⟨0x411C, 32, 16, 0, 1, 1, 0x10BF00, 0x10BF00, [⟨20, 12, .rw, [(1, 4095)]⟩, ⟨16, 4, .rw, []⟩, ⟨8, 8, .rw, [(0, 191)]⟩, ⟨0, 8, .rw, [(0, 191)]⟩]⟩,
  -- HIF_QP_COAL
  ⟨0x4300, 16, 16, 0, 1, 1, 0x0, 0x0, [⟨20, 12, .rw, []⟩, ⟨8, 12, .rw, []⟩, ⟨0, 8, .rw, []⟩]⟩]

/-- Register rows of the block at 0x4000, part 2. -/
def regRows4_1 : List RegRow := [
  -- HIF_QP_LOST
  ⟨0x4304, 16, 16, 0, 1, 1, 0x0, 0x0, [⟨0, 32, .ro, []⟩]⟩,
  -- HIF_QP_INFL
  ⟨0x4308, 16, 16, 0, 1, 1, 0x0, 0x0, [⟨0, 32, .ro, []⟩]⟩,
  -- HIF_EVT_MAP
  ⟨0x4400, 4, 64, 0, 1, 1, 0x0, 0x0, [⟨7, 1, .rw, []⟩, ⟨0, 6, .rw, []⟩, ⟨15, 1, .rw, []⟩, ⟨8, 6, .rw, []⟩, ⟨23, 1, .rw, []⟩, ⟨16, 6, .rw, []⟩, ⟨31, 1, .rw, []⟩, ⟨24, 6, .rw, []⟩]⟩,
  -- HIF_EVT_STAT
  ⟨0x4500, 4, 8, 0, 1, 1, 0x0, 0x0, [⟨0, 32, .w1c, []⟩]⟩,
  -- HIF_VEC_HOLD
  ⟨0x4600, 4, 64, 0, 1, 1, 0x0, 0x0, [⟨0, 10, .rw, []⟩]⟩,
  -- HIF_ORD_CFG
  ⟨0x4800, 0, 1, 0, 1, 1, 0x408, 0x408, [⟨8, 4, .rw, [(1, 15)]⟩, ⟨0, 6, .rw, [(1, 63)]⟩]⟩,
  -- HIF_ORD_STAT
  ⟨0x4804, 0, 1, 0, 1, 1, 0x0, 0x0, [⟨31, 1, .ro, []⟩, ⟨16, 8, .ro, []⟩, ⟨0, 12, .ro, []⟩]⟩,
  -- HIF_FENCE
  ⟨0x4A00, 4, 192, 0, 1, 1, 0x0, 0x0, [⟨0, 16, .ro, []⟩]⟩]

def regRows4 : List RegRow := regRows4_0 ++ regRows4_1

/-- Register rows of the block at 0x8000, part 1. -/
def regRows8_0 : List RegRow := [
  -- LNK_PCTRL
  ⟨0x8000, 1024, 12, 0, 1, 0, 0x2, 0x2, [⟨3, 1, .wo, []⟩, ⟨2, 1, .wo, []⟩, ⟨1, 1, .rw, []⟩, ⟨0, 1, .rw, []⟩]⟩,
  -- LNK_PSTAT
  ⟨0x8004, 1024, 12, 0, 1, 0, 0x0, 0x0, [⟨7, 1, .ro, []⟩, ⟨6, 1, .ro, []⟩, ⟨5, 1, .ro, []⟩, ⟨4, 1, .ro, []⟩, ⟨0, 3, .ro, []⟩]⟩,
  -- LNK_HDR_ERR
  ⟨0x8008, 1024, 12, 0, 1, 0, 0x0, 0x0, [⟨0, 32, .ro, []⟩]⟩,
  -- LNK_CRC_ERR
  ⟨0x800C, 1024, 12, 0, 1, 0, 0x0, 0x0, [⟨0, 32, .ro, []⟩]⟩,
  -- LNK_LOSS_CNT
  ⟨0x8010, 1024, 12, 0, 1, 0, 0x0, 0x0, [⟨0, 32, .ro, []⟩]⟩,
  -- LNK_FWD_OVF
  ⟨0x8014, 1024, 12, 0, 1, 0, 0x0, 0x0, [⟨0, 32, .ro, []⟩]⟩,
  -- LNK_MGMT_RETRY
  ⟨0x8018, 1024, 12, 0, 1, 0, 0x0, 0x0, [⟨0, 32, .ro, []⟩]⟩,
  -- LNK_DELAY
  ⟨0x801C, 1024, 12, 0, 1, 0, 0x0, 0x0, [⟨0, 32, .ro, []⟩]⟩,
  -- LNK_PRBS_CTRL
  ⟨0x8020, 1024, 12, 0, 1, 0, 0x0, 0x0, [⟨31, 1, .wo, []⟩, ⟨1, 1, .rw, []⟩, ⟨0, 1, .rw, []⟩]⟩,
  -- LNK_PRBS_ERR
  ⟨0x8024, 1024, 12, 0, 1, 0, 0x0, 0x0, [⟨0, 32, .ro, []⟩]⟩,
  -- LNK_PRBS_CNT
  ⟨0x8028, 1024, 12, 0, 1, 0, 0x0, 0x0, [⟨0, 32, .ro, []⟩]⟩,
  -- LNK_SYNC_CFG
  ⟨0x802C, 1024, 12, 0, 1, 0, 0xA, 0xA, [⟨0, 10, .rw, [(0, 1000)]⟩]⟩,
  -- LNK_SYNC_T1_HI
  ⟨0x8030, 1024, 12, 0, 1, 0, 0x0, 0x0, [⟨0, 32, .ro, []⟩]⟩,
  -- LNK_SYNC_T1_LO
  ⟨0x8034, 1024, 12, 0, 1, 0, 0x0, 0x0, [⟨0, 16, .ro, []⟩]⟩]

/-- Register rows of the block at 0x8000, part 2. -/
def regRows8_1 : List RegRow := [
  -- LNK_SYNC_T2_HI
  ⟨0x8038, 1024, 12, 0, 1, 0, 0x0, 0x0, [⟨0, 32, .ro, []⟩]⟩,
  -- LNK_SYNC_T2_LO
  ⟨0x803C, 1024, 12, 0, 1, 0, 0x0, 0x0, [⟨0, 16, .ro, []⟩]⟩,
  -- LNK_SYNC_T3_HI
  ⟨0x8040, 1024, 12, 0, 1, 0, 0x0, 0x0, [⟨0, 32, .ro, []⟩]⟩,
  -- LNK_SYNC_T3_LO
  ⟨0x8044, 1024, 12, 0, 1, 0, 0x0, 0x0, [⟨0, 16, .ro, []⟩]⟩,
  -- LNK_SYNC_T4_HI
  ⟨0x8048, 1024, 12, 0, 1, 0, 0x0, 0x0, [⟨0, 32, .ro, []⟩]⟩,
  -- LNK_SYNC_T4_LO
  ⟨0x804C, 1024, 12, 0, 1, 0, 0x0, 0x0, [⟨0, 16, .ro, []⟩]⟩]

def regRows8 : List RegRow := regRows8_0 ++ regRows8_1

/-- Register rows of the block at 0xB000. -/
def regRowsB : List RegRow := [
  -- LNK_CHAIN
  ⟨0xB000, 4, 12, 0, 1, 1, 0x11000000, 0x11000000, [⟨24, 8, .ro, []⟩, ⟨16, 8, .ro, []⟩, ⟨12, 3, .ro, []⟩, ⟨10, 1, .ro, []⟩, ⟨9, 1, .ro, []⟩, ⟨8, 1, .ro, []⟩, ⟨0, 5, .rw, [(0, 16)]⟩]⟩,
  -- LNK_MGMT_CFG
  ⟨0xB040, 0, 1, 0, 1, 0, 0x314, 0x314, [⟨8, 4, .rw, []⟩, ⟨0, 8, .rw, [(1, 255)]⟩]⟩,
  -- LNK_SWAP_CFG
  ⟨0xB044, 0, 1, 0, 1, 1, 0x307D0, 0x307D0, [⟨17, 1, .rw, []⟩, ⟨16, 1, .rw, []⟩, ⟨0, 16, .rw, [(1, 65535)]⟩]⟩,
  -- LNK_RELAY
  ⟨0xB048, 0, 1, 0, 1, 1, 0xF, 0xF, [⟨8, 1, .ro, []⟩, ⟨0, 4, .ro, []⟩]⟩,
  -- LNK_SWAP_CNT
  ⟨0xB04C, 0, 1, 0, 1, 1, 0x0, 0x0, [⟨0, 32, .ro, []⟩]⟩,
  -- LNK_SPOS
  ⟨0xB080, 0, 1, 0, 1, 2, 0xFF00, 0xFF00, [⟨31, 1, .ro, []⟩, ⟨16, 1, .ro, []⟩, ⟨8, 8, .ro, []⟩, ⟨0, 5, .ro, []⟩]⟩]

/-- Register rows of the block at 0xC000, part 1. -/
def regRowsC_0 : List RegRow := [
  -- CTL_CTRL
  ⟨0xC000, 0, 1, 0, 1, 1, 0x2, 0x2, [⟨0, 4, .rw, []⟩]⟩,
  -- CTL_TICK_PERIOD
  ⟨0xC004, 0, 1, 0, 1, 1, 0x1388, 0x1388, [⟨0, 15, .rw, [(2500, 20000)]⟩]⟩,
  -- CTL_GATHER_DL
  ⟨0xC008, 0, 1, 0, 1, 1, 0x1F4, 0x1F4, [⟨0, 15, .rw, [(100, 10000)]⟩]⟩,
  -- CTL_TICK_NUM
  ⟨0xC00C, 0, 1, 0, 1, 1, 0x0, 0x0, [⟨0, 32, .ro, []⟩]⟩,
  -- CTL_STATUS
  ⟨0xC010, 0, 1, 0, 1, 1, 0x0, 0x0, [⟨6, 1, .ro, []⟩, ⟨5, 1, .ro, []⟩, ⟨0, 5, .ro, []⟩]⟩,
  -- CTL_BUDGET
  ⟨0xC014, 0, 1, 0, 1, 1, 0x0, 0x0, [⟨16, 16, .ro, []⟩, ⟨0, 16, .ro, []⟩]⟩,
  -- CTL_STALE_CNT
  ⟨0xC018, 0, 1, 0, 1, 1, 0x0, 0x0, [⟨0, 32, .ro, []⟩]⟩,
  -- CTL_LOST_CNT
  ⟨0xC01C, 0, 1, 0, 1, 1, 0x0, 0x0, [⟨0, 32, .ro, []⟩]⟩,
  -- CTL_LATE_CNT
  ⟨0xC020, 0, 1, 0, 1, 1, 0x0, 0x0, [⟨0, 32, .ro, []⟩]⟩,
  -- CTL_APPLY_DEPTH
  ⟨0xC024, 0, 1, 0, 1, 1, 0x0, 0x0, [⟨0, 10, .ro, []⟩]⟩,
  -- CTL_HB_PER
  ⟨0xC040, 0, 1, 0, 1, 2, 0x0, 0x0, [⟨0, 24, .rw, [(800000, 16000000)]⟩]⟩,
  -- CTL_DAB_PER
  ⟨0xC044, 0, 1, 0, 1, 2, 0x0, 0x0, [⟨0, 24, .rw, [(80000, 800000)]⟩]⟩,
  -- CTL_PULSE_MIN
  ⟨0xC048, 0, 1, 0, 1, 2, 0x190, 0x190, [⟨0, 16, .rw, []⟩]⟩,
  -- CTL_SPR_STATUS
  ⟨0xC04C, 0, 1, 0, 1, 2, 0x0, 0x0, [⟨16, 16, .ro, []⟩, ⟨8, 8, .ro, []⟩, ⟨0, 8, .ro, []⟩]⟩]

/-- Register rows of the block at 0xC000, part 2. -/
def regRowsC_1 : List RegRow := [
  -- CTL_SPR_TICK
  ⟨0xC050, 0, 1, 0, 1, 2, 0x0, 0x0, [⟨0, 32, .ro, []⟩]⟩,
  -- CTL_TLM_SEL
  ⟨0xC054, 0, 1, 0, 1, 2, 0xFFFFFFFF, 0xFFFFFFFF, [⟨24, 8, .rw, []⟩, ⟨16, 8, .rw, []⟩, ⟨8, 8, .rw, []⟩, ⟨0, 8, .rw, []⟩]⟩,
  -- CTL_DAB_K
  ⟨0xC058, 0, 1, 0, 1, 2, 0x0, 0x0, [⟨0, 32, .rw, []⟩]⟩,
  -- CTL_DAB_LIM
  ⟨0xC05C, 0, 1, 0, 1, 2, 0x0, 0x0, [⟨16, 16, .rw, []⟩, ⟨0, 16, .rw, []⟩]⟩,
  -- CTL_CMD_REC
  ⟨0xC080, 4, 17, 0, 1, 2, 0x0, 0x0, [⟨28, 4, .ro, []⟩, ⟨16, 12, .ro, []⟩, ⟨0, 16, .ro, []⟩]⟩]

/-- DESIGN CHOICE (log entry 4): CTL_HB_PER, CTL_DAB_PER, CTL_DAB_K and CTL_DAB_LIM, whose reset is "image" (R75), hold 0 until an image is applied, as R504 and R517 say
of image fields of a Spring. -/
def regRowsC : List RegRow := regRowsC_0 ++ regRowsC_1

/-- Register rows of the block at 0x10000. -/
def regRows10 : List RegRow := [
  -- SLU_CTRL
  ⟨0x10000, 0, 1, 0, 1, 1, 0x7, 0x7, [⟨2, 1, .rw, []⟩, ⟨1, 1, .rw, []⟩, ⟨0, 1, .rw, []⟩]⟩,
  -- SLU_TH_CAP
  ⟨0x10004, 0, 1, 0, 1, 1, 0x8000, 0x8000, [⟨31, 1, .ro, []⟩, ⟨0, 16, .ro, []⟩]⟩,
  -- SLU_STORE_BAND
  ⟨0x10008, 0, 1, 0, 1, 1, 0x0, 0x0, [⟨0, 32, .rw, []⟩]⟩,
  -- SLU_INS_CFG
  ⟨0x1000C, 0, 1, 0, 1, 1, 0x200640, 0x200640, [⟨16, 7, .rw, [(0, 64)]⟩, ⟨0, 16, .rw, [(100, 10000)]⟩]⟩,
  -- SLU_RSP_WIN
  ⟨0x10010, 0, 1, 0, 1, 1, 0xFA0, 0xFA0, [⟨0, 16, .rw, []⟩]⟩,
  -- SLU_BMS_AGE_MAX
  ⟨0x10014, 0, 1, 0, 1, 1, 0x7D0, 0x7D0, [⟨0, 16, .rw, [(10, 65535)]⟩]⟩,
  -- SLU_BMS_WD_MASK
  ⟨0x10018, 0, 1, 0, 1, 1, 0x0, 0x0, [⟨0, 16, .rw, []⟩]⟩,
  -- SLU_CELL_CMD
  ⟨0x1001C, 0, 1, 0, 1, 1, 0x0, 0x0, [⟨8, 2, .wo, []⟩, ⟨0, 8, .wo, []⟩]⟩,
  -- SLU_ENTRY_STAT
  ⟨0x10020, 0, 1, 0, 1, 1, 0x0, 0x0, [⟨16, 7, .ro, []⟩, ⟨0, 7, .ro, []⟩]⟩,
  -- SLU_ARM_STAT
  ⟨0x10040, 4, 12, 0, 1, 1, 0x0, 0x0, [⟨23, 1, .ro, []⟩, ⟨22, 1, .ro, []⟩, ⟨21, 1, .ro, []⟩, ⟨8, 8, .ro, []⟩, ⟨0, 8, .ro, []⟩]⟩,
  -- SLU_ROLE
  ⟨0x10080, 4, 12, 0, 1, 1, 0x0, 0x0, [⟨0, 32, .ro, []⟩]⟩,
  -- SLU_CLS
  ⟨0x100C0, 4, 4, 0, 1, 1, 0x800000FF, 0x800000FF, [⟨16, 16, .ro, []⟩, ⟨8, 8, .ro, []⟩, ⟨0, 8, .ro, []⟩]⟩,
  -- SLU_INS_CNT
  ⟨0x100D0, 0, 1, 0, 1, 1, 0x0, 0x0, [⟨16, 16, .ro, []⟩, ⟨0, 16, .ro, []⟩]⟩,
  -- SLU_SHORT_CNT
  ⟨0x100D4, 0, 1, 0, 1, 1, 0x0, 0x0, [⟨0, 32, .ro, []⟩]⟩]

/-- Register rows of the block at 0x14000, part 1. -/
def regRows14_0 : List RegRow := [
  -- ADC_CTRL
  ⟨0x14000, 256, 4, 0, 1, 0, 0x0, 0x0, [⟨16, 2, .rw, []⟩, ⟨15, 1, .rw, []⟩, ⟨8, 5, .rw, [(0, 16)]⟩, ⟨0, 4, .rw, [(0, 7)]⟩]⟩,
  -- ADC_TRIG_CFG
  ⟨0x14004, 256, 4, 0, 1, 0, 0x0, 0x0, [⟨16, 16, .rw, [(100, 65535)]⟩, ⟨0, 16, .rw, []⟩]⟩,
  -- ADC_SWTRIG
  ⟨0x14008, 256, 4, 0, 1, 0, 0x0, 0x0, [⟨0, 1, .wo, []⟩]⟩,
  -- ADC_STAT
  ⟨0x1400C, 256, 4, 0, 1, 0, 0x0, 0x0, [⟨4, 1, .ro, []⟩, ⟨3, 1, .ro, []⟩, ⟨2, 1, .ro, []⟩, ⟨1, 1, .ro, []⟩, ⟨0, 1, .ro, []⟩]⟩,
  -- ADC_TRIG_CNT
  ⟨0x14010, 256, 4, 0, 1, 0, 0x0, 0x0, [⟨0, 32, .ro, []⟩]⟩,
  -- ADC_TRIG_OVR
  ⟨0x14014, 256, 4, 0, 1, 0, 0x0, 0x0, [⟨0, 32, .ro, []⟩]⟩,
  -- ADC_RUN_CNT
  ⟨0x14018, 256, 4, 0, 1, 0, 0x0, 0x0, [⟨0, 32, .ro, []⟩]⟩,
  -- ADC_OVR_CNT
  ⟨0x1401C, 256, 4, 0, 1, 0, 0x0, 0x0, [⟨0, 32, .ro, []⟩]⟩,
  -- ADC_RESTART_CNT
  ⟨0x14020, 256, 4, 0, 1, 0, 0x0, 0x0, [⟨0, 32, .ro, []⟩]⟩,
  -- ADC_CAL_SKIP
  ⟨0x14024, 256, 4, 0, 1, 0, 0x0, 0x0, [⟨0, 32, .ro, []⟩]⟩,
  -- ADC_SEQ
  ⟨0x14040, 256, 4, 4, 16, 0, 0x0, 0x0, [⟨24, 4, .rw, [(0, 8)]⟩, ⟨20, 4, .rw, [(0, 8)]⟩, ⟨12, 8, .rw, [(3, 255)]⟩, ⟨10, 2, .rw, []⟩, ⟨9, 1, .rw, []⟩, ⟨0, 3, .rw, []⟩]⟩,
  -- ADC_RES
  ⟨0x14080, 256, 4, 4, 16, 0, 0x10000000, 0x10000000, [⟨24, 8, .ro, []⟩, ⟨0, 24, .ro, []⟩]⟩,
  -- ADC_CAL
  ⟨0x140C0, 256, 4, 4, 8, 0, 0x0, 0x0, [⟨16, 16, .ro, []⟩, ⟨0, 16, .ro, []⟩]⟩,
  -- ADC_WIN
  ⟨0x14400, 4, 32, 0, 1, 0, 0x0, 0x0, [⟨31, 1, .rwl, []⟩, ⟨28, 3, .rwl, []⟩, ⟨16, 12, .rwl, []⟩, ⟨0, 12, .rwl, []⟩]⟩]

/-- Register rows of the block at 0x14000, part 2. -/
def regRows14_1 : List RegRow := [
  -- ADC_WIN_STAT
  ⟨0x14480, 0, 1, 0, 1, 0, 0x0, 0x0, [⟨0, 32, .ro, []⟩]⟩,
  -- ADC_WIN_LATCH
  ⟨0x14484, 0, 1, 0, 1, 0, 0x0, 0x0, [⟨0, 32, .w1c, []⟩]⟩,
  -- ADC_SYS_OFFSET
  ⟨0x14500, 16, 32, 0, 1, 0, 0x0, 0x0, [⟨0, 32, .rw, []⟩]⟩,
  -- ADC_SYS_GAIN
  ⟨0x14504, 16, 32, 0, 1, 0, 0x0, 0x0, [⟨0, 32, .rw, []⟩]⟩,
  -- ADC_SYS_CFG
  ⟨0x14508, 16, 32, 0, 1, 0, 0x0, 0x0, [⟨1, 2, .rw, []⟩, ⟨0, 1, .rw, []⟩]⟩,
  -- ADC_MAP
  ⟨0x14700, 8, 6, 0, 1, 0, 0x0, 0x0, [⟨16, 16, .rw, []⟩, ⟨0, 8, .rw, [(0, 63), (255, 255)]⟩]⟩,
  -- ADC_MAP_SCALE
  ⟨0x14704, 8, 6, 0, 1, 0, 0x0, 0x0, [⟨0, 32, .rw, []⟩]⟩]

def regRows14 : List RegRow := regRows14_0 ++ regRows14_1

/-- Register rows of the block at 0x18000, part 1. -/
def regRows18_0 : List RegRow := [
  -- WEIR_CFG
  ⟨0x18000, 0, 1, 0, 1, 1, 0x22401, 0x22401, [⟨16, 8, .rw, [(1, 255)]⟩, ⟨12, 4, .rw, [(0, 12)]⟩, ⟨8, 4, .rw, []⟩, ⟨2, 1, .rwl, []⟩, ⟨0, 1, .rw, []⟩]⟩,
  -- WEIR_ARM_MAX
  ⟨0x18004, 0, 1, 0, 1, 1, 0x12C, 0x12C, [⟨0, 10, .rw, [(50, 1000)]⟩]⟩,
  -- WEIR_HOLD_MAX
  ⟨0x18008, 0, 1, 0, 1, 1, 0x190, 0x190, [⟨0, 16, .rw, []⟩]⟩,
  -- WEIR_ARM_STAT
  ⟨0x1800C, 0, 1, 0, 1, 1, 0x0, 0x0, [⟨31, 1, .ro, []⟩, ⟨16, 12, .ro, []⟩, ⟨0, 12, .ro, []⟩]⟩,
  -- WEIR_REL
  ⟨0x18010, 0, 1, 0, 1, 1, 0x0, 0x0, [⟨0, 12, .wo, []⟩]⟩,
  -- WEIR_OCP_CFG
  ⟨0x18014, 0, 1, 0, 1, 0, 0x0, 0x0, [⟨1, 2, .rwl, []⟩, ⟨0, 1, .rwl, []⟩]⟩,
  -- WEIR_OCP_STAT
  ⟨0x18018, 0, 1, 0, 1, 0, 0x0, 0x0, [⟨8, 3, .ro, []⟩, ⟨7, 1, .ro, []⟩, ⟨4, 2, .ro, []⟩, ⟨2, 2, .ro, []⟩, ⟨0, 2, .ro, []⟩]⟩,
  -- WEIR_TX_CNT
  ⟨0x18020, 0, 1, 0, 1, 0, 0x0, 0x0, [⟨0, 32, .ro, []⟩]⟩,
  -- WEIR_RX_CNT
  ⟨0x18024, 0, 1, 0, 1, 0, 0x0, 0x0, [⟨0, 32, .ro, []⟩]⟩,
  -- WEIR_CRC_CNT
  ⟨0x18028, 0, 1, 0, 1, 0, 0x0, 0x0, [⟨0, 32, .ro, []⟩]⟩,
  -- WEIR_MISS_CNT
  ⟨0x1802C, 0, 1, 0, 1, 0, 0x0, 0x0, [⟨0, 32, .ro, []⟩]⟩,
  -- WEIR_PATH
  ⟨0x18040, 4, 12, 0, 1, 1, 0x0, 0x0, [⟨0, 16, .ro, []⟩]⟩,
  -- WEIR_PATH_STN
  ⟨0x18070, 0, 1, 0, 1, 1, 0x0, 0x0, [⟨0, 16, .ro, []⟩]⟩,
  -- WEIR_SCFG
  ⟨0x18080, 0, 1, 0, 1, 2, 0x0, 0x0, [⟨4, 1, .rw, []⟩, ⟨0, 4, .rw, [(0, 11), (15, 15)]⟩]⟩]

/-- Register rows of the block at 0x18000, part 2. -/
def regRows18_1 : List RegRow := [
  -- WEIR_SSTAT
  ⟨0x18084, 0, 1, 0, 1, 2, 0x0, 0x0, [⟨1, 1, .ro, []⟩, ⟨0, 1, .ro, []⟩]⟩,
  -- WEIR_HOLD_IN
  ⟨0x18088, 0, 1, 0, 1, 2, 0x0, 0x0, [⟨0, 32, .ro, []⟩]⟩,
  -- WEIR_LAST
  ⟨0x1808C, 0, 1, 0, 1, 0, 0x0, 0x0, [⟨30, 2, .ro, []⟩, ⟨26, 4, .ro, []⟩, ⟨22, 4, .ro, []⟩, ⟨14, 8, .ro, []⟩, ⟨6, 8, .ro, []⟩]⟩,
  -- WEIR_STN_IN
  ⟨0x18090, 0, 1, 0, 1, 2, 0x0, 0x0, [⟨0, 32, .ro, []⟩]⟩]

def regRows18 : List RegRow := regRows18_0 ++ regRows18_1

/-- Register rows of the block at 0x1A000. -/
def regRows1A : List RegRow := [
  -- THM_CTRL
  ⟨0x1A000, 0, 1, 0, 1, 0, 0x103, 0x3, [⟨8, 1, .rwl, []⟩, ⟨0, 4, .rw, [(1, 10)]⟩]⟩,
  -- THM_THR_CFG
  ⟨0x1A004, 0, 1, 0, 1, 1, 0x60000014, 0x60000014, [⟨16, 16, .rw, [(2048, 32768)]⟩, ⟨0, 10, .rw, [(1, 600)]⟩]⟩,
  -- THM_STATUS
  ⟨0x1A008, 0, 1, 0, 1, 0, 0x8000, 0x8000, [⟨22, 1, .ro, []⟩, ⟨21, 1, .ro, []⟩, ⟨20, 1, .ro, []⟩, ⟨19, 1, .ro, []⟩, ⟨18, 1, .ro, []⟩, ⟨17, 1, .ro, []⟩, ⟨16, 1, .ro, []⟩, ⟨0, 16, .ro, []⟩]⟩,
  -- THM_SENS
  ⟨0x1A00C, 0, 1, 0, 1, 0, 0x700000F, 0x700000F, [⟨24, 3, .ro, []⟩, ⟨16, 5, .ro, []⟩, ⟨8, 5, .ro, []⟩, ⟨0, 5, .ro, []⟩]⟩,
  -- THM_TS
  ⟨0x1A020, 4, 5, 0, 1, 0, 0x8000, 0x8000, [⟨0, 16, .ro, []⟩]⟩,
  -- THM_HS_MAP
  ⟨0x1A040, 0, 1, 0, 1, 2, 0x0, 0x0, [⟨16, 16, .rw, []⟩, ⟨0, 8, .rw, [(0, 63), (255, 255)]⟩]⟩,
  -- THM_HS_MAP_SCALE
  ⟨0x1A044, 0, 1, 0, 1, 2, 0x0, 0x0, [⟨0, 32, .rw, []⟩]⟩,
  -- THM_HS_WARN
  ⟨0x1A048, 0, 1, 0, 1, 2, 0x0, 0x0, [⟨0, 16, .rw, []⟩]⟩,
  -- THM_RATING
  ⟨0x1A04C, 0, 1, 0, 1, 2, 0x0, 0x0, [⟨0, 16, .rw, []⟩]⟩,
  -- THM_HOT_SPR
  ⟨0x1A050, 0, 1, 0, 1, 1, 0xFF8000, 0xFF8000, [⟨24, 8, .ro, []⟩, ⟨16, 8, .ro, []⟩, ⟨0, 16, .ro, []⟩]⟩,
  -- THM_THR_CNT
  ⟨0x1A054, 0, 1, 0, 1, 1, 0x0, 0x0, [⟨0, 32, .ro, []⟩]⟩]

/-- Register rows of the block at 0x1C000. -/
def regRows1C : List RegRow := [
  -- SAFE_CTRL
  ⟨0x1C000, 0, 1, 0, 1, 1, 0x1, 0x1, [⟨31, 1, .wo, []⟩, ⟨30, 1, .wo, []⟩, ⟨29, 1, .wo, []⟩, ⟨0, 1, .rwl, []⟩]⟩,
  -- SAFE_CFG
  ⟨0x1C004, 0, 1, 0, 1, 1, 0x14000F, 0x14000F, [⟨16, 8, .rwl, [(1, 255)]⟩, ⟨0, 5, .rwl, [(0, 18)]⟩]⟩,
  -- SAFE_STAT
  ⟨0x1C008, 0, 1, 0, 1, 1, 0x0, 0x0, [⟨31, 1, .ro, []⟩, ⟨30, 1, .ro, []⟩, ⟨29, 1, .ro, []⟩, ⟨28, 1, .ro, []⟩, ⟨27, 1, .ro, []⟩, ⟨16, 8, .ro, []⟩, ⟨8, 8, .ro, []⟩, ⟨5, 1, .ro, []⟩, ⟨4, 1, .ro, []⟩, ⟨3, 1, .ro, []⟩, ⟨2, 1, .ro, []⟩, ⟨1, 1, .ro, []⟩, ⟨0, 1, .ro, []⟩]⟩,
  -- SAFE_IN_STAT
  ⟨0x1C00C, 0, 1, 0, 1, 1, 0x0, 0x0, [⟨8, 2, .ro, []⟩, ⟨4, 3, .ro, []⟩, ⟨3, 1, .ro, []⟩, ⟨0, 3, .ro, []⟩]⟩,
  -- SAFE_TEST
  ⟨0x1C010, 0, 1, 0, 1, 1, 0x0, 0x0, [⟨16, 16, .ro, []⟩, ⟨8, 8, .ro, []⟩, ⟨0, 1, .ro, []⟩]⟩,
  -- SAFE_CRC
  ⟨0x1C014, 0, 1, 0, 1, 0, 0x0, 0x0, [⟨0, 32, .ro, []⟩]⟩,
  -- SAFE_SUNLOCK
  ⟨0x1C018, 0, 1, 0, 1, 2, 0x0, 0x0, [⟨0, 1, .rw, []⟩]⟩,
  -- SAFE_PDU_CFG
  ⟨0x1C020, 0, 1, 0, 1, 1, 0xA0064, 0xA0064, [⟨31, 1, .rwl, []⟩, ⟨30, 1, .rwl, []⟩, ⟨28, 2, .rwl, []⟩, ⟨16, 10, .rwl, [(1, 1000)]⟩, ⟨0, 16, .rwl, [(1, 65535)]⟩]⟩,
  -- SAFE_PDU_TXID
  ⟨0x1C024, 0, 1, 0, 1, 1, 0x0, 0x0, [⟨31, 1, .rwl, []⟩, ⟨0, 29, .rwl, []⟩]⟩,
  -- SAFE_PDU_RXID
  ⟨0x1C028, 0, 1, 0, 1, 1, 0x0, 0x0, [⟨31, 1, .rwl, []⟩, ⟨0, 29, .rwl, []⟩]⟩,
  -- SAFE_PDU_TXCONN
  ⟨0x1C02C, 0, 1, 0, 1, 1, 0x0, 0x0, [⟨0, 32, .rwl, []⟩]⟩,
  -- SAFE_PDU_RXCONN
  ⟨0x1C030, 0, 1, 0, 1, 1, 0x0, 0x0, [⟨0, 32, .rwl, []⟩]⟩,
  -- SAFE_PDU_CNT
  ⟨0x1C034, 0, 1, 0, 1, 1, 0x0, 0x0, [⟨16, 16, .ro, []⟩, ⟨0, 16, .ro, []⟩]⟩]

/-- Register rows of the block at 0x1E000, part 1. -/
def regRows1E_0 : List RegRow := [
  -- CAN_CTRL
  ⟨0x1E000, 2048, 4, 0, 1, 0, 0x8080000A, 0x8080000A, [⟨31, 1, .rw, []⟩, ⟨28, 3, .rw, [(0, 3)]⟩, ⟨27, 1, .rw, []⟩, ⟨26, 1, .rw, []⟩, ⟨25, 1, .rw, []⟩, ⟨24, 1, .rw, []⟩, ⟨23, 1, .rw, []⟩, ⟨22, 1, .rw, []⟩, ⟨21, 1, .rw, []⟩, ⟨20, 1, .wo, []⟩, ⟨19, 1, .ro, []⟩, ⟨0, 16, .rw, [(1, 1000)]⟩]⟩,
  -- CAN_NBTP
  ⟨0x1E004, 2048, 4, 0, 1, 0, 0x0, 0x0, [⟨25, 7, .rw, [(1, 127)]⟩, ⟨16, 9, .rw, [(2, 256)]⟩, ⟨9, 7, .rw, [(2, 127)]⟩, ⟨0, 9, .rw, [(1, 511)]⟩]⟩,
  -- CAN_DBTP
  ⟨0x1E008, 2048, 4, 0, 1, 0, 0x0, 0x0, [⟨31, 1, .rw, []⟩, ⟨16, 6, .rw, [(1, 32)]⟩, ⟨11, 5, .rw, [(1, 31)]⟩, ⟨6, 5, .rw, [(1, 16)]⟩, ⟨1, 5, .rw, [(1, 16)]⟩]⟩,
  -- CAN_TDCR
  ⟨0x1E00C, 2048, 4, 0, 1, 0, 0x0, 0x0, [⟨16, 7, .ro, []⟩, ⟨8, 7, .rw, []⟩, ⟨0, 7, .rw, []⟩]⟩,
  -- CAN_ECR
  ⟨0x1E010, 2048, 4, 0, 1, 0, 0xC0000000, 0xC0000000, [⟨30, 2, .ro, []⟩, ⟨27, 3, .ro, []⟩, ⟨24, 3, .ro, []⟩, ⟨16, 8, .ro, []⟩, ⟨8, 8, .ro, []⟩]⟩,
  -- CAN_GFC
  ⟨0x1E014, 2048, 4, 0, 1, 0, 0x2B, 0x2B, [⟨4, 2, .rw, []⟩, ⟨2, 2, .rw, []⟩, ⟨1, 1, .rw, []⟩, ⟨0, 1, .rw, []⟩]⟩,
  -- CAN_RAMSF
  ⟨0x1E020, 2048, 4, 0, 1, 0, 0x0, 0x0, [⟨24, 8, .rw, []⟩, ⟨0, 14, .rw, []⟩]⟩,
  -- CAN_RAMXF
  ⟨0x1E024, 2048, 4, 0, 1, 0, 0x0, 0x0, [⟨24, 8, .rw, []⟩, ⟨0, 14, .rw, []⟩]⟩,
  -- CAN_RAMRX0
  ⟨0x1E028, 2048, 4, 0, 1, 0, 0x0, 0x0, [⟨24, 8, .rw, []⟩, ⟨0, 14, .rw, []⟩]⟩,
  -- CAN_RAMRX1
  ⟨0x1E02C, 2048, 4, 0, 1, 0, 0x0, 0x0, [⟨24, 8, .rw, []⟩, ⟨0, 14, .rw, []⟩]⟩,
  -- CAN_RAMRXB
  ⟨0x1E030, 2048, 4, 0, 1, 0, 0x0, 0x0, [⟨24, 8, .rw, []⟩, ⟨0, 14, .rw, []⟩]⟩,
  -- CAN_RAMTX
  ⟨0x1E034, 2048, 4, 0, 1, 0, 0x0, 0x0, [⟨24, 8, .rw, []⟩, ⟨0, 14, .rw, []⟩]⟩,
  -- CAN_RAMTEF
  ⟨0x1E038, 2048, 4, 0, 1, 0, 0x0, 0x0, [⟨24, 8, .rw, []⟩, ⟨0, 14, .rw, []⟩]⟩,
  -- CAN_FIFO
  ⟨0x1E040, 2048, 4, 0, 1, 0, 0x0, 0x0, [⟨31, 1, .ro, []⟩, ⟨30, 1, .ro, []⟩, ⟨29, 1, .ro, []⟩, ⟨16, 8, .ro, []⟩, ⟨8, 8, .ro, []⟩, ⟨0, 8, .ro, []⟩]⟩]

/-- Register rows of the block at 0x1E000, part 2. -/
def regRows1E_1 : List RegRow := [
  -- CAN_SEL
  ⟨0x1E044, 2048, 4, 0, 1, 0, 0x0, 0x0, [⟨8, 5, .rw, []⟩, ⟨0, 6, .rw, []⟩]⟩,
  -- CAN_RXB_NEW0
  ⟨0x1E048, 2048, 4, 0, 1, 0, 0x0, 0x0, [⟨0, 32, .w1c, []⟩]⟩,
  -- CAN_RXB_NEW1
  ⟨0x1E04C, 2048, 4, 0, 1, 0, 0x0, 0x0, [⟨0, 32, .w1c, []⟩]⟩,
  -- CAN_TXREQ
  ⟨0x1E050, 2048, 4, 0, 1, 0, 0x0, 0x0, [⟨0, 32, .w1s, []⟩]⟩,
  -- CAN_TXCAN
  ⟨0x1E054, 2048, 4, 0, 1, 0, 0x0, 0x0, [⟨0, 32, .w1s, []⟩]⟩,
  -- CAN_TXDONE
  ⟨0x1E058, 2048, 4, 0, 1, 0, 0x0, 0x0, [⟨0, 32, .w1c, []⟩]⟩,
  -- CAN_CNT0
  ⟨0x1E060, 2048, 4, 0, 1, 0, 0x0, 0x0, [⟨16, 16, .ro, []⟩, ⟨0, 16, .ro, []⟩]⟩,
  -- CAN_CNT1
  ⟨0x1E064, 2048, 4, 0, 1, 0, 0x0, 0x0, [⟨16, 16, .ro, []⟩, ⟨0, 16, .ro, []⟩]⟩,
  -- CAN_DUP
  ⟨0x1E068, 2048, 4, 0, 1, 0, 0x0, 0x0, [⟨31, 1, .ro, []⟩, ⟨0, 29, .ro, []⟩]⟩,
  -- CAN_REF
  ⟨0x1E070, 2048, 4, 0, 1, 0, 0x0, 0x0, [⟨31, 1, .rw, []⟩, ⟨30, 1, .rw, []⟩, ⟨0, 29, .rw, []⟩]⟩,
  -- CAN_REF_CFG
  ⟨0x1E074, 2048, 4, 0, 1, 0, 0x3E8, 0x3E8, [⟨0, 16, .rw, [(10, 10000)]⟩]⟩,
  -- CAN_PAGE
  ⟨0x1E07C, 2048, 4, 0, 1, 0, 0x0, 0x0, [⟨0, 6, .rw, []⟩]⟩,
  -- CAN_PACK_CFG
  ⟨0x1E0C0, 0, 1, 0, 1, 2, 0x0, 0x0, [⟨31, 1, .rw, []⟩, ⟨0, 3, .rw, []⟩]⟩,
  -- CAN_PACK_STAT
  ⟨0x1E0C4, 0, 1, 0, 1, 2, 0xFFFF, 0xFFFF, [⟨31, 1, .ro, []⟩, ⟨30, 1, .ro, []⟩, ⟨16, 14, .ro, []⟩, ⟨0, 16, .ro, []⟩]⟩]

/-- Register rows of the block at 0x1E000, part 3. -/
def regRows1E_2 : List RegRow := [
  -- CAN_PACK_CNT
  ⟨0x1E0C8, 0, 1, 0, 1, 2, 0x0, 0x0, [⟨31, 1, .ro, []⟩, ⟨16, 15, .ro, []⟩, ⟨0, 16, .ro, []⟩]⟩,
  -- CAN_PACK_REC
  ⟨0x1E0D0, 4, 10, 0, 1, 2, 0x0, 0x0, [⟨0, 32, .ro, []⟩]⟩]

def regRows1E : List RegRow := regRows1E_0 ++ regRows1E_1 ++ regRows1E_2

/-- Register rows of the block at 0x20000, part 1. -/
def regRows20_0 : List RegRow := [
  -- REC_CTRL
  ⟨0x20000, 0, 1, 0, 1, 1, 0x0, 0x0, [⟨31, 1, .wo, []⟩, ⟨30, 1, .wo, []⟩]⟩,
  -- REC_CFG
  ⟨0x20004, 0, 1, 0, 1, 1, 0x64, 0x64, [⟨0, 10, .rw, [(1, 600)]⟩]⟩,
  -- REC_STATUS
  ⟨0x20008, 0, 1, 0, 1, 0, 0x0, 0x0, [⟨29, 3, .ro, []⟩, ⟨16, 8, .ro, []⟩, ⟨0, 9, .ro, []⟩]⟩,
  -- REC_SEQ
  ⟨0x2000C, 0, 1, 0, 1, 1, 0x0, 0x0, [⟨0, 32, .ro, []⟩]⟩,
  -- REC_CEIL
  ⟨0x20010, 0, 1, 0, 1, 1, 0x0, 0x0, [⟨0, 32, .ro, []⟩]⟩,
  -- REC_LSEQ
  ⟨0x20014, 0, 1, 0, 1, 1, 0x0, 0x0, [⟨0, 32, .ro, []⟩]⟩,
  -- REC_LEDGER_RD
  ⟨0x20018, 0, 1, 0, 1, 1, 0x0, 0x0, [⟨0, 32, .ro, []⟩]⟩,
  -- REC_LOST_CNT
  ⟨0x2001C, 0, 1, 0, 1, 0, 0x0, 0x0, [⟨0, 32, .ro, []⟩]⟩,
  -- REC_SUPP_CNT
  ⟨0x20020, 0, 1, 0, 1, 0, 0x0, 0x0, [⟨0, 32, .ro, []⟩]⟩,
  -- REC_ATTR_SEL
  ⟨0x20024, 0, 1, 0, 1, 0, 0x100, 0x100, [⟨0, 16, .rw, []⟩]⟩,
  -- REC_ATTR
  ⟨0x20028, 0, 1, 0, 1, 0, 0x0, 0x0, [⟨20, 1, .rw, []⟩, ⟨16, 4, .rw, [(0, 4)]⟩, ⟨8, 8, .rw, [(1, 255)]⟩, ⟨0, 8, .rw, []⟩]⟩,
  -- REC_ATTR_SUPP
  ⟨0x2002C, 0, 1, 0, 1, 0, 0x0, 0x0, [⟨0, 16, .ro, []⟩]⟩,
  -- REC_NOR
  ⟨0x20030, 0, 1, 0, 1, 1, 0x0, 0x0, [⟨30, 2, .ro, []⟩, ⟨0, 13, .ro, []⟩]⟩,
  -- REC_NOR_SPARE
  ⟨0x20034, 0, 1, 0, 1, 1, 0x0, 0x0, [⟨16, 16, .ro, []⟩, ⟨0, 16, .ro, []⟩]⟩]

/-- Register rows of the block at 0x20000, part 2. -/
def regRows20_1 : List RegRow := [
  -- REC_LEDGER_CFG
  ⟨0x20040, 0, 1, 0, 1, 2, 0x384, 0x384, [⟨0, 12, .rw, [(60, 3600)]⟩]⟩,
  -- REC_E_IN_LO
  ⟨0x20044, 0, 1, 0, 1, 2, 0x0, 0x0, [⟨0, 32, .ro, []⟩]⟩,
  -- REC_E_IN_HI
  ⟨0x20048, 0, 1, 0, 1, 2, 0x0, 0x0, [⟨0, 32, .ro, []⟩]⟩,
  -- REC_E_OUT_LO
  ⟨0x2004C, 0, 1, 0, 1, 2, 0x0, 0x0, [⟨0, 32, .ro, []⟩]⟩,
  -- REC_E_OUT_HI
  ⟨0x20050, 0, 1, 0, 1, 2, 0x0, 0x0, [⟨0, 32, .ro, []⟩]⟩,
  -- REC_TENURE
  ⟨0x20054, 0, 1, 0, 1, 2, 0x0, 0x0, [⟨31, 1, .ro, []⟩, ⟨0, 16, .ro, []⟩]⟩]

def regRows20 : List RegRow := regRows20_0 ++ regRows20_1

/-- Register rows of the block at 0x24000, part 1. -/
def regRows24_0 : List RegRow := [
  -- RED_CTRL
  ⟨0x24000, 0, 1, 0, 1, 1, 0x3, 0x3, [⟨2, 1, .wo, []⟩, ⟨1, 1, .rw, []⟩, ⟨0, 1, .rw, []⟩]⟩,
  -- RED_CLAIM
  ⟨0x24004, 0, 1, 0, 1, 1, 0x0, 0x0, [⟨19, 1, .ro, []⟩, ⟨16, 3, .ro, []⟩, ⟨0, 16, .ro, []⟩]⟩,
  -- RED_HB_CFG
  ⟨0x24008, 0, 1, 0, 1, 1, 0x7D00064, 0x7D00064, [⟨16, 16, .rw, [(500, 19000)]⟩, ⟨0, 10, .rw, [(10, 1000)]⟩]⟩,
  -- RED_HB_STAT
  ⟨0x2400C, 0, 1, 0, 1, 1, 0x0, 0x0, [⟨24, 8, .ro, []⟩, ⟨0, 24, .ro, []⟩]⟩,
  -- RED_PEER
  ⟨0x24010, 0, 1, 0, 1, 1, 0x0, 0x0, [⟨31, 1, .ro, []⟩, ⟨24, 3, .ro, []⟩, ⟨16, 8, .ro, []⟩, ⟨0, 16, .ro, []⟩]⟩,
  -- RED_SHADOW_CFG
  ⟨0x24014, 0, 1, 0, 1, 1, 0x100064, 0x100064, [⟨24, 8, .rw, [(0, 192)]⟩, ⟨16, 8, .rw, []⟩, ⟨0, 16, .rw, []⟩]⟩,
  -- RED_SHADOW_CNT
  ⟨0x24018, 0, 1, 0, 1, 1, 0x0, 0x0, [⟨0, 32, .ro, []⟩]⟩,
  -- RED_BIST_CFG
  ⟨0x2401C, 0, 1, 0, 1, 1, 0x10032, 0x10032, [⟨16, 1, .rw, []⟩, ⟨0, 16, .rw, [(10, 10000)]⟩]⟩,
  -- RED_BIST_STAT
  ⟨0x24020, 0, 1, 0, 1, 1, 0x0, 0x0, [⟨16, 16, .ro, []⟩, ⟨0, 16, .ro, []⟩]⟩,
  -- RED_SRAM
  ⟨0x24024, 0, 1, 0, 1, 0, 0x0, 0x0, [⟨16, 8, .ro, []⟩, ⟨8, 8, .ro, []⟩, ⟨0, 8, .ro, []⟩]⟩,
  -- RED_ECC_CNT
  ⟨0x24028, 0, 1, 0, 1, 0, 0x0, 0x0, [⟨0, 32, .ro, []⟩]⟩,
  -- RED_VAON
  ⟨0x2402C, 0, 1, 0, 1, 0, 0x0, 0x0, [⟨16, 16, .ro, []⟩, ⟨1, 1, .ro, []⟩, ⟨0, 1, .ro, []⟩]⟩,
  -- RED_VOTE_CFG
  ⟨0x24030, 0, 1, 0, 1, 0, 0x8, 0x8, [⟨0, 7, .rwl, [(1, 72)]⟩]⟩,
  -- RED_VOTE_RST
  ⟨0x24034, 0, 1, 0, 1, 0, 0x0, 0x0, [⟨0, 14, .wo, []⟩]⟩]

/-- Register rows of the block at 0x24000, part 2. -/
def regRows24_1 : List RegRow := [
  -- RED_VOTE
  ⟨0x24040, 4, 14, 0, 1, 0, 0x0, 0x0, [⟨31, 1, .ro, []⟩, ⟨24, 3, .ro, []⟩, ⟨0, 16, .ro, []⟩]⟩,
  -- RED_SPARE_SUM
  ⟨0x24080, 0, 1, 0, 1, 0, 0x0, 0x0, [⟨0, 10, .ro, []⟩]⟩]

def regRows24 : List RegRow := regRows24_0 ++ regRows24_1

/-- Register rows of the block at 0x28000. -/
def regRows28 : List RegRow := [
  -- GATE_CTRL
  ⟨0x28000, 0, 1, 0, 1, 2, 0x300, 0x300, [⟨8, 4, .rw, []⟩, ⟨7, 1, .rwl, []⟩, ⟨0, 6, .rwl, []⟩]⟩,
  -- GATE_FAULT_CFG
  ⟨0x28004, 0, 1, 0, 1, 2, 0x320A200A, 0x320A200A, [⟨24, 8, .rwl, []⟩, ⟨16, 8, .rwl, [(1, 255)]⟩, ⟨12, 4, .rwl, []⟩, ⟨0, 10, .rwl, [(1, 1000)]⟩]⟩,
  -- GATE_STATUS
  ⟨0x28008, 0, 1, 0, 1, 2, 0x0, 0x0, [⟨31, 1, .ro, []⟩, ⟨30, 1, .ro, []⟩, ⟨24, 6, .ro, []⟩, ⟨16, 6, .ro, []⟩, ⟨8, 6, .ro, []⟩, ⟨0, 6, .ro, []⟩]⟩,
  -- GATE_TEST
  ⟨0x2800C, 0, 1, 0, 1, 2, 0x0, 0x0, [⟨31, 1, .wo, []⟩, ⟨24, 4, .rw, [(0, 11)]⟩, ⟨12, 12, .rw, []⟩, ⟨0, 12, .rw, []⟩]⟩,
  -- GATE_TEST_T
  ⟨0x28010, 0, 1, 0, 1, 2, 0x0, 0x0, [⟨0, 16, .rw, []⟩]⟩,
  -- GATE_DT
  ⟨0x28020, 4, 6, 0, 1, 2, 0xA00050, 0xA00050, [⟨16, 15, .rw, [(80, 20000)]⟩, ⟨0, 15, .rwl, [(80, 20000)]⟩]⟩,
  -- GATE_PROT
  ⟨0x28040, 4, 6, 0, 1, 2, 0x4B320A00, 0x4B320A00, [⟨24, 8, .rwl, [(25, 250)]⟩, ⟨16, 8, .rwl, [(5, 150)]⟩, ⟨8, 8, .rwl, [(0, 50)]⟩, ⟨0, 6, .rwl, [(0, 31), (63, 63)]⟩]⟩,
  -- GATE_CNT
  ⟨0x28060, 4, 6, 0, 1, 2, 0x0, 0x0, [⟨16, 16, .ro, []⟩, ⟨0, 16, .ro, []⟩]⟩,
  -- GATE_LAST
  ⟨0x28080, 4, 6, 0, 1, 2, 0x0, 0x0, [⟨0, 32, .ro, []⟩]⟩]

/-- Register rows of the block at 0x2C000. -/
def regRows2C : List RegRow := [
  -- CELL_CTRL
  ⟨0x2C000, 0, 1, 0, 1, 2, 0x1004, 0x1004, [⟨12, 4, .rw, []⟩, ⟨2, 1, .rwl, []⟩, ⟨1, 1, .rwl, []⟩, ⟨0, 1, .rwl, []⟩]⟩,
  -- CELL_TMO
  ⟨0x2C004, 0, 1, 0, 1, 2, 0x140F0F, 0x140F0F, [⟨16, 8, .rw, [(1, 255)]⟩, ⟨8, 8, .rw, [(1, 255)]⟩, ⟨0, 8, .rw, [(1, 255)]⟩]⟩,
  -- CELL_PACK_LIM
  ⟨0x2C008, 0, 1, 0, 1, 2, 0xC80064, 0xC80064, [⟨16, 16, .rw, []⟩, ⟨0, 16, .rw, []⟩]⟩,
  -- CELL_STATUS
  ⟨0x2C00C, 0, 1, 0, 1, 2, 0x0, 0x0, [⟨0, 16, .ro, []⟩]⟩,
  -- CELL_OPS
  ⟨0x2C010, 0, 1, 0, 1, 2, 0x0, 0x0, [⟨16, 16, .ro, []⟩, ⟨0, 16, .ro, []⟩]⟩]

/-- Register rows of the block at 0x30000. -/
def regRows30 : List RegRow := [
  -- TBL_STATUS
  ⟨0x30000, 0, 1, 0, 1, 0, 0x20000, 0x20000, [⟨29, 1, .ro, []⟩, ⟨28, 1, .ro, []⟩, ⟨27, 1, .ro, []⟩, ⟨26, 1, .ro, []⟩, ⟨25, 1, .ro, []⟩, ⟨24, 1, .ro, []⟩, ⟨16, 2, .ro, []⟩]⟩,
  -- TBL_GEN_A
  ⟨0x30004, 0, 1, 0, 1, 1, 0x0, 0x0, [⟨0, 32, .ro, []⟩]⟩,
  -- TBL_GEN_B
  ⟨0x30008, 0, 1, 0, 1, 1, 0x0, 0x0, [⟨0, 32, .ro, []⟩]⟩,
  -- TBL_GEN
  ⟨0x3000C, 0, 1, 0, 1, 0, 0x0, 0x0, [⟨0, 32, .ro, []⟩]⟩,
  -- TBL_WIN_SEL
  ⟨0x30010, 0, 1, 0, 1, 0, 0xFF, 0xFF, [⟨8, 8, .rw, []⟩, ⟨0, 8, .rw, []⟩]⟩]

/-- The rows of the block an offset lies in (20_register_index). -/
def regRowsAt (off : Nat) : List RegRow :=
  match off / 0x1000 with
  | 0x0 => regRows0
  | 0x1 => regRows1
  | 0x2 => regRows2
  | 0x4 => regRows4
  | 0x8 => regRows8
  | 0x9 => regRows8
  | 0xA => regRows8
  | 0xB => regRowsB
  | 0xC => regRowsC
  | 0x10 => regRows10
  | 0x14 => regRows14
  | 0x18 => regRows18
  | 0x1A => regRows1A
  | 0x1C => regRows1C
  | 0x1E => regRows1E
  | 0x1F => regRows1E
  | 0x20 => regRows20
  | 0x24 => regRows24
  | 0x28 => regRows28
  | 0x2C => regRows2C
  | 0x30 => regRows30
  | _ => []

end Sys2Proof.Machine
end

