-- ==== Sys2Proof/Machine/State.lean ====
section
/-! DEFINITION. State.lean: everything the manual gives a VT9216 to hold, as plain data, and the device right after PORST_N release. -/
namespace Sys2Proof.Machine

/-- No command stops the block with a fault: every effect the manual gives ends in a next state. -/
inductive Fault where
  deriving DecidableEq, Repr

/-- Why a command may be refused. -/
inductive Refusal where
  /-- Raised by exec's own arm for a command whose meaning is not written yet; safe: nothing is claimed about it. -/
  | notModelled (mnemonic : String)
  deriving DecidableEq, Repr


/-! ### Time (09) -/

/-- Counters and servo of 09_time_alignment. `ext` is TIME_EXT in ns (its low 32 bits are the short stamp, R267, R269),
`frac` its fraction in 2^-16 ns, `rem` what is left of a unit under the steered increment; `todOff` is time of day in ns minus `ext` (R271);
`cyc` counts CORE cycles since PORST_N release and times every interval the device measures itself. `f` and `integ` are the servo's
frequency correction and integrator in units of 2^-16 ppb (R275); samples in a row within the limit and whether a blocked step was reported; latest MHOP and TERR by port (R279);
PPS_OUT's level before PPS_POL, the CORE cycles of its last rising edge and of the last instant at which TOD_NS passed 0; whether the master ever locked (R270); the CORE cycle of the last sample, TIME_EXT of the last anchor,
whether ALIGN_LOST stands. -/
structure TimeSt where
  ext : Nat := 0
  frac : Nat := 0
  rem : Nat := 0
  cyc : Nat := 0
  todOff : Int := 0
  f : Int := 0
  integ : Int := 0
  lockCnt : Nat := 0
  blockedRun : Bool := false
  todValid : Bool := false
  mhops : List (Nat × Nat × Int) := []
  ppsHigh : Bool := false
  ppsLast : Option Nat := none
  everLocked : Bool := false
  sampleAt : Nat := 0
  anchorAt : Nat := 0
  ppsPass : Option Nat := none
  alignLost : Bool := false
  deriving DecidableEq, Repr

/-! ### Clocks (10) -/

/-- Hidden state of 10_clock_synthesis beside its registers: which hop slots were stored when (R303), whether a relock waits for a
reference (R312), whether LOCK_A has let the first search start (R309). -/
structure ClkSt where
  orderS : List Nat := []
  orderL : List Nat := []
  waitRefS : Bool := false
  waitRefL : Bool := false
  firstSearch : Bool := false
  storedS : Nat := 0
  storedL : Nat := 0
  deriving DecidableEq, Repr

/-! ### Event recorder, ledger and NOR (16) -/

/-- An attribute entry in force (R472). -/
structure AttrEnt where
  code : Nat
  sev : Nat
  journal : Bool
  rate : Nat
  burst : Nat
  deriving DecidableEq, Repr

/-- A code's token bucket (R473): `level` in units of 10^-9 token at CORE cycle `at`, the pending suppressed count and SUPP. -/
structure Bucket where
  code : Nat
  level : Nat
  at' : Nat
  pend : Nat
  supp : Nat
  deriving DecidableEq, Repr

/-- A run of lost records (R477). -/
structure LostRun where
  count : Nat
  first : Nat
  last : Nat
  mask : Nat
  deriving DecidableEq, Repr

/-- The recorder of a device (R469 to R483): staged records, the device's own LSEQ count, the run of losses, attributes and buckets, the freeze with its start
(CORE cycle) and losses, an ERASE_FIRST or FORMAT that waits and block retirements that wait for a supply (R496, R497), the SEQ last
committed, LSEQs accepted from each Spring in its epoch (R476), a Basin's ledger records that wait for their commit and Springs whose restart awaits its first ledger
record, with their last counters (R488). -/
structure RecSt where
  staging : List EvRec := []
  lseq : Nat := 0
  lost : Option LostRun := none
  attrs : List AttrEnt := []
  buckets : List Bucket := []
  frozen : Bool := false
  frozenAt : Nat := 0
  lostInFreeze : Nat := 0
  erasePending : Bool := false
  formatPending : Bool := false
  retire : List (Nat × Nat × Nat) := []
  lastSeq : Nat := 0
  seenLseq : List (Nat × Nat × Nat) := []
  led : List LedgerRec := []
  restarted : List (Nat × Option (Nat × Nat)) := []
  deriving DecidableEq, Repr

/-- What the always-on domain keeps (R524, R529): ledger state of a Spring (R484, R488), SRAM repair candidates, GUARD_TESTED, the epoch. -/
structure AonSt where
  cause : Nat := 0
  boRail : Nat := 0
  epoch : Nat := 0
  seeded : Bool := false
  accIn : Nat := 0
  accOut : Nat := 0
  eIn : Nat := 0
  eOut : Nat := 0
  tenureOpen : Bool := false
  packId : List Nat := List.replicate 16 0
  rseq : Nat := 0
  lastLedger : Nat := 0
  lastTod : Nat := 0
  ledger : List LedgerRec := []
  candidates : List Nat := []
  guardTested : Bool := false
  deriving DecidableEq, Repr

/-- A table image bank (R507): its bytes, whether the last check found them valid, its capacity in 64 KB blocks (R512), and whether it holds less than a
whole load, which fails IMAGE_CRC at every check (R511). -/
structure Bank where
  bytes : List Nat := []
  valid : Bool := false
  blocks : Nat := 64
  part : Bool := false
  deriving DecidableEq, Repr

/-- The external NOR (R490 to R495), which outlasts every reset. `layout` is 0 blank, 1 laid out, 2 foreign. -/
structure NorSt where
  devices : Nat := 0
  total : Nat := 0
  layout : Nat := 0
  ptGen : Nat := 0
  ptCopies : Nat := 2
  reserve : Nat := 0
  used : Nat := 0
  remap : List (Nat × Nat) := []
  seqCeil : Nat := 0
  lseqCeil : Nat := 0
  epoch : Nat := 0
  pwHash : Option (List Nat) := none
  candidates : List Nat := []
  stopped : Option Nat := none
  ledgerRd : Nat := 0
  bankA : Bank := {}
  bankB : Bank := {}
  first : List EvRec := []
  firstClosed : Bool := false
  last : List (List EvRec) := []
  lastBlocks : Nat := 258
  journal : List (List EvRec) := []
  journalBlocks : Nat := 2
  ledger : List (List LedgerRec) := []
  ledgerBlocks : Nat := 0
  systemBlocks : Nat := 16
  noNor : Bool := true
  sag : Bool := false
  sagAt : Nat := 0
  deriving DecidableEq, Repr

/-! ### Table images (17) -/

/-- An open load (R510): its bank, the offset that comes next, the header's LENGTH. -/
structure LoadSt where
  bank : Nat
  next : Nat
  len : Nat
  deriving DecidableEq, Repr

/-- A running swap (R513): the bank and tick named, the Springs a push was sent to and what each answered, whether it has all it waits for. -/
structure SwapSt where
  id : Nat
  bank : Nat
  tick : Nat
  pushed : List Nat
  accepted : List Nat
  committed : List Nat
  failed : Option Nat
  ready : Bool := false
  deriving DecidableEq, Repr

/-- Tables in force and on their way. `img` holds the bytes of the image in force (a Spring's pushed image); `rx` the DATA chunks of a push being received;
`watch` Springs whose PUSH_DONE is awaited after a swap, with its GEN and tick (R516); `bank` the bank the image in force came from;
`loaded` the Springs whose last push has been committed since their restart (R534, step 9). -/
structure TblSt where
  img : List Nat := []
  load : Option LoadSt := none
  swap : Option SwapSt := none
  pushes : List (Nat × Nat × Nat) := []
  rxLen : Nat := 0
  rxGen : Nat := 0
  rx : List (Nat × List Nat) := []
  staged : Option (List Nat) := none
  commitAt : Option Nat := none
  lostPush : List Nat := []
  watch : List (Nat × Nat × Nat) := []
  bank : Nat := 2
  loaded : List Nat := []
  deriving DecidableEq, Repr

/-! ### Supplies and resets (18) -/

/-- Reset state of 18_power_reset_startup: a full reset held (PORST_N or a brown-out), a warm reset held, RESET_N low, SAFE_HOLD (R531), start-up steps
completed (R534, R538) with the CORE cycles of the last release and of step 6's end, whether step 8 has begun, whether the self-calibration of R179 has
run since PORST_N, and the CORE cycles RESET_N fell, rose, and SAFE_HOLD began. A Basin's step 4: the NOR devices the release found, the CORE cycle its reset pulse is due in,
the one XSPI_RST_N fell in (R557), and whether it has ended. -/
structure PwrSt where
  full : Bool := false
  warm : Bool := false
  rstLow : Bool := false
  stuck : Bool := false
  steps : List Nat := []
  relAt : Nat := 0
  step6At : Nat := 0
  step8 : Bool := false
  calDone : Bool := false
  rstAt : Nat := 0
  highAt : Nat := 0
  holdAt : Nat := 0
  probes : Option (NorProbe × NorProbe) := none
  step4 : Option Nat := none
  xspiAt : Option Nat := none
  booted : Bool := false
  deriving DecidableEq, Repr

/-! ### Host queues (11) and ordering (12) -/

/-- A completion's decided part (R330). -/
structure Cpl where
  status : Nat
  frac : Nat
  tick : Nat
  stamp : Nat
  reason : Nat
  result : Nat
  deriving DecidableEq, Repr

/-- Where an in-flight descriptor stands (R324, R353 to R357): fetched; in the apply queue for a tick; posted as a stream buffer; waiting or
standing as a demand entry; carried in a slot; held; under a command check; travelling in MGMT frames (words sent and answered; for SAFETY_CFG its stage and the frames answered in it);
held for a busy Spring; at work in the device; decided. -/
inductive Phase where
  | fetched
  | queued (tick : Nat)
  | posted
  | demand
  | carried (seq : Nat) (tick : Nat) (carries : Nat)
  | again (seq : Nat) (carries : Nat)
  | held (since : Nat) (seq : Nat) (carries : Nat)
  | check (seq : Nat) (tick : Nat) (carries : Nat)
  | mgmt (sent : Nat) (acked : Nat)
  | mgmtHeld (since : Nat) (acked : Nat)
  | working
  | done (c : Cpl)
  deriving DecidableEq, Repr

/-- An in-flight descriptor: its number in fetch order over all pairs, its pair, the descriptor, the tick it was first due (a MGMT-borne one's: of its first NAK
0x04, else 0), the words it writes or the image of its swap, its phase. -/
structure Infl where
  id : Nat
  q : Nat
  d : Desc
  due : Nat
  phase : Phase
  data : List Word := []
  deriving DecidableEq, Repr

/-- A posted stream buffer (R335): its descriptor and address, bytes filled, records written, CORE cycle of its first record. -/
structure StreamBuf where
  id : Nat
  addr : Nat
  size : Nat
  used : Nat
  count : Nat
  firstAt : Nat
  deriving DecidableEq, Repr

/-- A run of records without a buffer on a pair (R338). -/
structure NoBufRun where
  first : Nat
  count : Nat
  lastTick : Nat
  stamp : Nat
  deriving DecidableEq, Repr

/-- A run of ticks whose telemetry of one Spring is lost to a pair (R338): its cause and the short stamp at which it began. -/
structure GapRun where
  spring : Nat
  first : Nat
  count : Nat
  cause : Nat
  stamp : Nat
  deriving DecidableEq, Repr

/-- A queue pair's hidden state (R320, R321): tails, heads and phase; completions since the last assertion and the CORE cycle of the first (R341);
posted buffers, the run without a buffer, per-Spring gaps, RSEQ; ticks counted for DECIM and the last tick carried (R337, R372). -/
structure PairSt where
  sqTail : Nat := 0
  cqHead : Nat := 0
  phase : Bool := true
  sinceAssert : Nat := 0
  firstAt : Option Nat := none
  bufs : List StreamBuf := []
  noBuf : Option NoBufRun := none
  gaps : List GapRun := []
  rseq : Nat := 0
  ticks : Nat := 0
  lastTick : Nat := 0
  deriving DecidableEq, Repr

/-- A fence bit's cause (R359): Spring, SQ, the status that set it and the TAG; and when it was set, as the number of the next descriptor to be fetched and as a CORE
cycle (R360, R375). -/
structure Fence where
  spring : Nat
  q : Nat
  status : Nat
  tag : Nat
  fetched : Nat
  cyc : Nat
  deriving DecidableEq, Repr

/-- Host interface state beside its registers: pairs; descriptors in flight (`q` 16 and above: fetched before the link to the host was lost, its completion
discarded, R317); the turn of R323; doorbell values; MSI-X masks, pending bits and table; vectors due and last sent; fences; reconciliation (R370); the
watchdog (R342): whether it has fired, its last restart, whether its DEENERGISE waits to be sampled. -/
structure HostSt where
  pairs : List PairSt := List.replicate 16 {}
  infl : List Infl := []
  nextId : Nat := 0
  turn : Nat := 1
  taken : Nat := 0
  fullRun : Bool := false
  dbSq : List Nat := List.replicate 16 0
  dbCq : List Nat := List.replicate 16 0
  msixMask : List Nat := List.range 64
  msixPba : List Nat := []
  msixTable : List (Nat × Word) := []
  vecDue : List Nat := []
  vecLast : List (Nat × Nat) := []
  fences : List Fence := []
  recon : List Nat := []
  reconDone : List (Nat × List Nat) := []
  unread : List Nat := []
  takeTick : Nat := 0
  wdFired : Bool := false
  wdAt : Nat := 0
  wdDeen : Bool := false
  deriving DecidableEq, Repr

/-! ### Chain links (08) -/

/-- Which operation a MGMT frame serves, so that its failure or answer finds it (R247, R587). -/
inductive Owner where
  | none
  | infl (id : Nat) (word : Nat) (count : Nat)
  | check (id : Nat)
  | recon (spring : Nat)
  | push (spring : Nat)
  | gen (spring : Nat)
  | cfg (id : Nat)
  | event (recs : List EvRec)
  | ledger (recs : List LedgerRec)
  deriving DecidableEq, Repr

/-- A MGMT frame a device has sent or has to send, with its owner and the CORE cycle it was last sent at. -/
structure MOut where
  m : Mgmt
  owner : Owner
  at' : Nat := 0
  deriving DecidableEq, Repr

/-- Sequence state for one peer (R589), the unacknowledged frames (at most 8), those waiting, the resends made. -/
structure Peer where
  dest : Nat
  tx : Option Nat := none
  rx : Option Nat := none
  restart : Bool := false
  unacked : List MOut := []
  waiting : List MOut := []
  resends : Nat := 0
  deriving DecidableEq, Repr

/-- A request acknowledged and awaiting its response, with the CORE cycle its timer started at (R588). -/
structure Await where
  dest : Nat
  op : Nat
  mseq : Nat
  param : Nat
  owner : Owner
  at' : Nat
  deriving DecidableEq, Repr

/-- A port's hidden state (R249 to R256): TRAIN bursts sent, the SYNC exchange in progress and the CORE cycle of
the last request. -/
structure PortSt where
  bursts : Nat := 0
  syncSeq : Nat := 0
  syncT1 : Option Nat := none
  syncAt : Nat := 0
  chkAt : Option Nat := none
  burstAt : Nat := 0
  deriving DecidableEq, Repr

/-- What a Basin keeps per chain (R252 to R261): replies, links reported lost, the last FAR_REPORT, ticks whole, Springs a CHAIN_LOSS was sent for, and the number
of the last TICK frame that came through the whole chain to this Basin's end of it. -/
structure ChainSt where
  replied : List Nat := []
  startedAt : Option Nat := none
  downLinks : List (Nat × Nat) := []
  farTick : Option Nat := none
  farArrived : Bool := true
  farFirst : Nat := 17
  brokenAt : Option Nat := none
  farKnown : Bool := false
  wholeTicks : Nat := 0
  swapTicks : Nat := 0
  lossSent : List Nat := []
  frameAt : Option Nat := none
  deriving DecidableEq, Repr

/-- What a Basin holds of an enrolled Spring (R252, R253): its index, its epoch (none: silent at enrolment), its serial number, the PORTS byte of its reply. -/
structure Enr where
  spring : Nat
  epoch : Option Nat
  serial : Nat
  ports : Nat
  deriving DecidableEq, Repr

/-- Link state of a device. -/
structure LnkSt where
  enrolled : List Enr := []
  ports : List PortSt := List.replicate 12 {}
  chains : List ChainSt := List.replicate 12 {}
  peers : List Peer := []
  awaits : List Await := []
  tickPort : Option Nat := none
  relayed : List (Nat × Nat) := []
  deriving DecidableEq, Repr

/-! ### What the device puts out at its ports -/

/-- A stream record's body (R336). -/
inductive StreamRec where
  | telem (t : Telem) (late : Bool)
  | status (bytes : List Nat)
  | event (r : EvRec)
  | gap (spring : Nat) (first : Nat) (count : Nat) (cause : Nat) (stamp : Nat)
  deriving DecidableEq, Repr

/-- What leaves the device, in the order it is handed out: the bytes of its own frames and the blocks of those it forwards, runs of ordered sets (56 bits each), writes
to host memory, MSI-X messages, CAN frames, the bytes a host read returns, and how a Spring's CAL_RUN or SYSCAL step ended (log entry 9). When the blocks of a port's frames leave its lane is the lane's (R29, R241, R245). -/
inductive OutMsg where
  | frame (port : Nat) (bs : List Nat)
  | blocks (port : Nat) (bs : List Block)
  | sets (port : Nat) (vs : List Nat)
  | hostWrite (addr : Nat) (bs : List Nat)
  | msix (v : Nat)
  | can (n : Nat) (f : CanFrame)
  | readBytes (bs : List Nat)
  | answer (opcode status reason : Nat)
  deriving DecidableEq, Repr

/-- What waits for or occupies a transmit lane: its class (0 a WEIR set, 1 TICK or TELEM, 2 MGMT or SYNC, 3 another ordered set), the blocks still to leave, whether
its first block has left, whether the device forwards it, its bytes. -/
structure LaneJob where
  cls : Nat
  left : Nat
  opened : Bool := false
  fwd : Bool := false
  bytes : Nat := 0
  deriving DecidableEq, Repr

/-- A port's transmit lane (R29, R241, R245): what has still to leave it, in order of arrival, as of the CORE cycle `at'`. -/
structure Lane where
  at' : Nat := 0
  jobs : List LaneJob := []
  deriving DecidableEq, Repr

/-! ### The control tick (02), Basin side -/

/-- A controller's states and last output, Q8.24 (R62). -/
structure CtrlSt where
  i : Int := 0
  s1 : Int := 0
  s2 : Int := 0
  out : Int := 0
  deriving DecidableEq, Repr

/-- The Basin's tick (02): TIME_EXT of the boundary of the tick in CTL_TICK_NUM, the period in force in 10 ns, the registers as gather sampled them and the CORE cycle gather started in (R23), whether gather is
open (R43); telemetry of this tick and the sides it came from, Springs whose frame came late or was discarded, frames seen (R28); the last used telemetry of
each Spring, STALE runs, LOST Springs and their runs of timely frames (R47, R48), Springs STALE in this tick; ticks the station state has lasted, the pending hardware cause, whether
ENERGISE or DEENERGISE was sampled and whether RESUME moved the station in this tick (R57, R58); references as set (R56), those of powers and section voltages as their ramps let them stand (R56, R59), controllers (R61) and the class limits of
R86; SLOT_SEQ of each Spring (R72), Springs whose telemetry shows BUSY_UPDATE (R357), whether every arm restarts its carriers at the next boundary
(R64), TICK_NUM of the frames dispatched last, and the last tick whose missing telemetry the streams have been told of (R338). -/
structure CtlSt where
  bound : Nat := 0
  per : Nat := 0x1388
  cfg : List (Nat × Word) := []
  gatherAt : Option Nat := none
  gathering : Bool := false
  got : List Telem := []
  sides : List (Nat × Bool) := []
  late : List Nat := []
  disc : List (Nat × Nat × Nat) := []
  seen : List (Nat × Nat) := []
  used : List Telem := []
  runs : List (Nat × Nat) := []
  lost : List Nat := []
  back : List (Nat × Nat) := []
  stale : List Nat := []
  lasted : Nat := 0
  hw : Nat := 0
  gotEnergise : Bool := false
  gotDeenergise : Bool := false
  moved : Bool := false
  refs : List (Nat × Int) := []
  refNow : List Int := []
  ctrls : List CtrlSt := List.replicate 16 {}
  limP : Option Nat := none
  limQ : Option Nat := none
  limLv : List (Option Nat) := [none, none, none, none]
  grid : GridIn := {}
  seqs : List (Nat × Nat) := []
  busy : List Nat := []
  restart : Bool := false
  sent : Nat := 0
  closed : Nat := 0
  deriving DecidableEq, Repr

/-! ### Sluice (03) -/

/-- One insertion of a programme (R103 to R107): the carrier position it fills (none: by the ARM table, R591), the withdrawn Spring or 0xFF, TIME_EXT of the
withdrawal, the spare at work, TIME_EXT at which its BYP_OPEN was placed, whether its bypass shows open. -/
structure InsItem where
  pos : Option Nat
  gone : Nat
  since : Nat
  spare : Option Nat
  placed : Option Nat
  opened : Bool
  deriving DecidableEq, Repr

/-- An arm in Sluice: carrier positions (none: vacant), its programme's insertions and chosen restart tick, TIME_EXT of its last carrier restart, TIME_EXT
of the withdrawal that left a position vacant (R109), whether its slots restart at the next boundary, HEADROOM_LOW's run, the LVBUS power served last in W (R85), whether it has restarted since ENERGISE (R64). -/
structure ArmSt where
  pos : List (Option Nat) := []
  items : List InsItem := []
  at' : Option Nat := none
  rst : Option Nat := none
  since : Option Nat := none
  due : Bool := false
  headLow : Bool := false
  lvPrev : Rat := 0
  deriving DecidableEq, Repr

/-- A demand entry (R92 to R95): its slot, in-flight descriptor and SQ and TAG, what it asks, the ticks it has waited and, once served, the ticks left; the fraction,
tick and reason word of its last evaluation. -/
structure Entry where
  slot : Nat
  id : Nat
  q : Nat
  tag : Nat
  cls : Nat
  kind : Nat
  target : Nat
  amount : Int
  hold : Nat
  duration : Nat
  minFrac : Nat
  waited : Nat
  left : Option Nat
  lastF : Nat
  lastTick : Nat
  lastR : Nat
  deriving DecidableEq, Repr

/-- Sluice: arms, demand entries, requests of SLU_CELL_CMD and other chapters (Spring, cause, value written; RETURN is cause 0) and those put off (R107), positions that
withdrawals of this stage have left vacant (arm, position, Spring), Springs whose restart has been seen (R108), spares that were ready, Springs whose OCP group has
expired (R399), and for each class the tick its cut began (R111). -/
structure SluSt where
  arms : List ArmSt := List.replicate 12 {}
  entries : List Entry := []
  reqs : List (Nat × Nat × Nat) := []
  vacant : List (Nat × Nat × Nat) := []
  fresh : List Nat := []
  wasReady : List Nat := []
  expired : List Nat := []
  cut : List (Option Nat) := [none, none, none, none]
  deriving DecidableEq, Repr

/-! ### The Spring's side of the tick (02) -/

/-- A Spring's DAB loop (R70, R71): the reference P in 10 W, controller 13's integrator and resonant states and the phase shift y in force and
next, in Q8.24, its period, and the instant the period in progress began (250 ps steps since PORST_N release). -/
structure DabSt where
  on : Bool := false
  p : Int := 0
  i : Int := 0
  s1 : Int := 0
  s2 : Int := 0
  y : Int := 0
  yNext : Int := 0
  per : Nat := 0
  at' : Nat := 0
  deriving DecidableEq, Repr

/-- A frame taken for the next tick (R243): its header, and the Spring's own slot once the frame check has passed in time (R44). -/
structure NextTick where
  hdr : TickHdr
  slot : Option Slot
  deriving DecidableEq, Repr

/-- A command carried in the slot applied, waiting for its evaluation at the same boundary (R148). -/
structure DueCmd where
  src : Nat
  op : Nat
  param : List Nat
  seq : Nat
  deriving DecidableEq, Repr

/-- What a Spring holds of its ticks: the number of the tick in progress, the last header accepted, the frame taken for the next tick, the slot in
force, ticks in a row without a valid frame (R35), claim keys seen with the CORE cycle they were seen at (R379), whether the carrier runs and its
period and phase (R64), what is applied and reported (R69, R74), the tick last latched (R41), the short stamp of a frame that failed its check (R44),
the short stamp of the last boundary, the DAB period captured there (R75), the soft-start of R541 with its DAB period, the station time of the last carrier
restart in 250 ps steps, and the registers as they stood before the first MGMT write of a CORE cycle (R24). -/
structure SprSt where
  tick : Nat := 0
  hdr : Option TickHdr := none
  next : Option NextTick := none
  slot : Option Slot := none
  missed : Nat := 0
  held : Bool := false
  late : Bool := false
  keys : List (Nat × Side × Nat) := []
  carrier : Bool := false
  hbPer : Nat := 0
  phase : Nat := 0
  dab : DabSt := {}
  mode : Nat := 0
  m : Int := 0
  pDabRef : Int := 0
  clip : Bool := false
  clipSrc : Nat := 0
  lvl0 : Bool := false
  cmd : Option DueCmd := none
  cmdRes : Nat := 0
  telem : Option Telem := none
  hsWarn : Bool := false
  latched : Nat := 0
  arrived : Option Nat := none
  bound : Nat := 0
  perNext : Nat := 0
  pre : Bool := false
  preAt : Nat := 0
  preFailed : Bool := false
  prePer : Nat := 0
  carrierAt : Nat := 0
  before : Option (Nat × List (Nat × Word)) := none
  deriving DecidableEq, Repr

/-! ### Gate path and contactors (04) -/

/-- A gate channel: its level as commanded by the stages before dead time with the instants of its last commanded on-edge and of that pulse's end, its level
at the ball from `onAt` on, its last falling edge, its SSD output (all instants count 250 ps steps since PORST_N release), and its DESAT and ready input
levels. Open inputs read a fault and not ready (R121). -/
structure ChSt where
  cmd : Bool := false
  cmdAt : Nat := 0
  cmdTo : Nat := 0
  on : Bool := false
  onAt : Nat := 0
  offAt : Option Nat := none
  ssd : Bool := false
  desat : Bool := true
  rdy : Bool := false
  deriving DecidableEq, Repr

/-- A half-bridge beside its bits in GATE_STATUS: the trip in force (cause 0 OC, 1 DESAT, 2 READY, the conducting channel, true for high, and its instant),
its soft turn-off (0 SSD high, 1 channel low and SSD not yet released), when its present part began and how long the first lasts at least, whether a held
on-edge was reported, whether it is stopping or stopped with its group (R125, R129), its unexpired retries by CORE cycle (R128), consecutive CONFLICT
ticks (R119), the CORE cycle and channel of the last turn-off by CONFLICT (R136), trips since the last telemetry latch. -/
structure HbSt where
  hi : ChSt := {}
  lo : ChSt := {}
  cause : Nat := 0
  tripCh : Option Bool := none
  tripAt : Nat := 0
  soft : Option Nat := none
  softAt : Nat := 0
  softFor : Nat := 0
  heldOnce : Bool := false
  stopping : Bool := false
  stopped : Bool := false
  retries : List Nat := []
  confRun : Nat := 0
  confOff : Option (Nat × Bool) := none
  tripped : Bool := false
  deriving DecidableEq, Repr

/-- One trip of a multiple-trip window (R132): half-bridge, cause, conducting channel or 0xFF, detection instant. -/
structure TripEnt where
  hb : Nat
  cause : Nat
  ch : Nat
  at' : Nat
  deriving DecidableEq, Repr

/-- A commissioning programme (R154): its channel, the instant it began, and on-time, gap and second on-time in 20 ns steps. -/
structure TestSt where
  ch : Nat
  at' : Nat
  on1 : Nat
  gap : Nat
  on2 : Nat
  deriving DecidableEq, Repr

/-- Gate path and contactors: the half-bridges, the open multiple-trip window, the cause of BLOCK, a commissioning programme, the contactor
outputs, the filtered feedback levels (open pulls: BYP_FB high, PACK_FB low), the operations waiting for feedback, the interlocks of R140,
R143, and the copies of HB_EN, each effective dead time and blanking time, and CTL_PULSE_MIN that the edge pattern of the tick reads (R24). -/
structure GateSt where
  hbs : List HbSt := List.replicate 6 {}
  window : List TripEnt := []
  multi : Bool := false
  cause : Nat := 0
  conflictSeen : Bool := false
  test : Option TestSt := none
  bypCmd : Bool := false
  packCmd : Bool := false
  bypFb : Bool := true
  packFb : Bool := false
  bypOpening : Option Nat := none
  bypClosing : Option Nat := none
  packOp : Option (Nat × Nat) := none
  ilk : Bool := false
  actByp : Bool := false
  hbEn : Nat := 0
  dt : List Nat := []
  blank : List Nat := []
  pulseMin : Nat := 0
  deriving DecidableEq, Repr

/-! ### Conversion (05) -/

/-- A run of a unit (R166): its copies of the entries, LEN of them, and of ADCn_TRIG_CFG, the measurement instant it belongs to where TICK triggered it, the entries
written, whether sampling has begun, whether it carries HELD; in 250 ps steps the earliest and latest start of entry 0's sampling (R169, R186), the start of the
next entry's sampling once it has begun, and the instant the last result was written. -/
structure AdcRun where
  entries : List Nat
  trig : Nat := 0
  tick : Option Nat := none
  done : Nat := 0
  sampling : Bool := false
  held : Bool := false
  lo : Nat := 0
  hi : Nat := 0
  at' : Nat := 0
  endAt : Nat := 0
  deriving DecidableEq, Repr

/-- A trigger as it reached a unit (R168, R169): its instant (250 ps steps), whether it is scheduled, whether a write of GO made it, and the measurement instants seen
by then where TICK made it. -/
structure AdcTrig where
  at' : Nat
  sched : Bool := false
  go : Bool := false
  tick : Option Nat := none
  deriving DecidableEq, Repr

/-- What a unit waits for a calibration to end for (R178, R182): a self-calibration of the units in a mask, or 256 conversions of a SYSCAL step. -/
inductive CalJob where
  | self (own : Option Nat)
  | sys (own : Nat) (full : Bool) (input gain smp : Nat) (target : Int)
  deriving DecidableEq, Repr

/-- A converter unit beside its registers: its run, its pending trigger (R170), triggers that arrive after the run in progress (R174), the ADC cycle of the last trigger and
the instant of the last source trigger; a calibration, whether it is due or running and since which CORE cycle; a run of discards reported, the end of the last marked
conversion (250 ps steps) while it may still mark an entry SUSPECT, ADC_FLAGS seen since the last tick's telemetry; measurement instants that triggered it and the mask of
entries final since the last (R41); whether its last self-calibration failed, which a warm reset does not end (R180). -/
structure AdcUnit where
  run : Option AdcRun := none
  pend : Option AdcTrig := none
  after : List AdcTrig := []
  lastCyc : Option Nat := none
  fired : Option Nat := none
  job : Option CalJob := none
  jobDue : Bool := false
  jobAt : Nat := 0
  overRun : Bool := false
  susAt : Option Nat := none
  seen : Nat := 0
  ticks : Nat := 0
  final : Nat := 0
  failed : Bool := false
  deriving DecidableEq, Repr

/-- The converters: the units, the registers as they stood before the first write of an ADC cycle to the converters (R166), the stored ZERO sums of R182 (sum and gain) by
input, and the self-calibration in progress: its start, its units, those that failed. -/
structure AdcSt where
  units : List AdcUnit := List.replicate 4 {}
  before : Option (Nat × List (Nat × Word)) := none
  zeros : List (Nat × Int × Nat) := []
  calStart : Nat := 0
  calMask : Nat := 0
  calFail : Nat := 0
  deriving DecidableEq, Repr

/-! ### Weir (06) -/

/-- An arm's hold at a Basin (R201 to R204): its origins, the tick it was marked in, the CORE cycles of its markings, an unreached Spring of CHAIN_LOSS. -/
structure ArmHold where
  origins : List Nat := []
  since : Nat := 0
  marks : List Nat := []
  lost : List Nat := []
  deriving DecidableEq, Repr

/-- Weir state: the origin's SEQ (R190), the last 16 pairs obeyed (R197), the pairs relayed with their CORE cycle (R195), the arms' holds, pending
release requests and those of them that gather found (R203), the tick a station block was last made or received in (R205). -/
structure WeirSt where
  seq : Nat := 0
  obeyed : List (Nat × Nat) := []
  relayed : List (Nat × Nat × Nat) := []
  arms : List ArmHold := List.replicate 12 {}
  req : List Nat := []
  reqGot : List Nat := []
  stnSince : Nat := 0
  deriving DecidableEq, Repr

/-! ### Thermal (07) -/

/-- A Spring's die as the Basin counts it (R219, R221): used frames in a row beyond and back inside HOT_THROTTLE, beyond HOT_SHUT and below 115.0 degrees, whether
each threshold stands crossed, and its last T_DIE. -/
structure SprThm where
  spring : Nat
  t : Int := 0
  thrUp : Nat := 0
  thrDn : Nat := 0
  thr : Bool := false
  shutUp : Nat := 0
  shut : Bool := false
  cool : Nat := 0
  deriving DecidableEq, Repr

/-- Thermal state: per sensor, the CORE cycle since which it disagrees (R218); consecutive updates beyond and back inside each threshold (R219); the grace
timer, the enforcement start and its end (R225 to R227); consecutive updates below 115.0 degrees (R230). -/
structure ThmSt where
  disagree : List (Option Nat) := List.replicate 5 none
  beyond : List Nat := List.replicate 5 0
  inside : List Nat := List.replicate 5 0
  graceAt : Option Nat := none
  graceDone : Bool := false
  enforceAt : Option Nat := none
  releasedAt : Option Nat := none
  below115 : Nat := 0
  needResume : Bool := false
  sprs : List SprThm := []
  deriving DecidableEq, Repr

/-! ### CAN and packs (15) -/

/-- A receive or event FIFO beside its fill level in CANn_FIFO: the index of its head, the CORE cycle its head was locked at (R450), whether a run of
discards was reported (R452). -/
structure FifoSt where
  get : Nat := 0
  lockAt : Option Nat := none
  losing : Bool := false
  deriving DecidableEq, Repr

/-- A CAN controller beside its registers: FIFOs, a locked receive buffer (R450), the receive count, when each requested buffer was requested (ns of its own count), the buffers whose
attempt in progress is their last (R458), DUP_ID runs (R459: buffer, count, first CORE cycle), the reference messages (R460): SEQ, whether one was sent since EN, the times of
the last one, its CORE cycle; a recovery running and whether the controller is bus-off, through INIT too (R443), the
CAN cycle each TXCAN bit was last set in (R458), whether a run of discards at locked receive buffers was reported. -/
structure CanUnit where
  rx0 : FifoSt := {}
  rx1 : FifoSt := {}
  tef : FifoSt := {}
  rxbLock : Option (Nat × Nat) := none
  rseq : Nat := 0
  reqAt : List (Nat × Nat) := []
  noRetry : List Nat := []
  dup : List (Nat × Nat × Nat) := []
  refSeq : Nat := 0
  refSent : Bool := false
  refTod : List Nat := []
  refAt : Nat := 0
  recovering : Bool := false
  off : Bool := false
  canAt : List (Nat × Nat) := []
  bufLosing : Bool := false
  deriving DecidableEq, Repr

/-- The pack decoder of a Spring (R461 to R465): the working record by field code, the standard record's ten words, the CORE cycle of its completion,
the serial of the record before (the identity in force stands in the always-on domain), rows already reported short, and the CORE cycle STALE was set at. -/
structure PackSt where
  work : List (Nat × Int) := []
  std : List Nat := List.replicate 10 0
  doneAt : Option Nat := none
  lastSerial : List Nat := List.replicate 16 0
  shortRows : List Nat := []
  staleAt : Nat := 0
  deriving DecidableEq, Repr

/-- The CAN block: the shared message RAM (bytes by address below 65,536, one not listed reads 0), the controllers, the pack decoder. -/
structure CanSt where
  ram : List Host.Cell := []
  units : List CanUnit := List.replicate 4 {}
  pack : PackSt := {}
  deriving DecidableEq, Repr

/-! ### Redundancy (13) -/

/-- A voted group beside RED_VOTEg: the channel that dissents and the CORE cycle it began at; the CORE cycle since which the excluded channel agrees with both
others; the CORE cycle of the exclusion (R398 to R400). -/
structure VoteSt where
  diss : Option (Nat × Nat) := none
  agree : Option Nat := none
  exclAt : Nat := 0
  warned : Bool := false
  deriving DecidableEq, Repr

/-- A slot as the shadow pipeline computed it for a tick (R390), or as this Basin dispatches it: Spring index and slot. -/
structure MySlot where
  spring : Nat
  slot : Slot
  deriving DecidableEq, Repr

/-- Redundancy state of a Basin, and SRAM error counts of both roles: voted groups; the peer's last HEALTH and the CORE cycle it came at; the CORE cycle the
election began at; whether a heartbeat was ever received and whether the one awaited has come; the active Basin's claim, as seen; slots computed for the next boundary;
differing slots of this tick and ticks without one (R391); whether the takeover budget holds (R388, bit 0 of `fit`); SLOT_SEQs seen in the active Basin's frames (R370); the next
BIST segment and the CORE cycle of the last (R392); corrected errors by row (R394); ports PRBS-tested and failing; the CORE cycle of the last HEALTH frame sent;
listed rows that have a spare row mapped (R396); the active Basin's last header, and the tick that the last FAR_FED frame seen carried (R388, R390); the tick `slots`
are for, and the chains whose slots of that tick have been compared (R391). -/
structure RedSt where
  votes : List VoteSt := List.replicate 14 {}
  health : Option Health := none
  healthAt : Option Nat := none
  electAt : Option Nat := none
  hbEver : Bool := false
  hbGot : Bool := false
  seenClaim : Nat := 0
  slots : List MySlot := []
  differ : Nat := 0
  syncTicks : Nat := 0
  fit : Nat := 0
  seqsSeen : List (Nat × Nat) := []
  bist : Nat := 0
  bistAt : Nat := 0
  rows : List (Nat × Nat) := []
  prbsTested : Nat := 0
  prbsFail : Nat := 0
  healthTx : Option Nat := none
  mapped : List Nat := []
  hdr : Option TickHdr := none
  farAt : Option Nat := none
  slotsFor : Nat := 0
  compared : List Nat := []
  early : List TickFrame := []
  firstDiff : Option (Nat × Nat) := none
  deriving DecidableEq, Repr

/-! ### Safety (14) -/

/-- A test pulse (R418): its output (0 HS, 1 LS), its start, whether the readback has shown off, whether the output is driven on again,
whether PLL-S has been on its safe clock meanwhile. -/
structure PulseSt where
  out : Nat
  at' : Nat
  sawOff : Bool := false
  ended : Bool := false
  lost : Bool := false
  deriving DecidableEq, Repr

/-- Safety state beside its registers; instants are CORE cycles. The guard: whether both channels have read open together, whether a discrepancy keeps it open,
since when the channels differ. Outputs: when OFF_DLY ends and what began it, when they switched on, whether the switch-on is confirmed, since when each
readback differs, the pulse running, the last completed pulse of each output and of any, which output is degraded, since when the pair of them is, which has completed a pulse
since, whether that time has warned and expired (R420). The lock: ROLE_ID, SAFE_CRC at unlocking, a relock that waits for a SAFETY_CFG (R437), last activity, AUTH_FAILs in a row, start
of a lockout. The PDU: SEQ sent and last sent, SEQ received, when and with which WD_MS, whether a fault stands, since when PDUs are valid without STOP, whether
its cause latched with the outputs off and did nothing else (R437). -/
structure SafeSt where
  gOpen : Bool := false
  gBad : Bool := false
  gDiff : Option Nat := none
  offAt : Option Nat := none
  offFrom : Nat := 0
  offCause : Nat := 0
  onAt : Option Nat := none
  onDue : Bool := false
  fbDiff : List (Option Nat) := [none, none]
  pulse : Option PulseSt := none
  pulseDue : Nat := 0
  pulseDone : List Nat := [0, 0]
  lastPulse : Option Nat := none
  degraded : List Bool := [false, false]
  degFrom : Option Nat := none
  degOk : List Bool := [true, true]
  degWarned : Bool := false
  degExpired : Bool := false
  roleId : Nat := 0
  unlockCrc : Nat := 0
  relockDue : Bool := false
  lastAct : Nat := 0
  fails : Nat := 0
  lockoutAt : Option Nat := none
  txSeq : Nat := 0
  lastTx : Nat := 0
  rxSeq : Option Nat := none
  rxAt : Option Nat := none
  rxWd : Nat := 0
  pduBad : Bool := false
  cleanSince : Option Nat := none
  pduQuiet : Bool := false
  deriving DecidableEq, Repr


/-- The W1C bits the hardware has set in one CORE cycle, as offset and bit: a clear written in that same cycle leaves them set (R11). -/
structure W1cSt where
  at' : Nat := 0
  bits : List (Nat × Nat) := []
  deriving DecidableEq, Repr

/-- The state of one VT9216. Every field's default is its value right after PORST_N release. -/
structure State where
  /-- role sampled from STRAP_ROLE (R1) -/
  role : Role := .basin
  /-- side sampled from STRAP_SIDE (R1) -/
  side : Side := .a
  /-- STRAP_BOOT[1:0] as sampled (R1) -/
  boot : Nat := 0
  /-- registers whose word differs from its reset word, by BAR0 offset, strictly rising (R10 to R12) -/
  regs : List (Nat × Word) := []
  /-- W1C bits set in this CORE cycle (R11) -/
  w1c : W1cSt := {}
  /-- supplies and resets -/
  pwr : PwrSt := {}
  /-- clocks -/
  clk : ClkSt := {}
  /-- time -/
  time : TimeSt := {}
  /-- event recorder -/
  recd : RecSt := {}
  /-- always-on domain -/
  aon : AonSt := {}
  /-- external NOR -/
  nor : NorSt := {}
  /-- table images -/
  tbl : TblSt := {}
  /-- host queues and ordering -/
  host : HostSt := {}
  /-- words of the PCIe configuration space the host has written, by offset (R33, R316) -/
  pcie : List (Nat × Word) := []
  /-- chain links -/
  lnk : LnkSt := {}
  /-- the control tick, Basin side -/
  ctl : CtlSt := {}
  /-- Sluice -/
  slu : SluSt := {}
  /-- the control tick, Spring side -/
  spr : SprSt := {}
  /-- gate path and contactors -/
  gate : GateSt := {}
  /-- converters -/
  adc : AdcSt := {}
  /-- Weir -/
  weir : WeirSt := {}
  /-- thermal -/
  thm : ThmSt := {}
  /-- CAN controllers and pack decoder -/
  can : CanSt := {}
  /-- redundancy -/
  red : RedSt := {}
  /-- safety functions -/
  safe : SafeSt := {}
  /-- the ports' transmit lanes (R29, R241, R245) -/
  lanes : List Lane := List.replicate 12 {}
  /-- what the device has put out at its ports, oldest first (the model's own record) -/
  out : List OutMsg := []
  /-- how many free values have been drawn (the model's own counter) -/
  free : Nat := 0
  /-- the commands waiting, first in, first out -/
  pending : List Instr := []
  deriving DecidableEq, Repr

/-- The device right after the release of PORST_N with its straps open: a Basin, side A, boot code 0b00 (R525, R526, R556). -/
def State.reset : State := {}

end Sys2Proof.Machine
end

