-- ==== Sys2Proof/Machine/Wire.lean ====
section
/-! DEFINITION. Wire.lean: how everything that crosses a ball or the host link is laid out in bytes and blocks, and read back: ordered sets (R191, R192, R238), frames
(R72, R74, R237, R240 to R242, R246, R253, R254, R393), records (R469, R486), descriptors, completions and stream records (R326, R330, R336, R338). -/
namespace Sys2Proof.Machine

/-- A signed value in `n` little-endian bytes, and back (R8). -/
def sBytes (n : Nat) (v : Int) : List Nat := leBytes n (ofSigned (8 * n) v)
def sAt (l : List Nat) (i n : Nat) : Int := toSigned (8 * n) (bytesAt l i n)

/-- A list cut or filled with zeros to `n` bytes. -/
def padTo (n : Nat) (l : List Nat) : List Nat := (l ++ List.replicate n 0).take n

/-! ### Ordered sets (R191, R192, R238) -/

/-- One bit step of the CRC-8 of R192. -/
def crc8Step (c : Nat) (b : Bool) : Nat :=
  let c' := (2 * c) % 256
  if (c.testBit 7) != b then c' ^^^ 0x2F else c'

/-- The CRC-8 of R192 over bits 0 to 47. -/
def crc8 (w : Nat) : Nat := (List.range 48).foldl (fun c i => crc8Step c (w.testBit i)) 0xFF

/-- The 56 bits of an ordered set: 48 bits and their CRC-8. -/
def oset (w : Nat) : Nat := w % 2 ^ 48 + 2 ^ 48 * crc8 w

/-- The CRC-8 of an ordered set received matches. -/
def osetOk (v : Nat) : Bool := bitsOf v 48 8 == crc8 (v % 2 ^ 48)

/-- O_CODE. -/
def ocTRAIN : Nat := 1
def ocEI : Nat := 2
def ocWEIR : Nat := 0xA
def osetCode (v : Nat) : Nat := v % 16

/-- A TRAIN block. -/
def trainSet (locked : Bool) (role : Role) (count port : Nat) : Nat :=
  oset (ocTRAIN + 16 * b2n locked + 32 * b2n (role == .spring) + 2 ^ 8 * (count % 256) + 2 ^ 16 * (port % 16))

/-- A burst: 128 TRAIN blocks, COUNT from 127 down to 0 (R249). -/
def trainBurst (locked : Bool) (role : Role) (port : Nat) : List Nat := (List.range 128).map (fun i => trainSet locked role (127 - i) port)

/-- EI_ENTER. -/
def eiSet : Nat := oset ocEI

/-- The fields of a WEIR ordered set. -/
def weirFields (w : Nat) : WeirSet :=
  ⟨bitsOf w 4 2, bitsOf w 6 4, bitsOf w 10 4, bitsOf w 14 8, bitsOf w 22 8, bitsOf w 30 18⟩

/-- The WEIR ordered set of some fields. -/
def weirSet (x : WeirSet) : Nat :=
  oset (ocWEIR + 2 ^ 4 * (x.scope % 4) + 2 ^ 6 * (x.arm % 16) + 2 ^ 10 * (x.cause % 16) + 2 ^ 14 * (x.origin % 256) + 2 ^ 22 * (x.seq % 256) + 2 ^ 30 * (x.stamp % 2 ^ 18))

/-! ### Frames (R240 to R242) -/

/-- FTYPE. -/
def ftTICK : Nat := 1
def ftTELEM : Nat := 2
def ftMGMT : Nat := 3
def ftSYNC : Nat := 4

/-- The envelope of a frame. -/
def envelope (ft : Nat) (relayed : Bool) (addr : Nat) : List Nat := [ft % 16 + 16 * b2n relayed, addr % 256]

/-- A frame's bytes: envelope, body, CRC-32. -/
def frameBytes (ft : Nat) (relayed : Bool) (addr : Nat) (body : List Nat) : List Nat :=
  let l := envelope ft relayed addr ++ body
  l ++ leBytes 4 (crc32 l)

/-- FTYPE, RELAYED, ADDR and body of a frame's bytes. -/
def ftypeOf (l : List Nat) : Nat := l.getD 0 0 % 16
def relayedOf (l : List Nat) : Bool := bitOf (l.getD 0 0) 4
def addrOf (l : List Nat) : Nat := l.getD 1 0
def bodyOf (l : List Nat) : List Nat := (l.drop 2).take (l.length - 6)

/-- The CRC-32 of a frame matches. -/
def frameOk (l : List Nat) : Bool := decide (6 ≤ l.length) && bytesAt l (l.length - 4) 4 == crc32 (l.take (l.length - 4))

/-- Data blocks of what follows the start block, and the terminate block with the remainder. -/
def tailBlocks : Nat → List Nat → List Block
  | 0, l => [.term l]
  | n + 1, l => if l.length < 8 then [.term l] else .data (l.take 8) :: tailBlocks n (l.drop 8)

/-- The blocks of a frame of some bytes (R237, R240). -/
def frameBlocks (l : List Nat) : List Block := .start (l.take 7) :: tailBlocks l.length (l.drop 7)

/-- Blocks a frame of C bytes occupies (R240). -/
def blockCount (c : Nat) : Nat := (c - 7) / 8 + 2

/-- What a receiver makes of the blocks of one frame, from its start block on: its bytes so far, whether a frame nested in it is open, whether it has ended, whether it
was dropped, the blocks counted in LNK_CRC_ERR and in LNK_HDR_ERR. -/
structure Heard where
  bytes : List Nat := []
  isOpen : Bool := false
  inner : Bool := false
  done : Bool := false
  bad : Bool := false
  errs : Nat := 0
  hdrs : Nat := 0
  deriving DecidableEq, Repr

/-- One more block (R237, R241, R263): a frame inside an open MGMT or SYNC frame is a frame of its own; a start block inside a TICK or TELEM frame drops both; a block
of another kind or a reserved O_CODE drops the frame it arrives in. -/
def Heard.step (r : Heard) (b : Block) : Heard :=
  if r.done || r.bad then r
  else
    match b with
    | .start x =>
      if !r.isOpen then { r with bytes := x, isOpen := true }
      else if r.inner then r
      else if ftypeOf r.bytes == ftMGMT || ftypeOf r.bytes == ftSYNC then { r with inner := true }
      else { r with bad := true, errs := r.errs + 1 }
    | .data x => if r.inner || !r.isOpen then r else { r with bytes := r.bytes ++ x }
    | .term x => if !r.isOpen then r else if r.inner then { r with inner := false } else { r with bytes := r.bytes ++ x, done := true }
    | .idle => r
    | .oset v => if r.inner || [ocTRAIN, ocEI, ocWEIR].contains (osetCode v) then r else { r with bad := r.isOpen, errs := r.errs + 1 }
    | .other => if r.inner then r else { r with bad := r.isOpen, errs := r.errs + 1 }
    | .badHdr => if r.inner then r else { r with bad := r.isOpen, errs := r.errs + 1, hdrs := r.hdrs + 1 }

/-- The blocks of one frame heard. -/
def hear (bs : List Block) : Heard := bs.foldl Heard.step {}

/-- The frame arrived whole, with its check and a known FTYPE. -/
def Heard.good (r : Heard) : Bool := r.done && !r.bad && frameOk r.bytes && [ftTICK, ftTELEM, ftMGMT, ftSYNC].contains (ftypeOf r.bytes)

/-- The blocks of a frame alone: without idle blocks, ordered sets and discarded blocks, and without those of a frame inside it. -/
def ownBlocks : Heard → List Block → List Block
  | _, [] => []
  | r, b :: t =>
    let n := r.step b
    let mine := match b with
      | .start _ => !n.inner
      | .data _ => !r.inner
      | .term _ => !r.inner
      | _ => false
    if mine then b :: ownBlocks n t else ownBlocks n t

/-- What it adds to LNK_CRC_ERR (R237, R240, R251, R265). -/
def Heard.count (r : Heard) : Nat := r.errs + b2n (r.done && !r.bad && !r.good)

/-! ### TICK (R72, R242) -/

def slotBytes (x : Slot) : List Nat :=
  [x.mode % 256] ++ sBytes 1 x.level ++ leBytes 2 x.seq ++ sBytes 2 x.m ++ leBytes 3 x.phase ++ [b2n x.restart + 2 * b2n x.dabEn] ++ sBytes 2 x.pDab ++
    [0, 0, 0, 0, x.cmdSrc % 256, x.cmdOp % 256] ++ padTo 14 x.cmdParam

def slotOf (l : List Nat) : Slot :=
  { mode := bytesAt l 0 1, level := sAt l 1 1, seq := bytesAt l 2 2, m := sAt l 4 2, phase := bytesAt l 6 3, restart := bitOf (bytesAt l 9 1) 0
    dabEn := bitOf (bytesAt l 9 1) 1, pDab := sAt l 10 2, cmdSrc := bytesAt l 16 1, cmdOp := bytesAt l 17 1, cmdParam := (l.drop 18).take 14 }

/-- Header bytes 0 to 59. -/
def hdrBytes (h : TickHdr) : List Nat :=
  leBytes 4 h.tick ++ leBytes 4 h.bound ++ leBytes 2 h.period ++ leBytes 2 h.claim ++
    [h.nslot % 256, h.state % 32, b2n (h.side == .b) + 2 * b2n h.farFed + 4 * b2n h.weirStn, 0] ++ leBytes 2 (h.weirHold % 2 ^ 12) ++ leBytes 2 h.epoch ++
    leBytes 4 h.weirRstamp ++ leBytes 6 h.todSec ++ leBytes 4 (h.todNs % 2 ^ 30) ++ List.replicate 26 0

def hdrOf (l : List Nat) : TickHdr :=
  let f := bytesAt l 14 1
  let sec := bytesAt l 24 6
  let ns := bytesAt l 30 4 % 2 ^ 30
  { tick := bytesAt l 0 4, bound := bytesAt l 4 4, period := bytesAt l 8 2, claim := bytesAt l 10 2, nslot := bytesAt l 12 1, state := bytesAt l 13 1 % 32
    side := if bitOf f 0 then .b else .a, farFed := bitOf f 1, weirStn := bitOf f 2, weirHold := bytesAt l 16 2 % 2 ^ 12, epoch := bytesAt l 18 2
    weirRstamp := bytesAt l 20 4, todSec := sec, todNs := ns, todValid := Config.todShown sec ns }

/-- A TICK frame's body: the header with its HDR_CRC over envelope and header bytes 0 to 59, then the slots. -/
def tickBody (f : TickFrame) : List Nat :=
  hdrBytes f.hdr ++ leBytes 4 (crc32 (envelope ftTICK f.relayed f.chain ++ hdrBytes f.hdr)) ++ f.slots.flatMap slotBytes

/-- The HDR_CRC of a frame received so far matches. -/
def hdrOk (l : List Nat) : Bool := decide (66 ≤ l.length) && bytesAt l 62 4 == crc32 (l.take 62)

/-- The TICK frame that bytes hold; slots beyond NSLOT are none. -/
def tickOf (l : List Nat) : TickFrame :=
  let body := bodyOf l
  let h := hdrOf (l.drop 2)
  { chain := addrOf l, relayed := relayedOf l, hdr := h
    slots := ((List.range h.nslot).filter (fun i => decide (64 + 32 * (i + 1) ≤ body.length))).map (fun i => slotOf ((body.drop (64 + 32 * i)).take 32)) }

/-! ### TELEM (R74) -/

def telemBody (t : Telem) : List Nat :=
  leBytes 4 t.tick ++ [t.epoch % 256, b2n t.clip + 2 * b2n t.seqLate + 4 * b2n t.uncal + 8 * b2n t.busy + 16 * b2n t.blocked + 32 * b2n t.bypClosed +
    64 * b2n t.held + 128 * b2n t.evtPending] ++ leBytes 2 t.slotSeq ++ leBytes 4 t.measStamp ++ leBytes 2 t.vDc ++ sBytes 2 t.iStr ++ leBytes 2 t.vLv ++
  sBytes 2 t.iLv ++ sBytes 2 t.iPack ++ sBytes 2 t.pHb ++ sBytes 2 t.pDab ++ sBytes 2 t.mApplied ++ sBytes 2 t.dabY ++ [t.mode % 256, t.hbFault % 256] ++
  sBytes 2 t.tHs ++ sBytes 2 t.tDie ++ sBytes 2 t.tCellMin ++ sBytes 2 t.tCellMax ++ leBytes 2 t.soc ++ leBytes 2 t.soh ++ leBytes 2 t.iChgLim ++
  leBytes 2 t.iDisLim ++ leBytes 2 t.vPackBms ++ leBytes 2 t.bmsAge ++ leBytes 4 t.eIn ++ leBytes 4 t.eOut ++ leBytes 2 t.pLimChg ++ leBytes 2 t.pLimDis ++
  leBytes 2 t.bmsFault ++ leBytes 2 t.cellStatus ++ leBytes 2 t.clipSrc ++ leBytes 2 t.evtCount ++ sBytes 4 t.timeErr ++ leBytes 2 t.adcFlags ++ [0, 0] ++
  (padTo 8 (t.sel.flatMap (sBytes 2))) ++ List.replicate 8 0

def telemOf (l : List Nat) : Telem :=
  let b := bodyOf l
  let f := bytesAt b 5 1
  { spring := addrOf l, relayed := relayedOf l, tick := bytesAt b 0 4, epoch := bytesAt b 4 1, clip := bitOf f 0, seqLate := bitOf f 1, uncal := bitOf f 2
    busy := bitOf f 3, blocked := bitOf f 4, bypClosed := bitOf f 5, held := bitOf f 6, evtPending := bitOf f 7, slotSeq := bytesAt b 6 2
    measStamp := bytesAt b 8 4, vDc := bytesAt b 12 2, iStr := sAt b 14 2, vLv := bytesAt b 16 2, iLv := sAt b 18 2, iPack := sAt b 20 2, pHb := sAt b 22 2
    pDab := sAt b 24 2, mApplied := sAt b 26 2, dabY := sAt b 28 2, mode := bytesAt b 30 1, hbFault := bytesAt b 31 1, tHs := sAt b 32 2, tDie := sAt b 34 2
    tCellMin := sAt b 36 2, tCellMax := sAt b 38 2, soc := bytesAt b 40 2, soh := bytesAt b 42 2, iChgLim := bytesAt b 44 2, iDisLim := bytesAt b 46 2
    vPackBms := bytesAt b 48 2, bmsAge := bytesAt b 50 2, eIn := bytesAt b 52 4, eOut := bytesAt b 56 4, pLimChg := bytesAt b 60 2, pLimDis := bytesAt b 62 2
    bmsFault := bytesAt b 64 2, cellStatus := bytesAt b 66 2, clipSrc := bytesAt b 68 2, evtCount := bytesAt b 70 2, timeErr := sAt b 72 4
    adcFlags := bytesAt b 76 2, sel := [sAt b 80 2, sAt b 82 2, sAt b 84 2, sAt b 86 2] }

/-! ### MGMT and SYNC (R246, R253, R254, R393) -/

def mgmtBody (m : Mgmt) : List Nat :=
  [m.src % 256, m.op % 256] ++ leBytes 2 m.mseq ++ leBytes 2 m.payload.length ++ [m.chain % 256, m.hop % 256] ++ leBytes 4 m.param ++ m.payload

/-- The MGMT frame that bytes hold; one whose LEN disagrees with its length is dropped. -/
def mgmtOf (l : List Nat) : Option Mgmt :=
  let b := bodyOf l
  if ftypeOf l == ftMGMT && decide (12 ≤ b.length) && bytesAt b 4 2 == b.length - 12 && decide (b.length ≤ 268) then
    some { relayed := relayedOf l, addr := addrOf l, src := bytesAt b 0 1, op := bytesAt b 1 1, mseq := bytesAt b 2 2, chain := bytesAt b 6 1, hop := bytesAt b 7 1
           param := bytesAt b 8 4, payload := b.drop 12 }
  else none

def syncBody (f : SyncFrame) : List Nat :=
  [f.kind % 256, f.port % 16 + 16 * b2n f.facesA] ++ leBytes 2 f.sseq ++ leBytes 6 f.t2 ++ leBytes 6 f.t3 ++ [f.mhop % 256, 0] ++ sBytes 4 f.terr ++ List.replicate 10 0

/-- The SYNC frame that bytes hold. -/
def syncOf (l : List Nat) : SyncFrame :=
  let b := bodyOf l
  { kind := bytesAt b 0 1, port := bytesAt b 1 1 % 16, facesA := bitOf (bytesAt b 1 1) 4, sseq := bytesAt b 2 2, t2 := bytesAt b 4 6, t3 := bytesAt b 10 6
    mhop := bytesAt b 16 1, terr := sAt b 18 4 }

/-- A frame's bytes on the lane. -/
def wireBytes : Frame → List Nat
  | .tick f => frameBytes ftTICK f.relayed f.chain (tickBody f)
  | .telem t => frameBytes ftTELEM t.relayed t.spring (telemBody t)
  | .mgmt m => frameBytes ftMGMT m.relayed m.addr (mgmtBody m)
  | .sync f => frameBytes ftSYNC false 0xFD (syncBody f)

/-- The payload of an ENROL_REPLY. -/
def replyBytes (r : EnrolReply) : List Nat :=
  [r.index % 256, r.position % 256, r.ports % 256, r.epoch % 256] ++ leBytes 4 r.rev ++ leBytes 8 r.serial ++ [r.straps % 256] ++ List.replicate 7 0

def replyOf (b : List Nat) : EnrolReply := ⟨bytesAt b 0 1, bytesAt b 1 1, bytesAt b 2 1, bytesAt b 3 1, bytesAt b 4 4, bytesAt b 8 8, bytesAt b 16 1⟩

/-- The payload of a HEALTH frame. -/
def healthBytes (h : Health) : List Nat :=
  [h.role % 8 + 128 * b2n (h.side == .b), h.fit % 128] ++ leBytes 2 h.claim ++ leBytes 4 h.tick ++ leBytes 4 h.shadowMis ++ leBytes 2 h.rowsLeft ++ leBytes 2 h.rowsPend ++
    leBytes 4 h.eccCorr ++ leBytes 2 h.prbsTested ++ leBytes 2 h.prbsFail ++ [h.vaon % 256, h.sens % 256] ++ leBytes 2 h.voteExcl ++ leBytes 2 h.chainExcl ++
    leBytes 2 h.secondPath ++ leBytes 2 h.norSpare ++ [h.recorder % 256] ++ List.replicate 29 0

def healthOf (b : List Nat) : Health :=
  { role := bytesAt b 0 1 % 8, side := if bitOf (bytesAt b 0 1) 7 then .b else .a, fit := bytesAt b 1 1, claim := bytesAt b 2 2, tick := bytesAt b 4 4
    shadowMis := bytesAt b 8 4, rowsLeft := bytesAt b 12 2, rowsPend := bytesAt b 14 2, eccCorr := bytesAt b 16 4, prbsTested := bytesAt b 20 2
    prbsFail := bytesAt b 22 2, vaon := bytesAt b 24 1, sens := bytesAt b 25 1, voteExcl := bytesAt b 26 2, chainExcl := bytesAt b 28 2
    secondPath := bytesAt b 30 2, norSpare := bytesAt b 32 2, recorder := bytesAt b 34 1 }

/-! ### Records (R469, R476, R486) -/

/-- Bytes 0 to 59 of an event record. -/
def evHead (r : EvRec) : List Nat :=
  leBytes 4 r.seq ++ leBytes 4 r.stamp ++ leBytes 4 r.secLo ++ leBytes 2 r.epoch ++ leBytes 2 r.code ++
    [r.source % 256, r.commit % 256, r.sev % 16 + 16 * b2n r.todValid + 32 * b2n r.journal, 0] ++ leBytes 2 r.suppressed ++ leBytes 2 r.lseq ++ leBytes 4 r.tick ++
    padTo 32 r.payload

/-- A committed record's 64 bytes, with the CRC the committing Basin computes; in transit CRC is 0 (R470). -/
def evBytes (r : EvRec) : List Nat := evHead r ++ leBytes 4 (if r.commit = 0xFF then 0 else crc32 (evHead r))

def evOf (b : List Nat) : EvRec :=
  let f := bytesAt b 18 1
  { seq := bytesAt b 0 4, stamp := bytesAt b 4 4, secLo := bytesAt b 8 4, epoch := bytesAt b 12 2, code := bytesAt b 14 2, source := bytesAt b 16 1
    commit := bytesAt b 17 1, sev := f % 16, todValid := bitOf f 4, journal := bitOf f 5, suppressed := bytesAt b 20 2, lseq := bytesAt b 22 2
    tick := bytesAt b 24 4, payload := (b.drop 28).take 32 }

/-- Bytes 0 to 51 of a ledger record. -/
def ledgerBytes (r : LedgerRec) : List Nat :=
  padTo 16 r.packSerial ++ leBytes 8 r.devSerial ++ leBytes 8 r.eIn ++ leBytes 8 r.eOut ++ leBytes 4 r.recSec ++ leBytes 2 r.epoch ++
    leBytes 2 r.rseq ++ [r.kind % 256, b2n r.todValid + 2 * b2n r.unauth, r.index % 256, 0]

/-- A ledger record's 64 bytes. -/
def ledgerFull (r : LedgerRec) : List Nat := ledgerBytes r ++ leBytes 8 r.tag ++ leBytes 4 r.lseq

def ledgerOf (b : List Nat) : LedgerRec :=
  { packSerial := b.take 16, devSerial := bytesAt b 16 8, eIn := bytesAt b 24 8, eOut := bytesAt b 32 8, recSec := bytesAt b 40 4, epoch := bytesAt b 44 2
    rseq := bytesAt b 46 2, kind := bytesAt b 48 1, todValid := bitOf (bytesAt b 49 1) 0, unauth := bitOf (bytesAt b 49 1) 1, index := bytesAt b 50 1
    tag := bytesAt b 52 8, lseq := bytesAt b 60 4 }

/-- The 64-byte records of a payload. -/
def records (n : Nat) (b : List Nat) : List (List Nat) := (List.range (min n (b.length / 64))).map (fun i => (b.drop (64 * i)).take 64)

/-! ### The host's structures (R326, R330, R336, R338) -/

/-- The descriptor that 64 bytes hold. -/
def descOf (b : List Nat) : Desc :=
  { opcode := bytesAt b 0 1, flags := bytesAt b 1 1, tag := bytesAt b 2 2, target := bytesAt b 4 4, applyTick := bytesAt b 8 4, length := bytesAt b 12 4
    buffer := bytesAt b 16 8, param := padTo 40 (b.drop 24) }

/-- The bytes of a descriptor. -/
def descBytes (d : Desc) : List Nat :=
  [d.opcode % 256, d.flags % 256] ++ leBytes 2 d.tag ++ leBytes 4 d.target ++ leBytes 4 d.applyTick ++ leBytes 4 d.length ++ leBytes 8 d.buffer ++ padTo 40 d.param

end Sys2Proof.Machine
end

