-- ==== Sys2Proof/Machine/Ops.lean ====
section
/-! DEFINITION. Ops.lean: the named operations every meaning is written over: registers and fields, the guards of role and reset,
the passage of time, and what leaves the device. -/
namespace Sys2Proof.Machine

/-- What every command's effect answers. -/
abbrev Out := Host.Outcome State Fault Refusal

/-! ### Registers -/

/-- The word listed for an offset, if one is. -/
def Regs.find : List (Nat × Word) → Nat → Option Word
  | [], _ => none
  | (k, v) :: t, o => if k = o then some v else Regs.find t o

/-- The list without an offset's entry. -/
def Regs.erase : List (Nat × Word) → Nat → List (Nat × Word)
  | [], _ => []
  | (k, v) :: t, o => if k = o then Regs.erase t o else (k, v) :: Regs.erase t o

/-- An entry put in its place by rising offset. -/
def Regs.insert : List (Nat × Word) → Nat → Word → List (Nat × Word)
  | [], o, w => [(o, w)]
  | (k, v) :: t, o, w => if o < k then (o, w) :: (k, v) :: t else (k, v) :: Regs.insert t o w

/-- The list with a word written: an entry equal to its reset word is not listed. -/
def Regs.put (r : List (Nat × Word)) (rst : Word) (o : Nat) (w : Word) : List (Nat × Word) :=
  if w = rst then Regs.erase r o else Regs.insert (Regs.erase r o) o w

/-- Whether a row's register (or one of its array) stands at an offset. -/
def RegRow.has (r : RegRow) (o : Nat) : Bool :=
  decide (r.base ≤ o) &&
    (let d := o - r.base
     if r.s1 = 0 then d == 0
     else if r.s2 = 0 then d % r.s1 == 0 && decide (d / r.s1 < r.c1)
     else decide (d / r.s1 < r.c1) && (d % r.s1) % r.s2 == 0 && decide ((d % r.s1) / r.s2 < r.c2))

/-- The row of the index that holds an offset's register (R566). -/
def rowAt (o : Nat) : Option RegRow := (regRowsAt o).find? (fun r => r.has o)

/-- Whether an offset's register exists in a role: the role column of R566, and ports P2 to P11 of a Spring (R265). -/
def rowLive (role : Role) (r : RegRow) (o : Nat) : Bool :=
  match role with
  | .basin => r.role != 2
  | .spring => r.role != 1 && !(decide (0x8800 ≤ o) && decide (o < 0xB000)) && !(decide (0x2048 ≤ o) && decide (o < 0x2070)) &&
      !(decide (0x24048 ≤ o) && decide (o < 0x24078))

/-- Spare rows of a bank that the fuses leave unused, 32 a bank (R394, R396). -/
def fuseRowsLeft (bank : Nat) : Nat := 32 - (Config.fusedRows.filter (fun r => r / 65536 == bank)).length

/-- What the fuses give a register: ADCn_CALx (R187), and USED and LEFT of RED_SRAM (R404). -/
def fuseBits (o : Nat) : Word :=
  if o = 0x24024 then
    let left := ((List.range 6).map fuseRowsLeft).foldl (· + ·) 0
    BitVec.ofNat 32 ((192 - left) * 256 + left)
  else if decide (0x14000 ≤ o) && decide (o < 0x14400) && decide (0xC0 ≤ o % 0x100) && decide (o % 0x100 < 0xE0) then
    (if o % 0x100 < 0xD4 then BitVec.ofNat 32 ((Config.fuseWord o).toNat % 65536) else Config.fuseWord o)
  else 0#32

/-- The word a register takes at PORST_N release (R12, R526, R566): values, straps by role and side, fuses; "image" fields read 0 (R504). -/
def resetWord (role : Role) (side : Side) (o : Nat) : Word :=
  match rowAt o with
  | none => 0#32
  | some r =>
    if rowLive role r o then
      (match role with
       | .basin => BitVec.ofNat 32 r.resetB ||| (if o = 0x24004 && side == .b then 0x00080000#32 else 0#32)
       | .spring => BitVec.ofNat 32 r.resetS ||| (if o = 0x8000 || o = 0x8400 then 1#32 else 0#32)) ||| fuseBits o
    else 0#32

/-- The stored word of the register at an offset. -/
def State.rd (s : State) (o : Nat) : Word := (Regs.find s.regs o).getD (resetWord s.role s.side o)

/-- The state with a register's word replaced. -/
def State.wr (s : State) (o : Nat) (w : Word) : State :=
  { s with regs := Regs.put s.regs (resetWord s.role s.side o) o w }

/-- A word with a field replaced. -/
def putField (w : Word) (lo n v : Nat) : Word :=
  let m : Word := BitVec.ofNat 32 (2 ^ n - 1) <<< lo
  (w &&& ~~~m) ||| ((BitVec.ofNat 32 v <<< lo) &&& m)

/-- A field's value (R7). -/
def State.get (s : State) (f : Fld) : Nat := bitsOf (s.rd f.off).toNat f.lo f.w

/-- A field replaced by a value's low bits. -/
def State.set (s : State) (f : Fld) (v : Nat) : State := s.wr f.off (putField (s.rd f.off) f.lo f.w v)

/-- A signed field's value (R8). -/
def State.getI (s : State) (f : Fld) : Int := toSigned f.w (s.get f)

/-- A signed field set. -/
def State.setI (s : State) (f : Fld) (v : Int) : State := s.set f (ofSigned f.w v)

/-- A one-bit field read as a Bool. -/
def State.flag (s : State) (f : Fld) : Bool := s.get f != 0

/-- A one-bit field set from a Bool. -/
def State.setFlag (s : State) (f : Fld) (b : Bool) : State := s.set f (b2n b)

/-- A saturating counter field raised by `n`. -/
def State.addSat (s : State) (f : Fld) (n : Nat) : State := s.set f (min (s.get f + n) (2 ^ f.w - 1))

/-- A saturating counter field raised by one. -/
def State.inc (s : State) (f : Fld) : State := s.addSat f 1

/-- Bit `n` of a mask field set or cleared. -/
def State.setBit (s : State) (f : Fld) (n : Nat) (b : Bool) : State :=
  let m := s.get f
  s.set f (if b then m ||| 2 ^ n else (if m.testBit n then m - 2 ^ n else m))

/-- Bit `n` of a W1C field set by the hardware, and kept against a clear of the same CORE cycle (R11). -/
def State.hwSet (s : State) (f : Fld) (n : Nat) : State :=
  let old := if s.w1c.at' = s.time.cyc then s.w1c.bits else []
  { s.setBit f n true with w1c := ⟨s.time.cyc, (f.off, f.lo + n) :: old⟩ }

/-- The W1C bits of a register that the hardware has set in the present CORE cycle. -/
def State.freshBits (s : State) (o : Nat) : Nat :=
  if s.w1c.at' = s.time.cyc then bitsMask ((s.w1c.bits.filter (fun x => x.1 == o)).map (fun x => x.2)) else 0

/-! ### Sampled configuration (R23) -/

/-- A field as gather sampled it (R23). -/
def State.cg (s : State) (f : Fld) : Nat := bitsOf ((Regs.find s.ctl.cfg f.off).getD (resetWord s.role s.side f.off)).toNat f.lo f.w

/-- The registers as a tick's stages read them, from the start of its gather on. -/
def State.sampleCfg (s : State) : State :=
  { s with ctl := { s.ctl with cfg := s.regs, gatherAt := some s.time.cyc }, weir := { s.weir with reqGot := s.weir.req } }

/-- A write in the CORE cycle in which gather starts belongs to the tick that starts. -/
def State.sampleLate (s : State) : State := if s.ctl.gatherAt == some s.time.cyc then s.sampleCfg else s

/-! ### Guards -/

/-- The device is out of every reset. -/
def State.live (s : State) : Bool := !s.pwr.full && !s.pwr.warm

/-- What no effect of a device out of full reset touches: the straps, which only the release of PORST_N samples (R1, R526), the full reset itself, which only the
supplies and PORST_N make, and the queue of commands, which is step's. -/
def State.confine (s t : State) : State :=
  { t with role := s.role, side := s.side, boot := s.boot, pending := s.pending, pwr := { t.pwr with full := s.pwr.full } }

/-- An effect under a guard. -/
def guarded (s : State) (c : Bool) (f : State → State) : Out := .next (if c then s.confine (f s) else s)

/-- An effect that needs the device out of every reset. -/
def whenLive (s : State) (f : State → State) : Out := guarded s s.live f

/-- An effect that needs the device powered and out of a full reset; it runs through a warm reset (R529). -/
def whenPowered (s : State) (f : State → State) : Out := guarded s (!s.pwr.full) f

/-- An effect of the Basin role. -/
def onBasin (s : State) (f : State → State) : Out := guarded s (s.live && s.role == .basin) f

/-- An effect of the Spring role. -/
def onSpring (s : State) (f : State → State) : Out := guarded s (s.live && s.role == .spring) f

/-- Apply an effect when a condition holds. -/
def State.when (s : State) (c : Bool) (f : State → State) : State := if c then f s else s

/-! ### Identity -/

/-- Role codes of RED_CLAIM.ROLE (R381). -/
def roleElecting : Nat := 0
def roleActive : Nat := 1
def roleStandby : Nat := 2
def roleLone : Nat := 3

/-- This Basin dispatches (R381): ACTIVE or LONE. -/
def State.dispatches (s : State) : Bool := s.get F.RED_CLAIM.ROLE == roleActive || s.get F.RED_CLAIM.ROLE == roleLone

/-- The image in force declares no Basin pair (R500, R509). -/
def State.loneImg (s : State) : Bool := !s.tbl.img.isEmpty && s.tbl.img.getD 18 0 % 2 == 0

/-- Basin A answers to 0xC0, Basin B and a lone Basin to 0xC1 (R246, R469). -/
def State.basinId (s : State) : Nat := if s.side == .a && s.get F.RED_CLAIM.ROLE != roleLone && !s.loneImg then 0xC0 else 0xC1

/-- The device's own address on the chain and in records: a Basin's, or a Spring's index, 0xFF before enrolment (R246, R469). -/
def State.selfId (s : State) : Nat := match s.role with
  | .basin => s.basinId
  | .spring => s.get F.LNK_SPOS.INDEX

/-- The tick number in force (R39): the Basin's own, or the one a Spring is in; 0 before the first. -/
def State.tickNow (s : State) : Nat := match s.role with
  | .basin => s.get F.CTL_TICK_NUM.TICK
  | .spring => s.spr.tick

/-- The tick after a tick: the count skips 0 (R39). -/
def tickSucc (k : Nat) : Nat := if k + 1 ≥ 2 ^ 32 then 1 else k + 1

/-- The tick before a tick. -/
def tickPred (k : Nat) : Nat := if k ≤ 1 then 2 ^ 32 - 1 else k - 1

/-- The tick `n` after a tick. -/
def tickAdd (k n : Nat) : Nat := if n = 0 then k else (k + n - 1) % (2 ^ 32 - 1) + 1

/-- Ticks from `a` forward to `b`, skipping 0 (R51). -/
def tickDist (a b : Nat) : Nat := if b < a then b + 2 ^ 32 - a - 1 else b - a

/-- The station state (R57): the Basin's CTL_STATUS.STATE. -/
def State.station (s : State) : Nat := s.get F.CTL_STATUS.STATE

/-- PRECHARGE, ENERGISED or STOPPING (R46). -/
def State.energisedRange (s : State) : Bool := 2 ≤ s.station && s.station ≤ 4

/-! ### Time -/

/-- The short stamp (R267). -/
def State.stamp (s : State) : Nat := s.time.ext % 2 ^ 32

/-- Time of day in ns (R271). -/
def State.todNsTotal (s : State) : Nat := ((s.time.ext : Int) + s.time.todOff).toNat

def State.todSec (s : State) : Nat := s.todNsTotal / 1000000000 % 2 ^ 48
def State.todNs (s : State) : Nat := s.todNsTotal % 1000000000

/-- Time since PORST_N release in ns, by the device's own CORE cycles. -/
def State.upNs (s : State) : Nat := 2 * s.time.cyc

/-- The CORE period in units of 2^-16 ns, times ten: 2 ns on the DCO, REFCLK's period or the AON oscillator's on the safe clock (R305). -/
def State.period10 (s : State) : Nat :=
  if s.flag F.CLK_PLLS_STAT.ON_SAFE then
    (if s.flag F.CLK_REF.BAD then 26214400 else if s.flag F.CLK_REF.FREQ then 4194304 else 6553600)
  else 1310720

/-- `n` CORE cycles pass: the short stamp and time of day advance by the steered increment, or unsteered on the safe clock (R267, R306). -/
def State.advance (n : Nat) (s : State) : State :=
  let unit : Nat := 65536 * 1000000000
  let steer : Nat := if s.flag F.CLK_PLLS_STAT.ON_SAFE then unit else ((unit : Int) + s.time.f).toNat
  let total := n * s.period10 * steer + s.time.rem
  let q := total / (10 * unit)
  let fr := s.time.frac + q
  { s with time := { s.time with ext := (s.time.ext + fr / 65536) % 2 ^ 64, frac := fr % 65536, rem := total % (10 * unit), cyc := s.time.cyc + n } }

/-! ### What leaves the device -/

/-- Something goes out at a port or toward the host. -/
def State.emit (s : State) (o : OutMsg) : State := { s with out := s.out ++ [o] }

/-- Ports whose LNK_PSTAT.STATE is UP. -/
def State.upPorts (s : State) : List Nat := (List.range 12).filter (fun p => s.get (F.LNK_PSTAT.STATE p) == 2)

/-! ### Transmit lanes (R29, R237 to R241, R245) -/

/-- Blocks that leave a lane between two CORE cycles: one in 12.8 ns, 6.4 cycles. -/
def laneSlots (a b : Nat) : Nat := b * 5 / 32 - a * 5 / 32

/-- The job whose block leaves next: a WEIR set at any block boundary; then the TICK or TELEM frame that is open, else the first that waits, also inside an open MGMT
or SYNC frame, which continues after it; another ordered set leaves between frames, before a frame that waits (R238, R249). -/
def lanePick (l : List LaneJob) : Option Nat :=
  let first := fun (p : LaneJob → Bool) => l.findIdx? p
  let inside := l.any (fun j => j.cls == 2 && j.opened)
  (first (fun j => j.cls == 0)).orElse fun _ => (first (fun j => j.cls == 1 && j.opened)).orElse fun _ =>
    (if inside then none else first (fun j => j.cls == 3)).orElse fun _ => (first (fun j => j.cls == 1)).orElse fun _ =>
      (first (fun j => j.cls == 2 && j.opened)).orElse fun _ => first (fun _ => true)

/-- One block leaves. -/
def laneSend (l : List LaneJob) : List LaneJob :=
  match lanePick l with
  | none => l
  | some i =>
    match l[i]? with
    | none => l
    | some j => if j.left ≤ 1 then l.eraseIdx i else l.set i { j with left := j.left - 1, opened := true }

def laneRun : Nat → List LaneJob → List LaneJob
  | 0, l => l
  | n + 1, l => laneRun n (laneSend l)

/-- The lane as of a later CORE cycle. -/
def Lane.upTo (x : Lane) (now : Nat) : Lane :=
  { at' := now, jobs := laneRun (min (laneSlots x.at' now) (x.jobs.foldl (fun n j => n + max 1 j.left) 0)) x.jobs }

/-- Bytes of forwarded frames that wait in the port's forwarding store (R245). -/
def Lane.stored (x : Lane) : Nat := x.jobs.foldl (fun n j => n + (if j.fwd && !j.opened then j.bytes else 0)) 0

def State.lane (s : State) (p : Nat) : Lane := (s.lanes.getD p {}).upTo s.time.cyc

/-- While PLL-L is unlocked or searching every transmit lane of the device stands still (R307). -/
def State.lanesOff (s : State) : Bool := s.clk.waitRefL || decide (s.get F.CLK_PLLL_STAT.STATE < 2)

/-- Something handed to a port's lane, which leaves the device there; a lane that stands still sends nothing. -/
def State.laneOut (s : State) (p : Nat) (j : LaneJob) (o : OutMsg) : State :=
  if s.lanesOff then s
  else
    let x := s.lane p
    { s with lanes := s.lanes.set p { x with jobs := x.jobs ++ [j] } }.emit o

/-- The stamp at which a frame handed to a port's lane now begins to leave, units of 2^-16 ns: after the blocks that wait ahead of it, 12.8 ns each (R254). -/
def State.departs (s : State) (p : Nat) : Nat :=
  (s.time.ext % 2 ^ 32 * 65536 + s.time.frac + (s.lane p).jobs.foldl (fun n j => n + j.left) 0 * 8388608 / 10) % 2 ^ 48

/-- The lane's class of an FTYPE. -/
def laneClass (ft : Nat) : Nat := if ft == ftTICK || ft == ftTELEM then 1 else 2

/-- A frame of this device out of a port. -/
def State.sendFrame (s : State) (p : Nat) (f : Frame) : State :=
  let l := wireBytes f
  s.laneOut p { cls := laneClass (ftypeOf l), left := blockCount l.length, bytes := l.length } (.frame p l)

/-- A frame out of each port of a list. -/
def State.emitFrame (s : State) (ports : List Nat) (f : Frame) : State := ports.foldl (fun s p => s.sendFrame p f) s

/-- A run of ordered sets out of a port; only WEIR pre-empts (R238). -/
def State.sendSets (s : State) (p : Nat) (weir : Bool) (vs : List Nat) : State :=
  s.laneOut p { cls := if weir then 0 else 3, left := vs.length } (.sets p vs)

/-- A fresh free value's number (the values the manual leaves open: Config). -/
def State.drawn (s : State) : State := { s with free := s.free + 1 }

/-- The element at a position replaced. -/
def setAt {α : Type} (l : List α) (i : Nat) (x : α) : List α := l.set i x

end Sys2Proof.Machine
end

