-- ==== Sys2Proof/Machine/Flags.lean ====
section
/-! DEFINITION. Flags.lean: raising an event, its attributes, its token bucket and its staging (R469 to R477). -/
namespace Sys2Proof.Machine

/-- A code's attributes in force; a code no section names has SEV 2, JOURNAL 0, RATE 10, BURST 20 (R472). -/
def State.attrOf (s : State) (code : Nat) : AttrEnt :=
  (s.recd.attrs.find? (fun a => a.code == code)).getD ⟨code, 2, false, 10, 20⟩

/-- Codes that take no token and are never suppressed (R474). -/
def evExempt (code : Nat) : Bool :=
  code / 256 == 0x0E || [0x0404, 0x0830, 0x0A50, 0x0A51, 0x0A52, 0x0C20].contains code

/-- One token, in the bucket's units. -/
def tokenUnit : Nat := 1000000000

/-- A code's bucket with the tokens gained up to now; a bucket starts full (R473). A CORE cycle of 2 ns gains 2 x RATE units. -/
def State.bucketOf (s : State) (code : Nat) : Bucket :=
  let a := s.attrOf code
  match s.recd.buckets.find? (fun b => b.code == code) with
  | some b => { b with level := min (a.burst * tokenUnit) (b.level + 2 * a.rate * (s.time.cyc - b.at')), at' := s.time.cyc }
  | none => ⟨code, a.burst * tokenUnit, s.time.cyc, 0, 0⟩

/-- A code's bucket put back. -/
def State.putBucket (s : State) (b : Bucket) : State :=
  { s with recd := { s.recd with buckets := s.recd.buckets.filter (fun x => x.code != b.code) ++ [b] } }

/-- Other attributes come into force: every bucket keeps the tokens and the suppressed count it has by then, the tokens capped at the new BURST, which
`bucketOf` does (R473). -/
def State.setAttrs (s : State) (l : List AttrEnt) : State :=
  let codes := ((s.recd.attrs ++ l).map (·.code) ++ s.recd.buckets.map (·.code)).filter (fun c => (s.attrOf c) != ((l.find? (fun a => a.code == c)).getD ⟨c, 2, false, 10, 20⟩))
  let s := codes.foldl (fun (s : State) c => s.putBucket (s.bucketOf c)) s
  { s with recd := { s.recd with attrs := l } }

/-- Why a full staging buffer cannot drain now (R477): freeze, supply sag, a Spring's staging, NOR busy or failing. -/
def State.lossMask (s : State) : Nat :=
  match s.role with
  | .spring => 4
  | .basin => b2n s.recd.frozen + 2 * b2n s.nor.sag + 8 * b2n (!s.recd.frozen && !s.nor.sag)

/-- The widths of the fields of a payload whose bytes the manual gives (R229, R270, R371, R429). -/
def evWidths (code : Nat) : Option (List Nat) :=
  if code = Ev.TIME_ANCHOR then some [8, 6, 4, 2, 1, 1, 4]
  else if code = Ev.THERMAL_SHUTDOWN then some [2, 2, 2, 2, 2, 1, 1, 2, 2, 4, 2, 1, 1, 4, 2, 2]
  else if code = Ev.SAFETY_CHANGE then some [4, 6, 4, 4, 4, 1, 1]
  else if code = Ev.RECONCILE_LO || code = Ev.RECONCILE_HI then some (List.replicate 8 4)
  else if code = Ev.RECONCILE_DONE then some [4, 2, 2, 24]
  else none

/-- The 32 bytes of a payload: its fields in order, unused bytes 0; for a code whose table gives no places, bytes the manual leaves open (Config). -/
def evPayload (code : Nat) (vals : List Nat) : List Nat :=
  match evWidths code with
  | some ws => padTo 32 ((ws.zip vals).flatMap (fun x => leBytes x.1 x.2))
  | none => (List.range 32).map (fun i => (Config.payloadByte code vals i).toNat)

/-- The epoch a record carries: 0xFFFF before a Spring's initial load (R269, R469). -/
def State.recEpoch (s : State) : Nat := if s.role == .spring && !s.flag F.TIME_STATUS.LOADED then 0xFFFF else s.get F.TIME_STATUS.EPOCH

/-- The record as raised now (R469), its LSEQ, SEQ and COMMIT apart. -/
def State.newRec (s : State) (code supp : Nat) (payload : List Nat) : EvRec :=
  let a := s.attrOf code
  { seq := 0, stamp := s.stamp, secLo := s.todSec % 2 ^ 32,
    epoch := s.recEpoch, code := code, source := s.selfId, commit := 0xFF,
    sev := a.sev, todValid := s.time.todValid, journal := a.journal || code == 0x0830,
    suppressed := min supp 0xFFFF, lseq := 0, tick := s.tickNow, payload := evPayload code payload }

/-- A record into the staging buffer with the device's next LSEQ (R469, R475, R476). -/
def State.pushRec (s : State) (r : EvRec) : State :=
  { s with recd := { s.recd with staging := s.recd.staging ++ [{ r with lseq := s.recd.lseq }], lseq := (s.recd.lseq + 1) % 2 ^ 16 } }

/-- A record counted lost (R477). -/
def State.loseRec (s : State) : State :=
  let run := s.recd.lost.getD ⟨0, s.stamp, s.stamp, 0⟩
  let s := s.inc F.REC_LOST_CNT.COUNT
  { s with recd := { s.recd with
      lost := some { run with count := run.count + 1, last := s.stamp, mask := run.mask ||| s.lossMask },
      lostInFreeze := s.recd.lostInFreeze + b2n s.recd.frozen } }

/-- Records on their way in RECORD frames not yet acknowledged: they are freed when they are (R476). -/
def State.evInTransit (s : State) : Nat :=
  (s.lnk.peers.flatMap (fun p => p.unacked ++ p.waiting)).foldl (fun n x => n + (match x.owner with
    | .event l => l.length
    | _ => 0)) 0

/-- Event records staged, as REC_STATUS and EVT_COUNT count them. -/
def State.evStaged (s : State) : Nat := s.recd.staging.length + s.evInTransit

/-- The first record staged after a run of losses is REC_LOST (R477). -/
def State.lostFirst (s : State) : State :=
  match s.recd.lost with
  | some run =>
    if s.evStaged < 256 then
      { s with recd := { s.recd with lost := none } }.pushRec (s.newRec Ev.REC_LOST 0 [run.count, run.first, run.last, run.mask])
    else s
  | none => s

/-- A record staged, or lost when the 256 places are taken (R475 to R477). -/
def State.stage (s : State) (r : EvRec) : State :=
  let s := s.lostFirst
  if s.evStaged < 256 then s.pushRec r else s.loseRec

/-- An event raised: it takes a token or is suppressed and counted (R473, R474), and a recorded one is staged with the suppressed count. -/
def State.raise (s : State) (code : Nat) (payload : List Nat := []) : State :=
  if evExempt code then s.stage (s.newRec code 0 payload)
  else
    let b := s.bucketOf code
    if (s.attrOf code).rate != 0 && tokenUnit ≤ b.level then
      (s.putBucket { b with level := b.level - tokenUnit, pend := 0 }).stage (s.newRec code b.pend payload)
    else
      (s.putBucket { b with pend := min (b.pend + 1) 0xFFFF, supp := min (b.supp + 1) 0xFFFF }).inc F.REC_SUPP_CNT.COUNT

/-- A signed value as an event payload carries it (two's complement, 32 bits). -/
def sPay (v : Int) : Nat := ofSigned 32 v

end Sys2Proof.Machine
end

