-- ==== Sys2Proof/Machine/Startup.lean ====
section
/-! DEFINITION. Startup.lean: the start-up programme's step counter (R534, R538, R539) and the roles time and clocks follow. -/
namespace Sys2Proof.Machine

/-- The highest step up to which every step has completed (R534). -/
def stepReached (done : List Nat) : Nat → Nat → Nat
  | 0, k => k
  | n + 1, k => if done.contains (k + 1) then stepReached done n (k + 1) else k

/-- A step completes: STARTUP_STEP with the step and ms from release, and CMN_PROG.STEP follows (R534, R538). -/
def State.startStep (n : Nat) (s : State) : State :=
  if s.pwr.steps.contains n then s
  else
    let steps := s.pwr.steps ++ [n]
    let s := { s with pwr := { s.pwr with steps := steps } }
    (s.set F.CMN_PROG.STEP (stepReached steps 13 0)).raise Ev.STARTUP_STEP [n, (s.upNs - s.pwr.relAt) / 1000000]

/-- A step fails: STARTUP_FAIL with the step and cause, and CMN_PROG.FAIL holds the step (R539). -/
def State.startFail (n cause : Nat) (s : State) : State :=
  (s.set F.CMN_PROG.FAIL n).raise Ev.STARTUP_FAIL [n, evNum Ev.STARTUP_FAIL cause]

/-- The time master is the active Basin (09, introduction). -/
def State.isMaster (s : State) : Bool := s.role == .basin && s.dispatches

/-- The station state a device knows: a Basin's own, a Spring's from its last accepted TICK header (R541). -/
def State.stationSeen (s : State) : Nat := match s.role with
  | .basin => s.station
  | .spring => (s.spr.hdr.map (·.state)).getD 0

/-- Servo states of TIME_STATUS.STATE (R277). -/
def tsFREE : Nat := 0
def tsACQUIRE : Nat := 1
def tsLOCKED : Nat := 2
def tsHOLDOVER : Nat := 3

/-- A TIME_ANCHOR record (R270). `cause` 0 periodic, 1 TIME_SET, 2 servo step, 3 takeover, 4 first lock, 5 Spring initial load. -/
def State.anchor (s : State) (cause loc : Nat) : State :=
  { s with time := { s.time with anchorAt := s.time.ext } }.raise Ev.TIME_ANCHOR
    [s.time.ext, s.todSec, s.todNs + 2 ^ 31 * b2n s.time.todValid, s.get F.TIME_STATUS.EPOCH, cause, s.get F.TIME_STATUS.MHOP, loc]

/-- TIME_OK follows: a follower that loses it while the station is ENERGISED raises ALIGN_LOST, and ALIGN_OK when it returns (R284). -/
def State.setTimeOk (s : State) (ok : Bool) : State :=
  let was := s.flag F.TIME_STATUS.TIME_OK
  let s := s.setFlag F.TIME_STATUS.TIME_OK ok
  if s.isMaster || was == ok then s
  else if ok then
    if s.time.alignLost then { s with time := { s.time with alignLost := false } }.raise Ev.ALIGN_OK [s.get F.TIME_ERR.VALUE] else s
  else if s.stationSeen == 3 then
    { s with time := { s.time with alignLost := true } }.raise Ev.ALIGN_LOST [s.get F.TIME_ERR.VALUE, s.get F.TIME_STATUS.MHOP]
  else s

/-- TIME_OK as it stands (R284, R306): the master always sets it; a follower while LOCKED with |TIME_ERR| at most LIM; on the safe clock it is clear. -/
def State.followTimeOk (s : State) : State :=
  s.setTimeOk (!s.flag F.CLK_PLLS_STAT.ON_SAFE &&
    (s.isMaster || (s.get F.TIME_STATUS.STATE == tsLOCKED && decide ((s.getI F.TIME_ERR.VALUE).natAbs ≤ s.get F.TIME_ALIGN.LIM))))

/-- The servo's state changes (R277); the master's first lock writes an anchor (R270). `src` is its source, or a follower's port. -/
def State.servoTo (s : State) (st src : Nat) : State :=
  let old := s.get F.TIME_STATUS.STATE
  if old = st then s
  else
    let s := (s.set F.TIME_STATUS.STATE st).raise Ev.TIME_STATE [old, st, src]
    if st = tsLOCKED && s.isMaster && !s.time.everLocked then { s with time := { s.time with everLocked := true } }.anchor 4 0 else s

end Sys2Proof.Machine
end

