-- ==== Sys2Proof/Machine/WeirOps.lean ====
section
/-! DEFINITION. WeirOps.lean: the WEIR ordered set (R191, R192), how an origin sends one and where a Basin relays it (R189 to R196). -/
namespace Sys2Proof.Machine

/-- Every field holds a valid value (R191, R189, R190). -/
def weirValid (x : WeirSet) : Bool :=
  ((x.scope == 1 && decide (x.arm < 12)) || (x.scope == 2 && x.arm == 0xF)) &&
    [1, 2, 3, 4, 5, 8, 9, 0xA, 0xB].contains x.cause && decide (x.origin ≤ 0xC1)

/-- WEIR_LAST follows every valid Weir received or originated (R214). -/
def State.weirLast (s : State) (x : WeirSet) : State :=
  ((((s.set F.WEIR_LAST.SCOPE x.scope).set F.WEIR_LAST.ARM x.arm).set F.WEIR_LAST.CAUSE x.cause).set F.WEIR_LAST.ORIGIN x.origin).set F.WEIR_LAST.SEQ x.seq

/-- A Weir leaves each port of a list, as three consecutive copies of one set (R193). -/
def State.sendWeir (s : State) (ports : List Nat) (x : WeirSet) : State := ports.foldl (fun s p => s.sendSets p true (List.replicate 3 (weirSet x))) s

/-- The causes of R189. -/
def cauMULTI : Nat := 1
def cauLATCH : Nat := 2
def cauTICK : Nat := 3
def cauBYP : Nat := 4
def cauSOCP : Nat := 5
def cauBOCP : Nat := 8
def cauSAFE : Nat := 9
def cauLOSS : Nat := 0xA
def cauESC : Nat := 0xB

/-- The origin's next SEQ (R190) and its new set. -/
def State.newWeir (s : State) (scope arm cause : Nat) : State × WeirSet :=
  let q := (s.weir.seq + 1) % 256
  ({ s with weir := { s.weir with seq := q } }, ⟨scope, arm, cause, s.selfId, q, s.stamp % 2 ^ 18⟩)

/-- A Spring originates an arm-scope Weir on both ports; one not enrolled or in no arm sends none (R189). -/
def State.springWeir (s : State) (cause : Nat) : State :=
  let arm := s.get F.WEIR_SCFG.ARM_ID
  if s.flag F.LNK_SPOS.ENROLLED && arm != 0xF then
    let (s, x) := s.newWeir 1 arm cause
    let s := ((s.sendWeir [0, 1] x).inc F.WEIR_TX_CNT.COUNT).weirLast x
    s.raise Ev.WEIR_SENT [1, arm, cause, x.seq, s.stamp]
  else s

/-- The chain number a Basin serves from a port: the far ports P6 to P11 of a lone Basin end chains 0 to 5 (R25). -/
def State.chainOfPort (s : State) (p : Nat) : Nat :=
  if s.get F.RED_CLAIM.ROLE == roleLone && 6 ≤ p then p - 6 else p

/-- The ports of a chain at this Basin (R25). -/
def State.portsOfChain (s : State) (c : Nat) : List Nat :=
  if s.get F.RED_CLAIM.ROLE == roleLone then (if c < 6 then [c, c + 6] else []) else [c]

/-- A chain is enrolled when a Spring of it holds an enrolled position. -/
def State.chainEnrolled (s : State) (c : Nat) : Bool := s.lnk.enrolled.any (fun e => e.spring / 16 == c)

/-- Ports with an enrolled chain (R195, R207). -/
def State.enrolledPorts (s : State) : List Nat := (List.range 12).filter (fun p => s.chainEnrolled (s.chainOfPort p))

end Sys2Proof.Machine
end

