-- ==== Sys2Proof/Machine/GateOps.lean ====
section
/-! DEFINITION. GateOps.lean: channels, trips, soft turn-off, groups, latches and BLOCK of a Spring (R112 to R136). Instants count 250 ps steps. -/
namespace Sys2Proof.Machine

/-- The present instant: eight steps to a CORE cycle, `sub` within it (R113). -/
def State.now (s : State) (sub : Nat) : Nat := 8 * s.time.cyc + sub

/-- Half-bridge `n`. -/
def State.hb (s : State) (n : Nat) : HbSt := s.gate.hbs.getD n {}

def State.setHb (s : State) (n : Nat) (h : HbSt) : State := { s with gate := { s.gate with hbs := s.gate.hbs.set n h } }

def State.modHb (s : State) (n : Nat) (f : HbSt → HbSt) : State := s.setHb n (f (s.hb n))

/-- A channel of a half-bridge: `hi` for the high side. -/
def HbSt.ch (h : HbSt) (hi : Bool) : ChSt := if hi then h.hi else h.lo
def HbSt.setCh (h : HbSt) (hi : Bool) (c : ChSt) : HbSt := if hi then { h with hi := c } else { h with lo := c }

/-- Gate channel number of a half-bridge's channel (R15). -/
def chNum (n : Nat) (hi : Bool) : Nat := 2 * n + (if hi then 0 else 1)

/-- Bit `n` of a six-bit mask field. -/
def State.maskBit (s : State) (f : Fld) (n : Nat) : Bool := (s.get f).testBit n

/-- HB_EN as the tick's edge pattern reads it (R24, R114). -/
def State.hbEn (s : State) (n : Nat) : Bool := s.gate.hbEn.testBit n
def State.isTripped (s : State) (n : Nat) : Bool := s.maskBit F.GATE_STATUS.TRIPPED n
def State.isLatched (s : State) (n : Nat) : Bool := s.maskBit F.GATE_STATUS.LATCHED n
def State.inConflict (s : State) (n : Nat) : Bool := s.maskBit F.GATE_STATUS.CONFLICT n
def State.blocked (s : State) : Bool := s.flag F.GATE_STATUS.BLOCK
def State.armHeld (s : State) : Bool := s.flag F.WEIR_SSTAT.ARM_HOLD
def State.stnHeld (s : State) : Bool := s.flag F.WEIR_SSTAT.STN_HOLD

/-- A hold keeps a half-bridge's channels low (R197). -/
def State.holdStops (s : State) (n : Nat) : Bool :=
  s.stnHeld || (s.armHeld && (decide (n < 2) || s.flag F.WEIR_SCFG.ARM_DAB))

/-- The half-bridges of a half-bridge's group: the H-bridge or the DAB (R125). -/
def groupOf (n : Nat) : List Nat := if n < 2 then [0, 1] else [2, 3, 4, 5]

/-- A field as a boundary reads it: a MGMT write of the boundary's own CORE cycle comes after the boundary (R24). -/
def State.pat (s : State) (f : Fld) : Nat := match s.spr.before with
  | some (c, r) => if c = s.time.cyc then bitsOf ((Regs.find r f.off).getD (resetWord s.role s.side f.off)).toNat f.lo f.w else s.get f
  | none => s.get f

/-- The registers kept before the first MGMT write of a CORE cycle (R24). -/
def State.beforeWrite (s : State) : State := match s.spr.before with
  | some (c, _) => if c = s.time.cyc then s else { s with spr := { s.spr with before := some (s.time.cyc, s.regs) } }
  | none => { s with spr := { s.spr with before := some (s.time.cyc, s.regs) } }

/-- Effective dead time (R116). -/
def State.dtReg (s : State) (n : Nat) : Nat := max (s.pat (F.GATE_DT.DT n)) (s.pat (F.GATE_DT.DT_FLOOR n))

/-- The dead time the tick's edge pattern reads: a write takes effect at the next boundary (R24). -/
def State.dtEff (s : State) (n : Nat) : Nat := s.gate.dt.getD n (s.dtReg n)

/-- At a boundary the edge pattern reads the GATE registers again (R24). -/
def State.readPattern (s : State) : State :=
  { s with gate := { s.gate with hbEn := s.pat F.GATE_CTRL.HB_EN, dt := (List.range 6).map (fun n => s.dtReg n)
                                 blank := (List.range 6).map (fun n => s.pat (F.GATE_PROT.BLANK n)), pulseMin := s.pat F.CTL_PULSE_MIN.MIN } }

/-- The channel is on at the ball at an instant: its delayed rising edge has come, and no falling edge yet (R116, R120, R136). -/
def ChSt.onAtBall (c : ChSt) (t : Nat) : Bool := decide (c.onAt ≤ t) && (c.on || decide (t < c.offAt.getD 0))

/-- The conducting channel (R120). -/
def HbSt.conducting (h : HbSt) (t : Nat) : Option Bool :=
  if h.hi.onAtBall t then some true else if h.lo.onAtBall t then some false else none

/-- A channel taken low with a normal edge at an instant; one in soft turn-off runs it to its end (R136). -/
def HbSt.chLow (h : HbSt) (hi : Bool) (t : Nat) : HbSt :=
  let c := h.ch hi
  if c.ssd then h else if c.on then h.setCh hi { c with on := false, offAt := some (if c.onAt ≤ t then t else c.offAt.getD t) } else h

/-- A half-bridge that stops with its group and has no channel on is stopped (R125). -/
def HbSt.halt (h : HbSt) : HbSt := if h.stopping && !h.hi.on && !h.lo.on then { h with stopped := true } else h

/-- Both channels low. -/
def HbSt.bothLow (h : HbSt) (t : Nat) : HbSt := ((h.chLow true t).chLow false t).halt

def State.hbLow (s : State) (n : Nat) (t : Nat) : State := s.modHb n (fun h => h.bothLow t)

/-- Every channel of a list of half-bridges low. -/
def State.hbsLow (s : State) (ns : List Nat) (t : Nat) : State := ns.foldl (fun s n => s.hbLow n t) s

/-- The commanded levels forgotten with the mode that gave them. -/
def State.uncommand (s : State) (ns : List Nat) : State :=
  ns.foldl (fun s n => s.modHb n (fun h => { h with hi := { h.hi with cmd := false }, lo := { h.lo with cmd := false } })) s

/-- A half-bridge may go on: it is enabled, a slot has been applied, it is out of BLOCK, CONFLICT, every hold and soft turn-off, and nothing of its group is
TRIPPED or latched unless it is only stopping (R114, R116, R118, R125, R129, R131, R133, R152, R197). -/
def State.mayDrive (s : State) (n : Nat) : Bool :=
  s.hbEn n && s.spr.slot.isSome && !s.blocked && !s.holdStops n && !s.inConflict n && !s.isTripped n && !s.isLatched n && !(s.hb n).stopped &&
    (s.hb n).soft.isNone

/-- A commanded rising edge placed under R116; its instant. -/
def State.riseAt (s : State) (n : Nat) (hi : Bool) (t : Nat) : Nat :=
  match ((s.hb n).ch (!hi)).offAt with
  | some o => max t (o + s.dtEff n)
  | none => t

/-- A channel goes on at its placed instant. -/
def State.rise (s : State) (n : Nat) (hi : Bool) (t : Nat) : State :=
  s.modHb n (fun h => h.setCh hi { (h.ch hi) with on := true, onAt := s.riseAt n hi t })

/-- BYP_CMD de-energised: the close starts, or ends at once where the feedback already shows closed (R142). -/
def State.bypShowsClosed (s : State) : Bool := s.gate.bypFb != s.flag F.CELL_CTRL.BYP_FB_POL
def State.packShowsClosed (s : State) : Bool := s.gate.packFb != s.flag F.CELL_CTRL.PACK_FB_POL

def State.bypRelease (s : State) : State :=
  if s.gate.bypCmd then
    let s := { s with gate := { s.gate with bypCmd := false, bypOpening := none } }
    let s := s.inc F.CELL_OPS.BYP_OPS
    if s.bypShowsClosed then s.raise Ev.BYP_CLOSED [0]
    else { s with gate := { s.gate with bypClosing := some s.time.cyc } }
  else s

/-- A commissioning programme runs on a half-bridge. -/
def State.testOn (s : State) (n : Nat) : Bool := match s.gate.test with
  | some p => p.ch / 2 == n
  | none => false

/-- The commissioning programme ends, its channel no longer commanded (R154, R198). -/
def State.endTest (s : State) (t : Nat) : State := match s.gate.test with
  | some p => (((({ s with gate := { s.gate with test := none } }).hbLow (p.ch / 2) t).uncommand [p.ch / 2])).set F.GATE_STATUS.TEST_BUSY 0
  | none => s

/-- The soft-start stopped, its state shown (R541). -/
def State.preStop (s : State) (st : Nat) : State :=
  let s := { s with spr := { s.spr with pre := false } }
  ((s.hbsLow [4, 5] (s.now 0)).uncommand [4, 5]).set F.CMN_PRECHG.STATE st

/-- One trip in a CELL_BLOCK payload: half-bridge, cause, channel and offset from the first detection (R132). -/
def tripPay (t0 : Nat) (e : TripEnt) : List Nat := [e.hb, evNum Ev.HB_TRIP e.cause, e.ch, e.at' - t0]

/-- CELL_BLOCK of a cause with the half-bridges it names, offsets from the first of them (R132, R158). -/
def State.raiseBlock (s : State) (cause : Nat) (w : List TripEnt) : State :=
  let t0 := (w.map TripEnt.at').foldl min ((w.head?.map TripEnt.at').getD 0)
  s.raise Ev.CELL_BLOCK ([evNum Ev.CELL_BLOCK cause, bitsMask (w.map (·.hb))] ++ (w.map (tripPay t0)).flatten)

/-- The trips of the half-bridges that are latched. -/
def State.latchedTrips (s : State) : List TripEnt :=
  ((List.range 6).filter (fun n => s.isLatched n)).map (fun n =>
    let h := s.hb n
    ⟨n, h.cause, (match h.tripCh with | some hi => chNum n hi | none => 0xFF), h.tripAt⟩)

/-- The multiple-trip window closes: two or more trips in it raise CELL_BLOCK (R132). -/
def State.closeWindow (s : State) : State :=
  let w := s.gate.window
  let multi := s.gate.multi
  let s := { s with gate := { s.gate with window := [], multi := false } }
  if multi then s.raiseBlock cauMULTI w else s

/-- BLOCK entered with its cause (R133): channels low, mode, DAB and soft-start over (R134, R541), BYP_CMD de-energised, one Weir with the matching CAUSE,
BLOCK set. A further cause while in BLOCK changes nothing (R189). CELL_BLOCK of a MULTI_TRIP waits for its window (R132). An active bypass ends with it:
R143 has failed, with its own Weir. -/
def State.enterBlock (s : State) (cause : Nat) (t : Nat) : State :=
  if s.blocked then s
  else
    let s := if s.spr.pre then s.preStop 0 else s
    let s := (((s.hbsLow [0, 1, 2, 3, 4, 5] t).uncommand [0, 1, 2, 3, 4, 5]).endTest t).set F.GATE_STATUS.BLOCK 1
    let s := { s with gate := { s.gate with cause := cause, ilk := false }, spr := { s.spr with mode := 0, dab := {} } }
    let s := s.bypRelease
    let s := s.springWeir cause
    let s := if cause == cauMULTI then s else s.raiseBlock cause s.latchedTrips
    if s.gate.actByp then { s with gate := { s.gate with actByp := false } }.springWeir cauBYP else s

/-- An active bypass may be held: it is enabled, the Spring is out of BLOCK, and HB0 and HB1 are neither TRIPPED nor latched (R143). -/
def State.actBypOk (s : State) : Bool := s.flag F.CELL_CTRL.ACT_BYP_EN && !s.blocked && [0, 1].all (fun n => !s.isTripped n && !s.isLatched n)

/-- An active bypass that may no longer be held ends in BLOCK (R143, R189). -/
def State.actCheck (s : State) (t : Nat) : State :=
  if s.gate.actByp && !s.actBypOk then { s with gate := { s.gate with actByp := false } }.enterBlock cauBYP t else s

/-- A half-bridge latches (R131): both channels off, its LATCHED bit, HB_LATCHED; the Spring then enters BLOCK. `why` 0 retry budget, 1 ready timeout,
2 CONFLICT, 3 MULTI_TRIP. -/
def State.latchHb (s : State) (n : Nat) (why : Nat) (t : Nat) : State :=
  let s := s.setBit F.GATE_STATUS.LATCHED n true
  (s.hbLow n t).raise Ev.HB_LATCHED [n, evNum Ev.HB_LATCHED why]

/-- The group of a tripped half-bridge: the others stop at their next commanded off-edges (R125). -/
def State.stopGroup (s : State) (n : Nat) : State :=
  (groupOf n).foldl (fun s m => if m == n then s else s.modHb m (fun h => { h with stopping := true }.halt)) s

/-- The two-level turn-off of a conducting channel (R124), or the channel low at once for READY; without one both stay off. An off-edge of the trip's own
cycle that the ball has not seen is not emitted (R136). `tssd` is TSSD in 20 ns steps: the first part lasts at least that less 10 ns (R137). -/
def HbSt.turnOff (h : HbSt) (cond : Option Bool) (ready : Bool) (tssd t : Nat) : HbSt :=
  match cond with
  | none => h.bothLow t
  | some hi =>
    let h := h.setCh hi { (h.ch hi) with on := true }
    if ready then h.bothLow t
    else ({ (h.setCh hi { (h.ch hi) with ssd := true }) with soft := some 0, softAt := t, softFor := 80 * tssd - 40 }).chLow (!hi) t

/-- Trip causes of R126. -/
def tripOC : Nat := 0
def tripDESAT : Nat := 1
def tripREADY : Nat := 2

/-- The trip falls inside the conducting channel's blanking window (R121). -/
def State.inBlank (s : State) (n : Nat) (hi : Bool) (t : Nat) : Bool :=
  decide (t < ((s.hb n).ch hi).onAt + 80 * s.gate.blank.getD n (s.get (F.GATE_PROT.BLANK n)))

/-- The multiple-trip window takes a trip: within 100 ns of the first, every half-bridge in it latches and the Spring enters BLOCK (R132). -/
def State.joinWindow (s : State) (e : TripEnt) : State :=
  let w := s.gate.window
  match w with
  | first :: _ =>
    if e.at' ≤ first.at' + 400 then
      let w' := w ++ [e]
      let s := { s with gate := { s.gate with window := w', multi := true } }
      let s := w'.foldl (fun s x => if s.isLatched x.hb then s else s.latchHb x.hb 3 e.at') s
      s.enterBlock cauMULTI e.at'
    else
      let s := s.closeWindow
      { s with gate := { s.gate with window := [e] } }
  | [] => { s with gate := { s.gate with window := [e], multi := false } }

/-- The half-bridge with a channel on again that CONFLICT took low in the present cycle: a trip of that cycle governs (R136). -/
def HbSt.beforeConflict (h : HbSt) (cyc : Nat) : HbSt := match h.confOff with
  | some (c, hi) => if c = cyc && h.soft.isNone then h.setCh hi { (h.ch hi) with on := true } else h
  | none => h

/-- A half-bridge trips (R124 to R126, R132). A trip of one already TRIPPED, latched or in soft turn-off only counts, but for a ready input that falls
during a soft turn-off: the channel goes low at once (R136). -/
def State.trip (s : State) (n : Nat) (cause : Nat) (t : Nat) : State :=
  let h := (s.hb n).beforeConflict s.time.cyc
  let s := s.inc (F.GATE_CNT.TRIP_CNT n)
  if s.isTripped n || s.isLatched n || h.soft.isSome then
    if cause == tripREADY && h.soft.isSome then
      let hi := h.hi.ssd
      let s := if h.soft == some 0 then
          s.setHb n { (h.setCh hi { (h.ch hi) with on := false, offAt := some t }) with soft := some 1, softAt := t } else s
      s.raise Ev.HB_TRIP [n, evNum Ev.HB_TRIP tripREADY, chNum n hi, b2n (s.inBlank n hi t), s.stamp]
    else s
  else
    let cond := h.conducting t
    let chn := match cond with
      | some hi => chNum n hi
      | none => 0xFF
    let blank := match cond with
      | some hi => s.inBlank n hi t
      | none => false
    let h := h.turnOff cond (cause == tripREADY) (s.get (F.GATE_PROT.TSSD n)) t
    let s := s.setHb n { h with cause := cause, tripCh := cond, tripAt := t, heldOnce := false, tripped := true }
    let s := (s.setBit F.GATE_STATUS.TRIPPED n true).set (F.GATE_LAST.STAMP n) s.stamp
    let s := s.raise Ev.HB_TRIP [n, evNum Ev.HB_TRIP cause, chn, b2n blank, s.stamp]
    let s := if s.testOn n then s.endTest t else s
    ((s.stopGroup n).joinWindow ⟨n, cause, chn, t⟩).actCheck t

/-- Nothing of a group is TRIPPED or latched: it switches again, each half-bridge at its own next on-edge (R129). -/
def State.groupFree (s : State) (n : Nat) : Bool := (groupOf n).all (fun m => !s.isTripped m && !s.isLatched m)

def State.freeGroup (s : State) (n : Nat) : State :=
  if s.groupFree n then (groupOf n).foldl (fun s m => s.modHb m (fun h => { h with stopping := false, stopped := false })) s else s

/-- Unexpired retries (R128). -/
def State.liveRetries (s : State) (n : Nat) : List Nat :=
  (s.hb n).retries.filter (fun r => decide (s.time.cyc < r + 500000 * s.get F.GATE_FAULT_CFG.RETRY_WIN))

/-- The comparator of a half-bridge is inside its window, or it has none (R122). -/
def State.ocInside (s : State) (n : Nat) : Bool :=
  let j := s.get (F.GATE_PROT.OC_SEL n)
  if j < 32 then !(s.get F.ADC_WIN_STAT.OUT).testBit j else true

/-- A half-bridge is commanded to switch (R123). -/
def State.cmdSwitch (s : State) (n : Nat) : Bool :=
  s.testOn n || (if n < 2 then !s.blocked && (s.spr.mode == 1 || s.spr.mode == 2 || s.gate.actByp) else s.spr.dab.on || s.spr.pre)

/-- Any half-bridge is commanded to switch (R179, R308, R533). -/
def State.anySwitch (s : State) : Bool := (List.range 6).any (fun n => s.cmdSwitch n)

/-- The DESAT levels of the twelve inputs, by gate channel. -/
def State.setDesat (s : State) (mask : Nat) : State :=
  (List.range 6).foldl (fun s n => s.modHb n (fun h =>
    { h with hi := { h.hi with desat := mask.testBit (2 * n) }, lo := { h.lo with desat := mask.testBit (2 * n + 1) } })) s

/-- Both DESAT inputs low, the comparator inside, both ready inputs high (R127, R135): the first condition that fails, 1 DESAT, 2 comparator, 3 ready. -/
def State.quiet (s : State) (n : Nat) : Nat :=
  let h := s.hb n
  if h.hi.desat || h.lo.desat then 1 else if !s.ocInside n then 2 else if !(h.hi.rdy && h.lo.rdy) then 3 else 0

/-- A commanded on-edge of a channel that may go on (R116, R117): it rises unless its pulse would end before. -/
def State.onEdge (s : State) (n : Nat) (hi : Bool) (t width : Nat) : State :=
  let s := s.modHb n (fun h => h.setCh hi { (h.ch hi) with cmd := true, cmdAt := t, cmdTo := t + width })
  if s.mayDrive n && !((s.hb n).ch hi).on && decide (s.riseAt n hi t < t + width) then s.rise n hi t else s

/-- A commanded off-edge: the channel falls; a half-bridge stopping with its group is stopped (R125). A channel in soft turn-off emits none (R136). -/
def State.offEdge (s : State) (n : Nat) (hi : Bool) (t : Nat) : State :=
  s.modHb n (fun h =>
    let was := (h.ch hi).on
    let h := h.setCh hi { (h.ch hi) with cmd := false }
    let h := h.chLow hi t
    if h.stopping && was then { h with stopped := true } else h)

/-- CONFLICT entered (R118): the channel that is on turns off, the rising edge is suppressed, both stay off for the tick; a run of CONF_LATCH ticks
latches (R119). -/
def State.conflict (s : State) (n : Nat) (t : Nat) : State :=
  if s.inConflict n then s
  else
    let on := match (s.hb n).conducting t with
      | some hi => chNum n hi
      | none => 0xFF
    let off := ((s.hb n).conducting t).map (fun hi => (s.time.cyc, hi))
    let s := (s.hbLow n t).modHb n (fun h => { h with confOff := off })
    let s := (s.setBit F.GATE_STATUS.CONFLICT n true).inc (F.GATE_CNT.CONFLICT_CNT n)
    let s := { s with gate := { s.gate with conflictSeen := true } }
    let s := s.modHb n (fun h => { h with confRun := h.confRun + 1 })
    let s := s.raise Ev.CONFLICT [n, on, s.get (F.GATE_CNT.CONFLICT_CNT n)]
    let lim := s.get F.GATE_CTRL.CONF_LATCH
    if lim != 0 && decide (lim ≤ (s.hb n).confRun) && !s.isLatched n then (s.latchHb n 2 t).enterBlock cauLATCH t else s

end Sys2Proof.Machine
end

