-- ==== Sys2Proof/Machine/Image.lean ====
section
/-! DEFINITION. Image.lean: the table image as bytes (R500 to R506): its header, directory and sections, the tables read from them (R59, R61, R77 to R82,
R461), and the checks of R505. -/
namespace Sys2Proof.Machine

/-- A directory entry (R500). -/
structure Sect where
  idx : Nat
  type : Nat
  ver : Nat
  target : Nat
  off : Nat
  slen : Nat
  scrc : Nat
  deriving DecidableEq, Repr

/-- A field of a little-endian image. -/
def img32 (l : List Nat) (i : Nat) : Nat := bytesAt l i 4
def img16 (l : List Nat) (i : Nat) : Nat := bytesAt l i 2
def img8 (l : List Nat) (i : Nat) : Nat := bytesAt l i 1

def imgRev (l : List Nat) : Nat := img32 l 4
def imgGen (l : List Nat) : Nat := img32 l 8
def imgLen (l : List Nat) : Nat := img32 l 12
def imgNsect (l : List Nat) : Nat := img16 l 16
def imgPair (l : List Nat) : Bool := bitOf (img8 l 18) 0

/-- Directory entry `i`. -/
def imgSect (l : List Nat) (i : Nat) : Sect :=
  let d := (l.drop (64 + 16 * i)).take 16
  ⟨i, img8 d 0, img8 d 1, img16 d 2, img32 d 4, img32 d 8, img32 d 12⟩

def imgDir (l : List Nat) : List Sect := (List.range (imgNsect l)).map (imgSect l)

/-- The bytes of a section. -/
def sectBytes (l : List Nat) (x : Sect) : List Nat := (l.drop x.off).take x.slen

/-- TARGET of a whole class (R500): every Spring or every Basin. -/
def tgtSprings : Nat := 0xFD
def tgtBasins : Nat := 0xFE

/-- Section types of R501. -/
def secSTATE : Nat := 1
def secCOEF : Nat := 2
def secCURVE : Nat := 3
def secARM : Nat := 4
def secCELL : Nat := 5
def secARMPAR : Nat := 6
def secADC : Nat := 7
def secBMS : Nat := 8
def secCAN : Nat := 9
def secATTR : Nat := 10
def secREG : Nat := 11
def secDERIVED : Nat := 12

/-- The section of a type that a device applies: its own before its class's (R502). -/
def sectFor (l : List Nat) (type own cls : Nat) : Option Sect :=
  let d := (imgDir l).filter (fun x => x.type == type)
  match d.find? (fun x => x.target == own) with
  | some x => some x
  | none => d.find? (fun x => x.target == cls)

/-- Bytes of that section; none given reads as empty. -/
def tableFor (l : List Nat) (type own cls : Nat) : List Nat := ((sectFor l type own cls).map (sectBytes l)).getD []

/-- The REG entries a device applies, the class section first (R502, R503). -/
def regEntries (l : List Nat) (own cls : Nat) : List (Nat × Nat) :=
  let of := fun t => match (imgDir l).find? (fun x => x.type == secREG && x.target == t) with
    | some x => let b := sectBytes l x; (List.range (x.slen / 8)).map (fun i => (img32 b (8 * i), img32 b (8 * i + 4)))
    | none => []
  of cls ++ (if own == cls then [] else of own)

/-! ### The tables in force -/

/-- Table bytes of the Basin's own sections in the image in force. -/
def State.tbl8 (s : State) (type : Nat) : List Nat := tableFor s.tbl.img type s.selfId tgtBasins

/-- A member of an arm (R501): the Spring index and whether it is SPARE. -/
structure ArmMember where
  spring : Nat
  spare : Bool
  deriving DecidableEq, Repr

/-- An ARM record: METHOD (0 unused, 1 PSC, 2 NLM) and members in order. -/
def armMethod (b : List Nat) (a : Nat) : Nat := img16 b (132 * a)
def armMembers (b : List Nat) (a : Nat) : List ArmMember :=
  (List.range (img8 b (132 * a + 2))).map (fun i =>
    let w := img16 b (132 * a + 4 + 2 * i)
    ⟨w % 256, bitOf w 8⟩)

/-- The arms in use. -/
def armMembersOf (b : List Nat) (a : Nat) : List ArmMember := if armMethod b a == 0 then [] else armMembers b a

/-- The arm that holds a Spring, if any (R17). -/
def armOf (b : List Nat) (sp : Nat) : Option Nat := (List.range 12).find? (fun a => (armMembersOf b a).any (fun m => m.spring == sp))

/-- A cell record (R77). -/
def cellRated (b : List Nat) (sp : Nat) : Nat := img16 b (8 * sp)
def cellTrim (b : List Nat) (sp : Nat) : Nat := img16 b (8 * sp + 2)
def cellAbsent (b : List Nat) (sp : Nat) : Bool := bitOf (img8 b (8 * sp + 4)) 0
def cellSet (b : List Nat) (sp : Nat) : Nat := img8 b (8 * sp + 5)

/-- An arm parameter record (R79). -/
def apSection (b : List Nat) (a : Nat) : Nat := img8 b (16 * a)
def apRebal (b : List Nat) (a : Nat) : Bool := bitOf (img8 b (16 * a + 1)) 0
def apMmax (b : List Nat) (a : Nat) : Nat := img16 b (16 * a + 2)
def apSpareSoc (b : List Nat) (a : Nat) : Nat := img16 b (16 * a + 4)
def apTopup (b : List Nat) (a : Nat) : Nat := img16 b (16 * a + 6)
def apVneed (b : List Nat) (a : Nat) : Nat := img32 b (16 * a + 8)

/-- A state record (R59): STAGE_EN, REF_SET, RAMP_TICKS; state `n` stands at byte 4 + 4 n. -/
def stStageEn (b : List Nat) (n : Nat) : Nat := img8 b (4 + 4 * n)
def stRefSet (b : List Nat) (n : Nat) : Nat := img8 b (4 + 4 * n + 1)
def stRamp (b : List Nat) (n : Nat) : Nat := img16 b (4 + 4 * n + 2)

/-- A state-machine row (R59). -/
structure SmRow where
  frm : Nat
  dst : Nat
  cond : Nat
  pol : Nat
  param : Nat
  deriving DecidableEq, Repr

def smRow (b : List Nat) (i : Nat) : SmRow :=
  let o := 132 + 8 * i
  ⟨img8 b o % 32, img8 b (o + 1) % 32, img8 b (o + 2), img8 b (o + 3), img32 b (o + 4)⟩
def smRows (b : List Nat) : List SmRow := (List.range (img16 b 0)).map (smRow b)

/-! ### Curves (R80 to R82) -/

/-- The curve record of an identifier and set, from a CURVE section. -/
def curveRec (b : List Nat) (id set : Nat) : Option (List Nat) :=
  ((List.range (b.length / 72)).map (fun i => (b.drop (72 * i)).take 72)).find? (fun r => img8 r 0 == id && img8 r 1 == set)

/-- The points a curve record uses. -/
def curvePoints (r : List Nat) : List (Int × Nat) :=
  (List.range (img8 r 2)).map (fun i => (toSigned 16 (img16 r (4 + 4 * i)), img16 r (6 + 4 * i)))

/-- Interpolation between points, truncated to 2^-15 (R82). -/
def curveAt : List (Int × Nat) → Int → Nat
  | [], _ => 0
  | [(_, y)], _ => y
  | (x0, y0) :: (x1, y1) :: t, x =>
    if x ≤ x0 then y0
    else if x < x1 then (((y0 : Int) * (x1 - x) + (y1 : Int) * (x - x0)) / (x1 - x0)).toNat
    else curveAt ((x1, y1) :: t) x

/-- The default points of R223. -/
def curveDefault (id : Nat) : List (Int × Nat) :=
  if id == 8 then [(0, 0), (100, 0x8000)] else if id == 9 then [(550, 0x8000), (600, 0)] else [(-400, 0x8000), (1000, 0x8000)]

/-- Curve 8 to 10 of a Spring's pushed CURVE section, or its default (R223). -/
def State.pushedCurve (s : State) (id : Nat) (x : Int) : Nat :=
  let b := tableFor s.tbl.img secCURVE s.selfId tgtSprings
  match ((List.range (b.length / 72)).map (fun i => (b.drop (72 * i)).take 72)).find? (fun r => img8 r 0 == id) with
  | some r => curveAt (curvePoints r) x
  | none => curveAt (curveDefault id) x

/-! ### Controllers (R61, R62) -/

/-- A controller record. -/
structure CtlRec where
  kp : Int
  ki : Int
  kr : Int
  rc : Int
  omin : Int
  omax : Int
  kf : Int
  mode : Nat
  deriving DecidableEq, Repr

def ctlRec (b : List Nat) (i : Nat) : CtlRec :=
  let g := fun k => toSigned 32 (img32 b (32 * i + 4 * k))
  ⟨g 0, g 1, g 2, g 3, g 4, g 5, g 6, img8 b (32 * i + 28)⟩

/-- A quotient whose rounding no rule states: the step below, or the one above where `Config.roundUp` says so. -/
def roundFree (num den : Int) : Int :=
  if den = 0 then 0 else num.fdiv den + (if num.fmod den = 0 then 0 else if Config.roundUp num den then 1 else 0)

/-- The nearest integer to a quotient ("round" in R160 and R182); which of the two a half goes to no rule states, and `Config.roundUp` says. -/
def nearest (a d : Int) : Int :=
  let (a, d) := if d < 0 then (-a, -d) else (a, d)
  a.fdiv d + (if d < 2 * a.fmod d then 1 else if d = 2 * a.fmod d && decide (0 < d) && Config.roundUp a d then 1 else 0)

/-- A product of a Q8.24 value and a Q.k gain, saturated to Q8.24 (R62). -/
def mulSat (k : Nat) (a b : Int) : Int := satSigned 32 (roundFree (a * b) (2 ^ k))

/-- One update of a controller (R62): its output and its new states. -/
def ctlUpdate (c : CtlRec) (e ff i s1 s2 : Int) : Int × Int × Int × Int :=
  if c.mode == 0 then (0, 0, 0, 0)
  else
    let i := if c.mode == 1 || c.mode == 3 then clampInt c.omin c.omax (satSigned 32 (i + mulSat 24 c.ki e)) else 0
    let y := satSigned 32 (satSigned 32 (mulSat 24 c.kp e + i) + mulSat 24 c.kf ff)
    if c.mode == 2 || c.mode == 3 then
      let s0 := satSigned 32 (satSigned 32 (mulSat 24 c.kr e + mulSat 30 c.rc s1) - s2)
      let y := satSigned 32 (satSigned 32 (y + s0) - s1)
      (clampInt c.omin c.omax y, i, s0, s1)
    else (clampInt c.omin c.omax y, i, s1, s2)

/-! ### Checks (R505) -/

/-- What a check is made for: a bank of a Basin, or an image pushed to a Spring. -/
inductive ImgKind where
  | bank
  | push (spring : Nat)
  deriving DecidableEq, Repr

/-- A reason word (R506). -/
def reasonWord (code sect rcd : Nat) : Nat := code * 2 ^ 24 + sect * 2 ^ 16 + rcd

/-- The first index below `n` at which a test fails. -/
def firstBad (n : Nat) (ok : Nat → Bool) : Option Nat := (List.range n).find? (fun i => !ok i)

/-- TARGET classes (R501). -/
def isSpringTgt (t : Nat) : Bool := decide (t < 0xC0) || t == tgtSprings
def isBasinTgt (t : Nat) : Bool := t == 0xC0 || t == 0xC1 || t == tgtBasins

/-- TYPE, VER and TARGET of one entry (R501, R502). -/
def sectTypeOk (k : ImgKind) (x : Sect) : Bool :=
  x.ver == 1 && (match k with
  | .bank => if x.type == 0 || 11 < x.type then false
    else if [secSTATE, secCOEF, secCURVE, secARM, secCELL, secARMPAR].contains x.type then isBasinTgt x.target
    else if x.type == secBMS then isSpringTgt x.target
    else isSpringTgt x.target || isBasinTgt x.target
  | .push n => if [secCOEF, secCURVE, secDERIVED].contains x.type then x.target == n
    else if x.type == secBMS then x.target == n || x.target == tgtSprings
    else if [secADC, secCAN, secATTR, secREG].contains x.type then isSpringTgt x.target || isBasinTgt x.target
    else false)

/-- Where an entry's section lies (R500). -/
def sectPlaceOk (l : List Nat) (x : Sect) : Bool :=
  x.off % 4 == 0 && x.slen % 4 == 0 && decide (4 ≤ x.slen) && decide (64 + 16 * imgNsect l ≤ x.off) && decide (x.off + x.slen + 4 ≤ l.length)

/-- Two sections do not overlap and differ in TYPE or TARGET. -/
def sectsApart (x y : Sect) : Bool :=
  (decide (x.off + x.slen ≤ y.off) || decide (y.off + y.slen ≤ x.off)) && !(x.type == y.type && x.target == y.target)

/-- The reserved bytes of a record read 0. -/
def zeros (b : List Nat) (i n : Nat) : Bool := bytesAt b i n == 0

/-- STATE (R59, R501): its failing record, counted over the rows. -/
def chkState (b : List Nat) : Option Nat :=
  if img16 b 0 ≤ 128 && b.length == 132 + 8 * img16 b 0 then
    firstBad (img16 b 0) (fun i => let r := smRow b i
      decide (r.frm < 28) && decide (r.dst < 28) && decide (1 ≤ r.cond) && decide (r.cond ≤ 7) && decide (r.pol ≤ 1))
  else some 0xFFFF

/-- ARM (R18, R505). -/
def chkArm (b : List Nat) : Option Nat :=
  if b.length != 1584 then some 0xFFFF
  else firstBad 12 (fun a =>
    let m := armMembers b a
    decide (armMethod b a ≤ 2) && decide (m.length ≤ 64) &&
    (armMethod b a == 0 || (decide (0 < m.length) && m.all (fun x => decide (x.spring < 192)) &&
      decide ((m.filter (·.spare)).length ≤ 4) && (m.map (·.spring)).eraseDups.length == m.length &&
      m.all (fun x => (List.range a).all (fun a' => !(armMembersOf b a').any (fun y => y.spring == x.spring))))))

/-- CELL (R77). -/
def chkCell (b : List Nat) : Option Nat :=
  if b.length != 1536 then some 0xFFFF else firstBad 192 (fun i => decide (cellSet b i < 8))

/-- ARMPAR (R79). -/
def chkArmPar (b : List Nat) : Option Nat :=
  if b.length != 192 then some 0xFFFF else firstBad 12 (fun a => decide (apSection b a < 4) || apSection b a == 0xFF)

/-- The x values of a curve strictly increase (R80). -/
def rising : List (Int × Nat) → Bool
  | a :: b :: t => decide (a.1 < b.1) && rising (b :: t)
  | _ => true

/-- One curve record (R80, R81), `ids` the identifiers allowed. -/
def curveOk (r : List Nat) (ids : List Nat) : Bool :=
  ids.contains (img8 r 0) && decide (img8 r 1 < 8) && decide (2 ≤ img8 r 2) && decide (img8 r 2 ≤ 16) && rising (curvePoints r)

/-- CURVE (R80, R81, R501). -/
def chkCurve (k : ImgKind) (b : List Nat) : Option Nat :=
  let n := b.length / 72
  let rc := fun i => (b.drop (72 * i)).take 72
  let ids := match k with
    | .bank => [0, 1, 2, 3, 4, 5, 8, 9, 10]
    | .push _ => [8, 9, 10]
  let top := match k with
    | .bank => 72
    | .push _ => 3
  if b.length % 72 != 0 || n == 0 || top < n then some 0xFFFF
  else firstBad n (fun i => curveOk (rc i) ids && (k == .bank || img8 (rc i) 1 == img8 (rc 0) 1) &&
    (List.range i).all (fun j => !(img8 (rc j) 0 == img8 (rc i) 0 && img8 (rc j) 1 == img8 (rc i) 1)))

/-- Each field of a word lies in its stated range. -/
def rangesOk (r : RegRow) (w : Nat) : Bool :=
  r.fields.all (fun f => f.acc == .ro || f.ok.isEmpty || f.ok.any (fun iv => decide (iv.1 ≤ bitsOf w f.lo f.w) && decide (bitsOf w f.lo f.w ≤ iv.2)))

/-- A word is in range for the register at an offset. -/
def wordOk (off w : Nat) : Bool := ((rowAt off).map (fun r => rangesOk r w)).getD false

/-- ADC_WINj with HIGH not above LOW is discarded (R176). -/
def winOk (w : Nat) : Bool := decide (toSigned 12 (bitsOf w 0 12) < toSigned 12 (bitsOf w 16 12))

/-- A word that a sequence entry takes: every field in its range (R165). -/
def seqOk (v : Nat) : Bool := decide (bitsOf v 24 4 ≤ 8) && decide (bitsOf v 20 4 ≤ 8) && decide (3 ≤ bitsOf v 12 8)

/-- A word that a unit's register takes whole: an entry within R165; a CTRL with LEN to 16 and a trigger source that is not reserved (R168, R187). -/
def adcWordOk (o v : Nat) : Bool :=
  let r := o % 0x100
  if 0x40 ≤ r && r < 0x80 then seqOk v else if r = 0 then decide (bitsOf v 8 5 ≤ 16) && decide (bitsOf v 0 4 ≤ 7) else true

/-- A source word that ADC_MAPq takes: a result, or none (R187). -/
def mapSrcOk (v : Nat) : Bool := decide (bitsOf v 0 8 < 0x40) || bitsOf v 0 8 == 0xFF

/-- The registers an ADC section gives, in its order (R501). -/
def adcOffsets : List Nat :=
  ((List.range 4).map (fun n => [0x14000 + 0x100 * n, 0x14004 + 0x100 * n] ++ (List.range 16).map (fun m => 0x14040 + 0x100 * n + 4 * m))).flatten ++
  ((List.range 6).map (fun q => [0x14700 + 8 * q, 0x14704 + 8 * q])).flatten ++
  ((List.range 32).map (fun j => [0x14500 + 16 * j, 0x14504 + 16 * j, 0x14508 + 16 * j])).flatten ++
  (List.range 32).map (fun j => 0x14400 + 4 * j)

/-- ADC (R165, R176, R501): the sequence entries lie in their ranges, and each window has HIGH above LOW. -/
def chkAdc (b : List Nat) : Option Nat :=
  if b.length != 848 then some 0xFFFF
  else firstBad 212 (fun i =>
    let o := adcOffsets.getD i 0
    let w := img32 b (4 * i)
    if 0x14400 ≤ o && o < 0x14480 then winOk w else !(decide (o < 0x14400) && decide (0x40 ≤ o % 0x100)) || seqOk w)

/-- The word offsets, within a controller's space, of a CAN section's record (R501). -/
def canRecOffsets : List Nat := [0x00, 0x04, 0x08, 0x0C, 0x14, 0x20, 0x24, 0x28, 0x2C, 0x30, 0x34, 0x38, 0x70, 0x74]

/-- Largest element count and element bytes of the seven RAM regions (R446), in register order. -/
def canRegionMax : List (Nat × Nat) := [(128, 4), (64, 8), (64, 80), (64, 80), (64, 80), (32, 80), (32, 12)]

/-- A region's byte span, from its register word. -/
def canSpan (r w : Nat) : Nat × Nat := (4 * bitsOf w 0 14, 4 * bitsOf w 0 14 + bitsOf w 24 8 * (canRegionMax.getD r (0, 0)).2)

/-- Whether the non-empty regions of a list of (region, word) lie in the RAM and apart; the index of the first that does not (R446). -/
def canRegionsBad (ws : List (Nat × Nat)) : Option Nat :=
  firstBad ws.length (fun i =>
    let (r, w) := ws.getD i (0, 0)
    let sp := canSpan r w
    bitsOf w 24 8 == 0 || (decide (sp.2 ≤ 65536) && decide (bitsOf w 24 8 ≤ (canRegionMax.getD r (0, 0)).1) &&
      (List.range ws.length).all (fun j =>
        let (r', w') := ws.getD j (0, 0)
        let sp' := canSpan r' w'
        i == j || bitsOf w' 24 8 == 0 || decide (sp.2 ≤ sp'.1) || decide (sp'.2 ≤ sp.1))))

/-- CAN (R446, R453, R501): the regions lie in the RAM and apart, and the section holds the filters they count. A record is a controller's. -/
def chkCan (b : List Nat) : Option Nat :=
  let rw := fun n k => img32 b (64 * n + 4 * k)
  let filt := ((List.range 4).map (fun n => 4 * bitsOf (rw n 5) 24 8 + 8 * bitsOf (rw n 6) 24 8)).foldl (· + ·) 0
  if b.length != 256 + filt then some 0xFFFF
  else
    let ws := ((List.range 4).map (fun n => (List.range 7).map (fun r => (r, rw n (5 + r))))).flatten
    (canRegionsBad ws).map (· / 7)

/-- A bit field of a frame's data: its bits, least significant first, by START, LEN and ORDER (R462). -/
def canFieldBits (start len : Nat) (big : Bool) : List Nat :=
  if big then
    ((List.range len).map (fun i =>
      let b := 7 - start % 8 + i
      8 * (start / 8 + b / 8) + (7 - b % 8))).reverse
  else (List.range len).map (start + ·)

/-- A BMS profile row (R461). -/
structure BmsRow where
  canId : Nat
  start : Nat
  len : Nat
  big : Bool
  signed : Bool
  field : Nat
  scale : Int
  offset : Int
  muxStart : Nat
  muxLen : Nat
  muxVal : Nat
  deriving DecidableEq, Repr

def bmsRow (p : List Nat) (i : Nat) : BmsRow :=
  let r := (p.drop (16 + 24 * i)).take 24
  ⟨img32 r 0, img16 r 4, img8 r 6, bitOf (img8 r 7) 0, bitOf (img8 r 7) 1, img8 r 8, toSigned 32 (img32 r 12), toSigned 32 (img32 r 16), img16 r 20,
    img8 r 22, img8 r 23⟩

def bmsRowOk (r : BmsRow) : Bool :=
  decide (r.start ≤ 511) && decide (1 ≤ r.len) && decide (r.len ≤ 32) && decide (r.field < 0x10) &&
    (canFieldBits r.start r.len r.big).all (fun i => decide (i < 512)) && (r.field != 0xD || (decide (0 ≤ r.offset) && decide (r.offset ≤ 15))) &&
    (r.muxStart == 0xFFFF || (decide (r.muxStart ≤ 511) && decide (1 ≤ r.muxLen) && decide (r.muxLen ≤ 16) &&
      (canFieldBits r.muxStart r.muxLen r.big).all (fun i => decide (i < 512))))

/-- A BMS profile (R461). -/
def bmsOk (p : List Nat) : Bool :=
  decide (img8 p 0 < 8) && decide (img8 p 1 < 4) && decide (img8 p 2 ≤ 32) && !bitOf (img16 p 4) 0 && decide (10 ≤ img16 p 6) && decide (img16 p 6 ≤ 65534) &&
    (List.range (img8 p 2)).all (fun i => bmsRowOk (bmsRow p i))

def chkBms (b : List Nat) : Option Nat :=
  let n := b.length / 784
  if b.length % 784 != 0 || n == 0 || 8 < n then some 0xFFFF else firstBad n (fun i => bmsOk ((b.drop (784 * i)).take 784))

/-- ATTR (R472, R501): ascending codes, SEV at most 4, BURST at least 1. -/
def chkAttr (b : List Nat) : Option Nat :=
  if b.length % 8 != 0 then some 0xFFFF
  else firstBad (b.length / 8) (fun i =>
    decide (img8 b (8 * i + 2) % 16 ≤ 4) && decide (1 ≤ img8 b (8 * i + 4)) && decide (0x0100 ≤ img16 b (8 * i)) && decide (img16 b (8 * i) ≤ 0x0FFF) &&
      (i == 0 || decide (img16 b (8 * (i - 1)) < img16 b (8 * i))))

/-- REG (R503), for the role the section's TARGET names: a register of the other role alone holds no field (R2). -/
def chkReg (role : Role) (b : List Nat) : Option Nat :=
  if b.length % 8 != 0 then some 0xFFFF
  else firstBad (b.length / 8) (fun i =>
    let o := img32 b (8 * i)
    match rowAt o with
    | some r => rowLive role r o && r.fields.any (fun f => f.acc == .rw || f.acc == .rwl) && !(decide (0x4000 ≤ o) && decide (o < 0x8000)) && rangesOk r (img32 b (8 * i + 4))
    | none => false)

/-- A section's own checks (R505, CONTENT): its first failing record, 0xFFFF where the section as a whole fails. -/
def sectBad (k : ImgKind) (l : List Nat) (x : Sect) : Option Nat :=
  let b := sectBytes l x
  if x.type == secSTATE then chkState b
  else if x.type == secCOEF then (if b.length == (if k == .bank then 1024 else 64) then none else some 0xFFFF)
  else if x.type == secCURVE then chkCurve k b
  else if x.type == secARM then chkArm b
  else if x.type == secCELL then chkCell b
  else if x.type == secARMPAR then chkArmPar b
  else if x.type == secADC then chkAdc b
  else if x.type == secBMS then chkBms b
  else if x.type == secCAN then chkCan b
  else if x.type == secATTR then chkAttr b
  else if x.type == secREG then chkReg (if isSpringTgt x.target then .spring else .basin) b
  else if b.length == 16 then none else some 0xFFFF

/-- The value of CTL_HB_PER the image's REG sections give a Spring, the last entry governing (R63). -/
def imgHbPer (l : List Nat) (sp : Nat) : Option Nat :=
  ((regEntries l sp tgtSprings).filter (fun e => e.1 == F.CTL_HB_PER.PER.off)).getLast?.map (fun e => bitsOf e.2 0 24)

/-- R63 over one ARM section: every ACTIVE or SPARE Spring of a PSC arm has one value in range. -/
def hbPerBad (l : List Nat) (b : List Nat) : Option Nat :=
  firstBad 12 (fun a => armMethod b a != 1 ||
    (match armMembers b a with
     | [] => true
     | m :: t => match imgHbPer l m.spring with
       | some v => decide (800000 ≤ v) && decide (v ≤ 16000000) && t.all (fun y => imgHbPer l y.spring == some v)
       | none => false))

/-- R81 over one CELL section: each curve set a rated cell names holds all six weight curves, in the CURVE section of the same Basin. -/
def curveSetBad (l : List Nat) (x : Sect) : Option Nat :=
  let b := sectBytes l x
  let c := tableFor l secCURVE x.target tgtBasins
  firstBad 192 (fun i => cellRated b i == 0 || (List.range 6).all (fun id => (curveRec c id (cellSet b i)).isSome))

/-- A section's first failing record under CONTENT: its own checks, and in a bank those of R63 for an ARM section and of R81 for a CELL section. -/
def contentBad (k : ImgKind) (l : List Nat) (x : Sect) : Option Nat :=
  let more := if k != .bank then none else if x.type == secARM then hbPerBad l (sectBytes l x) else if x.type == secCELL then curveSetBad l x else none
  match sectBad k l x, more with
  | some a, some b => some (if a = 0xFFFF then a else min a b)
  | some a, none => some a
  | none, m => m

/-- The checks of R505 in order: none where the image is valid, else the reason word of the first failure. -/
def imgCheck (k : ImgKind) (rev : Nat) (l : List Nat) : Option Nat :=
  let h := l.take 64
  let d := imgDir l
  if !(img32 l 0 == 0x4D495456 && crc32 (h.take 60) == img32 l 60 && imgLen l == l.length && imgLen l % 4 == 0 && decide (128 ≤ imgLen l) &&
      decide (imgLen l ≤ 4194304) && decide (1 ≤ imgNsect l) && decide (imgNsect l ≤ 64)) then some (reasonWord 0x03 0xFF 0xFFFF)
  else if imgRev l != rev then some (reasonWord 0x04 0xFF 0xFFFF)
  else if crc32 (l.take (l.length - 4)) != img32 l (l.length - 4) then some (reasonWord 0x05 0xFF 0xFFFF)
  else
    match d.find? (fun x => !(sectPlaceOk l x && sectTypeOk k x && d.all (fun y => x.idx == y.idx || sectsApart x y))) with
    | some x => some (reasonWord 0x06 x.idx 0xFFFF)
    | none =>
      match d.find? (fun x => crc32 (sectBytes l x) != x.scrc) with
      | some x => some (reasonWord 0x07 x.idx 0xFFFF)
      | none =>
        match d.find? (fun x => (contentBad k l x).isSome) with
        | some x => some (reasonWord 0x08 x.idx ((contentBad k l x).getD 0xFFFF))
        | none =>
          if k == .bank || (d.filter (fun x => x.type == secDERIVED)).length == 1 then none else some (reasonWord 0x08 0xFF 0xFFFF)

end Sys2Proof.Machine
end

