-- ==== Sys2Proof/Machine/CellOps.lean ====
section
/-! DEFINITION. CellOps.lean: a Spring's measured quantities, its pack's limits, and the operations of R148 on gates and contactors. -/
namespace Sys2Proof.Machine

/-! ### Quantities (R185, R224) -/

/-- The signed VALUE of result `src` (bits 5:4 unit, 3:0 entry). -/
def State.resValue (s : State) (src : Nat) : Int := s.getI (F.ADC_RES.VALUE (src / 16) (src % 16))

/-- The arithmetic of R185 into a field's range. -/
def State.mapped (s : State) (src : Nat) (scale ofst lo hi : Int) : Int :=
  if src < 64 then clampInt lo hi (clampInt lo hi ((s.resValue src * scale + 2 ^ 23).fdiv (2 ^ 24)) + ofst) else 0

def State.mapQ (s : State) (q : Nat) (lo hi : Int) : Int :=
  s.mapped (s.get (F.ADC_MAP.SRC q)) (s.getI (F.ADC_MAP_SCALE.SCALE q)) (s.getI (F.ADC_MAP.OFST q)) lo hi

/-- V_DC and V_LV in 0.05 V; I_STR, I_LV and I_PACK in 0.05 A. -/
def State.vDc (s : State) : Int := s.mapQ 0 0 65535
def State.iStr (s : State) : Int := s.mapQ 1 (-32768) 32767
def State.vLv (s : State) : Int := s.mapQ 2 0 65535
def State.iLv (s : State) : Int := s.mapQ 3 (-32768) 32767
def State.iPack (s : State) : Int := s.mapQ 4 (-32768) 32767

/-- T_HS (R224), 0.1 degree. -/
def State.tHs (s : State) : Int :=
  s.mapped (s.get F.THM_HS_MAP.SRC) (s.getI F.THM_HS_MAP_SCALE.SCALE) (s.getI F.THM_HS_MAP.OFST) (-32768) 32767

/-! ### The pack (R463, R464) -/

/-- A half of a word of the standard pack record. -/
def State.packLo (s : State) (w : Nat) : Nat := s.can.pack.std.getD w 0 % 65536
def State.packHi (s : State) (w : Nat) : Nat := s.can.pack.std.getD w 0 / 65536

def State.vPackBms (s : State) : Nat := s.packLo 0
def State.tCellMin (s : State) : Int := toSigned 16 (s.packLo 1)
def State.tCellMax (s : State) : Int := toSigned 16 (s.packHi 1)

/-- BMS_AGE in ms (R463). -/
def State.bmsAge (s : State) : Nat := match s.can.pack.doneAt with
  | some t => min 0xFFFF ((s.time.cyc - t) / 500000)
  | none => 0xFFFF

/-- The BMS profile in force (R461). -/
def State.profile (s : State) : Option (List Nat) :=
  let b := tableFor s.tbl.img secBMS s.selfId tgtSprings
  ((List.range (b.length / 784)).map (fun i => (b.drop (784 * i)).take 784)).find? (fun p => img8 p 0 == s.get F.CAN_PACK_CFG.PROFILE)

def State.staleMs (s : State) : Nat := ((s.profile).map (fun p => img16 p 6)).getD 0

/-- The BMS limits in 10 W: 0 while stale, while the decoder is off (R464) and while the pack contactor shows open (R147). -/
def State.bmsLim (s : State) (ilim : Nat) : Nat :=
  if s.bmsAge > s.staleMs || !s.flag F.CAN_PACK_CFG.EN || !s.packShowsClosed then 0 else ilim * s.vPackBms / 1000

/-- A curve's share of the rating (R222); 2^-15 units. -/
def State.ofRating (s : State) (f : Nat) : Nat := (roundFree (f * s.get F.THM_RATING.P_RATED) 32768).toNat

/-- The terms of R222: BMS, temperature and heatsink terms of a direction. -/
def State.limTerms (s : State) (dis : Bool) : Nat × Nat × Nat :=
  let bms := s.bmsLim (if dis then s.packHi 3 else s.packLo 3)
  let f := if s.can.pack.doneAt.isNone then 0 else if dis then s.pushedCurve 9 s.tCellMax else s.pushedCurve 8 s.tCellMin
  (bms, s.ofRating f, s.ofRating (s.pushedCurve 10 s.tHs))

/-- P_LIM_CHG and P_LIM_DIS in 10 W (R21, R222). -/
def State.pLim (s : State) (dis : Bool) : Nat :=
  let t := s.limTerms dis
  min t.1 (min t.2.1 t.2.2)

/-! ### Operations (R135, R141, R145, R146, R148) -/

/-- CMD_RES codes of R150. -/
def resACC : Nat := 1
def resFAULT : Nat := 2
def resMODE : Nat := 3
def resVOLT : Nat := 4
def resCURR : Nat := 5
def resREJ : Nat := 6

/-- An evaluation's result goes into the source's command record (R351) and the telemetry; a refusal or rejection raises CMD_REFUSED (R151). -/
def State.cmdResult (s : State) (c : DueCmd) (res : Nat) : State :=
  let i := if c.src == 0xFE then 16 else c.src
  let s := { s with spr := { s.spr with cmd := none, cmdRes := res } }
  let s := if c.src ≤ 15 || c.src == 0xFE then
      let n := s.get (F.CTL_CMD_REC.CNT i)
      ((s.set (F.CTL_CMD_REC.RES i) res).set (F.CTL_CMD_REC.CNT i) (if n == 0xFFF then 1 else n + 1)).set (F.CTL_CMD_REC.SEQ i) c.seq
    else s
  if res == resACC then s else s.raise Ev.CMD_REFUSED [c.op, res, c.src, c.seq]

/-- The parameter of an operation keeps its reserved bits at 0 (R148). -/
def paramOk (c : DueCmd) : Bool := if c.op == 5 then c.param.headD 0 ≤ 1 && c.param.tail.all (· == 0) else c.param.all (· == 0)

/-- CLEAR (R135). -/
def State.opClear (s : State) (c : DueCmd) : State :=
  if (List.range 6).all (fun n => !s.hbEn n || s.quiet n == 0) then
    let was := s.blocked
    let cause := s.gate.cause
    let s := ((s.set F.GATE_STATUS.LATCHED 0).set F.GATE_STATUS.TRIPPED 0).set F.GATE_STATUS.BLOCK 0
    let s := (List.range 6).foldl (fun s n => s.modHb n (fun h =>
      { h with retries := [], stopping := false, stopped := false, heldOnce := false })) s
    let s := { s with gate := { s.gate with cause := 0 }, spr := { s.spr with missed := 0 } }
    (if was then s.raise Ev.BLOCK_CLEARED [evNum Ev.CELL_BLOCK cause] else s).cmdResult c resACC
  else s.cmdResult c resFAULT

/-- BYP_OPEN (R141). DESIGN CHOICE (log entry 49): the manual gives no order among failing conditions; BLOCK or another mode (0x3) is tested before a half-bridge that is
TRIPPED, latched or not ready (0x2). -/
def State.opBypOpen (s : State) (c : DueCmd) : State :=
  let sl := s.spr.slot
  let lvl0 := match sl with
    | some x => x.mode == 2 && x.level == 0 && !s.flag F.CMN_RESET.SAFE_HOLD
    | none => false
  if s.blocked || !lvl0 then s.cmdResult c resMODE
  else if [0, 1].any (fun n => s.isTripped n || s.isLatched n || !((s.hb n).hi.rdy && (s.hb n).lo.rdy)) then s.cmdResult c resFAULT
  else
    let s := if s.gate.bypCmd then s else
      let s := { s with gate := { s.gate with bypCmd := true, bypClosing := none, bypOpening := some s.time.cyc } }.inc F.CELL_OPS.BYP_OPS
      if s.bypShowsClosed then s else { s with gate := { s.gate with bypOpening := none } }.raise Ev.BYP_OPENED [0]
    s.cmdResult c resACC

/-- BYP_CLOSE (R148). -/
def State.opBypClose (s : State) (c : DueCmd) : State := s.bypRelease.cmdResult c resACC

/-- PACK_CLOSE (R145): its result by the first condition that fails. V_DC counts 0.05 V, the pack voltage and PACK_DV 0.1 V. -/
def State.opPackClose (s : State) (c : DueCmd) : State :=
  if s.blocked then s.cmdResult c resMODE
  else if s.bmsAge == 0xFFFF then s.cmdResult c resFAULT
  else if 2 * s.get F.CELL_PACK_LIM.PACK_DV < (s.vDc - 2 * s.vPackBms).natAbs then s.cmdResult c resVOLT
  else
    let s := if s.gate.packCmd then s else s.inc F.CELL_OPS.PACK_OPS
    let s := { s with gate := { s.gate with packCmd := true, packOp := some (0, s.time.cyc) } }
    let s := if s.packShowsClosed then { s with gate := { s.gate with packOp := none } }.raise Ev.PACK_CLOSED [0, s.vDc.toNat, s.vPackBms] else s
    s.cmdResult c resACC

/-- PACK_OPEN (R146). I_PACK counts 0.05 A, PACK_I_OPEN 0.1 A. -/
def State.opPackOpen (s : State) (c : DueCmd) : State :=
  let above := decide (2 * s.get F.CELL_PACK_LIM.PACK_I_OPEN < s.iPack.natAbs)
  let force := bitOf (c.param.headD 0) 0
  if above && !force then s.cmdResult c resCURR
  else
    let s := if force && above then s.raise Ev.PACK_FORCED_OPEN [sPay s.iPack] else s
    let s := if s.gate.packCmd then s.inc F.CELL_OPS.PACK_OPS else s
    let s := { s with gate := { s.gate with packCmd := false, packOp := some (1, s.time.cyc) } }
    let s := if s.packShowsClosed then s else { s with gate := { s.gate with packOp := none } }.raise Ev.PACK_OPENED [0, sPay s.iPack]
    s.cmdResult c resACC

/-- An operation carried in the slot applied, evaluated at its boundary (R148, R352): a busy Spring evaluates only the stopping operations. -/
def State.withDue (s : State) (op : Nat) (f : State → DueCmd → State) : State :=
  match s.spr.cmd with
  | some c => if c.op == op then f s c else s
  | none => s

/-- CELL_STATUS as it stands (R150). -/
def State.cellStatus (s : State) : Nat :=
  2 ^ 15 * b2n s.gate.bypCmd + 2 ^ 14 * b2n (!s.bypShowsClosed) + 2 ^ 13 * b2n s.gate.packCmd + 2 ^ 12 * b2n s.packShowsClosed +
    64 * s.get F.GATE_STATUS.RDY_OK + 32 * b2n s.gate.ilk + 16 * b2n s.gate.actByp + s.spr.cmdRes

end Sys2Proof.Machine
end

