-- ==== Sys2Proof/Machine/AdcOps.lean ====
section
/-! DEFINITION. AdcOps.lean: runs, triggers and result words of the converter units (R159 to R174, R184), and the precharge soft-start (R541). -/
namespace Sys2Proof.Machine

def State.unit (s : State) (n : Nat) : AdcUnit := s.adc.units.getD n {}
def State.setUnit (s : State) (n : Nat) (u : AdcUnit) : State := { s with adc := { s.adc with units := s.adc.units.set n u } }
def State.modUnit (s : State) (n : Nat) (f : AdcUnit → AdcUnit) : State := s.setUnit n (f (s.unit n))

/-- What a unit's four bits of ADC_FLAGS say was seen during the tick (R74): OVR in bit 3, SUSPECT 2, ABORTED 1, TRIG_OVR 0. -/
def seenOVR : Nat := 3
def seenSUSPECT : Nat := 2
def seenABORTED : Nat := 1
def seenTRIGOVR : Nat := 0

def State.seeFlag (s : State) (n bit : Nat) : State := s.modUnit n (fun u => { u with seen := u.seen ||| 2 ^ bit })

/-! ### Instants

They count 250 ps steps as the gate path's do, so an 80 MHz ADC cycle is 50 of them (R31). -/

def adcCycle : Nat := 50

/-- A field as a run accepted in the present ADC cycle copies it: a write of that cycle comes after (R166). -/
def State.adcGet (s : State) (f : Fld) : Nat := match s.adc.before with
  | some (c, r) => if c = s.now 0 / adcCycle then bitsOf ((Regs.find r f.off).getD (resetWord s.role s.side f.off)).toNat f.lo f.w else s.get f
  | none => s.get f

/-- The registers kept before the first write of an ADC cycle to the converters (R166). -/
def State.adcBefore (s : State) : State :=
  if s.adc.before.map (·.1) == some (s.now 0 / adcCycle) then s else { s with adc := { s.adc with before := some (s.now 0 / adcCycle, s.regs) } }

/-- Steps from the sampling start of one conversion to that of the next, and of a whole entry (R161). -/
def convTime (w : Nat) : Nat := (bitsOf w 12 8 + 1) * 40 + 640
def entryTime (w : Nat) : Nat := 2 ^ bitsOf w 20 4 * convTime w

/-! ### Codes (R160 to R163, R172, R184) -/

/-- One conversion: the differential voltage at the sample instant in nV, and what the unit's own errors add to its raw result, in 1/16 code. -/
abbrev Conv := Int × Int

/-- The code of R160 before any error: round(32,768 × G × V / 2.5 V), for the gain code of R165. -/
def idealCode (gain : Nat) (v : Int) : Int := nearest (32768 * 2 ^ gain * v) 2500000000

/-- The over-range detector's mark (R172): the input exceeds the full scale of its gain; true at the positive end. -/
def rangeMark (gain : Nat) (v : Int) : Option Bool :=
  if 2500000000 < 2 ^ gain * v then some true else if 2 ^ gain * v < -2500000000 then some false else none

/-- Code at the end of the scale that a mark clamps to (R162 step 3). -/
def endCode (hi : Bool) : Int := if hi then 0x7FFF else -0x8000

/-- The linearity weight corrections that a raw code takes up, 1/16 code (R178 step 3, R187). DEDUCED (log entry 54): the code stands offset by 32,768, LIN[i] belongs to the
i-th capacitor bit from the top and counts where that bit is set. -/
def State.linSum (s : State) (n : Nat) (raw : Int) : Int :=
  let u := (clampInt 0 65535 (raw + 32768)).toNat
  ((List.range 6).map (fun i =>
    if u.testBit (15 - i) then (if i % 2 = 0 then s.getI (F.ADC_CAL.LO n (5 + i / 2)) else s.getI (F.ADC_CAL.HI n (5 + i / 2))) else 0)).foldl (· + ·) 0

/-- Steps 1 and 2 of R162: the raw result, then the unit's own linearity, offset and gain corrections. -/
def State.selfCorrect (s : State) (n gain : Nat) (c : Conv) : Int :=
  let raw := idealCode gain c.1
  nearest ((16 * raw + c.2 + s.linSum n raw - s.getI (F.ADC_CAL.LO n 0)) * s.get (F.ADC_CAL.LO n (1 + gain))) (16 * 2 ^ 14)

/-- The code of step 3 of R162. -/
def State.convCode (s : State) (n gain : Nat) (c : Conv) : Int := match rangeMark gain c.1 with
  | some hi => endCode hi
  | none => satSigned 16 (s.selfCorrect n gain c)

/-- System correction of one code (R184): the code and whether it saturated. -/
def State.sysCorrect (s : State) (j : Nat) (c : Int) : Int × Bool :=
  let v := ((c * 256 - s.getI (F.ADC_SYS_OFFSET.OFFSET j)) * s.getI (F.ADC_SYS_GAIN.GAIN j) + 2 ^ 37).fdiv (2 ^ 38)
  (satSigned 16 v, v != satSigned 16 v)

/-- The value of R163 from its codes. -/
def adcValue (shift : Nat) (codes : List Int) : Int :=
  let sum := codes.foldl (· + ·) 0
  if shift = 0 then sum else (sum + 2 ^ (shift - 1)).fdiv (2 ^ shift)

/-- Index of the last marked conversion. -/
def lastMark : List (Option Bool) → Nat → Option Nat
  | [], _ => none
  | m :: t, i => match lastMark t (i + 1) with
    | some k => some k
    | none => if m.isSome then some i else none

/-! ### Runs and triggers (R166 to R171, R174) -/

/-- The entries a new run copies (R166). -/
def State.runEntries (s : State) (n : Nat) : List Nat :=
  (List.range (s.adcGet (F.ADC_CTRL.LEN n))).map (fun m => s.adcGet ⟨(F.ADC_SEQ.INPUT n m).off, 0, 32⟩)

/-- A run accepted on a trigger (R166, R169, R170): its copies, and when its sampling may start: with the trigger's delay, an asynchronous one 25 ns to 37.5 ns later and a write
of GO up to three ADC cycles after that (R311), and not before `from'`. A unit with LEN 0 is idle (R167). -/
def State.accept (s : State) (n : Nat) (x : AdcTrig) (held : Bool) (from' : Nat) : State :=
  let entries := s.runEntries n
  if entries.isEmpty then (s.modUnit n (fun u => { u with run := none })).set (F.ADC_STAT.RUNNING n) 0
  else
    let trig := s.adcGet ⟨(F.ADC_TRIG_CFG.DELAY n).off, 0, 32⟩
    let due := x.at' + 40 * (trig % 65536)
    let lo := if x.sched then due - 10 else due + 100
    let hi := if x.sched then due + 10 else due + 150 + (if x.go then 150 else 0)
    (s.modUnit n (fun u => { u with run := some { entries := entries, trig := trig, tick := x.tick, held := held, lo := max lo from', hi := max hi from' } })).set
      (F.ADC_STAT.RUNNING n) 1

/-- A calibration starts on a unit (R178, R182). -/
def State.startJob (s : State) (n : Nat) : State := (s.modUnit n (fun u => { u with jobDue := false, jobAt := s.time.cyc })).set (F.ADC_STAT.CAL_BUSY n) 1

/-- A calibration requested of a unit: at once, or when its run has ended (R174). -/
def State.askJob (s : State) (n : Nat) (j : CalJob) : State :=
  let s := s.modUnit n (fun u => { u with job := some j, jobDue := true })
  if (s.unit n).run.isNone then s.startJob n else s

/-- The units of a mask begin a self-calibration together (R178, R179): `own` the CAL_RUN that asked for it. -/
def State.startCal (s : State) (mask : Nat) (own : Option Nat) : State :=
  (maskBits 4 mask).foldl (fun (s : State) n => s.askJob n (.self own)) { s with adc := { s.adc with calStart := s.time.cyc, calMask := mask, calFail := 0 } }

/-- A self-calibration is under way. -/
def State.calRuns (s : State) : Bool := s.adc.units.any (fun (u : AdcUnit) => match u.job with
  | some (.self _) => true
  | _ => false)

/-- The ABORTED flag in every result of a run's entries (R171). -/
def State.flagAborted (s : State) (n : Nat) (len : Nat) : State :=
  ((List.range len).foldl (fun s m => s.set (F.ADC_RES.FLAGS n m) (s.get (F.ADC_RES.FLAGS n m) ||| 0x20)) s).seeFlag n seenABORTED

/-- Marked conversions discarded with a burst at instant `t` (R172, R174): those sampled by then count, are reported once for their entry, and make the next entry converted
SUSPECT. `vs` are the burst's inputs at its sample instants. DEDUCED (log entry 54): a conversion is marked at its sample instant, and one cut short ends at the abort. -/
def State.lostMarks (s : State) (n : Nat) (r : AdcRun) (t : Nat) (vs : List Int) : State :=
  let w := r.entries.getD r.done 0
  let per := convTime w
  let k := if t < r.at' + (per - 640) then 0 else min (2 ^ bitsOf w 20 4) ((t - r.at' - (per - 640)) / per + 1)
  let marks := (vs.take k).map (rangeMark (bitsOf w 10 2))
  match marks.findSome? id, lastMark marks 0 with
  | some hi, some i =>
    let s := (s.addSat (F.ADC_OVR_CNT.COUNT n) (marks.filter Option.isSome).length).raise Ev.ADC_OVR [n, r.done, 8 * n + bitsOf w 0 3, ofSigned 16 (endCode hi)]
    (s.modUnit n (fun u => { u with susAt := some (min t (r.at' + (i + 1) * per)) })).seeFlag n seenOVR
  | _, _ => s

/-- A trigger meets a unit (R167, R170, R171, R174). `vs` are the inputs of a burst that a RESTART discards. -/
def State.trigger (s : State) (n : Nat) (x : AdcTrig) (vs : List Int) : State :=
  let s := s.inc (F.ADC_TRIG_CNT.COUNT n)
  if s.flag (F.ADC_STAT.CAL_BUSY n) then s.inc (F.ADC_CAL_SKIP.COUNT n)
  else if s.flag F.CLK_PLLS_STAT.ON_SAFE then s
  else
    match (s.unit n).run with
    | none => s.accept n x false 0
    | some r =>
      if s.adcGet (F.ADC_CTRL.POLICY n) = 1 then
        let s := s.inc (F.ADC_RESTART_CNT.COUNT n)
        if r.sampling then ((((s.lostMarks n r x.at' vs).flagAborted n r.entries.length).raise Ev.SEQ_RESTART [n, r.done])).accept n x false 0
        else (s.raise Ev.SEQ_RESTART [n, 0]).accept n x false 0
      else if s.flag (F.ADC_STAT.PENDING n) then
        let s := (s.inc (F.ADC_TRIG_OVR.COUNT n)).seeFlag n seenTRIGOVR
        if (s.unit n).overRun then s
        else (s.modUnit n (fun u => { u with overRun := true })).raise Ev.TRIG_OVERRUN [n, s.get (F.ADC_TRIG_OVR.COUNT n)]
      else (s.modUnit n (fun u => { u with pend := some x })).set (F.ADC_STAT.PENDING n) 1

/-- A trigger arrives (R174): GO and a source in one ADC cycle are one trigger, and a trigger in the ADC cycle of a run's end arrives after the run. Whether a RESTART trigger in
the cycle in which the last conversion ends aborts the run or arrives after it shows when the last result is written, so it waits for that. -/
def State.arrive (s : State) (n : Nat) (x : AdcTrig) (vs : List Int) : State :=
  let u := s.unit n
  let c := x.at' / adcCycle
  if u.lastCyc == some c then s
  else
    let x := if x.tick.isSome then { x with tick := some (u.ticks + 1) } else x
    let s := s.modUnit n (fun u => { u with lastCyc := some c, ticks := if x.tick.isSome then u.ticks + 1 else u.ticks, final := if x.tick.isSome then 0 else u.final })
    let wait := match u.run with
      | none => false
      | some r => r.sampling && (r.done == r.entries.length || (s.adcGet (F.ADC_CTRL.POLICY n) == 1 && r.done + 1 == r.entries.length &&
          decide (r.at' + entryTime (r.entries.getD r.done 0) < (c + 1) * adcCycle)))
    if wait then s.modUnit n (fun u => { u with after := u.after ++ [x] }) else s.trigger n x vs

/-! ### Sources (R40, R168) -/

/-- Station time in 250 ps steps at an instant of the present CORE cycle: the timebase of the carriers (R64). -/
def State.pwmNow (s : State) (sub : Nat) : Nat := 4 * s.time.ext + s.time.frac / 16384 + sub

/-- The period a Spring counts with, in 10 ns steps (R35). -/
def State.sprPeriod (s : State) : Nat := (s.spr.hdr.map (·.period)).getD 0

/-- The short stamp of the next boundary: the header's, else a period after the last (R35, R242). -/
def State.nextBound (s : State) : Nat := match s.spr.next with
  | some n => n.hdr.bound
  | none => (s.spr.bound + 10 * s.sprPeriod) % 2 ^ 32

/-- Tick boundaries around the present instant, as short stamps: the last and the next. -/
def State.bounds (s : State) : Nat × Nat := match s.role with
  | .basin => (s.ctl.bound % 2 ^ 32, (s.ctl.bound + 10 * s.ctl.per) % 2 ^ 32)
  | .spring => (s.spr.bound, s.nextBound)

/-- Ticks run: a Basin has started them, a Spring has accepted a header (R39). -/
def State.tickKnown (s : State) : Bool := match s.role with
  | .basin => s.get F.CTL_TICK_NUM.TICK != 0
  | .spring => s.spr.hdr.isSome

/-- Steps since the last measurement instant, 2 us before a boundary (R40). -/
def State.measAge (s : State) : Int :=
  let (a, b) := s.bounds
  let next := stampDiff s.stamp b + 2000
  4 * (if 0 ≤ next then next else stampDiff s.stamp a + 2000) + s.time.frac / 16384

/-- The TIMER period in force at a unit, in steps: the copy of its run, else the register (R166). -/
def State.timerPer (s : State) (n : Nat) : Nat := 40 * match (s.unit n).run with
  | some r => r.trig / 65536
  | none => s.adcGet (F.ADC_TRIG_CFG.PERIOD n)

/-- Steps since a unit's trigger source last fired (R168): TICK, TIMER, the carrier at 1 or at 0, the start of a DAB period. A Basin's carriers, NONE and the reserved codes fire
nothing; CHAIN follows a run's end and is no event of its own. -/
def State.sourceAge (s : State) (n src : Nat) : Option Nat :=
  let meas := s.measAge
  let per := s.spr.hbPer
  let x := (s.pwmNow 0 + s.spr.phase - s.spr.carrierAt) % per
  let valley := x
  let peak := (x + per - per / 2) % per
  let carrier := s.role == .spring && s.spr.carrier && decide (0 < per)
  match src with
  | 1 => if s.tickKnown && decide (0 ≤ meas) then some meas.toNat else none
  | 2 => if s.tickKnown && decide (0 ≤ meas) && s.timerPer n != 0 then some (meas.toNat % s.timerPer n) else none
  | 3 => if carrier then some peak else none
  | 4 => if carrier then some valley else none
  | 5 => if carrier then some (min peak valley) else none
  | 6 => if s.role == .spring && s.spr.dab.on && s.spr.dab.per != 0 then some ((s.now 0 - s.spr.dab.at') % s.spr.dab.per) else none
  | _ => none

/-- A source fires at a unit that selects it (R168): within the ADC cycle of its instant, and once. -/
def State.sourceFires (s : State) (n src : Nat) (vs : List Int) : State :=
  if s.adcGet (F.ADC_CTRL.TRIG_SRC n) == src then
    match s.sourceAge n src with
    | some age =>
      let t := s.now 0 - age
      if decide (adcCycle ≤ age) || ((s.unit n).fired.map (fun f => decide (t < f + adcCycle))).getD false then s
      else (s.modUnit n (fun u => { u with fired := some t })).arrive n { at' := t, sched := true, tick := if src = 1 then some 0 else none } vs
    | none => s
  else s

/-- A write of 1 to ADCn_SWTRIG.GO (R168). -/
def State.softTrigger (s : State) (n : Nat) (vs : List Int) : State := s.arrive n { at' := s.now 0, go := true } vs

/-- The soft-start's target in 0.05 V (R541). -/
def State.preTarget (s : State) : Int :=
  if s.get F.CMN_PRECHG.V_DONE == 0 then 2 * (s.vPackBms : Int) - s.get F.CELL_PACK_LIM.PACK_DV else 20 * (s.get F.CMN_PRECHG.V_DONE : Int)

/-- What the soft-start of R541 needs to go on beside its target; a trip of HB4 or HB5 stops its pulses only (R544). -/
def State.preMay (s : State) : Bool :=
  s.flag F.CMN_START_CFG.PRE_SRC && (s.stationSeen == 1 || s.stationSeen == 2) && s.spr.hdr.isSome && !s.blocked &&
    [4, 5].all (fun n => s.hbEn n && !s.isLatched n) && !s.packShowsClosed

/-- CMN_PRECHG.STATE codes. -/
def preRUN : Nat := 1
def preDONE : Nat := 2
def preFAIL : Nat := 3

/-- The soft-start follows its conditions (R541): it starts, ends DONE with PRECHG_DONE, runs again 20 V below its target, or stops. -/
def State.precharge (s : State) : State :=
  if s.role != .spring then s
  else
    let s := if s.stationSeen == 1 || s.stationSeen == 2 then s else { s with spr := { s.spr with preFailed := false } }
    if s.spr.pre then
      if s.preTarget ≤ s.vDc then (s.preStop preDONE).raise Ev.PRECHG_DONE [s.vDc.toNat, (s.time.cyc - s.spr.preAt) / 500000]
      else if s.preMay then s else s.preStop 0
    else
      let low := if s.get F.CMN_PRECHG.STATE == preDONE then decide (s.vDc < s.preTarget - 400) else decide (s.vDc < s.preTarget)
      if s.preMay && !([4, 5].any s.isTripped) && low && !s.spr.preFailed then
        ((({ s with spr := { s.spr with pre := true, preAt := s.time.cyc, prePer := s.get F.CTL_DAB_PER.PER, dab := {} } }).hbsLow [2, 3, 4, 5] (s.now 0)).uncommand
          [2, 3, 4, 5]).set F.CMN_PRECHG.STATE preRUN
      else s

/-- The next entry's result (R160 to R164, R172, R184) from the inputs of its conversions, 2^AVG of them, the last of which has ended. -/
def State.writeResult (s : State) (n : Nat) (r : AdcRun) (convs : List Conv) : State :=
  let w := r.entries.getD r.done 0
  let gain := bitsOf w 10 2
  let j := 8 * n + bitsOf w 0 3
  let per := convTime w
  let codes := convs.map (s.convCode n gain)
  let sys := bitOf w 9 && s.flag (F.ADC_SYS_CFG.VALID j) && s.get (F.ADC_SYS_CFG.GAIN_SEL j) == gain
  let fixed := codes.map (fun c => if sys then s.sysCorrect j c else (c, false))
  let marks := convs.map (fun c => rangeMark gain c.1)
  let cnt := (marks.filter Option.isSome).length
  let sus := ((s.unit n).susAt.map (fun e => decide (r.at' < e + 1600))).getD false
  let uncal := !s.flag (F.ADC_STAT.CAL_OK n) || (s.unit n).failed
  let flags := 128 * b2n (cnt != 0) + 64 * b2n sus + 16 * b2n uncal + 8 * b2n r.held + 4 * b2n sys + 2 * b2n (fixed.any (·.2))
  let s := (s.set (F.ADC_RES.FLAGS n r.done) flags).setI (F.ADC_RES.VALUE n r.done) (adcValue (bitsOf w 24 4) (fixed.map (·.1)))
  let s := s.modUnit n (fun u => { u with
    run := some { r with done := r.done + 1, at' := r.at' + entryTime w, endAt := s.now 0 }
    final := if r.tick == some u.ticks then u.final ||| 2 ^ r.done else u.final
    susAt := (lastMark marks 0).map (fun i => r.at' + (i + 1) * per) })
  let s := if sus then s.seeFlag n seenSUSPECT else s
  match marks.findSome? id with
  | none => s
  | some hi => ((s.addSat (F.ADC_OVR_CNT.COUNT n) cnt).seeFlag n seenOVR).raise Ev.ADC_OVR [n, r.done, j, ofSigned 16 (endCode hi)]

/-- An entry's last conversion has ended, its duration after its sampling began (R161): its result is written, unless a RESTART trigger of an earlier ADC cycle aborts the run. -/
def State.entryDone (s : State) (n : Nat) (convs : List Conv) : State :=
  match (s.unit n).run with
  | none => s
  | some r =>
    let w := r.entries.getD r.done 0
    if r.sampling && decide (r.done < r.entries.length) && convs.length == 2 ^ bitsOf w 20 4 && decide (r.at' + entryTime w ≤ s.now 8) then
      match (s.unit n).after with
      | x :: rest =>
        if x.at' / adcCycle < s.now 0 / adcCycle then (s.modUnit n (fun u => { u with after := rest })).trigger n x (convs.map (·.1))
        else (s.writeResult n r convs).precharge
      | [] => (s.writeResult n r convs).precharge
    else s

/-- Units that CHAIN from one are triggered by its run's end (R168); `vs` by unit, the inputs of bursts it discards. -/
def State.chainFires (s : State) (n : Nat) (vs : List (List Int)) : State :=
  (List.range 4).foldl (fun (s : State) m =>
    if s.adcGet (F.ADC_CTRL.TRIG_SRC m) = 7 && s.adcGet (F.ADC_CTRL.CHAIN_UNIT m) == n then s.arrive m { at' := s.now 0 } (vs.getD m []) else s) s

/-- A run ends (R166, R170, R174): a due calibration starts and a pending trigger is skipped; else the pending trigger starts the next run, without HELD where it came in the
ADC cycle of the end; triggers that arrive after the run follow, and units that CHAIN from this one are triggered. -/
def State.runEnd (s : State) (n : Nat) (vs : List (List Int)) : State :=
  match (s.unit n).run with
  | none => s
  | some r =>
    if r.done == r.entries.length then
      let u := s.unit n
      let s := ((s.modUnit n (fun u => { u with run := none, overRun := false, pend := none, after := [] })).set (F.ADC_STAT.RUNNING n) 0).inc (F.ADC_RUN_CNT.COUNT n)
      let s := s.set (F.ADC_STAT.PENDING n) 0
      let s := if u.jobDue then (if u.pend.isSome then s.inc (F.ADC_CAL_SKIP.COUNT n) else s).startJob n
        else
          match u.pend with
          | some x =>
            if x.at' / adcCycle = r.endAt / adcCycle then s.accept n x false 0 else s.accept n x true r.endAt
          | none => s
      let s := u.after.foldl (fun (s : State) x => s.trigger n x []) s
      s.chainFires n vs
    else s

/-- Running runs aborted on the safe clock, their results flagged (R306). -/
def State.abortRuns (s : State) : State :=
  (List.range 4).foldl (fun s n =>
    match (s.unit n).run with
    | none => s
    | some r => ((s.flagAborted n r.entries.length).modUnit n (fun u => { u with run := none, pend := none, after := [] })).set (F.ADC_STAT.RUNNING n) 0
      |>.set (F.ADC_STAT.PENDING n) 0) s

end Sys2Proof.Machine
end

