-- ==== Sys2Proof/Machine/BridgeOps.lean ====
section
/-! DEFINITION. BridgeOps.lean: what a slot's mode does at a Spring's bridges: modes and interlocks (R68, R140, R143), clipping (R69), the DAB loop
(R70, R71), holds (R197 to R199). -/
namespace Sys2Proof.Machine

/-- Slot modes of R68. -/
def mOFF : Nat := 0
def mPSC : Nat := 1
def mLEVEL : Nat := 2
def mBYPASS : Nat := 3

/-- A slot of which only SLOT_SEQ counts: one read in BLOCK (R134), one in force when the safe clock came (R306). -/
def parkedSlot (x : Slot) : Slot := { x with mode := mOFF, level := 0, m := 0, restart := false, dabEn := false, pDab := 0 }

/-- A bypass that shows closed, or differs from BYP_CMD, makes PSC and LEVEL plus or minus 1 act as LEVEL 0 (R140). -/
def State.ilkCond (s : State) : Bool := s.bypShowsClosed || !s.gate.bypCmd

/-- The mode the slot in force asks for: BLOCK and a carrier that does not run make it OFF (R64, R134), SAFE_HOLD makes every slot BYPASS (R531), reserved
modes act as OFF (R68). -/
def State.slotMode (s : State) : Nat × Int := match s.spr.slot with
  | none => (mOFF, 0)
  | some x =>
    if s.blocked then (mOFF, 0)
    else if s.flag F.CMN_RESET.SAFE_HOLD then (mBYPASS, 0)
    else if x.mode == mPSC then (if s.spr.carrier then (mPSC, 0) else (mOFF, 0))
    else if x.mode == mLEVEL then
      (if x.level == 0 || x.level == 1 || x.level == -1 then (mLEVEL, if s.spr.lvl0 then 0 else x.level) else (mOFF, 0))
    else if x.mode == mBYPASS then (mBYPASS, 0)
    else (mOFF, 0)

/-- The bypass interlock replaces the mode (R140). -/
def State.ilkActs (s : State) : Bool :=
  let (m, l) := s.slotMode
  s.ilkCond && (m == mPSC || (m == mLEVEL && l != 0))

/-- The mode applied to the H-bridge, with its level (R68, R140, R143). -/
def State.effMode (s : State) : Nat × Int :=
  if s.blocked then (mOFF, 0) else if s.gate.actByp then (mLEVEL, 0) else if s.ilkActs then (mLEVEL, 0) else s.slotMode

/-- The DAB follows the slot's DAB_EN: not in BLOCK, SAFE_HOLD, BYPASS or a reserved mode, nor while the soft-start runs (R68, R134, R541). -/
def State.dabWanted (s : State) : Bool := match s.spr.slot with
  | none => false
  | some x => x.dabEn && !s.blocked && decide (x.mode ≤ 2) && !s.flag F.CMN_RESET.SAFE_HOLD && !s.spr.pre

/-- Leg levels of LEVEL mode (R68): whether the high side of HB0 and of HB1 is on. -/
def levelLegs (l : Int) : Bool × Bool := if l == 1 then (true, false) else if l == -1 then (false, true) else (false, false)

/-! ### The edge generator (R66, R67, R70, R112, R113, R154, R541) -/

/-- Instants count 250 ps steps of the CORE clock; the generator's waves are told as a level and the steps since and until the level's crossings:
whether the high side is on, steps since that began, steps until it ends. -/
structure Wave where
  hi : Bool
  since : Nat
  left : Nat
  deriving DecidableEq, Repr

/-- A pulse from `a` to `b` in a period, at phase `x`. -/
def waveOf (per a b x : Nat) : Wave :=
  if a ≤ x ∧ x < b then ⟨true, x - a, b - x⟩ else if x < a then ⟨false, x + per - b, a - x⟩ else ⟨false, x - b, a + per - x⟩

/-- A leg in PSC (R66): the triangle starts at 0, so the high side is on from `h` before a period's start to `h` after it, where `h` is the share of the half
period at which carrier and reference cross. -/
def pscWave (per x : Nat) (m : Int) : Wave :=
  let h := (roundFree ((32768 + m) * per) 131072).toNat
  if x < h then ⟨true, x + h, h - x⟩ else if x < per - h then ⟨false, x - h, per - h - x⟩ else ⟨true, x - (per - h), per - x + h⟩

/-- A DAB leg of half-period pulses delayed by `d`, which the next period delays by `d'` (R70): a negative delay starts the pulse in the period before. -/
def dabWave (per x : Nat) (d d' : Int) : Wave :=
  let half := per / 2
  let b := (half + d).toNat
  let c := ((per : Int) + (if d' < 0 then d' else 0)).toNat
  if x < b then (if x < d.toNat then ⟨false, x + half, d.toNat - x⟩ else ⟨true, ((x : Int) - d).toNat, b - x⟩)
  else if x < c then ⟨false, x - b, c - x + (if 0 < d' then d'.toNat else 0)⟩
  else ⟨true, x - c, per - x + ((half : Int) + d').toNat⟩

def Wave.inv (w : Wave) : Wave := { w with hi := !w.hi }

/-- A delay of `y` in Q8.24 of a half period, in steps (R70). -/
def dabDelay (per : Nat) (y : Int) : Int := roundFree (y * per) (2 ^ 25)

/-- The share of the half period by which the legs of the soft-start overlap in the period in progress: d of R541, rising from 0 to 1 over CMN_PRECHG.RAMP (10 ms
steps), taken at the period's start. -/
def State.preDelay (s : State) (t : Nat) : Nat :=
  let per := s.spr.prePer
  let at' := (t - 8 * s.spr.preAt) / per * per
  let ramp := 8 * 5000000 * s.get F.CMN_PRECHG.RAMP
  if ramp = 0 then per / 2 else (roundFree (per * (min at' ramp : Nat)) (2 * ramp)).toNat

/-- What the edge generator gives a half-bridge's leg at `sub` steps into the present CORE cycle: the carrier in PSC, the DAB, or the soft-start on HB4 and HB5
(R66, R70, R541). On the safe clock it places no edge (R306). -/
def State.wave (s : State) (n sub : Nat) : Option Wave :=
  let t := s.now sub
  if s.flag F.CLK_PLLS_STAT.ON_SAFE then none
  else if n < 2 then
    if s.effMode.1 == mPSC && decide (0 < s.spr.hbPer) then
      some (pscWave s.spr.hbPer ((s.pwmNow sub + s.spr.phase - s.spr.carrierAt) % s.spr.hbPer) (if n = 0 then s.spr.m else -s.spr.m))
    else none
  else if s.spr.pre then
    let per := s.spr.prePer
    let x := (t - 8 * s.spr.preAt) % per
    if n < 4 || per = 0 then none
    else if n = 4 then some (waveOf per 0 (per / 2) x)
    else let d := s.preDelay t; some (waveOf per d (per / 2 + d) x)
  else
    let b := s.spr.dab
    let x := t - b.at'
    if !b.on || b.per = 0 then none
    else
      let w := if n < 4 then dabWave b.per x 0 0 else dabWave b.per x (dabDelay b.per b.y) (dabDelay b.per b.yNext)
      some (if n % 2 == 0 then w else w.inv)

/-- A pulse or gap too short to be emitted: under CTL_PULSE_MIN (R67), or under 2 ns (R113). -/
def State.tooShort (s : State) (width : Nat) : Bool := decide (width < 8) || decide (width < s.gate.pulseMin)

/-- A leg brought to a level at an instant: the other channel off, this one on (R66, R68). A channel commanded on already gets an on-edge only where the instant
counts as one, a boundary in LEVEL (R130). -/
def State.legTo (s : State) (n : Nat) (hi : Bool) (t width : Nat) (edge : Bool) : State :=
  let s := s.offEdge n (!hi) t
  if ((s.hb n).ch hi).cmd && !edge then s else s.onEdge n hi t width

/-- A leg follows its wave: where the wave is on the other side than the leg, its edge falls now (R67), unless the pulse is too short: the leg then keeps its
state until the next crossing. -/
def State.legWave (s : State) (n t : Nat) (w : Wave) : State :=
  if ((s.hb n).ch w.hi).cmd || s.tooShort w.left then s else s.legTo n w.hi t w.left false

/-- The H-bridge takes the applied mode at `sub` steps into the cycle: LEVEL places its edges, at a `boundary` also for a channel it holds on (R130); PSC puts a
leg on its side of the carrier (R67); OFF and BYPASS, and the safe clock (R306), take the channels low but for a commissioning pulse (R154). -/
def State.driveBridge (s : State) (sub : Nat) (boundary : Bool) : State :=
  let t := s.now sub
  let (m, l) := s.effMode
  let safe := s.flag F.CLK_PLLS_STAT.ON_SAFE
  if m == mLEVEL && !safe then
    let g := levelLegs l
    (s.legTo 0 g.1 t (2 ^ 60) boundary).legTo 1 g.2 t (2 ^ 60) boundary
  else if m == mPSC && !safe then
    ([0, 1] : List Nat).foldl (fun (s : State) n => match s.wave n sub with
      | some w => s.legWave n t w
      | none => s) s
  else
    let ns := ([0, 1] : List Nat).filter (fun n => !s.testOn n)
    (s.hbsLow ns t).uncommand ns

/-- The DAB's legs follow their waves (R70). -/
def State.driveDab (s : State) (sub : Nat) : State :=
  ([2, 3, 4, 5] : List Nat).foldl (fun (s : State) n => match s.wave n sub with
    | some w => s.legWave n (s.now sub) w
    | none => s) s

/-- The level of a commissioning programme's channel at an instant (R154). -/
def TestSt.level (p : TestSt) (t : Nat) : Bool :=
  let e := t - p.at'
  decide (e < 80 * p.on1) || (decide (80 * (p.on1 + p.gap) ≤ e) && decide (e < 80 * (p.on1 + p.gap + p.on2)))

/-- Steps until the pulse that is on ends. -/
def TestSt.left (p : TestSt) (t : Nat) : Nat :=
  let e := t - p.at'
  (if e < 80 * p.on1 then 80 * p.on1 else 80 * (p.on1 + p.gap + p.on2)) - e

/-- How long a programme lasts: a second on-time of 0 makes a single pulse (R154). -/
def TestSt.length (p : TestSt) : Nat := 80 * (p.on1 + (if p.on2 = 0 then 0 else p.gap + p.on2))

/-- The mode the telemetry and CTL_SPR_STATUS report: 0 in BLOCK and while a hold stops the H-bridge (R134, R198), else the mode applied. -/
def State.modeShown (s : State) : Nat := if s.blocked || s.holdStops 0 then 0 else s.effMode.1

/-- The interlock re-evaluated: BYP_INTERLOCK on the first tick of a run, BYP_ILK while it replaces the mode (R140). -/
def State.interlock (s : State) (boundary : Bool) : State :=
  let acts := s.ilkActs && !s.gate.actByp
  let s := if acts && !s.gate.ilk then s.raise Ev.BYP_INTERLOCK [s.slotMode.1, s.spr.tick] else s
  let s := { s with gate := { s.gate with ilk := acts } }
  ({ s with spr := { s.spr with mode := s.effMode.1 } }).driveBridge 0 boundary

/-- A BYP_CMD that moved from what it was brings the interlock up to date at once (R140). -/
def State.bypMoved (s was : State) : State := if s.gate.bypCmd != was.gate.bypCmd then s.interlock false else s

/-! ### Clipping (R69) -/

/-- What R69 decides: the index, the DAB reference, CLIP, CLIP_SRC, and whether LEVEL becomes LEVEL 0. -/
structure Clip where
  m : Int
  pDab : Int
  clip : Bool
  src : Nat
  level0 : Bool
  deriving DecidableEq, Repr

/-- Power times this unit is 10 W: an index in Q1.15, volts and amperes in 0.05. -/
def pUnit : Int := 32768 * 4000

/-- The clip of R69 for an index (LEVEL: the level in Q1.15), a DAB reference, the limits with their terms and the rating. -/
def clipOf (psc : Bool) (m pDab vi chg dis rated : Int) (srcChg srcDis : Nat) : Clip :=
  let ovr := decide (chg * pUnit < m * vi - pDab * pUnit)
  let under := decide (m * vi - pDab * pUnit < -dis * pUnit)
  if ovr || under then
    let lim := if ovr then chg else -dis
    let want := if ovr then -((lim * pUnit - m * vi).fdiv pUnit) else (m * vi - lim * pUnit).fdiv pUnit
    let ref := if ovr then max pDab (min want rated) else min pDab (max want (-rated))
    let atLim := ref != pDab && (ref.natAbs : Int) == rated
    let still := if ovr then decide (chg * pUnit < m * vi - ref * pUnit) else decide (m * vi - ref * pUnit < -dis * pUnit)
    let target := (lim + ref) * pUnit
    let m' := if !still then m
      else if psc then (if m * vi = 0 then m else if 0 ≤ target * (m * vi) then (m * target).tdiv (m * vi) else 0)
      else 0
    ⟨m', ref, true, (if ovr then srcChg else srcDis) + 16 * b2n atLim, still && !psc⟩
  else ⟨m, pDab, false, 0, false⟩

/-- CLIP_SRC bits of a direction: the terms equal to the limit (R69). -/
def State.clipBits (s : State) (dis : Bool) : Nat :=
  let t := s.limTerms dis
  let l := s.pLim dis
  (if t.1 == l then (if dis then 2 else 1) else 0) + (if t.2.1 == l then 4 else 0) + (if t.2.2 == l then 8 else 0)

/-- The slot's index and DAB reference after R69, with what is reported. A slot in BYPASS or a reserved mode commands no power. -/
def State.applyClip (s : State) : State :=
  match s.spr.slot with
  | none => s
  | some x =>
    let s := { s with spr := { s.spr with lvl0 := false } }
    let (mode, l) := s.effMode
    if 2 < x.mode then { s with spr := { s.spr with m := 0, pDabRef := 0, clip := false, clipSrc := 0 } }
    else
      let m := if mode == mPSC then x.m else if mode == mLEVEL then l * 32768 else 0
      let c := clipOf (mode == mPSC) m x.pDab (s.vDc * s.iStr) (s.pLim false) (s.pLim true) (s.get F.THM_RATING.P_RATED) (s.clipBits false) (s.clipBits true)
      { s with spr := { s.spr with m := c.m, pDabRef := c.pDab, clip := c.clip, clipSrc := c.src, lvl0 := c.level0 } }

/-! ### The DAB loop (R70, R71) -/

/-- Integer square root by bits, high to low. -/
def isqrtBits : Nat → Nat → Nat → Nat
  | 0, _, r => r
  | b + 1, n, r => isqrtBits b n (if (r + 2 ^ b) * (r + 2 ^ b) ≤ n then r + 2 ^ b else r)

/-- Square root of a fraction in Q8.24; an inexact root is rounded as `Config.roundUp` says. -/
def sqrtQ24 (num den : Nat) : Nat :=
  if den = 0 then 0
  else
    let r := isqrtBits 40 (2 ^ 48 * num / den) 0
    if r * r * den = 2 ^ 48 * num then r else if Config.roundUp num den then r + 1 else r

/-- (1 - sqrt(1 - num/den)) / 2 in Q8.24 (R70). -/
def dabHalf (num den : Nat) : Int := roundFree ((2 ^ 24 : Int) - sqrtQ24 (den - num) den) 2

/-- One computation at the start of a DAB period (R70): the new y and controller 13's states, from the reference in 10 W. -/
def State.dabStep (s : State) (p : Int) : Int × Int × Int × Int :=
  let x := s.get F.CTL_DAB_LIM.X_MAX
  let pmax := s.get F.CTL_DAB_K.K_DAB * s.vDc.toNat * s.vLv.toNat
  let num := 10 * p.natAbs * (2 ^ 24 * 400)
  let yff := if pmax = 0 then 0 else if num * 65536 < x * pmax then dabHalf num pmax else dabHalf x 65536
  let yff := if p < 0 then -yff else yff
  let rated := s.get F.THM_RATING.P_RATED
  let e := if rated = 0 then 0 else satSigned 32 (roundFree ((4000 * p - s.vLv * s.iLv) * 2 ^ 24) (4000 * rated))
  let b := tableFor s.tbl.img secCOEF s.selfId tgtSprings
  let refset := (img32 (tableFor s.tbl.img secDERIVED s.selfId tgtSprings) 8).testBit s.stationSeen
  let (pid, i, s1, s2) := ctlUpdate (ctlRec b (if refset then 1 else 0)) e 0 s.spr.dab.i s.spr.dab.s1 s.spr.dab.s2
  let ymax := dabHalf x 65536
  (clampInt (-ymax) ymax (yff + pid), i, s1, s2)

/-- The reference moved toward its target by at most SLEW (R71). -/
def slewTo (p target : Int) (slew : Nat) : Int := if slew = 0 then target else clampInt (p - slew) (p + slew) target

/-- What the start of a DAB period does (R70, R71): the reference moves, and the delay computed from it will apply from the next period. -/
def State.dabCompute (s : State) : State :=
  let p := slewTo s.spr.dab.p s.spr.pDabRef (s.get F.CTL_DAB_LIM.SLEW)
  let (y, i, s1, s2) := s.dabStep p
  { s with spr := { s.spr with dab := { s.spr.dab with p := p, yNext := y, i := i, s1 := s1, s2 := s2 } } }

/-- DAB_EN brought into force, its first period starting here with P from 0, or taken out (R70): the loop's states at zero and its channels off, but for a
commissioning pulse (R154). -/
def State.dabFollow (s : State) : State :=
  if s.dabWanted then
    (if s.spr.dab.on then s
     else ({ s with spr := { s.spr with dab := { on := true, per := s.spr.perNext, at' := s.now 0 } } }).dabCompute).driveDab 0
  else
    let s := { s with spr := { s.spr with dab := {} } }
    let ns := ([2, 3, 4, 5] : List Nat).filter (fun n => !s.testOn n)
    if s.spr.pre then s else (s.hbsLow ns (s.now 0)).uncommand ns

/-! ### Holds (R197 to R199) -/

/-- The channels a hold stops go low; a commissioning pulse ends (R197, R198). -/
def State.holdLow (s : State) (t : Nat) : State :=
  ((List.range 6).foldl (fun s n => if s.holdStops n then s.hbLow n t else s) s).endTest t

/-- The arm hold entered (R197): a hold in force keeps its stamp. -/
def State.enterArmHold (s : State) (t : Nat) : State :=
  if s.armHeld then s else (((s.set F.WEIR_SSTAT.ARM_HOLD 1).set F.WEIR_HOLD_IN.STAMP s.stamp).holdLow t)

/-- The station hold entered (R197). -/
def State.enterStnHold (s : State) (t : Nat) : State :=
  if s.stnHeld then s else (((s.set F.WEIR_SSTAT.STN_HOLD 1).set F.WEIR_STN_IN.STAMP s.stamp).holdLow t)

/-- The header's fields hold a Spring not yet held (R199). -/
def State.headerHolds (s : State) (h : TickHdr) : State :=
  let a := s.get F.WEIR_SCFG.ARM_ID
  let t := s.now 0
  let s := if a < 12 && h.weirHold.testBit a && !s.armHeld then
      ((s.enterArmHold t).inc F.WEIR_MISS_CNT.COUNT).raise Ev.WEIR_MISS [a, h.tick]
    else s
  if h.weirStn && !s.stnHeld then ((s.enterStnHold t).inc F.WEIR_MISS_CNT.COUNT).raise Ev.WEIR_MISS [0xF, h.tick] else s

/-- Holds left at a boundary that applies a slot from a header that releases them and passes the stamp test (R199). Switching resumes at that boundary: the
generator commands the half-bridges they stopped anew. -/
def State.leaveHolds (s : State) (h : TickHdr) : State :=
  let a := s.get F.WEIR_SCFG.ARM_ID
  let was := (List.range 6).filter (fun n => s.holdStops n)
  let s := if s.armHeld && !(decide (a < 12) && h.weirHold.testBit a) && decide (0 ≤ stampDiff h.weirRstamp (s.get F.WEIR_HOLD_IN.STAMP)) then
      s.set F.WEIR_SSTAT.ARM_HOLD 0 else s
  let s := if s.stnHeld && !h.weirStn && decide (0 ≤ stampDiff h.weirRstamp (s.get F.WEIR_STN_IN.STAMP)) then s.set F.WEIR_SSTAT.STN_HOLD 0 else s
  s.uncommand (was.filter (fun n => !s.holdStops n))

end Sys2Proof.Machine
end

