-- ==== Sys2Proof/Machine/Gate.lean ====
section
/-! DEFINITION. Gate.lean: the meanings of the gate path, fault input, contactor and commissioning commands of a Spring (04). -/
namespace Sys2Proof.Machine

/-- An edge of a commissioning programme at an instant (R154): its level changes there. A rising edge against the other commanded channel is CONFLICT (R118). -/
def State.testEdge (s : State) (p : TestSt) (t : Nat) : State :=
  let n := p.ch / 2
  let hi := p.ch % 2 == 0
  if s.flag F.CLK_PLLS_STAT.ON_SAFE || p.level t == p.level (t - 1) then s
  else if !p.level t then s.offEdge n hi t
  else if ((s.hb n).ch (!hi)).cmd && s.hbEn n then s.conflict n t
  else s.onEdge n hi t (p.left t)

/-- COMMANDED_EDGE (R66, R67, R70, R112 to R117, R154, R541): at `sub` steps into the cycle the generator's wave for the leg of channel `c`, or the commissioning
programme on it, crosses. A leg's two channels are exact complements, so its edge is one channel off and the other on; dead time delays the rising edge
or drops its pulse. Without a crossing there the command finds no edge to place. Carrier and wave are computed to one step; a crossing is met within
the two steps that follow it. -/
def execCommandedEdge (dt : Nat) (c : Fin 12) (sub : Fin 8) (s : State) : Out := onSpring s fun s =>
  let s := s.advance dt
  let n := c.val / 2
  match s.gate.test.filter (fun p => p.ch == c.val), s.wave n sub with
  | some p, _ => s.testEdge p (s.now sub)
  | none, some w => if w.since < 2 then s.legWave n (s.now sub) w else s
  | none, none => s

/-- CONFLICT (R118, R119): at `sub` steps into the cycle a rising edge reaches the CONFLICT stage, after dead time, while the other channel is commanded on: an
edge that is not the generator's own (an error in the edge memory). -/
def execConflict (dt : Nat) (n : Fin 6) (sub : Fin 8) (s : State) : Out := onSpring s fun s =>
  let s := s.advance dt
  if s.hbEn n && !s.blocked then s.conflict n (s.now sub) else s

/-- DESAT_FAULT (R121): a DESAT input of channel `hi` of half-bridge `n` has been high for DESAT_FLT; `desat` are the twelve DESAT levels. It trips when the
channel conducts outside its blanking window. -/
def execDesatFault (dt : Nat) (n : Fin 6) (hi : Bool) (desat : Nat) (sub : Fin 8) (s : State) : Out := onSpring s fun s =>
  let s := (s.advance dt).setDesat desat
  let t := s.now sub
  if s.hbEn n && (s.hb n).conducting t == some hi && !s.inBlank n hi t then s.trip n tripDESAT t else s

/-- READY_LOSS (R123): a ready input has read low for RDY_FLT: RDY_OK clears, and an enabled half-bridge trips that is commanded to switch or in soft turn-off (R136). -/
def execReadyLoss (dt : Nat) (n : Fin 6) (hi : Bool) (sub : Fin 8) (s : State) : Out := onSpring s fun s =>
  let s := s.advance dt
  let s := s.modHb n (fun h => h.setCh hi { (h.ch hi) with rdy := false })
  let s := s.setBit F.GATE_STATUS.RDY_OK n false
  if s.hbEn n && (s.cmdSwitch n || (s.hb n).soft.isSome) then s.trip n tripREADY (s.now sub) else s

/-- READY_INPUT_HIGH (R123): both ready inputs read high again. -/
def execReadyInputHigh (n : Fin 6) (s : State) : Out := onSpring s fun s =>
  (s.modHb n (fun h => { h with hi := { h.hi with rdy := true }, lo := { h.lo with rdy := true } })).setBit F.GATE_STATUS.RDY_OK n true

/-- READY_TIMEOUT (R131): TRIPPED for READY for longer than RDY_TMO. -/
def execReadyTimeout (dt : Nat) (n : Fin 6) (s : State) : Out := onSpring s fun s =>
  let s := s.advance dt
  if s.isTripped n && !s.isLatched n && (s.hb n).cause == tripREADY && decide (500000 * s.get F.GATE_FAULT_CFG.RDY_TMO < s.time.cyc - (s.hb n).tripAt / 8) then
    (s.latchHb n 1 (s.now 0)).enterBlock cauLATCH (s.now 0)
  else s

/-- MULTI_TRIP_WINDOW (R132): 100 ns after the first trip the window closes; two or more trips in it raise CELL_BLOCK. -/
def execMultiTripWindow (dt : Nat) (s : State) : Out := onSpring s fun s =>
  let s := s.advance dt
  match s.gate.window with
  | [] => s
  | e :: _ => if s.now 0 < e.at' + 400 then s else s.closeWindow

/-- SOFT_TURN_OFF (R124, R137): tSSD after its SSD output rose, the tripped channel is driven low; on the safe clock tSSD is at least 1.5 us. -/
def execSoftTurnOff (dt : Nat) (n : Fin 6) (s : State) : Out := whenPowered s fun s =>
  let s := s.advance dt
  let h := s.hb n
  let least := if s.flag F.CLK_PLLS_STAT.ON_SAFE then 6000 else h.softFor
  if h.soft == some 0 && decide (h.softAt + least < s.now 8) then
    s.modHb n (fun h =>
      let low := fun (c : ChSt) => if c.ssd then { c with on := false, offAt := some (s.now 0) } else c
      { h with hi := low h.hi, lo := low h.lo, soft := some 1, softAt := s.now 0 })
  else s

/-- SSD_RELEASE (R124, R137): 500 ns, at least 490 ns, after the channel went low, the SSD output is released. -/
def execSsdRelease (dt : Nat) (n : Fin 6) (s : State) : Out := whenPowered s fun s =>
  let s := s.advance dt
  if (s.hb n).soft == some 1 && decide ((s.hb n).softAt + 1960 < s.now 8) then
    s.modHb n (fun h => { h with hi := { h.hi with ssd := false }, lo := { h.lo with ssd := false }, soft := none })
  else s

/-- RESUME_TEST (R127 to R131): the on-edge of channel `hi` that the generator has placed in this CORE cycle reaches a TRIPPED half-bridge. A spent budget
latches; quiet inputs resume it, using a retry; else it stays TRIPPED. -/
def execResumeTest (dt : Nat) (n : Fin 6) (hi : Bool) (desat : Nat) (s : State) : Out := onSpring s fun s =>
  let s := (s.advance dt).setDesat desat
  let h := s.hb n
  let c := h.ch hi
  if s.isTripped n && !s.isLatched n && h.soft.isNone && (h.tripCh.isNone || h.tripCh == some hi) && !s.blocked && c.cmd && c.cmdAt / 8 == s.time.cyc then
    let t := c.cmdAt
    let s := s.modHb n (fun h => { h with retries := s.liveRetries n })
    if s.get F.GATE_FAULT_CFG.RETRY_MAX ≤ (s.liveRetries n).length then (s.latchHb n 0 t).enterBlock cauLATCH t
    else
      let q := s.quiet n
      if q == 0 then
        let s := s.modHb n (fun h => { h with retries := h.retries ++ [s.time.cyc], stopped := true })
        let s := (s.setBit F.GATE_STATUS.TRIPPED n false).raise Ev.HB_RESUMED [n, (s.liveRetries n).length]
        (s.freeGroup n).onEdge n hi t (c.cmdTo - t)
      else if (s.hb n).heldOnce then s
      else (s.modHb n (fun h => { h with heldOnce := true })).raise Ev.HB_RESUME_HELD [n, evNum Ev.HB_RESUME_HELD q]
  else s

/-- RETRY_EXPIRY (R128): retries expire RETRY_WIN after they were made. -/
def execRetryExpiry (dt : Nat) (n : Fin 6) (s : State) : Out := onSpring s fun s =>
  let s := s.advance dt
  s.modHb n (fun h => { h with retries := s.liveRetries n })

/-- WIN_EXIT (R175, R177, R122): comparator `j` leaves its window, its input at `v` nV; in a Spring it trips every enabled half-bridge that names it. -/
def execWinExit (dt : Nat) (j : Fin 32) (v : Int) (sub : Fin 8) (s : State) : Out := whenLive s fun s =>
  let s := s.advance dt
  let code := idealCode 0 v
  let high := decide (16 * s.getI (F.ADC_WIN.HIGH j) < code)
  if s.flag (F.ADC_WIN.EN j) && (s.get F.ADC_WIN_STAT.OUT).testBit j == false && (high || decide (code < 16 * s.getI (F.ADC_WIN.LOW j))) then
    let s := ((s.setBit F.ADC_WIN_STAT.OUT j true).hwSet F.ADC_WIN_LATCH.OUT j).raise Ev.WIN_EXIT [j, evNum Ev.WIN_EXIT (b2n high)]
    if s.role == .spring then
      (List.range 6).foldl (fun s n => if s.hbEn n && s.get (F.GATE_PROT.OC_SEL n) == j.val then s.trip n tripOC (s.now sub) else s) s
    else s
  else s

/-- A write to GATE_TEST: its RW fields, and with GO the programme's start (R154). GO with T_ON1 at 0, or without TEST_EN, is discarded. -/
def State.gateTest (s : State) (v : Word) : State :=
  let w := v.toNat
  let s := if bitsOf w 24 4 ≤ 11 then s.set F.GATE_TEST.CH (bitsOf w 24 4) else s
  let s := (s.set F.GATE_TEST.T_GAP (bitsOf w 12 12)).set F.GATE_TEST.T_ON2 (bitsOf w 0 12)
  let c := s.get F.GATE_TEST.CH
  let h := s.hb (c / 2)
  if !bitOf w 31 || !s.flag F.GATE_CTRL.TEST_EN || s.get F.GATE_TEST_T.T_ON1 == 0 then s
  else
    let dab := (s.spr.slot.map (fun (x : Slot) => x.dabEn)).getD false
    let bad := if s.slotMode.1 != mOFF || s.gate.actByp then 1 else if dab then 2 else if s.blocked then 3
      else if s.get F.GATE_STATUS.TRIPPED != 0 || s.get F.GATE_STATUS.LATCHED != 0 then 4 else if !(h.hi.rdy && h.lo.rdy) then 5 else 0
    if bad == 0 && s.gate.test.isNone then
      let p : TestSt := ⟨c, s.now 0, s.get F.GATE_TEST_T.T_ON1, s.get F.GATE_TEST.T_GAP, s.get F.GATE_TEST.T_ON2⟩
      (({ s with gate := { s.gate with test := some p } }).set F.GATE_STATUS.TEST_BUSY 1).onEdge (c / 2) (c % 2 == 0) p.at' (p.left p.at')
    else s.raise Ev.TEST_REJECTED [w, evNum Ev.TEST_REJECTED bad]

/-- GATE_TEST_GO (R154). -/
def execGateTestGo (v : Word) (s : State) : Out := onSpring s fun s => s.gateTest v

/-- TEST_PULSE_PROGRAMME_END (R154): the programme has lasted its time; TEST_BUSY clears. -/
def execTestPulseProgrammeEnd (dt : Nat) (s : State) : Out := onSpring s fun s =>
  let s := s.advance dt
  match s.gate.test with
  | some p => if p.at' + p.length < s.now 8 then s.endTest (s.now 0) else s
  | none => s

/-- BYP_FB_CHANGE (R141, R142, R144, R140): the filtered bypass feedback takes a level; it completes an open or a close, or is reported, and the interlock
is re-evaluated at once. An active bypass ends when it shows closed (R143). -/
def execBypFbChange (dt : Nat) (level : Bool) (s : State) : Out := onSpring s fun s =>
  let s := s.advance dt
  let was := s.bypShowsClosed
  let s := { s with gate := { s.gate with bypFb := level } }
  let now := s.bypShowsClosed
  let s := match s.gate.bypOpening, s.gate.bypClosing with
    | some t, _ =>
      if now then s else { s with gate := { s.gate with bypOpening := none } }.raise Ev.BYP_OPENED [(s.time.cyc - t) / 500000]
    | none, some t =>
      if now then { s with gate := { s.gate with bypClosing := none } }.raise Ev.BYP_CLOSED [(s.time.cyc - t) / 500000] else s
    | none, none => if was != now then s.raise Ev.BYP_FB_CHANGE [b2n now, b2n s.gate.bypCmd] else s
  let s := if now then { s with gate := { s.gate with actByp := false } } else s
  s.interlock false

/-- BYP_OPEN_FAIL (R141): the bypass does not show open within BYP_OPEN_TMO; BYP_CMD is de-energised. -/
def execBypOpenFail (dt : Nat) (s : State) : Out := onSpring s fun s =>
  let s := s.advance dt
  match s.gate.bypOpening with
  | some t =>
    if 500000 * s.get F.CELL_TMO.BYP_OPEN_TMO ≤ s.time.cyc - t then
      let s := s.raise Ev.BYP_OPEN_FAIL [b2n s.gate.bypFb]
      ({ s with gate := { s.gate with bypOpening := none } }.bypRelease).interlock false
    else s
  | none => s

/-- BYP_CLOSE_FAIL (R143): the bypass does not show closed within BYP_CLOSE_TMO: the active bypass, or BLOCK with a Weir each time (R189). -/
def execBypCloseFail (dt : Nat) (s : State) : Out := onSpring s fun s =>
  let s := s.advance dt
  match s.gate.bypClosing with
  | some t =>
    if 500000 * s.get F.CELL_TMO.BYP_CLOSE_TMO ≤ s.time.cyc - t then
      let s := { s with gate := { s.gate with bypClosing := none } }
      if s.actBypOk then
        let s := s.raise Ev.BYP_CLOSE_FAIL [evNum Ev.BYP_CLOSE_FAIL 0]
        { s with gate := { s.gate with actByp := true } }.interlock false
      else
        let s := s.raise Ev.BYP_CLOSE_FAIL [evNum Ev.BYP_CLOSE_FAIL 1]
        if s.blocked then s.springWeir cauBYP else s.enterBlock cauBYP (s.now 0)
    else s
  | none => s

/-- PACK_FB_CHANGE (R144 to R146): the filtered pack feedback takes a level. -/
def execPackFbChange (dt : Nat) (level : Bool) (s : State) : Out := onSpring s fun s =>
  let s := s.advance dt
  let was := s.packShowsClosed
  let s := { s with gate := { s.gate with packFb := level } }
  let now := s.packShowsClosed
  let clr := { s with gate := { s.gate with packOp := none } }
  let s := match s.gate.packOp with
    | some (k, t) =>
      let ms := (s.time.cyc - t) / 500000
      if k == 0 && now then clr.raise Ev.PACK_CLOSED [ms, s.vDc.toNat, s.vPackBms]
      else if k != 0 && !now then clr.raise Ev.PACK_OPENED [ms, sPay s.iPack] else s
    | none => if was != now then s.raise Ev.PACK_FB_CHANGE [b2n now, b2n s.gate.packCmd] else s
  s.precharge

/-- PACK_FAIL (R145, R146): the pack feedback does not follow its command within PACK_TMO; a failed close de-energises PACK_CTR. -/
def execPackFail (dt : Nat) (s : State) : Out := onSpring s fun s =>
  let s := s.advance dt
  match s.gate.packOp with
  | some (k, t) =>
    if 500000 * s.get F.CELL_TMO.PACK_TMO ≤ s.time.cyc - t then
      { s with gate := { s.gate with packOp := none, packCmd := s.gate.packCmd && k != 0 } }.raise Ev.PACK_FAIL [evNum Ev.PACK_FAIL k, b2n s.gate.packFb]
    else s
  | none => s

/-- PRECHG_FAIL (R541): V_TGT is not reached within CMN_PRECHG.TMO. -/
def execPrechgFail (dt : Nat) (s : State) : Out := onSpring s fun s =>
  let s := s.advance dt
  if s.spr.pre && decide (50000000 * s.get F.CMN_PRECHG.TMO ≤ s.time.cyc - s.spr.preAt) then
    let s := { (s.preStop preFAIL) with spr := { (s.preStop preFAIL).spr with preFailed := true } }
    s.raise Ev.PRECHG_FAIL [s.vDc.toNat, sPay s.preTarget]
  else s

/-- CLEAR (R135): the CLEAR carried in the slot applied is evaluated against the inputs, whose DESAT levels are `desat`. -/
def execClear (desat : Nat) (s : State) : Out := onSpring s fun s => (s.setDesat desat).withDue 1 State.opClear

/-- BYP_OPEN (R141). -/
def execBypOpen (s : State) : Out := onSpring s fun s => (s.withDue 2 State.opBypOpen).bypMoved s

/-- BYP_CLOSE (R148). -/
def execBypClose (s : State) : Out := onSpring s fun s => (s.withDue 3 State.opBypClose).bypMoved s

/-- PACK_CLOSE (R145). -/
def execPackClose (s : State) : Out := onSpring s fun s => s.withDue 4 State.opPackClose

/-- PACK_OPEN (R146). -/
def execPackOpen (s : State) : Out := onSpring s fun s => s.withDue 5 State.opPackOpen

end Sys2Proof.Machine
end

