-- ==== Sys2Proof/Machine/ClockOps.lean ====
section
/-! DEFINITION. ClockOps.lean: the PLL registers by synthesiser, source selection, hop slots (10_clock_synthesis, R295 to R303). -/
namespace Sys2Proof.Machine

/-- The field of the PLL named. -/
def pllF (p : Pll) (fs fl : Fld) : Fld := match p with
  | .s => fs
  | .l => fl

def pState (p : Pll) : Fld := pllF p F.CLK_PLLS_STAT.STATE F.CLK_PLLL_STAT.STATE
def pRefOk (p : Pll) : Fld := pllF p F.CLK_PLLS_STAT.REF_OK F.CLK_PLLL_STAT.REF_OK
def pSrc (p : Pll) : Fld := pllF p F.CLK_PLLS_STAT.SRC F.CLK_PLLL_STAT.SRC
def pPort (p : Pll) : Fld := pllF p F.CLK_PLLS_STAT.PORT F.CLK_PLLL_STAT.PORT
def pSlot (p : Pll) : Fld := pllF p F.CLK_PLLS_STAT.SLOT F.CLK_PLLL_STAT.SLOT
def pllNum (p : Pll) : Nat := match p with
  | .s => 0
  | .l => 1

/-- PLL states of CLK_PLLS_STAT.STATE. -/
def pllSEARCH : Nat := 0
def pllSLOT_RELOCK : Nat := 1
def pllACQUIRE : Nat := 2
def pllLOCKED : Nat := 3
def pllHOLDOVER : Nat := 4
def pllPULL : Nat := 5

/-- Source codes of STAT.SRC. -/
def srcREFCLK : Nat := 1
def srcFWD : Nat := 2
def srcREC : Nat := 3

/-- The source the selection of R295 names, with its port: PLL-S by REF_SRC, AUTO by role and time upstream; PLL-L by its REF_SRC (R293). -/
def State.selSrc (s : State) (p : Pll) : Nat × Nat := match p with
  | .s =>
    match s.get F.CLK_PLLS_CTRL.REF_SRC with
    | 0 =>
      if s.role == .basin then (srcREFCLK, 0)
      else
        let up := s.get F.TIME_STATUS.UPPORT
        if up == 0xF then (srcREFCLK, 0)
        else if s.flag (F.LNK_PSTAT.CDR up) then (srcREC, up) else (srcFWD, up)
    | 1 => (srcREFCLK, 0)
    | 2 => (srcFWD, s.get F.CLK_PLLS_CTRL.PORT)
    | _ => (srcREC, s.get F.CLK_PLLS_CTRL.PORT)
  | .l => if s.flag F.CLK_PLLL_CTRL.REF_SRC then (srcFWD, 0) else (srcREFCLK, 0)

/-- Fields of hop slot `n` of a PLL (R303). -/
def hopValid (p : Pll) (n : Nat) : Fld := pllF p (F.CLK_HOP.VALID n) (F.CLK_LHOP.VALID n)
def hopSrc (p : Pll) (n : Nat) : Fld := pllF p (F.CLK_HOP.SRC n) (F.CLK_LHOP.SRC n)
def hopPort (p : Pll) (n : Nat) : Fld := pllF p (F.CLK_HOP.PORT n) (F.CLK_LHOP.PORT n)
def hopBand (p : Pll) (n : Nat) : Fld := pllF p (F.CLK_HOP.BAND n) (F.CLK_LHOP.BAND n)
def hopMed (p : Pll) (n : Nat) : Fld := pllF p (F.CLK_HOP.MED n) (F.CLK_LHOP.MED n)
def hopInteg (p : Pll) (n : Nat) : Fld := pllF p (F.CLK_HOP2.INTEG n) (F.CLK_LHOP2.INTEG n)
def hopT (p : Pll) (n : Nat) : Fld := pllF p (F.CLK_HOP2.T_STORE n) (F.CLK_LHOP2.T_STORE n)

/-- The slot that holds a source, if one is valid (R300, R303). -/
def State.slotOf (s : State) (p : Pll) (src : Nat × Nat) : Option Nat :=
  (List.range 8).find? (fun n => s.flag (hopValid p n) && s.get (hopSrc p n) == src.1 && s.get (hopPort p n) == src.2)

/-- The slot that holds a source and may relock it: T_DIE within 30.0 degrees of T_STORE (R303). -/
def State.relockSlot (s : State) (p : Pll) (src : Nat × Nat) : Option Nat :=
  match s.slotOf p src with
  | some n => if (s.getI F.THM_STATUS.T_DIE - s.getI (hopT p n)).natAbs ≤ 300 then some n else none
  | none => none

def State.hopOrder (s : State) (p : Pll) : List Nat := match p with
  | .s => s.clk.orderS
  | .l => s.clk.orderL

/-- The slot a lock to a source takes: the one that holds it, else the lowest invalid, else the least recently stored (R303). -/
def State.takeSlot (s : State) (p : Pll) (src : Nat × Nat) : Nat :=
  match s.slotOf p src with
  | some n => n
  | none =>
    match (List.range 8).find? (fun n => !s.flag (hopValid p n)) with
    | some n => n
    | none => s.hopOrder p |>.headD 0

/-- Slot `n` becomes the one most recently stored. -/
def State.touchSlot (s : State) (p : Pll) (n : Nat) : State :=
  let o := (s.hopOrder p).filter (· != n) ++ [n]
  match p with
  | .s => { s with clk := { s.clk with orderS := o } }
  | .l => { s with clk := { s.clk with orderL := o } }

/-- A reference lost: HOLDOVER at the code in force, counted and reported (R297, R298, R312). -/
def State.pllHold (s : State) (p : Pll) (cause : Nat) : State :=
  let s := (s.set (pState p) pllHOLDOVER).set (pRefOk p) 0
  (s.inc (pllF p F.CLK_CNT.HOLD_S F.CLK_CNT.HOLD_L)).raise Ev.PLL_HOLDOVER [pllNum p, s.get (pSrc p), s.get (pPort p), evNum Ev.PLL_HOLDOVER cause]

/-- A change of the selected source, away from the one in use, acts as a loss of the old one (R300), also during an engagement or a pull (R312). -/
def State.hopIfMoved (s : State) (p : Pll) (before : Nat × Nat) : State :=
  let sel := s.selSrc p
  if sel != before && sel != (s.get (pSrc p), s.get (pPort p)) && [pllACQUIRE, pllLOCKED, pllPULL].contains (s.get (pState p)) then s.pllHold p 0 else s

/-- A SEARCH is refused while the station, or a Spring's half-bridges, switch (R308). `sw` is whether a half-bridge is commanded to switch. -/
def State.clkRefused (s : State) (sw : Bool) : Bool := match s.role with
  | .basin => s.energisedRange
  | .spring => sw

end Sys2Proof.Machine
end

