-- ==== Sys2Proof/Machine/HostOps.lean ====
section
/-! DEFINITION. HostOps.lean: queue pairs, completions, event sources and stream records of a Basin (R318 to R341). -/
namespace Sys2Proof.Machine

/-! ### Pairs -/

def State.pair (s : State) (q : Nat) : PairSt := s.host.pairs.getD q {}
def State.setPair (s : State) (q : Nat) (p : PairSt) : State := { s with host := { s.host with pairs := s.host.pairs.set q p } }
def State.modPair (s : State) (q : Nat) (f : PairSt → PairSt) : State := s.setPair q (f (s.pair q))

/-- Pair states of HIF_QPn_STAT.STATE (R321). -/
def qpDIS : Nat := 0
def qpON : Nat := 1
def qpENDING : Nat := 2
def qpERR : Nat := 3

def State.qpState (s : State) (q : Nat) : Nat := s.get (F.HIF_QP_STAT.STATE q)
def State.isStream (s : State) (q : Nat) : Bool := s.flag (F.HIF_QP_CFG.TYPE q)

/-- In-flight descriptors of a pair, in fetch order (R324). -/
def State.inflOf (s : State) (q : Nat) : List Infl := s.host.infl.filter (fun x => x.q == q)

/-- The number of its SQ. -/
def Infl.sq (x : Infl) : Nat := x.q % 16

/-- Descriptors in flight (R324). -/
def State.inflight (s : State) : Nat := (s.host.infl.filter (fun x => decide (x.q < 16))).length

/-- The in-flight descriptor of a number. -/
def State.inflAt (s : State) (id : Nat) : Option Infl := s.host.infl.find? (fun x => x.id == id)

/-- The in-flight descriptor of a number changed. -/
def State.modInfl (s : State) (id : Nat) (f : Infl → Infl) : State :=
  { s with host := { s.host with infl := s.host.infl.map (fun x => if x.id == id then f x else x) } }

def State.setPhase (s : State) (id : Nat) (p : Phase) : State := s.modInfl id (fun x => { x with phase := p })

/-- The outcome is decided (R333). -/
def Phase.isDone : Phase → Bool
  | .done _ => true
  | _ => false

/-! ### Event sources and vectors (R339, R340) -/

/-- EN and VECTOR of an event source. -/
def evtEn (n : Nat) : Fld := ⟨(F.HIF_EVT_MAP.EN0 (n / 4)).off, 8 * (n % 4) + 7, 1⟩
def evtVec (n : Nat) : Fld := ⟨(F.HIF_EVT_MAP.EN0 (n / 4)).off, 8 * (n % 4), 6⟩

/-- A vector becomes due; one already due, or whose message waits with its PBA bit set, stays due once. -/
def State.vectorDue (s : State) (v : Nat) : State :=
  if s.host.vecDue.contains v || s.host.msixPba.contains v then s else { s with host := { s.host with vecDue := s.host.vecDue ++ [v] } }

/-- An event source asserts: its HIF_EVT_STAT bit sets, and an enabled source makes its vector due. -/
def State.assertSrc (s : State) (n : Nat) : State :=
  let s := s.hwSet (F.HIF_EVT_STAT.PEND (n / 32)) (n % 32)
  if s.flag (evtEn n) then s.vectorDue (s.get (evtVec n)) else s

/-- The exception source of a pair. -/
def State.pairException (s : State) (q : Nat) : State := s.assertSrc (16 + q)

/-! ### Completions (R325, R330 to R333, R341) -/

/-- Room in a CQ: its tail is not one behind its head (R320). -/
def State.cqRoom (s : State) (q : Nat) : Bool :=
  let n := s.get (F.HIF_QP_SIZE.CQ_SIZE q)
  n != 0 && (s.get (F.HIF_QP_STAT.CQ_TAIL q) + 1) % n != (s.pair q).cqHead

/-- A ready completion meets a full CQ: CQ_FULL sets, once for each run (R325). -/
def State.cqCheck (s : State) (q : Nat) : State :=
  let held := ((s.inflOf q).filter (fun x => x.phase.isDone)).length
  if held != 0 && !s.cqRoom q && !s.flag (F.HIF_QP_STAT.CQ_FULL q) && s.qpState q != qpDIS then
    ((s.set (F.HIF_QP_STAT.CQ_FULL q) 1).pairException q).raise Ev.CQ_FULL [q, held]
  else s

/-- A descriptor's outcome is decided now; that of one whose completion R317 discards is dropped. `tick` 0 stands for the tick in which the completion is written (R330). -/
def State.settle (s : State) (id status reason result frac tick : Nat) : State :=
  match s.inflAt id with
  | none => s
  | some x =>
    if x.phase.isDone then s
    else if 16 ≤ x.q then { s with host := { s.host with infl := s.host.infl.filter (fun y => y.id != id) } }
    else (s.setPhase id (.done ⟨status, frac, tick, s.stamp, reason, result⟩)).cqCheck x.q

/-- Completion statuses of R331. -/
def stOK : Nat := 0x00
def stOKEMPTY : Nat := 0x01
def stPARTIAL : Nat := 0x02
def stDELAYED : Nat := 0x03
def stCLASS : Nat := 0x10
def stLIMIT : Nat := 0x11
def stTHERMAL : Nat := 0x12
def stABORTED : Nat := 0x20
def stFENCED : Nat := 0x21
def stRESTARTED : Nat := 0x22
def stTAKEOVER : Nat := 0x23
def stBUSY : Nat := 0x24
def stOPCODE : Nat := 0x30
def stLENGTH : Nat := 0x31
def stTARGET : Nat := 0x32
def stAUTH : Nat := 0x33
def stSTALE : Nat := 0x34
def stDEVICE : Nat := 0x40

/-- A descriptor completes with a status and reason. -/
def State.refuse (s : State) (id status reason : Nat) : State := s.settle id status reason 0 0 0

/-- The CQ source asserts and counting starts again (R341). -/
def State.cqAssert (s : State) (q : Nat) : State :=
  (s.modPair q (fun p => { p with sinceAssert := 0, firstAt := none })).assertSrc q

/-- A completion counted for coalescing (R341). -/
def State.coalesce (s : State) (q : Nat) (now : Bool) : State :=
  let s := s.modPair q (fun p => { p with sinceAssert := p.sinceAssert + 1, firstAt := some (p.firstAt.getD s.time.cyc) })
  if now || decide (s.get (F.HIF_QP_COAL.COUNT q) ≤ (s.pair q).sinceAssert) then s.cqAssert q else s

/-- A pair that is DISABLING with nothing left in flight is DISABLED (R321). -/
def State.qpSettled (s : State) (q : Nat) : State :=
  if s.qpState q == qpENDING && (s.inflOf q).isEmpty then s.set (F.HIF_QP_STAT.STATE q) qpDIS else s

/-- The 32 bytes of a completion (R330). -/
def cplBytes (c : Cpl) (phase : Bool) (tag opcode head : Nat) : List Nat :=
  leBytes 2 tag ++ [c.status % 256, b2n phase] ++ leBytes 2 head ++ [opcode % 256, 0] ++ leBytes 4 c.frac ++ leBytes 4 c.tick ++ leBytes 4 c.stamp ++
    leBytes 4 c.reason ++ leBytes 4 c.result ++ List.replicate 4 0

/-- The bus address of a CQ entry (R320). -/
def State.cqAddr (s : State) (q tail : Nat) : Nat := s.get (F.HIF_CQ_BASE_LO.ADDR q) + 2 ^ 32 * s.get (F.HIF_CQ_BASE_HI.ADDR q) + 32 * tail

/-- The next completion of a pair is written when it is ready and there is room (R325, R330, R332, R333). -/
def State.writeCpl (s : State) (q : Nat) : State :=
  match (s.inflOf q).head? with
  | none => s
  | some x =>
    match x.phase with
    | .done c =>
      if s.cqRoom q then
        let tail := s.get (F.HIF_QP_STAT.CQ_TAIL q)
        let n := s.get (F.HIF_QP_SIZE.CQ_SIZE q)
        let c := { c with tick := if c.tick = 0 then s.tickNow else c.tick }
        let s := s.emit (.hostWrite (s.cqAddr q tail) (cplBytes c (s.pair q).phase x.d.tag x.d.opcode (s.get (F.HIF_QP_STAT.SQ_HEAD q))))
        let s := s.set (F.HIF_QP_STAT.CQ_TAIL q) ((tail + 1) % n)
        let s := s.modPair q (fun p => { p with phase := if tail + 1 = n then !p.phase else p.phase })
        let s := { s with host := { s.host with infl := s.host.infl.filter (fun y => y.id != x.id) } }
        let s := if s.inflight < 496 then { s with host := { s.host with fullRun := false } } else s
        (s.coalesce q (bitOf x.d.flags 0 || decide (0x10 ≤ c.status))).cqCheck q
      else s.cqCheck q
    | _ => s

/-! ### Streams (R335 to R338) -/

/-- Bytes of a record with its header (R336). -/
def StreamRec.size : StreamRec → Nat
  | .telem _ _ => 104
  | .status _ => 72
  | .event _ => 72
  | .gap _ _ _ _ _ => 24

/-- A record's bytes with its header (R336, R338). -/
def StreamRec.bytes (r : StreamRec) (rseq : Nat) : List Nat :=
  let head := fun (ty fl sp len : Nat) => [ty, fl, sp % 256, 0] ++ leBytes 2 len ++ leBytes 2 rseq
  match r with
  | .telem t late => head 1 (b2n late) t.spring 96 ++ telemBody t
  | .status b => head 2 0 0xFF 64 ++ padTo 64 b
  | .event e => head 3 0 0xFF 64 ++ evBytes e
  | .gap sp first count cause stamp => head 0xF 0 sp 16 ++ leBytes 4 first ++ leBytes 4 count ++ [cause % 256, 0, 0, 0] ++ leBytes 4 stamp

/-- GAP causes. -/
def gapNOBUF : Nat := 1
def gapNOTRX : Nat := 2
def gapDISC : Nat := 3
def gapRECOV : Nat := 4

/-- The buffer in use completes: OK, or OK_EMPTY when a disable finds it empty (R335). -/
def State.closeBuf (s : State) (q : Nat) : State :=
  match (s.pair q).bufs with
  | [] => s
  | b :: t => (s.modPair q (fun p => { p with bufs := t })).settle b.id (if b.count = 0 then stOKEMPTY else stOK) 0 b.used b.count 0

/-- A record put into the first posted buffer it fits in, `n` buffers tried; buffers it does not fit in complete. -/
def State.putFit (q : Nat) (r : StreamRec) : Nat → State → Option State
  | 0, _ => none
  | n + 1, s =>
    match (s.pair q).bufs with
    | [] => none
    | b :: t =>
      if b.used + r.size ≤ b.size then
        let k := ((s.pair q).rseq + 1) % 2 ^ 16
        let at0 := b.addr + b.used
        let b := { b with used := b.used + r.size, count := b.count + 1, firstAt := if b.count = 0 then s.time.cyc else b.firstAt }
        let s := (s.emit (.hostWrite at0 (r.bytes k))).modPair q (fun p => { p with rseq := k, bufs := b :: t })
        some (if b.size < b.used + 24 then s.closeBuf q else s)
      else State.putFit q r n (s.closeBuf q)

/-- A record that finds no posted buffer (R338): `n` is its tick, or its record sequence on an EVENT stream. -/
def State.streamLost (s : State) (q n : Nat) : State :=
  let s := s.inc (F.HIF_QP_LOST.COUNT q)
  match (s.pair q).noBuf with
  | some run =>
    let more := if s.get (F.HIF_QP_CFG.SOURCE q) == 2 || run.lastTick != n then 1 else 0
    s.modPair q (fun p => { p with noBuf := some { run with count := run.count + more, lastTick := n } })
  | none =>
    let s := (s.modPair q (fun p => { p with noBuf := some ⟨n, 1, n, s.stamp⟩ })).set (F.HIF_QP_STAT.NO_BUF q) 1
    (s.pairException q).raise Ev.STREAM_NOBUF [q, s.get (F.HIF_QP_CFG.SOURCE q), n]

/-- The GAP of a run without a buffer, into a buffer that has returned (R338). -/
def State.putNoBufGap (s : State) (q : Nat) : State :=
  match (s.pair q).noBuf with
  | none => s
  | some run =>
    match State.putFit q (.gap 0xFF run.first run.count gapNOBUF run.stamp) ((s.pair q).bufs.length) s with
    | none => s
    | some s => ((s.modPair q (fun p => { p with noBuf := none })).set (F.HIF_QP_STAT.NO_BUF q) 0).raise Ev.STREAM_GAP [q, run.first, run.count, gapNOBUF]

/-- A record written to a stream pair, or counted lost. -/
def State.streamPut (s : State) (q : Nat) (r : StreamRec) (n : Nat) : State :=
  let s := s.putNoBufGap q
  if (s.pair q).noBuf.isSome then s.streamLost q n
  else (State.putFit q r ((s.pair q).bufs.length) s).getD (s.streamLost q n)

/-- Enabled stream pairs of a source (0 TELEM, 1 SLU_STATUS, 2 EVENT). -/
def State.streamPairs (s : State) (src : Nat) : List Nat :=
  (List.range 16).filter (fun q => s.isStream q && s.qpState q == qpON && s.get (F.HIF_QP_CFG.SOURCE q) == src)

/-- The tick in progress is one the pair carries (R337). -/
def State.decimTick (s : State) (q : Nat) : Bool := (s.pair q).ticks % s.get (F.HIF_QP_STRM.DECIM q) == 0

/-- TELEM pairs that carry a Spring in this tick. -/
def State.telemPairs (s : State) (sp : Nat) : List Nat :=
  (s.streamPairs 0).filter (fun q => s.decimTick q && decide (s.get (F.HIF_QP_STRM.SPR_FIRST q) ≤ sp) && decide (sp ≤ s.get (F.HIF_QP_STRM.SPR_LAST q)))

/-- A Spring's run of lost ticks ends on a pair: its GAP is written (R338). -/
def State.closeGap (s : State) (q sp : Nat) : State :=
  match (s.pair q).gaps.find? (fun g => g.spring == sp) with
  | none => s
  | some g =>
    (s.modPair q (fun p => { p with gaps := p.gaps.filter (fun x => x.spring != sp) })).streamPut q (.gap sp g.first g.count g.cause g.stamp) g.first

/-- Telemetry of the tick streamed to every pair that carries its Spring (R337, R349). -/
def State.streamTelem (s : State) (t : Telem) (late : Bool) : State :=
  (s.telemPairs t.spring).foldl (fun s q => (s.closeGap q t.spring).streamPut q (.telem t late) t.tick) s

/-- A Spring's tick was lost: its run on each pair that would have carried it grows, or a run of another cause ends (R338). -/
def State.streamHole (s : State) (sp tick cause : Nat) : State :=
  (s.telemPairs sp).foldl (fun s q =>
    match (s.pair q).gaps.find? (fun g => g.spring == sp && g.cause == cause) with
    | some g => s.modPair q (fun p => { p with gaps := p.gaps.map (fun x => if x.spring == sp then { g with count := g.count + 1 } else x) })
    | none =>
      let s := s.closeGap q sp
      s.modPair q (fun p => { p with gaps := p.gaps ++ [⟨sp, tick, 1, cause, s.stamp⟩] })) s

/-- A RECOVERY GAP on a pair for a run of ticks (R372). -/
def State.recoveryGap (s : State) (q first count : Nat) : State :=
  if count = 0 then s else (s.streamPut q (.gap 0xFF first count gapRECOV s.stamp) first).raise Ev.PIPELINE_GAP [q, first, count]

/-- A committed record copied to the EVENT streams that take its severity (R337). -/
def State.streamEvent (s : State) (r : EvRec) : State :=
  (s.streamPairs 2).foldl (fun s q => if s.get (F.HIF_QP_STRM.SEV q) ≤ r.sev then s.streamPut q (.event r) r.seq else s) s

end Sys2Proof.Machine
end

