-- ==== Sys2Proof/Machine/RegOps.lean ====
section
/-! DEFINITION. RegOps.lean: how a write changes the fields of a register under their access codes and ranges (R10, R11, R430), and the safety lock. -/
namespace Sys2Proof.Machine

/-- The value a write carries for a field is one the field's description allows. -/
def fieldOk (f : FldRow) (x : Nat) : Bool := f.ok.isEmpty || f.ok.any (fun iv => decide (iv.1 ≤ x) && decide (x ≤ iv.2))

/-- A word after a write of `v`, field by field: RW in range, RWL where the lock allows, W1C and W1S bits (R10); the W1C bits of `fresh` were set in the same
CORE cycle and stay set (R11). -/
def fieldWrite (locked : Bool) (fresh v : Nat) (w : Word) (f : FldRow) : Word :=
  let x := bitsOf v f.lo f.w
  match f.acc with
  | .rw => if fieldOk f x then putField w f.lo f.w x else w
  | .rwl => if !locked && fieldOk f x then putField w f.lo f.w x else w
  | .w1c => w &&& ~~~ ((BitVec.ofNat 32 x <<< f.lo) &&& ~~~ BitVec.ofNat 32 fresh)
  | .w1s => w ||| (BitVec.ofNat 32 x <<< f.lo)
  | _ => w

/-- The write would change an RWL field (R430). -/
def changesRwl (r : RegRow) (w : Word) (v : Nat) : Bool :=
  r.fields.any (fun f => f.acc == .rwl && bitsOf v f.lo f.w != bitsOf w.toNat f.lo f.w)

/-- The safety configuration is locked (R426). -/
def State.cfgLocked (s : State) : Bool := match s.role with
  | .basin => !s.flag F.SAFE_STAT.UNLOCKED
  | .spring => !s.flag F.SAFE_SUNLOCK.UNLOCK

/-! ### SAFE_CRC (R423) -/

/-- The offsets of a row's registers. -/
def RegRow.offs (r : RegRow) : List Nat :=
  if r.s1 = 0 then [r.base]
  else (List.range r.c1).flatMap (fun i => if r.s2 = 0 then [r.base + i * r.s1] else (List.range r.c2).map (fun j => r.base + i * r.s1 + j * r.s2))

/-- The RWL bits of a row's registers. -/
def RegRow.rwlMask (r : RegRow) : Nat := r.fields.foldl (fun m f => if f.acc == .rwl then m ||| ((2 ^ f.w - 1) * 2 ^ f.lo) else m) 0

/-- A pair put in its place by rising offset. -/
def offInsert (x : Nat × Nat) : List (Nat × Nat) → List (Nat × Nat)
  | [] => [x]
  | y :: t => if x.1 ≤ y.1 then x :: y :: t else y :: offInsert x t

/-- The registers of a role that hold an RWL field, with their RWL bits, by rising offset. -/
def rwlRegs (role : Role) : List (Nat × Nat) :=
  ([0x00, 0x01, 0x02, 0x04, 0x08, 0x0B, 0x0C, 0x10, 0x14, 0x18, 0x1A, 0x1C, 0x1E, 0x20, 0x24, 0x28, 0x2C, 0x30] : List Nat).flatMap (fun b =>
    ((regRowsAt (0x1000 * b)).flatMap (fun r =>
      if r.rwlMask = 0 then [] else (r.offs.filter (fun o => rowLive role r o)).map (fun o => (o, r.rwlMask)))).foldr offInsert [])

/-- SAFE_CRC over the registers as they stand. -/
def State.safeCrc (s : State) : Nat :=
  crc32 ((rwlRegs s.role).flatMap (fun x => leBytes 4 ((s.rd x.1).toNat &&& x.2)))

/-- A register's fields written under their codes (R10): a discarded RWL change is reported (R430), one that is made gives SAFE_CRC again (R423). -/
def State.writeFields (s : State) (locked : Bool) (o v : Nat) : State :=
  match rowAt o with
  | none => s
  | some r =>
    if rowLive s.role r o then
      let w := s.rd o
      let s := s.wr o (r.fields.foldl (fieldWrite locked (s.freshBits o) v) w)
      if locked && changesRwl r w v then s.raise Ev.RWL_WRITE_DISCARDED [o, v]
      else if (w.toNat &&& r.rwlMask) != ((s.rd o).toNat &&& r.rwlMask) then s.set F.SAFE_CRC.CRC s.safeCrc
      else s
    else s

end Sys2Proof.Machine
end

