-- ==== Sys2Proof/Machine/Shared.lean ====
section
/-! DEFINITION. Shared.lean: what the safe clock does to the other blocks (R304 to R308, R372), and writes of the PLL control registers. -/
namespace Sys2Proof.Machine

/-- PLL-S outputs move to the safe clock (R305, R306): TIME_OK clears, runs abort, and a Spring's channels go low with normal edges. -/
def State.enterSafeClock (s : State) : State :=
  if s.flag F.CLK_PLLS_STAT.ON_SAFE then s
  else
    let s := ((s.set F.CLK_PLLS_STAT.ON_SAFE 1).setTimeOk false).abortRuns
    match s.role with
    | .spring =>
      let s := { s with spr := { s.spr with slot := s.spr.slot.map parkedSlot, dab := {} } }
      (s.hbsLow [0, 1, 2, 3, 4, 5] (s.now 0)).uncommand [0, 1, 2, 3, 4, 5]
    | .basin => { s with safe := { s.safe with pulse := s.safe.pulse.map (fun p => { p with lost := true }) } }

/-- Ticks of a run that a pair would have carried (R337): their offset from the run's first and their number. -/
def carriedOf (ticks n decim : Nat) : List Nat := (List.range n).filter (fun i => (ticks + 1 + i) % decim == 0)

/-- The tick in progress ends: enrolled Springs whose telemetry has come neither by the deadline nor late leave a hole in the streams (R49, R338). -/
def State.closeTick (s : State) : State :=
  let k := s.get F.CTL_TICK_NUM.TICK
  if k = 0 || s.ctl.closed == k then s
  else
    let gone := (s.lnk.enrolled.map (fun (e : Enr) => e.spring)).filter (fun sp => !s.ctl.got.any (fun t => t.spring == sp) && !s.ctl.late.contains sp)
    let s := gone.foldl (fun (s : State) sp =>
      s.streamHole sp k (if s.ctl.disc.any (fun (x : Nat × Nat × Nat) => x.1 == sp && x.2.1 == k) then gapDISC else gapNOTRX)) s
    { s with ctl := { s.ctl with closed := k } }

/-- `n` ticks pass without a pipeline: RECOVERY GAPs on the TELEM and SLU_STATUS pairs, and the tick count moves on (R39, R372). -/
def State.skipTicks (s : State) (n : Nat) : State :=
  let s := s.closeTick
  let first := tickSucc (s.get F.CTL_TICK_NUM.TICK)
  let pairs := s.streamPairs 0 ++ (if s.dispatches then s.streamPairs 1 else [])
  let s := pairs.foldl (fun s q =>
    let c := carriedOf (s.pair q).ticks n (s.get (F.HIF_QP_STRM.DECIM q))
    s.recoveryGap q (tickAdd first (c.headD 0)) c.length) s
  let s := { s with host := { s.host with pairs := s.host.pairs.map (fun (p : PairSt) => { p with ticks := p.ticks + n, lastTick := if s.dispatches then tickAdd (s.get F.CTL_TICK_NUM.TICK) n else p.lastTick }) } }
  let s := s.set F.CTL_TICK_NUM.TICK (tickAdd (s.get F.CTL_TICK_NUM.TICK) n)
  { s with ctl := { s.ctl with bound := s.ctl.bound + n * 10 * s.ctl.per, closed := s.get F.CTL_TICK_NUM.TICK } }

/-- The transmit lanes stop, without EI_ENTER (R307). -/
def State.lanesStop (s : State) : State := { s with lanes := s.lanes.map (fun _ => {}) }

/-- When a PLL last stored its hop slot or locked (R301), CORE cycles. -/
def State.storedAt (s : State) (p : Pll) : Nat := match p with
  | .s => s.clk.storedS
  | .l => s.clk.storedL

def State.setStored (s : State) (p : Pll) : State := match p with
  | .s => { s with clk := { s.clk with storedS := s.time.cyc } }
  | .l => { s with clk := { s.clk with storedL := s.time.cyc } }

/-- The outputs return to the DCO: TIME_OK follows again; a Basin goes on at the next boundary, the ticks in between without a pipeline (R306, R372). -/
def State.leaveSafeClock (s : State) : State :=
  let s := s.followTimeOk
  match s.role with
  | .spring => s
  | .basin =>
    let p := 10 * s.ctl.per
    let n := if p = 0 || s.get F.CTL_TICK_NUM.TICK == 0 then 0 else (s.time.ext - s.ctl.bound) / p
    if n = 0 then s else s.skipTicks n

/-- Every slot of a PLL invalidated (R303). -/
def State.slotClr (s : State) (p : Pll) : State :=
  let s := ((List.range 8).foldl (fun s n => s.set (hopValid p n) 0) s).set (pSlot p) 0xF
  match p with
  | .s => { s with clk := { s.clk with orderS := [] } }
  | .l => { s with clk := { s.clk with orderL := [] } }

def pllCtrl (p : Pll) : Nat := match p with
  | .s => F.CLK_PLLS_CTRL.REF_SRC.off
  | .l => F.CLK_PLLL_CTRL.REF_SRC.off

/-- The RW fields of a PLL's control register written; a changed source acts as a hop (R300). -/
def State.refSrcWrite (s : State) (p : Pll) (v : Word) : State :=
  let was := s.selSrc p
  (s.writeFields true (pllCtrl p) v.toNat).hopIfMoved p was

/-- A full search asked for (R304, R308): refused while the device switches, else the PLL searches, PLL-S on the safe clock. -/
def State.pllSearch (s : State) (p : Pll) (v : Word) : State :=
  if s.clkRefused s.anySwitch then s.raise Ev.CLK_CMD_REFUSED [pllCtrl p, v.toNat]
  else
    let s := (s.set (pState p) pllSEARCH).set (pSlot p) 0xF
    match p with
    | .s => ({ s with clk := { s.clk with firstSearch := true, waitRefS := false } }).enterSafeClock
    | .l => ({ s with clk := { s.clk with firstSearch := true, waitRefL := false } }).lanesStop

/-- A write of a PLL's control register: its RW fields, SLOT_CLR, SEARCH. -/
def State.pllWrite (s : State) (p : Pll) (v : Word) : State :=
  let s := s.refSrcWrite p v
  let s := if v.getLsbD 30 then s.slotClr p else s
  if v.getLsbD 31 then s.pllSearch p v else s

/-- Step 5 of a Basin begins, or step 6 ends where the self-calibration has run since PORST_N (R179, R530, R534). -/
def State.calOrNext (s : State) : State :=
  if s.pwr.calDone then (if s.pwr.steps.contains 6 then s else { s.startStep 6 with pwr := { (s.startStep 6).pwr with step6At := s.time.cyc } })
  else if s.calRuns then s
  else s.startCal 15 none

/-- A Basin's step 4 begins: its reset pulse on XSPI_RST_N is due now, and not before 2 ms after the release of PORST_N (R557). -/
def State.step4Due (s : State) : State :=
  if s.pwr.step4.isSome || s.pwr.booted then s else { s with pwr := { s.pwr with step4 := some (max s.time.cyc 1000000) } }

/-- Step 3 ends (R534, R538): both PLLs locked, and at a Spring a port UP. A Basin goes on with step 4, or with step 5 where step 4 has ended. -/
def State.plls3 (s : State) : State :=
  if s.pwr.steps.contains 3 || s.get F.CLK_PLLS_STAT.STATE != pllLOCKED || s.get F.CLK_PLLL_STAT.STATE != pllLOCKED then s
  else
    match s.role with
    | .spring => if s.upPorts.isEmpty then s else s.startStep 3
    | .basin => if s.pwr.booted then (s.startStep 3).calOrNext else (s.startStep 3).step4Due

end Sys2Proof.Machine
end

