-- ==== Sys2Proof/Machine/BasinOps.lean ====
section
/-! DEFINITION. BasinOps.lean: the station state of a Basin and what moves it at once (R57, R58), safety demands (R412), arm holds and station blocks
(R195 to R205), voted groups (R206, R398). -/
namespace Sys2Proof.Machine

/-- Station states of R57. -/
def ssOFF : Nat := 0
def ssREADY : Nat := 1
def ssPRECHARGE : Nat := 2
def ssENERGISED : Nat := 3
def ssSTOPPING : Nat := 4
def ssTHERMAL : Nat := 28
def ssHOLD : Nat := 29
def ssFAULT : Nat := 30
def ssSAFEOFF : Nat := 31

/-- What STATE_CHANGE gives as its row or cause for RESUME and for the end of start-up, which are neither (the manual gives no code). -/
def scNONE : Nat := evNum Ev.STATE_CHANGE 0

/-- The station enters a state: STATE_CHANGE with the old, the new, and the row or the hardware cause (a row's number, or the number of the cause, which the manual
does not give). DESIGN CHOICE (log entry 40): a row whose TO equals its FROM, of which R57 says nothing, changes nothing: no STATE_CHANGE is raised and the ticks
that the state has been held go on counting. -/
def State.toState (s : State) (n cause : Nat) : State :=
  if s.station == n then s
  else
    let old := s.station
    let s := s.set F.CTL_STATUS.STATE n
    { s with ctl := { s.ctl with lasted := 0 } }.raise Ev.STATE_CHANGE [old, n, cause]

/-- The pending hardware cause takes effect; states 28 to 31 are left only on RESUME (R58). DESIGN CHOICE (log entry 41): in one of the states 28 to 31 a cause for a higher
state moves the station and a cause for a lower one is dropped; R58 orders only causes of one tick. -/
def State.hwStep (s : State) : State :=
  let n := s.ctl.hw
  let s := { s with ctl := { s.ctl with hw := 0 } }
  if n != 0 && decide (s.station < n) then s.toState n (evNum Ev.STATE_CHANGE n) else s

/-- Ticks run at this Basin: it dispatches them, or shadows them as a standby (R39, R390). -/
def State.ticking (s : State) : Bool := s.flag F.CTL_STATUS.TICK_RUN || (s.get F.RED_CLAIM.ROLE == roleStandby && s.tickNow != 0)

/-- A hardware cause for a state: the measure stage of the tick takes it, the highest first; with no tick running it takes effect at once (R58). -/
def State.hwCause (s : State) (n : Nat) : State :=
  let s := { s with ctl := { s.ctl with hw := max s.ctl.hw n } }
  if s.ticking then s else s.hwStep

/-! ### Demands and outputs (R412, R416) -/

/-- Causes of R412. -/
def dmESTOP : Nat := 0
def dmGUARD : Nat := 1
def dmBLOCK : Nat := 2
def dmTHERMAL : Nat := 3
def dmFB : Nat := 4
def dmPDU : Nat := 5
def dmHOST : Nat := 6

/-- A test pulse that ends without completing (R418, R419). -/
def State.pulseFails (s : State) (why : Nat) : State :=
  match s.safe.pulse with
  | none => s
  | some p =>
    let s := { s with safe := { s.safe with pulse := none } }
    ((s.set F.SAFE_TEST.NEXT p.out).inc F.SAFE_TEST.NOT_DONE).raise Ev.TEST_NOT_COMPLETED [p.out, evNum Ev.TEST_NOT_COMPLETED why]

/-- An output is on, or still driven on through OFF_DLY. -/
def State.outputsLit (s : State) : Bool := s.flag F.SAFE_STAT.OUT_ON || s.flag F.SAFE_STAT.HS || s.flag F.SAFE_STAT.LS

/-- A write of OUT_EN taken earlier in this CORE cycle is discarded: the demand wins (R415, R437). -/
def State.undoOutEn (s : State) : State :=
  if s.safe.onAt == some s.time.cyc then
    let s := ((s.set F.SAFE_STAT.OUT_ON 0).set F.SAFE_STAT.HS 0).set F.SAFE_STAT.LS 0
    ({ s with safe := { s.safe with onAt := none, onDue := false, fbDiff := [none, none] } }).raise Ev.SAFE_OUT_REFUSED [evNum Ev.SAFE_OUT_REFUSED 1]
  else s

/-- A demand cause latches (R412): SAFE_DEMAND, and for the first one the station to SAFE_OFF and the outputs off after OFF_DLY. A PDU cause latched with the
outputs off did nothing of this (R437), so the next cause is the first in its stead. -/
def State.latchDemand (s : State) (bit : Nat) : State :=
  let c := s.get F.SAFE_STAT.CAUSE
  if c.testBit bit then s
  else
    let s := (s.set F.SAFE_STAT.CAUSE (c ||| 2 ^ bit)).set F.SAFE_STAT.DEMAND 1
    let s := if c != 0 && !s.safe.pduQuiet then s
      else
        let s := s.undoOutEn
        let on := s.outputsLit
        let s := s.set F.SAFE_STAT.OUT_ON 0
        let s := { s with safe := { s.safe with onDue := false, offFrom := s.time.cyc, offCause := bit, pduQuiet := false
                                                offAt := if on then some (s.time.cyc + 5000 * s.get F.SAFE_CFG.OFF_DLY) else none } }
        (s.pulseFails 0).hwCause ssSAFEOFF
    s.raise Ev.SAFE_DEMAND [bit, s.get F.SAFE_STAT.CAUSE]

/-- The outputs' timers stopped, and each readback that still shows on timed against its output. -/
def State.outputsIdle (s : State) : State :=
  let late := fun (f : Fld) => if s.flag f then some s.time.cyc else none
  { s with safe := { s.safe with offAt := none, onAt := none, onDue := false, pulse := none, fbDiff := [late F.SAFE_STAT.FB_HS, late F.SAFE_STAT.FB_LS] } }

/-- Both outputs off now (R33, R34, R416). -/
def State.outputsOff (s : State) : State :=
  if s.flag F.SAFE_STAT.HS || s.flag F.SAFE_STAT.LS then
    ((((s.set F.SAFE_STAT.HS 0).set F.SAFE_STAT.LS 0).set F.SAFE_STAT.OUT_ON 0).outputsIdle).raise Ev.SAFE_OUT_OFF
      [s.safe.offCause, (s.time.cyc - s.safe.offFrom) / 500]
  else s.set F.SAFE_STAT.OUT_ON 0

/-! ### Weir at a Basin (R195 to R205) -/

/-- A station block: FAULT_BLOCK at this tick's measure stage, STATION_BLOCK, and the demand of STN_TRIP (R205). -/
def State.stationBlock (s : State) (cause origin : Nat) : State :=
  let s := { s with weir := { s.weir with stnSince := s.tickNow } }
  let s := ((s.set F.WEIR_ARM_STAT.STN_HOLD 1).raise Ev.STATION_BLOCK [cause, origin]).hwCause ssFAULT
  if s.flag F.WEIR_CFG.STN_TRIP then s.latchDemand dmBLOCK else s

/-- The (ORIGIN, SEQ) pair is one relayed within the last 1 ms (R195). -/
def State.pairKnown (s : State) (o q : Nat) : Bool :=
  s.weir.relayed.any (fun x => x.1 == o && x.2.1 == q && decide (s.time.cyc < x.2.2 + 500000))

def State.keepPair (s : State) (o q : Nat) : State :=
  { s with weir := { s.weir with relayed := s.weir.relayed.filter (fun x => decide (s.time.cyc < x.2.2 + 500000)) ++ [(o, q, s.time.cyc)] } }

/-- Members of an arm by the ARM table in force. -/
def State.armSprings (s : State) (a : Nat) : List Nat := (armMembersOf (s.tbl8 secARM) a).map (·.spring)

/-- Ports whose chain holds a Spring of an arm (R195). -/
def State.armPorts (s : State) (a : Nat) : List Nat :=
  let m := s.armSprings a
  (List.range 12).filter (fun p => m.any (fun x => x / 16 == s.chainOfPort p && (s.portsOfChain (x / 16)).contains p))

/-- The scope's ports for a relay or an origination. -/
def State.weirPorts (s : State) (x : WeirSet) : List Nat := if x.scope == 1 then s.armPorts x.arm else s.enrolledPorts

/-- A Basin originates a Weir out of the ports of its scope; its own pair counts as relayed. -/
def State.basinOriginate (s : State) (scope arm cause : Nat) : State × WeirSet :=
  let (s, x) := s.newWeir scope arm cause
  let s := ((s.sendWeir (s.weirPorts x) x).inc F.WEIR_TX_CNT.COUNT).weirLast x
  (((s.raise Ev.WEIR_SENT [scope, arm, cause, x.seq, s.stamp]).keepPair x.origin x.seq), x)

/-- A station Weir of this Basin's own (R189, R205). -/
def State.stationWeir (s : State) (cause : Nat) : State :=
  let (s, x) := s.basinOriginate 2 0xF cause
  s.stationBlock cause x.origin

/-- Escalation (R204): condition 1 held too long, 2 arms held at once, 3 holds of one arm within 1 s. -/
def State.escalate (s : State) (cond arm : Nat) : State := (s.raise Ev.WEIR_ESCALATE [evNum Ev.WEIR_ESCALATE cond, arm]).stationWeir cauESC

def State.armHold (s : State) (a : Nat) : ArmHold := s.weir.arms.getD a {}
def State.setArmHold (s : State) (a : Nat) (h : ArmHold) : State := { s with weir := { s.weir with arms := s.weir.arms.set a h } }

def State.armIsHeld (s : State) (a : Nat) : Bool := (s.get F.WEIR_ARM_STAT.HELD).testBit a

/-- An arm marked held (R201): HELD, ARM_HOLD, the origin kept, NOAUTO for BYP_FAIL; the active Basin escalates on too many holds (R204). -/
def State.markArm (s : State) (x : WeirSet) (arrival : Nat) : State :=
  if (s.armSprings x.arm).isEmpty then s
  else
    let was := s.armIsHeld x.arm
    let h := s.armHold x.arm
    let marks := h.marks.filter (fun t => decide (s.time.cyc < t + 500000000))
    let h := if was then { h with origins := h.origins ++ [x.origin] }
      else { h with origins := [x.origin], since := s.tickNow, marks := marks ++ [s.time.cyc], lost := [] }
    let s := (s.setBit F.WEIR_ARM_STAT.HELD x.arm true).setArmHold x.arm h
    let s := if x.cause == cauBYP then s.setBit F.WEIR_ARM_STAT.NOAUTO x.arm true else s
    let s := s.raise Ev.ARM_HOLD [x.arm, x.origin, x.seq, x.cause, arrival]
    let held := ((List.range 12).filter (fun a => s.armIsHeld a)).length
    let arms := s.get F.WEIR_CFG.ESC_ARMS
    let most := s.get F.WEIR_CFG.ESC_MAX
    if !s.isMaster || was || s.flag F.WEIR_ARM_STAT.STN_HOLD then s
    else if arms != 0 && decide (arms ≤ held) then s.escalate 2 x.arm
    else if most != 0 && decide (most < h.marks.length) then s.escalate 3 x.arm
    else s

/-- The conditions of R204 as the active Basin's tick finds them: a limit lowered below what stands, or holds that another Basin left, escalate as a new hold does. -/
def State.escalateStage (s : State) : State :=
  let held := (List.range 12).filter s.armIsHeld
  let lim := s.cg F.WEIR_HOLD_MAX.TICKS
  let arms := s.cg F.WEIR_CFG.ESC_ARMS
  let most := s.cg F.WEIR_CFG.ESC_MAX
  let recent := fun (a : Nat) => ((s.armHold a).marks.filter (fun t => decide (s.time.cyc < t + 500000000))).length
  if !s.isMaster || s.flag F.WEIR_ARM_STAT.STN_HOLD then s
  else
    match held.find? (fun a => lim != 0 && decide (lim < tickDist (s.armHold a).since s.tickNow)) with
    | some a => s.escalate 1 a
    | none =>
      if arms != 0 && decide (arms ≤ held.length) then s.escalate 2 (held.headD 0)
      else
        match held.find? (fun a => most != 0 && decide (most < recent a)) with
        | some a => s.escalate 3 a
        | none => s

/-- An arm Weir of this Basin's own (CHAIN_LOSS, R189). -/
def State.armWeir (s : State) (arm cause : Nat) : State :=
  let (s, x) := s.basinOriginate 1 arm cause
  s.markArm x s.stamp

/-- An arm released (R203): by the host, or automatically. -/
def State.releaseArm (s : State) (a : Nat) (host : Bool) : State :=
  let h := s.armHold a
  let s := (s.setBit F.WEIR_ARM_STAT.HELD a false).setBit F.WEIR_ARM_STAT.NOAUTO a false
  let s := { s with weir := { s.weir with req := s.weir.req.filter (· != a), reqGot := s.weir.reqGot.filter (· != a) } }
  (s.setArmHold a { marks := h.marks }).raise Ev.ARM_RELEASE [a, tickSucc s.tickNow, tickDist h.since (tickSucc s.tickNow), evNum Ev.ARM_RELEASE (b2n host)]

/-! ### Voted groups (R206, R398) -/

def State.vote (s : State) (g : Nat) : VoteSt := s.red.votes.getD g {}
def State.setVote (s : State) (g : Nat) (v : VoteSt) : State := { s with red := { s.red with votes := s.red.votes.set g v } }

/-- EXCL bits of a group. -/
def State.exclOf (s : State) (g : Nat) : Nat := s.get (F.RED_VOTE.EXCL g)

/-- The vote of a group: two of the channels not excluded, or one while a channel is excluded. -/
def State.voteTrips (s : State) (g : Nat) (votes : List Bool) : Bool :=
  let e := s.exclOf g
  let n := ((List.range 3).filter (fun i => !e.testBit i && votes.getD i false)).length
  decide ((if e = 0 then 2 else 1) ≤ n)

/-- The channel that dissents: the two others, neither excluded, agree against it. -/
def dissenter (e : Nat) (votes : List Bool) : Option Nat :=
  if e != 0 then none
  else
    let v := fun i => votes.getD i false
    if v 0 == v 1 && v 1 == v 2 then none else if v 1 == v 2 then some 0 else if v 0 == v 2 then some 1 else some 2

/-- A sample of a group's votes: the run of dissent and the run of agreement of an excluded channel follow it (R398, R400). `dis` tells whether a dissent counts. -/
def State.voteSample (s : State) (g : Nat) (votes : List Bool) (dis : Bool) : State :=
  let v := s.vote g
  let now := s.time.cyc
  let d := if dis then dissenter (s.exclOf g) votes else none
  let same := votes.getD 0 false == votes.getD 1 false && votes.getD 1 false == votes.getD 2 false
  s.setVote g { v with
    diss := match d with
      | none => none
      | some c => match v.diss with
        | some (c', t) => if c' = c then some (c, t) else some (c, now)
        | none => some (c, now)
    agree := if same then some (v.agree.getD now) else none }

/-- A tripping vote acts: WEIR_OCP_CFG.EN is set and the vote trips (R207). -/
def State.ocpActing (s : State) : Bool := s.flag F.WEIR_OCP_STAT.VOTE && s.flag F.WEIR_OCP_CFG.EN

/-- What a tripping vote does when it begins to act (R207): the vote rises with EN set, or EN is set while it trips. -/
def State.ocpAct (s : State) (was : Bool) : State :=
  if !s.ocpActing || was then s
  else
    let states := s.get F.WEIR_OCP_STAT.STATE_A + 4 * s.get F.WEIR_OCP_STAT.STATE_B + 16 * s.get F.WEIR_OCP_STAT.STATE_C
    match s.role with
    | .spring => (s.raise Ev.OCP_TRIP [states, s.exclOf 0, cauSOCP]).enterBlock cauSOCP (s.now 0)
    | .basin => (s.raise Ev.OCP_TRIP [states, s.exclOf 0, cauBOCP]).stationWeir cauBOCP

/-- OCP channels' filtered readings (0 OK, 1 TRIP, 2 INVALID), their vote, and what it does with EN set (R206, R207). -/
def State.ocpSet (s : State) (a b c : Nat) : State :=
  let was := s.ocpActing
  let votes := [a != 0, b != 0, c != 0]
  let s := (((s.set F.WEIR_OCP_STAT.STATE_A a).set F.WEIR_OCP_STAT.STATE_B b).set F.WEIR_OCP_STAT.STATE_C c).voteSample 0 votes true
  (s.setFlag F.WEIR_OCP_STAT.VOTE (s.voteTrips 0 votes)).ocpAct was

end Sys2Proof.Machine
end

