-- ==== Sys2Proof/Machine/LinkOps.lean ====
section
/-! DEFINITION. LinkOps.lean: ports, routes and the sequenced MGMT transport (R246 to R249, R259, R587 to R590). -/
namespace Sys2Proof.Machine

/-! ### Ports -/

/-- LNK_PSTAT.STATE codes (R265). -/
def psIDLE : Nat := 0
def psTRAINING : Nat := 1
def psUP : Nat := 2
def psDOWN : Nat := 3
def psPRBS : Nat := 4

def State.portSt (s : State) (p : Nat) : Nat := s.get (F.LNK_PSTAT.STATE p)
def State.portUp (s : State) (p : Nat) : Bool := s.portSt p == psUP
def State.lport (s : State) (p : Nat) : PortSt := s.lnk.ports.getD p {}
def State.modPort (s : State) (p : Nat) (f : PortSt → PortSt) : State := { s with lnk := { s.lnk with ports := s.lnk.ports.set p (f (s.lport p)) } }

def State.chain (s : State) (c : Nat) : ChainSt := s.lnk.chains.getD c {}
def State.modChain (s : State) (c : Nat) (f : ChainSt → ChainSt) : State := { s with lnk := { s.lnk with chains := s.lnk.chains.set c (f (s.chain c)) } }

/-- The port exists in the device's role (R26). -/
def State.hasPort (s : State) (p : Nat) : Bool := decide (p < 12) && (s.role == .basin || decide (p < 2))

/-! ### Routes (R248, R259, R260, R590) -/

/-- The port by which the far route of a chain begins: a lone Basin's own far port, else the relay chain's. -/
def State.farPort (s : State) (c : Nat) : Option Nat :=
  if s.get F.RED_CLAIM.ROLE == roleLone then (if c < 6 && s.portUp (c + 6) then some (c + 6) else none)
  else if s.flag F.LNK_RELAY.ACTIVE then some (s.get F.LNK_RELAY.CHAIN) else none

/-- R259 places the Spring's position on the far route. -/
def State.onFarRoute (s : State) (sp : Nat) : Bool :=
  let c := sp / 16
  let pos := sp % 16 + 1
  s.flag (F.LNK_CHAIN.SWAPPED c) && decide (s.get (F.LNK_CHAIN.NEAR_LAST c) < pos) &&
    (!(s.chain c).farKnown || decide (s.get (F.LNK_CHAIN.FAR_FIRST c) ≤ pos))

/-- A Spring reachable by neither route (R259, R260). -/
def State.unreachable (s : State) (sp : Nat) : Bool :=
  let c := sp / 16
  let pos := sp % 16 + 1
  s.flag (F.LNK_CHAIN.SWAPPED c) && decide (s.get (F.LNK_CHAIN.NEAR_LAST c) < pos) &&
    (((s.chain c).farKnown && decide (pos < s.get (F.LNK_CHAIN.FAR_FIRST c))) || (s.farPort c).isNone)

/-- Ports a MGMT frame for a destination leaves by (R248, R259, R590): to a Basin, the port a TICK frame was last accepted on; an active Basin that has accepted none
sends it by the relay chain or the first enrolled port that is UP. -/
def State.mgmtPorts (s : State) (dest : Nat) : List Nat :=
  (match s.role with
   | .basin =>
     if dest < 192 then (if s.onFarRoute dest then (s.farPort (dest / 16)).toList else [dest / 16])
     else
       match s.lnk.tickPort.filter s.portUp with
       | some p => [p]
       | none => if s.flag F.LNK_RELAY.ACTIVE then [s.get F.LNK_RELAY.CHAIN] else (s.enrolledPorts.filter s.portUp).take 1
   | .spring =>
     let first := s.lnk.tickPort.getD (s.get F.LNK_SPOS.A_PORT)
     if s.portUp first then [first] else [1 - first]).filter s.portUp

/-- A MGMT frame of this device. -/
def State.mkMgmt (s : State) (dest op mseq param : Nat) (restart : Bool) (payload : List Nat) : Mgmt :=
  { relayed := false, addr := dest, src := s.selfId, op := op, mseq := mseq
    chain := if dest < 192 then dest / 16 else if s.role == .spring && s.selfId < 192 then s.selfId / 16 else 0xFF
    hop := b2n restart, param := param, payload := payload }

/-! ### Sequenced frames (R247, R587, R589) -/

/-- Operations of R246. -/
def opRDREQ : Nat := 0x01
def opRDRESP : Nat := 0x02
def opWRREQ : Nat := 0x03
def opWRACK : Nat := 0x04
def opACK : Nat := 0x05
def opNAK : Nat := 0x06
def opENROL : Nat := 0x10
def opREPLY : Nat := 0x11
def opREJECT : Nat := 0x12
def opREPORT : Nat := 0x13
def opFAR : Nat := 0x14
def opCHUNK : Nat := 0x20
def opRECORD : Nat := 0x21
def opHEALTH : Nat := 0x22

def State.peer (s : State) (d : Nat) : Peer := (s.lnk.peers.find? (fun p => p.dest == d)).getD { dest := d }
def State.setPeer (s : State) (p : Peer) : State := { s with lnk := { s.lnk with peers := s.lnk.peers.filter (fun x => x.dest != p.dest) ++ [p] } }

/-- Frames waiting behind the limit of 8 are sent while there is room, each with the next MSEQ; the first after a start or a failure carries RESTART. -/
def State.pump (d : Nat) : Nat → State → State
  | 0, s => s
  | n + 1, s =>
    let p := s.peer d
    match p.waiting with
    | [] => s
    | w :: t =>
      if p.unacked.length < 8 then
        let q := p.tx.getD 0
        let m := { w.m with src := s.selfId, mseq := q, hop := b2n (p.tx.isNone || p.restart) }
        let s := s.setPeer { p with waiting := t, unacked := p.unacked ++ [{ w with m := m, at' := s.time.cyc }], tx := some ((q + 1) % 65536), restart := false }
        State.pump d n (s.emitFrame (s.mgmtPorts d) (.mgmt m))
      else s

/-- A sequenced frame handed to the transport. -/
def State.sendMgmt (s : State) (d : Nat) (m : Mgmt) (owner : Owner) : State :=
  let p := s.peer d
  State.pump d 8 (s.setPeer { p with waiting := p.waiting ++ [{ m := m, owner := owner }] })

/-- A sequenced frame for a destination. -/
def State.sendSeq (s : State) (d op param : Nat) (payload : List Nat) (owner : Owner) : State := s.sendMgmt d (s.mkMgmt d op 0 param false payload) owner

/-- A frame outside the sequence (ACK, NAK). -/
def State.sendPlain (s : State) (d op param : Nat) (payload : List Nat) : State :=
  s.emitFrame (s.mgmtPorts d) (.mgmt (s.mkMgmt d op 0 param false payload))

def State.sendNak (s : State) (m : Mgmt) (reason : Nat) : State := s.sendPlain m.src opNAK m.mseq [reason]

/-- The destination's half of R247 and R589: whether a sequenced frame is new here; the receiving state follows, and a frame handled is acknowledged.
DEDUCED (log entry 58): with no receiving state for the source a frame without RESTART is new too: R247 names no base then, and a push to a Spring enrolled again arrives so. -/
def State.acceptSeq (s : State) (m : Mgmt) : State × Bool :=
  if m.addr == 0xFD || m.addr == 0xFE then (s, true)
  else
    let p := s.peer m.src
    let ahead := match p.rx with
      | some r => (m.mseq + 65536 - r) % 65536
      | none => 0
    let fresh := p.rx.isNone || ahead == 1 || (bitOf m.hop 0 && decide (1 ≤ ahead) && decide (ahead ≤ 32767))
    if fresh then (s.setPeer { p with rx := some m.mseq }, true)
    else if ahead == 0 || decide (32768 ≤ ahead) then (s.sendPlain m.src opACK m.mseq [], false)
    else (s, false)

/-- A new frame acknowledged. -/
def State.ackFrame (s : State) (m : Mgmt) : State := if m.addr == 0xFD || m.addr == 0xFE then s else s.sendPlain m.src opACK m.mseq []

/-- The receiving state for a peer that has restarted is cleared (R589). -/
def State.clearRx (s : State) (d : Nat) : State := let p := s.peer d; s.setPeer { p with rx := none }

/-- KIND of a TABLE_CHUNK frame (R515). -/
def chunkKind (param : Nat) : Nat := param / 2 ^ 24

/-- Requests that expect a response frame (R588). -/
def wantsResponse (m : Mgmt) : Bool := m.op == opRDREQ || m.op == opWRREQ || (m.op == opCHUNK && chunkKind m.param == 2)

/-- A frame acknowledged leaves the sender's list; a request then waits for its response. It answers the frame, if one was named. -/
def State.takeAck (s : State) (d mseq : Nat) : State × Option MOut :=
  let p := s.peer d
  match p.unacked.find? (fun x => x.m.mseq == mseq) with
  | none => (s, none)
  | some x =>
    let s := s.setPeer { p with unacked := p.unacked.filter (fun y => y.m.mseq != mseq), resends := 0 }
    let s := if wantsResponse x.m then { s with lnk := { s.lnk with awaits := s.lnk.awaits ++ [⟨d, x.m.op, mseq, x.m.param, x.owner, s.time.cyc⟩] } } else s
    (State.pump d 8 s, some x)

/-- The oldest request to a destination that a response answers; it leaves the list of requests. -/
def State.takeAwait (s : State) (d op : Nat) (ok : Nat → Bool) : State × Option Await :=
  match s.lnk.awaits.find? (fun a => a.dest == d && a.op == op && ok a.param) with
  | none => (s, none)
  | some a => ({ s with lnk := { s.lnk with awaits := s.lnk.awaits.filter (fun b => !(b.dest == d && b.mseq == a.mseq)) } }, some a)

/-- Every unacknowledged frame to a destination sent again, oldest first. -/
def State.resendAll (s : State) (d : Nat) : State :=
  let p := s.peer d
  let ports := s.mgmtPorts d
  let s := s.setPeer { p with unacked := p.unacked.map (fun x => { x with at' := s.time.cyc }) }
  p.unacked.foldl (fun s x =>
    let s := ports.foldl (fun s q => s.inc (F.LNK_MGMT_RETRY.COUNT q)) s
    s.emitFrame ports (.mgmt x.m)) s

/-- The peer's frames taken back: what it held, oldest first; the next carries RESTART (R587). -/
def State.dropPeer (s : State) (d : Nat) : State × List MOut :=
  let p := s.peer d
  (s.setPeer { p with unacked := [], waiting := [], resends := 0, restart := true }, p.unacked ++ p.waiting)

/-- The MGMT frame is addressed to this device (R244, R246). -/
def State.mgmtMine (s : State) (a : Nat) : Bool := match s.role with
  | .basin => a == s.basinId || (a == 0xC2 && s.dispatches) || a == 0xFD
  | .spring => (s.flag F.LNK_SPOS.ENROLLED && a == s.selfId) || a == 0xFE || a == 0xFD

/-- A Basin relays a MGMT frame between its routes by ADDR (R260): to a Spring out of its chain's port, to the other Basin out of the lowest port up that serves
no chain it relays. -/
def State.relayMgmt (s : State) (port : Nat) (m : Mgmt) : State :=
  if m.relayed || s.role != .basin then s
  else
    let m := { m with relayed := true }
    if m.addr < 192 then (if m.addr / 16 != port && s.portUp (m.addr / 16) then s.sendFrame (m.addr / 16) (.mgmt m) else s)
    else if (m.addr == 0xC0 || m.addr == 0xC1 || m.addr == 0xC2) && s.lnk.relayed.any (fun x => x.1 == port) then
      match (s.upPorts.filter (fun p => !s.lnk.relayed.any (fun x => x.1 == p))).head? with
      | some p => s.sendFrame p (.mgmt m)
      | none => s
    else s

/-- A valid frame of the other Basin starts an election's wait again (R383). -/
def State.heardPeer (s : State) (src : Nat) : State :=
  if s.role == .basin && s.get F.RED_CLAIM.ROLE == roleElecting && s.red.electAt.isSome && (src == 0xC0 || src == 0xC1) && src != s.basinId then
    { s with red := { s.red with electAt := some s.time.cyc } }
  else s

/-- A MGMT frame whose check passed (R244 to R247, R260): a frame of a wrong length or an ADDR of no one is dropped, one for another device relayed; a frame of this
device's own is handed on. -/
def State.mgmtIn (s : State) (port : Nat) (b : List Nat) (f : Mgmt → State → State) : State :=
  match mgmtOf b with
  | none => s
  | some m =>
    let s := s.heardPeer m.src
    if s.mgmtMine m.addr then f m s else s.relayMgmt port m

/-- A LINK_REPORT of a port toward the active Basin, out of every port that is UP (R246, R248); a Basin that dispatches has no one to tell. -/
def State.linkReport (s : State) (p st : Nat) : State :=
  let m := s.mkMgmt 0xC2 opREPORT 0 0 false ([p, st] ++ leBytes 4 s.stamp)
  match s.role with
  | .basin => if s.dispatches then s else s.emitFrame s.upPorts (.mgmt { m with chain := s.chainOfPort p })
  | .spring => s.emitFrame (([0, 1] : List Nat).filter s.portUp) (.mgmt m)

end Sys2Proof.Machine
end

