-- ==== Sys2Proof/Machine/TableOps.lean ====
section
/-! DEFINITION. TableOps.lean: the image a Basin builds for a Spring, its push, and what a running swap waits for (R513 to R517). -/
namespace Sys2Proof.Machine

/-- Reason codes of R506. -/
def rsBANK : Nat := reasonWord 0x01 0xFF 0xFFFF
def rsSEQ : Nat := reasonWord 0x02 0xFF 0xFFFF
def rsNOTVALID : Nat := reasonWord 0x09 0xFF 0xFFFF
def rsNOTNEWER : Nat := reasonWord 0x0A 0xFF 0xFFFF
def rsSTATE : Nat := reasonWord 0x0B 0xFF 0xFFFF
def rsPUSH (sp : Nat) : Nat := reasonWord 0x0C 0xFF sp
def rsNOR : Nat := reasonWord 0x0D 0xFF 0xFFFF

/-! ### The image for a Spring (R514) -/

/-- The STATE, ARM, CELL, COEF and CURVE bytes a Basin applies from an image. -/
def State.ownTable (s : State) (img : List Nat) (type : Nat) : List Nat := tableFor img type s.basinId tgtBasins

/-- The DERIVED section of a Spring. -/
def State.derivedFor (s : State) (img : List Nat) (sp : Nat) : List Nat :=
  let arm := s.ownTable img secARM
  let cell := s.ownTable img secCELL
  let st := s.ownTable img secSTATE
  let a := armOf arm sp
  let spare := match a with
    | some a => (armMembersOf arm a).any (fun m => m.spring == sp && m.spare)
    | none => false
  [sp, a.getD 0xF, cellSet cell sp, b2n (cellAbsent cell sp) + 2 * b2n spare] ++ leBytes 2 (cellRated cell sp) ++ [0, 0] ++
    leBytes 4 (bitsMask ((List.range 32).filter (fun n => bitOf (stRefSet st n) 0))) ++ [0, 0, 0, 0]

/-- Curves 8 to 10 of a Spring's curve set. -/
def State.curvesFor (s : State) (img : List Nat) (sp : Nat) : List Nat :=
  let b := s.ownTable img secCURVE
  (([8, 9, 10] : List Nat).map (fun id => (curveRec b id (cellSet (s.ownTable img secCELL) sp)).getD [])).flatten

/-- The sections of a Spring's image: type, target and bytes. -/
def State.pushSections (s : State) (img : List Nat) (sp : Nat) : List (Nat × Nat × List Nat) :=
  let coef := s.ownTable img secCOEF
  let cur := s.curvesFor img sp
  [(secCOEF, sp, ((coef.drop (32 * 13)).take 32) ++ ((coef.drop (512 + 32 * 13)).take 32))] ++
  (if cur.isEmpty then [] else [(secCURVE, sp, cur)]) ++
  (((imgDir img).filter (fun x => [secADC, secBMS, secCAN, secATTR, secREG].contains x.type && (x.target == sp || x.target == tgtSprings))).map
    (fun x => (x.type, x.target, sectBytes img x))) ++
  [(secDERIVED, sp, s.derivedFor img sp)]

/-- An image laid out from its sections, one after another from the directory's end (R500). -/
def layImage (rev gen flags : Nat) (secs : List (Nat × Nat × List Nat)) : List Nat :=
  let n := secs.length
  let start := 64 + 16 * n
  let body := (secs.map (·.2.2)).flatten
  let len := start + body.length + 4
  let head := leBytes 4 0x4D495456 ++ leBytes 4 rev ++ leBytes 4 gen ++ leBytes 4 len ++ leBytes 2 n ++ [flags, 0] ++ List.replicate 40 0
  let off := fun i => start + ((secs.take i).map (·.2.2.length)).foldl (· + ·) 0
  let dir := ((List.range n).map (fun i =>
    let x := secs.getD i (0, 0, [])
    [x.1, 1] ++ leBytes 2 x.2.1 ++ leBytes 4 (off i) ++ leBytes 4 x.2.2.length ++ leBytes 4 (crc32 x.2.2))).flatten
  let l := head ++ leBytes 4 (crc32 head) ++ dir ++ body
  l ++ leBytes 4 (crc32 l)

/-- The image the Basin pushes to a Spring. -/
def State.springImage (s : State) (img : List Nat) (sp : Nat) : List Nat :=
  layImage (imgRev img) (imgGen img) (b2n (imgPair img)) (s.pushSections img sp)

/-! ### Pushes (R515) -/

/-- A list cut into pieces of at most `k`. -/
def piecesOf (k : Nat) : Nat → List Nat → List (List Nat)
  | 0, _ => []
  | n + 1, l => if l.isEmpty then [] else l.take k :: piecesOf k n (l.drop k)

def chunk (kind off : Nat) : Nat := kind * 2 ^ 24 + off

/-- A push's frame to a Spring. -/
def State.sendChunk (s : State) (sp kind off : Nat) (payload : List Nat) : State := s.sendSeq sp opCHUNK (chunk kind off) payload (.push sp)

def State.setPushing (s : State) : State := s.setFlag F.TBL_STATUS.PUSHING (!s.tbl.pushes.isEmpty)

def State.setPushes (s : State) (l : List (Nat × Nat × Nat)) : State := { s with tbl := { s.tbl with pushes := l } }.setPushing

/-- A push fails: PUSH_FAIL, and the swap it serves keeps the first Spring that failed. `cause` 0 MGMT_FAIL, 1 size, else the reason word. -/
def State.pushFails (s : State) (sp cause : Nat) : State :=
  if s.tbl.pushes.any (fun x => x.1 == sp) then
    let s := s.setPushes (s.tbl.pushes.filter (fun x => x.1 != sp))
    let s := { s with tbl := { s.tbl with swap := s.tbl.swap.map (fun (w : SwapSt) =>
      if w.pushed.contains sp && w.failed.isNone then { w with failed := some sp } else w) } }
    s.raise Ev.PUSH_FAIL [sp, if cause ≤ 1 then evNum Ev.PUSH_FAIL cause else cause]
  else s

/-- A push of an image to a Spring, its COMMIT to name `tick` (R515, R517). -/
def State.startPush (s : State) (img : List Nat) (sp tick : Nat) : State :=
  let l := s.springImage img sp
  let s := s.setPushes (s.tbl.pushes.filter (fun x => x.1 != sp) ++ [(sp, imgGen img, tick)])
  if 65536 < l.length then s.pushFails sp 1
  else
    let s := s.sendChunk sp 0 0 (leBytes 4 l.length ++ leBytes 4 (imgGen img))
    let parts := piecesOf 256 256 l
    let s := (List.range parts.length).foldl (fun s i => s.sendChunk sp 1 (256 * i) (parts.getD i [])) s
    s.sendChunk sp 2 0 []

/-- A Spring's RESULT (R515): accepted, its COMMIT follows; a refusal fails the push. -/
def State.pushResult (s : State) (sp word : Nat) : State :=
  match s.tbl.pushes.find? (fun x => x.1 == sp) with
  | none => s
  | some (_, _, tick) =>
    if word != 0 then s.pushFails sp word
    else
      let s := { s with tbl := { s.tbl with swap := s.tbl.swap.map (fun (w : SwapSt) => if w.pushed.contains sp then { w with accepted := w.accepted ++ [sp] } else w) } }
      s.sendChunk sp 3 0 (leBytes 4 tick)

/-- A COMMIT acknowledged: the push is done, for a swap when its tick comes (R513). -/
def State.pushCommitted (s : State) (sp : Nat) : State :=
  let s := { s with tbl := { s.tbl with loaded := s.tbl.loaded.filter (· != sp) ++ [sp] } }
  match s.tbl.swap with
  | some w =>
    if w.pushed.contains sp then { s with tbl := { s.tbl with swap := some { w with committed := w.committed ++ [sp] } } }
    else s.setPushes (s.tbl.pushes.filter (fun x => x.1 != sp))
  | none => s.setPushes (s.tbl.pushes.filter (fun x => x.1 != sp))

/-- A running swap ends without effect: ABANDON to every Spring it pushed to (R513). -/
def State.swapAbandon (s : State) (w : SwapSt) : State :=
  let s := w.pushed.foldl (fun s sp => s.sendChunk sp 4 0 []) s
  ({ s with tbl := { s.tbl with swap := none } }).setPushes (s.tbl.pushes.filter (fun x => !w.pushed.contains x.1))

/-- The open load to either bank is abandoned (R510, R343). -/
def State.abandonLoad (s : State) : State := { s with tbl := { s.tbl with load := none } }.set F.TBL_STATUS.LOAD_OPEN 0

end Sys2Proof.Machine
end

