-- ==== Sys2Proof/Machine/OrderOps.lean ====
section
/-! DEFINITION. OrderOps.lean: the ordering promises and how recovery keeps them at a Basin (R348 to R373): fences, aborts, command checks, restarts,
takeover, and what becomes of an operation whose MGMT frame fails. -/
namespace Sys2Proof.Machine

/-! ### Which descriptors (R348) -/

/-- The opcodes of R329 that the rules of recovery name. -/
def ocSETREF : Nat := 0x01
def ocDEMAND : Nat := 0x02
def ocCMD : Nat := 0x03
def ocLOAD : Nat := 0x10
def ocSWAP : Nat := 0x11
def ocREAD : Nat := 0x18
def ocWRITE : Nat := 0x19
def ocFENCE : Nat := 0x20
def ocFREEZE : Nat := 0x28
def ocLOGREAD : Nat := 0x29
def ocTHAW : Nat := 0x2A
def ocLEDGER : Nat := 0x2B
def ocTIMESET : Nat := 0x30
def ocTIMEOFF : Nat := 0x31
def ocCALRUN : Nat := 0x38
def ocSYSCAL : Nat := 0x39
def ocUNLOCK : Nat := 0x40
def ocSAFETY : Nat := 0x41
def ocSTREAM : Nat := 0x48
def ocENERGISE : Nat := 0x50
def ocDEENERGISE : Nat := 0x51
def ocRESUME : Nat := 0x52

/-- A MGMT-borne Spring descriptor. -/
def mgmtBorne (d : Desc) : Bool := [ocREAD, ocWRITE, ocCALRUN, ocSYSCAL, ocSAFETY].contains d.opcode && decide (d.target < 192)

/-- A Spring-directed descriptor. -/
def springDirected (d : Desc) : Bool := (d.opcode == ocCMD && decide (d.target < 192)) || mgmtBorne d

/-- Spring-directed descriptors in flight to a Spring whose outcome is open. -/
def State.openTo (s : State) (sp : Nat) : List Infl := s.host.infl.filter (fun x => springDirected x.d && x.d.target == sp && !x.phase.isDone)

/-! ### Fences (R358 to R361) -/

def State.fenced (s : State) (sp q : Nat) : Option Fence := s.host.fences.find? (fun f => f.spring == sp && f.q == q)

/-- REASON of a FENCED completion (R359). -/
def Fence.reason (f : Fence) : Nat := f.status * 2 ^ 24 + f.tag

/-- The descriptor a MGMT frame serves. -/
def Owner.descr : Owner → Option Nat
  | .infl id _ _ => some id
  | .cfg id => some id
  | _ => Option.none

/-- A MGMT-borne descriptor none of whose frames has been sent: they wait behind the limit of 8 (R247, R359, R369). -/
def State.notSent (s : State) (x : Infl) : Bool :=
  (match x.phase with
   | .mgmt a b => b == 0 && (x.d.opcode != ocSAFETY || a == 0)
   | _ => false) &&
    (s.peer x.d.target).unacked.all (fun (y : MOut) => y.owner.descr != some x.id) && s.lnk.awaits.all (fun (y : Await) => y.owner.descr != some x.id)

/-- A descriptor fenced (R359, R362): the frames of its own that wait are not sent. -/
def State.fenceOff (s : State) (x : Infl) (status tag : Nat) : State :=
  let p := s.peer x.d.target
  let s := s.when (p.waiting.any (fun (y : MOut) => y.owner.descr == some x.id)) (fun s => s.setPeer { p with waiting := p.waiting.filter (fun (y : MOut) => y.owner.descr != some x.id) })
  s.settle x.id stFENCED (status * 2 ^ 24 + tag) 0 0 s.tickNow

/-- The fence bits of an SQ mask set for a Spring; bits newly set raise FENCE_SET. Descriptors fetched earlier and not yet carried or sent are fenced (R359). -/
def State.setFence (s : State) (sp : Nat) (qs : List Nat) (status tag : Nat) : State :=
  let new := qs.filter (fun q => (s.fenced sp q).isNone)
  if new.isEmpty then s
  else
    let s := { s with host := { s.host with fences := s.host.fences ++ new.map (fun q => Fence.mk sp q status tag s.host.nextId s.time.cyc) } }
    let s := s.raise Ev.FENCE_SET [sp, bitsMask new, status, tag]
    (s.openTo sp).foldl (fun (s : State) (x : Infl) =>
      if new.contains x.sq then
        match x.phase with
        | .fetched => s.fenceOff x status tag
        | .queued _ => s.fenceOff x status tag
        | .held _ _ 0 => s.fenceOff x status tag
        | _ => s.when (s.notSent x) (fun s => s.fenceOff x status tag)
      else s) s

/-! ### Aborts (R362 to R364) -/

/-- SLOT_SEQ of a command's last carry. -/
def Phase.lastSeq : Phase → Option Nat
  | .carried q _ _ => some q
  | .again q _ => some q
  | .held _ q c => if c = 0 then none else some q
  | .check q _ _ => some q
  | _ => none

/-- Words of a REMOTE access whose response arrived. -/
def Phase.words : Phase → Nat
  | .mgmt _ n => n
  | .mgmtHeld _ n => n
  | _ => 0

/-- RESULT of an aborted descriptor (R362). -/
def Infl.words (x : Infl) : Nat := if x.d.opcode == ocREAD || x.d.opcode == ocWRITE then x.phase.words else 0

/-- ABORTED_PATH with a cause of R362; a Spring target is fenced for the descriptor's SQ (R358, R364). -/
def State.abortPath (s : State) (id cause : Nat) : State :=
  match s.inflAt id with
  | none => s
  | some x =>
    if x.phase.isDone then s
    else
      let carried := match x.phase.lastSeq with
        | some q => 2 ^ 23 + q
        | none => 0
      let s := s.settle id stABORTED (cause * 2 ^ 24 + carried) x.words 0 s.tickNow
      let s := s.raise Ev.CMD_ABORTED_PATH [x.d.target, x.sq, x.d.tag, x.d.opcode, cause]
      if x.d.target < 192 then s.setFence x.d.target [x.sq] stABORTED x.d.tag else s

/-! ### SPRING_CMD outcomes (R151, R353 to R357) -/

/-- A command evaluated with a result at a tick (R151, R356). -/
def State.cmdOutcome (s : State) (id res tick : Nat) : State :=
  match s.inflAt id with
  | none => s
  | some x =>
    if res == 1 then
      (if x.due == tick then s.settle id stOK 0 0 0 tick else s.settle id stDELAYED 0 0 (tickDist x.due tick) tick)
    else if res == 6 then s.settle id stOPCODE 0 0 0 tick
    else s.settle id stLIMIT res 0 0 tick

/-- A command that was not applied: carried again, or aborted at the carry limit (R354). -/
def State.carryAgain (s : State) (id seq carries : Nat) : State :=
  if s.cg F.HIF_ORD_CFG.REPLAY_MAX ≤ carries then (s.setPhase id (.again seq carries)).abortPath id 3 else s.setPhase id (.again seq carries)

/-- A command check begins (R355): one RD_REQ of the Spring's record of the command's source. -/
def State.startCheck (s : State) (x : Infl) (seq tick carries : Nat) : State :=
  (s.setPhase x.id (.check seq tick carries)).sendSeq x.d.target opRDREQ (0xC080 + 4 * x.sq) (leBytes 2 1) (.check x.id)

/-- The answer of a command check (R355). -/
def State.checkAnswer (s : State) (id word : Nat) : State :=
  match (s.inflAt id).map Infl.phase with
  | some (.check seq tick carries) =>
    if bitsOf word 0 16 == seq && bitsOf word 16 12 != 0 then s.cmdOutcome id (bitsOf word 28 4) tick else s.carryAgain id seq carries
  | _ => s

/-! ### REMOTE accesses and other MGMT-borne descriptors (R246, R348) -/

/-- A MGMT-borne descriptor may start: every earlier SPRING_CMD of its SQ to its Spring has a known outcome, every MGMT-borne descriptor to the Spring fetched before it has
started, and no reconciliation of the Spring runs (R348, R370). -/
def State.mgmtMay (s : State) (x : Infl) : Bool :=
  !s.host.recon.contains x.d.target &&
    !(s.host.infl.any (fun y => y.id < x.id && y.sq == x.sq && y.d.opcode == ocCMD && y.d.target == x.d.target && !y.phase.isDone)) &&
    !(mgmtBorne x.d && s.host.infl.any (fun y => decide (y.id < x.id) && mgmtBorne y.d && y.d.target == x.d.target && y.phase == .fetched))

/-- OFFSET and COUNT of a REMOTE access. -/
def remOffset (d : Desc) : Nat := bytesAt d.param 0 4
def remCount (d : Desc) : Nat := bytesAt d.param 4 2

/-- Bytes of words, little-endian. -/
def wordBytes (l : List Word) : List Nat := (l.map (fun w => leBytes 4 w.toNat)).flatten

/-- The frames of a REMOTE access from a word on, at most 64 words each (R246). -/
def State.sendRemote (x : Infl) : Nat → Nat → State → State
  | 0, _, s => s
  | n + 1, w, s =>
    let c := min 64 (remCount x.d - w)
    if c = 0 then s
    else
      let off := remOffset x.d + 4 * w
      let s := if x.d.opcode == ocREAD then s.sendSeq x.d.target opRDREQ off (leBytes 2 c) (.infl x.id w c)
        else s.sendSeq x.d.target opWRREQ off (wordBytes ((x.data.drop w).take c)) (.infl x.id w c)
      State.sendRemote x n (w + c) s

/-- A REMOTE access on its way from a word on. -/
def State.goRemote (s : State) (x : Infl) (w : Nat) : State := State.sendRemote x 17 w (s.setPhase x.id (.mgmt (remCount x.d) w))

/-- A frame of a REMOTE access answered for `n` of its `c` words; the last frame completes it, DELAYED where a busy Spring held it (R329, R357, R362). -/
def State.remoteWords (s : State) (id word c n : Nat) (ws : List Word) : State :=
  match s.inflAt id with
  | none => s
  | some x =>
    match x.phase with
    | .mgmt sent acked =>
      let s := if x.d.opcode == ocREAD then s.emit (.hostWrite (x.d.buffer + 4 * word) (wordBytes ws)) else s
      let s := s.setPhase id (.mgmt sent (acked + n))
      if remCount x.d ≤ word + c then
        (if x.due = 0 then s.settle id stOK 0 (acked + n) 0 0 else s.settle id stDELAYED 0 (acked + n) (tickDist x.due s.tickNow) s.tickNow)
      else s
    | _ => s

/-- A NAK of a REMOTE access's frame: held for a busy Spring from the words not yet answered, else DEVICE_FAULT with the NAK's reason (R246, R357). -/
def State.remoteNak (s : State) (id reason : Nat) : State :=
  match s.inflAt id with
  | none => s
  | some x =>
    match x.phase with
    | .mgmt _ acked =>
      if reason == 4 then
        let s := s.modInfl id (fun y => { y with due := if y.due = 0 then s.tickNow else y.due })
        s.setPhase id (.mgmtHeld s.tickNow acked)
      else s.settle id stDEVICE reason acked 0 0
    | _ => s

/-! ### Reconciliation (R370, R371) -/

/-- An event record whose source names a Spring. -/
def State.raiseAs (s : State) (src code : Nat) (payload : List Nat) : State := s.stage { s.newRec code 0 payload with source := src }

/-- The reconciliation records, once every read has ended (R371). -/
def State.reconEnd (s : State) : State :=
  if s.flag F.HIF_ORD_STAT.RECON_BUSY && s.host.recon.isEmpty then
    let done := s.host.reconDone
    let s := done.foldl (fun s (x : Nat × List Nat) =>
      let lo := x.2.take 8
      let hi := (x.2.drop 8).take 8
      let s := if lo.any (fun w => bitsOf w 16 12 != 0) then s.raiseAs x.1 Ev.RECONCILE_LO lo else s
      if hi.any (fun w => bitsOf w 16 12 != 0) then s.raiseAs x.1 Ev.RECONCILE_HI hi else s) s
    let s := s.raise Ev.RECONCILE_DONE [s.host.takeTick, s.get F.RED_CLAIM.CLAIM, done.length, bitsMask s.host.unread]
    ({ s with host := { s.host with reconDone := [], unread := [] } }).set F.HIF_ORD_STAT.RECON_BUSY 0
  else s

/-- A Spring's records read. -/
def State.reconRead (s : State) (sp : Nat) (ws : List Nat) : State :=
  if s.host.recon.contains sp then
    ({ s with host := { s.host with recon := s.host.recon.filter (· != sp), reconDone := s.host.reconDone ++ [(sp, ws)] } }).reconEnd
  else s

/-- A Spring's read failed: unread, its waiting descriptors aborted with cause 0x04. -/
def State.reconFail (s : State) (sp : Nat) : State :=
  if s.host.recon.contains sp then
    let s := { s with host := { s.host with recon := s.host.recon.filter (· != sp), unread := s.host.unread ++ [sp] } }
    ((s.openTo sp).foldl (fun (s : State) (x : Infl) => s.abortPath x.id 4) s).reconEnd
  else s

/-- The later of two SLOT_SEQs of one count. -/
def laterSeq (a b : Nat) : Nat := if (a + 65536 - b % 65536) % 65536 < 32768 then a else b

/-- A new active Basin reads every enrolled Spring's command records, and its first slot to each has a SLOT_SEQ two above the higher of what it saw (R370). -/
def State.reconStart (s : State) (tick : Nat) : State :=
  let sps := s.lnk.enrolled.map (·.spring)
  let seqOf := fun sp =>
    let a := ((s.red.seqsSeen.find? (fun x => x.1 == sp)).map (·.2)).getD 0
    let b := ((s.ctl.used.find? (fun t => t.spring == sp)).map (·.slotSeq)).getD 0
    (sp, (laterSeq a b + 1) % 65536)
  let s := { s with ctl := { s.ctl with seqs := sps.map seqOf }
                    host := { s.host with recon := sps, reconDone := [], unread := [], takeTick := tick } }
  let s := s.set F.HIF_ORD_STAT.RECON_BUSY 1
  (sps.foldl (fun s sp => s.sendSeq sp opRDREQ 0xC080 (leBytes 2 16) (.recon sp)) s).reconEnd

/-! ### Failures and restarts -/

/-- The operation that caused a failed frame hears of it (R247, R364, R515, R587). -/
def State.ownerFails (s : State) (o : Owner) : State :=
  match o with
  | .none => s
  | .infl id _ _ => s.abortPath id 2
  | .check id => s.abortPath id 2
  | .recon sp => s.reconFail sp
  | .push sp => s.pushFails sp 0
  | .gen _ => s
  | .cfg id => s.abortPath id 2
  | .event recs => { s with recd := { s.recd with staging := recs ++ s.recd.staging } }
  | .ledger recs => { s with aon := { s.aon with ledger := recs ++ s.aon.ledger } }

/-- The owners of several frames, newest first so that records return in order. -/
def State.ownersFail (s : State) (l : List MOut) : State := l.reverse.foldl (fun s x => s.ownerFails x.owner) s

/-- MGMT_FAIL: every frame held for the destination fails (R587). -/
def State.mgmtFail (s : State) (d : Nat) : State :=
  match (s.peer d).unacked with
  | [] => s
  | x :: _ =>
    let (s, l) := s.dropPeer d
    (s.raise Ev.MGMT_FAIL [d, x.m.op, x.m.mseq]).ownersFail l

/-- A restart of a Spring seen (R365): its descriptors complete SPRING_RESTARTED, every SQ is fenced, pushes, checks and frames of its old life end. While the
station works the cell is withdrawn: it takes no commands of its former life (R38, R153). -/
def State.restartSeen (s : State) (sp oldE newE : Nat) : State :=
  let l := s.openTo sp
  let s := l.foldl (fun s x => s.settle x.id stRESTARTED (newE * 256 + oldE) x.words 0 s.tickNow) s
  let s := s.setFence sp (List.range 16) stRESTARTED 0xFFFF
  let s := s.pushFails sp 0
  let p := s.peer sp
  let s := s.setPeer { p with unacked := [], waiting := [], resends := 0, rx := none }
  let s := { s with lnk := { s.lnk with awaits := s.lnk.awaits.filter (fun a => a.dest != sp) }
                    slu := { s.slu with expired := s.slu.expired.filter (· != sp), fresh := s.slu.fresh.filter (· != sp) ++ [sp]
                                        reqs := if s.dispatches && s.energisedRange then s.slu.reqs ++ [(sp, 11, 0)] else s.slu.reqs }
                    tbl := { s.tbl with watch := s.tbl.watch.filter (fun (x : Nat × Nat × Nat) => x.1 != sp),
                                        lostPush := s.tbl.lostPush.filter (· != sp), loaded := s.tbl.loaded.filter (· != sp) }
                    recd := { s.recd with restarted := s.recd.restarted.filter (fun (x : Nat × Option (Nat × Nat)) => x.1 != sp) ++
                      [(sp, (s.ctl.used.find? (fun (t : Telem) => t.spring == sp)).map (fun (t : Telem) => (t.eIn, t.eOut)))] } }
  (s.reconFail sp).raise Ev.SPRING_RESTART_SEEN [sp, oldE, newE, l.length]

/-- Descriptors of a Spring reachable by neither route (R363). -/
def State.unreachableNow (s : State) (sp : Nat) : State :=
  (s.openTo sp).foldl (fun (s : State) (x : Infl) =>
    match x.phase with
    | .fetched => s
    | _ => s.abortPath x.id 1) s

/-! ### Takeover at the old active Basin (R369) -/

/-- The cause and SLOT_SEQ with which a demoted Basin completes a descriptor; none where it completes as usual. -/
def State.demoteReason (s : State) (x : Infl) : Option Nat :=
  if [ocSETREF, ocDEMAND, ocTIMESET, ocENERGISE, ocDEENERGISE, ocRESUME, ocSWAP].contains x.d.opcode then some (2 ^ 24)
  else if x.d.opcode == ocCMD then
    (match x.phase with
     | .carried q _ _ => some (2 * 2 ^ 24 + q)
     | .check q _ _ => some (2 * 2 ^ 24 + q)
     | _ => some (2 ^ 24))
  else if mgmtBorne x.d then
    (match x.phase with
     | .mgmt _ _ => some (if s.notSent x then 2 ^ 24 else 2 * 2 ^ 24)
     | _ => some (2 ^ 24))
  else none

/-- The demoted Basin's descriptors complete in promise order, its demand entries and its swap end, and TAKEOVER_ABORTS follows. -/
def State.demoteAborts (s : State) : State :=
  let l := s.host.infl.filter (fun x => !x.phase.isDone && (s.demoteReason x).isSome)
  let s := (l.map (fun x => (x, (s.demoteReason x).getD 0))).foldl (fun s (x : Infl × Nat) => s.settle x.1.id stTAKEOVER x.2 x.1.words 0 s.tickNow) s
  let s := { s with slu := { s.slu with entries := [] }, tbl := { s.tbl with swap := none }, host := { s.host with recon := [], reconDone := [], unread := [] } }
  let s := (s.setPushes []).set F.HIF_ORD_STAT.RECON_BUSY 0
  s.raise Ev.TAKEOVER_ABORTS [l.length, s.tickNow]

end Sys2Proof.Machine
end

