-- ==== Sys2Proof/Machine/CfgOps.lean ====
section
/-! DEFINITION. CfgOps.lean: SAFETY_CFG (R427 to R430): its entries, its checks, what it does on this Basin, and its frames to a Spring. -/
namespace Sys2Proof.Machine

/-- A change-log record (R429). -/
def State.safetyChange (s : State) (old new source target : Nat) : State :=
  s.raise Ev.SAFETY_CHANGE [s.safe.roleId, s.todSec, s.todNs + 2 ^ 31 * b2n s.time.todValid, old, new, source, target]

/-- The configuration locks (R426); while a SAFETY_CFG is carried out it waits for that one's completion (R437). -/
def State.relock (s : State) : State :=
  if !s.flag F.SAFE_STAT.UNLOCKED then s
  else if s.host.infl.any (fun x => x.d.opcode == ocSAFETY) then { s with safe := { s.safe with relockDue := true } }
  else
    let s := { s with safe := { s.safe with relockDue := false } }.set F.SAFE_STAT.UNLOCKED 0
    let crc := s.get F.SAFE_CRC.CRC
    if crc != s.safe.unlockCrc then s.safetyChange s.safe.unlockCrc crc 1 s.basinId else s

/-- A relock that waited, once no SAFETY_CFG is left. -/
def State.relockIfDue (s : State) : State := if s.safe.relockDue then s.relock else s

/-! ### Entries -/

/-- The offset and value of each entry. -/
def cfgPairs : List Word → List (Nat × Nat)
  | o :: v :: t => (o.toNat, v.toNat) :: cfgPairs t
  | _ => []

/-- The entries of a descriptor, and what has been read since: SAFE_CRC, then the old values, then SAFE_CRC again. -/
def cfgEntries (x : Infl) : List (Nat × Nat) := cfgPairs (x.data.take (x.d.length / 4))
def cfgRead (x : Infl) (i : Nat) : Nat := ((x.data.drop (x.d.length / 4)).getD i 0#32).toNat

/-- Password entries. -/
def pwOff0 : Nat := 0xFFFFFFF0
def pwOff1 : Nat := 0xFFFFFFF4
def isPwOff (o : Nat) : Bool := o == pwOff0 || o == pwOff1

/-- An offset holds an RWL field in a role. -/
def rwlAt (role : Role) (o : Nat) : Bool := match rowAt o with
  | some r => rowLive role r o && r.rwlMask != 0
  | none => false

/-- Check 2 of R427. -/
def cfgTargets (role : Role) (l : List (Nat × Nat)) : Bool :=
  l.all (fun e => rwlAt role e.1 || (role == .basin && isPwOff e.1)) && l.any (fun e => e.1 == pwOff0) == l.any (fun e => e.1 == pwOff1)

/-- Every field of a value lies in its range. -/
def cfgInRange (e : Nat × Nat) : Bool :=
  if isPwOff e.1 then (leBytes 4 e.2).all (fun c => decide (0x21 ≤ c) && decide (c ≤ 0x7E)) else wordOk e.1 e.2

def cfgOldCrc (d : Desc) : Nat := bytesAt d.param 0 4
def cfgNewCrc (d : Desc) : Nat := bytesAt d.param 4 4

/-! ### To a Spring (R428) -/

/-- The frames of a stage: 0 reads SAFE_CRC and the old values; 1 opens SAFE_SUNLOCK, writes the entries and reads SAFE_CRC; 2 restores the old values and locks;
3 locks. -/
def State.cfgStage (s : State) (x : Infl) (stage : Nat) : State :=
  let sp := x.d.target
  let l := cfgEntries x
  let rd := fun (o : Nat) (s : State) => s.sendSeq sp opRDREQ o (leBytes 2 1) (.cfg x.id)
  let wr := fun (o v : Nat) (s : State) => s.sendSeq sp opWRREQ o (leBytes 4 v) (.cfg x.id)
  let n := x.d.length / 4 + (if stage = 0 then 0 else 1 + l.length)
  let s := s.modInfl x.id (fun y => { y with phase := .mgmt stage 0, data := if stage ≤ 1 then y.data.take n else y.data })
  let lock := F.SAFE_SUNLOCK.UNLOCK.off
  match stage with
  | 0 => l.foldl (fun (s : State) e => rd e.1 s) (rd F.SAFE_CRC.CRC.off s)
  | 1 => rd F.SAFE_CRC.CRC.off (l.foldl (fun (s : State) e => wr e.1 e.2 s) (wr lock 1 s))
  | 2 => wr lock 0 ((List.range l.length).foldl (fun (s : State) i => wr (l.getD i (0, 0)).1 (cfgRead x (i + 1)) s) s)
  | _ => wr lock 0 s

/-- Answers a stage waits for. -/
def cfgNeeds (n stage : Nat) : Nat := match stage with
  | 0 => n + 1
  | 1 => n + 2
  | 2 => n + 1
  | _ => 1

/-- REASON of a set of entries written: 2 a value out of range, 3 another SAFE_CRC than NEW_CRC, 0 neither. -/
def cfgBad (l : List (Nat × Nat)) (crc new : Nat) : Nat := if !l.all cfgInRange then 2 else if crc != new then 3 else 0

/-- A stage is answered in full. -/
def State.cfgNext (s : State) (x : Infl) (stage : Nat) : State :=
  let l := cfgEntries x
  let crc := cfgRead x (1 + l.length)
  let bad := cfgBad l crc (cfgNewCrc x.d)
  match stage with
  | 0 => if cfgRead x 0 != cfgOldCrc x.d then s.refuse x.id stLIMIT 1 else s.cfgStage x 1
  | 1 => if bad = 0 then s.cfgStage x 3 else s.cfgStage x 2
  | 2 => s.refuse x.id stLIMIT bad
  | _ =>
    let s := s.safetyChange (cfgOldCrc x.d) crc 0 x.d.target
    if x.due = 0 then s.settle x.id stOK 0 0 0 0 else s.settle x.id stDELAYED 0 0 (tickDist x.due s.tickNow) s.tickNow

/-- A frame of a SAFETY_CFG answered; `ws` is what a read gives. -/
def State.cfgAnswer (s : State) (id : Nat) (ws : List Word) : State :=
  match s.inflAt id with
  | none => s
  | some x =>
    match x.phase with
    | .mgmt stage got =>
      let s := s.modInfl id (fun y => { y with phase := .mgmt stage (got + 1), data := y.data ++ ws.take 1 })
      if got + 1 < cfgNeeds (cfgEntries x).length stage then s
      else
        match s.inflAt id with
        | some y => s.cfgNext y stage
        | none => s
    | _ => s

/-- A NAK of one of its frames: held for a busy Spring, else DEVICE_FAULT (R246, R357). -/
def State.cfgNak (s : State) (id reason : Nat) : State :=
  match s.inflAt id with
  | none => s
  | some x =>
    match x.phase with
    | .mgmt stage _ =>
      if reason == 4 then
        let s := s.modInfl id (fun y => { y with due := if y.due = 0 then s.tickNow else y.due })
        s.setPhase id (.mgmtHeld s.tickNow stage)
      else s.settle id stDEVICE reason 0 0 0
    | _ => s

end Sys2Proof.Machine
end

