-- ==== Sys2Proof/Machine/Links.lean ====
section
/-! DEFINITION. Links.lean: training, loss and clock fallback of a port, forwarding, enrolment, and the meanings of the chain link commands but for register
access (08_chain_links). -/
namespace Sys2Proof.Machine

/-! ### Ports (R249 to R256) -/

/-- A burst of 128 TRAIN blocks, LOCKED showing the receiver's state (R249). -/
def State.burst (s : State) (p : Nat) : State :=
  if s.lanesOff then s
  else
    (s.modPort p (fun x => { x with bursts := x.bursts + 1, burstAt := s.time.cyc })).sendSets p false (trainBurst (s.flag (F.LNK_PSTAT.LOCK p)) s.role p)

/-- A port's receive path moves to its recovered or its forwarded clock; AUTO follows the upstream's (R256, R295, R312). -/
def State.setCdr (s : State) (p : Nat) (on : Bool) : State := (s.setFlag (F.LNK_PSTAT.CDR p) on).hopIfMoved .s (s.selSrc .s)

/-- A port that is not UP is no lone Basin's second path (R27), and a SYNC exchange under way on it is cut (R263). -/
def State.portGone (s : State) (p : Nat) : State :=
  let s := if s.role == .basin && s.chainOfPort p != p then s.set (F.LNK_CHAIN.SECOND_PATH (s.chainOfPort p)) 0 else s
  s.modPort p (fun x => { x with syncT1 := none })

/-- A port trains: the forwarded clock is taken again, and a burst leaves. -/
def State.trainPort (s : State) (p : Nat) : State :=
  (((s.set (F.LNK_PSTAT.STATE p) psTRAINING).setCdr p false).set (F.LNK_PSTAT.PEER_LOCKED p) 0).burst p

/-- A port that may be UP trains again. -/
def State.retrainPort (s : State) (p : Nat) : State := (s.portGone p).trainPort p

/-- A port leaves IDLE (R249). -/
def State.leaveIdle (s : State) (p : Nat) : State :=
  if s.portSt p == psIDLE then (s.modPort p (fun x => { x with bursts := 0 })).trainPort p else s

/-- The active Basin asks the Springs of a chain for enrolment from its near end, or from its far port where it has one and the near port is not UP (R252). -/
def State.enrolReqFrame (s : State) (c : Nat) (far : Bool) : Mgmt :=
  { relayed := false, addr := 0xFF, src := s.selfId, op := opENROL, mseq := 0, chain := c, hop := 0, param := b2n far
    payload := leBytes 2 (s.get F.RED_CLAIM.CLAIM) ++ [s.get (F.LNK_CHAIN.NSPR c)] }

def State.enrolFar (s : State) (c : Nat) : State :=
  if s.get F.RED_CLAIM.ROLE == roleLone && decide (c < 6) && s.portUp (c + 6) then s.sendFrame (c + 6) (.mgmt (s.enrolReqFrame c true)) else s

def State.enrolChain (s : State) (c : Nat) : State :=
  if s.role == .basin && s.dispatches && s.get (F.LNK_CHAIN.NSPR c) != 0 && !(s.get F.RED_CLAIM.ROLE == roleLone && decide (6 ≤ c)) then
    let s := s.modChain c (fun x => { x with replied := [], startedAt := some s.time.cyc })
    if s.portUp c then s.sendFrame c (.mgmt (s.enrolReqFrame c false)) else s.enrolFar c
  else s

/-- Every chain's enrolment starts (R535, R536). -/
def State.enrolAll (s : State) : State := (List.range 12).foldl State.enrolChain s

/-- A port is UP (R249, R255): LINK_UP, LINK_REPORT; a Spring's other port leaves IDLE; a Basin that dispatches enrols the chain. -/
def State.goUp (s : State) (p : Nat) : State :=
  let s := s.set (F.LNK_PSTAT.STATE p) psUP
  let s := s.raise Ev.LINK_UP [p, (s.lport p).bursts, s.get (F.LNK_PSTAT.CDR p)]
  let s := (s.modPort p (fun x => { x with bursts := 0 })).linkReport p 0
  match s.role with
  | .spring => (s.leaveIdle (1 - p)).plls3
  | .basin =>
    let s := if s.get F.RED_CLAIM.ROLE == roleElecting && s.red.electAt.isNone then { s with red := { s.red with electAt := some s.time.cyc } } else s
    let c := s.chainOfPort p
    (if c != p then s.set (F.LNK_CHAIN.SECOND_PATH c) 1 else s).enrolChain c

/-- Lock and a TRAIN block with LOCKED set, or any frame, make a training port UP. -/
def State.upIfReady (s : State) (p : Nat) (got : Bool) : State :=
  if s.flag (F.LNK_PSTAT.LOCK p) && got && (s.portSt p == psTRAINING || s.portSt p == psDOWN) then s.goUp p else s

/-- TRAIN received (R249, R263): it takes a Spring's port out of IDLE, a port that is UP back to TRAINING, and a training port toward UP. -/
def State.trainRx (s : State) (p : Nat) (locked : Bool) : State :=
  if !s.hasPort p then s
  else
    let st := s.portSt p
    if st == psIDLE then
      (if s.role == .spring && s.flag (F.LNK_PCTRL.RX_ON p) then (s.leaveIdle p).setFlag (F.LNK_PSTAT.PEER_LOCKED p) locked else s)
    else if st == psUP then ((s.retrainPort p).setFlag (F.LNK_PSTAT.PEER_LOCKED p) locked).raise Ev.LINK_DOWN [p, evNum Ev.LINK_DOWN 2]
    else if st == psPRBS then s.setFlag (F.LNK_PSTAT.PEER_LOCKED p) locked
    else
      let s := s.setFlag (F.LNK_PSTAT.PEER_LOCKED p) locked
      if locked then s.upIfReady p true else if s.flag (F.LNK_PSTAT.LOCK p) then s.burst p else s

/-- The link of a port lost (R255). -/
def State.linkLost (s : State) (p cause : Nat) : State :=
  let s := s.set (F.LNK_PSTAT.LOCK p) 0
  if s.portUp p then
    let s := ((s.set (F.LNK_PSTAT.STATE p) psDOWN).inc (F.LNK_LOSS_CNT.COUNT p)).raise Ev.LINK_DOWN [p, evNum Ev.LINK_DOWN cause]
    (s.portGone p).linkReport p 1
  else s

/-- The silence after EI_ENTER is announced idle (R250); on an enrolled link it counts as a loss. -/
def State.eiRx (s : State) (p : Nat) : State :=
  if s.portSt p == psIDLE || !s.hasPort p then s
  else
    let enr := match s.role with
      | .spring => s.flag F.LNK_SPOS.ENROLLED
      | .basin => s.chainEnrolled (s.chainOfPort p)
    let s := ((s.set (F.LNK_PSTAT.STATE p) psIDLE).set (F.LNK_PSTAT.LOCK p) 0)
    let s := if enr then s.inc (F.LNK_LOSS_CNT.COUNT p) else s
    ((s.portGone p).raise Ev.LINK_IDLE [p]).linkReport p 2

/-- EI_ENTER sent three times on a port that is not IDLE, after the frame that is leaving, and the transmit lanes stopped (R250). -/
def State.eiSend (s : State) (p : Nat) : State :=
  if s.portSt p == psIDLE then s
  else
    let x := s.lane p
    let s := { s with lanes := s.lanes.set p { x with jobs := x.jobs.filter (fun j => j.opened) } }
    ((s.sendSets p false [eiSet, eiSet, eiSet]).set (F.LNK_PSTAT.STATE p) psIDLE).set (F.LNK_PSTAT.LOCK p) 0

/-! ### Reception (R237, R240, R241) -/

/-- The blocks of a frame received on a port: any frame takes a locked port UP (R249), and what is discarded is counted (R237, R239, R251, R265). -/
def State.hearFrame (s : State) (p : Nat) (h : Heard) : State :=
  ((s.upIfReady p h.isOpen).addSat (F.LNK_CRC_ERR.COUNT p) h.count).addSat (F.LNK_HDR_ERR.COUNT p) h.hdrs

/-- A frame of one FTYPE received on a port, handed on when it is whole and its check passes. -/
def State.onFrame (s : State) (p : Nat) (bs : List Block) (ft : Nat) (f : List Nat → State → State) : State :=
  if !s.hasPort p then s
  else
    let h := hear bs
    let s := s.hearFrame p h
    if h.good && ftypeOf h.bytes == ft then f h.bytes s else s

/-- A MGMT frame of the kind a command takes, received (R244 to R247). -/
def State.mgmtRx (s : State) (port : Nat) (bs : List Block) (ok : Mgmt → Bool) (f : Mgmt → State → State) : State :=
  s.onFrame port bs ftMGMT fun b s => s.mgmtIn port b fun m s => if ok m then f m s else s

/-- A sequenced frame of this device's own: handed on when new, and acknowledged first. -/
def State.mgmtSeq (s : State) (port : Nat) (bs : List Block) (ok : Mgmt → Bool) (f : Mgmt → State → State) : State :=
  s.mgmtRx port bs ok fun m s =>
    let (s, fresh) := s.acceptSeq m
    if fresh then f m (s.ackFrame m) else s

/-- An ordered set other than WEIR received on a port (R237, R238): one whose check fails or that carries a reserved O_CODE is discarded and counted. -/
def State.onSet (s : State) (p v code : Nat) (f : State → State) : State :=
  if !s.hasPort p then s
  else if osetCode v == code then (if osetOk v then f s else s.inc (F.LNK_CRC_ERR.COUNT p))
  else if [ocTRAIN, ocEI, ocWEIR].contains (osetCode v) then s
  else s.inc (F.LNK_CRC_ERR.COUNT p)

/-- TRAIN (R249, R263): a TRAIN block's 56 bits, standing for the burst received. -/
def execTrain (dt : Nat) (port : Fin 12) (v : Nat) (s : State) : Out := whenLive s fun s =>
  (s.advance dt).onSet port v ocTRAIN fun s => s.trainRx port (bitOf v 4)

/-- TRAIN_RETRY (R249, R255): 10 microseconds after a burst the port is not UP; it sends another. -/
def execTrainRetry (dt : Nat) (port : Fin 12) (s : State) : Out := whenLive s fun s =>
  let s := s.advance dt
  if s.hasPort port && (s.portSt port == psTRAINING || s.portSt port == psDOWN) && decide ((s.lport port).burstAt + 5000 ≤ s.time.cyc) then s.burst port else s

/-- EI_ENTER (R250): an EI_ENTER block's 56 bits. -/
def execEiEnter (dt : Nat) (port : Fin 12) (v : Nat) (s : State) : Out := whenLive s fun s =>
  (s.advance dt).onSet port v ocEI fun s => s.eiRx port

/-- LINK_LOSS (R239, R255): `cause` 0 lock lost, 1 no transitions; `hdrs` invalid headers came with it, outside any frame. -/
def execLinkLoss (dt : Nat) (port : Fin 12) (cause : Fin 2) (hdrs : Nat) (s : State) : Out := whenLive s fun s =>
  let s := s.advance dt
  if s.hasPort port then ((s.addSat (F.LNK_HDR_ERR.COUNT port) hdrs).addSat (F.LNK_CRC_ERR.COUNT port) hdrs).linkLost port cause else s

/-- BLOCK_LOCK (R239, R249). -/
def execBlockLock (dt : Nat) (port : Fin 12) (s : State) : Out := whenLive s fun s =>
  let s := s.advance dt
  if s.hasPort port && (s.portSt port != psIDLE || s.flag (F.LNK_PCTRL.RX_ON port)) then
    (s.set (F.LNK_PSTAT.LOCK port) 1).upIfReady port (s.flag (F.LNK_PSTAT.PEER_LOCKED port))
  else s

/-- CLK_FALLBACK (R256): the receive path moves to the recovered clock; the link stays as it is. -/
def execClkFallback (dt : Nat) (port : Fin 12) (s : State) : Out := whenLive s fun s =>
  let s := s.advance dt
  if s.hasPort port && s.portSt port != psIDLE && !s.flag (F.LNK_PSTAT.CDR port) then
    (s.raise Ev.CLK_FALLBACK [port]).setCdr port true
  else s

/-- A write of CLK_RESTORE (R256): back to the forwarded clock when its lane has been clean for 1 ms. -/
def State.clkRestore (s : State) (p : Nat) (clean : Bool) : State :=
  if s.hasPort p && s.flag (F.LNK_PSTAT.CDR p) && clean then (s.raise Ev.CLK_RESTORED [p]).setCdr p false else s

/-- CLK_RESTORE (R256). `clean` is whether the clock lane has been clean for 1 ms. -/
def execClkRestore (port : Fin 12) (clean : Bool) (s : State) : Out := whenLive s fun s => s.clkRestore port clean

/-- A write of RETRAIN (R265). -/
def State.retrain (s : State) (p : Nat) : State :=
  if s.hasPort p && s.portSt p != psIDLE && s.portSt p != psPRBS then s.retrainPort p else s

/-- RETRAIN (R265). -/
def execRetrain (port : Fin 12) (s : State) : Out := whenLive s fun s => s.retrain port

/-- A write that sets or clears LNK_PCTRL.EN (R249); a cleared EN stops nothing that runs. -/
def State.portEn (s : State) (p : Nat) (en : Bool) : State :=
  if s.hasPort p then (if en then (s.set (F.LNK_PCTRL.EN p) 1).leaveIdle p else s.set (F.LNK_PCTRL.EN p) 0) else s

/-- PORT_LEAVE_IDLE (R249). -/
def execPortLeaveIdle (port : Fin 12) (s : State) : Out := whenLive s fun s => s.portEn port true

/-! ### PRBS (R251) -/

/-- Bits a port's checker has compared since it was set or its counts were last taken, in units of 2^20: 5.15625 bits a nanosecond. -/
def State.prbsUnits (s : State) (p : Nat) : Nat := match (s.lport p).chkAt with
  | some t => (s.time.cyc - t) * 165 / 16 / 2 ^ 20
  | none => 0

/-- Bit errors found by a checker that is on, counted. -/
def State.prbsErrs (s : State) (p errs : Nat) : State :=
  if s.hasPort p && (s.lport p).chkAt.isSome then s.addSat (F.LNK_PRBS_ERR.COUNT p) errs else s

/-- A write of CHK: set, the checker starts; cleared, the bits checked are counted. -/
def State.prbsCheck (s : State) (p : Nat) (on : Bool) : State :=
  if !s.hasPort p then s
  else if on then (if (s.lport p).chkAt.isSome then s else s.modPort p (fun x => { x with chkAt := some s.time.cyc }))
  else (s.addSat (F.LNK_PRBS_CNT.COUNT p) (s.prbsUnits p)).modPort p (fun x => { x with chkAt := none })

/-- A write of GEN (R251): taken in a port that is IDLE or UP toward no enrolled chain; cleared, it starts training. -/
def State.prbsGen (s : State) (p : Nat) (gen : Bool) : State :=
  if !s.hasPort p then s
  else
    let on := s.flag (F.LNK_PRBS_CTRL.GEN p)
    let enr := match s.role with
      | .spring => s.flag F.LNK_SPOS.ENROLLED
      | .basin => s.chainEnrolled (s.chainOfPort p)
    if gen && !on && (s.portSt p == psIDLE || (s.portUp p && !enr)) then
      ((s.set (F.LNK_PRBS_CTRL.GEN p) 1).set (F.LNK_PSTAT.STATE p) psPRBS).portGone p
    else if !gen && on then (s.set (F.LNK_PRBS_CTRL.GEN p) 0).trainPort p
    else s

/-- PRBS_GEN (R251); `errs` bit errors were found by the port's checker since the write before. -/
def execPrbsGen (port : Fin 12) (gen : Bool) (errs : Nat) (s : State) : Out := whenLive s fun s => (s.prbsErrs port errs).prbsGen port gen

/-- A write of CLR (R265). -/
def State.prbsClear (s : State) (p : Nat) : State :=
  if s.hasPort p then
    ((s.set (F.LNK_PRBS_ERR.COUNT p) 0).set (F.LNK_PRBS_CNT.COUNT p) 0).modPort p (fun x => { x with chkAt := x.chkAt.map (fun _ => s.time.cyc) })
  else s

/-- PRBS_CLEAR (R265). -/
def execPrbsClear (port : Fin 12) (errs : Nat) (s : State) : Out := whenLive s fun s => (s.prbsErrs port errs).prbsClear port

/-! ### Forwarding (R244, R245) -/

/-- What a Spring forwards by FRAME_FORWARD, told from the envelope (R244): TICK, TELEM, and MGMT for every Spring or another device; enrolment changes as it passes
(R252) and SYNC is not forwarded. -/
def State.forwards (s : State) (b : List Nat) : Bool :=
  let a := addrOf b
  if ftypeOf b == ftTICK || ftypeOf b == ftTELEM then true
  else ftypeOf b == ftMGMT && (a == 0xFE || decide (a < 192) || a == 0xC0 || a == 0xC1 || a == 0xC2) && !(s.flag F.LNK_SPOS.ENROLLED && a == s.selfId)

/-- The Spring takes the frame itself, by another command, which counts what it discards. -/
def takesFrame (b : List Nat) : Bool := ftypeOf b == ftTICK || (ftypeOf b == ftMGMT && addrOf b == 0xFE)

/-- FRAME_FORWARD (R244, R245): a Spring forwards the blocks of a frame out of its other port as received, whether or not its check will pass; a MGMT frame that has to
wait and would overflow the forwarding store is dropped. -/
def execFrameForward (dt : Nat) (port : Fin 2) (bs : List Block) (s : State) : Out := onSpring s fun s =>
  let s := s.advance dt
  let h := hear bs
  let s := if takesFrame h.bytes then s.upIfReady port h.isOpen else s.hearFrame port h
  let q := 1 - port.val
  if s.forwards h.bytes && s.portUp q then
    let x := s.lane q
    let n := h.bytes.length
    if ftypeOf h.bytes == ftMGMT && !x.jobs.isEmpty && decide (8192 < x.stored + n) then
      (s.inc (F.LNK_FWD_OVF.COUNT q)).raise Ev.FWD_OVERFLOW [q, addrOf h.bytes]
    else
      let own := ownBlocks {} bs
      s.laneOut q { cls := laneClass (ftypeOf h.bytes), left := own.length, fwd := true, bytes := n } (.blocks q own)
  else s

/-! ### Enrolment (R252, R253) -/

/-- The ENROL_REPLY of a Spring (R253). -/
def State.replyNow (s : State) : EnrolReply :=
  { index := s.get F.LNK_SPOS.INDEX, position := s.get F.LNK_SPOS.POSITION
    ports := s.get F.LNK_SPOS.A_PORT + 2 * b2n (s.portUp 0) + 4 * b2n (s.portUp 1) + 8 * s.get (F.LNK_PSTAT.CDR 0) + 16 * s.get (F.LNK_PSTAT.CDR 1)
    epoch := s.get F.CTL_SPR_STATUS.EPOCH, rev := (s.rd F.CMN_REV.REV.off).toNat, serial := Config.serialNumber, straps := 1 + 2 * b2n (s.side == .b) + 4 * s.boot }

/-- A reply or reject to the requester. -/
def State.enrolAnswer (s : State) (m : Mgmt) (op param : Nat) (payload : List Nat) : State :=
  s.emitFrame (s.mgmtPorts m.src) (.mgmt { s.mkMgmt m.src op 0 param false payload with hop := m.hop, chain := m.chain })

/-- A Spring receives an ENROL_REQ (R252). -/
def State.enrolReq (s : State) (port : Nat) (m : Mgmt) : State :=
  let s := s.clearRx m.src
  let far := bitOf m.param 0
  let nspr := bytesAt m.payload 2 1
  let pos : Int := if far then (nspr : Int) - m.hop else m.hop + 1
  let idx : Int := 16 * m.chain + pos - 1
  let s :=
    if s.flag F.LNK_SPOS.ENROLLED then s.enrolAnswer m opREPLY (b2n far + (if (s.get F.LNK_SPOS.INDEX : Int) == idx then 2 else 4)) (replyBytes s.replyNow)
    else if pos < 1 || (nspr : Int) < pos then (s.enrolAnswer m opREJECT m.hop []).raise Ev.ENROL_REJECT [m.hop, nspr]
    else
      let a := if far then 1 - port else port
      let s := (((s.set F.LNK_SPOS.ENROLLED 1).set F.LNK_SPOS.INDEX idx.toNat).set F.LNK_SPOS.POSITION pos.toNat).set F.LNK_SPOS.A_PORT a
      let s := (s.set (F.LNK_PSTAT.FACES_A a) 1).set (F.LNK_PSTAT.FACES_A (1 - a)) 0
      (s.startStep 4).enrolAnswer m opREPLY (b2n far) (replyBytes s.replyNow)
  if s.portUp (1 - port) then s.sendFrame (1 - port) (.mgmt { m with hop := (m.hop + 1) % 256 }) else s

/-- ENROL_REQ (R252). -/
def execEnrolReq (dt : Nat) (port : Fin 2) (bs : List Block) (s : State) : Out := onSpring s fun s =>
  (s.advance dt).onFrame port bs ftMGMT fun b s =>
    match mgmtOf b with
    | some m => if m.op == opENROL && m.addr == 0xFF then s.enrolReq port m else s
    | none => s

def State.enrOf (s : State) (sp : Nat) : Option Enr := s.lnk.enrolled.find? (fun e => e.spring == sp)
def State.setEnr (s : State) (e : Enr) : State := { s with lnk := { s.lnk with enrolled := s.lnk.enrolled.filter (fun x => x.spring != e.spring) ++ [e] } }

/-- SECOND_PATH of a Basin pair (R27, R257): what the Spring at a chain's far end says of its port toward the other Basin. -/
def State.farEnd (s : State) (c pos : Nat) (up : Nat → Option Bool) : State :=
  let far := if s.side == .a then s.get (F.LNK_CHAIN.NSPR c) else 1
  if s.get F.RED_CLAIM.ROLE == roleLone || pos != far then s
  else
    match s.enrOf (16 * c + pos - 1) with
    | none => s
    | some e => match up (if s.side == .a then 1 - e.ports % 2 else e.ports % 2) with
      | some b => s.setFlag (F.LNK_CHAIN.SECOND_PATH c) b
      | none => s

/-- Every position of a chain has replied: ENROL_DONE (R253). -/
def State.enrolCheck (s : State) (c : Nat) : State :=
  let n := s.get (F.LNK_CHAIN.NSPR c)
  if (s.chain c).startedAt.isSome && (List.range n).all (fun i => (s.chain c).replied.contains (i + 1)) then
    ((s.modChain c (fun x => { x with startedAt := none })).set (F.LNK_CHAIN.ENROLLED c) 1).raise Ev.ENROL_DONE [c, n]
  else s

/-- A Basin receives an ENROL_REPLY (R253, R365, R517). -/
def State.enrolReply (s : State) (r : EnrolReply) (chain hop : Nat) (far rep conflict : Bool) : State :=
  if conflict then (if rep then s else s.clearRx r.index).raise Ev.POS_CONFLICT [chain, if far then s.get (F.LNK_CHAIN.NSPR chain) - hop else hop + 1, r.index]
  else
    let s := if rep then s else s.clearRx r.index
    let old := (s.enrOf r.index).map (fun e => e.epoch)
    let again := match old with
      | some (some e) => !rep || e != r.epoch
      | _ => false
    let first := match old with
      | some (some _) => false
      | _ => true
    let s := if again then s.restartSeen r.index (((old.getD none)).getD 0) r.epoch else s
    let s := (s.setEnr ⟨r.index, some r.epoch, r.serial, r.ports⟩).farEnd chain (r.position) (fun p => some (bitOf r.ports (p + 1)))
    let s := if r.rev != (s.rd F.CMN_REV.REV.off).toNat then s.raise Ev.ENROL_REV [r.index, r.rev] else s
    let s := if (again || first) && !s.tbl.img.isEmpty then s.startPush s.tbl.img r.index 0 else s
    (s.modChain chain (fun x => { x with replied := if x.replied.contains r.position then x.replied else x.replied ++ [r.position] })).enrolCheck chain

/-- ENROL_REPLY (R253): PARAM bit 0 says the request came from the far end, bits 1 and 2 are REPEAT and CONFLICT. -/
def execEnrolReply (dt : Nat) (port : Fin 12) (bs : List Block) (s : State) : Out := onBasin s fun s =>
  (s.advance dt).mgmtRx port bs (·.op == opREPLY) fun m s =>
    let r := replyOf m.payload
    if s.dispatches && decide (m.chain < 12) && r.index / 16 == m.chain then s.enrolReply r m.chain m.hop (bitOf m.param 0) (bitOf m.param 1) (bitOf m.param 2) else s

/-- ENROL_MISMATCH (R252, R253): 1 ms after the request, the silent positions are reported and enrolled as LOST; the far end asks them. -/
def execEnrolMismatch (dt : Nat) (chain : Fin 12) (s : State) : Out := onBasin s fun s =>
  let s := s.advance dt
  match (s.chain chain).startedAt with
  | none => s
  | some t =>
    if s.time.cyc < t + 500000 then s
    else
      let n := s.get (F.LNK_CHAIN.NSPR chain)
      let silent := (List.range n).filter (fun i => !(s.chain chain).replied.contains (i + 1))
      let s := (s.modChain chain (fun x => { x with startedAt := none })).set (F.LNK_CHAIN.ENROLLED chain) 1
      let s := s.raise Ev.ENROL_MISMATCH [chain, n, bitsMask silent]
      let s := silent.foldl (fun s i =>
        let sp := 16 * chain.val + i
        let s := if (s.enrOf sp).isSome then s else s.setEnr ⟨sp, none, 0, 0⟩
        if s.ctl.lost.contains sp then s else { s with ctl := { s.ctl with lost := s.ctl.lost ++ [sp] } }) s
      s.enrolFar chain

/-! ### MGMT frames between devices (R246, R247, R257, R258, R587, R588) -/

/-- LINK_REPORT (R257): a report of DOWN or IDLE stands until a later one shows the port UP; a link that is UP again is enrolled again (R38, R263). The far Basin
reports its own ports, naming the chain (R248). -/
def execLinkReport (dt : Nat) (port : Fin 12) (bs : List Block) (s : State) : Out := onBasin s fun s =>
  (s.advance dt).mgmtRx port bs (·.op == opREPORT) fun m s =>
    let c := if m.src < 192 then m.src / 16 else m.chain
    if m.src < 192 || ((m.src == 0xC0 || m.src == 0xC1) && decide (c < 12)) then
      let k := (m.src, m.payload.getD 0 0)
      let s := s.modChain c (fun x => { x with downLinks := x.downLinks.filter (· != k) ++ (if m.payload.getD 1 0 == 0 then [] else [k]) })
      let s := if m.src < 192 then s.farEnd c (m.src % 16 + 1) (fun p => if p = k.2 then some (m.payload.getD 1 0 == 0) else none) else s
      if m.payload.getD 1 0 == 0 then s.enrolChain c else s
    else s

/-- FAR_REPORT (R257, R258): the first copy for each boundary feeds ECHO and FAR_FIRST of every chain. -/
def execFarReport (dt : Nat) (port : Fin 12) (bs : List Block) (s : State) : Out := onBasin s fun s =>
  (s.advance dt).mgmtRx port bs (·.op == opFAR) fun m s =>
    let s := s.set (F.LNK_CHAIN.SECOND_PATH port) 1
    (List.range 12).foldl (fun s c =>
      if (s.chain c).farTick == some s.tickNow then s
      else
        let w := bytesAt m.payload (2 * c) 2
        s.modChain c (fun x => { x with farTick := some s.tickNow, farArrived := bitOf w 0, farFirst := bitsOf w 8 5 })) s

/-- ACK (R247, R515). -/
def execAck (dt : Nat) (port : Fin 12) (bs : List Block) (s : State) : Out := whenLive s fun s =>
  (s.advance dt).mgmtRx port bs (·.op == opACK) fun m s =>
    let (s, x) := s.takeAck m.src m.param
    match x with
    | none => s
    | some x => if x.m.op == opCHUNK && chunkKind x.m.param == 3 then s.pushCommitted m.src else s

/-- NAK (R246, R357): the frame named is done with; its operation is held for a busy Spring, or ends. -/
def execNak (dt : Nat) (port : Fin 12) (bs : List Block) (s : State) : Out := whenLive s fun s =>
  (s.advance dt).mgmtRx port bs (·.op == opNAK) fun m s =>
    let p := s.peer m.src
    match p.unacked.find? (fun x => x.m.mseq == m.param) with
    | none => s
    | some x =>
      let s := State.pump m.src 8 (s.setPeer { p with unacked := p.unacked.filter (fun y => y.m.mseq != m.param), resends := 0 })
      let reason := m.payload.getD 0 0
      match x.owner with
      | .infl id _ _ => s.remoteNak id reason
      | .cfg id => s.cfgNak id reason
      | .check id => if reason == 4 then s else s.abortPath id 2
      | .recon sp => if reason == 4 then s else s.reconFail sp
      | .gen sp => if s.tbl.img.isEmpty then s else s.startPush s.tbl.img sp 0
      | o => s.ownerFails o

/-- MGMT_TIMEOUT (R247, R587): a frame unacknowledged for LNK_MGMT_CFG.TMO: every frame from the oldest on is sent again, or the destination fails. -/
def execMgmtTimeout (dt : Nat) (dest : Nat) (s : State) : Out := whenLive s fun s =>
  let s := s.advance dt
  let p := s.peer dest
  if !(p.unacked.any (fun x => decide (x.at' + 5000 * s.get F.LNK_MGMT_CFG.TMO ≤ s.time.cyc))) then s
  else if s.get F.LNK_MGMT_CFG.RETRY ≤ p.resends then s.mgmtFail dest
  else (s.setPeer { p with resends := p.resends + 1 }).resendAll dest

/-- RESPONSE_TIMEOUT (R588): an acknowledged request without a response for (RETRY + 2) x TMO ends as on MGMT_FAIL. -/
def execResponseTimeout (dt : Nat) (dest mseq : Nat) (s : State) : Out := whenLive s fun s =>
  let s := s.advance dt
  match s.lnk.awaits.find? (fun a => a.dest == dest && a.mseq == mseq) with
  | none => s
  | some a =>
    if s.time.cyc < a.at' + (s.get F.LNK_MGMT_CFG.RETRY + 2) * (5000 * s.get F.LNK_MGMT_CFG.TMO) then s
    else
      let s := { s with lnk := { s.lnk with awaits := s.lnk.awaits.filter (fun b => !(b.dest == dest && b.mseq == mseq)) } }
      (s.raise Ev.MGMT_FAIL [dest, a.op, mseq]).ownerFails a.owner

/-- Words of a payload. -/
def payloadWords (l : List Nat) : List Word := (List.range (l.length / 4)).map (fun i => BitVec.ofNat 32 (bytesAt l (4 * i) 4))

/-- RD_RESP (R246, R329, R355, R370): the words answer the oldest read of that offset from that device. -/
def execRdResp (dt : Nat) (port : Fin 12) (bs : List Block) (s : State) : Out := whenLive s fun s =>
  (s.advance dt).mgmtSeq port bs (·.op == opRDRESP) fun m s =>
    let (s, a) := s.takeAwait m.src opRDREQ (fun o => o == m.param)
    let ws := payloadWords m.payload
    match a.map Await.owner with
    | some (.infl id w c) => s.remoteWords id w c ws.length ws
    | some (.check id) => s.checkAnswer id (ws.headD 0#32).toNat
    | some (.cfg id) => s.cfgAnswer id ws
    | some (.recon sp) => s.reconRead sp (ws.map BitVec.toNat)
    | some (.gen sp) =>
      if s.tbl.img.isEmpty then s
      else if (ws.headD 0#32).toNat != imgGen s.tbl.img then s.startPush s.tbl.img sp 0
      else { s with tbl := { s.tbl with loaded := s.tbl.loaded.filter (· != sp) ++ [sp] } }
    | _ => s

/-- WR_ACK (R246, R329): the words of the oldest write of that offset to that device are written, or as many as PARAM bits 31:16 report. -/
def execWrAck (dt : Nat) (port : Fin 12) (bs : List Block) (s : State) : Out := whenLive s fun s =>
  (s.advance dt).mgmtSeq port bs (·.op == opWRACK) fun m s =>
    let full := s.lnk.awaits.any (fun a => a.dest == m.src && a.op == opWRREQ && a.param == m.param)
    let (s, a) := s.takeAwait m.src opWRREQ (fun o => if full then o == m.param else o % 65536 == m.param % 65536)
    match a with
    | some a => (match a.owner with
      | .infl id w c => s.remoteWords id w c (if m.param == a.param then c else bitsOf m.param 16 16) []
      | .cfg id => s.cfgAnswer id []
      | _ => s)
    | none => s

end Sys2Proof.Machine
end

