-- ==== Sys2Proof/Machine/Roles.lean ====
section
/-! DEFINITION. Roles.lean: how a Basin takes its role of R381 and when step 8 of its start-up begins (R383, R387, R535, R536). -/
namespace Sys2Proof.Machine

/-- FAILED of R381. -/
def roleFailed : Nat := 4

/-- The other Basin's number (R246). -/
def State.otherId (s : State) : Nat := if s.basinId == 0xC0 then 0xC1 else 0xC0

/-- The image in force declares a Basin pair (R381, R500). -/
def State.paired (s : State) : Bool := !s.tbl.img.isEmpty && imgPair s.tbl.img

/-- Key X is higher than key Y (R378). -/
def keyHigher (cx : Nat) (sx : Side) (cy : Nat) (sy : Side) : Bool :=
  let d := (cx + 65536 - cy % 65536) % 65536
  (decide (1 ≤ d) && decide (d ≤ 32767)) || ((d == 0 || d == 32768) && sx == .a && sy == .b)

/-- The Basin is time master and dispatches from now on with a claim (R284, R290, R383, R536). -/
def State.becomeMaster (s : State) (role claim : Nat) : State :=
  let s := (s.set F.RED_CLAIM.ROLE role).set F.RED_CLAIM.CLAIM (claim % 65536)
  let s := { s with red := { s.red with electAt := none } }
  let s := ((s.set F.TIME_STATUS.UPPORT 0xF).set F.TIME_STATUS.MHOP 0).set F.TIME_ERR.VALUE 0
  let s := { s with time := { s.time with sampleAt := s.time.cyc, blockedRun := false } }
  (if s.get F.TIME_CTRL.SRC = 0 then s.servoTo tsFREE 0 else s).followTimeOk

/-- A cold start settles ACTIVE or LONE; enrolment starts (R252, R383, R536). -/
def State.elect (s : State) (role : Nat) : State :=
  let s := s.becomeMaster role 0
  let s := if role == roleActive then s.raise Ev.ELECTED [role, 0] else s
  s.enrolAll

/-- An electing Basin becomes STANDBY below an observed claim (R383); step 8 has ended for it. -/
def State.electStandby (s : State) (seen : Nat) : State :=
  let c := (seen + 65535) % 65536
  let s := (s.set F.RED_CLAIM.ROLE roleStandby).set F.RED_CLAIM.CLAIM c
  let s := { s with red := { s.red with electAt := none, seenClaim := seen } }
  (s.raise Ev.ELECTED [roleStandby, c]).startStep 8

/-- Step 8 goes on as far as an image lets it (R381, R534, R539): LONE where the image declares no pair, else the election, which runs once a port is UP. -/
def State.electBegin (s : State) : State :=
  if s.role == .basin && s.pwr.step8 && s.get F.RED_CLAIM.ROLE == roleElecting && !s.tbl.img.isEmpty && !s.paired then s.elect roleLone else s

/-- The ports with NSPR above 0, and the far ports of a Basin whose image declares no pair (R534, step 8). -/
def State.startPorts (s : State) : List Nat :=
  (List.range 12).filter (fun p =>
    s.get (F.LNK_CHAIN.NSPR p) != 0 || (!s.tbl.img.isEmpty && !s.paired && decide (6 ≤ p) && s.get (F.LNK_CHAIN.NSPR (p - 6)) != 0))

/-- Step 8 begins (R534, R535). -/
def State.beginStep8 (s : State) : State :=
  if s.role != .basin || s.pwr.step8 then s
  else (s.startPorts.foldl State.leaveIdle { s with pwr := { s.pwr with step8 := true } }).electBegin

/-- HOST_WAIT_EXPIRY (R535): HOST_WAIT seconds after step 6; a HOST_WAIT of 0 waits for pair 0 alone. -/
def execHostWaitExpiry (dt : Nat) (s : State) : Out := onBasin s fun s =>
  let s := s.advance dt
  let w := s.get F.CMN_START_CFG.HOST_WAIT
  if s.pwr.steps.contains 6 && w != 0 && decide (s.pwr.step6At + 500000000 * w ≤ s.time.cyc) then s.beginStep8 else s

end Sys2Proof.Machine
end

