-- ==== Sys2Proof/Machine/Host.lean ====
section
/-! DEFINITION. Host.lean: the meanings of doorbells, fetching, queue pairs, vectors, the watchdog and the PCIe link (11_host_queues), and of the
opcodes whose whole effect lies in the queues and the chain: NOP, SPRING_CMD, SET_REF, REMOTE_READ, REMOTE_WRITE, FENCE_CLEAR, STREAM_BUF. -/
namespace Sys2Proof.Machine

/-! ### Watchdog and doorbells (R322, R342) -/

/-- The watchdog starts again. -/
def State.wdRestart (s : State) : State := { s with host := { s.host with wdAt := s.time.cyc, wdFired := false } }

/-- A doorbell write discarded: counted and reported. `cause` 0 not below the size, 1 pair not enabled, 2 head past the tail. -/
def State.dbBad (s : State) (q cq v cause : Nat) : State := (s.inc F.HIF_DB_ERR.COUNT).raise Ev.DB_BAD [q, evNum Ev.DB_BAD cq, v, evNum Ev.DB_BAD (2 + cause)]

/-- A write to a pair's SQ doorbell. -/
def State.sqDoorbell (s : State) (q v : Nat) : State :=
  let v := v % 2 ^ 13
  let s := { s with host := { s.host with dbSq := s.host.dbSq.set q v } }.wdRestart
  if s.get (F.HIF_QP_SIZE.SQ_SIZE q) ≤ v then s.dbBad q 0 v 0
  else if s.qpState q != qpON then s.dbBad q 0 v 1
  else s.modPair q (fun p => { p with sqTail := v })

/-- A write to a pair's CQ doorbell; a pair that still owes completions takes it too (R325, R343). -/
def State.cqDoorbell (s : State) (q v : Nat) : State :=
  let v := v % 2 ^ 13
  let s := { s with host := { s.host with dbCq := s.host.dbCq.set q v } }.wdRestart
  let n := s.get (F.HIF_QP_SIZE.CQ_SIZE q)
  let h := (s.pair q).cqHead
  let tail := s.get (F.HIF_QP_STAT.CQ_TAIL q)
  if n ≤ v then s.dbBad q 1 v 0
  else if s.qpState q == qpDIS then s.dbBad q 1 v 1
  else if (tail + n - h) % n < (v + n - h) % n then s.dbBad q 1 v 2
  else
    let s := s.modPair q (fun p => { p with cqHead := v })
    if s.cqRoom q then s.set (F.HIF_QP_STAT.CQ_FULL q) 0 else s

/-- SQ_TAIL_DOORBELL (R322). -/
def execSqTailDoorbell (q : Fin 16) (v : Word) (s : State) : Out := onBasin s fun s => s.sqDoorbell q v.toNat

/-- CQ_HEAD_DOORBELL (R322, R325). -/
def execCqHeadDoorbell (q : Fin 16) (v : Word) (s : State) : Out := onBasin s fun s => s.cqDoorbell q v.toNat

/-- HIF_WD_WRITE (R342). -/
def execHifWdWrite (v : Word) (s : State) : Out := onBasin s fun s => (s.writeFields true F.HIF_WD.TMO.off v.toNat).wdRestart

/-- HOST_WD_EXPIRED (R342): TMO ms without a restart; with ACT and the station ENERGISED it also acts as a DEENERGISE with apply tick 0. -/
def execHostWdExpired (dt : Nat) (s : State) : Out := onBasin s fun s =>
  let s := s.advance dt
  let tmo := s.get F.HIF_WD.TMO
  if tmo = 0 || s.host.wdFired || decide (s.time.cyc < s.host.wdAt + 500000 * tmo) then s
  else
    let act := s.flag F.HIF_WD.ACT && s.station == ssENERGISED
    let s := { s with host := { s.host with wdFired := true, wdDeen := s.host.wdDeen || act } }
    s.raise Ev.HOST_WD_EXPIRED [tmo, b2n act]

/-! ### Fetching (R323 to R328) -/

/-- A pair may fetch now. -/
def State.canFetch (s : State) (q : Nat) : Bool :=
  let cap := s.get (F.HIF_QP_CFG.MAX_INFL q)
  s.qpState q == qpON && (s.pair q).sqTail != s.get (F.HIF_QP_STAT.SQ_HEAD q) && !s.flag (F.HIF_QP_STAT.CQ_FULL q) &&
    decide (s.inflight < if q = 0 then 512 else 496) && (cap == 0 || decide ((s.inflOf q).length < cap))

/-- The pair whose turn it is: SQ0 first, then SQ1 to SQ15 in turn, up to 4 descriptors each. -/
def State.fetchPair (s : State) : Option Nat :=
  if s.canFetch 0 then some 0
  else
    let t := s.host.turn
    let order := (List.range 15).map (fun i => (t - 1 + i) % 15 + 1)
    if s.host.taken < 4 && s.canFetch t then some t else (order.tail ++ [t]).find? s.canFetch

/-- The turn after a fetch. -/
def State.turnTo (s : State) (q : Nat) : State :=
  if q = 0 then s
  else if q = s.host.turn && s.host.taken < 4 then { s with host := { s.host with taken := s.host.taken + 1 } }
  else { s with host := { s.host with turn := q, taken := 1 } }

/-- This Basin as a TARGET (R327). -/
def State.isThis (s : State) (t : Nat) : Bool := t == 0xC2 || t == s.basinId

/-- The other Basin as a TARGET. -/
def State.isOther (s : State) (t : Nat) : Bool := (t == 0xC0 || t == 0xC1) && !s.isThis t && s.get F.RED_CLAIM.ROLE != roleLone

/-- An enrolled Spring (R327). -/
def State.isEnrolled (s : State) (t : Nat) : Bool := decide (t < 192) && s.lnk.enrolled.any (fun e => e.spring == t)

/-- The opcode exists and is allowed on the SQ (R329). -/
def opcodeOk (stream : Bool) (q oc : Nat) : Bool :=
  if stream then oc == ocSTREAM
  else [0x00, ocSETREF, ocDEMAND, ocCMD, ocREAD, ocWRITE, ocFENCE, ocFREEZE, ocLOGREAD, ocTHAW, ocLEDGER, ocTIMEOFF, ocCALRUN, ocSYSCAL].contains oc ||
    (q == 0 && [ocLOAD, ocSWAP, ocTIMESET, ocUNLOCK, ocSAFETY, ocENERGISE, ocDEENERGISE, ocRESUME].contains oc)

/-- FLAGS hold no reserved bit and no flag of another opcode (R326). -/
def flagsOk (d : Desc) : Bool :=
  decide (d.flags < 16) && (!bitOf d.flags 1 || d.opcode == ocTIMESET) && (!bitOf d.flags 2 || d.opcode == ocWRITE) && (!bitOf d.flags 3 || d.opcode == ocLOAD)

/-- LENGTH as R329 and R427 allow. -/
def lengthOk (d : Desc) : Bool :=
  let n := d.length
  let oc := d.opcode
  if oc == ocSETREF then n == 8
  else if oc == ocDEMAND then n == 32
  else if oc == ocCMD || oc == ocTIMESET || oc == ocTIMEOFF then n == 16
  else if oc == ocLOAD then decide (64 ≤ n) && decide (n ≤ 1048576) && n % 4 == 0
  else if oc == ocSWAP || oc == ocFENCE || oc == ocCALRUN then n == 4
  else if oc == ocREAD then decide (1 ≤ remCount d) && decide (remCount d ≤ 1024) && n == 4 * remCount d
  else if oc == ocWRITE then decide (1 ≤ remCount d) && decide (remCount d ≤ 1024) && n == 4 * remCount d && (!bitOf d.flags 2 || decide (n ≤ 32))
  else if oc == ocLOGREAD || oc == ocLEDGER then n % 64 == 0 && decide (64 ≤ n) && decide (n ≤ 262144)
  else if oc == ocSYSCAL then n == 8
  else if oc == ocUNLOCK then n == 12
  else if oc == ocSAFETY then n % 8 == 0 && decide (8 ≤ n) && decide (n ≤ 2048)
  else if oc == ocSTREAM then n % 8 == 0 && decide (256 ≤ n) && decide (n ≤ 16777216)
  else n == 0

/-- TARGET as R329 allows, and the offsets R567 allows a REMOTE_READ or REMOTE_WRITE; SET_DEMAND's own check is R92's. -/
def State.targetOk (s : State) (d : Desc) : Bool :=
  let t := d.target
  let oc := d.opcode
  if [0x00, ocSETREF, ocDEMAND, ocSTREAM].contains oc then true
  else if oc == ocCMD then s.isEnrolled t
  else if oc == ocREAD || oc == ocWRITE then (s.isEnrolled t || s.isOther t) && remOffset d % 4 == 0 && decide (remOffset d + 4 * remCount d ≤ 0x40000)
  else if oc == ocFENCE then s.isEnrolled t || t == 0xFFFFFFFF
  else if oc == ocCALRUN || oc == ocSYSCAL || oc == ocSAFETY then s.isThis t || s.isEnrolled t
  else s.isThis t

/-- Opcodes a standby refuses (R389). -/
def standbyRefuses (d : Desc) : Bool :=
  [ocCMD, ocENERGISE, ocDEENERGISE, ocRESUME].contains d.opcode || (decide (d.target < 192) && [ocWRITE, ocCALRUN, ocSYSCAL].contains d.opcode)

/-- A RESUME that reaches a standby whose die has cooled makes it fit again (R230, R231); it is refused all the same. -/
def State.standbyResume (s : State) (d : Desc) : State :=
  if d.opcode == ocRESUME && s.thm.below115 == 2 && !s.flag F.THM_STATUS.DIE_INVALID then
    ({ s with thm := { s.thm with needResume := false } }).set F.THM_STATUS.SHUT 0
  else s

/-- What a standby does beside its refusal (R231, R542). -/
def State.standbySays (s : State) (d : Desc) : State :=
  if d.opcode == ocENERGISE then s.raise Ev.ENERGISE_REFUSED [stLIMIT, 0xB0] else s.standbyResume d

/-- The checks of R328 every descriptor passes first, the standby's refusals (R389) and the fences (R359). -/
def State.firstChecks (s : State) (x : Infl) : State :=
  let d := x.d
  if !opcodeOk (s.isStream x.q) x.q d.opcode || !flagsOk d then s.refuse x.id stOPCODE 0
  else if d.length = 0 && (d.opcode == ocSETREF || d.opcode == ocDEMAND) then s.refuse x.id stOKEMPTY 0
  else if !lengthOk d then s.refuse x.id stLENGTH 0
  else if !s.targetOk d then s.refuse x.id stTARGET 0
  else if s.get F.RED_CLAIM.ROLE == roleStandby && standbyRefuses d then (s.standbySays d).refuse x.id stLIMIT 0xB0
  else if springDirected d then
    match s.fenced d.target x.q with
    | some f => s.settle x.id stFENCED f.reason 0 0 s.tickNow
    | none => s
  else s

/-- The 496th place is filled (R324). -/
def State.inflightFull (s : State) : State :=
  if s.inflight == 496 && !s.host.fullRun then
    let most := (List.range 16).foldl (fun m q => if (s.inflOf m).length < (s.inflOf q).length then q else m) 0
    { s with host := { s.host with fullRun := true } }.raise Ev.INFLIGHT_FULL [most, (s.inflOf most).length]
  else s

/-- A descriptor fetched from a pair: the SQ head advances, it is in flight, and the checks of R328 follow. -/
def State.fetchFrom (s : State) (q : Nat) (d : Desc) : State :=
  let n := s.get (F.HIF_QP_SIZE.SQ_SIZE q)
  let s := s.set (F.HIF_QP_STAT.SQ_HEAD q) ((s.get (F.HIF_QP_STAT.SQ_HEAD q) + 1) % n)
  let x : Infl := { id := s.host.nextId, q := q, d := d, due := 0, phase := .fetched }
  let s := { s with host := { s.host with infl := s.host.infl ++ [x], nextId := s.host.nextId + 1 } }
  ((s.turnTo q).inflightFull).firstChecks x

/-- DESCRIPTOR_FETCH (R323, R324, R328): the pair whose turn it is fetches the descriptor read at its SQ head. -/
def execDescriptorFetch (dt : Nat) (b : List Nat) (s : State) : Out := onBasin s fun s =>
  let s := s.advance dt
  match s.fetchPair with
  | none => s
  | some q => s.fetchFrom q (descOf b)

/-- FETCH_ERR (R334): the read ends with an error; the pair enters ERROR. -/
def execFetchErr (dt : Nat) (code : Nat) (s : State) : Out := onBasin s fun s =>
  let s := s.advance dt
  match s.fetchPair with
  | none => s
  | some q =>
    let d : Desc := ⟨0xFF, 0, 0xFFFF, 0, 0, 0, 0, []⟩
    let x : Infl := { id := s.host.nextId, q := q, d := d, due := 0, phase := .working }
    let entry := s.get (F.HIF_QP_STAT.SQ_HEAD q)
    let s := { s with host := { s.host with infl := s.host.infl ++ [x], nextId := s.host.nextId + 1 } }
    let s := ((s.set (F.HIF_QP_STAT.STATE q) qpERR).pairException q).raise Ev.FETCH_ERR [q, entry, code]
    s.refuse x.id stDEVICE code

/-! ### Completions, pairs and vectors (R321, R333, R335, R340, R341) -/

/-- COMPLETION_WRITE (R325, R330 to R333): the pair's next completion is written to its CQ. -/
def execCompletionWrite (dt : Nat) (q : Fin 16) (s : State) : Out := onBasin s fun s => (((s.advance dt).writeCpl q).qpSettled q).relockIfDue

/-- CQ_COAL_TIMER (R341). -/
def execCqCoalTimer (dt : Nat) (q : Fin 16) (s : State) : Out := onBasin s fun s =>
  let s := s.advance dt
  let t := s.get (F.HIF_QP_COAL.TIME q)
  match (s.pair q).firstAt with
  | some a => if t != 0 && decide (a + 500 * t ≤ s.time.cyc) then s.cqAssert q else s
  | none => s

/-- STREAM_FLUSH (R335): FLUSH microseconds after its first record a buffer completes. -/
def execStreamFlush (dt : Nat) (q : Fin 16) (s : State) : Out := onBasin s fun s =>
  let s := s.advance dt
  let t := s.get (F.HIF_QP_COAL.FLUSH q)
  match (s.pair q).bufs with
  | b :: _ => if t != 0 && b.count != 0 && decide (b.firstAt + 500 * t ≤ s.time.cyc) then s.closeBuf q else s
  | [] => s

/-- A message leaves. -/
def State.sendMsix (s : State) (v : Nat) : State :=
  { s with host := { s.host with vecDue := s.host.vecDue.filter (· != v), msixPba := s.host.msixPba.filter (· != v)
                                 vecLast := s.host.vecLast.filter (fun (x : Nat × Nat) => x.1 != v) ++ [(v, s.time.cyc)] } }.emit (.msix v)

/-- MSIX_SEND (R340): a due vector past its holdoff sends; a masked one, or any under the function mask, waits with its PBA bit set. -/
def execMsixSend (dt : Nat) (v : Fin 64) (fmask : Bool) (s : State) : Out := onBasin s fun s =>
  let s := s.advance dt
  let ready := match s.host.vecLast.find? (fun x => x.1 == v.val) with
    | some x => decide (x.2 + 500 * s.get (F.HIF_VEC_HOLD.HOLD v) ≤ s.time.cyc)
    | none => true
  if (s.host.vecDue.contains v.val || s.host.msixPba.contains v.val) && ready then
    if s.host.msixMask.contains v.val || fmask then
      { s with host := { s.host with vecDue := s.host.vecDue.filter (· != v.val)
                                     msixPba := if s.host.msixPba.contains v.val then s.host.msixPba else s.host.msixPba ++ [v.val] } }
    else s.sendMsix v
  else s

/-- A vector unmasked in the MSI-X table: a message that waits is sent unless the function mask is set. -/
def State.unmask (s : State) (v : Nat) (fmask : Bool) : State :=
  let s := { s with host := { s.host with msixMask := s.host.msixMask.filter (· != v) } }
  if s.host.msixPba.contains v && !fmask then s.sendMsix v else s

/-- MSIX_UNMASK (R340). -/
def execMsixUnmask (v : Fin 64) (fmask : Bool) (s : State) : Out := onBasin s fun s => s.unmask v fmask

/-- EN written 1 (R321): a DISABLED pair with both sizes starts at 0. -/
def State.qpEnable (s : State) (q : Nat) : State :=
  if s.qpState q == qpDIS && decide (2 ≤ s.get (F.HIF_QP_SIZE.SQ_SIZE q)) && decide (2 ≤ s.get (F.HIF_QP_SIZE.CQ_SIZE q)) then
    let s := (s.set (F.HIF_QP_CFG.EN q) 1).set (F.HIF_QP_STAT.STATE q) qpON
    let s := (((s.set (F.HIF_QP_STAT.CQ_FULL q) 0).set (F.HIF_QP_STAT.CQ_TAIL q) 0).set (F.HIF_QP_STAT.NO_BUF q) 0).set (F.HIF_QP_STAT.SQ_HEAD q) 0
    s.setPair q { lastTick := if s.dispatches || s.tickNow = 0 then s.tickNow else tickPred s.tickNow }
  else s

/-- EN written 0 (R321, R334, R335): the runs of lost ticks that are open end with their GAPs, posted buffers complete, and the pair is DISABLED once every completion
is written, from ERROR too: a completion is never dropped (R325). -/
def State.qpDisable (s : State) (q : Nat) : State :=
  if s.qpState q == qpON || s.qpState q == qpERR then
    let s := ((s.pair q).gaps.map (fun g => g.spring)).foldl (fun s sp => s.closeGap q sp) s
    let s := (s.set (F.HIF_QP_CFG.EN q) 0).set (F.HIF_QP_STAT.STATE q) qpENDING
    let s := (List.range ((s.pair q).bufs.length)).foldl (fun s _ => s.closeBuf q) s
    s.qpSettled q
  else s

/-- A pair enabled; pair 0 ends step 7 and begins step 8 (R321, R534, R535). -/
def State.qpStart (s : State) (q : Nat) : State :=
  let s := s.qpEnable q
  if q = 0 && s.qpState 0 == qpON then (s.startStep 7).beginStep8 else s

/-- QP_ENABLE (R321, R534, R535). -/
def execQpEnable (q : Fin 16) (s : State) : Out := onBasin s fun s => s.qpStart q

/-- QP_DISABLE (R321). -/
def execQpDisable (q : Fin 16) (s : State) : Out := onBasin s fun s => s.qpDisable q

/-- QP_DISABLED (R321): a DISABLING pair with nothing in flight is DISABLED. -/
def execQpDisabled (q : Fin 16) (s : State) : Out := onBasin s fun s => s.qpSettled q

/-! ### The PCIe link (R317, R343, R361) -/

/-- The host is gone: every pair DISABLED, the HIF registers and BAR2 at their reset values but for two counters, completions discarded and counted,
the GAPs not written yet among them, waiting demand entries freed, an open load abandoned. Descriptors, and an expiry of the watchdog, keep their effects. Answers the
number discarded. -/
def State.hostGone (s : State) : State × Nat :=
  let n := s.host.pairs.foldl (fun n (p : PairSt) => n + p.gaps.length + b2n p.noBuf.isSome) s.inflight
  let waiting := (s.slu.entries.filter (fun e => e.left.isNone)).map (·.id)
  let keep := s.host.infl.filter (fun x => !x.phase.isDone && !waiting.contains x.id && x.d.opcode != ocSTREAM && x.d.opcode != ocLOAD)
  let h : HostSt := { nextId := s.host.nextId, infl := keep.map (fun x => { x with q := 16 + x.sq }), recon := s.host.recon,
                      reconDone := s.host.reconDone, unread := s.host.unread, takeTick := s.host.takeTick, wdDeen := s.host.wdDeen }
  let recon := s.get F.HIF_ORD_STAT.RECON_BUSY
  let s := { s with regs := s.regs.filter (fun x => !(decide (0x4000 ≤ x.1) && decide (x.1 < 0x8000)) || x.1 == 0x400C || x.1 == 0x4010)
                    host := h, slu := { s.slu with entries := s.slu.entries.filter (fun e => e.left.isSome) } }
  let s := (s.set F.HIF_ORD_STAT.RECON_BUSY recon).abandonLoad.relockIfDue
  (s.addSat F.HIF_DROP_CNT.COUNT n, n)

/-- PCIE_LINK_DOWN (R317). -/
def execPcieLinkDown (s : State) : Out := onBasin s fun s =>
  let (s, n) := s.hostGone
  s.raise Ev.PCIE_LINK_DOWN [n]

/-- PCIE_FLR (R316, R317): the link itself stays up; the function's configuration space is reset. -/
def execPcieFlr (s : State) : Out := onBasin s fun s =>
  let w := s.rd F.HIF_STATUS.LINK_UP.off
  let (s, n) := s.hostGone
  (({ s with pcie := [] }).wr F.HIF_STATUS.LINK_UP.off w).raise Ev.PCIE_FLR [n]

/-- The words of the configuration space that R316 fixes, at the places the PCI Express Base Specification gives them: identifiers, class and revision, and the
kinds of the base address registers. -/
def pcieFixed : List (Nat × Word) :=
  [(0x00, BitVec.ofNat 32 (0x92160000 + Config.vendorId % 65536)), (0x08, 0x11800000#32), (0x20, 0#32), (0x24, 0#32),
   (0x2C, BitVec.ofNat 32 (0x92160000 + Config.vendorId % 65536)), (0x30, 0#32)]

/-- A word of the configuration space (R33, R316): what R316 fixes, else what the host has written; the low bits of BAR0 and BAR2 say 64-bit memory, not
prefetchable, 256 KB and 4 KB. -/
def State.pcieWord (s : State) (o : Nat) : Word :=
  match pcieFixed.lookup o with
  | some v => v
  | none =>
    let v := (s.pcie.lookup o).getD 0
    if o = 0x10 then (v &&& 0xFFFC0000#32) ||| 4#32 else if o = 0x18 then (v &&& 0xFFFFF000#32) ||| 4#32 else v

/-- PCIE_LINK_UP (R33, R316, R317): the link trains at a speed and width; `cfg` are the words the host writes to the configuration space. A warm reset keeps them. -/
def execPcieLinkUp (speed : Fin 4) (width : Fin 5) (cfg : List (Nat × Word)) (s : State) : Out := onBasin s fun s =>
  if speed.val = 0 || !([1, 2, 4] : List Nat).contains width.val then s
  else
  let s := { s with pcie := cfg ++ s.pcie.filter (fun (x : Nat × Word) => (cfg.lookup x.1).isNone) }
  let s := ((s.set F.HIF_STATUS.LINK_UP 1).set F.HIF_STATUS.SPEED speed).set F.HIF_STATUS.WIDTH width
  s.raise Ev.PCIE_LINK_UP [speed, width]

/-! ### Opcodes (R329) -/

/-- The oldest fetched descriptor of an SQ with an opcode is carried out. -/
def State.op (s : State) (q oc : Nat) (f : State → Infl → State) : State :=
  match s.host.infl.find? (fun x => x.sq == q && x.d.opcode == oc && x.phase == .fetched) with
  | none => s
  | some x => f s x

/-- The next possible tick for what reaches the apply queue now (R51). -/
def State.nextTick (s : State) : Nat := tickAdd s.tickNow 2

/-- The tick an apply tick names, or none where it is STALE_TICK (R51, R52). -/
def applyTick (n a : Nat) : Option Nat :=
  if a = 0 then some n
  else
    let f := (a + 2 ^ 32 - n) % 2 ^ 32 - (if a < n then 1 else 0)
    if f ≤ 2 ^ 24 then some a else none

/-- A descriptor into the apply queue for its tick, or STALE_TICK. -/
def State.queueOp (s : State) (x : Infl) : State :=
  match applyTick s.nextTick x.d.applyTick with
  | none => s.refuse x.id stSTALE 0
  | some a => s.modInfl x.id (fun y => { y with due := a, phase := .queued a })

/-- NOP (R329). -/
def execNop (dt : Nat) (q : Fin 16) (s : State) : Out := onBasin s fun s => (s.advance dt).op q 0x00 fun s x => s.refuse x.id stOK 0

/-- References SET_REF may name (R56). -/
def refIds : List Nat := [0, 1, 2, 3, 4, 5, 8, 9, 0xA]

/-- SET_REF (R50 to R56): into the apply queue; gather applies it. -/
def execSetRef (dt : Nat) (q : Fin 16) (s : State) : Out := onBasin s fun s => (s.advance dt).op q ocSETREF fun s x =>
  if refIds.contains (bytesAt x.d.param 0 1) then s.queueOp x else s.refuse x.id stTARGET 0

/-- SPRING_CMD (R50, R54, R148): into the apply queue; dispatch carries it. -/
def execSpringCmd (dt : Nat) (q : Fin 16) (s : State) : Out := onBasin s fun s => (s.advance dt).op q ocCMD fun s x =>
  if bytesAt x.d.param 0 1 = 0 then s.refuse x.id stOPCODE 0 else s.queueOp x

/-- REMOTE_READ (R246, R329, R348): its RD_REQ frames leave once its turn comes. -/
def execRemoteRead (dt : Nat) (q : Fin 16) (s : State) : Out := onBasin s fun s => (s.advance dt).op q ocREAD fun s x =>
  if s.mgmtMay x then (if decide (x.d.target < 192) && s.unreachable x.d.target then s.abortPath x.id 1 else s.goRemote x 0) else s

/-- REMOTE_WRITE covers SAFE_SUNLOCK of a Spring (R428). -/
def coversUnlock (d : Desc) : Bool :=
  decide (d.target < 192) && decide (remOffset d ≤ F.SAFE_SUNLOCK.UNLOCK.off) && decide (F.SAFE_SUNLOCK.UNLOCK.off < remOffset d + 4 * remCount d)

/-- REMOTE_WRITE (R246, R328, R329, R428): the words stand in the descriptor with INLINE, else they are read from the host buffer; `buf` is what that read gives:
the words, or the error code of R328. -/
def execRemoteWrite (dt : Nat) (q : Fin 16) (buf : HostBuf) (s : State) : Out := onBasin s fun s => (s.advance dt).op q ocWRITE fun s x =>
  if coversUnlock x.d then s.refuse x.id stTARGET 0
  else if !s.mgmtMay x then s
  else if decide (x.d.target < 192) && s.unreachable x.d.target then s.abortPath x.id 1
  else
    let words := if bitOf x.d.flags 2 then HostBuf.words (payloadWords (x.d.param.drop 8)) else buf
    match words with
    | .failed e => s.refuse x.id stDEVICE e
    | .words ws => if ws.length < remCount x.d then s else (s.modInfl x.id (fun y => { y with data := ws })).goRemote { x with data := ws } 0

/-- FENCE_CLEAR (R360, R375): it clears only bits set before its fetch, and none set in this CORE cycle. -/
def execFenceClear (dt : Nat) (q : Fin 16) (s : State) : Out := onBasin s fun s => (s.advance dt).op q ocFENCE fun s x =>
  let m := bytesAt x.d.param 0 2
  let m := if m = 0 then 2 ^ x.sq else m
  let hit := fun (f : Fence) => m.testBit f.q && decide (f.fetched ≤ x.id) && decide (f.cyc < s.time.cyc) && (x.d.target == 0xFFFFFFFF || f.spring == x.d.target)
  let n := (s.host.fences.filter hit).length
  let s := { s with host := { s.host with fences := s.host.fences.filter (fun f => !hit f) } }
  let s := s.raise Ev.FENCE_CLEARED [if x.d.target == 0xFFFFFFFF then 0xFF else x.d.target, m, n, x.sq]
  s.settle x.id (if n = 0 then stOKEMPTY else stOK) 0 n 0 0

/-- STREAM_BUF (R335, R338): the buffer is posted; a run without a buffer ends with its GAP. -/
def execStreamBuf (dt : Nat) (q : Fin 16) (s : State) : Out := onBasin s fun s => (s.advance dt).op q ocSTREAM fun s x =>
  let s := (s.setPhase x.id .posted).modPair q (fun p => { p with bufs := p.bufs ++ [⟨x.id, x.d.buffer, x.d.length, 0, 0, 0⟩] })
  s.putNoBufGap q

end Sys2Proof.Machine
end

