-- ==== Sys2Proof/Machine/SluiceOps.lean ====
section
/-! DEFINITION. SluiceOps.lean: how Sluice shares power: weights (R83), classes (R84, R85), reasons (R96, R97), per-cell shares (R88) and modulation
indices (R65, R89). Amounts are exact fractions in W; a field that holds one is rounded by `roundFree`. -/
namespace Sys2Proof.Machine

def rmin (a b : Rat) : Rat := if a ≤ b then a else b
def rmax (a b : Rat) : Rat := if a ≤ b then b else a
def rabs (a : Rat) : Rat := if a < 0 then -a else a
def rclamp (lo hi v : Rat) : Rat := rmax lo (rmin v hi)
def rsum (l : List Rat) : Rat := l.foldl (· + ·) 0
def rnat (n : Nat) : Rat := ((n : Int) : Rat)
def rint (n : Int) : Rat := (n : Rat)

/-- A fraction of at most 1 in 2^-15 units, truncated (R99). -/
def frac15 (f : Rat) : Nat := min 32768 ((f * 32768).floor).toNat

/-- A fraction rounded to an integer as `roundFree` says. -/
def rround (r : Rat) : Int := roundFree r.num r.den

/-! ### Working roles (R100) -/

def roNONE : Nat := 0
def roACTIVE : Nat := 1
def roSPARE : Nat := 2
def roWITHDRAWN : Nat := 3

def State.roleOf (s : State) (sp : Nat) : Nat := bitsOf (s.get (F.SLU_ROLE.ROLE (sp / 16))) (2 * (sp % 16)) 2

def State.setRole (s : State) (sp r : Nat) : State :=
  let f := F.SLU_ROLE.ROLE (sp / 16)
  s.wr f.off (putField (s.rd f.off) (2 * (sp % 16)) 2 r)

def State.slArm (s : State) (a : Nat) : ArmSt := s.slu.arms.getD a {}
def State.setSlArm (s : State) (a : Nat) (x : ArmSt) : State := { s with slu := { s.slu with arms := s.slu.arms.set a x } }
def State.modSlArm (s : State) (a : Nat) (f : ArmSt → ArmSt) : State := s.setSlArm a (f (s.slArm a))

/-- The last used telemetry of a Spring. -/
def State.telOf (s : State) (sp : Nat) : Option Telem := s.ctl.used.find? (fun t => t.spring == sp)

/-! ### Cells and weights (R78, R82, R83) -/

/-- A cell as allocation sees it: powers in W, V_DC in 0.05 V. -/
structure Cell where
  sp : Nat
  vdc : Nat
  rated : Rat
  pdis : Rat
  pchg : Rat
  wDis : Nat
  wChg : Nat
  soc : Nat
  deriving DecidableEq, Repr

/-- A weight curve of a Spring's set at an input, with 16 fraction bits. -/
def State.weight (s : State) (id sp : Nat) (x : Int) : Nat :=
  match curveRec (s.tbl8 secCURVE) id (cellSet (s.tbl8 secCELL) sp) with
  | some r => 2 * curveAt (curvePoints r) x
  | none => 0

/-- A product of unsigned values with 16 fraction bits, truncated. -/
def mul16 (a b : Nat) : Nat := a * b / 65536

/-- The limits of R78 do not count. -/
def State.noPack (s : State) (sp : Nat) (t : Telem) : Bool := cellAbsent (s.tbl8 secCELL) sp || decide (s.cg F.SLU_BMS_AGE_MAX.AGE < t.bmsAge)

def State.cellOf (s : State) (sp : Nat) : Cell :=
  let b := s.tbl8 secCELL
  let rated := cellRated b sp
  match s.telOf sp with
  | none => ⟨sp, 0, rnat (10 * rated), 0, 0, 0, 0, 0⟩
  | some t =>
    let dead := s.noPack sp t
    let dis := if dead then 0 else t.pLimDis
    let chg := if dead then 0 else t.pLimChg
    let h := fun l => if rated = 0 then 0 else min 65536 (l * 65536 / rated)
    let trim := 2 * cellTrim b sp
    let w := fun fsoc ft x hh => mul16 (mul16 (mul16 (mul16 (s.weight 0 sp t.soh) (s.weight fsoc sp t.soc)) (s.weight ft sp x)) hh) trim
    ⟨sp, t.vDc, rnat (10 * rated), rnat (10 * dis), rnat (10 * chg), w 1 3 t.tCellMax (h dis), w 2 4 t.tCellMin (h chg), t.soc⟩

/-- The cells that carry an arm's power: working ACTIVE, telemetry not LOST (R84). -/
def State.armCells (s : State) (a : Nat) : List Cell :=
  (((s.slArm a).pos.filterMap id).filter (fun sp => s.roleOf sp == roACTIVE && !s.ctl.lost.contains sp)).map s.cellOf

/-! ### Classes (R84, R85) -/

/-- An arm's resources at the start of allocation. -/
structure ArmIn where
  arm : Nat
  sect : Nat
  n : Nat
  prot : Rat
  bdis : Rat
  bchg : Rat
  lvPrev : Rat
  deriving DecidableEq, Repr

/-- What the classes ask: PROTECT by arm, GRID with the zero-sequence shift of each arm, LVBUS by section, CHARGE by arm, REBALANCE and spare top-up by section,
the import band. -/
structure Asked where
  dem0 : List Rat
  p : Rat
  q : Rat
  sGrid : Rat
  shift : List Rat
  lv : List Rat
  chg : List Rat
  reb : List Rat
  band : Rat
  deriving DecidableEq, Repr

/-- What they get, by arm and by section, with the fractions of each: `sGrid` the apparent GRID power served, `left` an arm's AC capacity after class 0, `left3`
after class 1. -/
structure Served where
  prot : List Rat
  left : List Rat
  fAc : Rat
  fP : Rat
  sGrid : Rat
  left3 : List Rat
  net : List Rat
  lvArm : List Rat
  lv : List Rat
  fLv : List Rat
  fChg : List Rat
  fReb : List Rat
  deriving DecidableEq, Repr

def ratio (have' want : Rat) : Rat := if want ≤ 0 then 1 else rmax 0 (rmin 1 (have' / want))

/-- The bound on f that one arm's pack budget sets (R85, class 1). -/
def packBound (x lo hi : Rat) : Rat := if x = 0 then 1 else if 0 < x then rmax 0 (rmin 1 (hi / x)) else rmax 0 (rmin 1 (lo / x))

/-- A square root of a whole number; an inexact one is rounded as `Config.roundUp` says. -/
def sqrtFree (n : Nat) : Nat :=
  let r := isqrtBits 40 n 0
  if r * r = n then r else if Config.roundUp n r then r + 1 else r

/-- Apparent power of whole amounts. -/
def apparent (p q : Int) : Rat := rnat (sqrtFree (p.natAbs * p.natAbs + q.natAbs * q.natAbs))

/-- An arm's part of the GRID power, positive into the cells: an equal part and its zero-sequence shift (R85). -/
def Asked.armGrid (d : Asked) (n : Nat) (x : ArmIn) : Rat := (if n = 0 then 0 else -d.p / rnat n) + d.shift.getD x.arm 0

/-- The DAB capacity of a section under the throttle factor (R84). -/
def dabCap (arms : List ArmIn) (th : Rat) (k : Nat) : Rat := th * rsum ((arms.filter (fun x => x.sect == k)).map (·.prot))

/-- What each arm's packs can still give toward its section's LVBUS power (R85); an arm below 0 takes no part in the split. -/
def lvTerms (arms : List ArmIn) (net : List Rat) (k : Nat) : List Rat :=
  List.zipWith (fun (x : ArmIn) u => if x.sect == k then u + x.bdis else 0) arms net
def lvRoom (arms : List ArmIn) (net : List Rat) (k : Nat) : List Rat := (lvTerms arms net k).map (rmax 0)

/-- Class service in order (R85), under the throttle factor `th`. -/
def serve (arms : List ArmIn) (th : Rat) (d : Asked) : Served :=
  let n := rnat arms.length
  let at' := fun (l : List Rat) i => l.getD i 0
  let prot := arms.map (fun x => rmin (at' d.dem0 x.arm) x.prot)
  let left := List.zipWith (fun (x : ArmIn) u => rmax 0 (th * x.prot - u)) arms prot
  let fAc := (left.map (fun l => ratio l (if n = 0 then 0 else d.sGrid / n))).foldl rmin 1
  let pg := d.armGrid arms.length
  let fP := (arms.map (fun x => packBound (pg x * fAc) (x.lvPrev - x.bdis) (x.lvPrev + x.bchg))).foldl rmin 1
  let sServed := if fP = 1 then fAc * d.sGrid else apparent (rround (d.p * fAc * fP)) (rround (d.q * fAc))
  let net1 := arms.map (fun x => pg x * fAc * fP)
  let sects := List.range 4
  let lv := sects.map (fun k =>
    let m := rmin (rabs (at' d.lv k)) (rmin (dabCap arms th k) (rmax 0 (rsum (lvTerms arms net1 k))))
    if at' d.lv k < 0 then -m else m)
  let lvArm := List.zipWith (fun (x : ArmIn) i =>
    let r := lvRoom arms net1 x.sect
    if x.sect < 4 && rsum r != 0 then at' lv x.sect * at' r i / rsum r else 0) arms (List.range arms.length)
  let net2 := List.zipWith (fun a b => a - b) net1 lvArm
  let left3 := left.map (fun l => rmax 0 (l - (if n = 0 then 0 else sServed / n)))
  let fc := List.zipWith (fun (x : ArmIn) (y : Rat × Rat) => ratio (rmin y.1 (rmax 0 (x.bchg - y.2))) (at' d.chg x.arm)) arms (left3.zip net2)
  let fBand := ratio d.band (rsum (List.zipWith (fun (x : ArmIn) f => f * at' d.chg x.arm) arms fc))
  { prot := prot, left := left, fAc := fAc, fP := fP, sGrid := sServed, left3 := left3, net := net1, lvArm := lvArm, lv := lv
    fLv := sects.map (fun k => ratio (rabs (at' lv k)) (rabs (at' d.lv k)))
    fChg := fc.map (fun f => f * fBand)
    fReb := sects.map (fun k => ratio (dabCap arms th k - rabs (at' lv k)) (at' d.reb k)) }

/-! ### Reasons (R96, R97) -/

def rzNONE : Nat := 0
def rzHIGHER : Nat := 1
def rzCELL : Nat := 2
def rzDAB : Nat := 3
def rzPACK : Nat := 4
def rzBAND : Nat := 5
def rzNOCELLS : Nat := 6
def rzREPLACED : Nat := 7
def rzSTATE : Nat := 8
def rzTHROTTLE : Nat := 0x10

/-- What the higher classes of a class ask, taken away. -/
def Asked.without (d : Asked) (cls : Nat) : Asked :=
  let d := if 1 ≤ cls then { d with dem0 := [] } else d
  let d := if 2 ≤ cls then { d with p := 0, q := 0, sGrid := 0, shift := [] } else d
  if 3 ≤ cls then { d with lv := [] } else d

/-- A cut's reason: HIGHER_CLASS, else THROTTLE, else the first limit that cut it. `get` reads the fraction asked about. -/
def cutReason (arms : List ArmIn) (th : Rat) (d : Asked) (cls : Nat) (first : Nat) (get : Served → Rat) : Nat :=
  if 1 ≤ cls && get (serve arms th (d.without cls)) = 1 then rzHIGHER
  else if get (serve arms 1 d) = 1 then rzTHROTTLE
  else first

/-- The class that took a HIGHER_CLASS resource: the lowest whose absence would have served the demand. -/
def tookBy (arms : List ArmIn) (th : Rat) (d : Asked) (cls : Nat) (get : Served → Rat) : Nat :=
  if get (serve arms th (d.without 1)) = 1 then 0
  else if 1 < cls && get (serve arms th (d.without 2)) = 1 then 1
  else cls - 1

/-- Index of the smallest of a list of fractions that is below 1. -/
def worst (l : List Rat) : Option Nat :=
  (List.range l.length).foldl (fun m i =>
    let v := l.getD i 1
    if v < 1 then (match m with
      | none => some i
      | some j => if v < l.getD j 1 then some i else m) else m) none

/-! ### Per-cell shares (R88) -/

/-- A cell being shared out: its pack target, whether it is free, its voltage share and DAB reference. -/
structure Share where
  c : Cell
  p : Rat
  free : Bool
  s : Rat
  d : Rat
  capped : Bool
  deriving DecidableEq, Repr

/-- One pass of the weight loop. -/
def sharePass (dis : Bool) (x : List Share × Rat) : List Share × Rat :=
  let (l, rem) := x
  let w := fun (y : Share) => if y.free then rnat (if dis then y.c.wDis else y.c.wChg) else 0
  let tot := rsum (l.map w)
  if rem = 0 || tot = 0 then x
  else
    let l := l.map (fun y => if y.free then { y with p := y.p + rem * w y / tot } else y)
    let ovr := fun (y : Share) => y.p - rclamp (-y.c.pdis) y.c.pchg y.p
    let rem := rsum (l.map (fun y => if y.free then ovr y else 0))
    (l.map (fun y => if y.free && ovr y != 0 then { y with p := y.p - ovr y, free := false } else y), rem)

/-- The remainder placed in the headroom, or in equal parts. -/
def shareRest (dis : Bool) (l : List Share) (rem : Rat) : List Share :=
  if rem = 0 then l
  else
    let l := if l.any (·.free) then l else l.map (fun y => { y with free := true })
    let room := fun (y : Share) => if y.free then rmax 0 ((if dis then y.c.pdis else y.c.pchg) - rabs y.p) else 0
    let tot := rsum (l.map room)
    let n := rnat (l.filter (·.free)).length
    l.map (fun y => if y.free then { y with p := y.p + (if 0 < tot then rem * room y / tot else rem / n) } else y)

/-- Voltage shares in proportion to V_DC, or equal where all are 0. -/
def voltShares (l : List Share) : List Share :=
  let tot := rsum (l.map (fun y => rnat y.c.vdc))
  l.map (fun y => { y with s := if 0 < tot then rnat y.c.vdc / tot else 1 / rnat l.length })

/-- DAB references, the cells over their rating capped and the others' shares scaled. -/
def dabShares (pac : Rat) (l : List Share) : List Share :=
  let l := l.map (fun y => { y with d := y.s * pac - y.p })
  let l := if pac = 0 then l
    else
      let l := l.map (fun y => if y.c.rated < rabs y.d then
        let d := if y.d < 0 then -y.c.rated else y.c.rated
        { y with d := d, s := (y.p + d) / pac, capped := true } else y)
      let left := 1 - rsum ((l.filter (·.capped)).map (·.s))
      let rest := l.filter (fun y => !y.capped)
      let sum := rsum (rest.map (·.s))
      l.map (fun y => if y.capped then y
        else
          let s := if sum != 0 then y.s * left / sum else left / rnat rest.length
          { y with s := s, d := s * pac - y.p })
  l.map (fun y => { y with d := rclamp (-y.c.rated) y.c.rated y.d })

/-- R88 for one arm: its cells, served AC and LV power, and rebalancing offsets. The Bool tells WEIGHT_ZERO. -/
def shareArm (cells : List Cell) (pac plv : Rat) (off : Cell → Rat) : List Share × Bool :=
  let pk := pac - plv
  let dis := decide (pk < 0)
  let l := cells.map (fun c => Share.mk c (off c) true 0 0 false)
  let zero := pk != 0 && !cells.isEmpty && (cells.all (fun c => (if dis then c.wDis else c.wChg) == 0))
  let (l, rem) := sharePass dis (sharePass dis (sharePass dis (l, pk)))
  (dabShares pac (voltShares (shareRest dis l rem)), zero)

/-- Rebalancing offsets: a power moved in equal parts from the cells above the mean SoC to those below it. DESIGN CHOICE (log entry 45): R88 says of the offsets only
that they sum to 0, R92 that power moves from higher to lower SoC. -/
def rebalOff (cells : List Cell) (w : Rat) (c : Cell) : Rat :=
  let n := cells.length
  let tot := (cells.map (·.soc)).foldl (· + ·) 0
  let up := (cells.filter (fun x => decide (tot < x.soc * n))).length
  let dn := (cells.filter (fun x => decide (x.soc * n < tot))).length
  if up = 0 || dn = 0 then 0
  else if tot < c.soc * n then -w / rnat up
  else if c.soc * n < tot then w / rnat dn
  else 0

/-! ### Modulation (R65, R89) -/

/-- A modulation index being shared: the index and whether it stands at M_MAX. -/
structure MIdx where
  sp : Nat
  vdc : Rat
  m : Rat
  fixed : Bool
  deriving DecidableEq, Repr

/-- One pass of R89: the voltage lost at M_MAX goes to the cells below it in proportion to their room, and those it takes beyond are held there in turn. A
cell whose V_DC is 0 takes no voltage. -/
def mPass (mmax : Rat) (x : List MIdx × Rat) : List MIdx × Rat :=
  let (l, lost) := x
  let room := fun (y : MIdx) => if y.fixed || y.vdc = 0 then 0 else rmax 0 (mmax - rabs y.m)
  let tot := rsum (l.map room)
  if lost = 0 || tot = 0 then x
  else
    let l := l.map (fun y => if y.fixed || y.vdc = 0 then y else { y with m := y.m + lost * room y / tot / y.vdc })
    let cap := fun (y : MIdx) => rclamp (-mmax) mmax y.m
    (l.map (fun y => if cap y = y.m then y else { y with m := cap y, fixed := true }), rsum (l.map (fun y => (y.m - cap y) * y.vdc)))

/-- `n` passes. -/
def mPasses (mmax : Rat) : Nat → List MIdx × Rat → List MIdx × Rat
  | 0, x => x
  | n + 1, x => mPasses mmax n (mPass mmax x)

/-- A cell of V_DC 0 that is asked for voltage counts as exceeding M_MAX with the voltage's sign (R89). -/
def noDcIndex (mmax v : Rat) : Rat := if v = 0 then 0 else if v < 0 then -mmax else mmax

/-- Indices of an arm's cells from their shares (R89); v_ref in 0.05 V, as V_DC. The voltage lost counts with its sign. -/
def armIndices (l : List Share) (vref mmax : Rat) : List MIdx :=
  let first := l.map (fun y =>
    let v := y.s * vref
    let vd := rnat y.c.vdc
    if vd = 0 then (MIdx.mk y.c.sp 0 (noDcIndex mmax v) (decide (v ≠ 0)), v)
    else
      let m := rclamp (-mmax) mmax (v / vd)
      (MIdx.mk y.c.sp vd m (decide (m ≠ v / vd)), v - m * vd))
  (mPasses mmax l.length (first.map (·.1), rsum (first.map (·.2)))).1

/-- An index in Q1.15. -/
def q15 (m : Rat) : Int := clampInt (-32768) 32767 (rround (m * 32768))

/-- What a slot carries of its cell's modulation: mode, level, index. -/
abbrev CellMode := Nat × Nat × Int × Int

/-- NLM (R65, R79, R89): the cells in rank order take LEVEL, the next PSC within M_MAX, the rest LEVEL 0. DESIGN CHOICE (log entry 44): the sign of the arm power is
that of its pack power, for which the weights rank; of equally ranked cells the one earlier in the arm's carrier order goes first. -/
def nlmModes (l : List Share) (vref mmax : Rat) (dis : Bool) : List CellMode :=
  let n := l.length
  let mean := if n = 0 then 0 else rsum (l.map (fun y => rnat y.c.vdc)) / rnat n
  let w := fun (y : Share) => if dis then y.c.wDis else y.c.wChg
  let ranked := l.foldl (fun acc y => (acc.takeWhile (fun z => decide (w y ≤ w z))) ++ y :: acc.dropWhile (fun z => decide (w y ≤ w z))) ([] : List Share)
  let need := if mean = 0 then 0 else min n ((rabs vref / mean).floor).toNat
  let sgn : Int := if vref < 0 then -1 else 1
  let rest := rint sgn * (rabs vref - rnat need * mean)
  (List.range n).filterMap (fun i => (ranked[i]?).map (fun y =>
    if i < need then (y.c.sp, mLEVEL, sgn, 0)
    else if i = need && mean != 0 then
      (y.c.sp, mPSC, 0, q15 (if y.c.vdc = 0 then noDcIndex mmax rest else rclamp (-mmax) mmax (rest / rnat y.c.vdc)))
    else (y.c.sp, mLEVEL, 0, 0)))

/-- PSC (R66, R89). -/
def pscModes (l : List Share) (vref mmax : Rat) : List CellMode := (armIndices l vref mmax).map (fun x => (x.sp, mPSC, 0, q15 x.m))

end Sys2Proof.Machine
end

