-- ==== Sys2Proof/Machine/Thermal.lean ====
section
/-! DEFINITION. Thermal.lean: die sensors, thresholds, throttling and thermal shutdown (07_thermal), with the meanings of SENSOR_CONVERSION and
THROTTLE_GRACE_EXPIRY. Temperatures count 0.1 degree. -/
namespace Sys2Proof.Machine

/-- A value put into a list in rising order. -/
def intInsert (x : Int) : List Int → List Int
  | [] => [x]
  | y :: t => if x ≤ y then x :: y :: t else y :: intInsert x t

/-- The median, the mean of the two middle values rounded down for an even count (R217). -/
def median (l : List Int) : Int :=
  let s := l.foldl (fun a x => intInsert x a) []
  let n := s.length
  if n % 2 = 1 then s.getD (n / 2) 0 else (s.getD (n / 2 - 1) 0 + s.getD (n / 2) 0).fdiv 2

/-- Sensors in service. -/
def State.inService (s : State) : List Nat := maskBits 5 (s.get F.THM_SENS.IN_SERVICE)

def State.tsVal (s : State) (n : Nat) : Int := s.getI (F.THM_TS.VALUE n)

/-- TS4 can still replace a sensor: out of service and neither INVALID nor SUSPECT. -/
def State.ts4Spare (s : State) : Bool := !(s.get F.THM_SENS.IN_SERVICE).testBit 4 && !(s.get F.THM_SENS.INVALID).testBit 4 && !(s.get F.THM_SENS.SUSPECT).testBit 4

/-- TS4 takes a sensor's place. -/
def State.ts4For (s : State) (n : Nat) : State := (s.setBit F.THM_SENS.IN_SERVICE 4 true).set F.THM_SENS.REPLACED n

/-- A sensor leaves service; TS4 then stands in for none. DEDUCED (log entry 56): REPLACED names the sensor that TS4 replaces, so none once TS4 has left service. -/
def State.sensorOut (s : State) (n : Nat) : State :=
  let s := s.setBit F.THM_SENS.IN_SERVICE n false
  if n = 4 then s.set F.THM_SENS.REPLACED 7 else s

/-- Sensors whose conversions lie outside their range (R216): all are marked INVALID and leave service, then TS4, where it is valid, replaces the lowest that was in service. -/
def State.sensorsInvalid (s : State) (v : Nat → Int) : State :=
  let bad := (List.range 5).filter (fun n => (decide (v n < -550) || decide (1500 < v n)) && !(s.get F.THM_SENS.INVALID).testBit n)
  let gone := bad.filter (fun n => decide (n < 4) && s.inService.contains n)
  let s := bad.foldl (fun (s : State) n => (s.setBit F.THM_SENS.INVALID n true).sensorOut n) s
  let s := match gone with
    | n :: _ => if s.ts4Spare then s.ts4For n else s
    | [] => s
  bad.foldl (fun (s : State) n => s.raise Ev.SENSOR_INVALID [n, sPay (v n)]) s

/-- The median of the other sensors that were in service as the update began, where a sensor differs from it by more than 8.0 degrees (R218). -/
def State.differs (s : State) (live : List Nat) (n : Nat) : Option Int :=
  let med := median ((live.filter (· != n)).map s.tsVal)
  if decide (3 ≤ live.length) && live.contains n && decide (80 < (s.tsVal n - med).natAbs) then some med else none

/-- A sensor marked SUSPECT, with the median it differed from (R218): TS4 takes its place where it is a spare near the median of the sensors left, and is marked as well where it
is one that lies far from it. -/
def State.sensorSuspect (s : State) (n : Nat) (med : Int) : State :=
  let rest := s.inService.map s.tsVal
  let near := !rest.isEmpty && decide ((s.tsVal 4 - median rest).natAbs ≤ 80)
  let spare := s.ts4Spare && decide (n < 4) && !rest.isEmpty
  let s' := if spare && near then s.ts4For n else if spare then s.setBit F.THM_SENS.SUSPECT 4 true else s
  s'.raise Ev.SENSOR_SUSPECT [n, sPay (s.tsVal n), sPay med, evNum Ev.SENSOR_SUSPECT (b2n (spare && near))]

/-- The cross-check of an update (R218): every sensor in service is compared with those that were in service as it began; those that have differed on every update for 1 s all leave
service, and TS4 replaces the lowest. -/
def State.crossCheck (s : State) : State :=
  let live := s.inService
  let since := (List.range 5).map (fun n => (s.differs live n).map (fun med => ((s.thm.disagree.getD n none).getD s.time.cyc, med)))
  let due := (List.range 5).filterMap (fun n => match since.getD n none with
    | some (t, med) => if t + 500000000 ≤ s.time.cyc then some (n, med) else none
    | none => none)
  let s := { s with thm := { s.thm with disagree := since.map (Option.map (·.1)) } }
  let s := due.foldl (fun (s : State) x => (s.setBit F.THM_SENS.SUSPECT x.1 true).sensorOut x.1) s
  due.foldl (fun (s : State) x => s.sensorSuspect x.1 x.2) s

/-- T_DIE after an update (R217). -/
def State.dieTemp (s : State) : State :=
  let l := s.inService.map s.tsVal
  if l.length < 2 then
    let was := s.flag F.THM_STATUS.DIE_INVALID
    let s := (s.set F.THM_STATUS.T_DIE 0x8000).set F.THM_STATUS.DIE_INVALID 1
    if was then s else s.raise Ev.DIE_TEMP_INVALID [s.get F.THM_SENS.IN_SERVICE]
  else (s.setI F.THM_STATUS.T_DIE (median l)).set F.THM_STATUS.DIE_INVALID 0

/-- T_DIE as the thresholds take it: an invalid one is at HOT_SHUT (R217). -/
def State.tDie (s : State) : Int := if s.flag F.THM_STATUS.DIE_INVALID then 1300 else s.getI F.THM_STATUS.T_DIE

/-- The thresholds of R219: value, whether cold, its THM_STATUS bit. -/
def thresholds : List (Int × Bool × Fld) :=
  [(1150, false, F.THM_STATUS.HOT_WARN), (1200, false, F.THM_STATUS.THROTTLE), (1300, false, F.THM_STATUS.SHUT),
   (-350, true, F.THM_STATUS.COLD_WARN), (-400, true, F.THM_STATUS.COLD_LIMIT)]

/-- A threshold followed over an update: beyond it on two updates it is crossed, back inside by HYST on two it is left (R219). It answers 0 no change, 1 crossed, 2 left. -/
def State.followThr (s : State) (i : Nat) : State × Nat :=
  match thresholds[i]? with
  | none => (s, 0)
  | some (v, cold, f) =>
    let t := s.tDie
    let h : Int := 10 * s.get F.THM_CTRL.HYST
    let bey := if cold then decide (t < v) else if i = 0 then decide (v < t) else decide (v ≤ t)
    let ins := if cold then decide (v + h ≤ t) else decide (t ≤ v - h)
    let nb := if bey then s.thm.beyond.getD i 0 + 1 else 0
    let ni := if ins then s.thm.inside.getD i 0 + 1 else 0
    let s := { s with thm := { s.thm with beyond := s.thm.beyond.set i (min nb 2), inside := s.thm.inside.set i (min ni 2) } }
    if 2 ≤ nb && !s.flag f then (s.set f 1, 1)
    else if 2 ≤ ni && s.flag f && i != 2 then (s.set f 0, 2)
    else (s, 0)

/-- The shutdown journal record (R229), ahead of every staged record. -/
def State.thermalJournal (s : State) : State :=
  let ts := (List.range 5).map (fun n => if (s.get F.THM_SENS.INVALID).testBit n then 0x8000 else s.get (F.THM_TS.VALUE n))
  let thr := if s.flag F.SLU_TH_CAP.ENFORCED then (s.time.cyc - s.thm.enforceAt.getD s.time.cyc) / 500000 else 0
  let r := s.newRec Ev.THERMAL_SHUTDOWN 0 (ts ++ [s.get F.THM_SENS.IN_SERVICE, s.get F.THM_SENS.SUSPECT ||| s.get F.THM_SENS.INVALID, s.get F.THM_STATUS.T_DIE, 0,
    thr, s.get F.SLU_TH_CAP.CAP, s.stationSeen, 0, s.tickNow, s.get F.THM_HOT_SPR.COUNT, s.get F.THM_HOT_SPR.T_MAX])
  { s with recd := { s.recd with staging := { r with lseq := s.recd.lseq } :: s.recd.staging, lseq := (s.recd.lseq + 1) % 2 ^ 16 } }

/-- A Basin's die crosses HOT_SHUT (R228, R231). -/
def State.hotShut (s : State) : State :=
  let s := s.thermalJournal
  let s := { s with thm := { s.thm with needResume := true } }
  if s.dispatches then
    let s := s.hwCause ssTHERMAL
    if s.flag F.THM_CTRL.SHUT_SAFE then s.latchDemand dmTHERMAL else s
  else s

/-! ### Throttling (R225 to R227) -/

/-- R219 counts a Spring: it is neither LOST nor WITHDRAWN. -/
def State.sprCounts (s : State) (sp : Nat) : Bool := s.roleOf sp != roWITHDRAWN && !s.ctl.lost.contains sp

/-- A Spring's T_DIE as the thresholds take it: an invalid one, which reads 0x8000, is at HOT_SHUT (R217). -/
def SprThm.temp (x : SprThm) : Int := if x.t = -32768 then 1300 else x.t

/-- The throttle cause and its source: the Basin 0xC0, or the first Spring. -/
def State.thrSource (s : State) : Option (Nat × Int) :=
  if s.flag F.THM_STATUS.THROTTLE then some (0xC0, s.getI F.THM_STATUS.T_DIE)
  else (s.thm.sprs.find? (fun x => x.thr && s.sprCounts x.spring)).map (fun x => (x.spring, x.t))

/-- The cause appears or clears. -/
def State.thrEval (s : State) : State :=
  if s.role != .basin then s
  else
    let was := s.flag F.THM_STATUS.THR_CAUSE
    match s.thrSource with
    | some (src, t) =>
      if was then s
      else
        let s := s.set F.THM_STATUS.THR_CAUSE 1
        let soon := match s.thm.releasedAt with
          | some r => decide (s.time.cyc < r + 5000000000)
          | none => false
        let g := if soon then 0 else 100 * s.get F.THM_THR_CFG.GRACE
        let s := if s.flag F.SLU_TH_CAP.ENFORCED then s
          else { s with thm := { s.thm with graceDone := soon, graceAt := if soon then none else some s.time.cyc } }
        s.raise Ev.THROTTLE_REQ [src, sPay t, s.get F.THM_THR_CFG.CAP, g]
    | none =>
      if was then
        let s := s.set F.THM_STATUS.THR_CAUSE 0
        if s.flag F.SLU_TH_CAP.ENFORCED then s
        else { s with thm := { s.thm with graceDone := false, graceAt := none } }.raise Ev.THROTTLE_END [0]
      else s

/-- At the start of gather the cap is enforced, or released (R226). -/
def State.thrGather (s : State) : State :=
  let cause := s.flag F.THM_STATUS.THR_CAUSE
  if s.thm.graceDone && cause && !s.flag F.SLU_TH_CAP.ENFORCED then
    let cap := s.get F.THM_THR_CFG.CAP
    let s := (((s.set F.SLU_TH_CAP.CAP cap).set F.SLU_TH_CAP.ENFORCED 1).inc F.THM_THR_CNT.COUNT)
    { s with thm := { s.thm with graceDone := false, enforceAt := some s.time.cyc } }.raise Ev.THROTTLE_ENFORCED [cap]
  else if s.flag F.SLU_TH_CAP.ENFORCED && !cause then
    let ms := (s.time.cyc - s.thm.enforceAt.getD s.time.cyc) / 500000
    let s := (s.set F.SLU_TH_CAP.CAP 0x8000).set F.SLU_TH_CAP.ENFORCED 0
    { s with thm := { s.thm with enforceAt := none, releasedAt := some s.time.cyc } }.raise Ev.THROTTLE_END [ms]
  else s

/-- The Basin counts one used telemetry frame of a Spring against the thresholds (R219, R221); one that R219 leaves out is followed only for its cooling, on which its RETURN
depends. It answers whether the Spring crosses HOT_SHUT now. -/
def State.sprDie (s : State) (t : Telem) : State × Bool :=
  let x := (s.thm.sprs.find? (fun x => x.spring == t.spring)).getD { spring := t.spring }
  let x := { x with t := t.tDie }
  let v := x.temp
  let cool := if v < 1150 then min 2 (x.cool + 1) else 0
  let y : SprThm :=
    if s.sprCounts t.spring then
      let h : Int := 10 * s.get F.THM_CTRL.HYST
      let up := if 1200 ≤ v then x.thrUp + 1 else 0
      let dn := if v ≤ 1200 - h then x.thrDn + 1 else 0
      let su := if 1300 ≤ v then x.shutUp + 1 else 0
      { x with thrUp := min 2 up, thrDn := min 2 dn, thr := if 2 ≤ up then true else if 2 ≤ dn then false else x.thr
               shutUp := min 2 su, shut := if 2 ≤ su then true else if 2 ≤ cool then false else x.shut, cool := cool }
    else { x with thrUp := 0, thrDn := 0, thr := false, shutUp := 0, shut := x.shut && decide (cool < 2), cool := cool }
  ({ s with thm := { s.thm with sprs := s.thm.sprs.filter (fun z => z.spring != t.spring) ++ [y] } }, y.shut && !x.shut)

/-- THM_HOT_SPR over the Springs counted. -/
def State.hotSpr (s : State) : State :=
  let l := s.thm.sprs.filter (fun x => s.sprCounts x.spring)
  let best := l.foldl (fun (m : Option SprThm) x => match m with
    | none => some x
    | some y => if y.temp < x.temp then some x else m) none
  let s := s.set F.THM_HOT_SPR.COUNT ((l.filter (·.thr)).length)
  match best with
  | none => (s.set F.THM_HOT_SPR.INDEX 0xFF).set F.THM_HOT_SPR.T_MAX 0x8000
  | some x => (s.set F.THM_HOT_SPR.INDEX x.spring).setI F.THM_HOT_SPR.T_MAX x.t

/-- What a crossing or leaving of a threshold does. -/
def State.thrChange (s : State) (i what : Nat) : State :=
  if what = 0 then s
  else
    let p := fun (ev : Nat) => [s.get F.THM_STATUS.T_DIE, evNum ev (if what = 1 then 0 else 1)]
    match i with
    | 0 => s.raise Ev.DIE_HOT_WARN (p Ev.DIE_HOT_WARN)
    | 2 => if s.role == .basin then s.hotShut else s
    | 3 => s.raise Ev.DIE_COLD_WARN (p Ev.DIE_COLD_WARN)
    | 4 => s.raise Ev.DIE_COLD_LIMIT (p Ev.DIE_COLD_LIMIT)
    | _ => s

/-- An update of the five sensors (R216 to R219, R228, R230). -/
def State.sensors (s : State) (v : Nat → Int) : State :=
  let s := (List.range 5).foldl (fun s n => s.setI (F.THM_TS.VALUE n) (satSigned 16 (v n))) s
  let s := ((s.sensorsInvalid v).crossCheck).dieTemp
  let cool := if s.tDie < 1150 then min 2 (s.thm.below115 + 1) else 0
  let s := { s with thm := { s.thm with below115 := cool } }
  let s := if cool = 2 && s.role == .spring then s.set F.THM_STATUS.SHUT 0 else s
  let s := (List.range 5).foldl (fun s i =>
    let (s, w) := s.followThr i
    s.thrChange i w) s
  s.thrEval

/-- THROTTLE_GRACE_EXPIRY (R226): the grace timer runs out with the cause present; the next gather enforces the cap. -/
def execThrottleGraceExpiry (dt : Nat) (s : State) : Out := onBasin s fun s =>
  let s := s.advance dt
  match s.thm.graceAt with
  | some t =>
    if s.flag F.THM_STATUS.THR_CAUSE && decide (t + 50000000 * s.get F.THM_THR_CFG.GRACE ≤ s.time.cyc) then
      { s with thm := { s.thm with graceAt := none, graceDone := true } }
    else s
  | none => s

/-- The condition of R230 for leaving a thermal shutdown. -/
def State.coolEnough (s : State) : Bool := !s.flag F.THM_STATUS.DIE_INVALID && s.thm.below115 == 2

end Sys2Proof.Machine
end

