-- ==== Sys2Proof/Machine/Sluice.lean ====
section
/-! DEFINITION. Sluice.lean: working roles and insertion programmes (R100 to R109, R591), demand entries (R92 to R98), and the allocation stage of a tick. -/
namespace Sys2Proof.Machine

/-! ### Roles and spares -/

/-- The ARM table's roles come into force (R100): a Spring WITHDRAWN before stays so; carrier positions follow the ACTIVE cells; running programmes keep
the spares that are still SPARE of their arm. -/
def State.rolesFromTable (s : State) : State :=
  let b := s.tbl8 secARM
  let roleIn := fun sp => match armOf b sp with
    | none => roNONE
    | some a => if (armMembersOf b a).any (fun m => m.spring == sp && m.spare) then roSPARE else roACTIVE
  let s := (List.range 192).foldl (fun s sp => if s.roleOf sp == roWITHDRAWN then s else s.setRole sp (roleIn sp)) s
  (List.range 12).foldl (fun s a =>
    let pos := (((armMembersOf b a).filter (fun m => !m.spare && s.roleOf m.spring == roACTIVE)).map (fun m => some m.spring))
    s.modSlArm a (fun x =>
      { x with pos := pos, at' := none, due := x.due || x.pos != pos
               items := (x.items.filter (fun i => match i.spare with
                 | some sp => roleIn sp == roSPARE && armOf b sp == some a && s.roleOf sp == roSPARE
                 | none => false)).map (fun i => { i with pos := none }) })) s

/-- Telemetry current, unblocked, no latched fault, pack data fresh: R102 but for the bypass. -/
def State.spareFit (s : State) (sp : Nat) : Bool :=
  !s.ctl.stale.contains sp && !s.ctl.lost.contains sp &&
    (match s.telOf sp with
     | none => false
     | some t => !t.blocked && !t.hbFault.testBit 7 && decide (t.bmsAge ≤ s.cg F.SLU_BMS_AGE_MAX.AGE))

/-- Ready under R102. -/
def State.spareReady (s : State) (sp : Nat) : Bool := s.spareFit sp && ((s.telOf sp).map (·.bypClosed)).getD false

/-- Spares of an arm that are ready and not chosen by its programme. -/
def State.readySpares (s : State) (a : Nat) : List Nat :=
  (s.armSprings a).filter (fun sp => s.roleOf sp == roSPARE && s.spareReady sp && !(s.slArm a).items.any (fun i => i.spare == some sp))

/-- The rank of R103. -/
def State.spareRank (s : State) (sp : Nat) : Nat := match s.telOf sp with
  | none => 0
  | some t => mul16 (s.weight 0 sp t.soh) (s.weight 5 sp t.soc)

/-- The ready spare of the highest rank, the lower index on a tie. -/
def State.bestSpare (s : State) (a : Nat) : Option Nat :=
  (s.readySpares a).foldl (fun (m : Option Nat) sp => match m with
    | none => some sp
    | some x => if s.spareRank x < s.spareRank sp || (s.spareRank x == s.spareRank sp && decide (sp < x)) then some sp else m) none

/-- Working ACTIVE cells of an arm. -/
def State.activeCount (s : State) (a : Nat) : Nat := ((s.slArm a).pos.filter Option.isSome).length

/-! ### Insertion programmes (R103 to R107, R591) -/

/-- A programme's insertion gets a spare, or none remains and the vacancy is dropped at the next restart (R103, R106). -/
def State.insertWith (s : State) (a : Nat) (pos : Option Nat) (gone since : Nat) : State :=
  if !(s.cg F.SLU_CTRL.INSERT_EN == 1) then s
  else
    match s.bestSpare a with
    | some sp =>
      (s.modSlArm a (fun x => { x with items := x.items ++ [⟨pos, gone, since, some sp, none, false⟩], at' := none })).raise Ev.SPARE_INSERT_START [a, gone, sp]
    | none => (s.modSlArm a (fun x => { x with at' := none })).raise Ev.SPARES_EXHAUSTED [a, s.activeCount a]

/-- A cell withdrawn (R101): causes 1 BLOCKED, 2 HB_FAULT, 3 LOST, 4 BMS_FAULT, 5 P_RATED 0, 6 SLU_CELL_CMD, 7 HOT_SHUT (R221), 8 DEGRADED (R399), 9 late swap
(R516), 10 RESET_STUCK (R531), 11 a restart while the station works (R38, R153). The position it leaves is filled when the stage's withdrawals are done. -/
def State.withdraw (s : State) (sp cause : Nat) : State :=
  if s.roleOf sp == roACTIVE then
    let s := (s.setRole sp roWITHDRAWN).raise Ev.CELL_WITHDRAWN [sp, evNum Ev.CELL_WITHDRAWN cause]
    match armOf (s.tbl8 secARM) sp with
    | none => s
    | some a =>
      match (s.slArm a).pos.findIdx? (fun y => y == some sp) with
      | none => s
      | some i =>
        let s := s.modSlArm a (fun x => { x with pos := x.pos.set i none, since := some (x.since.getD s.time.ext) })
        { s with slu := { s.slu with vacant := s.slu.vacant ++ [(a, i, sp)] } }
  else if s.roleOf sp == roSPARE then (s.setRole sp roWITHDRAWN).raise Ev.CELL_WITHDRAWN [sp, evNum Ev.CELL_WITHDRAWN cause]
  else s

/-- The programmes of this stage's withdrawals start (R103), after every withdrawal: a spare withdrawn in the same stage is never chosen (R101). -/
def State.fillVacant (s : State) : State :=
  let l := s.slu.vacant
  l.foldl (fun (s : State) (x : Nat × Nat × Nat) => s.insertWith x.1 (some x.2.1) x.2.2 s.time.ext) { s with slu := { s.slu with vacant := [] } }

/-- RETURN (R108): a ready WITHDRAWN cell becomes SPARE, one that has restarted only once it is pushed to again (R38); with a programme running in its arm it waits
(R107). `v` is the value written. -/
def State.returnCell (s : State) (sp v : Nat) : State :=
  let busy := match armOf (s.tbl8 secARM) sp with
    | some a => !(s.slArm a).items.isEmpty
    | none => false
  if busy then { s with slu := { s.slu with reqs := s.slu.reqs ++ [(sp, 0, v)] } }
  else
    let cool := match s.thm.sprs.find? (fun x => x.spring == sp) with
      | some x => !x.shut
      | none => true
    let back := !s.slu.fresh.contains sp || s.tbl.loaded.contains sp
    if s.roleOf sp == roWITHDRAWN && s.spareReady sp && cool && back && !s.slu.expired.contains sp then (s.setRole sp roSPARE).raise Ev.CELL_RETURNED_SPARE [sp]
    else s.raise Ev.SLU_CMD_REJECTED [v]

/-- An insertion's spare fails (R106): cause 0 timeout, 1 not ready. -/
def State.insertFail (s : State) (a : Nat) (i : InsItem) (cause : Nat) : State :=
  let sp := i.spare.getD 0xFF
  let s := if s.roleOf sp == roSPARE then s.setRole sp roWITHDRAWN else s
  let s := (s.inc F.SLU_INS_CNT.FAIL).raise Ev.SPARE_INSERT_FAIL [a, sp, evNum Ev.SPARE_INSERT_FAIL cause]
  let s := s.modSlArm a (fun x => { x with items := x.items.filter (· != i), at' := none })
  s.insertWith a i.pos i.gone i.since

/-- The carrier period the image gives an arm (R63). -/
def State.armHbPer (s : State) (a : Nat) : Nat := (((s.armSprings a).head?).bind (imgHbPer s.tbl.img)).getD 0

/-- The restart boundary of R105, counted in ticks from the present one. -/
def State.restartIn (s : State) (a : Nat) : Nat :=
  let n := s.cg F.SLU_INS_CFG.RSP_SEARCH
  let per := s.armHbPer a
  match (s.slArm a).rst with
  | none => 1
  | some t0 =>
    if n = 0 || per = 0 then 1
    else
      let dist := fun j =>
        let ph := 4 * (s.ctl.bound + j * (10 * s.ctl.per) - t0) % per
        min ph (per - ph)
      let js := (List.range n).map (· + 1)
      match js.find? (fun j => decide (dist j ≤ s.cg F.SLU_RSP_WIN.WIN)) with
      | some j => j
      | none => js.foldl (fun m j => if dist j < dist m then j else m) 1

/-- A spare's place among an arm's positions: before the first cell that follows it in the ARM table (R591). -/
def placeByTable (order : List Nat) (pos : List (Option Nat)) (sp : Nat) : List (Option Nat) :=
  let rank := fun x => (order.findIdx? (· == x)).getD order.length
  let before := fun (y : Option Nat) => match y with
    | none => true
    | some x => decide (rank x < rank sp)
  pos.takeWhile before ++ some sp :: pos.dropWhile before

/-- INSERT_OVER_CYCLE: the time from the stage that withdrew to the restart boundary exceeds the grid period (R109). -/
def State.insertLate (s : State) (a us : Nat) : State :=
  let per := if s.ctl.grid.freq = 0 then 0 else 1000000000 / s.ctl.grid.freq
  if per < us && per != 0 then s.raise Ev.INSERT_OVER_CYCLE [a, us, per] else s

/-- The restart (R104): every inserted spare is ACTIVE in its position from the next boundary, vacancies are dropped, and the arm's slots restart. -/
def State.restartArm (s : State) (a tick : Nat) : State :=
  let x := s.slArm a
  let order := s.armSprings a
  let pos := x.items.foldl (fun (p : List (Option Nat)) i => match i.pos with
    | some k => p.set k i.spare
    | none => p) x.pos
  let pos := x.items.foldl (fun (p : List (Option Nat)) i => match i.pos, i.spare with
    | none, some sp => placeByTable order p sp
    | _, _ => p) pos
  let bnd := s.ctl.bound + 10 * s.ctl.per
  let us := fun (since : Nat) => (bnd - since) / 1000
  let s := x.items.foldl (fun s i =>
    (((s.setRole (i.spare.getD 0xFF) roACTIVE).inc F.SLU_INS_CNT.DONE).raise Ev.SPARE_INSERT_DONE [a, i.spare.getD 0xFF, tick, us i.since]).insertLate a
      (us i.since)) s
  let s := if x.items.isEmpty then (match x.since with
    | some t => s.insertLate a (us t)
    | none => s) else s
  s.modSlArm a (fun x => { x with pos := pos.filter Option.isSome, items := [], at' := none, since := none, due := true })

/-- One arm's programme in an allocation stage. -/
def State.programme (s : State) (a : Nat) : State :=
  let s := ((s.slArm a).items.filter (fun i => match i.spare with
    | some sp => !(s.roleOf sp == roSPARE && s.spareFit sp && (i.placed.isSome || s.spareReady sp))
    | none => true)).foldl (fun s i => s.insertFail a i 1) s
  let s := s.modSlArm a (fun x => { x with items := x.items.map (fun i =>
    if i.placed.isSome && !i.opened && !(((i.spare.bind s.telOf).map (·.bypClosed)).getD true) then { i with opened := true } else i) })
  let x := s.slArm a
  let want := if x.items.isEmpty then x.pos.any Option.isNone else x.items.all (·.opened)
  let s := if !want then s.modSlArm a (fun x => { x with at' := none })
    else if x.at'.isNone then s.modSlArm a (fun x => { x with at' := some (tickAdd s.tickNow (s.restartIn a)) }) else s
  if (s.slArm a).at' == some (tickSucc s.tickNow) then s.restartArm a (tickSucc s.tickNow) else s

/-- A spare that has become ready in an arm short of ACTIVE cells is inserted (R591). -/
def State.refill (s : State) (a : Nat) : State :=
  let ready := (s.armSprings a).filter (fun sp => s.roleOf sp == roSPARE && s.spareReady sp)
  let new := ready.any (fun sp => !s.slu.wasReady.contains sp)
  let full := ((armMembersOf (s.tbl8 secARM) a).filter (fun m => !m.spare)).length
  if new && (s.slArm a).items.isEmpty && s.activeCount a < full && s.cg F.SLU_CTRL.INSERT_EN == 1 && (s.bestSpare a).isSome then
    s.insertWith a none 0xFF s.time.ext
  else s

/-- Withdrawals a Spring's telemetry of the tick calls for (R101). -/
def State.withdrawCause (s : State) (sp : Nat) : Option Nat :=
  let now := if s.ctl.stale.contains sp then none else s.telOf sp
  if (now.map (·.blocked)).getD false then some 1
  else if (now.map (fun t => t.hbFault.testBit 7)).getD false then some 2
  else if s.ctl.lost.contains sp then some 3
  else if (now.map (fun t => t.bmsFault &&& s.cg F.SLU_BMS_WD_MASK.MASK != 0)).getD false then some 4
  else if cellRated (s.tbl8 secCELL) sp = 0 then some 5
  else none

/-- The role part of an allocation stage: requests, withdrawals, programmes, refills. -/
def State.sluRoles (s : State) : State :=
  let reqs := s.slu.reqs
  let s := { s with slu := { s.slu with reqs := [] } }
  let s := reqs.foldl (fun s (r : Nat × Nat × Nat) => if r.2.1 = 0 then s.returnCell r.1 r.2.2 else s.withdraw r.1 r.2.1) s
  let s := (List.range 192).foldl (fun s sp =>
    if s.roleOf sp == roACTIVE || s.roleOf sp == roSPARE then
      match s.withdrawCause sp with
      | some c => s.withdraw sp c
      | none => s
    else s) s
  let s := (List.range 12).foldl State.programme s.fillVacant
  let s := (List.range 12).foldl State.refill s
  { s with slu := { s.slu with wasReady := (List.range 192).filter (fun sp => s.roleOf sp == roSPARE && s.spareReady sp) } }

/-! ### What is asked (R92, R102) -/

/-- The arms in use, with their resources at the start of allocation (R84). -/
def State.armIns (s : State) : List ArmIn :=
  ((List.range 12).filter (fun a => armMethod (s.tbl8 secARM) a != 0)).map (fun a =>
    let c := s.armCells a
    { arm := a, sect := apSection (s.tbl8 secARMPAR) a, n := c.length, prot := rsum (c.map (·.rated))
      bdis := rsum (c.map (·.pdis)), bchg := rsum (c.map (·.pchg)), lvPrev := (s.slArm a).lvPrev })

/-- AMOUNT as asked. DESIGN CHOICE (log entry 46): a negative STORE amount, of which the manual says nothing, asks for nothing. -/
def Entry.ask (e : Entry) : Rat := if e.cls = 3 && e.amount < 0 then 0 else rint e.amount

/-- An arm's share of an entry's CHARGE. -/
def chgShare (arms : List ArmIn) (e : Entry) (a : Nat) : Rat :=
  if e.cls = 3 && e.kind = 0 then
    (if e.target = 0xFFFFFFFF then
      let tot := rsum (arms.map (·.bchg))
      let mine := ((arms.find? (fun x => x.arm == a)).map (·.bchg)).getD 0
      if 0 < tot then e.ask * mine / tot else 0
    else if e.target = a then e.ask else 0)
  else 0

/-- The section a REBALANCE entry's arm feeds. -/
def rebSect (arms : List ArmIn) (e : Entry) : Nat := ((arms.find? (fun x => x.arm == e.target)).map (·.sect)).getD 0xFF

/-- The packs of a REBALANCE entry's arm can give and take: with every limit at 0 (R78) the entry is refused. -/
def rebPacks (arms : List ArmIn) (e : Entry) : Bool := arms.any (fun x => x.arm == e.target && decide (0 < x.bdis) && decide (0 < x.bchg))

/-- Spares of an arm that charge from the LV bus (R102). -/
def State.topping (s : State) (a : Nat) : List Nat :=
  let par := s.tbl8 secARMPAR
  if s.cg F.SLU_CTRL.TOPUP_EN == 1 && apTopup par a != 0 && decide (apSection par a < 4) then
    (s.armSprings a).filter (fun sp => s.roleOf sp == roSPARE && !(s.slArm a).items.any (fun i => i.spare == some sp) && s.spareReady sp &&
      decide (((s.telOf sp).map (·.soc)).getD 65535 < apSpareSoc par a))
  else []

/-- The amount a controller's output stands for: class demand in W or var (R42, R61). -/
def State.gridDemand (s : State) (i : Nat) : Int :=
  let y := (s.ctl.ctrls.getD i {}).out
  if y = 0 then 0 else roundFree (y * Config.gridBase i) (2 ^ 24)

/-- The zero-sequence shifts of a list of arms in W, of sum 0 (R85). -/
def State.armShifts (s : State) (arms : List ArmIn) : List Rat :=
  let y := (s.ctl.ctrls.getD 9 {}).out
  if y = 0 || arms.isEmpty then []
  else
    let raw := fun a => rint (Config.armShift a y)
    let mean := rsum (arms.map (fun x => raw x.arm)) / rnat arms.length
    (List.range 12).map (fun a => raw a - mean)

/-- Demands of a tick with a set of entries: the loops' outputs, PROTECT, FEED, CHARGE, REBALANCE and spare top-up (R42, R92, R102). -/
def State.asked (s : State) (arms : List ArmIn) (es : List Entry) : Asked :=
  let p := s.gridDemand 2
  let q := s.gridDemand 3
  let par := s.tbl8 secARMPAR
  { dem0 := (List.range 12).map (fun a => rnat (s.ctl.grid.prot.getD a 0)), p := rint p, q := rint q, sGrid := apparent p q, shift := s.armShifts arms
    lv := (List.range 4).map (fun k => rint (s.gridDemand (if k = 3 then 14 else 10 + k)) +
      rsum ((es.filter (fun e => e.cls == 2 && e.target == k)).map Entry.ask))
    chg := (List.range 12).map (fun a => rsum (es.map (fun e => chgShare arms e a)))
    reb := (List.range 4).map (fun k =>
      rsum ((es.filter (fun e => e.cls == 3 && e.kind == 1 && rebSect arms e == k && rebPacks arms e)).map Entry.ask) +
      rsum ((arms.filter (fun x => x.sect == k)).map (fun x => rnat (10 * apTopup par x.arm * (s.topping x.arm).length))))
    band := rnat (s.cg F.SLU_STORE_BAND.BAND) }

/-- The fraction of an entry in what was served. -/
def entryFrac (arms : List ArmIn) (e : Entry) (v : Served) : Rat :=
  if e.ask = 0 then 1
  else if e.cls = 2 then v.fLv.getD e.target 1
  else if e.kind = 1 then (if rebPacks arms e && rebSect arms e < 4 then v.fReb.getD (rebSect arms e) 1 else 0)
  else rsum (List.zipWith (fun (x : ArmIn) f => chgShare arms e x.arm * f) arms v.fChg) / e.ask

/-- The first limit of R85's order that cuts CHARGE at the `i`-th arm: AC capacity left, the import band, the pack budget. -/
def chgLimit (arms : List ArmIn) (d : Asked) (v : Served) (i : Nat) : Nat :=
  let ask := fun (x : ArmIn) => d.chg.getD x.arm 0
  match arms[i]? with
  | none => rzNOCELLS
  | some x =>
    if x.n = 0 then rzNOCELLS
    else if v.left3.getD i 0 < ask x then rzCELL
    else if d.band < rsum (List.zipWith (fun y l => rmin (ask y) l) arms v.left3) then rzBAND
    else rzPACK

/-- The first limit that cuts a section's DAB power: LVBUS against DAB capacity and packs, the rest against DAB capacity left. -/
def sectLimit (arms : List ArmIn) (th : Rat) (d : Asked) (cls k : Nat) : Nat :=
  if (arms.filter (fun x => x.sect == k)).all (fun x => x.n == 0) then rzNOCELLS
  else if cls = 3 || dabCap arms th k < rabs (d.lv.getD k 0) then rzDAB
  else rzPACK

/-- The first limit that cuts an entry, with its arm or section: of a station-wide CHARGE, the arm cut most. -/
def entryLimit (arms : List ArmIn) (th : Rat) (d : Asked) (e : Entry) (v : Served) : Nat × Nat :=
  if e.cls = 2 then (sectLimit arms th d 2 e.target, e.target)
  else if e.kind = 1 then
    (match arms.find? (fun x => x.arm == e.target) with
     | none => (rzNOCELLS, e.target)
     | some x => if x.n = 0 then (rzNOCELLS, e.target) else if !rebPacks arms e then (rzPACK, e.target)
       else (rzDAB, if x.sect < 4 then x.sect else e.target))
  else if e.target = 0xFFFFFFFF then
    (match worst v.fChg with
     | some i => (chgLimit arms d v i, ((arms[i]?).map (·.arm)).getD 0xFF)
     | none => (if arms.all (fun x => x.n == 0) then rzNOCELLS else rzPACK, 0xFF))
  else (chgLimit arms d v ((arms.findIdx? (fun x => x.arm == e.target)).getD arms.length), e.target)

/-- The reason word of a cut entry (R96). -/
def entryReason (arms : List ArmIn) (th : Rat) (d : Asked) (e : Entry) (v : Served) : Nat :=
  let (lim, at') := entryLimit arms th d e v
  let get := entryFrac arms e
  let r := cutReason arms th d e.cls lim get
  r * 2 ^ 24 + (if r = rzHIGHER then tookBy arms th d e.cls get else 0xFF) * 2 ^ 16 + (if r = rzHIGHER || r = rzBAND then 0xFF else at') * 256

/-- The refusal status of a reason (R96). -/
def reasonStatus (r : Nat) : Nat := if r = rzHIGHER then stCLASS else if r = rzTHROTTLE then stTHERMAL else stLIMIT

/-- An entry refused: its completion, DEMAND_REFUSED, its slot free (R94). -/
def State.refuseEntry (s : State) (e : Entry) : State :=
  let st := reasonStatus (e.lastR / 2 ^ 24)
  let s := { s with slu := { s.slu with entries := s.slu.entries.filter (fun x => x.slot != e.slot) } }
  (s.settle e.id st e.lastR 0 e.lastF e.lastTick).raise Ev.DEMAND_REFUSED [e.q, e.tag, e.slot, st, e.lastR]

/-- A waiting entry has been evaluated through its HOLD ticks without service (R94). -/
def Entry.expired (e : Entry) : Bool := e.left.isNone && decide (e.hold < e.waited)

def State.putEntry (s : State) (e : Entry) : State :=
  { s with slu := { s.slu with entries := s.slu.entries.map (fun x => if x.slot == e.slot then e else x) } }

/-- A fraction that serves an entry (R94). -/
def Entry.enough (e : Entry) (f : Nat) : Bool := f != 0 && (f == 32768 || decide (e.minFrac ≤ f))

/-- One entry not yet served, evaluated at fraction `f` in 2^-15 units with its reason word (R94): TICK_APPLIED is the first tick that reflects service, or the tick
of the evaluation. -/
def State.evalEntry (s : State) (e : Entry) (f reason : Nat) : State :=
  let tick := tickSucc s.tickNow
  if e.enough f then
    let s := s.putEntry { e with left := some e.duration, lastF := f, lastTick := tick }
    let r := if f == 32768 then 0 else reason
    if e.waited = 0 then s.settle e.id (if f == 32768 then stOK else stPARTIAL) r 0 f tick
    else (s.settle e.id stDELAYED r 0 e.waited tick).raise Ev.DEMAND_DELAYED [e.q, e.tag, e.slot, e.waited]
  else
    let e := { e with lastF := f, lastTick := s.tickNow, lastR := reason }
    if e.hold = 0 then s.refuseEntry e else s.putEntry { e with waited := e.waited + 1 }

/-- What an evaluation finds for each entry not yet served: slot, fraction, reason word. An entry that stays unserved takes nothing, so the others are evaluated again
without it (R94). -/
def evalSet (arms : List ArmIn) (th : Rat) (ask : List Entry → Asked) : Nat → List Entry → List (Nat × Nat × Nat)
  | 0, _ => []
  | n + 1, live =>
    let d := ask live
    let v := serve arms th d
    let found := (live.filter (fun (e : Entry) => e.left.isNone)).map (fun e =>
      let f := frac15 (entryFrac arms e v)
      (e, f, if f == 32768 then 0 else entryReason arms th d e v))
    let bad := found.filter (fun x => !x.1.enough x.2.1)
    if bad.isEmpty then found.map (fun x => (x.1.slot, x.2))
    else bad.map (fun x => (x.1.slot, x.2)) ++ evalSet arms th ask n (live.filter (fun e => !bad.any (fun x => x.1.slot == e.slot)))

/-- A TABLE_SWAP of the next tick that will take effect: the tables that descriptors of that tick are evaluated against (R53). -/
def State.swapNext (s : State) : Option (List Nat) := match s.tbl.swap with
  | some w =>
    if tickSucc s.tickNow == w.tick && (w.pushed.filter (fun sp => !s.ctl.lost.contains sp)).all (fun sp =>
        w.failed != some sp && w.accepted.contains sp && w.committed.contains sp) then
        (s.inflAt w.id).map (fun (x : Infl) => (wordBytes x.data).take (imgLen (wordBytes x.data)))
      else none
  | none => none

/-- The state as the tables of the next tick's swap would have it. -/
def State.underSwap (s : State) : State := match s.swapNext with
  | some img => ({ s with tbl := { s.tbl with img := img } }).rolesFromTable
  | none => s

/-- Entries standing are counted down; those not served are evaluated together with the others of their class (R94, R95, R87), those sampled in this tick against the
tables in force at their apply tick (R53). -/
def State.evalEntries (s : State) (arms : List ArmIn) (th : Rat) (on : Bool) : State :=
  let s := (s.slu.entries.filter Entry.expired).foldl State.refuseEntry s
  let s := { s with slu := { s.slu with entries := (s.slu.entries.filter (fun (e : Entry) => e.left != some 0)).map (fun (e : Entry) => { e with left := e.left.map (· - 1) }) } }
  let live := s.slu.entries.filter (fun (e : Entry) => e.left != some 0)
  let u := s.underSwap
  let now := evalSet arms th (s.asked arms) 65 live
  let new := if s.swapNext.isSome then evalSet u.armIns th (u.asked u.armIns) 65 live else now
  (live.filter (fun (e : Entry) => e.left.isNone)).foldl (fun (s : State) (e : Entry) =>
    if on then
      match (if e.lastTick = 0 then new else now).find? (fun x => x.1 == e.slot) with
      | some x => s.evalEntry e x.2.1 x.2.2
      | none => s
    else s.evalEntry e 0 (rzSTATE * 2 ^ 24 + 0xFFFF00)) s

/-! ### The class records (R86, R97, R99) -/

/-- A class as the records show it. -/
structure ClsRec where
  demand : Nat
  served : Nat
  frac : Nat
  reason : Nat
  where' : Nat
  deriving DecidableEq, Repr

def clsRec (demand served : Rat) (reason where' : Nat) : ClsRec :=
  let d := (rround demand).toNat
  let f := if demand = 0 then 32768 else frac15 (served / demand)
  ⟨d, (rround served).toNat, f, if f = 32768 then 0 else reason, if f = 32768 then 0xFF else where'⟩

/-- Each arm's own bound on class 1 (R85): AC capacity, then the pack budget. -/
def acBounds (arms : List ArmIn) (d : Asked) (v : Served) : List Rat :=
  v.left.map (fun l => ratio l (if arms.isEmpty then 0 else d.sGrid / rnat arms.length))
def packBounds (arms : List ArmIn) (d : Asked) (v : Served) : List Rat :=
  arms.map (fun x => packBound (d.armGrid arms.length x * v.fAc) (x.lvPrev - x.bdis) (x.lvPrev + x.bchg))

/-- The four class records of what was served. -/
def classRecs (arms : List ArmIn) (th : Rat) (d : Asked) (v : Served) (on : Bool) : List ClsRec :=
  let lvD := rsum ((List.range 4).map (fun k => rabs (d.lv.getD k 0)))
  let d0 := rsum (arms.map (fun x => d.dem0.getD x.arm 0))
  let d3 := rsum (arms.map (fun x => d.chg.getD x.arm 0)) + rsum d.reb
  if !on then [clsRec d0 0 rzSTATE 0xFF, clsRec d.sGrid 0 rzSTATE 0xFF, clsRec lvD 0 rzSTATE 0xFF, clsRec d3 0 rzSTATE 0xFF]
  else
    let armAt := fun (i : Option Nat) => (i.bind (fun i => (arms[i]?).map (·.arm))).getD 0xFF
    let empty := fun (i : Option Nat) => (i.bind (fun i => (arms[i]?).map (fun x => x.n == 0))).getD false
    let w0 := worst (List.zipWith (fun (x : ArmIn) p => ratio p (d.dem0.getD x.arm 0)) arms v.prot)
    let w1 := if v.fAc < 1 then worst (acBounds arms d v) else worst (packBounds arms d v)
    let r1 := cutReason arms th d 1 (if empty w1 then rzNOCELLS else if v.fAc < 1 then rzCELL else rzPACK) (fun u => rmin u.fAc u.fP)
    let w2 := (worst v.fLv).getD 0xFF
    let r2 := cutReason arms th d 2 (sectLimit arms th d 2 w2) (fun u => u.fLv.getD w2 1)
    let w3 := worst v.fChg
    let wr := worst v.fReb
    let arm3 := match w3, wr with
      | some i, some k => decide (v.fChg.getD i 1 ≤ v.fReb.getD k 1)
      | some _, none => true
      | none, _ => false
    let chg := rsum (List.zipWith (fun (x : ArmIn) f => d.chg.getD x.arm 0 * f) arms v.fChg)
    let reb := rsum (List.zipWith (fun a f => a * f) d.reb v.fReb)
    let r3 := if arm3 then cutReason arms th d 3 (chgLimit arms d v (w3.getD 0)) (fun u => u.fChg.getD (w3.getD 0) 1)
      else cutReason arms th d 3 (sectLimit arms th d 3 (wr.getD 0)) (fun u => u.fReb.getD (wr.getD 0) 1)
    [clsRec d0 (rsum v.prot) (if empty w0 then rzNOCELLS else rzCELL) (armAt w0), clsRec d.sGrid v.sGrid r1 (armAt w1),
     clsRec lvD (rsum (v.lv.map rabs)) r2 w2, clsRec d3 (chg + reb) r3 (if arm3 then armAt w3 else wr.getD 0xFF)]

/-- The arms that cut a class in what was served (R99, R110). -/
def cutArms (arms : List ArmIn) (d : Asked) (v : Served) : List Nat :=
  let sect := fun (x : ArmIn) => decide (v.fLv.getD x.sect 1 < 1) || decide (v.fReb.getD x.sect 1 < 1)
  (List.range arms.length).filterMap (fun i => (arms[i]?).bind (fun x =>
    if v.prot.getD i 0 < d.dem0.getD x.arm 0 || (acBounds arms d v).getD i 1 < 1 || (packBounds arms d v).getD i 1 < 1 ||
        v.fChg.getD i 1 < 1 || (x.sect < 4 && sect x) then some x.arm else none))

/-- SLU_CLSn, CLASS_SHORT and CLASS_RESTORED follow a class (R99, R111). -/
def State.putCls (s : State) (n : Nat) (c : ClsRec) : State :=
  let s := ((s.set (F.SLU_CLS.FRACTION n) c.frac).set (F.SLU_CLS.REASON n) c.reason).set (F.SLU_CLS.WHERE n) c.where'
  match s.slu.cut.getD n none with
  | none =>
    if c.frac = 32768 then s
    else { s with slu := { s.slu with cut := s.slu.cut.set n (some s.tickNow) } }.raise Ev.CLASS_SHORT [n, c.where', c.frac, c.reason]
  | some t =>
    if c.frac = 32768 then { s with slu := { s.slu with cut := s.slu.cut.set n none } }.raise Ev.CLASS_RESTORED [n, tickDist t s.tickNow] else s

/-- The SLU_STATUS record of a tick (R99). -/
def statusBytes (tick flags short : Nat) (cs : List ClsRec) (p q : Int) : List Nat :=
  leBytes 4 tick ++ leBytes 2 flags ++ leBytes 2 short ++
    (cs.map (fun c => leBytes 4 c.demand ++ leBytes 4 c.served ++ leBytes 2 c.frac ++ [c.reason, c.where'])).flatten ++
    leBytes 4 (ofSigned 32 p) ++ leBytes 4 (ofSigned 32 q)

/-! ### Per-cell commands -/

/-- What allocation and modulation give a cell's slot: mode, level, index in Q1.15, carrier offset, DAB reference in 10 W and DAB_EN. -/
structure CellCmd where
  sp : Nat
  mode : Nat
  level : Int
  m : Int
  phase : Nat
  pDab : Int
  dabEn : Bool
  deriving DecidableEq, Repr

/-- The offset of carrier position `c` of `n` (R63). -/
def carrierOffset (per n c : Nat) : Nat := if n = 0 then 0 else (2 * c * per + 2 * n) / (4 * n)

/-- A DAB reference field: W to 10 W, within 16 bits. -/
def dabField (w : Rat) : Int := satSigned 16 (rround (w / 10))

/-- The commands of one arm's cells from their shares (R65, R88, R89). -/
def State.armCmds (s : State) (a : Nat) (l : List Share) (dis : Bool) : List CellCmd :=
  let par := s.tbl8 secARMPAR
  let vref := rint (Config.armVoltage a ((s.ctl.ctrls.drop 4).take 6 |>.map (fun c => c.out)) s.ctl.grid.angle) / 50
  let mmax := rnat (apMmax par a) / 32768
  let modes := if armMethod (s.tbl8 secARM) a = 2 then nlmModes l vref mmax dis else pscModes l vref mmax
  let pos := (s.slArm a).pos
  l.map (fun y =>
    let k := (modes.find? (fun x => x.1 == y.c.sp)).getD (y.c.sp, mOFF, 0, 0)
    let c := (pos.findIdx? (fun z => z == some y.c.sp)).getD 0
    { sp := y.c.sp, mode := k.2.1, level := k.2.2.1, m := k.2.2.2, phase := carrierOffset (s.armHbPer a) pos.length c
      pDab := dabField y.d, dabEn := decide (apSection par a < 4) })

/-- The commands of spares (R102, R103): LEVEL 0 while an insertion opens the bypass, else OFF, topped up with the fraction their section's DABs are served. -/
def State.spareCmds (s : State) (a : Nat) (on : Bool) (v : Served) : List CellCmd :=
  let par := s.tbl8 secARMPAR
  ((s.armSprings a).filter (fun sp => s.roleOf sp == roSPARE)).map (fun sp =>
    if (s.slArm a).items.any (fun i => i.spare == some sp) then ⟨sp, mLEVEL, 0, 0, 0, 0, false⟩
    else
      let top := on && (s.topping a).contains sp
      ⟨sp, mOFF, 0, 0, 0, if top then dabField (-(rnat (10 * apTopup par a) * v.fReb.getD (apSection par a) 1)) else 0, top⟩)

/-- One arm's sharing and modulation, the `i`-th of those declared: its warnings, its status register, its cells' commands (R88 to R91, R96 to R99). -/
def State.allocArm (s : State) (on : Bool) (arms : List ArmIn) (d : Asked) (v : Served) (es : List Entry) (i : Nat) (x : ArmIn) : State × List CellCmd :=
  let cells := s.armCells x.arm
  let pac := if on then v.net.getD i 0 + d.chg.getD x.arm 0 * v.fChg.getD i 0 else 0
  let plv := if on then v.lvArm.getD i 0 else 0
  let w := if on then rsum ((es.filter (fun e => e.cls == 3 && e.kind == 1 && e.target == x.arm)).map (fun e => e.ask * entryFrac arms e v)) else 0
  let (l, zero) := shareArm cells pac plv (rebalOff cells w)
  let l := if on then l else l.map (fun y => { y with d := 0 })
  let dis := decide (pac - plv < 0)
  let s := if zero then s.raise Ev.WEIGHT_ZERO [x.arm, evNum Ev.WEIGHT_ZERO (b2n dis)] else s
  let avail := rnat (apMmax (s.tbl8 secARMPAR) x.arm) / 32768 * rsum (cells.map (fun c => rnat (50 * c.vdc)))
  let need := apVneed (s.tbl8 secARMPAR) x.arm
  let low := decide (avail < rnat need)
  let s := if low && !(s.slArm x.arm).headLow then s.raise Ev.ARM_HEADROOM_LOW [x.arm, (rround avail).toNat, need] else s
  let short := on && (cutArms arms d v).contains x.arm
  let s := s.modSlArm x.arm (fun y => { y with headLow := low, lvPrev := plv })
  let s := (s.setFlag (F.SLU_ARM_STAT.HEADROOM_LOW x.arm) low).setFlag (F.SLU_ARM_STAT.SHORT x.arm) short
  let s := (s.setFlag (F.SLU_ARM_STAT.INS_BUSY x.arm) (!(s.slArm x.arm).items.isEmpty)).set (F.SLU_ARM_STAT.SPARE x.arm)
    (((s.armSprings x.arm).filter (fun sp => s.roleOf sp == roSPARE && s.spareReady sp)).length)
  let s := s.set (F.SLU_ARM_STAT.ACTIVE x.arm) (s.activeCount x.arm)
  (s, s.armCmds x.arm l dis ++ s.spareCmds x.arm on v)

/-- What the controllers of the next tick are held to where a class was cut: the amounts it was served (R86). -/
def State.setLimits (s : State) (on : Bool) (d : Asked) (v : Served) (ps qs : Int) : State :=
  let full1 := decide (d.sGrid = 0) || (on && decide (v.fAc = 1) && decide (v.fP = 1))
  let full2 := (List.range 4).all (fun k => decide (d.lv.getD k 0 = 0) || (on && decide (v.fLv.getD k 1 = 1)))
  { s with ctl := { s.ctl with
    limP := if full1 then none else some ps.natAbs
    limQ := if full1 then none else some qs.natAbs
    limLv := (List.range 4).map (fun k => if full2 then none else some (if on then (rround (rabs (v.lv.getD k 0))).toNat else 0)) } }

/-- A tick short of its demand counted, and the tick's SLU_STATUS record streamed (R99, R110). -/
def State.sluStatus (s : State) (on : Bool) (cs : List ClsRec) (ps qs : Int) : State :=
  let anyShort := cs.any (fun c => c.frac != 32768)
  let s := if anyShort then s.inc F.SLU_SHORT_CNT.COUNT else s
  let flags := b2n anyShort + 2 * s.get F.SLU_TH_CAP.ENFORCED + 4 * b2n (s.slu.arms.any (fun x => !x.items.isEmpty)) + 8 * b2n (!on)
  let short := bitsMask ((List.range 12).filter (fun a => s.flag (F.SLU_ARM_STAT.SHORT a) || s.flag (F.SLU_ARM_STAT.HEADROOM_LOW a)))
  let rec' := statusBytes s.tickNow flags short cs ps qs
  let s := if s.dispatches && s.cg F.SLU_CTRL.STATUS_EN == 1 then
      (s.streamPairs 1).foldl (fun s q => if s.decimTick q then s.streamPut q (.status rec') s.tickNow else s) s
    else s
  s

/-- Arms that the ARM table does not declare show nothing (R110). -/
def State.idleArms (s : State) (arms : List ArmIn) : State :=
  ((List.range 12).filter (fun a => !arms.any (fun x => x.arm == a))).foldl (fun (s : State) a => s.wr (F.SLU_ARM_STAT.ACTIVE a).off 0#32) s

/-- The allocation and modulation stages of a tick (R83 to R99): entries decided, class records and limits set; it answers the cells' commands. -/
def State.allocate (s : State) (on : Bool) : State × List CellCmd :=
  let s := s.sluRoles
  let arms := s.armIns
  let th := if s.flag F.SLU_TH_CAP.ENFORCED then rnat (s.get F.SLU_TH_CAP.CAP) / 32768 else 1
  let s := s.evalEntries arms th on
  let es := s.slu.entries.filter (fun e => match e.left with
    | some n => n != 0
    | none => false)
  let d := s.asked arms es
  let v := serve arms th d
  let cs := classRecs arms th d v on
  let s := (List.range 4).foldl (fun s n => s.putCls n (cs.getD n ⟨0, 0, 32768, 0, 0xFF⟩)) s
  let ps := if on then rround (d.p * v.fAc * v.fP) else 0
  let qs := if on then rround (d.q * v.fAc) else 0
  let s := (s.setLimits on d v ps qs).idleArms arms
  let (s, cmds) := (List.range arms.length).foldl (fun (acc : State × List CellCmd) i =>
    match arms[i]? with
    | none => acc
    | some x => let (s, out) := acc.1.allocArm on arms d v es i x
      (s, acc.2 ++ out)) (s, [])
  (s.sluStatus on cs ps qs, cmds)

end Sys2Proof.Machine
end

