-- ==== Sys2Proof/Machine/SafetyOps.lean ====
section
/-! DEFINITION. SafetyOps.lean: the safety inputs, outputs, lock and PDUs of a Basin (R407 to R435). -/
namespace Sys2Proof.Machine

/-! ### Inputs (R407 to R411) -/

/-- The SAFE_IN vote as the filtered channels stand; a vote that begins to demand blocks the station and latches ESTOP (R407, R408). -/
def State.safeVote (s : State) : State :=
  let f := s.get F.SAFE_IN_STAT.FILT
  let votes := [!f.testBit 0, !f.testBit 1, !f.testBit 2]
  let was := s.flag F.SAFE_IN_STAT.VOTE
  let s := s.voteSample 1 votes true
  let trips := s.voteTrips 1 votes
  let s := s.setFlag F.SAFE_IN_STAT.VOTE trips
  if trips && !was then (s.stationWeir cauSAFE).latchDemand dmESTOP else s

/-- The guard is open: a channel reads open, or a discrepancy holds it open (R409). -/
def State.guardOpen (s : State) : Bool := s.get F.SAFE_IN_STAT.GUARD != 3 || s.safe.gBad

/-- The guard opens with the outputs on, those of a demand whose OFF_DLY still runs among them (R411, R437). -/
def State.guardDemand (s : State) : State := if s.guardOpen && s.outputsLit then s.latchDemand dmGUARD else s

/-- The guard channels take new filtered levels (R409 to R411). -/
def State.guardSet (s : State) (g : Nat) : State :=
  let s := s.set F.SAFE_IN_STAT.GUARD g
  let s := { s with safe := { s.safe with gDiff := if g = 1 || g = 2 then some (s.safe.gDiff.getD s.time.cyc) else none } }
  if g = 0 then { s with safe := { s.safe with gOpen := true } }.guardDemand
  else if g = 3 && s.safe.gOpen then
    let s := { s with safe := { s.safe with gOpen := false, gBad := false } }
    if s.flag F.SAFE_STAT.GUARD_TESTED then s
    else ({ (s.set F.SAFE_STAT.GUARD_TESTED 1) with aon := { s.aon with guardTested := true } }.startStep 10).raise Ev.GUARD_TESTED
  else s.guardDemand

/-! ### Causes (R412, R413) -/

/-- The condition a RESUME requires of a latched cause holds. -/
def State.causeQuiet (s : State) (bit : Nat) : Bool :=
  if bit = dmESTOP then !s.flag F.SAFE_IN_STAT.VOTE
  else if bit = dmGUARD then !s.guardOpen
  else if bit = dmTHERMAL then s.coolEnough
  else if bit = dmFB then !s.flag F.SAFE_STAT.FB_HS && !s.flag F.SAFE_STAT.FB_LS
  else if bit = dmPDU then (match s.safe.cleanSince with
    | some t => decide (t + 500000000 ≤ s.time.cyc)
    | none => false)
  else true

/-- SAFE_STAT.FAILING: latched causes whose condition fails now. -/
def State.failing (s : State) : Nat := bitsMask ((maskBits 8 (s.get F.SAFE_STAT.CAUSE)).filter (fun b => !s.causeQuiet b))

/-! ### Outputs (R415 to R420) -/

/-- The output's drive and readback fields. -/
def outFld (k : Nat) : Fld := if k = 0 then F.SAFE_STAT.HS else F.SAFE_STAT.LS
def fbFld (k : Nat) : Fld := if k = 0 then F.SAFE_STAT.FB_HS else F.SAFE_STAT.FB_LS

/-- The first condition of R415 that fails, 1 to 5 in its order; 0 when all hold. In SAFE_HOLD the outputs stay off (R34). -/
def State.outBad (s : State) : Nat :=
  if s.flag F.SAFE_STAT.DEMAND then 1
  else if !s.flag F.SAFE_STAT.GUARD_TESTED then 2
  else if s.flag F.SAFE_STAT.FB_HS || s.flag F.SAFE_STAT.FB_LS then 3
  else if s.flag F.SAFE_STAT.UNLOCKED then 4
  else if (s.station != ssOFF && s.station != ssREADY) || s.pwr.stuck then 5 else 0

/-- A write of OUT_EN (R415). -/
def State.outEn (s : State) : State :=
  if s.outBad != 0 then s.raise Ev.SAFE_OUT_REFUSED [evNum Ev.SAFE_OUT_REFUSED s.outBad]
  else
    let now := s.time.cyc
    let s := ((s.set F.SAFE_STAT.OUT_ON 1).set F.SAFE_STAT.HS 1).set F.SAFE_STAT.LS 1
    { s with safe := { s.safe with offAt := none, onAt := some now, onDue := true, fbDiff := [some now, some now], pulse := none
                                   pulseDue := now + 250000000, pulseDone := [now, now] } }.guardDemand

/-- Whether the output's readback differs from its command is timed, but for the output of a running pulse (R417). -/
def State.fbTime (s : State) (k : Nat) : State :=
  let inPulse := match s.safe.pulse with
    | some p => p.out == k && !p.ended
    | none => false
  let d := s.flag (outFld k) != s.flag (fbFld k) && !inPulse
  { s with safe := { s.safe with fbDiff := s.safe.fbDiff.set k (if d then some ((s.safe.fbDiff.getD k none).getD s.time.cyc) else none) } }

/-- A pulse completes; one of each output ends the degraded time (R418, R420). -/
def State.pulseDone (s : State) (k : Nat) : State :=
  let now := s.time.cyc
  let s := { s with safe := { s.safe with pulse := none, lastPulse := some now, pulseDone := s.safe.pulseDone.set k now
                                          degraded := s.safe.degraded.set k false, degOk := s.safe.degOk.set k true } }
  let s := s.set F.SAFE_TEST.NEXT (1 - k)
  if s.safe.degOk.all id then { s with safe := { s.safe with degFrom := none, degWarned := false, degExpired := false } }.set F.SAFE_STAT.OUT_DEGRADED 0 else s

/-- No pulse of an output has completed for 10 s with the outputs on (R420). -/
def State.outDegrades (s : State) (k : Nat) : State :=
  let since := s.time.cyc - s.safe.pulseDone.getD k 0
  if s.flag F.SAFE_STAT.OUT_ON && !s.safe.degraded.getD k false && decide (5000000000 ≤ since) then
    let ok := if s.safe.degFrom.isNone then [false, false] else s.safe.degOk
    ({ s with safe := { s.safe with degraded := s.safe.degraded.set k true, degFrom := some (s.safe.degFrom.getD s.time.cyc), degOk := ok.set k false } }.set
      F.SAFE_STAT.OUT_DEGRADED 1).raise Ev.SAFE_OUT_DEGRADED [k, since / 500000000]
  else s

/-- What the readbacks show of a running pulse (R418). -/
def State.pulseSee (s : State) : State :=
  match s.safe.pulse with
  | none => s
  | some p =>
    let on := s.flag (fbFld p.out)
    if !p.ended then (if on then s else { s with safe := { s.safe with pulse := some { p with sawOff := true } } })
    else if on then (if p.lost then s.pulseFails 1 else if s.time.cyc ≤ p.at' + 500000 then s.pulseDone p.out else s.pulseFails 2)
    else s

/-- The readbacks take filtered levels (R415, R417, R418). -/
def State.fbSet (s : State) (hs ls : Bool) : State :=
  let s := ((s.setFlag F.SAFE_STAT.FB_HS hs).setFlag F.SAFE_STAT.FB_LS ls).pulseSee
  let s := (s.fbTime 0).fbTime 1
  if s.safe.onDue && hs && ls then
    { s with safe := { s.safe with onDue := false } }.raise Ev.SAFE_OUT_ON [(s.time.cyc - s.safe.onAt.getD s.time.cyc) / 500000]
  else s

/-- An output's readback is at fault (R417, R418). -/
def State.fbFault (s : State) (k : Nat) : State :=
  (s.raise Ev.SAFE_FB_FAULT [k, s.get (outFld k), s.get (fbFld k)]).latchDemand dmFB

/-- A test pulse falls due (R418, R437): it starts, or is skipped while a readback difference is timed or on the safe clock. -/
def State.pulseStart (s : State) : State :=
  if s.flag F.SAFE_STAT.OUT_ON && s.flag F.SAFE_STAT.HS && s.flag F.SAFE_STAT.LS && s.flag F.SAFE_CTRL.TEST_EN && s.safe.pulse.isNone &&
      decide (s.safe.pulseDue ≤ s.time.cyc) then
    let k := s.get F.SAFE_TEST.NEXT
    let s := { s with safe := { s.safe with pulseDue := s.time.cyc + 250000000, pulse := some { out := k, at' := s.time.cyc } } }
    if s.safe.fbDiff.any Option.isSome then s.pulseFails 3
    else if s.flag F.CLK_PLLS_STAT.ON_SAFE then s.pulseFails 1
    else (s.set (outFld k) 0).fbTime k
  else s

/-- A test pulse ends 200 microseconds after it started (R418). -/
def State.pulseEnd (s : State) : State :=
  match s.safe.pulse with
  | none => s
  | some p =>
    if p.ended || decide (s.time.cyc < p.at' + 100000) then s
    else if !p.sawOff then { s with safe := { s.safe with pulse := none } }.fbFault p.out
    else
      let s := { s with safe := { s.safe with pulse := some { p with ended := true, at' := s.time.cyc } } }.set (outFld p.out) 1
      (if p.lost then s.pulseFails 1 else s.pulseSee).fbTime p.out

/-! ### The lock (R424 to R430) -/

/-- The password stored, as R425 gives it where none is. -/
def State.pwHashOf (s : State) : List Nat :=
  (if s.nor.layout == 1 && !s.nor.noNor then s.nor.pwHash else none).getD (sha256 (leBytes 8 Config.serialNumber ++ [0x56, 0x41, 0x4C, 0x54, 0x45, 0x32, 0x31, 0x36]))

/-- An AUTH_FAIL that counts: the third in a row starts the lockout (R424). -/
def State.authFail (s : State) (role : Nat) : State :=
  let n := s.safe.fails + 1
  let s := { s with safe := { s.safe with fails := n } }.raise Ev.SAFETY_AUTH_FAIL [role, n]
  if 3 ≤ n then { s with safe := { s.safe with lockoutAt := some s.time.cyc } }.set F.SAFE_STAT.LOCKOUT 1 else s

/-! ### Safety PDUs (R431 to R435) -/

/-- One bit step of the reflected CRC-32C of R432. -/
def crcCBit (c : Nat) : Nat := if c % 2 = 1 then (c / 2) ^^^ 0x82F63B78 else c / 2

/-- The CRC-32C of R432 with an initial value. -/
def crc32c (init : Nat) (l : List Nat) : Nat :=
  (l.foldl (fun c b => crcCBit (crcCBit (crcCBit (crcCBit (crcCBit (crcCBit (crcCBit (crcCBit (c ^^^ (b % 256)))))))))) init) ^^^ 0xFFFFFFFF

/-- The 48 bytes of a PDU. -/
def pduBytes (seq wd conn kind : Nat) (payload : List Nat) : List Nat :=
  let b := leBytes 2 seq ++ leBytes 2 wd ++ leBytes 4 conn ++ [payload.length, kind] ++ (payload ++ List.replicate 32 0).take 32 ++ [0, 0]
  b ++ leBytes 4 (crc32c conn b)

/-- The payload of the status PDU (R433). -/
def State.pduStatus (s : State) : List Nat :=
  [s.station, s.get F.SAFE_STAT.CAUSE,
   s.get F.SAFE_STAT.HS + 2 * s.get F.SAFE_STAT.LS + 4 * s.get F.SAFE_STAT.FB_HS + 8 * s.get F.SAFE_STAT.FB_LS + 16 * s.get F.SAFE_STAT.GUARD_TESTED +
     32 * s.get F.SAFE_STAT.OUT_DEGRADED + 64 * b2n (s.side == .b) + 128 * b2n s.dispatches,
   s.get F.SAFE_IN_STAT.FILT + 8 * s.exclOf 1 + 64 * s.get F.SAFE_IN_STAT.GUARD] ++
  leBytes 4 (s.get F.SAFE_CRC.CRC) ++ leBytes 4 s.stamp ++ leBytes 2 (s.get F.RED_CLAIM.CLAIM) ++ [0, 0]

/-- A controller takes frames from the bus: it is out of INIT, not bus-off, not in LOOPBACK, and PLL-S is on its oscillator (R306, R442, R443). -/
def State.canHears (s : State) (n : Nat) : Bool :=
  !s.flag (F.CAN_CTRL.INIT n) && decide (s.get (F.CAN_ECR.STATE n) < 2) && s.get (F.CAN_CTRL.MODE n) != 3 && !s.flag F.CLK_PLLS_STAT.ON_SAFE

/-- A controller receives a frame: a CAN FD frame only with FDOE (R441). -/
def State.canTakes (s : State) (n : Nat) (f : CanFrame) : Bool := s.canHears n && (!f.fdf || s.flag (F.CAN_CTRL.FDOE n))

/-- A classical remote frame that CANn_GFC rejects before any filter (R454). -/
def State.remoteBarred (s : State) (n : Nat) (f : CanFrame) : Bool := f.rtr && s.flag (if f.ide then F.CAN_GFC.RRFE n else F.CAN_GFC.RRFS n)

/-- A controller sends data frames: NORMAL mode, or LOOPBACK, where its pin stays recessive (R442). -/
def State.canSends (s : State) (n : Nat) : Bool :=
  !s.flag (F.CAN_CTRL.INIT n) && decide (s.get (F.CAN_ECR.STATE n) < 2) && (s.get (F.CAN_CTRL.MODE n) == 0 || s.get (F.CAN_CTRL.MODE n) == 3) &&
    !s.flag F.CLK_PLLS_STAT.ON_SAFE

/-- Kinds of PDU_FAULT, in the order of R440. -/
def pfINVALID : Nat := 0
def pfSEQ : Nat := 1
def pfTIMEOUT : Nat := 2
def pfSTOP : Nat := 3

/-- The cause PDU latches; with the outputs off it is latched and nothing else (R437). -/
def State.pduLatch (s : State) : State :=
  if s.outputsLit then s.latchDemand dmPDU
  else
    let s := { s with safe := { s.safe with pduQuiet := s.safe.pduQuiet || s.get F.SAFE_STAT.CAUSE == 0 } }
    (s.set F.SAFE_STAT.CAUSE (s.get F.SAFE_STAT.CAUSE ||| 2 ^ dmPDU)).set F.SAFE_STAT.DEMAND 1

/-- A PDU fault (R435). -/
def State.pduFault (s : State) (kind seq : Nat) : State :=
  let s := (s.inc F.SAFE_PDU_CNT.FAULT).raise Ev.PDU_FAULT [evNum Ev.PDU_FAULT kind, seq]
  { s with safe := { s.safe with pduBad := true, rxSeq := none, rxAt := none, cleanSince := none } }.pduLatch

/-- What R434 asks of a PDU whose identifier matches. -/
def State.pduValid (s : State) (b : List Nat) : Bool :=
  let conn := s.get F.SAFE_PDU_RXCONN.CONN
  let n := bytesAt b 8 1
  let wd := bytesAt b 2 2
  b.length == 48 && bytesAt b 44 4 == crc32c conn (b.take 44) && bytesAt b 4 4 == conn && bytesAt b 9 1 == 2 && decide (n ≤ 32) &&
    ((b.drop (10 + n)).take (32 - n)).all (· == 0) && decide (1 ≤ wd) && decide (wd ≤ s.get F.SAFE_PDU_CFG.RX_WD_MAX)

/-- A frame is one for the PDU's reserved filter element (R434, R455). -/
def State.isPdu (s : State) (unit : Nat) (f : CanFrame) : Bool :=
  s.flag F.SAFE_PDU_CFG.RX_EN && unit == s.get F.SAFE_PDU_CFG.UNIT && s.canTakes unit f && !s.remoteBarred unit f &&
    f.ide == s.flag F.SAFE_PDU_RXID.IDE && f.id == s.get F.SAFE_PDU_RXID.ID

/-- A frame on the PDU controller (R434, R435). -/
def State.pduRx (s : State) (unit : Nat) (f : CanFrame) : State :=
  if s.isPdu unit f then
    let b := f.data
    let seq := bytesAt b 0 2
    if !s.pduValid b then s.pduFault pfINVALID seq
    else if s.safe.rxSeq == some seq then s.inc F.SAFE_PDU_CNT.DUP
    else if (match s.safe.rxSeq with
      | some q => decide (seq = (q + 1) % 65536)
      | none => true) then
      let s := if s.safe.pduBad then { s with safe := { s.safe with pduBad := false } }.raise Ev.PDU_RECOVERED [seq] else s
      let stop := bytesAt b 8 1 != 0 && bitOf (bytesAt b 10 1) 0
      let s := { s with safe := { s.safe with rxSeq := some seq, rxAt := some s.time.cyc, rxWd := bytesAt b 2 2
                                              cleanSince := if stop then none else some (s.safe.cleanSince.getD s.time.cyc) } }
      if stop then (s.raise Ev.PDU_FAULT [evNum Ev.PDU_FAULT pfSTOP, seq]).pduLatch else s
    else s.pduFault pfSEQ seq
  else s

end Sys2Proof.Machine
end

