-- ==== Sys2Proof/Machine/Safety.lean ====
section
/-! DEFINITION. Safety.lean: the meanings of the safety commands but for SAFETY_CFG (14_safety). -/
namespace Sys2Proof.Machine

/-- SAFE_IN_CHANGE (R407, R408): the filtered SAFE_IN levels (1 OK) and the unfiltered ones. -/
def execSafeInChange (dt : Nat) (filt raw : Fin 8) (s : State) : Out := onBasin s fun s =>
  (((s.advance dt).set F.SAFE_IN_STAT.FILT filt).set F.SAFE_IN_STAT.RAW raw).safeVote

/-- GUARD_IN_CHANGE (R409 to R411): the filtered guard levels, bit 1 GUARD_IN1, 1 closed. -/
def execGuardInChange (dt : Nat) (g : Fin 4) (s : State) : Out := onBasin s fun s => (s.advance dt).guardSet g

/-- GUARD_DISCREPANCY (R409): the channels have differed for more than 100 ms. -/
def execGuardDiscrepancy (dt : Nat) (s : State) : Out := onBasin s fun s =>
  let s := s.advance dt
  match s.safe.gDiff with
  | some t =>
    if s.safe.gBad || decide (s.time.cyc ≤ t + 50000000) then s
    else ({ s with safe := { s.safe with gBad := true, gOpen := false } }.raise Ev.GUARD_DISCREPANCY [s.get F.SAFE_IN_STAT.GUARD]).guardDemand
  | none => s

/-- SAFE_OUT_OFF (R416): OFF_DLY has expired. -/
def execSafeOutOff (dt : Nat) (s : State) : Out := onBasin s fun s =>
  let s := s.advance dt
  match s.safe.offAt with
  | some t => if t ≤ s.time.cyc then s.outputsOff else s
  | none => s

/-- OUT_EN (R415). -/
def execOutEn (s : State) : Out := onBasin s State.outEn

/-- HOST_OFF (R412). -/
def execHostOff (s : State) : Out := onBasin s fun s => s.latchDemand dmHOST

/-- SAFETY_LOCK (R426). -/
def execSafetyLock (s : State) : Out := onBasin s State.relock

/-- SAFETY_RELOCK_TIMEOUT (R426): 600 s without SAFETY_CFG or SAFETY_UNLOCK. -/
def execSafetyRelockTimeout (dt : Nat) (s : State) : Out := onBasin s fun s =>
  let s := s.advance dt
  if s.safe.lastAct + 300000000000 ≤ s.time.cyc then s.relock else s

/-- AUTH_LOCKOUT_END (R424): 60 s after the lockout began. -/
def execAuthLockoutEnd (dt : Nat) (s : State) : Out := onBasin s fun s =>
  let s := s.advance dt
  match s.safe.lockoutAt with
  | some t =>
    if t + 30000000000 ≤ s.time.cyc then { s with safe := { s.safe with lockoutAt := none, fails := 0 } }.set F.SAFE_STAT.LOCKOUT 0 else s
  | none => s

/-- SAFE_FB_CHANGE (R415, R418): the filtered readbacks take levels. -/
def execSafeFbChange (dt : Nat) (hs ls : Bool) (s : State) : Out := onBasin s fun s => (s.advance dt).fbSet hs ls

/-- SAFE_FB_FAULT (R417): output `k`'s readback has differed for longer than FB_TMO. -/
def execSafeFbFault (dt : Nat) (k : Fin 2) (s : State) : Out := onBasin s fun s =>
  let s := s.advance dt
  match s.safe.fbDiff.getD k none with
  | some t =>
    if s.time.cyc ≤ t + 500000 * s.get F.SAFE_CFG.FB_TMO then s
    else
      let s := { s with safe := { s.safe with fbDiff := s.safe.fbDiff.set k none } }
      let s := match s.safe.pulse with
        | some p => if p.out == k.val then { s with safe := { s.safe with pulse := none } } else s
        | none => s
      s.fbFault k
  | none => s

/-- TEST_PULSE_START (R418, R437). -/
def execTestPulseStart (dt : Nat) (s : State) : Out := onBasin s fun s => (s.advance dt).pulseStart

/-- TEST_PULSE_END (R418). -/
def execTestPulseEnd (dt : Nat) (s : State) : Out := onBasin s fun s => (s.advance dt).pulseEnd

/-- SAFE_OUT_DEGRADED (R420): no pulse of output `k` has completed for 10 s. -/
def execSafeOutDegraded (dt : Nat) (k : Fin 2) (s : State) : Out := onBasin s fun s => (s.advance dt).outDegrades k

/-- SAFETY_UNLOCK (R424): the descriptor's ROLE_ID and 8 password characters. -/
def execSafetyUnlock (dt : Nat) (q : Fin 16) (s : State) : Out := onBasin s fun s => (s.advance dt).op q ocUNLOCK fun s x =>
  let pw := x.d.param.take 8
  let role := bytesAt x.d.param 8 4
  let s := { s with safe := { s.safe with lastAct := s.time.cyc } }
  if s.energisedRange then s.refuse x.id stLIMIT 0
  else if s.safe.lockoutAt.isSome then s.refuse x.id stAUTH 0
  else if pw.any (fun c => decide (c < 0x21) || decide (0x7E < c)) || sha256 (leBytes 8 Config.serialNumber ++ pw) != s.pwHashOf then
    (s.authFail role).refuse x.id stAUTH 0
  else
    let s := { s with safe := { s.safe with fails := 0, roleId := role
                                            unlockCrc := if s.flag F.SAFE_STAT.UNLOCKED then s.safe.unlockCrc else s.get F.SAFE_CRC.CRC } }.set F.SAFE_STAT.UNLOCKED 1
    (s.raise Ev.SAFETY_UNLOCKED [role]).settle x.id stOK 0 0 0 0

/-- SAFETY_PDU_RX (R434, R435): a frame arrives on controller `unit`. -/
def execSafetyPduRx (dt : Nat) (unit : Fin 4) (f : CanFrame) (s : State) : Out := onBasin s fun s => (s.advance dt).pduRx unit f

/-- PDU_TIMEOUT (R435): no valid PDU within the WD_MS of the one before. -/
def execPduTimeout (dt : Nat) (s : State) : Out := onBasin s fun s =>
  let s := s.advance dt
  match s.safe.rxAt with
  | some t => if s.flag F.SAFE_PDU_CFG.RX_EN && decide (t + 500000 * s.safe.rxWd < s.time.cyc) then s.pduFault pfTIMEOUT (s.safe.rxSeq.getD 0) else s
  | none => s

end Sys2Proof.Machine
end

