-- ==== Sys2Proof/Machine/RecOps.lean ====
section
/-! DEFINITION. RecOps.lean: the NOR areas, commits, the ledger and its tenures (R469 to R495). -/
namespace Sys2Proof.Machine

/-! ### The NOR (R490 to R495) -/

/-- The NOR has a layout this Basin may program. -/
def State.norUsable (s : State) : Bool := s.nor.layout == 1 && !s.nor.noNor

/-- FIRST and LAST take no commits: REC_STOPPED, or no usable NOR (R483, R490). -/
def State.recStopped (s : State) : Bool := s.nor.stopped.isSome || !s.norUsable

/-- REC_STATUS.STATE (R492, R496, R498): 0 normal, 1 frozen, 2 supply sag, 3 stopped, 4 no NOR, 5 foreign layout. -/
def State.recState (s : State) : Nat :=
  if s.nor.noNor then 4 else if s.nor.layout == 2 then 5 else if s.nor.stopped.isSome then 3 else if s.nor.sag then 2 else if s.recd.frozen then 1 else 0

/-- A freeze holds commits; under REC_STOPPED it changes nothing (R478, R497). -/
def State.recHeld (s : State) : Bool := s.recd.frozen && !s.recStopped

/-- A record after the last one of an area's blocks, 1,023 to a block (R481). -/
def blockAdd {α : Type} (l : List (List α)) (x : α) : List (List α) :=
  match l.getLast? with
  | some b => if b.length < 1023 then l.dropLast ++ [b ++ [x]] else l ++ [[x]]
  | none => [[x]]

/-- A circular area after a record: the oldest block goes when the block being written is half full and no other is free (R481, R487). -/
def ringAdd {α : Type} (cap : Nat) (l : List (List α)) (x : α) : List (List α) :=
  let l := blockAdd l x
  let l := l.drop (l.length - cap)
  if 2 ≤ cap && l.length == cap && (l.getLast?.getD []).length == 512 then l.drop 1 else l

/-- The journal after a record: when a block is full, the other is erased (R482). -/
def journalAdd (cap : Nat) (l : List (List EvRec)) (r : EvRec) : List (List EvRec) :=
  let l := blockAdd l r
  let l := l.drop (l.length - cap)
  if 2 ≤ cap && l.length == cap && (l.getLast?.getD []).length == 1023 then l.drop 1 else l

/-- The layout R491 gives a NOR of `total` blocks, everything else erased; `bad` devices keep their number. -/
def layoutNew (n : NorSt) : NorSt :=
  { devices := n.devices, total := n.total, layout := 1, ptGen := 1, ptCopies := 2, reserve := n.total / 8,
    ledgerBlocks := n.total - n.total / 8 - 423, noNor := false, sag := n.sag, sagAt := n.sagAt }

/-- The area of a logical block by R491: its TYPE, 1 for the partition table, 0 for a block of the reserve. -/
def areaOf (n : NorSt) (lb : Nat) : Nat :=
  if lb < 2 then 1 else if lb < 18 then 2 else if lb < 82 then 3 else if lb < 146 then 4 else if lb < 163 then 5
  else if lb < 421 then 6 else if lb < 423 then 7 else if lb < n.total - n.reserve then 8 else 0

/-! ### Commits (R471, R475, R480 to R483) -/

/-- Recording stops (R483). `cause` 0 LAST without reserve, 1 SEQ_END. -/
def State.stopRec (s : State) (cause : Nat) : State :=
  if s.nor.stopped.isSome then s else { s with nor := { s.nor with stopped := some cause } }.raise Ev.REC_STOPPED [evNum Ev.REC_STOPPED cause]

/-- A ceiling kept ahead of the next number (R471). -/
def ceilFor (next ceil : Nat) : Nat := if ceil ≤ next + 65536 then min (next + 131072) 0xFFFFFFFF else ceil

/-- The next SEQ (R471). -/
def State.takeSeq (s : State) : State × Nat :=
  let n := s.get F.REC_SEQ.VALUE
  if n = 0xFFFFFFFF then (if s.norUsable then s.stopRec 1 else s, n)
  else
    let s := if s.norUsable then { s with nor := { s.nor with seqCeil := ceilFor n s.nor.seqCeil } } else s
    (s.set F.REC_SEQ.VALUE (n + 1), n)

/-- A record takes its SEQ and the number of the Basin that commits it (R470, R471). -/
def State.numbered (s : State) (r : EvRec) : State × EvRec :=
  if r.commit != 0xFF then (s, r)
  else
    let (s, n) := s.takeSeq
    (s, { r with seq := n, commit := s.basinId })

/-- The journal copy (R482). -/
def State.journalPut (s : State) (r : EvRec) : State :=
  if r.journal && s.norUsable then { s with nor := { s.nor with journal := journalAdd s.nor.journalBlocks s.nor.journal r } } else s

/-- The FIRST and LAST copies (R475, R480, R481). -/
def State.areasPut (s : State) (r : EvRec) : State :=
  if s.recStopped then s
  else
    let s := { s with nor := { s.nor with last := ringAdd s.nor.lastBlocks s.nor.last r } }
    if !s.nor.firstClosed && decide (s.nor.first.length < 16384) then
      let s := { s with nor := { s.nor with first := s.nor.first ++ [r] } }
      if s.nor.first.length = 16384 then s.raise Ev.FIRST_FULL [r.seq] else s
    else s

/-- A committed record reaches the EVENT streams and asserts its sources (R337, R339, R475). -/
def State.publish (s : State) (r : EvRec) : State :=
  let s := { s with recd := { s.recd with lastSeq := r.seq } }.streamEvent r
  if s.get F.HIF_EVT_SEV.SEV ≤ r.sev then
    let s := s.assertSrc (32 + r.code / 256 % 16)
    if r.source < 192 then s.assertSrc (64 + r.source) else s
  else s

/-- A record out of staging committed; one journalled in a freeze has its SEQ and journal copy already (R497). -/
def State.commitRec (s : State) (r : EvRec) : State :=
  let done := r.commit != 0xFF
  let (s, r) := s.numbered r
  let s := if done then s else s.journalPut r
  (s.areasPut r).publish r

/-- The staged record whose turn it is: SEQ_RESUMED, a journal record not yet in the journal, one numbered in a freeze, the oldest (R229, R471, R475, R482). -/
def pickRec (l : List EvRec) : Option Nat :=
  match l.findIdx? (fun r => r.code == Ev.SEQ_RESUMED) with
  | some i => some i
  | none =>
    match l.findIdx? (fun r => r.journal && r.commit == 0xFF) with
    | some i => some i
    | none =>
      match l.findIdx? (fun r => r.commit != 0xFF) with
      | some i => some i
      | none => if l.isEmpty then none else some 0

/-- The commit of a record has something to program. -/
def State.needsProgram (s : State) (r : EvRec) : Bool :=
  s.norUsable && (!s.recStopped || (r.journal && r.commit == 0xFF) || decide (s.nor.seqCeil ≤ s.get F.REC_SEQ.VALUE + 65536))

/-- A ledger record committed (R487). -/
def State.commitLedger (s : State) (r : LedgerRec) : State :=
  let n := s.get F.REC_LSEQ.VALUE
  let s := { s with nor := { s.nor with lseqCeil := ceilFor n s.nor.lseqCeil } }.set F.REC_LSEQ.VALUE (min (n + 1) 0xFFFFFFFF)
  let old := s.nor.ledger
  let s := { s with nor := { s.nor with ledger := ringAdd s.nor.ledgerBlocks old { r with lseq := n } } }
  let gone := if s.nor.ledger.length < old.length || (s.nor.ledger.length == old.length && (s.nor.ledger.head?.map List.length) != (old.head?.map List.length))
    then old.head?.getD [] else []
  let unread := gone.filter (fun (x : LedgerRec) => decide (s.nor.ledgerRd < x.lseq))
  match unread.head?, unread.getLast? with
  | some a, some b => s.raise Ev.LEDGER_UNREAD_LOST [a.lseq, b.lseq]
  | _, _ => s

/-- One commit (R475, R478, R482, R496). -/
def State.commitOne (s : State) : State :=
  if s.recHeld then
    match s.recd.staging.findIdx? (fun r => r.journal && r.commit == 0xFF) with
    | some i =>
      if s.nor.sag then s
      else
        match s.recd.staging[i]? with
        | some r =>
          let (s, r) := s.numbered r
          ({ s with recd := { s.recd with staging := s.recd.staging.set i r } }).journalPut r
        | none => s
    | none =>
      match s.recd.led with
      | r :: t => if s.nor.sag then s else { s with recd := { s.recd with led := t } }.commitLedger r
      | [] => s
  else
    match (pickRec s.recd.staging).bind (fun i => (s.recd.staging[i]?).map (fun r => (i, r))) with
    | some (i, r) =>
      if s.nor.sag && s.needsProgram r then s
      else { s with recd := { s.recd with staging := s.recd.staging.eraseIdx i } }.commitRec r
    | none =>
      match s.recd.led with
      | r :: t => if s.nor.sag || !s.norUsable then s else { s with recd := { s.recd with led := t } }.commitLedger r
      | [] => s

/-! ### Erasing, formatting, retiring (R480, R493, R494, R512) -/

/-- FIRST is erased, FIRST_ERASED committed before (R480). One that lost a block counts as full still (R494). -/
def State.eraseFirstNow (s : State) : State :=
  let n := s.nor.first.length
  let (s, r) := s.numbered { s.newRec Ev.FIRST_ERASED 0 [s.safe.roleId, n] with lseq := s.recd.lseq }
  let s := { s with recd := { s.recd with lseq := (s.recd.lseq + 1) % 2 ^ 16, erasePending := false } }
  let s := if s.recStopped then s else { s with nor := { s.nor with last := ringAdd s.nor.lastBlocks s.nor.last r } }
  ({ s with nor := { s.nor with first := [] } }).publish r

/-- The NOR is formatted (R493): records, ledger, both banks and SYSTEM are gone, and counting starts again. -/
def State.formatNow (s : State) : State :=
  let s := { s with nor := layoutNew s.nor, recd := { s.recd with formatPending := false, retire := [], lastSeq := 0 } }.abandonLoad
  let s := (s.set F.REC_SEQ.VALUE 0).set F.REC_LSEQ.VALUE 0
  let s := (((s.set F.TBL_STATUS.VALID_A 0).set F.TBL_STATUS.VALID_B 0).set F.TBL_GEN_A.GEN 0).set F.TBL_GEN_B.GEN 0
  (s.set F.SAFE_STAT.DEFAULT_PW 1).raise Ev.NOR_FORMATTED [s.nor.total, s.nor.reserve, evNum Ev.NOR_FORMATTED 1]

/-- A bank block is gone (R512). `b` 0 bank A, 1 bank B. -/
def State.bankLost (s : State) (b : Nat) : State :=
  let drop := fun (x : Bank) => { x with valid := false, part := true, blocks := x.blocks - 1 }
  let s := if b = 0 then { s with nor := { s.nor with bankA := drop s.nor.bankA } }.set F.TBL_STATUS.VALID_A 0
    else { s with nor := { s.nor with bankB := drop s.nor.bankB } }.set F.TBL_STATUS.VALID_B 0
  s.raise Ev.BANK_LOST [b, if b = 0 then s.nor.bankA.blocks else s.nor.bankB.blocks, b2n (s.get F.TBL_STATUS.IN_FORCE == b)]

/-- What an area does without a reserve block (R494). `k` is the place of the retired block among the area's blocks that hold records. -/
def State.noReserve (s : State) (area k : Nat) : State :=
  let s := s.raise Ev.NOR_SPARES_EXHAUSTED [area]
  match area with
  | 1 =>
    let n := s.nor.ptCopies - 1
    { s with nor := { s.nor with ptCopies := n, noNor := s.nor.noNor || n == 0 } }
  | 2 => { s with nor := { s.nor with systemBlocks := s.nor.systemBlocks - 1 } }.raise Ev.AREA_SHRUNK [2, s.nor.systemBlocks - 1]
  | 3 => s.bankLost 0
  | 4 => s.bankLost 1
  | 5 => { s with nor := { s.nor with firstClosed := true } }
  | 6 => s.stopRec 0
  | 7 => { s with nor := { s.nor with journalBlocks := s.nor.journalBlocks - 1, journal := s.nor.journal.eraseIdx k } }.raise Ev.AREA_SHRUNK [7, s.nor.journalBlocks - 1]
  | _ => { s with nor := { s.nor with ledgerBlocks := s.nor.ledgerBlocks - 1, ledger := s.nor.ledger.eraseIdx k } }.raise Ev.AREA_SHRUNK [8, s.nor.ledgerBlocks - 1]

/-- A block retired (R494). `cause` 0 program, 1 erase, 2 wear. -/
def State.retireBlock (s : State) (lb k cause : Nat) : State :=
  let area := areaOf s.nor lb
  if area = 0 then s
  else
    let phys := ((s.nor.remap.find? (fun (x : Nat × Nat) => x.1 == lb)).map (fun (x : Nat × Nat) => x.2)).getD lb
    let s := s.raise Ev.NOR_BLOCK_BAD [phys, area, evNum Ev.NOR_BLOCK_BAD cause]
    if s.nor.used < s.nor.reserve then
      let new := s.nor.total - s.nor.reserve + s.nor.used
      let left := s.nor.reserve - s.nor.used - 1
      let s := { s with nor := { s.nor with
        used := s.nor.used + 1, ptGen := s.nor.ptGen + 1, remap := s.nor.remap.filter (fun (x : Nat × Nat) => x.1 != lb) ++ [(lb, new)] } }
      let s := s.raise Ev.NOR_REMAP [lb, phys, new, left]
      if 4 * left < s.nor.reserve && !decide (4 * (left + 1) < s.nor.reserve) then s.raise Ev.NOR_SPARE_LOW [left] else s
    else s.noReserve area k

/-- The host may erase or format: the station is OFF or READY (R480, R493). -/
def State.mayErase (s : State) : Bool := decide (s.station ≤ 1)

/-- ERASE_FIRST (R480, R496, R497). -/
def State.eraseFirst (s : State) : State :=
  if !s.norUsable then s
  else if s.recHeld || s.nor.sag then { s with recd := { s.recd with erasePending := true } }
  else s.eraseFirstNow

/-- FORMAT (R493, R496). -/
def State.formatNor (s : State) : State :=
  if s.nor.noNor then s
  else if s.nor.sag then { s with recd := { s.recd with formatPending := true } }
  else s.formatNow

/-- A write of REC_CTRL (R430, R480, R493): ones in its RWL bits are discarded and reported while locked. -/
def State.recCtrl (s : State) (locked : Bool) (v : Nat) : State :=
  if !bitOf v 30 && !bitOf v 31 then s
  else if locked then s.raise Ev.RWL_WRITE_DISCARDED [F.REC_CTRL.FORMAT.off, v]
  else if s.mayErase then (s.when (bitOf v 30) State.eraseFirst).when (bitOf v 31) State.formatNor
  else s

/-- The freeze ends (R478). -/
def State.thaw (s : State) : State :=
  let s := { s with recd := { s.recd with frozen := false, lostInFreeze := 0 } }
  if s.recd.erasePending then s.eraseFirst else s

/-! ### Reading (R479, R487) -/

/-- Up to `n` good records of a list, each with its place; the places that failed their CRC. -/
def readRecs (bad : List (Nat × Nat × Nat)) : Nat → Nat → List EvRec → List EvRec × List (Nat × Nat)
  | _, 0, _ => ([], [])
  | _, _, [] => ([], [])
  | i, n + 1, r :: t =>
    match bad.find? (fun (x : Nat × Nat × Nat) => x.1 == i) with
    | some x => let (a, b) := readRecs bad (i + 1) (n + 1) t; (a, (x.2.1, x.2.2) :: b)
    | none => let (a, b) := readRecs bad (i + 1) n t; (r :: a, b)

/-- A record put behind those of its SEQ and below. -/
def seqInsert : List EvRec → EvRec → List EvRec
  | [], r => [r]
  | x :: t, r => if r.seq < x.seq then r :: x :: t else x :: seqInsert t r

/-- The records of an area in ascending SEQ, those of one SEQ in commit order (R471, R479): 0 FIRST, 1 LAST, 2 journal. -/
def State.areaRecs (s : State) (area : Nat) : List EvRec :=
  (match area with
  | 0 => s.nor.first
  | 1 => s.nor.last.flatten
  | 2 => s.nor.journal.flatten
  | _ => []).foldl seqInsert []

/-! ### The ledger at a Spring (R484 to R488) -/

/-- Ledger records on their way in RECORD frames not yet acknowledged. -/
def State.ledInTransit (s : State) : Nat :=
  (s.lnk.peers.flatMap (fun p => p.unacked ++ p.waiting)).foldl (fun n x => n + (match x.owner with
    | .ledger l => l.length
    | _ => 0)) 0

/-- The TAG of a ledger record (R486): the first 8 bytes of the HMAC. -/
def ledgerTag (r : LedgerRec) : Nat :=
  bytesAt (hmacSha256 ((List.range 32).map (fun i => (Config.ledgerKey i).toNat)) (ledgerBytes r)) 0 8

/-- Kinds of R485. -/
def lkOPEN : Nat := 0
def lkPERIODIC : Nat := 1
def lkCLOSE : Nat := 2
def lkRESTART : Nat := 3
def lkBASIN : Nat := 0x80

/-- The place of the newest unsent PERIODIC record of the tenure in force, if one is staged (R488). -/
def lastPeriodic (l : List LedgerRec) : Option Nat :=
  let tail := l.reverse.takeWhile (fun r => r.kind != lkOPEN && r.kind != lkCLOSE)
  (tail.findIdx? (fun r => r.kind == lkPERIODIC)).map (fun i => l.length - 1 - i)

/-- A ledger record of the tenure in force, staged in AON (R485, R486, R488). -/
def State.ledgerRec (s : State) (kind : Nat) : State :=
  let r : LedgerRec := { packSerial := s.aon.packId, devSerial := Config.serialNumber, eIn := s.aon.eIn, eOut := s.aon.eOut, recSec := s.todSec % 2 ^ 32,
                         epoch := s.recEpoch, rseq := s.aon.rseq % 2 ^ 16, kind := kind, todValid := s.time.todValid, unauth := false,
                         index := s.selfId, tag := 0, lseq := 0 }
  let r := { r with tag := ledgerTag r }
  let s := { s with aon := { s.aon with rseq := s.aon.rseq + 1, lastLedger := s.time.ext, lastTod := s.todSec } }
  let s := s.set F.REC_TENURE.RSEQ r.rseq
  if s.aon.ledger.length + s.ledInTransit < 16 then { s with aon := { s.aon with ledger := s.aon.ledger ++ [r] } }
  else
    match (if kind = lkPERIODIC then lastPeriodic s.aon.ledger else none) with
    | some i => { s with aon := { s.aon with ledger := s.aon.ledger.eraseIdx i ++ [r] } }
    | none => s.raise Ev.LEDGER_DROP [kind, r.rseq]

/-- Another pack identity comes into force: the tenure closes, and that of an identity opens with its counts at 0 (R465, R484, R485). -/
def State.newTenure (s : State) (id : List Nat) : State :=
  let s := if s.aon.tenureOpen then s.ledgerRec lkCLOSE else s
  let opens := id.any (· != 0)
  let s := { s with aon := { s.aon with tenureOpen := opens, packId := id } }.setFlag F.REC_TENURE.OPEN opens
  if opens then { s with aon := { s.aon with accIn := 0, accOut := 0, eIn := 0, eOut := 0, rseq := 0 } }.ledgerRec lkOPEN else s

/-- Pack energy over a tick: `w` in units of 0.0025 W, `p` the period in 10 ns (R484). -/
def State.integrate (s : State) (w : Int) (p : Nat) : State :=
  let unit : Nat := 144000000000
  let i := s.aon.accIn + (max w 0).toNat * p
  let o := s.aon.accOut + (max (-w) 0).toNat * p
  { s with aon := { s.aon with accIn := i % unit, eIn := (s.aon.eIn + i / unit) % 2 ^ 64, accOut := o % unit, eOut := (s.aon.eOut + o / unit) % 2 ^ 64 } }

/-! ### RECORD frames (R470, R476, R488) -/

/-- The records of a RECORD frame at a Basin: KIND in PARAM bits 7:0, COUNT in bits 15:8 (R476). -/
def recFrameEvents (m : Mgmt) : List EvRec := if bitsOf m.param 0 8 = 1 then (records (bitsOf m.param 8 8) m.payload).map evOf else []
def recFrameLedger (m : Mgmt) : List LedgerRec := if bitsOf m.param 0 8 = 2 then (records (bitsOf m.param 8 8) m.payload).map ledgerOf else []

/-- Whether a Spring's event record is new here; its LSEQ is kept beside the last 256 of its epoch (R476). -/
def State.newLseq (s : State) (sp lseq : Nat) : Option State :=
  let e := ((s.lnk.enrolled.find? (fun (x : Enr) => x.spring == sp)).bind (fun (x : Enr) => x.epoch)).getD 256
  let own := s.recd.seenLseq.filter (fun (x : Nat × Nat × Nat) => x.1 == sp && x.2.1 == e)
  if own.any (fun (x : Nat × Nat × Nat) => x.2.2 == lseq) then none
  else
    let waits := (s.recd.staging.filter (fun r => r.source == sp)).length
    let own := own ++ [(sp, e, lseq)]
    some { s with recd := { s.recd with seenLseq := s.recd.seenLseq.filter (fun (x : Nat × Nat × Nat) => x.1 != sp) ++ own.drop (own.length - (257 + waits)) } }

/-- What a Spring's record tells the active Basin's Sluice: a group that has expired, or a reset that is stuck, asks for its withdrawal (R399, R531), and a push applied after its swap's tick
is withdrawn (R516). -/
def State.sprEvent (s : State) (sp : Nat) (r : EvRec) : State :=
  let ask := fun (c : Nat) => if s.dispatches then { s with slu := { s.slu with reqs := s.slu.reqs ++ [(sp, c, 0)] } } else s
  let expired := s.slu.expired.filter (· != sp)
  if r.source != sp then s
  else if r.code == Ev.DEGRADED_EXPIRED then
    let s := ask 8
    { s with slu := { s.slu with expired := expired ++ [sp] } }
  else if r.code == Ev.VOTE_RESTORED then { s with slu := { s.slu with expired := expired } }
  else if r.code == Ev.RESET_STUCK then ask 10
  else if r.code == Ev.PUSH_DONE then
    match s.tbl.watch.find? (fun (x : Nat × Nat × Nat) => x.1 == sp && x.2.1 == Config.payloadValue r.code r.payload 0) with
    | some (_, _, a) =>
      let t := Config.payloadValue r.code r.payload 1
      let s := { s with tbl := { s.tbl with watch := s.tbl.watch.filter (fun (x : Nat × Nat × Nat) => x.1 != sp) } }
      if t == a || !s.dispatches then s
      else { s with slu := { s.slu with reqs := s.slu.reqs ++ [(sp, 9, 0)] } }.raise Ev.SPRING_SWAP_LATE [sp, a, t]
    | none => s
  else s

/-- A Spring's event record staged as it came (R470, R475). -/
def State.takeEvent (s : State) (sp : Nat) (r : EvRec) : State :=
  match s.newLseq sp r.lseq with
  | none => s
  | some s' =>
    let s := s.sprEvent sp r
    let t := (s'.sprEvent sp r).lostFirst
    if t.evStaged < 256 then { t with recd := { t.recd with staging := t.recd.staging ++ [{ r with seq := 0, commit := 0xFF }] } }
    else (s.lostFirst).loseRec

/-- BASIN_CLOSE for the tenure a restarted Spring lost (R488). -/
def State.basinClose (s : State) (sp : Nat) (low : Option (Nat × Nat)) : State :=
  match ((s.nor.ledger.flatten ++ s.recd.led).filter (fun r => r.index == sp)).getLast? with
  | none => s
  | some r =>
    if r.kind = lkCLOSE || r.kind = lkBASIN then s
    else
      let up := fun (old new : Nat) => let v := old / 2 ^ 32 * 2 ^ 32 + new % 2 ^ 32; if new % 2 ^ 32 < old % 2 ^ 32 then v + 2 ^ 32 else v
      let c : LedgerRec := { r with
        eIn := match low with
          | some x => up r.eIn x.1
          | none => r.eIn
        eOut := match low with
          | some x => up r.eOut x.2
          | none => r.eOut
        recSec := s.todSec % 2 ^ 32, epoch := s.get F.TIME_STATUS.EPOCH, rseq := (r.rseq + 1) % 2 ^ 16, kind := lkBASIN, todValid := s.time.todValid
        unauth := true, tag := 0, lseq := 0 }
      ({ s with recd := { s.recd with led := s.recd.led ++ [c] } }).raise Ev.LEDGER_UNAUTH_CLOSE [sp, bytesAt r.packSerial 0 8]

/-- A Spring's ledger record taken; the first one after a restart decides whether its tenure was lost (R488). -/
def State.takeLedger (s : State) (sp : Nat) (r : LedgerRec) : State :=
  let s := match s.recd.restarted.find? (fun (x : Nat × Option (Nat × Nat)) => x.1 == sp) with
    | some x =>
      let s := { s with recd := { s.recd with restarted := s.recd.restarted.filter (fun (x : Nat × Option (Nat × Nat)) => x.1 != sp) } }
      if r.kind = lkOPEN then s.basinClose sp x.2 else s
    | none => s
  { s with recd := { s.recd with led := s.recd.led ++ [r] } }

/-- A Spring sends staged records, ledger records first, to the Basin whose TICK frames it last accepted (R248, R373, R476). -/
def State.sendRecords (s : State) : State :=
  match s.spr.hdr with
  | none => s
  | some h =>
    let d := if h.side == .a then 0xC0 else 0xC1
    if !s.flag F.LNK_SPOS.ENROLLED then s
    else if !s.aon.ledger.isEmpty then
      let l := s.aon.ledger.take 4
      let s := { s with aon := { s.aon with ledger := s.aon.ledger.drop 4 } }
      s.sendSeq d opRECORD (2 + 256 * l.length) (l.flatMap ledgerFull) (.ledger l)
    else if !s.recd.staging.isEmpty then
      let l := s.recd.staging.take 4
      let s := { s with recd := { s.recd with staging := s.recd.staging.drop 4 } }
      s.sendSeq d opRECORD (1 + 256 * l.length) (l.flatMap evBytes) (.event l)
    else s

/-- The four energy registers latched (R498). -/
def State.energyLatch (s : State) : State :=
  (((s.set F.REC_E_IN_LO.VALUE (s.aon.eIn % 2 ^ 32)).set F.REC_E_IN_HI.VALUE (s.aon.eIn / 2 ^ 32)).set F.REC_E_OUT_LO.VALUE (s.aon.eOut % 2 ^ 32)).set
    F.REC_E_OUT_HI.VALUE (s.aon.eOut / 2 ^ 32)

end Sys2Proof.Machine
end

