-- ==== Sys2Proof/Machine/Recorder.lean ====
section
/-! DEFINITION. Recorder.lean: the meanings of the recorder, ledger and NOR commands (16_recorder_ledger_nor). -/
namespace Sys2Proof.Machine

/-- RECORD (R470, R476, R488): a Basin takes the records of a frame; a Spring sends the next of its staged records. -/
def execRecord (dt : Nat) (port : Fin 12) (bs : List Block) (s : State) : Out := whenLive s fun s =>
  let s := s.advance dt
  match s.role with
  | .spring => s.sendRecords
  | .basin => s.mgmtSeq port bs (·.op == opRECORD) fun m s =>
    let s := (recFrameEvents m).foldl (fun (s : State) (r : EvRec) => s.takeEvent m.src r) s
    (recFrameLedger m).foldl (fun (s : State) (r : LedgerRec) => s.takeLedger m.src r) s

/-- RECORD_COMMIT (R471, R475, R478, R480 to R483, R487). -/
def execRecordCommit (dt : Nat) (s : State) : Out := onBasin s fun s => (s.advance dt).commitOne

/-- RATE_SUMMARY (R473): the bucket is full again with a suppressed count no record has carried. -/
def execRateSummary (dt : Nat) (code : Nat) (s : State) : Out := whenLive s fun s =>
  let s := s.advance dt
  let b := s.bucketOf code
  let a := s.attrOf code
  if b.pend != 0 && a.rate != 0 && decide (a.burst * tokenUnit ≤ b.level) then (s.putBucket { b with pend := 0 }).raise Ev.RATE_SUMMARY [code, b.pend] else s

/-- LOG_FREEZE (R478). -/
def execLogFreeze (dt : Nat) (q : Fin 16) (s : State) : Out := onBasin s fun s => (s.advance dt).op q ocFREEZE fun s x =>
  let s := if s.recStopped then s
    else { s with recd := { s.recd with frozen := true, frozenAt := s.time.cyc, lostInFreeze := if s.recd.frozen then s.recd.lostInFreeze else 0 } }
  s.settle x.id stOK 0 s.recd.lastSeq 0 0

/-- LOG_THAW (R478). -/
def execLogThaw (dt : Nat) (q : Fin 16) (s : State) : Out := onBasin s fun s => (s.advance dt).op q ocTHAW fun s x =>
  if s.recd.frozen then
    let n := s.recd.lostInFreeze
    (s.thaw).settle x.id stOK 0 n 0 0
  else s.refuse x.id stOKEMPTY 0

/-- FREEZE_TIMEOUT (R478). -/
def execFreezeTimeout (dt : Nat) (s : State) : Out := onBasin s fun s =>
  let s := s.advance dt
  if s.recd.frozen && decide (s.recd.frozenAt + 50000000 * s.get F.REC_CFG.FREEZE_MAX ≤ s.time.cyc) then
    let n := s.recd.lostInFreeze
    s.thaw.raise Ev.FREEZE_TIMEOUT [n]
  else s

/-- LOG_READ (R479): `bad` names records whose CRC fails when they are read, by place in the area from its oldest, with physical block and slot. -/
def execLogRead (dt : Nat) (q : Fin 16) (bad : List (Nat × Nat × Nat)) (s : State) : Out := onBasin s fun s => (s.advance dt).op q ocLOGREAD fun s x =>
  if !s.norUsable then s.refuse x.id stLIMIT 0x0E
  else
    let area := bytesAt x.d.param 0 1
    let start := bytesAt x.d.param 4 4
    let all := s.areaRecs area
    let skip := if start = 0xFFFFFFFF then 0 else (all.takeWhile (fun r => decide (r.seq < start))).length
    let (good, failed) := readRecs bad skip (x.d.length / 64) (all.drop skip)
    let early := start != 0xFFFFFFFF && (match all.head? with
      | some r => decide (start < r.seq)
      | none => false)
    let s := failed.foldl (fun (s : State) (f : Nat × Nat) => s.raise Ev.REC_CRC_BAD [area, f.1, f.2]) s
    let s := if good.isEmpty then s else s.emit (.hostWrite x.d.buffer (good.flatMap evBytes))
    let result := good.length + 2 ^ 31 * b2n early + 2 ^ 30 * b2n (!failed.isEmpty)
    s.settle x.id (if good.isEmpty then stOKEMPTY else stOK) (((good.getLast?).map (fun r => (r.seq + 1) % 2 ^ 32)).getD start) result 0 0

/-- LEDGER_READ (R487): as LOG_READ, by LSEQ and without CRC checks; REC_LEDGER_RD rises. -/
def execLedgerRead (dt : Nat) (q : Fin 16) (s : State) : Out := onBasin s fun s => (s.advance dt).op q ocLEDGER fun s x =>
  if !s.norUsable then s.refuse x.id stLIMIT 0x0E
  else
    let start := bytesAt x.d.param 4 4
    let all := s.nor.ledger.flatten
    let good := ((if start = 0xFFFFFFFF then all else all.filter (fun r => decide (start ≤ r.lseq))).take (x.d.length / 64))
    let early := start != 0xFFFFFFFF && (match all.head? with
      | some r => decide (start < r.lseq)
      | none => false)
    match good.getLast? with
    | none => s.refuse x.id stOKEMPTY start
    | some r =>
      let s := { s with nor := { s.nor with ledgerRd := max s.nor.ledgerRd r.lseq } }.emit (.hostWrite x.d.buffer (good.flatMap ledgerFull))
      s.settle x.id stOK ((r.lseq + 1) % 2 ^ 32) (good.length + 2 ^ 31 * b2n early) 0 0

/-- ERASE_FIRST (R480). -/
def execEraseFirst (s : State) : Out := onBasin s fun s => s.recCtrl s.cfgLocked (2 ^ 30)

/-- FORMAT (R493). -/
def execFormat (s : State) : Out := onBasin s fun s => s.recCtrl s.cfgLocked (2 ^ 31)

/-- NOR_BLOCK_BAD (R494, R497, R512): logical block `lb` is retired; during a sag its copy waits. -/
def execNorBlockBad (dt : Nat) (lb k : Nat) (cause : Fin 3) (s : State) : Out := onBasin s fun s =>
  let s := s.advance dt
  if !s.norUsable then s
  else if s.nor.sag then { s with recd := { s.recd with retire := s.recd.retire ++ [(lb, k, cause.val)] } }
  else s.retireBlock lb k cause

/-- LEDGER_PERIODIC (R485): with a valid time of day a multiple of INT has passed, otherwise INT seconds since the last record. -/
def execLedgerPeriodic (dt : Nat) (s : State) : Out := onSpring s fun s =>
  let s := s.advance dt
  let n := s.get F.REC_LEDGER_CFG.INT
  if !s.aon.tenureOpen then s
  else if s.time.todValid then
    if s.aon.lastTod / n != s.todSec / n then s.ledgerRec lkPERIODIC else { s with aon := { s.aon with lastTod := s.todSec } }
  else if s.aon.lastLedger + n * 1000000000 ≤ s.time.ext then s.ledgerRec lkPERIODIC
  else s

/-- E_IN_LATCH_READ (R498): a read of REC_E_IN_LO latches the four energy registers. -/
def execEInLatchRead (s : State) : Out := onSpring s State.energyLatch

end Sys2Proof.Machine
end

