-- ==== Sys2Proof/Machine/CanOps.lean ====
section
/-! DEFINITION. CanOps.lean: the message RAM, its windows, filters, FIFOs and buffers, and the pack decoder (R441 to R465). -/
namespace Sys2Proof.Machine

/-! ### The message RAM (R446) -/

/-- The byte at an address; one not listed reads 0. -/
def ramByte : List Host.Cell → Nat → Byte
  | [], _ => 0#8
  | (k, v) :: t, a => if k = a then v else ramByte t a

/-- The list without an address. -/
def ramErase : List Host.Cell → Nat → List Host.Cell
  | [], _ => []
  | (k, v) :: t, a => if k = a then ramErase t a else (k, v) :: ramErase t a

/-- A cell put in its place by rising address. -/
def ramInsert : List Host.Cell → Nat → Byte → List Host.Cell
  | [], a, v => [(a, v)]
  | (k, w) :: t, a, v => if a < k then (a, v) :: (k, w) :: t else (k, w) :: ramInsert t a v

/-- A byte written: 0 is what an unlisted address reads, so it is not listed. -/
def ramPut (l : List Host.Cell) (a : Nat) (v : Byte) : List Host.Cell := if v = 0#8 then ramErase l a else ramInsert (ramErase l a) a v

/-- The canonical form: addresses below 65,536 strictly rising, no listed byte 0. -/
def ramWf : List Host.Cell → Bool
  | [] => true
  | (k, v) :: t => decide (k < 65536) && v != 0#8 && (t.all (fun x => decide (k < x.1))) && ramWf t

/-- The bytes of a run of addresses. -/
def State.ramBytes (s : State) (a n : Nat) : List Nat := (List.range n).map (fun i => (ramByte s.can.ram (a + i)).toNat)

/-- A byte stored; the RAM ends at 64 KB. -/
def State.ramSet (s : State) (a : Nat) (v : Byte) : State := if a < 65536 then { s with can := { s.can with ram := ramPut s.can.ram a v } } else s

/-- Bytes stored from an address on. -/
def State.ramStore : List Nat → Nat → State → State
  | [], _, s => s
  | b :: t, a, s => State.ramStore t (a + 1) (s.ramSet a (BitVec.ofNat 8 b))

/-- A 32-bit word of the RAM. -/
def State.ramWord (s : State) (a : Nat) : Nat := leVal (s.ramBytes a 4)

/-! ### Regions, FIFOs and windows (R446, R450 to R452) -/

def State.canUnit (s : State) (n : Nat) : CanUnit := s.can.units.getD n {}
def State.modCan (s : State) (n : Nat) (f : CanUnit → CanUnit) : State := { s with can := { s.can with units := s.can.units.set n (f (s.canUnit n)) } }

/-- Windows: 0 RXF0, 1 RXF1, 2 RXB, 3 TEF. Byte address and element count of the region a window looks into, and its element size. -/
def State.winBase (s : State) (n w : Nat) : Nat :=
  4 * (match w with
    | 0 => s.get (F.CAN_RAMRX0.BASE n)
    | 1 => s.get (F.CAN_RAMRX1.BASE n)
    | 2 => s.get (F.CAN_RAMRXB.BASE n)
    | _ => s.get (F.CAN_RAMTEF.BASE n))
def State.winCount (s : State) (n w : Nat) : Nat := match w with
  | 0 => s.get (F.CAN_RAMRX0.COUNT n)
  | 1 => s.get (F.CAN_RAMRX1.COUNT n)
  | 2 => s.get (F.CAN_RAMRXB.COUNT n)
  | _ => s.get (F.CAN_RAMTEF.COUNT n)
def winSize (w : Nat) : Nat := if w = 3 then 12 else 80

/-- The FIFO of a window, its fill level field and its full flag. -/
def CanUnit.fifo (u : CanUnit) (w : Nat) : FifoSt := if w = 0 then u.rx0 else if w = 1 then u.rx1 else u.tef
def CanUnit.setFifo (u : CanUnit) (w : Nat) (x : FifoSt) : CanUnit := if w = 0 then { u with rx0 := x } else if w = 1 then { u with rx1 := x } else { u with tef := x }
def fillFld (n w : Nat) : Fld := if w = 0 then F.CAN_FIFO.RXF0_FILL n else if w = 1 then F.CAN_FIFO.RXF1_FILL n else F.CAN_FIFO.TEF_FILL n
def fullFld (n w : Nat) : Fld := if w = 0 then F.CAN_FIFO.RXF0_FULL n else if w = 1 then F.CAN_FIFO.RXF1_FULL n else F.CAN_FIFO.TEF_FULL n

/-- A FIFO's fill level set, with its full flag. -/
def State.setFill (s : State) (n w k : Nat) : State := (s.set (fillFld n w) k).setFlag (fullFld n w) (k == s.winCount n w && k != 0)

/-- The receive buffer the RXB window shows: a locked one stays shown (R450). -/
def State.rxbShown (s : State) (n : Nat) : Nat := match (s.canUnit n).rxbLock with
  | some x => x.1
  | none => s.get (F.CAN_SEL.RXB n)

/-- The byte address of the element a window shows, if it shows one. -/
def State.winElem (s : State) (n w : Nat) : Option Nat :=
  if w = 2 then (if s.rxbShown n < s.winCount n 2 then some (s.winBase n 2 + 80 * s.rxbShown n) else none)
  else if s.get (fillFld n w) = 0 then none
  else some (s.winBase n w + winSize w * ((s.canUnit n).fifo w).get)

/-- When the element a window shows was locked. -/
def State.lockedAt (s : State) (n w : Nat) : Option Nat :=
  if w = 2 then (s.canUnit n).rxbLock.map (·.2) else ((s.canUnit n).fifo w).lockAt

/-- A read of word 0 locks the element shown (R450). -/
def State.elemLock (s : State) (n w : Nat) : State :=
  if (s.winElem n w).isNone || (s.lockedAt n w).isSome then s
  else if w = 2 then s.modCan n (fun u => { u with rxbLock := some (s.rxbShown n, s.time.cyc) })
  else s.modCan n (fun u => u.setFifo w { u.fifo w with lockAt := some s.time.cyc })

/-- The lock goes, the element stays (R451). -/
def State.elemUnlock (s : State) (n w : Nat) : State :=
  if w = 2 then s.modCan n (fun u => { u with rxbLock := none }) else s.modCan n (fun u => u.setFifo w { u.fifo w with lockAt := none })

/-- The head of a FIFO is freed. -/
def State.fifoPop (s : State) (n w : Nat) : State :=
  let c := s.winCount n w
  let s := s.modCan n (fun u => u.setFifo w { u.fifo w with get := if c = 0 then 0 else ((u.fifo w).get + 1) % c })
  s.setFill n w (s.get (fillFld n w) - 1)

/-- A receive buffer's CANn_RXB_NEW bit. -/
def newFld (n b : Nat) : Fld := if b < 32 then F.CAN_RXB_NEW0.BUF n else F.CAN_RXB_NEW1.BUF n

/-- A read of the last word releases a locked element and frees it (R450). -/
def State.elemRelease (s : State) (n w : Nat) : State :=
  if (s.lockedAt n w).isNone then s
  else if w = 2 then
    let b := s.rxbShown n
    (s.elemUnlock n 2).setBit (newFld n b) (b % 32) false
  else (s.elemUnlock n w).fifoPop n w

/-! ### Frames and elements (R447, R448) -/

/-- Data bytes of a DLC. -/
def dlcLen (fdf : Bool) (dlc : Nat) : Nat :=
  if dlc ≤ 8 then dlc
  else if !fdf then 8
  else (([12, 16, 20, 24, 32, 48, 64] : List Nat).getD (dlc - 9) 64)

/-- Word 0 of an element. -/
def elemWord0 (f : CanFrame) : Nat := 2 ^ 31 * b2n f.esi + 2 ^ 30 * b2n f.ide + 2 ^ 29 * b2n f.rtr + (if f.ide then f.id % 2 ^ 29 else f.id % 2 ^ 11 * 2 ^ 18)

/-- Data bytes a frame carries; a remote frame has none. -/
def canBytes (f : CanFrame) : List Nat := if f.rtr then [] else f.data.take (dlcLen f.fdf f.dlc)

/-- The 80 bytes of a receive element. -/
def rxElem (f : CanFrame) (fidx : Nat) (anmf : Bool) (stamp rseq : Nat) : List Nat :=
  leBytes 4 (elemWord0 f) ++ leBytes 4 (fidx * 2 ^ 16 + 2 ^ 15 * b2n anmf + 2 ^ 13 * b2n f.fdf + 2 ^ 12 * b2n f.brs + f.dlc % 16 * 2 ^ 8) ++ leBytes 4 stamp ++
    ((canBytes f) ++ List.replicate 64 0).take 64 ++ leBytes 4 (rseq % 2 ^ 16 * 2 ^ 16)

/-- The byte address of a transmit buffer. -/
def State.txAddr (s : State) (n b : Nat) : Nat := 4 * s.get (F.CAN_RAMTX.BASE n) + 80 * b

/-- The frame a transmit element spells, as it is sent (R447, R457). -/
def State.txFrame (s : State) (n b : Nat) : CanFrame :=
  let a := s.txAddr n b
  let w0 := s.ramWord a
  let w1 := s.ramWord (a + 4)
  let ide := bitOf w0 30
  let fdf := bitOf w1 21
  let rtr := bitOf w0 29
  let dlc := bitsOf w1 16 4
  { ide := ide, id := if ide then bitsOf w0 0 29 else bitsOf w0 18 11, rtr := rtr, fdf := fdf, brs := fdf && bitOf w1 20 && s.flag (F.CAN_CTRL.BRSE n),
    esi := fdf && s.get (F.CAN_ECR.STATE n) == 1, dlc := dlc, data := if rtr then [] else s.ramBytes (a + 12) (dlcLen fdf dlc) }

/-! ### Reception (R450, R452 to R455) -/

/-- Frames of the safety PDU's reserved filter element (R455). -/
def State.pduFilter (s : State) (n : Nat) (ide : Bool) : Bool :=
  s.role == .basin && s.flag F.SAFE_PDU_CFG.RX_EN && s.get F.SAFE_PDU_CFG.UNIT == n && s.flag F.SAFE_PDU_RXID.IDE == ide

/-- What the filters decide: the action, the element (0x7F none), whether none matched, whether the frame goes to the pack decoder, the receive buffer. -/
structure FiltRes where
  act : Nat
  fidx : Nat
  anmf : Bool
  dec : Bool
  buf : Nat
  deriving DecidableEq, Repr

/-- One filter element against an identifier (R453, R454). -/
def filtMatch (ty act id1 id2 id : Nat) : Bool :=
  if 5 ≤ act then false
  else if act = 4 then id == id1
  else if ty = 0 then decide (id1 ≤ id) && decide (id ≤ id2)
  else if ty = 1 then id == id1 || id == id2
  else if ty = 2 then (id &&& id2) == (id1 &&& id2)
  else false

/-- The element of a kind at an index, against an identifier. -/
def State.filtAt (s : State) (n : Nat) (ide : Bool) (i id : Nat) : Option FiltRes :=
  if ide then
    let a := 4 * s.get (F.CAN_RAMXF.BASE n) + 8 * i
    let w0 := s.ramWord a
    let w1 := s.ramWord (a + 4)
    if filtMatch (bitsOf w1 30 2) (bitsOf w0 29 3) (bitsOf w0 0 29) (bitsOf w1 0 29) id then some ⟨bitsOf w0 29 3, i, false, bitOf w1 29, bitsOf w1 0 6⟩ else none
  else
    let w := s.ramWord (4 * s.get (F.CAN_RAMSF.BASE n) + 4 * i)
    if filtMatch (bitsOf w 30 2) (bitsOf w 27 3) (bitsOf w 16 11) (bitsOf w 0 11) id then some ⟨bitsOf w 27 3, i, false, bitOf w 15, bitsOf w 0 6⟩ else none

/-- What happens to a frame (R454): action 3 rejects. -/
def State.filter (s : State) (n : Nat) (f : CanFrame) : FiltRes :=
  let none' : FiltRes := ⟨3, 0x7F, true, false, 0⟩
  if s.remoteBarred n f then none'
  else
    let c := s.get (if f.ide then F.CAN_RAMXF.COUNT n else F.CAN_RAMSF.COUNT n)
    let pdu := s.pduFilter n f.ide && c != 0
    if pdu && f.id == s.get F.SAFE_PDU_RXID.ID then none'
    else
      match (List.range (c - b2n pdu)).findSome? (fun i => s.filtAt n f.ide i f.id) with
      | some r => r
      | none =>
        let g := s.get (if f.ide then F.CAN_GFC.ANFE n else F.CAN_GFC.ANFS n)
        if g = 0 then ⟨1, 0x7F, true, false, 0⟩ else if g = 1 then ⟨2, 0x7F, true, false, 0⟩ else none'

/-- An accepted frame finds no room: the first of a run is reported (R452). `which` 0 and 1 the FIFOs, 0x80 and above a receive buffer. -/
def State.rxLost (s : State) (n which : Nat) : State :=
  let s := s.inc (F.CAN_CNT0.RX_LOST n)
  let was := if which = 0 then (s.canUnit n).rx0.losing else if which = 1 then (s.canUnit n).rx1.losing else (s.canUnit n).bufLosing
  let s := s.modCan n (fun u =>
    if which = 0 then { u with rx0 := { u.rx0 with losing := true } } else if which = 1 then { u with rx1 := { u.rx1 with losing := true } } else { u with bufLosing := true })
  if was then s else s.raise Ev.RX_LOST [n, which]

/-- The next receive count. -/
def State.nextRseq (s : State) (n : Nat) : State × Nat :=
  let k := ((s.canUnit n).rseq + 1) % 65536
  (s.modCan n (fun u => { u with rseq := k }), k)

/-- A frame stored in a receive FIFO, or discarded (R450, R452). -/
def State.fifoStore (s : State) (n w : Nat) (f : CanFrame) (fidx : Nat) (anmf : Bool) (stamp : Nat) : State :=
  let c := s.winCount n w
  let fill := s.get (fillFld n w)
  let base := s.winBase n w
  let u := (s.canUnit n).fifo w
  let done := fun (s : State) (i : Nat) =>
    let (s, k) := s.nextRseq n
    (State.ramStore (rxElem f fidx anmf stamp k) (base + 80 * (i % c)) s).modCan n (fun x => x.setFifo w { x.fifo w with losing := false })
  if fill < c then (done s (u.get + fill)).setFill n w (fill + 1)
  else if !s.flag (if w = 0 then F.CAN_CTRL.RXF0_OW n else F.CAN_CTRL.RXF1_OW n) then s.rxLost n w
  else if u.lockAt.isNone then (if c = 0 then s.rxLost n w else done (s.modCan n (fun x => x.setFifo w { x.fifo w with get := (u.get + 1) % c })) u.get)
  else if c < 2 then s.rxLost n w
  else
    let s := (List.range (c - 2)).foldl (fun (s : State) i =>
      State.ramStore (s.ramBytes (base + 80 * ((u.get + i + 2) % c)) 80) (base + 80 * ((u.get + i + 1) % c)) s) s
    done s (u.get + c - 1)

/-- A frame stored in a receive buffer, unless it is locked (R452). -/
def State.bufStore (s : State) (n b : Nat) (f : CanFrame) (fidx : Nat) (stamp : Nat) : State :=
  if s.winCount n 2 ≤ b || ((s.canUnit n).rxbLock.map (fun (x : Nat × Nat) => x.1)) == some b then s.rxLost n (0x80 + b)
  else
    let (s, k) := s.nextRseq n
    ((State.ramStore (rxElem f fidx false stamp k) (s.winBase n 2 + 80 * b) s).hwSet (newFld n b) (b % 32)).modCan n (fun u => { u with bufLosing := false })

/-! ### The pack decoder (R461 to R465) -/

/-- A field's raw value: bits past the data read 0. -/
def fieldRaw (data : List Nat) (bits : List Nat) : Nat :=
  (bits.zip (List.range bits.length)).foldl (fun v x => v + 2 ^ x.2 * b2n (bitOf (data.getD (x.1 / 8) 0) (x.1 % 8))) 0

/-- The bounds of a field's format, where R462 saturates. -/
def fieldRange (code : Nat) : Int × Int := if code = 2 || code = 3 || code = 4 then (-32768, 32767) else (0, 65535)

/-- The working record's value of a code. -/
def PackSt.val (p : PackSt) (code : Nat) : Int := ((p.work.find? (fun (x : Nat × Int) => x.1 == code)).map (fun (x : Nat × Int) => x.2)).getD 0

def State.modPack (s : State) (f : PackSt → PackSt) : State := { s with can := { s.can with pack := f s.can.pack } }

/-- A value stored in the working record; its code is fresh. -/
def State.packStore (s : State) (code : Nat) (v : Int) : State :=
  (s.modPack (fun p => { p with work := p.work.filter (fun (x : Nat × Int) => x.1 != code) ++ [(code, v)] })).setBit F.CAN_PACK_STAT.FRESH code true

/-- A row skipped as short: counted, its first time reported. -/
def State.rowShort (s : State) (i len : Nat) : State :=
  let s := s.inc F.CAN_PACK_CNT.ROW_SHORT
  if s.can.pack.shortRows.contains i then s
  else (s.modPack (fun p => { p with shortRows := p.shortRows ++ [i] })).raise Ev.BMS_ROW_SHORT [i, len]

/-- One row of the profile against a frame (R462). -/
def State.decodeRow (s : State) (p : List Nat) (f : CanFrame) (i : Nat) : State :=
  let r := bmsRow p i
  let data := canBytes f
  if r.field = 0 || 0xE ≤ r.field || r.canId != 2 ^ 31 * b2n f.ide + f.id then s
  else if r.muxStart != 0xFFFF && fieldRaw data (canFieldBits r.muxStart r.muxLen r.big) != r.muxVal then s
  else
    let bits := canFieldBits r.start r.len r.big
    if bits.any (fun b => decide (8 * data.length ≤ b)) then s.rowShort i data.length
    else
      let u := fieldRaw data bits
      if r.field = 0xD then
        let old := (s.can.pack.val 0xD).toNat
        let set := (List.range r.len).foldl (fun (m : Nat) k =>
          let j := r.offset.toNat + k
          if j ≤ 15 then (if bitOf u k then m ||| 2 ^ j else m &&& (0xFFFF - 2 ^ j)) else m) old
        s.packStore 0xD set
      else
        let raw := if r.signed then toSigned r.len u else (u : Int)
        if 9 ≤ r.field then s.packStore r.field raw else
        let x := (raw * r.scale + 2 ^ 15).fdiv (2 ^ 16) + r.offset
        let v := clampInt (fieldRange r.field).1 (fieldRange r.field).2 x
        let s := s.packStore r.field v
        if v = x then s else (s.set F.CAN_PACK_CNT.SAT 1).raise Ev.BMS_FIELD_SAT [i, sPay raw]

/-- The ten words of the standard record, from the working record (R467). -/
def State.packWords (s : State) : List Nat :=
  let h := fun c => ofSigned 16 (s.can.pack.val c)
  [h 2 * 65536 + h 1, h 4 * 65536 + h 3, h 6 * 65536 + h 5, h 8 * 65536 + h 7, h 0xD] ++ ([9, 10, 11, 12] : List Nat).map (fun c => ofSigned 32 (s.can.pack.val c)) ++ [s.stamp]

/-- A complete record (R463 to R465). -/
def State.packComplete (s : State) (p : List Nat) : State :=
  let first := s.can.pack.doneAt.isNone
  let serial := ((s.packWords.drop 5).take 4).flatMap (leBytes 4)
  let s := s.modPack (fun x => { x with std := s.packWords, doneAt := some s.time.cyc })
  let s := (((s.set F.CAN_PACK_STAT.FRESH 0).set F.CAN_PACK_STAT.VALID 1).inc F.CAN_PACK_CNT.COMPLETE).set F.CAN_PACK_CNT.SAT 0
  let s := if first then s.raise Ev.PACK_FIRST [img8 p 0, leVal serial] else s
  let s := if s.flag F.CAN_PACK_STAT.STALE then (s.set F.CAN_PACK_STAT.STALE 0).raise Ev.BMS_FRESH [(s.time.cyc - s.can.pack.staleAt) / 500000] else s
  let again := s.can.pack.lastSerial == serial && !first
  let s := s.modPack (fun x => { x with lastSerial := serial })
  if again && serial != s.aon.packId then (s.raise Ev.PACK_ID_CHANGE [leVal s.aon.packId, leVal serial]).newTenure serial else s

/-- A frame given to the decoder of a Spring (R454, R462). -/
def State.packDecode (s : State) (n : Nat) (f : CanFrame) : State :=
  if s.role != .spring || !s.flag F.CAN_PACK_CFG.EN then s
  else
    match s.profile with
    | none => s
    | some p =>
      if img8 p 1 != n then s
      else
        let s := (List.range (img8 p 2)).foldl (fun (s : State) i => s.decodeRow p f i) s
        let need := img16 p 4
        if (need &&& s.get F.CAN_PACK_STAT.FRESH) == need then s.packComplete p else s

/-- A frame received: filtered, decoded, stored (R452 to R454). -/
def State.canReceive (s : State) (n : Nat) (f : CanFrame) (stamp : Nat) : State :=
  let r := s.filter n f
  let s := if r.dec then s.packDecode n f else s
  if r.act = 1 then s.fifoStore n 0 f r.fidx r.anmf stamp
  else if r.act = 2 then s.fifoStore n 1 f r.fidx r.anmf stamp
  else if r.act = 4 then s.bufStore n r.buf f r.fidx stamp
  else s

/-! ### Transmission (R455 to R460) -/

/-- The transmit buffer the safety PDU holds (R455). -/
def State.pduBuffer (s : State) (n b : Nat) : Bool :=
  s.role == .basin && s.flag F.SAFE_PDU_CFG.TX_EN && s.get F.SAFE_PDU_CFG.UNIT == n && b + 1 == s.get (F.CAN_RAMTX.COUNT n)

/-- A transmit buffer software may use. -/
def State.txUsable (s : State) (n b : Nat) : Bool := decide (b < s.get (F.CAN_RAMTX.COUNT n)) && !s.pduBuffer n b

/-- The number that stands for the internal buffer of the reference messages (R460) among the transmit buffers. -/
def refBuf : Nat := 32

def State.txReqd (s : State) (n b : Nat) : Bool :=
  if b = refBuf then (s.canUnit n).reqAt.any (fun (x : Nat × Nat) => x.1 == refBuf) else bitOf (s.get (F.CAN_TXREQ.BUF n)) b

/-- The CAN clock cycle of 12.5 ns (R444). -/
def State.canCycle (s : State) : Nat := 2 * s.upNs / 25

/-- A buffer is requested. -/
def State.txAsk (s : State) (n b : Nat) : State :=
  (s.when (b != refBuf) (fun s => (s.setBit (F.CAN_TXREQ.BUF n) b true).setBit (F.CAN_TXCAN.BUF n) b false)).modCan n (fun u =>
    { u with reqAt := u.reqAt ++ [(b, s.upNs)] })

/-- A request gone. -/
def State.txDrop (s : State) (n b : Nat) : State :=
  (s.when (b != refBuf) (fun s => s.setBit (F.CAN_TXREQ.BUF n) b false)).modCan n (fun u =>
    { u with reqAt := u.reqAt.filter (fun (x : Nat × Nat) => x.1 != b), noRetry := u.noRetry.filter (· != b) })

/-- A refusal (R457, R460): cause 0 FDF without FDOE, 1 RTR with FDF, 2 the mode, 3 the station state; `b` 0x20 the reference message. -/
def State.txRefused (s : State) (n b cause : Nat) : State := (s.inc (F.CAN_CNT1.TX_REFUSED n)).raise Ev.TX_REFUSED [n, b, evNum Ev.TX_REFUSED cause]

/-- Why a frame cannot be requested now (R457). -/
def State.txCause (s : State) (n : Nat) (f : CanFrame) : Option Nat :=
  if f.fdf && !s.flag (F.CAN_CTRL.FDOE n) then some 0
  else if f.rtr && f.fdf then some 1
  else if s.flag (F.CAN_CTRL.INIT n) || s.get (F.CAN_CTRL.MODE n) == 1 || s.get (F.CAN_CTRL.MODE n) == 2 then some 2
  else none

/-- A TXREQ bit set (R456, R457); a TXCAN bit set in the same CAN cycle governs (R458). -/
def State.txRequest (s : State) (n b : Nat) : State :=
  if !s.txUsable n b || s.txReqd n b || (s.canUnit n).canAt.contains (b, s.canCycle) then s
  else
    match s.txCause n (s.txFrame n b) with
    | some c => s.txRefused n b c
    | none => s.txAsk n b

/-- The order in which the bus puts frames (R456): the arbitration field of a frame, least first. Base identifier, then RTR or SRR, then IDE, then the extension
and its RTR. -/
def arbKey (f : CanFrame) : Nat :=
  if f.ide then f.id / 2 ^ 18 % 2 ^ 11 * 2 ^ 21 + 2 ^ 20 + 2 ^ 19 + f.id % 2 ^ 18 * 2 + b2n f.rtr
  else f.id % 2 ^ 11 * 2 ^ 21 + 2 ^ 20 * b2n f.rtr

/-- A reference message (R460): the times of the one before, which the first has not. -/
def State.refFrame (s : State) (n : Nat) : CanFrame :=
  let u := s.canUnit n
  let free := fun (k : Nat) => (Config.freeWord (4 * s.free + k)).toNat
  let t := if u.refSent then
      leBytes 6 (u.refTod.getD 0 0) ++ leBytes 4 (u.refTod.getD 1 0 + 2 ^ 30 + 2 ^ 31 * u.refTod.getD 2 0) ++ leBytes 2 (u.refTod.getD 3 0)
    else leBytes 4 (free 0) ++ leBytes 2 (free 1) ++ leBytes 4 (bitsOf (free 2) 0 30 + 2 ^ 31 * bitsOf (free 2) 31 1) ++ leBytes 2 (free 3)
  ⟨s.flag (F.CAN_REF.IDE n), s.get (F.CAN_REF.ID n), false, true, false, s.get (F.CAN_ECR.STATE n) == 1, 10, t ++ [u.refSeq % 256, 0, 0, 0]⟩

/-- The station states in which reference messages are sent (R460). -/
def State.refMay (s : State) : Bool := decide (s.stationSeen ≤ 1) || (decide (28 ≤ s.stationSeen) && decide (s.stationSeen ≤ 31))

/-- The frame of a transmit buffer, or of the reference messages' own. -/
def State.txOut (s : State) (n b : Nat) : CanFrame := if b = refBuf then s.refFrame n else s.txFrame n b

/-- The requested buffer whose transmission began `ago` ns before now: the lowest identifier among those requested by then, a reference message among them
(R466), ties to the lower number (R456). -/
def State.txPick (s : State) (n ago : Nat) : Option Nat :=
  let c := (List.range 33).filter (fun b => s.txReqd n b && (b != refBuf || (s.refMay && s.flag (F.CAN_REF.EN n))) && ((s.canUnit n).reqAt.any (fun (x : Nat × Nat) => x.1 == b && decide (x.2 + ago ≤ s.upNs))))
  c.foldl (fun (m : Option Nat) b => match m with
    | none => some b
    | some a => if arbKey (s.txOut n b) < arbKey (s.txOut n a) then some b else some a) none

/-- A TXCAN bit set (R458): a buffer in transmission makes that its last attempt, another is cancelled. -/
def State.txCancel (s : State) (n b : Nat) (sending : Option Nat) : State :=
  if !s.txUsable n b then s
  else
    let s := (s.setBit (F.CAN_TXCAN.BUF n) b true).modCan n (fun u =>
      { u with canAt := u.canAt.filter (fun (x : Nat × Nat) => x.1 != b) ++ [(b, s.canCycle)] })
    if !s.txReqd n b then s
    else if sending == some b then s.modCan n (fun u => { u with noRetry := u.noRetry ++ [b] })
    else s.txDrop n b

/-- The counters of ISO 11898-1 after an event, frozen in RESTRICTED (R442, R443). -/
def State.canCounters (s : State) (n tec rec : Nat) : State :=
  if s.get (F.CAN_CTRL.MODE n) == 1 then s else (s.set (F.CAN_ECR.TEC n) tec).set (F.CAN_ECR.REC n) rec

/-- The run of bit errors of a buffer ends (R459). -/
def State.dupClear (s : State) (n b : Nat) : State := s.modCan n (fun u => { u with dup := u.dup.filter (fun (x : Nat × Nat × Nat) => x.1 != b) })

/-- An attempt ends in a bit error after the arbitration field (R459). -/
def State.dupCount (s : State) (n b tec rec : Nat) : State :=
  let old := (s.canUnit n).dup.find? (fun (x : Nat × Nat × Nat) => x.1 == b)
  let (k, t) := match old with
    | some x => if s.time.cyc ≤ x.2.2 + 500000000 then (x.2.1 + 1, x.2.2) else (1, s.time.cyc)
    | none => (1, s.time.cyc)
  let s := s.dupClear n b
  if k < 8 then s.modCan n (fun u => { u with dup := u.dup ++ [(b, k, t)] })
  else
    let f := s.txFrame n b
    let s := (((s.setFlag (F.CAN_DUP.IDE n) f.ide).set (F.CAN_DUP.ID n) f.id).inc (F.CAN_CNT1.DUP_CNT n)).raise Ev.DUP_ID [n, f.id + 2 ^ 31 * b2n f.ide, tec, rec]
    if s.flag (F.CAN_CTRL.DUP_ABORT n) then s.txDrop n b else s

/-- The loop delay is measured in this frame (R445). -/
def State.tdcOn (s : State) (n : Nat) (f : CanFrame) : Bool := s.flag (F.CAN_DBTP.TDC_EN n) && f.fdf && f.brs

/-- An attempt of a buffer fails (R458, R459). -/
def State.txFails (s : State) (n b : Nat) (bit : Bool) : State :=
  let s := if bit && b != refBuf then s.dupCount n b (s.get (F.CAN_ECR.TEC n)) (s.get (F.CAN_ECR.REC n)) else s.dupClear n b
  if s.flag (F.CAN_CTRL.DAR n) || (s.canUnit n).noRetry.contains b then s.txDrop n b else s

/-- A loop delay above 127 cycles ends the frame with a bit error (R445). -/
def State.tdcFail (s : State) (n b cycles : Nat) : State := (s.raise Ev.TDC_FAIL [n, cycles]).txFails n b true

/-- An entry of the event FIFO, where it has room (R448, R456). -/
def State.tefPut (s : State) (n b stamp : Nat) : State :=
  let a := s.txAddr n b
  let w1 := s.ramWord (a + 4)
  let fill := s.get (fillFld n 3)
  let c := s.winCount n 3
  if bitOf w1 23 && decide (fill < c) then
    let e := s.winBase n 3 + 12 * (((s.canUnit n).tef.get + fill) % c)
    let x := bitsOf w1 24 8 * 2 ^ 24 + b * 2 ^ 16 + 2 ^ 13 * bitsOf w1 21 1 + 2 ^ 12 * bitsOf w1 20 1 + 2 ^ 8 * bitsOf w1 16 4
    (State.ramStore (leBytes 4 (s.ramWord a) ++ leBytes 4 x ++ leBytes 4 stamp) e s).setFill n 3 (fill + 1)
  else s

/-- What is kept of a reference message sent: the times at its start of frame, `ago` ns back, which the next one carries (R460). -/
def State.refSentAt (s : State) (n ago : Nat) : State :=
  let s := if (s.canUnit n).refSent then s else s.drawn
  let ns := s.todSec * 1000000000 + s.todNs - ago
  (s.txDrop n refBuf).modCan n (fun u =>
    { u with refSent := true, refSeq := u.refSeq + 1, refTod := [ns / 1000000000, ns % 1000000000, b2n s.time.todValid, s.get F.TIME_STATUS.EPOCH] })

/-- A frame whose start lay `ago` ns back is sent (R431, R442, R456, R459, R460). -/
def State.txDone (s : State) (n b ago : Nat) : State :=
  let f := s.txOut n b
  let stamp := (s.time.ext - ago) % 2 ^ 32
  let pdu := s.pduBuffer n b
  let s := if b = refBuf then s.refSentAt n ago else (((s.tefPut n b stamp).txDrop n b).hwSet (F.CAN_TXDONE.BUF n) b).dupClear n b
  let s := s.when pdu (fun s => { s with safe := { s.safe with txSeq := (s.safe.txSeq + 1) % 65536 } })
  if s.get (F.CAN_CTRL.MODE n) == 3 then s.canReceive n f stamp else s.emit (.can n f)

/-- A change of error state (R443, R459). -/
def State.canStateTo (s : State) (n st tec rec : Nat) : State :=
  let old := s.get (F.CAN_ECR.STATE n)
  let s := s.canCounters n tec rec
  if old = st then s
  else
    let s := (s.set (F.CAN_ECR.STATE n) st).raise Ev.CAN_STATE [n, old, st, s.get (F.CAN_ECR.TEC n), s.get (F.CAN_ECR.REC n)]
    if st = 2 then s.modCan n (fun u => { u with dup := [], recovering := false, off := true }) else s

/-- REC_REQ (R443): recovery runs where AUTO_REC does not start it. -/
def State.recReq (s : State) (n : Nat) : State :=
  if s.get (F.CAN_ECR.STATE n) = 2 then s.modCan n (fun u => { u with recovering := true }) else s

/-- INIT set: the controller leaves the bus (R442). -/
def State.canInitSet (s : State) (n : Nat) : State :=
  ((s.set (F.CAN_CTRL.INIT n) 1).set (F.CAN_ECR.STATE n) 3).modCan n (fun u => { u with recovering := false })

/-- The seven region words of every controller. -/
def State.canRegions (s : State) : List (Nat × Nat) :=
  (List.range 4).flatMap (fun n => (List.range 7).map (fun r => (r, (s.rd ((F.CAN_RAMSF.BASE n).off + 4 * r)).toNat)))

/-- INIT cleared (R442, R446): a bad region keeps the controller in INIT; one that was bus-off is bus-off still (R443). -/
def State.canInitClear (s : State) (n : Nat) : State :=
  if !s.flag (F.CAN_CTRL.INIT n) then s
  else
    match canRegionsBad s.canRegions with
    | some i => (s.set (F.CAN_CTRL.CFG_ERR n) 1).raise Ev.CAN_RAM_CFG_BAD [i / 7, i % 7]
    | none =>
      let s := (s.set (F.CAN_CTRL.CFG_ERR n) 0).set (F.CAN_CTRL.INIT n) 0
      if (s.canUnit n).off then s.set (F.CAN_ECR.STATE n) 2 else ((s.set (F.CAN_ECR.STATE n) 0).set (F.CAN_ECR.TEC n) 0).set (F.CAN_ECR.REC n) 0

/-- A reference message falls due (R460): it waits in its own buffer for the bus (R466). -/
def State.refDue (s : State) (n : Nat) : State :=
  let s := s.modCan n (fun u => { u with refAt := s.time.cyc })
  if !s.refMay then s.txRefused n refBuf 3
  else
    match s.txCause n (s.refFrame n) with
    | some c => s.txRefused n refBuf c
    | none => if s.txReqd n refBuf then s else s.txAsk n refBuf

/-- The 80 bytes of a transmit element (R447). -/
def txElem (f : CanFrame) : List Nat :=
  leBytes 4 (elemWord0 f) ++ leBytes 4 (2 ^ 21 * b2n f.fdf + 2 ^ 20 * b2n f.brs + f.dlc % 16 * 2 ^ 16) ++ [0, 0, 0, 0] ++ (f.data ++ List.replicate 64 0).take 64 ++ [0, 0, 0, 0]

/-- A status PDU falls due (R433): it is written to the buffer reserved for it and requested (R455), unless the one before still waits for the bus. -/
def State.pduTx (s : State) : State :=
  let n := s.get F.SAFE_PDU_CFG.UNIT
  let ms := s.get F.SAFE_PDU_CFG.TX_MS
  if s.flag F.SAFE_PDU_CFG.TX_EN && decide (s.safe.lastTx + 500000 * ms ≤ s.time.cyc) then
    let s := { s with safe := { s.safe with lastTx := s.time.cyc } }
    let b := s.get (F.CAN_RAMTX.COUNT n) - 1
    if !s.pduBuffer n b || !s.canSends n || s.txReqd n b then s
    else
      let data := pduBytes s.safe.txSeq (2 * ms) (s.get F.SAFE_PDU_TXCONN.CONN) 1 s.pduStatus
      let f : CanFrame := ⟨s.flag F.SAFE_PDU_TXID.IDE, s.get F.SAFE_PDU_TXID.ID, false, true, true, false, 14, data⟩
      match s.txCause n f with
      | some c => s.txRefused n b c
      | none => (State.ramStore (txElem f) (s.txAddr n b) s).txAsk n b
  else s

/-! ### Register space of a controller beyond its registers (R450, R455, R456) -/

/-- The window and word an offset within a controller's space names: windows 0 to 2 and 4 (TXB) of 20 words, 3 (TEF) of 3. -/
def winAt (o : Nat) : Option (Nat × Nat) :=
  if 0x100 ≤ o && o < 0x150 then some (0, (o - 0x100) / 4)
  else if 0x180 ≤ o && o < 0x1D0 then some (1, (o - 0x180) / 4)
  else if 0x200 ≤ o && o < 0x250 then some (2, (o - 0x200) / 4)
  else if 0x280 ≤ o && o < 0x2D0 then some (4, (o - 0x280) / 4)
  else if 0x300 ≤ o && o < 0x30C then some (3, (o - 0x300) / 4)
  else none

/-- A read in a controller's windows or its RAM aperture. -/
def State.canRead (s : State) (n o : Nat) : State × Nat :=
  if 0x400 ≤ o then (s, s.ramWord (1024 * s.get (F.CAN_PAGE.PAGE n) + (o - 0x400)))
  else
    match winAt o with
    | none => (s, 0)
    | some (w, i) =>
      if w = 4 then (s, if s.get (F.CAN_SEL.TXB n) < s.get (F.CAN_RAMTX.COUNT n) then s.ramWord (s.txAddr n (s.get (F.CAN_SEL.TXB n)) + 4 * i) else 0)
      else
        match s.winElem n w with
        | none => (s, 0)
        | some a =>
          let v := s.ramWord (a + 4 * i)
          (if i = 0 then s.elemLock n w else if 4 * i + 4 = winSize w then s.elemRelease n w else s, v)

/-- A word of the RAM lies in an element reserved for the safety PDU (R455). -/
def State.ramReserved (s : State) (a : Nat) : Bool :=
  s.role == .basin &&
    (let n := s.get F.SAFE_PDU_CFG.UNIT
     let inside := fun (lo len : Nat) => decide (lo ≤ a) && decide (a < lo + len)
     let tx := s.get (F.CAN_RAMTX.COUNT n)
     let ide := s.flag F.SAFE_PDU_RXID.IDE
     let c := s.get (if ide then F.CAN_RAMXF.COUNT n else F.CAN_RAMSF.COUNT n)
     (s.flag F.SAFE_PDU_CFG.TX_EN && tx != 0 && inside (s.txAddr n (tx - 1)) 80) ||
     (s.flag F.SAFE_PDU_CFG.RX_EN && c != 0 &&
       (if ide then inside (4 * s.get (F.CAN_RAMXF.BASE n) + 8 * (c - 1)) 8 else inside (4 * s.get (F.CAN_RAMSF.BASE n) + 4 * (c - 1)) 4)))

/-- A word of the RAM lies in a locked element, which is never overwritten (R450). -/
def State.ramLocked (s : State) (a : Nat) : Bool :=
  (List.range 4).any (fun n => (List.range 4).any (fun w => (s.lockedAt n w).isSome && (match s.winElem n w with
    | some e => decide (e ≤ a) && decide (a < e + winSize w)
    | none => false)))

/-- A write in a controller's windows or its RAM aperture: only TXB and the aperture take one (R450, R455, R456). -/
def State.canWrite (s : State) (n o v : Nat) : State :=
  if 0x400 ≤ o then
    let a := 1024 * s.get (F.CAN_PAGE.PAGE n) + (o - 0x400)
    if s.ramReserved a || s.ramLocked a then s else State.ramStore (leBytes 4 v) a s
  else
    match winAt o with
    | some (4, i) =>
      let b := s.get (F.CAN_SEL.TXB n)
      if !s.txUsable n b || s.txReqd n b then s else (State.ramStore (leBytes 4 v) (s.txAddr n b + 4 * i) s).dupClear n b
    | _ => s

/-- The ten words of the standard pack record latched (R463). -/
def State.packLatch (s : State) : State :=
  (List.range 10).foldl (fun (s : State) i => s.set (F.CAN_PACK_REC.WORD i) (s.can.pack.std.getD i 0)) s

end Sys2Proof.Machine
end

