-- ==== Sys2Proof/Machine/Can.lean ====
section
/-! DEFINITION. Can.lean: the meanings of the CAN and pack decoder commands (15_can_and_packs). -/
namespace Sys2Proof.Machine

/-- CAN_FRAME_RX (R441, R449, R452 to R455): a frame whose start of frame lay `ago` ns back; `exc`: its res bit was recessive, a protocol exception. -/
def execCanFrameRx (dt : Nat) (n : Fin 4) (f : CanFrame) (ago : Nat) (exc : Bool) (tec : Fin 256) (rec : Fin 256) (s : State) : Out := whenLive s fun s =>
  let s := s.advance dt
  if !s.canHears n then s
  else if exc then s.raise Ev.PROTOCOL_EXC [n]
  else if !s.canTakes n f then s
  else
    let s := s.canCounters n tec rec
    if s.role == .basin && s.isPdu n f then s.pduRx n f else s.canReceive n f ((s.time.ext - ago) % 2 ^ 32)

/-- SAFETY_PDU_TX (R433, R455). -/
def execSafetyPduTx (dt : Nat) (s : State) : Out := onBasin s fun s => (s.advance dt).pduTx

/-- BMS_STALE (R464). -/
def execBmsStale (dt : Nat) (s : State) : Out := onSpring s fun s =>
  let s := s.advance dt
  if s.can.pack.doneAt.isSome && !s.flag F.CAN_PACK_STAT.STALE && decide (s.staleMs < s.bmsAge) then
    ((s.modPack (fun p => { p with staleAt := s.time.cyc })).set F.CAN_PACK_STAT.STALE 1).raise Ev.BMS_STALE [s.bmsAge]
  else s

/-- CAN_TXREQ (R456, R457): a write of CANn_TXREQ. -/
def execCanTxreq (dt : Nat) (n : Fin 4) (v : Word) (s : State) : Out := whenLive s fun s =>
  (maskBits 32 v.toNat).foldl (fun (s : State) b => s.txRequest n b) (s.advance dt)

/-- CAN_TXCAN (R458): a write of CANn_TXCAN; `sof` is how many ns ago the transmission in progress began, if one is. -/
def execCanTxcan (dt : Nat) (n : Fin 4) (v : Word) (sof : Option Nat) (s : State) : Out := whenLive s fun s =>
  let s := s.advance dt
  let sending := sof.bind (fun ago => s.txPick n ago)
  (maskBits 32 v.toNat).foldl (fun (s : State) b => s.txCancel n b sending) s

/-- CAN_TX_DONE (R445, R449, R456): the transmission that began `ago` ns back succeeds; `tdcv` is its loop delay in CAN cycles where one was measured. -/
def execCanTxDone (dt : Nat) (n : Fin 4) (ago : Nat) (tdcv : Option Nat) (tec : Fin 256) (rec : Fin 256) (s : State) : Out := whenLive s fun s =>
  let s := s.advance dt
  match (if s.canSends n then s.txPick n ago else none) with
  | none => s
  | some b =>
    let s := s.canCounters n tec rec
    match (if s.tdcOn n (s.txOut n b) then tdcv else none) with
    | some c => if 127 < c then s.tdcFail n b c else (s.set (F.CAN_TDCR.TDCV n) c).txDone n b ago
    | none => s.txDone n b ago

/-- An error code of CANn_ECR, 7 leaving it as it is. -/
def State.setLec (s : State) (f : Fld) (v : Nat) : State := if v = 7 then s else s.set f v

/-- CAN_TX_ATTEMPT_FAIL (R445, R458, R459): the transmission that began `ago` ns back ends in an error; `bit`: a bit error after the arbitration field. -/
def execCanTxAttemptFail (dt : Nat) (n : Fin 4) (ago : Nat) (bit : Bool) (lec : Fin 8) (dlec : Fin 8) (tdcv : Option Nat) (tec : Fin 256) (rec : Fin 256) (s : State) : Out :=
  whenLive s fun s =>
    let s := s.advance dt
    match (if s.canSends n then s.txPick n ago else none) with
    | none => s
    | some b =>
      let s := ((s.canCounters n tec rec).setLec (F.CAN_ECR.LEC n) lec).setLec (F.CAN_ECR.DLEC n) dlec
      match (if s.tdcOn n (s.txOut n b) then tdcv else none) with
      | some c => if 127 < c then s.tdcFail n b c else (s.set (F.CAN_TDCR.TDCV n) c).txFails n b bit
      | none => s.txFails n b bit

/-- CAN_STATE (R443, R459): error state 0 active, 1 passive, 2 bus-off. -/
def execCanState (dt : Nat) (n : Fin 4) (st : Fin 3) (tec : Fin 256) (rec : Fin 256) (s : State) : Out := whenLive s fun s =>
  let s := s.advance dt
  if s.get (F.CAN_ECR.STATE n) = 3 || s.get (F.CAN_ECR.STATE n) = 2 || s.get (F.CAN_CTRL.MODE n) = 1 then s else s.canStateTo n st tec rec

/-- REC_REQ (R443). -/
def execRecReq (n : Fin 4) (s : State) : Out := whenLive s fun s => s.recReq n

/-- BUS_OFF_RECOVERY (R443): 128 occurrences of 11 recessive bits have passed. -/
def execBusOffRecovery (dt : Nat) (n : Fin 4) (s : State) : Out := whenLive s fun s =>
  let s := s.advance dt
  if s.get (F.CAN_ECR.STATE n) = 2 && (s.flag (F.CAN_CTRL.AUTO_REC n) || (s.canUnit n).recovering) then
    (s.canStateTo n 0 0 0).modCan n (fun u => { u with recovering := false, off := false })
  else s

/-- CAN_INIT_CLEAR (R442, R446). -/
def execCanInitClear (n : Fin 4) (s : State) : Out := whenLive s fun s => s.canInitClear n

/-- LOCK_TIMEOUT (R451). -/
def execLockTimeout (dt : Nat) (n : Fin 4) (w : Fin 4) (s : State) : Out := whenLive s fun s =>
  let s := s.advance dt
  match s.lockedAt n w with
  | some t =>
    if t + 500000 * s.get (F.CAN_CTRL.LOCK_TMO n) ≤ s.time.cyc then ((s.elemUnlock n w).inc (F.CAN_CNT0.LOCK_TMO_CNT n)).raise Ev.LOCK_TIMEOUT [n, w] else s
  | none => s

/-- REFERENCE_MESSAGE (R460). -/
def execReferenceMessage (dt : Nat) (n : Fin 4) (s : State) : Out := whenLive s fun s =>
  let s := s.advance dt
  if s.flag (F.CAN_REF.EN n) && decide ((s.canUnit n).refAt + 500000 * s.get (F.CAN_REF_CFG.PERIOD n) ≤ s.time.cyc) then s.refDue n else s

/-- PACK_REC_READ (R463): a read of CAN_PACK_REC0 latches the ten words. -/
def execPackRecRead (s : State) : Out := onSpring s State.packLatch

end Sys2Proof.Machine
end

