-- ==== Sys2Proof/Machine/TimeOps.lean ====
section
/-! DEFINITION. TimeOps.lean: anchors, epochs, the servo and SYNC exchanges (R254, R267 to R285). -/
namespace Sys2Proof.Machine

/-- TIME_EPOCH counts a backward step and SYSTEM keeps it (R273, R495). `cause` 0 TIME_SET, 1 servo. -/
def State.epochInc (s : State) (cause : Nat) : State :=
  let e := s.get F.TIME_STATUS.EPOCH
  let wrap := decide (0xFFFE ≤ e)
  let n := if wrap then 0 else e + 1
  let s := s.set F.TIME_STATUS.EPOCH n
  let s := if s.norUsable then { s with nor := { s.nor with epoch := n } } else s
  s.raise Ev.EPOCH_INC [n, evNum Ev.EPOCH_INC cause, b2n wrap]

/-- Integer parts of 2^-16 ppb to 2^-16 ppm for TIME_FREQ. -/
def State.showFreq (s : State) : State := s.setI F.TIME_FREQ.VALUE (satSigned 32 (roundFree s.time.f 1000))

/-- The slewing branch of R275; `e` in ps. -/
def State.slew (s : State) (e : Int) : State :=
  let m : Int := s.get F.TIME_SERVO.SLEW_MAX * 1000 * 65536
  let i := clampInt (-m) m (s.time.integ + e * 65536 / 2 ^ s.get F.TIME_SERVO.KI_SH)
  let f := clampInt (-m) m (-(e * 65536 / 2 ^ s.get F.TIME_SERVO.KP_SH) - i)
  { s with time := { s.time with integ := i, f := f } }.showFreq

/-- A servo step by `-e` (R276), where STEP_EN and BACKSTEP_EN allow it. -/
def State.servoStep (s : State) (e : Int) : Option State :=
  if s.flag F.TIME_CTRL.STEP_EN && (decide (e < 0) || s.flag F.TIME_CTRL.BACKSTEP_EN) then
    let d := roundFree (-e) 1000
    let s := { s with time := { s.time with todOff := s.time.todOff + d } }
    let s := if 0 < e then s.epochInc 1 else s
    some ((s.raise Ev.TOD_STEP [sPay d]).anchor 2 0)
  else none

/-- The states of R277 after a sample. -/
def State.lockCount (s : State) (e : Int) (src : Nat) : State :=
  let inLim := decide (e.natAbs ≤ s.get F.TIME_ALIGN.LIM)
  let fresh := s.get F.TIME_STATUS.STATE == tsHOLDOVER || s.get F.TIME_STATUS.STATE == tsFREE
  let n := if inLim then (if fresh then 1 else s.time.lockCnt + 1) else 0
  let s := { s with time := { s.time with lockCnt := n, sampleAt := s.time.cyc } }
  if fresh || !inLim then s.servoTo tsACQUIRE src else if 16 ≤ n then s.servoTo tsLOCKED src else s

/-- A sample of the master's reference (R275 to R277); one taken while a TIME_SET is pending is discarded (R290). A step comes before the records of its sample,
which carry its epoch (R290). -/
def State.masterSample (s : State) (e : Int) : State :=
  if s.host.infl.any (fun (x : Infl) => x.d.opcode == ocTIMESET && !x.phase.isDone && x.phase != .fetched) then s
  else
    let s := s.setI F.TIME_OFS.VALUE (satSigned 32 e)
    let thr := s.get F.TIME_SERVO.STEP_THR
    let stepped := if thr != 0 && decide (thr * 1000000 ≤ e.natAbs) then some (s.servoStep e) else none
    let s := match stepped with
      | some (some t) => { t with time := { t.time with blockedRun := false } }
      | some none =>
        let s := if s.time.blockedRun then s else s.raise Ev.STEP_BLOCKED [sPay (satSigned 32 e)]
        { s with time := { s.time with blockedRun := true } }.slew e
      | none => { s with time := { s.time with blockedRun := false } }.slew e
    s.lockCount e (s.get F.TIME_CTRL.SRC)

/-- What a write of TIME_CTRL does beside its fields (R277, R278): another source is waited for from now, SRC 0 is FREE, and PPS_OUT is low with PPS_EN clear. -/
def State.timeCtrl (s : State) (old : Nat) : State :=
  let src := s.get F.TIME_CTRL.SRC
  let s := { s with time := { s.time with ppsHigh := s.time.ppsHigh && s.flag F.TIME_CTRL.PPS_EN } }
  let s := if src = old then s else { s with time := { s.time with sampleAt := s.time.cyc, lockCnt := 0, blockedRun := false } }
  if s.isMaster && src = 0 then s.servoTo tsFREE 0 else s

/-! ### SYNC exchanges (R254, R279 to R282) -/

/-- The 48-bit stamp of now, units of 2^-16 ns. -/
def State.now48 (s : State) : Nat := s.stamp * 65536 + s.time.frac

/-- A difference of two 48-bit stamps (R268). -/
def diff48 (a b : Nat) : Int := toSigned 48 ((a + 2 ^ 48 - b % 2 ^ 48) % 2 ^ 48)

/-- The hop count a device sends (R279, R282). -/
def State.mhopSent (s : State) : Nat :=
  if s.isMaster then 0
  else if !s.flag F.TIME_STATUS.LOADED || s.get F.TIME_STATUS.STATE == tsHOLDOVER then 0xFF
  else s.get F.TIME_STATUS.MHOP

/-- The TERR a device sends. -/
def State.terrSent (s : State) : Int := if s.isMaster then 0 else s.getI F.TIME_ERR.VALUE

/-- A SYNC frame of a port; PORTINFO bit 4 says that a Spring's port faces the A end, or that a Basin's is a near port (R254). -/
def State.syncFrame (s : State) (p kind sseq t2 t3 : Nat) : SyncFrame :=
  ⟨kind, p, if s.role == .spring then s.flag (F.LNK_PSTAT.FACES_A p) else s.chainOfPort p == p, sseq, t2, t3, s.mhopSent, s.terrSent⟩

/-- The upstream among the ports that are UP (R279). -/
def State.upstream (s : State) : Option Nat :=
  let l := s.time.mhops.filter (fun (x : Nat × Nat × Int) => x.2.1 != 0xFF && s.portUp x.1)
  let key := fun (x : Nat × Nat × Int) => x.2.1 * 64 + (if s.role == .spring && s.flag (F.LNK_PSTAT.FACES_A x.1) then 0 else 16) + x.1
  (l.foldl (fun (m : Option (Nat × Nat × Int)) x => match m with
    | none => some x
    | some y => if key x < key y then some x else some y) none).map (fun (x : Nat × Nat × Int) => x.1)

/-- MHOP and TERR of a port's latest SYNC frame. -/
def State.portHop (s : State) (p : Nat) : Nat × Int :=
  ((s.time.mhops.find? (fun (x : Nat × Nat × Int) => x.1 == p)).map (fun (x : Nat × Nat × Int) => x.2)).getD (0xFF, 0)

/-- A follower's own hop count below its upstream `p` (R279, R282). -/
def State.ownHop (s : State) (p : Nat) : Nat :=
  if s.flag F.TIME_STATUS.LOADED && s.get F.TIME_STATUS.STATE != tsHOLDOVER then min 0xFF ((s.portHop p).1 + 1) else 0xFF

/-- A SYNC frame's MHOP and TERR noted; a follower's own MHOP follows its upstream's (R279). -/
def State.noteHop (s : State) (p mhop : Nat) (terr : Int) : State :=
  let s := { s with time := { s.time with mhops := s.time.mhops.filter (fun (x : Nat × Nat × Int) => x.1 != p) ++ [(p, mhop, terr)] } }
  if s.isMaster || s.get F.TIME_STATUS.UPPORT != p then s else s.set F.TIME_STATUS.MHOP (s.ownHop p)

/-- The port becomes the upstream, at an exchange accepted on it (R290); AUTO moves PLL-S to its clock (R295, R300). -/
def State.takeUpstream (s : State) (p : Nat) : State := (s.set F.TIME_STATUS.UPPORT p).hopIfMoved .s (s.selSrc .s)

/-- Time of day, epoch and their validity from an accepted header (R283); a Spring before its load keeps its epoch (R269, R291). -/
def State.headerTime (s : State) (h : TickHdr) : State :=
  let ext : Int := (s.time.ext : Int) + stampDiff h.bound s.stamp
  let s := { s with time := { s.time with todOff := ((h.todSec * 1000000000 + h.todNs : Nat) : Int) - ext, todValid := h.todValid, ppsHigh := s.time.ppsHigh && h.todValid } }
  if s.role == .spring && !s.flag F.TIME_STATUS.LOADED then s else s.set F.TIME_STATUS.EPOCH (h.epoch % 65536)

/-- The last accepted TICK header a follower has. -/
def State.lastHdr (s : State) : Option TickHdr := if s.role == .spring then s.spr.hdr else s.red.hdr

/-- The initial load (R281): `th` is twice theta in units of 2^-16 ns. -/
def State.timeLoad (s : State) (p : Nat) (th : Int) : State :=
  let own := s.stamp
  let d := roundFree th 2
  let total : Int := (s.time.ext : Int) * 65536 + s.time.frac + d
  let t := (total % (2 ^ 80 : Int)).toNat
  let old := s.time.ext
  let s := { s with time := { s.time with ext := t / 65536, frac := t % 65536 }
                    aon := { s.aon with lastLedger := ((s.aon.lastLedger : Int) + (t / 65536 : Nat) - old).toNat } }
  let s := s.set F.TIME_STATUS.LOADED 1
  let s := s.set F.TIME_STATUS.MHOP (s.ownHop p)
  let s := match s.lastHdr with
    | some h => s.headerTime h
    | none => s
  let s := s.raise Ev.TIME_LOADED [p, s.get F.TIME_STATUS.MHOP, sPay (satSigned 32 (roundFree d 65536))]
  if s.role == .spring then s.anchor 5 own else s

/-- A follower's sample (R280, R284). -/
def State.followSample (s : State) (p : Nat) (e terr : Int) : State :=
  let s := (s.setI F.TIME_OFS.VALUE (satSigned 32 e)).setI F.TIME_ERR.VALUE (satSigned 32 (e + terr))
  let s := (s.lockCount e p).slew e
  (s.set F.TIME_STATUS.MHOP (s.ownHop p)).followTimeOk

/-- A SYNC exchange complete on a port (R254, R280, R281). -/
def State.syncDone (s : State) (p t1 t2 t3 t4 : Nat) : State :=
  let s := (s.set (F.LNK_SYNC_T1_HI.STAMP p) (t1 / 65536)).set (F.LNK_SYNC_T1_LO.STAMP p) (t1 % 65536)
  let s := (s.set (F.LNK_SYNC_T2_HI.STAMP p) (t2 / 65536)).set (F.LNK_SYNC_T2_LO.STAMP p) (t2 % 65536)
  let s := (s.set (F.LNK_SYNC_T3_HI.STAMP p) (t3 / 65536)).set (F.LNK_SYNC_T3_LO.STAMP p) (t3 % 65536)
  let s := (s.set (F.LNK_SYNC_T4_HI.STAMP p) (t4 / 65536)).set (F.LNK_SYNC_T4_LO.STAMP p) (t4 % 65536)
  let before : Int := s.getI (F.LNK_DELAY.DELAY p)
  let delay := roundFree ((diff48 t4 t1 - diff48 t3 t2) * 1000) 131072
  let s := s.setI (F.LNK_DELAY.DELAY p) (satSigned 32 delay)
  if s.isMaster || s.upstream != some p then s
  else if (s.get F.TIME_ALIGN.GATE : Int) * 10 < (delay - before).natAbs then s.inc F.TIME_CNT.OUTLIER
  else
    let s := s.takeUpstream p
    let a := s.getI (F.TIME_ASYM.ASYM p)
    let th := diff48 t2 t1 - diff48 t4 t3
    if s.flag F.TIME_STATUS.LOADED then s.followSample p (-(roundFree (th * 1000 + a * 65536) 131072)) (s.portHop p).2
    else { s with time := { s.time with sampleAt := s.time.cyc } }.timeLoad p (th + roundFree (a * 65536) 1000)

/-! ### TIME_SET (R272) -/

/-- Time of day in ns at boundary T(A). -/
def State.todAt (s : State) (a : Nat) : Int :=
  (if s.get F.CTL_TICK_NUM.TICK = 0 then (s.time.ext : Int) else (s.ctl.bound : Int) + (tickDist s.tickNow a * 10 * s.ctl.per : Nat)) + s.time.todOff

/-- The value a TIME_SET carries, in ns. -/
def timeSetVal (d : Desc) : Nat := bytesAt d.param 0 6 * 1000000000 + bytesAt d.param 8 4

/-- A TIME_SET takes effect at its boundary T(A), against the time of day there (R272, R273). -/
def State.timeSetApply (s : State) (x : Infl) : State :=
  let v : Int := timeSetVal x.d
  let was : Int := (s.ctl.bound : Int) + s.time.todOff
  let back := decide (v < was)
  if back && !bitOf x.d.flags 1 then s.refuse x.id stLIMIT 0
  else
    let s := { s with time := { s.time with todOff := v - (s.ctl.bound : Int), todValid := true } }
    let s := if back then s.epochInc 0 else s
    let s := s.raise Ev.TOD_SET [was.toNat / 1000000000 % 2 ^ 48, was.toNat % 1000000000, bytesAt x.d.param 0 6, bytesAt x.d.param 8 4, b2n (bitOf x.d.flags 1)]
    (s.anchor 1 0).settle x.id stOK 0 0 0 s.tickNow

end Sys2Proof.Machine
end

