-- ==== Sys2Proof/Machine/Time.lean ====
section
/-! DEFINITION. Time.lean: the meanings of the time commands (09_time_alignment) and of SYNC frames (R254). -/
namespace Sys2Proof.Machine

/-- SYNC_INTERVAL (R254): an UP port sends a request. -/
def execSyncInterval (dt : Nat) (port : Fin 12) (s : State) : Out := whenLive s fun s =>
  let s := s.advance dt
  let p := port.val
  let n := s.get (F.LNK_SYNC_CFG.INT p)
  if s.hasPort p && s.portUp p && n != 0 && decide ((s.lport p).syncAt + 50000 * n ≤ s.time.cyc) then
    let q := ((s.lport p).syncSeq + 1) % 65536
    let s := s.modPort p (fun x => { x with syncSeq := q, syncT1 := some (s.departs p), syncAt := s.time.cyc })
    s.sendFrame p (.sync (s.syncFrame p 1 q 0 0))
  else s

/-- SYNC_REQUEST (R254): it arrived `ago` units of 2^-16 ns before its response leaves. -/
def execSyncRequest (dt : Nat) (port : Fin 12) (bs : List Block) (ago : Nat) (s : State) : Out := whenLive s fun s =>
  (s.advance dt).onFrame port bs ftSYNC fun b s =>
    let p := port.val
    let f := syncOf b
    if f.kind != 1 || !s.portUp p then s
    else
      let s := s.noteHop p f.mhop f.terr
      s.sendFrame p (.sync (s.syncFrame p 2 f.sseq ((s.now48 + 2 ^ 48 - ago % 2 ^ 48) % 2 ^ 48) (s.departs p)))

/-- SYNC_RESPONSE (R254, R280, R281): it arrives now. -/
def execSyncResponse (dt : Nat) (port : Fin 12) (bs : List Block) (s : State) : Out := whenLive s fun s =>
  (s.advance dt).onFrame port bs ftSYNC fun b s =>
    let p := port.val
    let f := syncOf b
    if f.kind != 2 || !s.portUp p then s
    else
      let s := s.noteHop p f.mhop f.terr
      match (s.lport p).syncT1 with
      | some t1 =>
        if f.sseq = (s.lport p).syncSeq then (s.modPort p (fun x => { x with syncT1 := none })).syncDone p t1 f.t2 f.t3 s.now48 else s
      | none => s

/-- PPS_IN_EDGE (R274, R275, R277): the edge comes now. -/
def execPpsInEdge (dt : Nat) (s : State) : Out := onBasin s fun s =>
  let s := s.advance dt
  if s.isMaster && s.get F.TIME_CTRL.SRC == 1 then
    let s := { s with time := { s.time with sampleAt := s.time.cyc } }
    let ns : Int := (s.todNs : Int) - s.getI F.TIME_PPS.ICOMP
    let ns := if 500000000 ≤ ns then ns - 1000000000 else ns
    s.masterSample (ns * 1000 + roundFree (s.time.frac * 1000) 65536)
  else s

/-- TIME_HOLDOVER (R277, R282): no sample in time. -/
def execTimeHoldover (dt : Nat) (s : State) : Out := whenLive s fun s =>
  let s := s.advance dt
  let src := if s.isMaster then s.get F.TIME_CTRL.SRC else s.get F.TIME_STATUS.UPPORT
  let since := s.time.cyc - s.time.sampleAt
  let due := if s.isMaster then (src == 1 && decide (1250000000 ≤ since)) || (src == 2 && decide (5000000000 ≤ since))
    else s.flag F.TIME_STATUS.LOADED && decide (10 * 50000 * s.get (F.LNK_SYNC_CFG.INT (if src < 12 then src else 0)) ≤ since)
  if due && s.get F.TIME_STATUS.STATE != tsHOLDOVER then
    let s := { s with time := { s.time with lockCnt := 0 } }.servoTo tsHOLDOVER src
    let s := s.raise Ev.TIME_HOLDOVER [src, s.get F.TIME_FREQ.VALUE]
    if s.isMaster then s else (s.set F.TIME_STATUS.MHOP 0xFF).setTimeOk false
  else s

/-- TIME_ANCHOR (R270). -/
def execTimeAnchor (dt : Nat) (s : State) : Out := onBasin s fun s =>
  let s := s.advance dt
  if s.isMaster && decide (s.time.anchorAt + 100000000 * s.get F.TIME_CTRL.ANCHOR_INT ≤ s.time.ext) then s.anchor 0 0 else s

/-- The level of the PPS_OUT ball (R278). -/
def State.ppsOut (s : State) : Bool := s.time.ppsHigh ^^ s.flag F.TIME_CTRL.PPS_POL

/-- PPS_OUT (R278): TOD_NS passes 0 in this CORE cycle. -/
def execPpsOut (dt : Nat) (s : State) : Out := whenLive s fun s =>
  let s := s.advance dt
  let again := match s.time.ppsPass with
    | some t => decide (s.time.cyc ≤ t + 1)
    | none => false
  if s.flag F.TIME_CTRL.PPS_EN && s.time.todValid && decide ((s.todNs * 65536 + s.time.frac) * 9990 < s.period10 * 1000) && !again then
    let s := { s with time := { s.time with ppsPass := some s.time.cyc } }
    let soon := match s.time.ppsLast with
      | some t => decide (s.time.cyc < t + 250000000)
      | none => false
    if soon then (s.inc F.TIME_CNT.PPS_SKIP).raise Ev.PPS_SKIPPED [s.todSec, s.todNs]
    else { s with time := { s.time with ppsHigh := true, ppsLast := some s.time.cyc } }
  else s

/-- PPS_OUT_END (R278). -/
def execPpsOutEnd (dt : Nat) (s : State) : Out := whenLive s fun s =>
  let s := s.advance dt
  match s.time.ppsLast with
  | some t => if s.time.ppsHigh && decide (t + 500000 * s.get F.TIME_PPS.WIDTH ≤ s.time.cyc) then { s with time := { s.time with ppsHigh := false } } else s
  | none => s

/-- TIME_STAMP read: the time registers latch this instant (R291). -/
def State.stampLatch (s : State) : State :=
  let hi := if s.role == .spring then 0 else s.time.ext
  let s := ((s.set F.TIME_STAMP.VALUE s.stamp).set F.TIME_EXT_LO.VALUE (hi % 2 ^ 32)).set F.TIME_EXT_HI.VALUE (hi / 2 ^ 32)
  let s := (s.set F.TIME_TOD_SEC_LO.VALUE (s.todSec % 2 ^ 32)).set F.TIME_TOD_SEC_HI.SEC_HI (s.todSec / 2 ^ 32)
  (s.set F.TIME_TOD_NS.NS s.todNs).setFlag F.TIME_TOD_NS.TOD_VALID s.time.todValid

/-- TIME_SET (R272): checked on arrival, then in the apply queue. -/
def execTimeSet (dt : Nat) (q : Fin 16) (s : State) : Out := onBasin s fun s => (s.advance dt).op q ocTIMESET fun s x =>
  if !s.isMaster then s.refuse x.id stLIMIT 0
  else if 1000000000 ≤ bytesAt x.d.param 8 4 then s.refuse x.id stLENGTH 0
  else
    match applyTick s.nextTick x.d.applyTick with
    | none => s.refuse x.id stSTALE 0
    | some a => if decide ((timeSetVal x.d : Int) < s.todAt a) && !bitOf x.d.flags 1 then s.refuse x.id stLIMIT 0 else s.queueOp x

/-- TIME_OFFSET (R274): a sample of a reference software measures. -/
def execTimeOffset (dt : Nat) (q : Fin 16) (s : State) : Out := onBasin s fun s => (s.advance dt).op q ocTIMEOFF fun s x =>
  if s.get F.TIME_CTRL.SRC != 2 || decide (2000000000 < stampDiff s.stamp (bytesAt x.d.param 0 4)) then s.refuse x.id stLIMIT 0
  else (s.when s.isMaster (fun s => s.masterSample (toSigned 64 (bytesAt x.d.param 8 8)))).settle x.id stOK 0 0 0 0

end Sys2Proof.Machine
end

