-- ==== Sys2Proof/Machine/Calib.lean ====
section
/-! DEFINITION. Calib.lean: the meanings of self-calibration and system calibration (R178 to R183). -/
namespace Sys2Proof.Machine

/-- The state conditions of R179. -/
def State.calRefused (s : State) : Bool := match s.role with
  | .basin => s.energisedRange
  | .spring => s.anySwitch

/-- A CAL_RUN or SYSCAL to a Spring (R246, R348, R363, R364): the manual gives no frame for it, so `ans`, once it is there, is how the Spring ended it; `st` gives the
completion. -/
def State.remoteAct (s : State) (x : Infl) (ans : Option RemoteAns) (st : RemoteAns → Option (Nat × Nat)) : State :=
  if !s.mgmtMay x then s
  else if s.unreachable x.d.target then s.abortPath x.id 1
  else
    match ans with
    | some .lost => s.abortPath x.id 2
    | some .busy => (s.modInfl x.id (fun y => { y with due := if y.due = 0 then s.tickNow else y.due })).setPhase x.id (.mgmtHeld s.tickNow 0)
    | some a =>
      ((st a).map (fun (c : Nat × Nat) =>
        if c.1 = stOK && x.due != 0 then s.settle x.id stDELAYED 0 0 (tickDist x.due s.tickNow) s.tickNow else s.refuse x.id c.1 c.2)).getD s
    | none => s

/-- How a CAL_RUN of the units in `m` completes on a Spring's answer (R179). -/
def calEnd (m : Nat) : RemoteAns → Option (Nat × Nat)
  | .done f => if f.val &&& m = 0 then some (stOK, 0) else some (stDEVICE, f.val &&& m)
  | .refused _ => some (stLIMIT, 0)
  | _ => none

/-- How a SYSCAL step completes on a Spring's answer: a step gives the reasons that R183 has for it. -/
def sysEnd (step : Nat) : RemoteAns → Option (Nat × Nat)
  | .done _ => some (stOK, 0)
  | .refused r => if r.val = 4 || step = 1 || (step = 0 && r.val = 0) then some (stLIMIT, r.val + 1) else none
  | _ => none

/-- A calibration command ends with a status: a Basin completes its descriptor, a Spring tells who asked. -/
def State.calAnswer (s : State) (own opcode status reason : Nat) : State := match s.role with
  | .basin => s.refuse own status reason
  | .spring => s.emit (.answer opcode status reason)

/-- CAL_RUN (R179): on this device, or a Spring's answer to it. At a Spring `mask` names the units asked for. -/
def execCalRun (dt : Nat) (q : Fin 16) (ans : Option RemoteAns) (mask : Fin 16) (s : State) : Out := whenLive s fun s =>
  let s := s.advance dt
  let run := fun (s : State) (own m : Nat) =>
    if m = 0 then s.calAnswer own ocCALRUN stOKEMPTY 0
    else if s.calRefused then s.calAnswer own ocCALRUN stLIMIT 0
    else if s.adc.units.any (fun (u : AdcUnit) => u.job.isSome) then s
    else (s.when (s.role == .basin) (fun s => s.setPhase own .working)).startCal m (some own)
  match s.role with
  | .spring => run s 0 mask
  | .basin => s.op q ocCALRUN fun s x =>
    let m := bytesAt x.d.param 0 1 % 16
    if x.d.target < 192 then (if m = 0 then s.refuse x.id stOKEMPTY 0 else s.remoteAct x ans (calEnd m)) else run s x.id m

/-! ### Self-calibration (R178, R180) -/

/-- The step at which a self-calibration fails, and the value found (R180). -/
def calBad (offset : Int) (gains : List Nat) (lins : List Int) : Option (Nat × Int) :=
  if 8192 < offset.natAbs then some (1, offset)
  else
    match gains.find? (fun g => decide (20 * g < 19 * 16384) || decide (21 * 16384 < 20 * g)) with
    | some g => some (2, g)
    | none => (lins.find? (fun l => decide (1024 < l.natAbs))).map (fun l => (3, l))

/-- New factors stored (R178, R187). -/
def State.storeCal (s : State) (n : Nat) (offset : Int) (gains : List Nat) (lins : List Int) : State :=
  let s := s.wr (0x140C0 + 0x100 * n) (BitVec.ofNat 32 (ofSigned 16 offset))
  let s := (List.range 4).foldl (fun (s : State) i => s.wr (0x140C4 + 0x100 * n + 4 * i) (BitVec.ofNat 32 (gains.getD i 0x4000 % 65536))) s
  (List.range 3).foldl (fun (s : State) i =>
    s.wr (0x140D4 + 0x100 * n + 4 * i) (BitVec.ofNat 32 (ofSigned 16 (lins.getD (2 * i) 0) + 65536 * ofSigned 16 (lins.getD (2 * i + 1) 0)))) s

/-- The start-up programme after its self-calibration (R534, R535, R538, R539). -/
def State.calStep (s : State) : State :=
  let s := { s with pwr := { s.pwr with calDone := true } }
  match s.role with
  | .basin =>
    if s.pwr.steps.contains 6 then s
    else
      let s := if s.adc.calFail = 0 then s.startStep 5 else s.startFail 5 s.adc.calFail
      { s.startStep 6 with pwr := { (s.startStep 6).pwr with step6At := s.time.cyc } }
  | .spring =>
    if s.pwr.steps.contains 7 || !s.pwr.steps.contains 5 then s
    else (if s.adc.calFail = 0 then s.startStep 6 else s.startFail 6 s.adc.calFail).startStep 7

/-- SELF_CAL_DONE (R178 to R181): unit `n` has found its factors; the last unit of a mask ends the calibration. -/
def execSelfCalDone (dt : Nat) (n : Fin 4) (offset : Int) (gains : List Nat) (lins : List Int) (s : State) : Out := whenLive s fun s =>
  let s := s.advance dt
  let u := s.unit n
  match u.job with
  | some (.self own) =>
    if u.jobDue || decide (s.time.cyc < u.jobAt + 1600000) then s
    else
      let s := (s.modUnit n (fun u => { u with job := none, failed := (calBad offset gains lins).isSome })).set (F.ADC_STAT.CAL_BUSY n) 0
      let s := match calBad offset gains lins with
        | some (step, v) =>
          ({ s with adc := { s.adc with calFail := s.adc.calFail ||| 2 ^ n.val } }.set (F.ADC_STAT.CAL_FAIL n) 1).raise Ev.CAL_FAIL [n, step, sPay v]
        | none => ((s.storeCal n offset gains lins).set (F.ADC_STAT.CAL_OK n) 1).set (F.ADC_STAT.CAL_FAIL n) 0
      if s.calRuns then s
      else
        let s := s.raise Ev.CAL_DONE [s.adc.calMask, (s.time.cyc - s.adc.calStart) / 500]
        match own with
        | some id => if s.adc.calFail = 0 then s.calAnswer id ocCALRUN stOK 0 else s.calAnswer id ocCALRUN stDEVICE s.adc.calFail
        | none => s.calStep
  | _ => s

/-! ### System calibration (R182, R183) -/

/-- A SYSCAL step refused (R183); `own` the descriptor. -/
def State.sysRefuse (s : State) (own input step reason : Nat) : State :=
  (s.raise Ev.SYSCAL_REFUSED [input, step, reason]).calAnswer own ocSYSCAL stLIMIT reason

/-- The stored ZERO of an input: its sum and gain. -/
def State.zeroOf (s : State) (j : Nat) : Option (Int × Nat) :=
  (s.adc.zeros.find? (fun (x : Nat × Int × Nat) => x.1 == j)).map (fun (x : Nat × Int × Nat) => x.2)

/-- A SYSCAL step on this device; `p` its PARAM bytes, `own` its descriptor. -/
def State.sysStep (s : State) (own step : Nat) (p : List Nat) : State :=
  let j := bytesAt p 1 1
  let gain := bytesAt p 2 1 % 4
  if 31 < j then s.calAnswer own ocSYSCAL stTARGET 0
  else if s.calRefused then s.sysRefuse own j step 5
  else if step = 2 then
    let s := s.set (F.ADC_SYS_CFG.VALID j) 0
    (s.raise Ev.SYSCAL_DONE [j, 2, s.get (F.ADC_SYS_CFG.GAIN_SEL j), s.get (F.ADC_SYS_OFFSET.OFFSET j), s.get (F.ADC_SYS_GAIN.GAIN j)]).calAnswer own ocSYSCAL stOK 0
  else if step = 1 && (s.zeroOf j).map (fun (x : Int × Nat) => x.2) != some gain then s.sysRefuse own j 1 2
  else if (s.unit (j / 8)).job.isSome then s
  else (s.when (s.role == .basin) (fun s => s.setPhase own .working)).askJob (j / 8) (.sys own (step == 1) j gain (bytesAt p 3 1) (toSigned 32 (bytesAt p 4 4)))

/-- A SYSCAL row: its descriptor's STEP at a Basin, its own PARAM bytes at a Spring. -/
def State.sysRow (s : State) (q : Fin 16) (step : Nat) (ans : Option RemoteAns) (p : List Nat) : State :=
  match s.role with
  | .spring => s.sysStep 0 step p
  | .basin =>
    match s.host.infl.find? (fun (x : Infl) => x.sq == q.val && x.d.opcode == ocSYSCAL && x.phase == .fetched) with
    | none => s
    | some x =>
      let st := bytesAt x.d.param 0 1
      if 2 < st then s.refuse x.id stOPCODE 0
      else if st != step then s
      else if x.d.target < 192 then (if 31 < bytesAt x.d.param 1 1 then s.refuse x.id stTARGET 0 else s.remoteAct x ans (sysEnd step))
      else s.sysStep x.id step x.d.param

/-- SYSCAL_ZERO (R182, R183). -/
def execSyscalZero (dt : Nat) (q : Fin 16) (ans : Option RemoteAns) (p : List Nat) (s : State) : Out := whenLive s fun s => (s.advance dt).sysRow q 0 ans p

/-- SYSCAL_FULL (R182, R183). -/
def execSyscalFull (dt : Nat) (q : Fin 16) (ans : Option RemoteAns) (p : List Nat) (s : State) : Out := whenLive s fun s => (s.advance dt).sysRow q 1 ans p

/-- SYSCAL_CLEAR (R182, R183). -/
def execSyscalClear (dt : Nat) (q : Fin 16) (ans : Option RemoteAns) (p : List Nat) (s : State) : Out := whenLive s fun s => (s.advance dt).sysRow q 2 ans p

/-- SYSCAL_MEASURE_DONE (R182, R183): the codes of the 256 conversions, corrected by steps 1 to 3 of R162, are summed. -/
def execSyscalMeasureDone (dt : Nat) (n : Fin 4) (convs : List (Int × Int)) (s : State) : Out := whenLive s fun s =>
  let s := s.advance dt
  let u := s.unit n
  match u.job with
  | some (.sys own full j gain smp target) =>
    if u.jobDue || convs.length != 256 || decide (s.time.cyc < u.jobAt + 256 * ((smp + 1) * 5 + 80)) then s
    else
      let s := (s.modUnit n (fun u => { u with job := none })).set (F.ADC_STAT.CAL_BUSY n) 0
      let step := b2n full
      let sum := (convs.map (s.convCode n gain)).foldl (· + ·) 0
      if convs.any (fun c => (rangeMark gain c.1).isSome) then s.sysRefuse own j step 1
      else if full then
        let z := ((s.zeroOf j).getD (0, gain)).1
        let d := sum - z
        if d.natAbs < 65536 then s.sysRefuse own j step 3
        else
          let g := nearest (target * 2 ^ 30) d
          if g < -(2 ^ 31) || 2 ^ 31 - 1 < g then s.sysRefuse own j step 4
          else
            let s := (s.setI (F.ADC_SYS_OFFSET.OFFSET j) z).setI (F.ADC_SYS_GAIN.GAIN j) g
            let s := (s.set (F.ADC_SYS_CFG.GAIN_SEL j) gain).set (F.ADC_SYS_CFG.VALID j) 1
            (s.raise Ev.SYSCAL_DONE [j, 1, gain, s.get (F.ADC_SYS_OFFSET.OFFSET j), s.get (F.ADC_SYS_GAIN.GAIN j)]).calAnswer own ocSYSCAL stOK 0
      else
        let s := { s with adc := { s.adc with zeros := s.adc.zeros.filter (fun (x : Nat × Int × Nat) => x.1 != j) ++ [(j, sum, gain)] } }
        (s.raise Ev.SYSCAL_DONE [j, 0, gain, sPay sum, s.get (F.ADC_SYS_GAIN.GAIN j)]).calAnswer own ocSYSCAL stOK 0
  | _ => s

end Sys2Proof.Machine
end

