-- ==== Sys2Proof/Machine/Redundancy.lean ====
section
/-! DEFINITION. Redundancy.lean: health and election of a Basin pair (R383, R393), voted groups (R398 to R400), SRAM rows (R392, R394), the AON feeds (R397), and
what a takeover changes (R368, R385 to R387). -/
namespace Sys2Proof.Machine

/-! ### Health (R393) -/

/-- The Basin is fit to run its pipeline: not in SAFE_HOLD, not on the safe clock, and no standby that has crossed HOT_SHUT (R231, R306, R390, R531). -/
def State.pipeFit (s : State) : Bool :=
  !s.pwr.stuck && !s.flag F.CLK_PLLS_STAT.ON_SAFE && s.get F.RED_CLAIM.ROLE != roleFailed && !(s.get F.RED_CLAIM.ROLE == roleStandby && s.thm.needResume)

def State.thermalOk (s : State) : Bool := !s.thm.needResume && !s.flag F.THM_STATUS.SHUT

/-- The FIT byte. -/
def State.fitByte (s : State) : Nat :=
  b2n (s.ticking && s.pipeFit) + 2 * b2n (decide (256 ≤ s.red.syncTicks)) + 4 * b2n s.thermalOk +
    8 * b2n (s.get F.RED_BIST_STAT.FAIL == 0) + 16 * b2n (s.red.fit == 1) + 32 * b2n (s.flag F.RED_CTRL.AUTO) + 64 * b2n (s.flag F.TIME_STATUS.TIME_OK)

/-- The health a Basin reports. -/
def State.healthNow (s : State) : Health :=
  { role := s.get F.RED_CLAIM.ROLE, side := s.side, fit := s.fitByte
    claim := if s.get F.RED_CLAIM.ROLE == roleElecting then 0 else s.get F.RED_CLAIM.CLAIM
    tick := s.tickNow, shadowMis := s.get F.RED_SHADOW_CNT.COUNT, rowsLeft := s.get F.RED_SRAM.LEFT, rowsPend := s.get F.RED_SRAM.PEND
    eccCorr := s.get F.RED_ECC_CNT.COUNT, prbsTested := s.red.prbsTested, prbsFail := s.red.prbsFail
    vaon := s.get F.RED_VAON.A_OK + 2 * s.get F.RED_VAON.B_OK
    sens := s.get F.THM_SENS.REPLACED + 8 * (31 - s.get F.THM_SENS.IN_SERVICE)
    voteExcl := s.exclOf 0 + 8 * s.exclOf 1
    chainExcl := bitsMask ((List.range 12).filter (fun c => s.exclOf (2 + c) != 0))
    secondPath := bitsMask ((List.range 12).filter (fun c => s.flag (F.LNK_CHAIN.SECOND_PATH c)))
    norSpare := s.nor.reserve - s.nor.used, recorder := s.recState }

/-- HEALTH_SEND (R383, R393): every 100 ms, or every 1 ms while electing with a port UP; a lone Basin sends none. -/
def execHealthSend (dt : Nat) (s : State) : Out := onBasin s fun s =>
  let s := s.advance dt
  let electing := s.get F.RED_CLAIM.ROLE == roleElecting
  let wait := if electing then 500000 else 50000000
  let due := match s.red.healthTx with
    | some t => decide (t + wait ≤ s.time.cyc)
    | none => true
  if due && !s.upPorts.isEmpty && s.flag F.RED_CTRL.HEALTH_EN && s.get F.RED_CLAIM.ROLE != roleLone && (!electing || s.paired) then
    ({ s with red := { s.red with healthTx := some s.time.cyc } }).emitFrame s.upPorts
      (.mgmt (s.mkMgmt s.otherId opHEALTH 0 0 false (healthBytes s.healthNow)))
  else s

/-- A HEALTH frame kept (R383, R393, R589). -/
def State.healthRx (s : State) (h : Health) : State :=
  let was := s.flag F.RED_PEER.PEER_OK
  let s := (((s.set F.RED_PEER.PEER_OK 1).set F.RED_PEER.ROLE h.role).set F.RED_PEER.FIT h.fit).set F.RED_PEER.CLAIM h.claim
  let s := { s with red := { s.red with health := some h, healthAt := some s.time.cyc } }
  let s := if was then s else s.raise Ev.PEER_OK [h.role, h.fit]
  let s := if h.role == roleElecting then s.clearRx s.otherId else s
  if s.get F.RED_CLAIM.ROLE == roleElecting && h.role == roleElecting && s.pwr.step8 && s.paired && keyHigher 0 s.side h.claim h.side then s.elect roleActive
  else s

/-- HEALTH (R393). -/
def execHealth (dt : Nat) (port : Fin 12) (bs : List Block) (s : State) : Out := onBasin s fun s =>
  (s.advance dt).mgmtRx port bs (·.op == opHEALTH) fun m s => if m.src == s.otherId && m.payload.length == 64 then s.healthRx (healthOf m.payload) else s

/-- PEER_LOST (R393): no HEALTH frame for 300 ms. -/
def execPeerLost (dt : Nat) (s : State) : Out := onBasin s fun s =>
  let s := s.advance dt
  match s.red.healthAt with
  | some t =>
    if s.flag F.RED_PEER.PEER_OK && decide (t + 150000000 ≤ s.time.cyc) then (s.set F.RED_PEER.PEER_OK 0).raise Ev.PEER_LOST [s.get F.RED_PEER.FIT] else s
  | none => s

/-- ELECT_TIMEOUT (R383): ELECT_TMO passes with no frame of the other Basin. -/
def execElectTimeout (dt : Nat) (s : State) : Out := onBasin s fun s =>
  let s := s.advance dt
  match s.red.electAt with
  | some t =>
    if s.get F.RED_CLAIM.ROLE == roleElecting && s.pwr.step8 && s.paired && decide (t + 500000 * s.get F.RED_HB_CFG.ELECT_TMO ≤ s.time.cyc) then s.elect roleActive
    else s
  | none => s

/-! ### Takeover and demotion (R368, R382, R385 to R387, R290) -/

/-- A standby takes over (R385 to R387): its claim is one above the active Basin's. `cause` 0 heartbeat, 1 host. It asks each Spring for its TBL_GEN (R518). -/
def State.takeOver (s : State) (cause : Nat) : State :=
  let old := s.red.seenClaim
  let new := (old + 1) % 65536
  let tick := tickSucc s.tickNow
  let s := s.becomeMaster roleActive new
  let s := s.when ((s.red.hdr.map (·.weirStn)).getD false) (fun s => s.set F.WEIR_ARM_STAT.STN_HOLD 1)
  let s := s.raise Ev.TAKEOVER [old, new, evNum Ev.TAKEOVER cause, tick]
  let s := (s.anchor 3 0).reconStart tick
  if s.tbl.img.isEmpty then s
  else (s.lnk.enrolled.map (fun (e : Enr) => e.spring)).foldl (fun (s : State) sp => s.sendSeq sp opRDREQ F.TBL_GEN.GEN.off (leBytes 2 1) (.gen sp)) s

/-- TAKEOVER_INHIBITED (R385, R386). -/
def State.takeInhibited (s : State) : State := s.raise Ev.TAKEOVER_INHIBITED [s.fitByte, s.get F.RED_CTRL.AUTO]

/-- FIT bits PIPELINE and THERMAL_OK. -/
def State.mayTake (s : State) : Bool := s.ticking && s.pipeFit && s.thermalOk

/-- A write of RED_CTRL.TAKEOVER (R386). -/
def State.hostTakeover (s : State) : State :=
  if s.get F.RED_CLAIM.ROLE != roleStandby then s else if s.mayTake then s.takeOver 1 else s.takeInhibited

/-- HOST_TAKEOVER (R386): the next dispatch of its pipeline is the new active Basin's first. -/
def execHostTakeover (s : State) : Out := onBasin s State.hostTakeover

/-- An ACTIVE Basin gives way to a higher key (R368, R369, R382). -/
def State.demote (s : State) (claim : Nat) (side : Side) : State :=
  let s := (s.set F.RED_CLAIM.ROLE roleStandby).raise Ev.DEMOTED [s.get F.RED_CLAIM.CLAIM, claim, b2n (side == .b)]
  let s := ({ s with time := { s.time with sampleAt := s.time.cyc } }.set F.TIME_STATUS.MHOP 0xFF).followTimeOk
  { s.set F.CTL_STATUS.TICK_RUN 0 with red := { s.red with seenClaim := claim, hbGot := false, hbEver := true } }.demoteAborts

/-! ### Voted groups (R398 to R400) -/

/-- The voted groups of a device: a Spring has its OCP group alone. -/
def State.hasGroup (s : State) (g : Nat) : Bool := decide (g < 14) && (s.role == .basin || g == 0)

/-- The excluded channel of a group. -/
def State.exclChan (s : State) (g : Nat) : Nat := ((maskBits 3 (s.exclOf g)).head?).getD 0

/-- Hours in CORE cycles. -/
def hourCyc : Nat := 1800000000000

/-- VOTE_EXCLUDED (R398): a channel has dissented on every sample for 100 ms. -/
def execVoteExcluded (dt : Nat) (g : Fin 14) (s : State) : Out := whenLive s fun s =>
  let s := s.advance dt
  match (s.vote g).diss with
  | some (c, t) =>
    if s.hasGroup g && s.exclOf g == 0 && decide (t + 50000000 ≤ s.time.cyc) then
      let s := (s.set (F.RED_VOTE.EXCL g) (2 ^ c)).setVote g { s.vote g with diss := none, agree := none, exclAt := s.time.cyc, warned := false }
      s.raise Ev.VOTE_EXCLUDED [g, c]
    else s
  | none => s

/-- The number that stands for a Basin's outputs among the groups with a degraded time (R420). -/
def groupOUT : Nat := 14

/-- The outputs' degraded time an hour before its limit, and at it (R420). -/
def State.outWarn (s : State) : State :=
  let lim := s.get F.RED_VOTE_CFG.DEGRADED_MAX * hourCyc
  match s.safe.degFrom with
  | some t =>
    if !s.safe.degWarned && decide (t + lim ≤ s.time.cyc + hourCyc) then
      { s with safe := { s.safe with degWarned := true } }.raise Ev.DEGRADED_WARN [evNum Ev.DEGRADED_WARN groupOUT, (t + lim - s.time.cyc) / 30000000000]
    else s
  | none => s

/-- At DEGRADED_MAX the active Basin acts as on a DEENERGISE with apply tick 0 (R399). -/
def State.expireDeen (s : State) : State :=
  if s.role == .basin && s.dispatches && s.flag F.CTL_STATUS.TICK_RUN then { s with host := { s.host with wdDeen := true } } else s

def State.outExpire (s : State) : State :=
  match s.safe.degFrom with
  | some t =>
    if !s.safe.degExpired && decide (t + s.get F.RED_VOTE_CFG.DEGRADED_MAX * hourCyc ≤ s.time.cyc) then
      ({ s with safe := { s.safe with degExpired := true } }.raise Ev.DEGRADED_EXPIRED
        [evNum Ev.DEGRADED_EXPIRED groupOUT, evNum Ev.DEGRADED_EXPIRED 0]).expireDeen
    else s
  | none => s

/-- DEGRADED_WARN (R399, R420): an hour before the limit. -/
def execDegradedWarn (dt : Nat) (g : Fin 15) (s : State) : Out := whenLive s fun s =>
  let s := s.advance dt
  if g.val = groupOUT then s.outWarn else
  let v := s.vote g
  let lim := s.get F.RED_VOTE_CFG.DEGRADED_MAX * hourCyc
  if s.exclOf g != 0 && !v.warned && decide (v.exclAt + lim ≤ s.time.cyc + hourCyc) then
    (s.setVote g { v with warned := true }).raise Ev.DEGRADED_WARN [g, (v.exclAt + lim - s.time.cyc) / 30000000000]
  else s

/-- DEGRADED_EXPIRED (R399): at the limit the active Basin acts as on a DEENERGISE; a Spring's record makes it withdraw that Spring. -/
def execDegradedExpired (dt : Nat) (g : Fin 15) (s : State) : Out := whenLive s fun s =>
  let s := s.advance dt
  if g.val = groupOUT then s.outExpire else
  let v := s.vote g
  if s.exclOf g != 0 && !s.flag (F.RED_VOTE.EXPIRED g) && decide (v.exclAt + s.get F.RED_VOTE_CFG.DEGRADED_MAX * hourCyc ≤ s.time.cyc) then
    ((s.set (F.RED_VOTE.EXPIRED g) 1).raise Ev.DEGRADED_EXPIRED [g, evNum Ev.DEGRADED_EXPIRED (if s.role == .basin then 0 else 1)]).expireDeen
  else s

/-- A group's bit of RED_VOTE_RST written (R400). -/
def State.voteRestore (s : State) (g : Nat) : State :=
  let v := s.vote g
  let ok := match v.agree with
    | some t => s.exclOf g != 0 && decide (t + 500000000 ≤ s.time.cyc)
    | none => false
  if ok then
    let mins := (s.time.cyc - v.exclAt) / 30000000000
    let c := s.exclChan g
    (((s.set (F.RED_VOTE.EXCL g) 0).set (F.RED_VOTE.EXPIRED g) 0).setVote g { v with diss := none, warned := false }).raise Ev.VOTE_RESTORED [g, c, mins]
  else s.raise Ev.VOTE_RESTORE_REFUSED [g]

def State.voteRst (s : State) (v : Nat) : State := (maskBits 14 v).foldl State.voteRestore s

/-- VOTE_RESTORE (R400): a write of RED_VOTE_RST. -/
def execVoteRestore (dt : Nat) (v : Word) (s : State) : Out := whenLive s fun s => (s.advance dt).voteRst v.toNat

/-! ### SRAM (R392, R394) -/

/-- Rows listed as repair candidates: a Basin's in its NOR, a Spring's in the AON domain (R396). -/
def State.candidates (s : State) : List Nat := match s.role with
  | .basin => s.nor.candidates
  | .spring => s.aon.candidates

/-- A row becomes a repair candidate (R394). `cause` 0 corrected errors, 1 BIST. -/
def State.rowCandidate (s : State) (bank row cause : Nat) : State :=
  let r := bank * 65536 + row
  if s.candidates.contains r then s
  else
    let s := match s.role with
      | .basin => if s.norUsable then { s with nor := { s.nor with candidates := s.nor.candidates ++ [r] } } else s
      | .spring => { s with aon := { s.aon with candidates := s.aon.candidates ++ [r] } }
    (s.inc F.RED_SRAM.PEND).raise Ev.SRAM_ROW_CANDIDATE [bank, row, evNum Ev.SRAM_ROW_CANDIDATE cause]

/-- ECC_CORRECTED (R394): a corrected error in a row; the fourth makes the row a candidate. -/
def execEccCorrected (dt : Nat) (bank : Fin 6) (row : Nat) (s : State) : Out := whenLive s fun s =>
  let s := (s.advance dt).inc F.RED_ECC_CNT.COUNT
  let r := bank.val * 65536 + row
  let n := ((s.red.rows.find? (fun (x : Nat × Nat) => x.1 == r)).map (fun (x : Nat × Nat) => x.2)).getD 0 + 1
  let s := { s with red := { s.red with rows := s.red.rows.filter (fun (x : Nat × Nat) => x.1 != r) ++ [(r, n)] } }
  if n = 4 then s.rowCandidate bank row 0 else s

/-- Ports a standby tests with PRBS31: of a chain that no Spring is on, where GEN may be set (R251, R392). -/
def State.prbsPorts (s : State) : List Nat :=
  (List.range 12).filter (fun p => s.get (F.LNK_CHAIN.NSPR p) == 0 && !s.chainEnrolled p && (s.portSt p == psIDLE || s.portSt p == psUP || s.portSt p == psPRBS))

/-- BIST_SEGMENT (R392): a standby tests the next 4 KB segment, whose failing row is `bad`, if any; PRBS runs on its free ports, of which `tested` reached lock and
`failing` count too many errors. -/
def execBistSegment (dt : Nat) (bad : Option Nat) (tested failing : Nat) (s : State) : Out := onBasin s fun s =>
  let s := s.advance dt
  if s.get F.RED_CLAIM.ROLE == roleStandby && s.flag F.RED_BIST_CFG.EN && decide (s.red.bistAt + 500000 * s.get F.RED_BIST_CFG.INT ≤ s.time.cyc) then
    let bank := s.red.bist / 256
    let ports := s.prbsPorts
    let s := ports.foldl (fun s p => s.prbsGen p true) s
    let m := bitsMask ports
    let last := s.red.bist == 1535
    let s := { s with red := { s.red with bist := if last then 0 else s.red.bist + 1, bistAt := s.time.cyc
                                          prbsTested := tested &&& m, prbsFail := failing &&& tested &&& m } }
    let s := if last then s.inc F.RED_BIST_STAT.PASS else s
    match bad with
    | some row => ((s.inc F.RED_BIST_STAT.FAIL).raise Ev.BIST_FAIL [bank, row]).rowCandidate bank row 1
    | none => s
  else s

/-! ### The AON feeds (R397) -/

def vaonBit (feed : Nat) : Fld := if feed = 0 then F.RED_VAON.A_OK else F.RED_VAON.B_OK

/-- VAON_FEED_LOST (R397): a feed below its level for 10 microseconds. -/
def execVaonFeedLost (dt : Nat) (feed : Fin 2) (s : State) : Out := whenLive s fun s =>
  let s := s.advance dt
  if s.flag (vaonBit feed) then ((s.set (vaonBit feed) 0).inc F.RED_VAON.LOSS_CNT).raise Ev.VAON_FEED_LOST [feed] else s

/-- VAON_FEED_OK (R397): a feed above its level for 10 ms. -/
def execVaonFeedOk (dt : Nat) (feed : Fin 2) (s : State) : Out := whenLive s fun s =>
  let s := s.advance dt
  if s.flag (vaonBit feed) then s else (s.set (vaonBit feed) 1).raise Ev.VAON_FEED_OK [feed]

end Sys2Proof.Machine
end

