-- ==== Sys2Proof/Machine/Weir.lean ====
section
/-! DEFINITION. Weir.lean: the meanings of the Weir and OCP commands (06). -/
namespace Sys2Proof.Machine

/-- A receiver's reconstruction of an origin's full short stamp (R193). -/
def fullStamp (arrival st : Nat) : Nat :=
  let x := arrival - arrival % 2 ^ 18 + st % 2 ^ 18
  if arrival < x then (x + 2 ^ 32 - 2 ^ 18) % 2 ^ 32 else x

/-- What a received block is: its O_CODE is another (R238), its CRC fails, its fields are invalid, or the Weir it carries (R192). -/
inductive WeirRx where
  | notWeir
  | badCrc
  | badFields
  | valid (x : WeirSet)
  deriving DecidableEq, Repr

def weirRx (v : Nat) : WeirRx :=
  if osetCode v != ocWEIR then .notWeir else if !osetOk v then .badCrc else if weirValid (weirFields v) then .valid (weirFields v) else .badFields

/-- A block that is no valid Weir is counted, and reported when its CRC matches (R192). -/
def State.weirBad (s : State) (port w : Nat) (report : Bool) : State :=
  let s := s.inc F.WEIR_CRC_CNT.COUNT
  if report then s.raise Ev.WEIR_BAD [port, w % 2 ^ 32, w % 2 ^ 48 / 2 ^ 32] else s

/-- A Spring obeys a Weir of its arm or of the station (R197): the hold, and WEIR_OBEYED once for each pair. -/
def State.obey (s : State) (port : Nat) (x : WeirSet) : State :=
  let mine := if x.scope == 1 then s.get F.WEIR_SCFG.ARM_ID == x.arm && x.arm != 0xF else true
  if mine then
    let t := s.now 0
    let s := if x.scope == 1 then s.enterArmHold t else s.enterStnHold t
    if s.weir.obeyed.contains (x.origin, x.seq) then s
    else
      let l := s.weir.obeyed ++ [(x.origin, x.seq)]
      let s := { s with weir := { s.weir with obeyed := l.drop (l.length - 16) } }
      s.raise Ev.WEIR_OBEYED [x.origin, x.seq, x.cause, x.scope, fullStamp s.stamp x.stamp, s.stamp, port]
  else s

/-- WEIR_RX_SPRING (R192 to R198): a WEIR block's 56 bits arrive at a Spring's port: a valid copy is forwarded unless it is
its own, counted, and obeyed. -/
def execWeirRxSpring (dt : Nat) (port : Fin 2) (v : Nat) (s : State) : Out := onSpring s fun s =>
  let s := s.advance dt
  match weirRx v with
  | .notWeir => if [ocTRAIN, ocEI].contains (osetCode v) then s else s.inc (F.LNK_CRC_ERR.COUNT port)
  | .badCrc => s.weirBad port v false
  | .badFields => s.weirBad port v true
  | .valid x =>
    let own := s.flag F.LNK_SPOS.ENROLLED && x.origin == s.selfId
    let s := if own then s else s.sendSets (1 - port.val) true [v]
    ((s.inc F.WEIR_RX_CNT.COUNT).weirLast x).obey port x

/-- WEIR_RX_BASIN (R195, R201, R205): a copy whose pair is not held is relayed out of its scope's other ports, and marks its arm held or blocks the station. -/
def execWeirRxBasin (dt : Nat) (port : Fin 12) (v : Nat) (s : State) : Out := onBasin s fun s =>
  let s := s.advance dt
  match weirRx v with
  | .notWeir => if [ocTRAIN, ocEI].contains (osetCode v) then s else s.inc (F.LNK_CRC_ERR.COUNT port)
  | .badCrc => s.weirBad port v false
  | .badFields => s.weirBad port v true
  | .valid x =>
    let s := (s.inc F.WEIR_RX_CNT.COUNT).weirLast x
    if s.pairKnown x.origin x.seq then s
    else
      let s := (s.sendWeir ((s.weirPorts x).filter (· != port.val)) x).keepPair x.origin x.seq
      if x.scope == 1 then s.markArm x s.stamp else s.stationBlock x.cause x.origin

/-- OCP_TRIP (R206, R207): the filtered OCP channels read `a`, `b`, `c` (0 OK, 1 TRIP, 2 INVALID). -/
def execOcpTrip (dt : Nat) (a : Fin 3) (b : Fin 3) (c : Fin 3) (s : State) : Out := whenLive s fun s => (s.advance dt).ocpSet a b c

/-- OCP_CHANNEL_CHANGE (R206): a channel's reading changes. -/
def execOcpChannelChange (dt : Nat) (a : Fin 3) (b : Fin 3) (c : Fin 3) (s : State) : Out := whenLive s fun s => (s.advance dt).ocpSet a b c

/-- WEIR_HOLD_MAX (R204): an arm has been held for more than WEIR_HOLD_MAX.TICKS ticks; the active Basin escalates. -/
def execWeirHoldMax (dt : Nat) (arm : Fin 12) (s : State) : Out := onBasin s fun s =>
  let s := s.advance dt
  let lim := s.get F.WEIR_HOLD_MAX.TICKS
  if s.isMaster && s.armIsHeld arm && lim != 0 && decide (lim < tickDist (s.armHold arm).since s.tickNow) && !s.flag F.WEIR_ARM_STAT.STN_HOLD then
    s.escalate 1 arm
  else s

/-- WEIR_MEMORY_EXPIRY (R195): pairs relayed 1 ms ago are forgotten. -/
def execWeirMemoryExpiry (dt : Nat) (s : State) : Out := onBasin s fun s =>
  let s := s.advance dt
  { s with weir := { s.weir with relayed := s.weir.relayed.filter (fun x => decide (s.time.cyc < x.2.2 + 500000)) } }

/-- A write of WEIR_REL (R203): each bit asks for its arm's release; one not held, or during FAULT_BLOCK, is refused and, like one that waits for HOLD_MIN, stays pending. -/
def State.weirRel (s : State) (v : Nat) : State :=
  (maskBits 12 v).foldl (fun s a =>
    let s := if s.weir.req.contains a then s else { s with weir := { s.weir with req := s.weir.req ++ [a] } }
    if !s.armIsHeld a then
      { s with weir := { s.weir with req := s.weir.req.filter (· != a), reqGot := s.weir.reqGot.filter (· != a) } }.raise Ev.WEIR_REL_REFUSED [a, evNum Ev.WEIR_REL_REFUSED 0]
    else if s.station == ssFAULT then s.raise Ev.WEIR_REL_REFUSED [a, evNum Ev.WEIR_REL_REFUSED 1]
    else s) s

/-- WEIR_REL (R203). -/
def execWeirRel (v : Word) (s : State) : Out := onBasin s fun s => s.weirRel v.toNat

end Sys2Proof.Machine
end

