-- ==== Sys2Proof/Machine/Bus.lean ====
section
/-! DEFINITION. Bus.lean: a write of one register of BAR0, with what the fields it carries do (R9 to R11), and a read of one, with the fields that show what is
held elsewhere. CMN_SWRST, whose write resets the device, is in Power.lean. -/
namespace Sys2Proof.Machine

/-- A register of the index stands at the offset in this role. -/
def State.liveReg (s : State) (o : Nat) : Bool := match rowAt o with
  | some r => rowLive s.role r o
  | none => false

/-- A word with the field of a mask kept from another. -/
def keepBits (v old mask : Nat) : Nat := (v &&& (0xFFFFFFFF ^^^ mask)) ||| (old &&& mask)

/-! ### Host interface registers (R319, R321, R345) -/

/-- A word of the MSI-X table (0x7000 to 0x73FF): the vector control word masks and unmasks its vector (R340). -/
def State.msixWrite (s : State) (o v : Nat) (fmask : Bool) : State :=
  let n := (o - 0x7000) / 16
  if o % 16 = 12 then
    (if bitOf v 0 then (if s.host.msixMask.contains n then s else { s with host := { s.host with msixMask := s.host.msixMask ++ [n] } }) else s.unmask n fmask)
  else { s with host := { s.host with msixTable := s.host.msixTable.filter (fun (x : Nat × Word) => x.1 != o) ++ [(o, BitVec.ofNat 32 v)] } }

/-- EN written. -/
def State.qpWriteEn (s : State) (q : Nat) (en : Bool) : State :=
  if en then s.qpStart q else if s.flag (F.HIF_QP_CFG.EN q) then s.qpDisable q else s

/-- A write in a queue pair's registers. -/
def State.qpWrite (s : State) (locked : Bool) (o v : Nat) : State :=
  let q := (o - 0x4100) / 0x20
  let k := o % 0x20
  let dis := s.qpState q == qpDIS
  if k = 0x14 then
    let old := (s.rd o).toNat
    let kept := 2 ^ 31 + (if dis then 0 else 2 ^ 28 + 3 * 2 ^ 24) + (if q = 0 then 2 ^ 28 else 0)
    (s.writeFields locked o (keepBits v old kept)).qpWriteEn q (bitOf v 31)
  else if k = 0x1C then
    let first := if bitsOf v 0 8 < 192 then bitsOf v 0 8 else s.get (F.HIF_QP_STRM.SPR_FIRST q)
    s.writeFields locked o (if bitsOf v 8 8 < first then keepBits v (s.rd o).toNat 0xFF00 else v)
  else if k = 0x18 then s
  else if !dis then s
  else if k = 0 then s.writeFields locked o (v - v % 64)
  else if k = 8 then s.writeFields locked o (v - v % 32)
  else s.writeFields locked o v

/-! ### Chain links (R249, R251, R256, R265) -/

def State.linkWrite (s : State) (locked : Bool) (w : WrIn) (o v : Nat) : State :=
  let p := (o - 0x8000) / 0x400
  let k := (o - 0x8000) % 0x400
  let old := (s.rd o).toNat
  if k = 0 then
    let s := s.writeFields locked o (keepBits v old 1)
    let s := if bitOf v 0 != bitOf old 0 then s.portEn p (bitOf v 0) else s
    let s := if bitOf v 2 then s.retrain p else s
    if bitOf v 3 then s.clkRestore p (w.clean.testBit p) else s
  else if k = 0x20 then
    let s := (s.prbsErrs p w.prbs).writeFields locked o (keepBits v old 1)
    let s := if bitOf v 1 != bitOf old 1 then s.prbsCheck p (bitOf v 1) else s
    let s := if bitOf v 0 != bitOf old 0 then s.prbsGen p (bitOf v 0) else s
    if bitOf v 31 then s.prbsClear p else s
  else s.writeFields locked o v

/-! ### Sluice (R101, R107, R108, R110) -/

/-- SLU_CELL_CMD: a withdrawal is a request to the next allocation, a return acts on the telemetry in force. -/
def State.cellCmd (s : State) (v : Nat) : State :=
  let sp := bitsOf v 0 8
  let op := bitsOf v 8 2
  if op = 0 || op = 3 then s
  else if 191 < sp || (armOf (s.tbl8 secARM) sp).isNone then s.raise Ev.SLU_CMD_REJECTED [v]
  else if op = 1 then { s with slu := { s.slu with reqs := s.slu.reqs ++ [(sp, 6, v)] } }
  else s.returnCell sp v

/-! ### CAN (R442, R444, R445, R456 to R460) -/

/-- The bit times of R444 and the delay compensation of R445 allow a word of NBTP or DBTP. -/
def canTimesOk (k v : Nat) : Bool :=
  if k = 4 then decide (80 ≤ bitsOf v 0 9 * (1 + bitsOf v 16 9 + bitsOf v 9 7)) && decide (bitsOf v 25 7 ≤ bitsOf v 9 7)
  else if k = 8 then
    decide (10 ≤ bitsOf v 16 6 * (1 + bitsOf v 11 5 + bitsOf v 6 5)) && decide (bitsOf v 1 5 ≤ bitsOf v 6 5) && (!bitOf v 31 || decide (bitsOf v 16 6 ≤ 2))
  else true

/-- An identifier word whose IDE bit `b` is clear holds 11 bits. -/
def idWord (b v : Nat) : Nat := if bitOf v b then v else keepBits v 0 0x1FFFF800

/-- A write of CANn_CTRL. -/
def State.canCtrlWrite (s : State) (locked : Bool) (n o v : Nat) : State :=
  let old := (s.rd o).toNat
  let init := bitOf old 31
  let s := s.writeFields locked o (keepBits v old (2 ^ 31 + (if init then 0 else 0x7C000000)))
  let s := if bitOf v 20 then s.recReq n else s
  if bitOf v 31 && !init then s.canInitSet n else if !bitOf v 31 && init then s.canInitClear n else s

/-- A write of CANn_REF: EN is refused while FDOE is clear; setting it starts the messages again. -/
def State.canRefWrite (s : State) (locked : Bool) (n o v : Nat) : State :=
  let was := s.flag (F.CAN_REF.EN n)
  let v := if bitOf v 31 && !was && !s.flag (F.CAN_CTRL.FDOE n) then keepBits v 0 (2 ^ 31) else v
  let s := s.writeFields locked o (idWord 30 v)
  if !was && s.flag (F.CAN_REF.EN n) then (s.txDrop n refBuf).modCan n (fun u => { u with refSent := false, refAt := s.time.cyc }) else s

/-- A write in a controller's space. -/
def State.canSpace (s : State) (locked : Bool) (w : WrIn) (o v : Nat) : State :=
  let n := (o - 0x1E000) / 0x800
  let k := (o - 0x1E000) % 0x800
  if 0x100 ≤ k then s.canWrite n k v
  else if k = 0 then s.canCtrlWrite locked n o v
  else if k = 0x50 then (maskBits 32 v).foldl (fun (s : State) b => s.txRequest n b) s
  else if k = 0x54 then
    let sending := w.sof.bind (fun ago => s.txPick n ago)
    (maskBits 32 v).foldl (fun (s : State) b => s.txCancel n b sending) s
  else if k = 0x70 then s.canRefWrite locked n o v
  else if (4 ≤ k && k ≤ 0xC) || (0x14 ≤ k && k < 0x40) then
    (let t := s.writeFields locked o v
     if s.flag (F.CAN_CTRL.INIT n) && canTimesOk k (t.rd o).toNat then t else s)
  else s.writeFields locked o v

/-! ### The recorder's attributes (R472, R498) -/

/-- A write of REC_ATTR: the selected code's entry, each field in its range. -/
def State.attrWrite (s : State) (v : Nat) : State :=
  let code := s.get F.REC_ATTR_SEL.CODE
  if code < 0x0100 || 0x0FFF < code then s
  else
    let a := s.attrOf code
    let a := { a with journal := bitOf v 20, rate := bitsOf v 0 8, sev := if bitsOf v 16 4 ≤ 4 then bitsOf v 16 4 else a.sev
                      burst := if 1 ≤ bitsOf v 8 8 then bitsOf v 8 8 else a.burst }
    s.setAttrs (s.recd.attrs.filter (fun (x : AttrEnt) => x.code != code) ++ [a])

/-! ### A write -/

/-- One word written to an offset of BAR0 but CMN_SWRST; an `img` write is a REG entry's, to which the safety lock does not apply (R503). -/
def State.cfgWrite (s : State) (img : Bool) (w : WrIn) (o v : Nat) : State :=
  let locked := !img && s.cfgLocked
  let plain := s.writeFields locked o v
  if 0x7000 ≤ o && o < 0x7400 then (if s.role == .basin then s.msixWrite o v w.fmask else s)
  else if 0x1E000 ≤ o && o < 0x20000 && !(s.liveReg o && 0xC0 ≤ (o - 0x1E000) % 0x800 && (o - 0x1E000) % 0x800 < 0x100) then s.canSpace locked w o v
  else if !s.liveReg o then s
  else if o = pllCtrl .s then s.pllWrite .s (BitVec.ofNat 32 v)
  else if o = pllCtrl .l then s.pllWrite .l (BitVec.ofNat 32 v)
  else if o = F.TIME_CTRL.SRC.off then plain.timeCtrl (s.get F.TIME_CTRL.SRC)
  else if o = F.TIME_ALIGN.LIM.off then plain.followTimeOk
  else if o = F.HIF_WD.TMO.off then plain.wdRestart
  else if 0x4100 ≤ o && o < 0x4300 then s.qpWrite locked o v
  else if 0x8000 ≤ o && o < 0xB000 then s.linkWrite locked w o v
  else if 0xB000 ≤ o && o < 0xB030 then (if s.energisedRange then s else plain)
  else if o = F.CTL_TICK_PERIOD.PERIOD.off || o = F.CTL_GATHER_DL.DEADLINE.off then
    (if s.energisedRange then s.raise Ev.TICK_CFG_REFUSED [o, v] else plain)
  else if o = F.SLU_CELL_CMD.OP.off then s.cellCmd v
  else if o = (F.ADC_SWTRIG.GO ((o - 0x14000) / 0x100)).off && o < 0x14400 then (if bitOf v 0 then s.softTrigger ((o - 0x14000) / 0x100) w.vs else s)
  else if 0x14000 ≤ o && o < 0x14400 then
    (if adcWordOk o v then { plain with adc := s.adcBefore.adc } else s)
  else if (0x14700 ≤ o && o < 0x14730 && o % 8 = 0) || o = F.THM_HS_MAP.SRC.off then (if mapSrcOk v then plain else s)
  else if 0x14400 ≤ o && o < 0x14480 then
    (if winOk v then (if (plain.rd o).getLsbD 31 then plain else plain.setBit F.ADC_WIN_STAT.OUT ((o - 0x14400) / 4) false) else s)
  else if o = F.THM_CTRL.SHUT_SAFE.off then (if s.role == .spring then plain.set F.THM_CTRL.SHUT_SAFE 0 else plain)
  else if o = F.WEIR_OCP_CFG.EN.off then plain.ocpAct s.ocpActing
  else if o = F.WEIR_REL.ARM.off then s.weirRel (v % 4096)
  else if o = F.SAFE_CTRL.OFF.off then
    let s := plain
    let s := if bitOf v 29 then s.relock else s
    let s := if bitOf v 30 then s.outEn else s
    if bitOf v 31 then s.latchDemand dmHOST else s
  else if o = F.SAFE_PDU_CFG.RX_EN.off then
    (if s.flag F.SAFE_PDU_CFG.RX_EN != plain.flag F.SAFE_PDU_CFG.RX_EN then
      { plain with safe := { plain.safe with rxSeq := none, rxAt := none, cleanSince := none } } else plain)
  else if o = F.SAFE_PDU_TXID.ID.off || o = F.SAFE_PDU_RXID.ID.off then s.writeFields locked o (idWord 31 v)
  else if o = F.REC_CTRL.FORMAT.off then s.recCtrl locked v
  else if o = F.REC_ATTR.SEV.off then s.attrWrite v
  else if o = F.RED_CTRL.TAKEOVER.off then (if bitOf v 2 then plain.hostTakeover else plain)
  else if o = F.RED_VOTE_RST.GROUP.off then s.voteRst (v % 2 ^ 14)
  else if o = F.GATE_TEST.GO.off then s.gateTest (BitVec.ofNat 32 v)
  else plain

/-! ### A read (R9 to R11) -/

/-- Waiting demand entries and those in use. -/
def State.entryStat (s : State) : Nat :=
  (s.slu.entries.filter (fun (e : Entry) => e.left.isNone)).length * 2 ^ 16 + s.slu.entries.length

/-- Descriptors in the apply queue (R51): those due at a tick, and commands that wait for their carry. -/
def State.applyDepth (s : State) : Nat :=
  (s.host.infl.filter (fun (x : Infl) => match x.phase with
    | .queued _ => true
    | .again _ _ => true
    | .held _ _ _ => true
    | _ => false)).length

/-- Fence bits set for a Spring (R358). -/
def State.fenceMask (s : State) (sp : Nat) : Nat := bitsMask ((s.host.fences.filter (fun (f : Fence) => f.spring == sp)).map (fun (f : Fence) => f.q))

/-- Minutes a group has been degraded (R399). -/
def State.degMin (s : State) (g : Nat) : Nat :=
  if s.exclOf g = 0 then 0 else min 0xFFFF ((s.time.cyc - (s.vote g).exclAt) / 30000000000)

/-- RED_SPARE_SUM (R401). -/
def State.spareSum (s : State) : Nat :=
  let chains := (List.range 12).filter (fun c => s.chainEnrolled c)
  let arms := (List.range 12).filter (fun a => !(s.armSprings a).isEmpty)
  let basin := s.role == .basin
  bitsMask (([
    (0, basin && arms.any (fun a => (s.readySpares a).isEmpty)),
    (1, basin && (List.range 12).any (fun c => s.flag (F.LNK_CHAIN.SWAPPED c))),
    (2, basin && chains.any (fun c => !s.flag (F.LNK_CHAIN.SECOND_PATH c))),
    (3, (List.range 12).any (fun p => s.flag (F.LNK_PSTAT.CDR p))),
    (4, basin && s.nor.reserve != 0 && decide (4 * (s.nor.reserve - s.nor.used) < s.nor.reserve)),
    (5, (List.range 6).any (fun b => decide (fuseRowsLeft b - (s.red.mapped.filter (fun r => r / 65536 == b)).length < 4))),
    (6, (s.get F.THM_SENS.IN_SERVICE).testBit 4),
    (7, basin && !(s.flag F.RED_PEER.PEER_OK && bitOf (s.get F.RED_PEER.FIT) 0)),
    (8, !(s.flag F.RED_VAON.A_OK && s.flag F.RED_VAON.B_OK)),
    (9, (List.range 14).any (fun g => s.exclOf g != 0))] : List (Nat × Bool)).filter (fun x => x.2) |>.map (fun x => x.1))

/-- A window of the table window range (R519). -/
def State.tblWindow (s : State) (o : Nat) : Nat :=
  let i := s.get F.TBL_WIN_SEL.SECT
  if i = 0xFF || s.tbl.img.isEmpty || imgNsect s.tbl.img ≤ i then 0
  else
    let b := sectBytes s.tbl.img (imgSect s.tbl.img i)
    bytesAt b (32768 * s.get F.TBL_WIN_SEL.PAGE + (o - 0x38000)) 4

/-- A register's word as a read returns it: WO fields read 0, and fields that show other state show it. -/
def State.shown (s : State) (o : Nat) : Nat :=
  let w := (s.rd o).toNat
  let sub := fun (lo n v : Nat) => (putField (BitVec.ofNat 32 w) lo n v).toNat
  if o = F.HIF_STATUS.INFLIGHT.off then sub 0 10 s.inflight
  else if 0x4300 ≤ o && o < 0x4400 && o % 16 = 8 then (s.inflOf ((o - 0x4300) / 16)).length
  else if 0x8000 ≤ o && o < 0xB000 && (o - 0x8000) % 0x400 = 0x28 then min (2 ^ 32 - 1) (w + s.prbsUnits ((o - 0x8000) / 0x400))
  else if o = F.HIF_ORD_STAT.FENCES.off then
    let checks := (s.host.infl.filter (fun (x : Infl) => match x.phase with
      | .check _ _ _ => true
      | _ => false)).length
    b2n (s.flag F.HIF_ORD_STAT.RECON_BUSY) * 2 ^ 31 + min 0xFF checks * 2 ^ 16 + min 0xFFF s.host.fences.length
  else if 0x4A00 ≤ o && o < 0x4D00 then s.fenceMask ((o - 0x4A00) / 4)
  else if o = F.CTL_APPLY_DEPTH.DEPTH.off then s.applyDepth
  else if o = F.SLU_ENTRY_STAT.IN_USE.off then s.entryStat
  else if o = F.WEIR_OCP_STAT.EXCL.off then sub 8 3 (s.exclOf 0)
  else if o = F.SAFE_STAT.FAILING.off then sub 8 8 s.failing
  else if o = F.SAFE_TEST.SINCE.off then
    sub 8 8 (min 255 ((s.time.cyc - s.safe.lastPulse.getD s.time.cyc) / 500000000))
  else if 0x24040 ≤ o && o < 0x24078 then sub 0 16 (s.degMin ((o - 0x24040) / 4))
  else if o = F.RED_SPARE_SUM.SPENT.off then s.spareSum
  else if o = F.REC_STATUS.STATE.off then
    (if s.role == .basin then s.recState * 2 ^ 29 + s.evStaged else ((s.aon.ledger.length + s.ledInTransit) % 256) * 2 ^ 16 + s.evStaged)
  else if o = F.REC_CEIL.VALUE.off then s.nor.seqCeil
  else if o = F.REC_LEDGER_RD.VALUE.off then s.nor.ledgerRd
  else if o = F.REC_ATTR.SEV.off then
    let c := s.get F.REC_ATTR_SEL.CODE
    if c < 0x0100 || 0x0FFF < c then 0
    else
      let a := s.attrOf c
      b2n a.journal * 2 ^ 20 + a.sev * 2 ^ 16 + a.burst * 256 + a.rate
  else if o = F.REC_ATTR_SUPP.SUPP.off then
    let c := s.get F.REC_ATTR_SEL.CODE
    if c < 0x0100 || 0x0FFF < c then 0 else ((s.recd.buckets.find? (fun (b : Bucket) => b.code == c)).map (fun (b : Bucket) => b.supp)).getD 0
  else if o = F.REC_NOR.DEVICES.off then s.nor.devices * 2 ^ 30 + s.nor.total
  else if o = F.REC_NOR_SPARE.LEFT.off then s.nor.reserve * 2 ^ 16 + (s.nor.reserve - s.nor.used)
  else if o = F.CAN_PACK_STAT.AGE.off then sub 0 16 s.bmsAge
  else w

/-- The PBA (0x7800 to 0x7807) and the MSI-X table. -/
def State.msixRead (s : State) (o : Nat) : Nat :=
  if 0x7800 ≤ o then bitsMask ((s.host.msixPba.filter (fun v => v / 32 == (o - 0x7800) / 4)).map (fun v => v % 32))
  else if o % 16 = 12 then b2n (s.host.msixMask.contains ((o - 0x7000) / 16))
  else (((s.host.msixTable.find? (fun (x : Nat × Word) => x.1 == o)).map (fun (x : Nat × Word) => x.2)).getD 0#32).toNat

/-- One word read from an offset of BAR0, with the read's own effects: TIME_STAMP and REC_E_IN_LO latch their groups (R291, R498), CAN_PACK_REC0 its words
(R463), and a FIFO window locks or releases its element (R450). -/
def State.busRead (s : State) (o : Nat) : State × Nat :=
  if 0x38000 ≤ o && o < 0x40000 then (s, s.tblWindow o)
  else if 0x7000 ≤ o && o < 0x7808 && s.role == .basin then (if o < 0x7400 || 0x7800 ≤ o then (s, s.msixRead o) else (s, 0))
  else if 0x1E000 ≤ o && o < 0x20000 && 0x100 ≤ (o - 0x1E000) % 0x800 then s.canRead ((o - 0x1E000) / 0x800) ((o - 0x1E000) % 0x800)
  else if !s.liveReg o then (s, 0)
  else
    let s := if o = F.TIME_STAMP.VALUE.off then s.stampLatch
      else if o = F.REC_E_IN_LO.VALUE.off then s.energyLatch
      else if o = (F.CAN_PACK_REC.WORD 0).off then s.packLatch
      else s
    (s, s.shown o)

end Sys2Proof.Machine
end

