-- ==== Sys2Proof/Machine/Tables.lean ====
section
/-! DEFINITION. Tables.lean: how a device applies an image (R502 to R504), and the meanings of loading, swapping and pushing one (R508 to R517). -/
namespace Sys2Proof.Machine

/-! ### Applying an image (R502 to R504, R514) -/

/-- A bank by its code. -/
def State.bank (s : State) (b : Nat) : Bank := if b = 0 then s.nor.bankA else s.nor.bankB
def State.setBank (s : State) (b : Nat) (x : Bank) : State :=
  if b = 0 then { s with nor := { s.nor with bankA := x } } else { s with nor := { s.nor with bankB := x } }

def genFld (b : Nat) : Fld := if b = 0 then F.TBL_GEN_A.GEN else F.TBL_GEN_B.GEN
def validFld (b : Nat) : Fld := if b = 0 then F.TBL_STATUS.VALID_A else F.TBL_STATUS.VALID_B

/-- The registers of a bank follow its last check. -/
def State.bankShown (s : State) (b : Nat) : State :=
  let x := s.bank b
  (s.setFlag (validFld b) x.valid).set (genFld b) (if x.valid then imgGen x.bytes else 0)

/-- The check of a bank: one that holds part of a load fails IMAGE_CRC (R505, R511). -/
def State.bankCheck (s : State) (b : Nat) : Option Nat :=
  let x := s.bank b
  if x.part then some (reasonWord 0x05 0xFF 0xFFFF) else imgCheck .bank (s.rd F.CMN_REV.REV.off).toNat x.bytes

/-- The number this device has under an image, and its class. -/
def State.ownIn (s : State) (img : List Nat) : Nat := match s.role with
  | .basin => if s.side == .a && imgPair img then 0xC0 else 0xC1
  | .spring => s.selfId
def State.classOf (s : State) : Nat := match s.role with
  | .basin => tgtBasins
  | .spring => tgtSprings

/-- The register words an image's ADC and REG sections give a device, in the order they are written. -/
def imgWords (img : List Nat) (own cls : Nat) : List (Nat × Nat) :=
  let adc := tableFor img secADC own cls
  (if adc.isEmpty then [] else (List.range 212).map (fun i => (adcOffsets.getD i 0, img32 adc (4 * i)))) ++ regEntries img own cls

/-- The CAN section: every controller is put in INIT and given its registers and filters before any leaves INIT (R442, R446, R453). -/
def State.applyCan (s : State) (b : List Nat) : State :=
  let word := fun (n k : Nat) => img32 b (64 * n + 4 * k)
  let w : WrIn := {}
  let put := fun (n k : Nat) (s : State) => s.canSpace false w (0x1E000 + 0x800 * n + canRecOffsets.getD k 0) (word n k)
  let s := (List.range 4).foldl (fun (s : State) n => (List.range 11).foldl (fun (s : State) k => put n (k + 1) s) (s.canInitSet n)) s
  let sf := fun (n : Nat) => 4 * bitsOf (word n 5) 24 8
  let xf := fun (n : Nat) => 8 * bitsOf (word n 6) 24 8
  let at' := fun (n : Nat) => 256 + ((List.range n).map (fun i => sf i + xf i)).foldl (· + ·) 0
  let s := (List.range 4).foldl (fun (s : State) n =>
    let s := State.ramStore ((b.drop (at' n)).take (sf n)) (4 * s.get (F.CAN_RAMSF.BASE n)) s
    State.ramStore ((b.drop (at' n + sf n)).take (xf n)) (4 * s.get (F.CAN_RAMXF.BASE n)) s) s
  (List.range 4).foldl (fun (s : State) n => put n 13 (put n 12 (put n 0 s))) s

/-- The attributes of an ATTR section (R472). -/
def attrsOf (b : List Nat) : List AttrEnt :=
  (List.range (b.length / 8)).map (fun i =>
    ⟨img16 b (8 * i), img8 b (8 * i + 2) % 16, bitOf (img8 b (8 * i + 2)) 4, img8 b (8 * i + 3), img8 b (8 * i + 4)⟩)

/-- A Spring's DERIVED section (R514). -/
def State.applyDerived (s : State) (b : List Nat) : State :=
  if b.isEmpty then s else (s.set F.WEIR_SCFG.ARM_ID (img8 b 1)).set F.THM_RATING.P_RATED (img16 b 4)

/-- An image comes into force: its sections by TYPE, REG last (R502, R503); TBL_GEN and IN_FORCE show it. -/
def State.applyImage (s : State) (img : List Nat) (bank : Nat) : State :=
  let own := s.ownIn img
  let cls := s.classOf
  let old := fun (t : Nat) => tableFor s.tbl.img t own cls
  let new := fun (t : Nat) => tableFor img t own cls
  let bms := old secBMS != new secBMS
  let can := old secCAN != new secCAN && !(new secCAN).isEmpty
  let s := { s with tbl := { s.tbl with img := img, bank := bank } }
  let s := s.when (s.role == .basin) State.rolesFromTable
  let w : WrIn := {}
  let words := imgWords img own cls
  let n := words.length - (regEntries img own cls).length
  let s := (words.take n).foldl (fun (s : State) (x : Nat × Nat) => s.cfgWrite true w x.1 x.2) s
  let s := s.when bms (fun s => ({ s with can := { s.can with pack := { s.can.pack with work := [] } } }).set F.CAN_PACK_STAT.FRESH 0)
  let s := if can then s.applyCan (new secCAN) else s
  let s := if (new secATTR).isEmpty then s else s.setAttrs (attrsOf (new secATTR))
  let s := s.when (s.role == .spring) (fun s => s.applyDerived (new secDERIVED))
  let s := (words.drop n).foldl (fun (s : State) (x : Nat × Nat) => s.cfgWrite true w x.1 x.2) s
  (s.set F.TBL_GEN.GEN (imgGen img)).set F.TBL_STATUS.IN_FORCE bank

/-- A bank's image comes into force at a Basin; one that waits for it goes on with step 8 (R508, R509, R534). -/
def State.applyBank (s : State) (b : Nat) (img : List Nat) : State :=
  let s := s.applyImage img b
  if s.pwr.step8 && s.get F.RED_CLAIM.ROLE == roleElecting then (s.startPorts.foldl State.leaveIdle s).electBegin else s

/-! ### Loading (R510, R511) -/

/-- A load refused: the open load is abandoned (R510). -/
def State.loadRefuse (s : State) (x : Infl) (reason : Nat) : State :=
  (s.abandonLoad.raise Ev.IMAGE_REFUSED [bytesAt x.d.param 0 1, reason]).refuse x.id stLIMIT reason

/-- A load opens at offset 0: another open load is abandoned, and the bank is erased, unless the header's LENGTH does not fit it. -/
def State.loadOpen (s : State) (b : Nat) (bytes : List Nat) : Option State :=
  let s := s.abandonLoad
  let x := s.bank b
  if 65536 * x.blocks < imgLen bytes then none
  else
    let s := (s.setBank b { x with bytes := [], valid := false, part := true }).bankShown b
    let s := { s with tbl := { s.tbl with load := some ⟨b, 0, imgLen bytes⟩ } }
    some ((s.set F.TBL_STATUS.LOAD_OPEN 1).set F.TBL_STATUS.LOAD_BANK b)

/-- A TABLE_LOAD's checks (R510), with the bytes its buffer gives. -/
def State.tableLoad (s : State) (x : Infl) (buf : HostBuf) : State :=
  let b := bytesAt x.d.param 0 1
  let off := bytesAt x.d.param 4 4
  let n := x.d.length
  if !s.norUsable then s.loadRefuse x rsNOR
  else if 1 < b then s.refuse x.id stTARGET 0
  else if s.get F.TBL_STATUS.IN_FORCE == b then s.loadRefuse x rsBANK
  else
    match buf with
    | .failed e => s.refuse x.id stDEVICE e
    | .words ws =>
      if ws.length * 4 < n then s
      else
        let ws := ws.take (n / 4)
        match (if off = 0 then s.loadOpen b (wordBytes (ws.take 16)) else some s) with
        | none => s.loadRefuse x rsSEQ
        | some s =>
          match s.tbl.load with
          | none => s.loadRefuse x rsSEQ
          | some l =>
            if l.bank != b || l.next != off || (if bitOf x.d.flags 3 then off + n != l.len else decide (l.len ≤ off + n)) then s.loadRefuse x rsSEQ
            else
              let s := { s with tbl := { s.tbl with load := some { l with next := off + n } } }
              s.modInfl x.id (fun y => { y with phase := .working, data := ws })

/-- TABLE_LOAD (R328, R510): `buf` is what the read of the host buffer gives. -/
def execTableLoad (dt : Nat) (q : Fin 16) (buf : HostBuf) (s : State) : Out := onBasin s fun s => (s.advance dt).op q ocLOAD fun s x => s.tableLoad x buf

/-- The last of a load is in the bank: the whole bank is checked (R511). -/
def State.loadEnd (s : State) (x : Infl) (b : Nat) : State :=
  let s := s.abandonLoad
  let s := s.setBank b { s.bank b with part := false }
  match s.bankCheck b with
  | some r =>
    let s := (s.setBank b { s.bank b with part := true }).raise Ev.IMAGE_REFUSED [b, r]
    s.refuse x.id stLIMIT r
  | none =>
    let s := (s.setBank b { s.bank b with valid := true }).bankShown b
    let g := imgGen (s.bank b).bytes
    (s.raise Ev.IMAGE_LOADED [b, g, imgLen (s.bank b).bytes]).settle x.id stOK 0 g 0 0

/-- TABLE_LOAD_DONE (R511): the bytes of the oldest accepted load are programmed and verified; programs wait through a sag (R496). -/
def execTableLoadDone (dt : Nat) (q : Fin 16) (s : State) : Out := onBasin s fun s =>
  let s := s.advance dt
  match s.host.infl.find? (fun (x : Infl) => x.sq == q.val && x.d.opcode == ocLOAD && x.phase == .working) with
  | none => s
  | some x =>
    if s.nor.sag then s
    else
      let b := bytesAt x.d.param 0 1
      match s.tbl.load with
      | some l =>
        if l.bank == b then
          let k := s.bank b
          let s := s.setBank b { k with bytes := k.bytes ++ wordBytes x.data }
          if bitOf x.d.flags 3 then s.loadEnd x b else s.settle x.id stOK 0 0 0 0
        else s.refuse x.id stLIMIT rsSEQ
      | none => s.refuse x.id stLIMIT rsSEQ

/-! ### Swapping (R509, R513) -/

/-- The last word a list of register words gives an offset. -/
def lastWord (l : List (Nat × Nat)) (o : Nat) : Option Nat := ((l.filter (fun x => x.1 == o)).getLast?).map (·.2)

/-- The RWL bits of the register at an offset. -/
def rwlBits (o : Nat) : Nat := ((rowAt o).map RegRow.rwlMask).getD 0

/-- A list of register words gives an RWL field another value than it has now. -/
def rwlChange (l : List (Nat × Nat)) (now : Nat → Nat) : Bool :=
  l.any (fun x => rwlBits x.1 != 0 && (((lastWord l x.1).getD 0) ^^^ now x.1) &&& rwlBits x.1 != 0)

/-- Spring indexes an image's sections name, and one they do not name. -/
def namedSprings (imgs : List (List Nat)) : List Nat :=
  let l := (imgs.flatMap (fun i => (imgDir i).map (·.target))).filter (fun t => decide (t < 192))
  l.eraseDups ++ (((List.range 192).find? (fun t => !l.contains t)).toList)

/-- The image changes an RWL value of this Basin or of a Spring (check 5). -/
def State.swapRwl (s : State) (img : List Nat) : Bool :=
  rwlChange (imgWords img (s.ownIn img) tgtBasins) (fun o => (s.rd o).toNat) ||
    (namedSprings [img, s.tbl.img]).any (fun sp =>
      let old := imgWords s.tbl.img sp tgtSprings
      rwlChange (imgWords img sp tgtSprings) (fun o => (lastWord old o).getD (resetWord .spring .a o).toNat))

/-- The CAN sections of an image. -/
def canSections (img : List Nat) : List (Nat × List Nat) := ((imgDir img).filter (fun x => x.type == secCAN)).map (fun x => (x.target, sectBytes img x))

/-- The image changes a register that the station state holds, or the CAN section, or PAIR (check 6). -/
def State.swapState (s : State) (img : List Nat) : Bool :=
  let held := fun (o : Nat) => (decide (0xB000 ≤ o) && decide (o < 0xB030)) || o == F.CTL_TICK_PERIOD.PERIOD.off || o == F.CTL_GATHER_DL.DEADLINE.off
  let regs := (imgWords img (s.ownIn img) tgtBasins).any (fun x => held x.1 && (s.rd x.1).toNat != ((s.writeFields false x.1 x.2).rd x.1).toNat)
  (s.energisedRange && (regs || canSections img != canSections s.tbl.img)) || (!s.tbl.img.isEmpty && imgPair img != imgPair s.tbl.img)

/-- A swap refused. -/
def State.swapRefuse (s : State) (x : Infl) (status reason : Nat) : State :=
  (s.raise Ev.SWAP_REFUSED [bytesAt x.d.param 0 1, status, reason]).refuse x.id status reason

/-- The image in force is pushed to the enrolled Springs that no push of its swap has reached (R517). -/
def State.pushOthers (s : State) (reached : List Nat) : State :=
  ((s.lnk.enrolled.map (fun (e : Enr) => e.spring)).filter (fun sp => !s.ctl.lost.contains sp && !reached.contains sp)).foldl
    (fun (s : State) sp => s.startPush s.tbl.img sp 0) s

/-- A swap takes effect at tick `a` (R513): the image its checks passed is in force; Springs that were LOST are pushed to when they return. -/
def State.swapNow (s : State) (id bank : Nat) (img : List Nat) (a : Nat) : State :=
  let oldB := s.get F.TBL_STATUS.IN_FORCE
  let oldG := s.get F.TBL_GEN.GEN
  let s := s.applyBank bank img
  let g := imgGen s.tbl.img
  let s := match s.tbl.swap with
    | some w =>
      let s := { s with tbl := { s.tbl with swap := none, lostPush := s.ctl.lost, watch := w.pushed.map (fun sp => (sp, g, a)) } }
      (s.setPushes (s.tbl.pushes.filter (fun x => !w.pushed.contains x.1))).pushOthers w.pushed
    | none => if s.dispatches then { s with tbl := { s.tbl with lostPush := s.ctl.lost } }.pushOthers [] else s
  (s.raise Ev.TABLE_SWAPPED [oldB, bank, oldG, g, a]).settle id stOK 0 0 0 a

/-- A TABLE_SWAP's checks, in order, and its pushes (R513). Where no tick has run yet the swap takes effect at once. -/
def State.tableSwap (s : State) (x : Infl) : State :=
  let b := bytesAt x.d.param 0 1
  let img := (s.bank b).bytes
  let d := toSigned 32 (imgGen img + 2 ^ 32 - imgGen s.tbl.img)
  if 1 < b then s.swapRefuse x stTARGET 0
  else if s.get F.TBL_STATUS.IN_FORCE == b then s.swapRefuse x stLIMIT rsBANK
  else if !(s.bank b).valid then s.swapRefuse x stLIMIT rsNOTVALID
  else if !s.tbl.img.isEmpty && d ≤ 0 then s.swapRefuse x stLIMIT rsNOTNEWER
  else if s.cfgLocked && s.swapRwl img then s.swapRefuse x stAUTH 0
  else if s.swapState img then s.swapRefuse x stLIMIT rsSTATE
  else if s.dispatches && s.tbl.swap.isSome then s.swapRefuse x stLIMIT (rsPUSH 0xFFFF)
  else if !s.ticking then s.swapNow x.id b img 0
  else
    match applyTick s.nextTick x.d.applyTick with
    | none => s.swapRefuse x stSTALE 0
    | some a =>
      let s := s.modInfl x.id (fun y => { y with due := a, phase := .queued a, data := payloadWords img })
      if s.dispatches then
        let sps := (s.lnk.enrolled.map (fun (e : Enr) => e.spring)).filter (fun sp => !s.ctl.lost.contains sp)
        sps.foldl (fun (s : State) sp => s.startPush img sp a) { s with tbl := { s.tbl with swap := some ⟨x.id, b, a, sps, [], [], none, false⟩ } }
      else s

/-- TABLE_SWAP (R513 to R515). -/
def execTableSwap (dt : Nat) (q : Fin 16) (s : State) : Out := onBasin s fun s => (s.advance dt).op q ocSWAP fun s x => s.tableSwap x

/-- The dispatch of tick A - 1 decides a running swap (R513): every push it needs has been accepted and committed, or nothing changes. -/
def State.swapDecide (s : State) : State :=
  match s.tbl.swap with
  | none => s
  | some w =>
    if tickSucc s.tickNow != w.tick then s
    else
      let need := w.pushed.filter (fun sp => !s.ctl.lost.contains sp)
      match (need.filter (fun sp => w.failed == some sp || !w.accepted.contains sp || !w.committed.contains sp)) with
      | [] => { s with tbl := { s.tbl with swap := some { w with pushed := need, ready := true } } }
      | sp :: _ =>
        let sp := match w.failed with
          | some f => if need.contains f then f else sp
          | none => sp
        let s := (s.swapAbandon w).raise Ev.SWAP_REFUSED [w.bank, stLIMIT, rsPUSH sp]
        s.refuse w.id stLIMIT (rsPUSH sp)

/-! ### A push at the Spring (R515 to R517) -/

/-- The staged image is applied (R516): PUSH_DONE; at start-up step 5 ends and the self-calibration of step 6 begins (R538). -/
def State.applyStaged (s : State) : State :=
  match s.tbl.staged with
  | none => s
  | some img =>
    let s := s.applyImage img (Config.pushedBank (imgGen img) % 2)
    let s := { s with tbl := { s.tbl with staged := none, commitAt := none } }
    let s := ((s.set F.TBL_STATUS.PUSHING 0).set F.TBL_STATUS.STAGED 0).raise Ev.PUSH_DONE [imgGen img, s.spr.tick]
    let s := s.startStep 5
    if s.pwr.calDone then s.startStep 7 else if s.calRuns then s else s.startCal 15 none

/-- A push being received or staged is dropped (R515, R518). -/
def State.dropStaged (s : State) : State :=
  ({ s with tbl := { s.tbl with staged := none, commitAt := none, rxLen := 0, rxGen := 0, rx := [] } }.set F.TBL_STATUS.PUSHING 0).set F.TBL_STATUS.STAGED 0

/-- BEGIN: the Spring is busy from here. -/
def State.chunkBegin (s : State) (m : Mgmt) : State :=
  let s := { s with tbl := { s.tbl with staged := none, commitAt := none, rxLen := bytesAt m.payload 0 4, rxGen := bytesAt m.payload 4 4, rx := [] } }
  (s.set F.TBL_STATUS.PUSHING 1).set F.TBL_STATUS.STAGED 0

/-- DATA: bytes of the image at an offset. -/
def State.chunkData (s : State) (m : Mgmt) : State :=
  { s with tbl := { s.tbl with rx := s.tbl.rx ++ [(m.param % 2 ^ 24, m.payload)] } }

/-- Bytes laid over a list at an offset. -/
def overlay (l : List Nat) (off : Nat) (b : List Nat) : List Nat := (l.take off ++ b ++ l.drop (off + b.length)).take l.length

/-- The image the chunks spell. -/
def TblSt.pushed (t : TblSt) : List Nat := t.rx.foldl (fun l (x : Nat × List Nat) => overlay l x.1 x.2) (List.replicate (min t.rxLen 65536) 0)

/-- END: the image is checked and RESULT answers; a refusal raises CONFIG_REFUSED and holds a start-up at step 5 (R505, R539). -/
def State.chunkEnd (s : State) (m : Mgmt) : State :=
  let img := s.tbl.pushed
  let answer := fun (s : State) (w : Nat) => s.sendSeq m.src opCHUNK (chunk 5 0) (leBytes 4 w) .none
  match imgCheck (.push s.selfId) (s.rd F.CMN_REV.REV.off).toNat img with
  | some r =>
    let s := s.raise Ev.CONFIG_REFUSED [r]
    answer (if s.pwr.steps.contains 5 then s else s.startFail 5 r) r
  | none => answer ({ s with tbl := { s.tbl with staged := some img } }.set F.TBL_STATUS.STAGED 1) 0

/-- COMMIT: at once for tick 0, else at the boundary named. -/
def State.chunkCommit (s : State) (m : Mgmt) : State :=
  let a := bytesAt m.payload 0 4
  if s.tbl.staged.isNone then s else if a = 0 then s.applyStaged else { s with tbl := { s.tbl with commitAt := some a } }

/-- A chunk of a kind received by a Spring. -/
def State.chunkRx (s : State) (kind port : Nat) (bs : List Block) (f : Mgmt → State → State) : State :=
  s.mgmtSeq port bs (fun m => m.op == opCHUNK && chunkKind m.param == kind) f

/-- TABLE_CHUNK_BEGIN (R515, R516). -/
def execTableChunkBegin (dt : Nat) (port : Fin 2) (bs : List Block) (s : State) : Out := onSpring s fun s =>
  (s.advance dt).chunkRx 0 port bs fun m s => s.chunkBegin m

/-- TABLE_CHUNK_DATA (R515). -/
def execTableChunkData (dt : Nat) (port : Fin 2) (bs : List Block) (s : State) : Out := onSpring s fun s =>
  (s.advance dt).chunkRx 1 port bs fun m s => s.chunkData m

/-- TABLE_CHUNK_END (R505, R515). -/
def execTableChunkEnd (dt : Nat) (port : Fin 2) (bs : List Block) (s : State) : Out := onSpring s fun s =>
  (s.advance dt).chunkRx 2 port bs fun m s => s.chunkEnd m

/-- TABLE_CHUNK_COMMIT (R515, R516). -/
def execTableChunkCommit (dt : Nat) (port : Fin 2) (bs : List Block) (s : State) : Out := onSpring s fun s =>
  (s.advance dt).chunkRx 3 port bs fun m s => s.chunkCommit m

/-- TABLE_CHUNK_ABANDON (R515, R516). -/
def execTableChunkAbandon (dt : Nat) (port : Fin 2) (bs : List Block) (s : State) : Out := onSpring s fun s =>
  (s.advance dt).chunkRx 4 port bs fun _ s => s.dropStaged

/-- TABLE_CHUNK_RESULT (R515): a Spring's answer to END at the Basin. -/
def execTableChunkResult (dt : Nat) (port : Fin 12) (bs : List Block) (s : State) : Out := onBasin s fun s =>
  (s.advance dt).chunkRx 5 port bs fun m s =>
    ((s.takeAwait m.src opCHUNK (fun p => chunkKind p == 2)).1).pushResult m.src (bytesAt m.payload 0 4)

end Sys2Proof.Machine
end

