-- ==== Sys2Proof/Machine/Power.lean ====
section
/-! DEFINITION. Power.lean: full and warm resets, SAFE_HOLD, the NOR boot, and the meanings of the supply and reset commands (18_power_reset_startup). -/
namespace Sys2Proof.Machine

/-! ### What a reset keeps (R524, R525, R529) -/

/-- Ledger records a Spring has sent and not had acknowledged return to its staging (R488). -/
def State.ledgerBack (s : State) : List LedgerRec :=
  ((s.lnk.peers.flatMap (fun (p : Peer) => p.unacked ++ p.waiting)).flatMap (fun (x : MOut) => match x.owner with
    | .ledger l => l
    | _ => [])) ++ s.aon.ledger

/-- The device in full reset: only the AON domain and the NOR keep what they hold. -/
def State.fullReset (s : State) : State :=
  { ({} : State) with role := s.role, side := s.side, boot := s.boot, out := s.out, free := s.free, pending := s.pending, pwr := { full := true }
                      aon := { s.aon with ledger := s.ledgerBack, candidates := [], guardTested := false, lastLedger := 0 }
                      nor := { s.nor with sag := false } }

/-- Registers a warm reset keeps whole: CMN_STRAP, CMN_RESET, the PLLs' status, CLK_BO, CLK_FPS, hop slots, self-calibration factors, the sensors out of service (R218), the
CAN RAM partition, SEQ, the SRAM repairs and the contactors' operation counts. -/
def keptReg (o : Nat) : Bool :=
  ([0x8, 0xC, 0x1004, 0x100C, 0x101C, 0x1020, 0x1A00C, 0x2000C, 0x24024, 0x2C010] : List Nat).contains o || (decide (0x1040 ≤ o) && decide (o < 0x10C0)) ||
    (decide (0x14000 ≤ o) && decide (o < 0x14400) && decide (0xC0 ≤ o % 0x100) && decide (o % 0x100 < 0xE0)) ||
    (decide (0x1E000 ≤ o) && decide (o < 0x20000) && decide (0x20 ≤ o % 0x800) && decide (o % 0x800 < 0x3C))

/-- A half-bridge as a warm reset leaves it: low, but for a soft turn-off that runs to its end (R136, R153). -/
def warmHb (h : HbSt) : HbSt :=
  if h.soft.isSome then { hi := { on := h.hi.on, onAt := h.hi.onAt, ssd := h.hi.ssd }, lo := { on := h.lo.on, onAt := h.lo.onAt, ssd := h.lo.ssd },
                            soft := h.soft, softAt := h.softAt, softFor := h.softFor } else {}

/-- What a Spring keeps of its image: the BMS profiles (R466). -/
def keptProfiles (img : List Nat) (own : Nat) : List Nat :=
  match sectFor img secBMS own tgtSprings with
  | some x => layImage 0 0 0 [(secBMS, x.target, sectBytes img x)]
  | none => []

/-- The device in a warm reset: what R529 does not keep is at its reset value. -/
def State.warmState (s : State) : State :=
  let basin := s.role == .basin
  let steps := [1, 2] ++ (s.pwr.steps.filter (fun n => if basin then n == 3 || n == 5 || n == 10 else n == 6))
  let t : State :=
    { ({} : State) with
      role := s.role, side := s.side, boot := s.boot, out := s.out, free := s.free, pending := s.pending
      regs := s.regs.filter (fun (x : Nat × Word) => keptReg x.1)
      pwr := { full := s.pwr.full, warm := true, rstLow := s.pwr.rstLow, stuck := s.pwr.stuck, steps := steps, calDone := s.pwr.calDone, rstAt := s.pwr.rstAt, highAt := s.pwr.highAt
               holdAt := s.pwr.holdAt, probes := s.pwr.probes }
      clk := s.clk
      time := { ext := s.time.ext, frac := s.time.frac, rem := s.time.rem, cyc := s.time.cyc, todOff := s.time.todOff, todValid := s.time.todValid
                everLocked := s.time.everLocked, anchorAt := s.time.anchorAt }
      recd := if basin then { staging := s.recd.staging, lseq := s.recd.lseq, lost := s.recd.lost, retire := s.recd.retire, lastSeq := s.recd.lastSeq, led := s.recd.led }
        else {}
      aon := { s.aon with ledger := s.ledgerBack }
      nor := s.nor
      tbl := if basin then { img := s.tbl.img, bank := s.tbl.bank } else { img := keptProfiles s.tbl.img s.selfId }
      gate := { hbs := s.gate.hbs.map warmHb }
      can := { ram := s.can.ram }
      adc := { units := s.adc.units.map (fun u => { failed := u.failed }) }
      pcie := s.pcie
      red := { rows := s.red.rows, mapped := s.red.mapped } }
  let t := (t.set F.TIME_STATUS.EPOCH (s.get F.TIME_STATUS.EPOCH)).set F.CMN_SUPPLY.SAG (b2n s.nor.sag)
  let t := (List.range 4).foldl (fun (t : State) n => t.set (F.ADC_STAT.CAL_OK n) (s.get (F.ADC_STAT.CAL_OK n))) t
  let t := t.when basin (fun t => t.setFlag F.SAFE_STAT.GUARD_TESTED s.aon.guardTested)
  let t := t.when (basin && s.get F.RED_CLAIM.ROLE == roleFailed) (fun t => t.set F.RED_CLAIM.ROLE roleFailed)
  t.set F.CMN_PROG.STEP (stepReached steps 13 0)

/-- A warm reset entered (R528): EI_ENTER on every port that is UP, the host link down, the safety outputs off. -/
def State.warmEnter (s : State) : State :=
  let s := s.upPorts.foldl State.eiSend s
  let s := s.when (s.role == .basin) (fun s =>
    let s := if s.flag F.HIF_STATUS.LINK_UP then (let (s, n) := s.hostGone; s.raise Ev.PCIE_LINK_DOWN [n]) else s
    ({ s with safe := { s.safe with offFrom := s.time.cyc, offCause := evNum Ev.SAFE_OUT_OFF 7 } }).outputsOff)
  s.warmState

/-! ### Spare rows (R396, R404) -/

/-- Listed rows that have no spare row yet are mapped while their bank has one. -/
def State.mapRow (s : State) (r : Nat) : State :=
  let b := r / 65536
  let used := (s.red.mapped.filter (fun m => m / 65536 == b)).length
  if s.red.mapped.contains r || fuseRowsLeft b ≤ used then s
  else
    let s := { s with red := { s.red with mapped := s.red.mapped ++ [r] } }
    let s := (s.set F.RED_SRAM.USED (s.get F.RED_SRAM.USED + 1)).set F.RED_SRAM.LEFT (s.get F.RED_SRAM.LEFT - 1)
    s.raise Ev.SRAM_REPAIRED [b, r % 65536, evNum Ev.SRAM_REPAIRED 1]

def State.mapCandidates (s : State) : State :=
  let s := s.candidates.foldl State.mapRow s
  let s := s.set F.RED_SRAM.PEND (s.candidates.filter (fun r => !s.red.mapped.contains r)).length
  (List.range 6).foldl (fun (s : State) b =>
    let left := fuseRowsLeft b - (s.red.mapped.filter (fun m => m / 65536 == b)).length
    if left < 4 then s.raise Ev.SRAM_SPARES_LOW [b, left] else s) s

/-- The rows the fuses name (R396). -/
def State.mapFused (s : State) : State :=
  Config.fusedRows.foldl (fun (s : State) r => s.raise Ev.SRAM_REPAIRED [r / 65536, r % 65536, evNum Ev.SRAM_REPAIRED 0]) s

/-! ### The NOR boot (R471, R490 to R493, R508) -/

/-- The requirement that a device outside 32 MB to 256 MB, or a total outside 64 MB to 256 MB, breaks. -/
def norReqTotal : Nat := 4

/-- The controller looks for NOR devices (R490). -/
def State.norProbe (s : State) (b : NorProbe × NorProbe) : State :=
  let cs := [b.1, b.2]
  let blocks := cs.map (fun (p : NorProbe) => match p with
    | .device n => n
    | _ => 0)
  let n := (blocks.filter (· != 0)).length
  let total := blocks.foldl (· + ·) 0
  let bad := (([0, 1] : List Nat).filterMap (fun i => match cs.getD i .absent with
    | .unsupported r => some (i, r)
    | .device k => if k < 512 || 4096 < k then some (i, norReqTotal) else none
    | .absent => none))
  let wrong := n != 0 && bad.isEmpty && (decide (total < 1024) || decide (4096 < total))
  let s := { s with nor := { s.nor with devices := n, total := total, noNor := n == 0 || !bad.isEmpty || wrong } }
  let s := bad.foldl (fun (s : State) (x : Nat × Nat) => s.raise Ev.NOR_UNSUPPORTED [x.1, evNum Ev.NOR_UNSUPPORTED x.2]) s
  let s := if wrong then s.raise Ev.NOR_UNSUPPORTED [0, evNum Ev.NOR_UNSUPPORTED norReqTotal] else s
  if n = 0 && bad.isEmpty then s.raise Ev.NOR_ABSENT [0] else s

/-- The partition table (R493): blank NOR gets the layout, NOR without a valid table is foreign. -/
def State.norTable (s : State) : State :=
  if s.nor.noNor || (s.nor.layout == 1 && s.nor.ptCopies != 0) then s
  else if s.nor.layout == 0 then
    let s := { s with nor := layoutNew s.nor }
    s.raise Ev.NOR_FORMATTED [s.nor.total, s.nor.reserve, evNum Ev.NOR_FORMATTED 0]
  else { s with nor := { s.nor with layout := 2 } }.raise Ev.NOR_FOREIGN

/-- The SYSTEM entries at PORST_N release (R273, R471, R487). -/
def State.norSystem (s : State) : State :=
  if !s.norUsable then s
  else
    let s := (s.set F.TIME_STATUS.EPOCH s.nor.epoch).set F.REC_SEQ.VALUE s.nor.seqCeil
    let s := if s.nor.seqCeil = 0 then s else s.raise Ev.SEQ_RESUMED [s.nor.seqCeil]
    if s.nor.seqCeil = 0xFFFFFFFF then s.stopRec 1 else s

/-- The password in force is reported while it is the default (R425). -/
def State.defaultPw (s : State) : State :=
  if s.norUsable && s.nor.pwHash.isSome then s else (s.set F.SAFE_STAT.DEFAULT_PW 1).raise Ev.DEFAULT_PASSWORD

/-- The bank STRAP_BOOT selects among the valid ones (R507, R508). -/
def State.bankChosen (s : State) : Option Nat :=
  let a := s.nor.bankA
  let b := s.nor.bankB
  let newer := (0 : Int) < toSigned 32 (imgGen b.bytes + 2 ^ 32 - imgGen a.bytes)
  match s.boot with
  | 0 => if a.valid && b.valid then (if newer then some 1 else some 0) else if a.valid then some 0 else if b.valid then some 1 else none
  | 1 => if a.valid then some 0 else none
  | 2 => if b.valid then some 1 else none
  | _ => none

/-- A bank checked at start-up. -/
def State.bankBoot (s : State) (b : Nat) : State :=
  match s.bankCheck b with
  | some r => ((s.setBank b { s.bank b with valid := false }).bankShown b).raise Ev.IMAGE_INVALID_BOOT [b, r]
  | none => (s.setBank b { s.bank b with valid := true }).bankShown b

/-- Banks checked, one selected and applied (R508). Through a warm reset, tables whose bank was lost stay in force (R512). Answers whether an image is in force. -/
def State.selectBank (s : State) : State × Bool :=
  let old := s.tbl.img
  let oldB := s.tbl.bank
  let s := { s with tbl := { s.tbl with img := [], bank := 2 } }
  let s := if s.norUsable then (s.bankBoot 0).bankBoot 1 else s
  if !old.isEmpty && decide (oldB < 2) && !(s.bank oldB).valid then (s.applyImage old oldB, true)
  else
    match (if s.norUsable then s.bankChosen else none) with
    | some b =>
      let s := s.raise Ev.IMAGE_SELECTED [b, imgGen (s.bank b).bytes, s.boot]
      (s.applyImage (s.bank b).bytes b, true)
    | none => (s.raise Ev.NO_IMAGE [s.boot], false)

/-- What step 4 of a Basin does once the NOR is out of its reset (R534, R539): its failures are NO_NOR 0, FOREIGN 1, NO_IMAGE 2, and the programme goes on. -/
def State.norBoot (s : State) : State :=
  let s := (s.set F.REC_LSEQ.VALUE (if s.norUsable then s.nor.lseqCeil else 0)).defaultPw
  let s := s.mapCandidates
  let (s, ok) := s.selectBank
  if s.nor.noNor then s.startFail 4 0 else if !s.norUsable then s.startFail 4 1 else if !ok then s.startFail 4 2 else s.startStep 4

/-- 10 us, and 2 ms after the release of PORST_N, in CORE cycles (R557). -/
def cycXspi : Nat := 5000
def cycXspiFirst : Nat := 1000000

/-- XSPI_RST_N is low: 10 us from the start of step 4, and at no other time (R557). -/
def State.xspiRstLow (s : State) : Bool := (s.pwr.xspiAt.map (fun a => decide (s.time.cyc < a + cycXspi))).getD false

/-- A Basin's step 4 goes on (R534, R557, R558): the pulse of XSPI_RST_N begins when it is due and no supply sag is in force; when it has ended, the NOR is looked at and booted
from, and step 5 follows a step 3 that has ended. -/
def State.bootGo (s : State) : State :=
  match s.pwr.step4 with
  | none => s
  | some due =>
    let s := if s.pwr.xspiAt.isNone && decide (due ≤ s.time.cyc) && !s.nor.sag then { s with pwr := { s.pwr with xspiAt := some due } } else s
    match s.pwr.xspiAt with
    | none => s
    | some a =>
      if a + cycXspi ≤ s.time.cyc then
        let s := match s.pwr.probes with
          | some p => ((s.norProbe p).norTable).norSystem
          | none => s
        let s := { s with pwr := { s.pwr with probes := none, step4 := none, booted := true } }.norBoot
        if s.pwr.steps.contains 3 then s.calOrNext else s
      else s

/-- A supply sag has ended: a pulse that was due waits no longer (R557, R496). -/
def State.bootAfterSag (s : State) : State :=
  match s.pwr.step4, s.pwr.xspiAt with
  | some due, none => { s with pwr := { s.pwr with step4 := some (max due s.time.cyc) } }.bootGo
  | _, _ => s

/-! ### Releases (R525, R530, R534, R538) -/

/-- The next epoch of a Spring (R524). -/
def State.nextEpoch (s : State) : State :=
  { s with aon := { s.aon with epoch := ((if s.aon.seeded then s.aon.epoch else Config.epochSeed) + 1) % 256, seeded := true } }

/-- A Spring's release: its epoch is one higher and step 3 begins, in which its ports leave IDLE. -/
def State.springStart (s : State) : State :=
  let s := s.nextEpoch
  let s := s.set F.CTL_SPR_STATUS.EPOCH s.aon.epoch
  let s := (s.setFlag F.REC_TENURE.OPEN s.aon.tenureOpen).set F.REC_TENURE.RSEQ (s.aon.rseq - 1)
  (s.leaveIdle 0).leaveIdle 1

/-- The device as the release of PORST_N finds it: straps sampled (R1, R526), nothing else begun. -/
def State.sampled (s : State) (b : BootIn) : State := { s.fullReset with role := b.role, side := b.side, boot := b.boot % 4, pwr := {} }

/-- What begins at the release of PORST_N (R525, R534, R538), with the NOR devices found. -/
def State.bringUp (s : State) (b : BootIn) : State :=
  let straps := b2n (b.role == .spring) + 2 * b2n (b.side == .b) + 4 * (b.boot % 4)
  let s := s.wr F.CMN_STRAP.ROLE.off (BitVec.ofNat 32 (straps + 16 * straps))
  let s := ((s.set F.CMN_RESET.CAUSE s.aon.cause).set F.CMN_RESET.BO_RAIL s.aon.boRail)
  let s := match s.role with
    | .spring => s.springStart
    | .basin => s
  let s := s.raise Ev.STARTED [s.aon.cause, s.aon.boRail, if s.role == .spring then s.aon.epoch else 0]
  let s := ((s.startStep 1).startStep 2).mapFused
  match s.role with
  | .spring => s
  | .basin => { s with pwr := { s.pwr with probes := some (b.cs0, b.cs1) } }

/-- The release of PORST_N with the strap levels and NOR devices found (R1, R525, R526). With TESTMODE high the device stays as PORST_N holds it (R559). -/
def State.release (s : State) (b : BootIn) : State :=
  let t := s.sampled b
  if b.test then { t with pwr := { full := true } } else t.confine (t.bringUp b)

/-- The device out of a warm reset (R530, R546): its cause recorded and counted, a Spring's epoch one higher. `cause` is CMN_RESET.CAUSE. -/
def State.warmLeft (s : State) (cause : Nat) : State :=
  let s := { s with pwr := { s.pwr with warm := false, relAt := s.upNs }, aon := { s.aon with cause := cause } }
  let s := (s.set F.CMN_RESET.CAUSE cause).inc F.CMN_RESET.WARM_CNT
  match s.role with
  | .spring => s.springStart
  | .basin => s

/-- The start-up programme resumed after a warm reset (R530): a Basin's at step 4, a Spring's at step 3, its ports already training. -/
def State.warmResume (s : State) (cause us : Nat) : State :=
  let s := s.raise Ev.WARM_RESET [evNum Ev.WARM_RESET (b2n (cause == 4)), us]
  match s.role with
  | .spring =>
    let s := s.mapCandidates
    let s := if s.aon.tenureOpen then s.ledgerRec lkRESTART else s
    s.plls3
  | .basin => (s.step4Due).bootGo.plls3

/-- The exit from a warm reset. -/
def State.warmExit (s : State) (cause us : Nat) : State := (s.warmLeft cause).warmResume cause us

/-! ### The commands -/

/-- PORST_N_ASSERT (R152, R525): the clamp drives every gate and SSD ball low and the device is in full reset. -/
def execPorstNAssert (s : State) : Out :=
  .next (if s.pwr.full then s else { s.fullReset with aon := { s.fullReset.aon with cause := 1 } })

/-- PORST_N_RELEASE (R1, R152, R525, R526): straps sampled, fuses loaded, rows mapped, and the start-up programme begins;
with TESTMODE high nothing does (R559). -/
def execPorstNRelease (b : BootIn) (s : State) : Out := .next (s.release b)

/-- BROWN_OUT (R152, R523): rail 0 VDD, 1 VDDPLL, 2 VDDL, 3 VDDH, 4 VDDA, 5 VDDIO is below its falling level. -/
def execBrownOut (rail : Fin 6) (s : State) : Out :=
  let t := s.fullReset
  .next { t with aon := { t.aon with cause := if s.pwr.full && s.aon.cause == 0 then 0 else 2, boRail := rail.val + 1 } }

/-- AON_POWER_ON (R524, R544): the always-on domain starts afresh, and the device is in full reset. -/
def execAonPowerOn (s : State) : Out := .next { s.fullReset with aon := {} }

/-- RESET_N_ASSERT (R527, R528, R532): RESET_N has been low long enough for a warm reset. During a full reset it has no effect. -/
def execResetNAssert (dt : Nat) (s : State) : Out := whenPowered s fun s =>
  let s := s.advance dt
  if s.pwr.rstLow then s
  else
    let s := { s with pwr := { s.pwr with rstLow := true, rstAt := s.time.cyc } }
    if s.pwr.warm then s else s.warmEnter

/-- tSTK and tREL at their least (R545), in CORE cycles, with what RESET_N had been low for when the warm reset was entered (tRSTW). -/
def State.tStk (s : State) : Nat := if s.flag F.CLK_REF.BAD then 899999500 else 998999500
def State.tRel (s : State) : Nat := if s.flag F.CLK_REF.BAD then 45000000 else 50000000

/-- tSTK at its most. -/
def State.tStkMax (s : State) : Nat := if s.flag F.CLK_REF.BAD then 1100000000 else 1001000000

/-- The warm reset is left into SAFE_HOLD (R531). -/
def State.intoHold (s : State) : State :=
  let d := s.time.cyc - s.pwr.rstAt
  let s := { s with pwr := { s.pwr with stuck := true, holdAt := if s.pwr.stuck then s.pwr.holdAt else s.time.cyc } }
  ((s.set F.CMN_RESET.SAFE_HOLD 1).warmExit 5 (d / 500)).raise Ev.RESET_STUCK [d / 500000]

/-- RESET_N_RELEASE (R527, R530, R532): the warm reset ends; in SAFE_HOLD the count of tREL begins. One that lasted tSTK ends in SAFE_HOLD (R544). -/
def execResetNRelease (dt : Nat) (s : State) : Out := whenPowered s fun s =>
  let s := s.advance dt
  if !s.pwr.rstLow then s
  else
    let us := (s.time.cyc - s.pwr.rstAt) / 500
    let s := if s.pwr.warm && decide (s.tStkMax ≤ s.time.cyc - s.pwr.rstAt) then s.intoHold else s
    let s := { s with pwr := { s.pwr with rstLow := false, highAt := s.time.cyc } }
    if s.pwr.warm then s.warmExit 3 us else s

/-- RESET_STUCK (R531): RESET_N low for tSTK; the device leaves the warm reset into SAFE_HOLD. -/
def execResetStuck (dt : Nat) (s : State) : Out := whenPowered s fun s =>
  let s := s.advance dt
  if s.pwr.warm && s.pwr.rstLow && decide (s.tStk ≤ s.time.cyc - s.pwr.rstAt) then s.intoHold else s

/-- RESET_RELEASED (R532): RESET_N has been high for tREL; SAFE_HOLD ends. -/
def execResetReleased (dt : Nat) (s : State) : Out := whenLive s fun s =>
  let s := s.advance dt
  if s.pwr.stuck && !s.pwr.rstLow && decide (s.pwr.highAt + s.tRel ≤ s.time.cyc) then
    ({ s with pwr := { s.pwr with stuck := false } }.set F.CMN_RESET.SAFE_HOLD 0).raise Ev.RESET_RELEASED [(s.time.cyc - s.pwr.holdAt) / 500000]
  else s

/-- A write of CMN_SWRST (R533, R544): the key makes a warm reset, left at once, unless the device works or RESET_N is low. -/
def State.softReset (s : State) (v : Nat) : State :=
  if v % 256 != 0xA5 || s.pwr.rstLow then s
  else
    match s.role with
    | .basin => if s.energisedRange then s.raise Ev.SWRST_REFUSED [s.station] else (s.warmEnter).warmExit 4 0
    | .spring =>
      let m := bitsMask ((List.range 6).filter (fun n => s.cmdSwitch n))
      if s.anySwitch then s.raise Ev.SWRST_REFUSED [m] else (s.warmEnter).warmExit 4 0

/-- SOFTWARE_RESET (R533). -/
def execSoftwareReset (v : Word) (s : State) : Out := whenLive s fun s => s.softReset v.toNat

/-- SRAM_UNCORR (R395): a Basin enters FAILED and stops dispatching, a Spring makes a warm reset. -/
def execSramUncorr (dt : Nat) (bank : Fin 6) (row : Nat) (s : State) : Out := whenLive s fun s =>
  let s := s.advance dt
  let s := s.raise Ev.SRAM_UNCORR [bank, row, evNum Ev.SRAM_UNCORR (if s.role == .basin then 0 else 1)]
  match s.role with
  | .basin => (s.set F.RED_CLAIM.ROLE roleFailed).set F.CTL_STATUS.TICK_RUN 0
  | .spring => (s.warmEnter).warmExit 4 0

/-- One word written to an offset of BAR0 (R9 to R11): CMN_SWRST resets the device. -/
def State.busWrite (s : State) (w : WrIn) (o v : Nat) : State := if o = F.CMN_SWRST.KEY.off then s.softReset v else s.cfgWrite false w o v

end Sys2Proof.Machine
end

