-- ==== Sys2Proof/Machine/Access.lean ====
section
/-! DEFINITION. Access.lean: the meanings of register access: REGISTER_WRITE, RD_REQ, WR_REQ, SAFETY_CFG, WITHDRAW and RETURN (R9, R10, R246, R427). -/
namespace Sys2Proof.Machine

/-! ### From the host (R9) -/

/-- Words written at ascending offsets. -/
def State.writeWords (w : WrIn) : Nat → List Word → State → State
  | _, [], s => s.sampleLate
  | o, v :: t, s => State.writeWords w (o + 4) t (s.busWrite w o v.toNat)

/-- REGISTER_WRITE (R9, R10): a request of `len` bytes at `off`; only whole words at a multiple of 4 are performed. A Spring has no host (R2, R19): its registers are
written by WR_REQ. -/
def execRegisterWrite (dt off len : Nat) (ws : List Word) (w : WrIn) (s : State) : Out := onBasin s fun s =>
  let s := s.advance dt
  if off % 4 = 0 && len % 4 = 0 && decide (4 ≤ len) && ws.length == len / 4 && decide (off + len ≤ 0x40000) then State.writeWords w off ws s else s

/-- WITHDRAW (R101, R110): a write of SLU_CELL_CMD with OP 1. -/
def execWithdraw (sp : Fin 256) (s : State) : Out := onBasin s fun s => s.cellCmd (sp.val + 256)

/-- RETURN (R108, R110): a write of SLU_CELL_CMD with OP 2. -/
def execReturn (sp : Fin 256) (s : State) : Out := onBasin s fun s => s.cellCmd (sp.val + 512)

/-! ### Reads (R9) -/

/-- Words read at ascending offsets. -/
def State.readWords : Nat → Nat → State → State × List Nat
  | 0, _, s => (s, [])
  | n + 1, o, s =>
    let (s, v) := s.busRead o
    let (s, l) := State.readWords n (o + 4) s
    (s, v :: l)

/-- A read of the host (R9): whole words in ascending order; one byte, or two at an even offset, of a word that is read in full; anything else is not performed and
returns 0 in every byte. -/
def State.hostRead (s : State) (r : HostRd) : State × List Nat :=
  if r.whole && decide (4 ≤ r.len) && r.len % 4 == 0 && r.off % 4 == 0 then
    let (s, l) := State.readWords (r.len / 4) r.off s
    (s, l.flatMap (leBytes 4))
  else if r.whole && (r.len == 1 || (r.len == 2 && r.off % 2 == 0)) then
    let (s, v) := s.busRead (r.off - r.off % 4)
    (s, ((leBytes 4 v).drop (r.off % 4)).take r.len)
  else (s, List.replicate r.len 0)

/-- The bytes of the request touch the word at an offset, and lie below 0x4_0000. -/
def rdTouches (r : HostRd) (o : Nat) : Bool := decide (r.off < o + 4) && decide (o < r.off + r.len) && decide (r.off + r.len ≤ 0x40000)

/-- The register at an offset read by the host's request, whose bytes go back to it; no request given: one word of it, as a chain read takes it. In a Spring the
PCIe interface stays in reset (R2). -/
def State.readBy (s : State) (o : Nat) (rq : Option HostRd) : State :=
  match rq with
  | none => (s.busRead o).1
  | some r =>
    if s.role == .basin && rdTouches r o then
      let (s, bs) := s.hostRead r
      s.emit (.readBytes bs)
    else s

/-- A read of a BAR2 word (R2, R322): a doorbell returns the value last written, any other offset 0. -/
def State.doorbellRead (s : State) (o : Nat) : Nat :=
  if s.role == .basin && decide (o < 0x80) then (if o % 8 = 0 then s.host.dbSq.getD (o / 8) 0 else if o % 8 = 4 then s.host.dbCq.getD (o / 8) 0 else 0) else 0

/-- TIME_STAMP_READ (R291): a read of TIME_STAMP. -/
def execTimeStampRead (dt : Nat) (rq : Option HostRd) (s : State) : Out := whenLive s fun s => (s.advance dt).readBy F.TIME_STAMP.VALUE.off rq

/-- The offset of word `i` of a window. -/
def winOff (n w i : Nat) : Nat := 0x1E000 + 0x800 * n + (if w = 3 then 0x300 else 0x100 + 0x80 * w) + 4 * i

/-- ELEMENT_LOCK (R450): a read of word 0 through window `w` (0 FIFO 0, 1 FIFO 1, 2 receive buffer, 3 TEF). -/
def execElementLock (dt : Nat) (n : Fin 4) (w : Fin 4) (rq : Option HostRd) (s : State) : Out := whenLive s fun s => (s.advance dt).readBy (winOff n w 0) rq

/-- ELEMENT_RELEASE (R450): a read of the last word through window `w`. -/
def execElementRelease (n : Fin 4) (w : Fin 4) (rq : Option HostRd) (s : State) : Out := whenLive s fun s => s.readBy (winOff n w (winSize w / 4 - 1)) rq

/-! ### Over the chain (R246, R352) -/

/-- An offset lies in a register block of the map: every offset below 0x4_0000 does (R567). -/
def inBlock (o : Nat) : Bool := o % 4 == 0 && decide (o < 0x40000)

/-- A Spring between BEGIN and COMMIT answers reads and writes with NAK 0x04 (R352, R516). -/
def State.updating (s : State) : Bool := s.role == .spring && s.flag F.TBL_STATUS.PUSHING

/-- Operations a frame may carry. -/
def opKnown (op : Nat) : Bool := (decide (1 ≤ op) && decide (op ≤ 6)) || (decide (0x10 ≤ op) && decide (op ≤ 0x14)) || (decide (0x20 ≤ op) && decide (op ≤ 0x22))

/-- RD_REQ (R246): the words asked for, or a NAK. -/
def State.rdReq (s : State) (m : Mgmt) : State :=
  let n := bytesAt m.payload 0 2
  if !opKnown m.op then s.sendNak m 1
  else if m.payload.length != 2 || n = 0 || decide (64 < n) then s.sendNak m 2
  else if !inBlock m.param then s.sendNak m 3
  else if s.updating then s.sendNak m 4
  else
    let (s, l) := State.readWords n m.param (s.ackFrame m)
    s.sendSeq m.src opRDRESP m.param (l.flatMap (leBytes 4)) .none

/-- RD_REQ, or a frame of an unknown operation, received. -/
def execRdReq (dt : Nat) (port : Fin 12) (bs : List Block) (s : State) : Out := whenLive s fun s =>
  (s.advance dt).mgmtRx port bs (fun m => m.op == opRDREQ || !opKnown m.op) fun m s =>
    let (s, fresh) := s.acceptSeq m
    if fresh then s.rdReq m else s

/-- Words of a WR_REQ in a register block. -/
def wordsIn : Nat → Nat → Nat
  | 0, _ => 0
  | n + 1, o => if inBlock o then 1 + wordsIn n (o + 4) else 0

/-- A write that resets the device, whose acknowledgement the reset cuts (R533). -/
def State.resets (s : State) (o : Nat) (ws : List Word) : Bool :=
  let k := F.CMN_SWRST.KEY.off
  o ≤ k && (match ws[(k - o) / 4]? with
    | some v => v.toNat % 256 == 0xA5 && !s.pwr.rstLow && !(if s.role == .basin then s.energisedRange else s.anySwitch)
    | none => false)

/-- WR_REQ (R246): the words are written; WR_ACK names the offset, or the words written where the range leaves every block. -/
def State.wrReq (s : State) (m : Mgmt) (w : WrIn) : State :=
  let n := m.payload.length / 4
  let ws := payloadWords m.payload
  if m.payload.length % 4 != 0 || n = 0 || decide (64 < n) then s.sendNak m 2
  else if !inBlock m.param then s.sendNak m 3
  else if s.updating then s.sendNak m 4
  else if s.resets m.param ws then State.writeWords w m.param (ws.take ((F.CMN_SWRST.KEY.off - m.param) / 4 + 1)) s
  else
    let k := wordsIn n m.param
    let s := State.writeWords w m.param (ws.take k) (s.beforeWrite.ackFrame m)
    s.sendSeq m.src opWRACK (if k = n then m.param else k * 2 ^ 16 + m.param % 2 ^ 16) [] .none

/-- WR_REQ received. -/
def execWrReq (dt : Nat) (port : Fin 12) (bs : List Block) (w : WrIn) (s : State) : Out := whenLive s fun s =>
  (s.advance dt).mgmtRx port bs (·.op == opWRREQ) fun m s =>
    let (s, fresh) := s.acceptSeq m
    if fresh then s.wrReq m w else s

/-! ### SAFETY_CFG (R427, R428) -/

/-- The password entries stored; its hash covers the serial number and eight characters (R424, R427). -/
def State.setPassword (s : State) (l : List (Nat × Nat)) : State :=
  let part := fun (o : Nat) => leBytes 4 ((lastWord l o).getD 0)
  let s := { s with nor := { s.nor with pwHash := some (sha256 (leBytes 8 Config.serialNumber ++ part pwOff0 ++ part pwOff1)) } }
  s.set F.SAFE_STAT.DEFAULT_PW 0

/-- The entries on this Basin: written in order, and restored where one is out of range or SAFE_CRC is not NEW_CRC. -/
def State.cfgHere (s : State) (x : Infl) (l : List (Nat × Nat)) : State :=
  let w : WrIn := {}
  let old := s.get F.SAFE_CRC.CRC
  let regs := l.filter (fun e => !isPwOff e.1)
  let was := regs.map (fun e => (e.1, (s.rd e.1).toNat))
  if old != cfgOldCrc x.d then s.refuse x.id stLIMIT 1
  else
    let s := regs.foldl (fun (s : State) (e : Nat × Nat) => s.cfgWrite true w e.1 e.2) s
    let bad := cfgBad l (s.get F.SAFE_CRC.CRC) (cfgNewCrc x.d)
    if bad != 0 then (was.foldl (fun (s : State) (e : Nat × Nat) => s.writeFields false e.1 e.2) s).refuse x.id stLIMIT bad
    else
      let pw := decide (regs.length < l.length)
      if pw && !s.norUsable then (was.foldl (fun (s : State) (e : Nat × Nat) => s.writeFields false e.1 e.2) s).refuse x.id stDEVICE 0x0E
      else
        let s := if pw then s.setPassword l else s
        let crc := s.get F.SAFE_CRC.CRC
        let s := if regs.isEmpty then s else s.safetyChange old crc 0 s.basinId
        let s := if pw then s.safetyChange old crc 2 s.basinId else s
        s.settle x.id stOK 0 0 0 0

/-- SAFETY_CFG (R427 to R429): `buf` is what the read of the host buffer gives; to a Spring its frames leave once its turn comes. -/
def execSafetyCfg (dt : Nat) (q : Fin 16) (buf : HostBuf) (s : State) : Out := onBasin s fun s => (s.advance dt).op q ocSAFETY fun s x =>
  let s := { s with safe := { s.safe with lastAct := s.time.cyc } }
  if !s.flag F.SAFE_STAT.UNLOCKED then s.refuse x.id stAUTH 0
  else
    match buf with
    | .failed e => s.refuse x.id stDEVICE e
    | .words ws =>
      if ws.length < x.d.length / 4 then s
      else
        let ws := ws.take (x.d.length / 4)
        let l := cfgPairs ws
        let sp := decide (x.d.target < 192)
        if !cfgTargets (if sp then .spring else .basin) l then s.refuse x.id stTARGET 0
        else if !sp then s.cfgHere x l
        else if !s.mgmtMay x then s
        else if s.unreachable x.d.target then s.abortPath x.id 1
        else (s.modInfl x.id (fun y => { y with data := ws })).cfgStage { x with data := ws } 0

end Sys2Proof.Machine
end

