-- ==== Sys2Proof/Machine/Adc.lean ====
section
/-! DEFINITION. Adc.lean: the meanings of the converter commands but for calibration (05_conversion). -/
namespace Sys2Proof.Machine

/-- ADC_TRIGGER (R168 to R171): source `src` fires at unit `n`; it starts, holds, discards or restarts a run. `vs` are the inputs of a burst that it discards. -/
def execAdcTrigger (dt : Nat) (n : Fin 4) (src : Nat) (vs : List Int) (s : State) : Out := whenLive s fun s =>
  (s.advance dt).sourceFires n src vs

/-- ADC_SWTRIG (R168): a write of 1 to ADCn_SWTRIG.GO triggers the unit whatever its source. -/
def execAdcSwtrig (n : Fin 4) (vs : List Int) (s : State) : Out := whenLive s fun s => s.softTrigger n vs

/-- ADC_DELAY_END (R169): the delay has run out and sampling of entry 0 begins. -/
def execAdcDelayEnd (dt : Nat) (n : Fin 4) (s : State) : Out := whenLive s fun s =>
  let s := s.advance dt
  match (s.unit n).run with
  | some r =>
    if !r.sampling && decide (r.lo ≤ s.now 8) then s.modUnit n (fun u => { u with run := some { r with sampling := true, at' := max r.lo (min r.hi (s.now 0)) } })
    else s
  | none => s

/-- ADC_ENTRY_DONE (R160 to R164, R172, R184): the next entry's result word is written from its conversions. -/
def execAdcEntryDone (dt : Nat) (n : Fin 4) (convs : List (Int × Int)) (s : State) : Out := whenLive s fun s =>
  (s.advance dt).entryDone n convs

/-- ADC_RUN_END (R166, R170): the run's last result is written; a pending or CHAIN trigger, or a due calibration, follows. -/
def execAdcRunEnd (dt : Nat) (n : Fin 4) (vs : List (List Int)) (s : State) : Out := whenLive s fun s => (s.advance dt).runEnd n vs

/-- WIN_RETURN (R175): comparator `j`, whose input is `v` nV, is back inside its window by its hysteresis. -/
def execWinReturn (j : Fin 32) (v : Int) (s : State) : Out := whenPowered s fun s =>
  let code := idealCode 0 v
  let h := 16 * (s.get (F.ADC_WIN.HYST j) : Int)
  if decide (code ≤ 16 * s.getI (F.ADC_WIN.HIGH j) - h) && decide (16 * s.getI (F.ADC_WIN.LOW j) + h ≤ code) then s.setBit F.ADC_WIN_STAT.OUT j false else s

end Sys2Proof.Machine
end

