-- ==== Sys2Proof/Machine/Clock.lean ====
section
/-! DEFINITION. Clock.lean: the meanings of the clock synthesis commands (10_clock_synthesis). -/
namespace Sys2Proof.Machine

/-- PLL_HOLDOVER (R297): a PLL that follows a reference enters HOLDOVER. `cause` 0 edges missing, 1 frequency. -/
def execPllHoldover (p : Pll) (cause : Nat) (s : State) : Out := whenPowered s fun s =>
  if [pllACQUIRE, pllLOCKED, pllPULL].contains (s.get (pState p)) then s.pllHold p cause else s

/-- PLL_REF_RETURN (R299, R296): the selected reference qualifies while the PLL is in HOLDOVER, and the PLL engages it by build-out or pull;
a DCO that was unlocked meanwhile relocks or searches instead (R312). `jump` is the measured phase in ps. -/
def execPllRefReturn (p : Pll) (src : Nat) (port : Nat) (jump : Int) (s : State) : Out := whenPowered s fun s =>
  if s.get (pState p) == pllHOLDOVER && s.selSrc p == (src, port) then
    let s := ((s.set (pRefOk p) 1).set (pSrc p) src).set (pPort p) port
    let waits := match p with
      | .s => s.clk.waitRefS
      | .l => s.clk.waitRefL
    if waits then
      let s := match p with
        | .s => { s with clk := { s.clk with waitRefS := false } }
        | .l => { s with clk := { s.clk with waitRefL := false } }
      match s.relockSlot p (src, port) with
      | some n => (s.set (pSlot p) n).set (pState p) pllSLOT_RELOCK
      | none => (s.set (pSlot p) 0xF).set (pState p) pllSEARCH
    else
      let pull := s.flag F.CLK_PLLS_CTRL.PHASE_MODE
      let s := s.setI F.CLK_PHASE.VALUE (satSigned 32 jump)
      let s := s.raise Ev.PLL_REF_RETURN [pllNum p, src, port, sPay jump, b2n pull]
      let s := s.set (pSlot p) ((s.slotOf p (src, port)).getD 0xF)
      if pull then (s.set F.CLK_BO.VALUE 0).set (pState p) pllPULL
      else (s.setI F.CLK_BO.VALUE (satSigned 32 (s.getI F.CLK_BO.VALUE + jump))).set (pState p) pllACQUIRE
  else s

/-- Whether the PLL is on its way to a lock: acquiring, pulling, relocking from a slot, or searching once searches may run (R304, R309). -/
def State.locking (s : State) (p : Pll) : Bool :=
  [pllACQUIRE, pllPULL, pllSLOT_RELOCK].contains (s.get (pState p)) ||
    (s.get (pState p) == pllSEARCH && s.clk.firstSearch && !s.flag F.CLK_REF.BAD)

/-- HOP_SLOT_STORE (R301): every 1 ms a LOCKED PLL stores its state and T_DIE into the slot of its source. -/
def execHopSlotStore (dt : Nat) (p : Pll) (band : Nat) (med : Nat) (integ : Int) (s : State) : Out := whenPowered s fun s =>
  let s := s.advance dt
  if s.get (pState p) == pllLOCKED && decide (s.storedAt p + 500000 ≤ s.time.cyc) then
    let s := s.setStored p
    let src := (s.get (pSrc p), s.get (pPort p))
    let n := s.takeSlot p src
    let s := (((s.set (hopValid p n) 1).set (hopSrc p n) src.1).set (hopPort p n) src.2).set (pSlot p) n
    let s := (s.set (hopBand p n) band).set (hopMed p n) med
    let s := (s.setI (hopInteg p n) (satSigned 16 integ)).setI (hopT p n) (s.getI F.THM_STATUS.T_DIE)
    s.touchSlot p n
  else s

/-- PLL_UNLOCK (R302): the PLL is off target. PLL-S moves to the safe clock with the effects of R306; a relock from a slot or a full search
follows, or waits for a reference when the PLL was in HOLDOVER (R312). `cause` 0 frequency, 1 code limit. -/
def execPllUnlock (p : Pll) (cause : Nat) (s : State) : Out := whenPowered s fun s =>
  let st := s.get (pState p)
  if [pllACQUIRE, pllLOCKED, pllHOLDOVER, pllPULL].contains st then
    let slot := s.relockSlot p (s.selSrc p)
    let s := (s.inc (pllF p F.CLK_CNT.UNLOCK_S F.CLK_CNT.UNLOCK_L)).raise Ev.PLL_UNLOCK [pllNum p, evNum Ev.PLL_UNLOCK cause, b2n slot.isSome]
    let s := if p == .s then s.enterSafeClock else s.lanesStop
    if st == pllHOLDOVER then
      match p with
      | .s => { s with clk := { s.clk with waitRefS := true } }
      | .l => { s with clk := { s.clk with waitRefL := true } }
    else match slot with
      | some n => (s.set (pSlot p) n).set (pState p) pllSLOT_RELOCK
      | none => (s.set (pSlot p) 0xF).set (pState p) pllSEARCH
  else s

/-- SAFE_CLOCK_EXIT (R305): with PLL-S LOCKED and its DCO within target for two windows, the outputs return to it; a Basin whose streams missed
ticks writes RECOVERY gaps (R372). -/
def execSafeClockExit (s : State) : Out := whenPowered s fun s =>
  if s.flag F.CLK_PLLS_STAT.ON_SAFE && s.get F.CLK_PLLS_STAT.STATE == pllLOCKED then
    (s.set F.CLK_PLLS_STAT.ON_SAFE 0).leaveSafeClock
  else s

/-- SLOT_RELOCK_TIMEOUT (R302): a slot relock not LOCKED within tSLOT falls back to a full search. -/
def execSlotRelockTimeout (p : Pll) (s : State) : Out := whenPowered s fun s =>
  if s.get (pState p) == pllSLOT_RELOCK then (s.set (pSlot p) 0xF).set (pState p) pllSEARCH else s

/-- PLL_SEARCH_FAIL (R304): a search without lock is reported and starts again; during start-up it is step 3 failing (R539). -/
def execPllSearchFail (p : Pll) (band : Nat) (s : State) : Out := whenPowered s fun s =>
  if s.get (pState p) == pllSEARCH && s.clk.firstSearch && !s.flag F.CLK_REF.BAD then
    let s := s.raise Ev.PLL_SEARCH_FAIL [pllNum p, band]
    if s.pwr.steps.contains 3 then s else s.startFail 3 0
  else s

/-- PLL_SEARCH (R304, R308): a write of SEARCH starts a full search on the safe clock, or is refused with CLK_CMD_REFUSED. -/
def execPllSearch (p : Pll) (v : Word) (s : State) : Out := whenLive s fun s => s.pllWrite p (v ||| 0x80000000#32)

/-- SLOT_CLR (R303): every slot of the PLL is invalidated. -/
def execSlotClr (p : Pll) (s : State) : Out := whenLive s fun s => s.slotClr p

/-- REF_SRC_WRITE (R300): the control register's RW fields are written; a changed source acts as a hop. -/
def execRefSrcWrite (p : Pll) (v : Word) (s : State) : Out := whenLive s fun s => s.refSrcWrite p v

/-- A measured frequency, kHz, within 5 % of one of REFCLK's two (R294). -/
def refNear (freq : Nat) : Bool := (decide (95000 ≤ freq) && decide (freq ≤ 105000)) || (decide (148438 ≤ freq) && decide (freq ≤ 164062))

/-- REFCLK_BAD (R294): REFCLK shows no edge or is off frequency. A running search stops and waits (R304). `freq` is the measured frequency, kHz. -/
def execRefclkBad (freq : Nat) (s : State) : Out := whenPowered s fun s =>
  if s.flag F.CLK_REF.BAD || refNear freq then s else (s.set F.CLK_REF.BAD 1).raise Ev.REFCLK_BAD [freq]

/-- REFCLK_OK (R294): REFCLK has been good for 1 ms; FREQ shows 0 for 100 MHz, 1 for 156.25 MHz. -/
def execRefclkOk (freq : Bool) (s : State) : Out := whenPowered s fun s =>
  if s.flag F.CLK_REF.BAD then ((s.set F.CLK_REF.BAD 0).setFlag F.CLK_REF.FREQ freq).raise Ev.REFCLK_OK [b2n freq] else s

/-- LOCK_A's window (R309). -/
def lockIn (mv : Nat) : Bool := decide (500 ≤ mv) && decide (mv ≤ 700)

/-- LOCKA_FAULT (R309): LOCK_A outside its window for 100 us. -/
def execLockaFault (mv : Nat) (s : State) : Out := whenPowered s fun s =>
  let s := s.set F.CLK_LOCKA.MV mv
  if s.flag F.CLK_LOCKA.FAULT || lockIn mv then s else (s.set F.CLK_LOCKA.FAULT 1).raise Ev.LOCKA_FAULT [mv]

/-- LOCKA_OK (R309): LOCK_A back inside for 1 ms. -/
def execLockaOk (mv : Nat) (s : State) : Out := whenPowered s fun s =>
  let s := s.set F.CLK_LOCKA.MV mv
  if s.flag F.CLK_LOCKA.FAULT && lockIn mv then (s.set F.CLK_LOCKA.FAULT 0).raise Ev.LOCKA_OK [mv] else s

/-- FIRST_FULL_SEARCH (R309): after PORST_N release the first full search starts. -/
def execFirstFullSearch (s : State) : Out := whenPowered s fun s =>
  { s with clk := { s.clk with firstSearch := true } }

/-- FPS_SAT (R310): a fine phase step has waited for 1 ms; steps are suspended while ON_SAFE is set. `net` is what the interpolator has counted since PORST_N. -/
def execFpsSat (waiting net : Int) (s : State) : Out := whenPowered s fun s =>
  let s := s.setI F.CLK_FPS.VALUE (satSigned 32 net)
  if s.flag F.CLK_PLLS_STAT.ON_SAFE then s else s.raise Ev.FPS_SAT [sPay waiting, s.get F.CLK_FPS.VALUE]

end Sys2Proof.Machine
end

