-- ==== Sys2Proof/Machine/Boot.lean ====
section
/-! DEFINITION. Boot.lean: the meanings that carry a Basin's start-up programme through step 4 (R534, R557): a PLL's lock, a sensor conversion, a supply sag and its end. -/
namespace Sys2Proof.Machine

/-- Every enabled port trains again (R249, R307). -/
def State.retrainAll (s : State) : State :=
  (List.range 12).foldl (fun s p =>
    if s.hasPort p && (s.flag (F.LNK_PCTRL.EN p) || s.portSt p != psIDLE) && s.portSt p != psPRBS then s.retrainPort p else s) s

/-- PLL_LOCKED (R301): the PLL is LOCKED on its source and takes a hop slot; a lock of PLL-L after its lanes had stopped trains every enabled port (R307); the locks of both
complete start-up step 3. `how` is 0 search, 1 slot, 2 hop. -/
def execPllLocked (p : Pll) (how : Nat) (us : Nat) (s : State) : Out := whenPowered s fun s =>
  if s.locking p then
    let stopped := p == .l && s.lanesOff
    let src := if s.get (pState p) == pllSEARCH && p == .s then (if s.flag (pRefOk p) then (s.get (pSrc p), s.get (pPort p)) else (srcREFCLK, 0)) else s.selSrc p
    let s := (((s.set (pState p) pllLOCKED).set (pRefOk p) 1).set (pSrc p) src.1).set (pPort p) src.2
    let s := s.set (pSlot p) (s.takeSlot p src)
    let s := s.raise Ev.PLL_LOCKED [pllNum p, src.1, src.2, evNum Ev.PLL_LOCKED how, us]
    let s := (if stopped then s.retrainAll else s).setStored p
    s.plls3.bootGo
  else s

/-- SENSOR_CONVERSION (R216 to R219): every 100 microseconds the five sensors convert. DESIGN CHOICE (log entry 57): the
table has no command for a tick of start-up step 4, so a step due by its own clock goes on with the next conversion. -/
def execSensorConversion (dt : Nat) (t0 t1 t2 t3 t4 : Int) (s : State) : Out := whenLive s fun s =>
  ((s.advance dt).sensors (fun n => [t0, t1, t2, t3, t4].getD n 0)).bootGo

/-- NVM_SAG (R496). -/
def execNvmSag (dt : Nat) (s : State) : Out := whenLive s fun s =>
  let s := (s.advance dt).bootGo
  if s.nor.sag then s
  else
    let s := ({ s with nor := { s.nor with sag := true, sagAt := s.time.cyc } }.set F.CMN_SUPPLY.SAG 1).inc F.CMN_SUPPLY.SAG_CNT
    s.when (s.role == .basin) (fun s => s.raise Ev.NVM_SAG [evNum Ev.NVM_SAG 0, 0])

/-- NVM_SAG_END (R496): what waited for the supply runs. -/
def execNvmSagEnd (dt : Nat) (s : State) : Out := whenLive s fun s =>
  let s := s.advance dt
  if s.nor.sag then
    let ms := (s.time.cyc - s.nor.sagAt) / 500000
    let s := { s with nor := { s.nor with sag := false } }.set F.CMN_SUPPLY.SAG 0
    s.when (s.role == .basin) fun s =>
      let s := s.raise Ev.NVM_SAG [evNum Ev.NVM_SAG 1, ms]
      let l := s.recd.retire
      let s := l.foldl (fun (s : State) (x : Nat × Nat × Nat) => s.retireBlock x.1 x.2.1 x.2.2) { s with recd := { s.recd with retire := [] } }
      let s := if s.recd.formatPending then s.formatNow else s
      (if s.recd.erasePending then s.eraseFirst else s).bootAfterSag
  else s

end Sys2Proof.Machine
end

