-- ==== Sys2Proof/Machine/SpringTick.lean ====
section
/-! DEFINITION. SpringTick.lean: a Spring's side of the control tick (02): TICK frames taken, slots applied or held, telemetry, the DAB loop, and tick loss. -/
namespace Sys2Proof.Machine

/-! ### TICK frames (R243, R283, R379, R380) -/

/-- CORE cycles of four ticks of a period in 10 ns steps (R379). -/
def fourTicks (per : Nat) : Nat := 4 * 5 * per

/-- The header's key kept among those of the last four ticks (R379). -/
def State.keepKey (s : State) (h : TickHdr) : State :=
  let per := if s.sprPeriod = 0 then h.period else s.sprPeriod
  let l := s.spr.keys.filter (fun (k : Nat × Side × Nat) => decide (s.time.cyc ≤ k.2.2 + fourTicks per) && !(k.1 == h.claim && k.2.1 == h.side))
  { s with spr := { s.spr with keys := l ++ [(h.claim, h.side, s.time.cyc)] } }

/-- No key of the last four ticks is higher than the header's (R379). -/
def State.keyHighest (s : State) (h : TickHdr) : Bool := s.spr.keys.all (fun (k : Nat × Side × Nat) => !keyHigher k.1 k.2.1 h.claim h.side)

/-- Frames come from another Basin than before: unacknowledged records return to staging for it (R373). -/
def State.newSide (s : State) (h : TickHdr) : State := match s.spr.hdr with
  | none => s
  | some o =>
    if o.side == h.side then s
    else
      let (s, l) := s.dropPeer (if o.side == .a then 0xC0 else 0xC1)
      s.ownersFail l

/-- The first frame under a new key drops a staged push (R518). -/
def State.newKey (s : State) (h : TickHdr) : State := match s.spr.hdr with
  | none => s
  | some o => if o.side == h.side && o.claim == h.claim then s else s.dropStaged

/-- TICK_LATE for the coming tick, once (R44). -/
def State.tickLate (s : State) (k : Nat) : State :=
  if s.spr.late then s
  else
    let at' := s.spr.arrived.getD (Config.freeWord s.free).toNat
    let s := if s.spr.arrived.isNone then s.drawn else s
    let s := { s with spr := { s.spr with late := true, missed := s.spr.missed + 1 } }
    (s.inc F.CTL_SPR_STATUS.TICK_LATE_CNT).raise Ev.TICK_LATE [k, at']

/-- The tick after the one in progress, as the frame taken names it, else the next number (R39). -/
def State.coming (s : State) : Nat := match s.spr.next with
  | some n => n.hdr.tick
  | none => tickSucc s.spr.tick

/-- The slot for the coming tick has been received in time and whole (R44). -/
def State.haveSlot (s : State) : Bool := match s.spr.next with
  | some n => n.slot.isSome
  | none => false

/-- The frame of an accepted header as the frame for its tick (R44, R243, R380): the first whole one in time governs among frames of equal key, one of a
higher key replaces it. -/
def State.takeFrame (s : State) (f : TickFrame) (crcOk : Bool) : State :=
  let h := f.hdr
  let pos := s.get F.LNK_SPOS.POSITION
  if pos = 0 then s
  else
    let inTime := decide (1000 ≤ stampDiff h.bound s.stamp)
    let slot := if crcOk && decide (pos ≤ h.nslot) then f.slots[pos - 1]? else none
    let higher := match s.spr.next with
      | some n => n.hdr.tick == h.tick && keyHigher h.claim h.side n.hdr.claim n.hdr.side
      | none => false
    let have' := match s.spr.next with
      | some n => n.hdr.tick == h.tick && n.slot.isSome && !higher
      | none => false
    if have' then s
    else if inTime then
      { s with spr := { s.spr with next := some ⟨h, slot⟩, arrived := if slot.isNone then some s.stamp else s.spr.arrived } }
    else
      let s := { s with spr := { s.spr with next := some ⟨h, none⟩, arrived := some s.stamp } }
      s.tickLate h.tick

/-- TICK_RX (R199, R243, R283, R379, R380, R518, R541): a Spring receives a TICK frame at a port; forwarding is FRAME_FORWARD's. The header is acted on once its
HDR_CRC matches; the slot needs the frame check. -/
def execTickRx (dt : Nat) (port : Fin 2) (bs : List Block) (s : State) : Out := onSpring s fun s =>
  let h := hear bs
  let s := (s.advance dt).hearFrame port h
  let f := tickOf h.bytes
  if ftypeOf h.bytes != ftTICK || !hdrOk h.bytes || !s.flag F.LNK_SPOS.ENROLLED || f.chain != s.get F.LNK_SPOS.INDEX / 16 then s
  else
    let s := s.keepKey f.hdr
    if !s.keyHighest f.hdr then s
    else
      let s := ((s.newKey f.hdr).newSide f.hdr).headerHolds f.hdr
      let s := { s with lnk := { s.lnk with tickPort := some port.val } }
      let s := ({ (s.headerTime f.hdr) with spr := { s.spr with hdr := some f.hdr } }).precharge
      if stampDiff f.hdr.bound s.spr.bound ≤ 0 && s.spr.tick != 0 then s else s.takeFrame f h.good

/-- SLOT_DEADLINE (R44): 1.0 us before the boundary no whole slot has come; ticks count from the first frame accepted (R536). -/
def execSlotDeadline (dt : Nat) (s : State) : Out := onSpring s fun s =>
  let s := s.advance dt
  if s.spr.hdr.isSome && s.flag F.LNK_SPOS.ENROLLED && !s.haveSlot && decide (stampDiff s.nextBound s.stamp ≤ 1000) then s.tickLate s.coming else s

/-! ### The boundary (R24, R44, R64, R67 to R73, R119, R134, R198, R199) -/

/-- CONFLICT left at a boundary; a half-bridge without one ends its run (R119). -/
def State.leaveConflict (s : State) : State :=
  (List.range 6).foldl (fun (s : State) n =>
    if s.inConflict n then s.setBit F.GATE_STATUS.CONFLICT n false else s.modHb n (fun h => { h with confRun := 0 })) s

/-- The command field of an applied slot (R72, R73, R148, R352): a busy Spring evaluates only the stopping operations; a reserved source, an operation not in
the table or a parameter with reserved bits is rejected at once; the rest waits for its own command at this boundary. -/
def State.slotCommand (s : State) (x : Slot) : State :=
  let s := { s with spr := { s.spr with cmd := none, cmdRes := 0 } }
  if x.cmdSrc == 0xFF || x.cmdOp == 0 then s
  else
    let c : DueCmd := ⟨x.cmdSrc, x.cmdOp, x.cmdParam, x.seq⟩
    if s.flag F.TBL_STATUS.PUSHING && !(c.op == 3 || c.op == 5) then s
    else if (decide (16 ≤ c.src) && c.src != 0xFE) || 5 < c.op || !paramOk c then s.cmdResult c resREJ
    else { s with spr := { s.spr with cmd := some c } }

/-- Carriers restart at the boundary with their offset (R64, R73); a period written takes effect here (R75). -/
def State.carrierRestart (s : State) (x : Slot) : State :=
  if x.restart then
    let per := s.pat F.CTL_HB_PER.PER
    { s with spr := { s.spr with carrier := true, hbPer := per, phase := if per = 0 then x.phase else x.phase % per
                                 carrierAt := (4 * ((s.time.ext : Int) - stampDiff s.stamp s.spr.bound)).toNat } }
  else s

/-- The H-bridge and DAB take the slot in force at the boundary: another mode than OFF ends a commissioning programme (R154), BYPASS releases the bypass
command, R69 clips, the interlock and the levels drive. -/
def State.slotInForce (s : State) : State :=
  let other := (s.spr.slot.map (fun (x : Slot) => decide (1 ≤ x.mode) && decide (x.mode ≤ 3))).getD false
  let s := if other then s.endTest (s.now 0) else s
  let s := if s.slotMode.1 == mBYPASS then s.bypRelease else s
  ((s.applyClip).interlock true).dabFollow

/-- A new slot applied (R72, R73, R134, R199). -/
def State.slotNew (s : State) (h : TickHdr) (x : Slot) : State :=
  let s := s.set F.CTL_SPR_TICK.TICK h.tick
  let s := s.leaveHolds h
  let s := if s.blocked then { s with spr := { s.spr with slot := some (parkedSlot x) } }
    else
      let s := ({ s with spr := { s.spr with slot := some x } }).carrierRestart x
      s.slotInForce
  s.slotCommand x

/-- A tick without a slot of its own: what was in force stays in force (R44). -/
def State.slotHeld (s : State) : State :=
  let s := { s with spr := { s.spr with clip := false, clipSrc := 0, cmd := none, cmdRes := 0 } }
  if s.blocked then s else (s.interlock true).dabFollow

/-- The boundary's bookkeeping: the tick number, its stamp, the image staged for it, and the registers that edge patterns read (R24, R516). -/
def State.boundary (s : State) : State :=
  let s := { s with spr := { s.spr with tick := s.coming, bound := s.nextBound } }
  let s := match s.tbl.commitAt with
    | some a => if tickDist a s.spr.tick < 2 ^ 31 then s.applyStaged else s
    | none => s
  let s := s.readPattern
  let off := (List.range 6).filter (fun n => !s.hbEn n)
  let s := (s.hbsLow off (s.now 0)).uncommand off
  ({ s with spr := { s.spr with perNext := s.pat F.CTL_DAB_PER.PER } }).leaveConflict.actCheck (s.now 0)

/-- SLOT_APPLY (R24): a tick boundary passes at a Spring that has accepted a TICK frame. On the safe clock it counts as a tick without a valid frame (R306). -/
def execSlotApply (dt : Nat) (s : State) : Out := onSpring s fun s =>
  let s := s.advance dt
  if s.spr.hdr.isNone || !s.flag F.LNK_SPOS.ENROLLED || decide (0 < stampDiff s.nextBound s.stamp) then s
  else
    let safe := s.flag F.CLK_PLLS_STAT.ON_SAFE
    let s := if s.haveSlot then (if safe then { s with spr := { s.spr with missed := s.spr.missed + 1 } } else { s with spr := { s.spr with missed := 0 } })
      else s.tickLate s.coming
    let next := s.spr.next
    let s := s.boundary
    let s := { s with spr := { s.spr with next := none, late := false, arrived := none, held := safe || (next.bind (·.slot)).isNone } }
    let s := match next.bind (fun n => n.slot.map (fun x => (n.hdr, x))) with
      | some (h, x) =>
        if safe then s.slotHeld
        else if !s.pwr.steps.contains 7 then s
        else if s.spr.slot.map (fun (x : Slot) => x.seq) == some x.seq then s.slotHeld
        else s.slotNew h x
      | none => s.slotHeld
    s.set F.CTL_SPR_STATUS.MODE s.modeShown

/-- TICK_LOSS (R35, R208): three ticks without a valid TICK frame. -/
def execTickLoss (dt : Nat) (s : State) : Out := onSpring s fun s =>
  let s := s.advance dt
  if 3 ≤ s.spr.missed && !s.blocked then
    (s.raise Ev.TICK_LOSS [s.get F.CTL_SPR_TICK.TICK, s.sprPeriod]).enterBlock cauTICK (s.now 0)
  else s

/-- DAB_PERIOD (R70, R71, R75): the period in progress has ended in this CORE cycle or before; the next follows it without a gap. The delay computed before takes
effect, the reference moves, and the next delay is computed. The edge generator of a safe clock places none (R306). -/
def execDabPeriod (dt : Nat) (s : State) : Out := onSpring s fun s =>
  let s := s.advance dt
  let b := s.spr.dab
  if b.on && !s.flag F.CLK_PLLS_STAT.ON_SAFE && decide (b.at' + b.per < s.now 8) then
    ({ s with spr := { s.spr with dab := { b with y := b.yNext, per := s.spr.perNext, at' := b.at' + b.per } } }).dabCompute
  else s

/-! ### Telemetry (R41, R74) -/

/-- The index applied, in Q1.15: none while nothing or a hold drives the bridge (R134, R198). -/
def State.mShown (s : State) : Int :=
  if s.modeShown == mPSC then s.spr.m else if s.modeShown == mLEVEL then s.effMode.2 * 32768 else 0

/-- DAB power and delay shown: 0 in BLOCK (R134) and while the DAB does not run. DESIGN CHOICE (log entry 43): y, held in Q8.24, is narrowed to DAB_Y's Q1.15 toward minus
infinity; R74 does not say how. -/
def State.pDabShown (s : State) : Int := if s.blocked || s.holdStops 2 then 0 else s.spr.dab.p
def State.dabYShown (s : State) : Int := if s.blocked then 0 else satSigned 16 (s.spr.dab.y.fdiv 512)

/-- The results that the telemetry reports: the mapped quantities, T_HS and SEL0 to SEL3 (R74, R185, R224). -/
def State.reported (s : State) : List Nat :=
  ((List.range 5).map (fun q => s.get (F.ADC_MAP.SRC q)) ++
    [F.THM_HS_MAP.SRC, F.CTL_TLM_SEL.SEL0, F.CTL_TLM_SEL.SEL1, F.CTL_TLM_SEL.SEL2, F.CTL_TLM_SEL.SEL3].map s.get).filter (fun r => decide (r < 64))

/-- A reported entry of a tick-synchronous sequence is not final since the last measurement instant (R41). -/
def State.seqLate (s : State) : Bool := s.reported.any (fun r =>
  let n := r / 16
  s.get (F.ADC_CTRL.TRIG_SRC n) == 1 && decide (r % 16 < s.get (F.ADC_CTRL.LEN n)) && !(s.unit n).final.testBit (r % 16))

/-- The telemetry flag UNCAL (R181). -/
def State.uncalShown (s : State) : Bool := (List.range 4).any (fun n =>
  s.get (F.ADC_CTRL.LEN n) != 0 && (!s.flag (F.ADC_STAT.CAL_OK n) || s.flag (F.ADC_STAT.CAL_BUSY n)))

/-- A result that CTL_TLM_SEL chooses (R74, R75). -/
def State.selValue (s : State) (f : Fld) : Int := if s.get f < 64 then satSigned 16 (s.resValue (s.get f)) else 0

/-- The telemetry as latched (R74). -/
def State.buildTelem (s : State) : Telem :=
  { spring := s.selfId, tick := s.spr.tick, epoch := s.aon.epoch, clip := s.spr.clip, seqLate := s.seqLate, uncal := s.uncalShown
    busy := s.flag F.TBL_STATUS.PUSHING, blocked := s.blocked, bypClosed := s.bypShowsClosed, held := s.spr.held, evtPending := s.evStaged != 0
    slotSeq := (s.spr.slot.map (fun (x : Slot) => x.seq)).getD 0, measStamp := (s.spr.bound + 2 ^ 32 - 2000) % 2 ^ 32
    vDc := s.vDc.toNat, iStr := s.iStr, vLv := s.vLv.toNat, iLv := s.iLv, iPack := s.iPack
    pHb := satSigned 16 (roundFree (s.mShown * s.vDc * s.iStr) pUnit), pDab := s.pDabShown
    mApplied := satSigned 16 s.mShown, dabY := s.dabYShown, mode := s.modeShown
    hbFault := bitsMask ((List.range 6).filter (fun n => (s.hb n).tripped)) + 64 * b2n s.gate.conflictSeen + 128 * b2n (s.get F.GATE_STATUS.LATCHED != 0)
    tHs := s.tHs, tDie := s.getI F.THM_STATUS.T_DIE, tCellMin := s.tCellMin, tCellMax := s.tCellMax
    soc := s.packLo 2, soh := s.packHi 2, iChgLim := s.packLo 3, iDisLim := s.packHi 3, vPackBms := s.vPackBms, bmsAge := s.bmsAge
    eIn := s.aon.eIn % 2 ^ 32, eOut := s.aon.eOut % 2 ^ 32, pLimChg := s.pLim false, pLimDis := s.pLim true, bmsFault := s.packLo 4
    cellStatus := s.cellStatus, clipSrc := s.spr.clipSrc, evtCount := s.evStaged, timeErr := s.getI F.TIME_ERR.VALUE
    adcFlags := ((List.range 4).map (fun n => (s.unit n).seen * 16 ^ n)).foldl (· + ·) 0
    sel := [F.CTL_TLM_SEL.SEL0, F.CTL_TLM_SEL.SEL1, F.CTL_TLM_SEL.SEL2, F.CTL_TLM_SEL.SEL3].map s.selValue }

/-- HS_WARN (R224). -/
def State.hsWarnCheck (s : State) : State :=
  let t := s.tHs
  let lim := s.getI F.THM_HS_WARN.LIM
  if s.spr.hsWarn then
    (if t ≤ lim - 10 * s.get F.THM_CTRL.HYST then { s with spr := { s.spr with hsWarn := false } } else s)
  else if lim < t then { s with spr := { s.spr with hsWarn := true } }.raise Ev.HS_WARN [sPay t, sPay lim] else s

/-- TELEM_LATCH (R41, R224, R484): at T(k) + 0.4 us, once a tick. What the telemetry shows of the tick starts afresh. -/
def execTelemLatch (dt : Nat) (s : State) : Out := onSpring s fun s =>
  let s := s.advance dt
  if s.spr.tick = 0 || s.spr.latched == s.spr.tick || decide (stampDiff s.stamp s.spr.bound < 400) then s
  else
    let s := s.hsWarnCheck
    let s := if s.packShowsClosed then s.integrate (s.vDc * s.iPack) s.sprPeriod else s
    let t := s.buildTelem
    let s := (List.range 6).foldl (fun (s : State) n => s.modHb n (fun h => { h with tripped := false })) s
    let s := (List.range 4).foldl (fun (s : State) n => s.modUnit n (fun u => { u with seen := 0 })) s
    let s := s.set F.CELL_STATUS.STATUS t.cellStatus
    { s with spr := { s.spr with latched := s.spr.tick, telem := some t }, gate := { s.gate with conflictSeen := false } }

/-- TELEM_SEND (R28, R41): at T(k) + 0.5 us the latched frame leaves both ports. -/
def execTelemSend (dt : Nat) (s : State) : Out := onSpring s fun s =>
  let s := s.advance dt
  match s.spr.telem with
  | none => s
  | some t =>
    if decide (stampDiff s.stamp s.spr.bound < 500) then s
    else
      let s := { s with spr := { s.spr with telem := none } }
      if s.flag F.LNK_SPOS.ENROLLED then s.emitFrame (([0, 1] : List Nat).filter s.portUp) (.telem t) else s

end Sys2Proof.Machine
end

