-- ==== Sys2Proof/Machine/Budget.lean ====
section
/-! DEFINITION. Budget.lean: the timing budgets a Basin computes from measured link delays: the tick budget (R45, R260), Weir path times (R210, R211)
and the takeover budget (R388). Times count ps. -/
namespace Sys2Proof.Machine

/-- tHOPF and tHOPW, tRLYF and tRLY, tRXB, tWO and a Basin's t_out, and the LANE to CORE crossing, each at its Max (R137, R209, R264, R311). -/
def psHop : Nat := 48000
def psRelay : Nat := 64000
def psRxb : Nat := 40000
def psOut : Nat := 45000
def psCross : Nat := 18800
/-- A TELEM frame on the lane (R45). -/
def psTelem : Nat := 166400
/-- A TICK frame of `n` slots on the lane: a block for its start and one for each 8 bytes. -/
def psTick (n : Nat) : Nat := (9 + 4 * n) * 12800

/-- The links of a chain, from the A end: what this Basin's own ports measure stands in its LNK_DELAYs (R254). -/
def State.chainLinks (s : State) (links : List (List Nat)) (c : Nat) : List Nat :=
  let n := s.get (F.LNK_CHAIN.NSPR c)
  let lone := s.get F.RED_CLAIM.ROLE == roleLone
  let given := links.getD c []
  (List.range (n + 1)).map (fun i =>
    if i = 0 && (lone || s.side == .a) then s.get (F.LNK_DELAY.DELAY c)
    else if i = n && lone then s.get (F.LNK_DELAY.DELAY ((c + 6) % 12))
    else if i = n && s.side == .b then s.get (F.LNK_DELAY.DELAY c)
    else given.getD i 0)

def natSum (l : List Nat) : Nat := l.foldl (· + ·) 0

/-- A chain as the budgets see it: its links and how much of it each end reaches. -/
structure Way where
  c : Nat
  n : Nat
  d : List Nat
  nearLast : Nat
  farFirst : Nat
  swapped : Bool
  deriving DecidableEq, Repr

def State.wayOf (s : State) (links : List (List Nat)) (c : Nat) : Way :=
  let n := s.get (F.LNK_CHAIN.NSPR c)
  let sw := s.flag (F.LNK_CHAIN.SWAPPED c)
  let nl := s.get (F.LNK_CHAIN.NEAR_LAST c)
  { c := c, n := n, d := s.chainLinks links c, swapped := sw, nearLast := if sw then nl else n
    farFirst := if !sw then 1 else if (s.chain c).farKnown then s.get (F.LNK_CHAIN.FAR_FIRST c) else nl + 1 }

/-- From the A end, and from the far end, to position `p`: its links and the Springs passed. -/
def Way.fromA (w : Way) (p : Nat) : Nat := natSum (w.d.take p) + (p - 1) * psHop
def Way.fromB (w : Way) (p : Nat) : Nat := natSum (w.d.drop p) + (w.n - p) * psHop
/-- The whole chain, end to end. -/
def Way.whole (w : Way) : Nat := natSum w.d + w.n * psHop

/-- Enrolled positions of a chain. -/
def State.enrolledPos (s : State) (c : Nat) : List Nat :=
  ((List.range 16).map (· + 1)).filter (fun p => (s.enrOf (16 * c + p - 1)).isSome)

def maxNat (l : List Nat) : Nat := l.foldl max 0

/-- The far route's lead: the relay chain's own frame and its whole length, or nothing at a lone Basin (R260). -/
def State.farLead (s : State) (links : List (List Nat)) : Nat × Nat :=
  if s.get F.RED_CLAIM.ROLE == roleLone || !s.flag F.LNK_RELAY.ACTIVE then (0, 0)
  else
    let w := s.wayOf links (s.get F.LNK_RELAY.CHAIN)
    (psTick w.n + w.whole + psRelay, w.n * psTelem + w.whole + psRelay)

/-- When the first blocks leave after T(k): the gather deadline and the stages' total (R42). -/
def State.dispatchPs (s : State) : Nat :=
  10000 * s.get F.CTL_GATHER_DL.DEADLINE + (if s.lnk.enrolled.length ≤ 96 then 6800000 else 10700000)

/-- The two margins of a chain by one route: its positions' worst delay and their number, the lead of the TICK frame and of the telemetry. -/
def State.margins (s : State) (w : Way) (worst count leadT leadM : Nat) : Int × Int :=
  ((10000 * s.get F.CTL_GATHER_DL.DEADLINE : Nat) - (500000 + count * psTelem + worst + psCross + leadM : Nat),
   (10000 * s.get F.CTL_TICK_PERIOD.PERIOD : Nat) - 1000000 - (s.dispatchPs + leadT + worst + psTick w.n : Nat))

/-- A chain's margins (R45, R260). -/
def State.chainMargins (s : State) (links : List (List Nat)) (c : Nat) : Int × Int :=
  let w := s.wayOf links c
  let pos := s.enrolledPos c
  let b := s.side == .b && s.get F.RED_CLAIM.ROLE != roleLone
  let near := fun p => if b then w.fromB p else w.fromA p
  let far := fun p => if b then w.fromA p else w.fromB p
  let np := pos.filter (fun p => decide (p ≤ w.nearLast))
  let m := s.margins w (maxNat (np.map near)) np.length 0 0
  if !w.swapped then m
  else
    let fp := pos.filter (fun p => decide (w.nearLast < p) && decide (w.farFirst ≤ p))
    if fp.isEmpty then m
    else
      let (lt, lm) := s.farLead links
      let f := s.margins w (maxNat (fp.map far)) fp.length lt lm
      (min m.1 f.1, min m.2 f.2)

/-- A margin in steps of 10 ns, as CTL_BUDGET holds it. -/
def marginField (m : Int) : Nat := ofSigned 16 (satSigned 16 (m.fdiv 10000))

/-- The tick budget (R45): margins to CTL_BUDGET, BUDGET_FAIL, TICK_BUDGET_FAIL for each failing chain. It answers the first of them. -/
def State.tickBudget (s : State) (links : List (List Nat)) : State × Option Nat :=
  let l := ((List.range 12).filter s.chainEnrolled).map (fun c => (c, s.chainMargins links c))
  let least := fun (f : Int × Int → Int) => (l.map (fun x => f x.2)).foldl (fun (m : Option Int) x => some (match m with
    | none => x
    | some y => min x y)) none
  let s := (s.set F.CTL_BUDGET.TLM_MARGIN (marginField ((least (·.1)).getD 0))).set F.CTL_BUDGET.CMD_MARGIN (marginField ((least (·.2)).getD 0))
  let bad := l.filter (fun x => decide (x.2.1 ≤ 0) || decide (x.2.2 ≤ 0))
  let s := s.setFlag F.CTL_STATUS.BUDGET_FAIL (!bad.isEmpty)
  (bad.foldl (fun (s : State) x => s.raise Ev.TICK_BUDGET_FAIL [x.1, marginField x.2.1, marginField x.2.2]) s, (bad.head?).map (·.1))

/-! ### Weir path times (R210, R211) -/

/-- A time longer than any path: no path. -/
def psNone : Nat := 10 ^ 12

/-- The station's paths: each chain's way, whether both ends are this Basin's, and the shortest way from one end's Basin to the other's along
the chains that the Weir is relayed to (R195). -/
structure Paths where
  ways : List Way
  lone : Bool
  across : Nat
  deriving DecidableEq, Repr

def State.paths (s : State) (links : List (List Nat)) (chains : List Nat) : Paths :=
  let ways := (List.range 12).map (s.wayOf links)
  let across := (ways.filter (fun w => chains.contains w.c && !w.swapped && s.chainEnrolled w.c && s.flag (F.LNK_CHAIN.SECOND_PATH w.c))).foldl (fun m w => min m w.whole) psNone
  ⟨ways, s.get F.RED_CLAIM.ROLE == roleLone, across⟩

def Paths.way (x : Paths) (sp : Nat) : Way := x.ways.getD (sp / 16) ⟨0, 0, [], 0, 0, false⟩

/-- To the A end and to the far end from a Spring. -/
def Paths.toA (x : Paths) (sp : Nat) : Nat := if sp % 16 + 1 ≤ (x.way sp).nearLast then (x.way sp).fromA (sp % 16 + 1) else psNone
def Paths.toB (x : Paths) (sp : Nat) : Nat := if (x.way sp).farFirst ≤ sp % 16 + 1 then (x.way sp).fromB (sp % 16 + 1) else psNone

/-- The fastest path between two Springs, the origin's output and the receiver's apart. -/
def Paths.between (x : Paths) (i j : Nat) : Nat :=
  let a := fun sp => if x.lone then min (x.toA sp) (x.toB sp) else x.toA sp
  let b := fun sp => if x.lone then psNone else x.toB sp
  let direct := if i / 16 = j / 16 then
      let p := min i j % 16 + 1
      let q := max i j % 16 + 1
      let w := x.way i
      if w.swapped && decide (p ≤ w.nearLast) && decide (w.nearLast < q) then psNone else natSum ((w.d.take q).drop p) + (q - p - 1) * psHop
    else psNone
  let viaA := a i + psRelay + a j
  let viaB := b i + psRelay + b j
  let cross := min (a i + b j) (b i + a j) + 2 * psRelay + x.across
  min (min direct viaA) (min viaB cross)

/-- From this Basin to a Spring. -/
def Paths.fromBasin (x : Paths) (own : Side) (sp : Nat) : Nat :=
  if x.lone then min (x.toA sp) (x.toB sp)
  else
    let o := if own == .a then x.toA sp else x.toB sp
    let f := if own == .a then x.toB sp else x.toA sp
    min o (f + x.across + psRelay)

/-- Times above any path are no path. -/
def reached (t : Nat) : Nat := if t < psNone then t else 0

/-- The worst arm time (R210): an arm's Weir is relayed along the chains that hold its Springs alone (R195). -/
def State.armWorst (s : State) (links : List (List Nat)) (a : Nat) : Nat :=
  let l := (s.armSprings a).filter (fun sp => (s.enrOf sp).isSome)
  let x := s.paths links ((s.armSprings a).map (· / 16))
  let pairs := l.flatMap (fun i => (l.filter (· != i)).map (fun j => reached (x.between i j)))
  let own := l.map (fun j => reached (x.fromBasin s.side j))
  if l.isEmpty then 0 else psOut + maxNat (pairs ++ own) + psRxb

/-- The worst station time (R210): from the active Basin, and from the standby too where the pair's OCP inputs act. DEDUCED (log entry 55): a Basin that is not lone and has
WEIR_OCP_CFG.EN set takes its pair's OCP inputs to be wired to both. -/
def State.stationWorst (s : State) (links : List (List Nat)) : Nat :=
  let x := s.paths links (List.range 12)
  let l := s.lnk.enrolled.map (fun (e : Enr) => e.spring)
  let own := l.map (fun j => reached (x.fromBasin s.side j))
  let peer := if s.get F.RED_CLAIM.ROLE != roleLone && s.flag F.WEIR_OCP_CFG.EN then l.map (fun j => reached (x.fromBasin (if s.side == .a then .b else .a) j)) else []
  if l.isEmpty then 0 else psOut + maxNat (own ++ peer) + psRxb

/-- A time in steps of 10 ns. -/
def pathField (t : Nat) : Nat := min 65535 (roundFree t 10000).toNat

/-- The Weir budget (R211): WEIR_PATHn and WEIR_PATH_STN, WEIR_BUDGET_FAIL for each time over the limit. `why` 0 ENERGISE, 1 path swap. It answers the first arm
that fails, 0xF for the station. -/
def State.weirBudget (s : State) (links : List (List Nat)) (why : Nat) : State × Option Nat :=
  let times := (List.range 12).map (fun a => (a, s.armWorst links a)) ++ [(0xF, s.stationWorst links)]
  let lim := s.cg F.WEIR_ARM_MAX.MAX
  times.foldl (fun (acc : State × Option Nat) t =>
    let s := if t.1 = 0xF then acc.1.set F.WEIR_PATH_STN.WORST (pathField t.2) else acc.1.set (F.WEIR_PATH.WORST t.1) (pathField t.2)
    if 10000 * lim < t.2 then (s.raise Ev.WEIR_BUDGET_FAIL [t.1, pathField t.2, lim, evNum Ev.WEIR_BUDGET_FAIL why], some (acc.2.getD t.1)) else (s, acc.2)) (s, none)

/-! ### The takeover budget (R388) -/

/-- The standby's takeover budget: FIT's bit, TAKEOVER_BUDGET_FAIL for the first failing chain. -/
def State.takeoverBudget (s : State) (links : List (List Nat)) : State :=
  let wait := 10000 * s.get F.RED_HB_CFG.WAIT
  let per := 10000 * s.ctl.per
  let l := ((List.range 12).filter s.chainEnrolled).map (fun c =>
    let w := s.wayOf links c
    let own := maxNat ((s.enrolledPos c).map (fun p => if s.side == .b then w.fromB p else w.fromA p))
    (c, (wait : Int) - (s.dispatchPs + w.whole + psTick w.n + 1000000 : Nat), (per : Int) - 1000000 - (wait + own + psTick w.n : Nat)))
  match l.find? (fun x => decide (x.2.1 < 0) || decide (x.2.2 ≤ 0)) with
  | none => { s with red := { s.red with fit := 1 } }
  | some x => { s with red := { s.red with fit := 0 } }.raise Ev.TAKEOVER_BUDGET_FAIL [x.1, marginField x.2.1, marginField x.2.2]

end Sys2Proof.Machine
end

