-- ==== Sys2Proof/Machine/TelemRx.lean ====
section
/-! DEFINITION. TelemRx.lean: telemetry at a Basin (R28, R43, R47 to R49, R260): the frames of a tick, STALE and LOST Springs. -/
namespace Sys2Proof.Machine

/-- A Spring's count in a list of counts, 0 where none stands. -/
def countOf (l : List (Nat × Nat)) (sp : Nat) : Nat := ((l.find? (fun x => x.1 == sp)).map (·.2)).getD 0
def putCount (l : List (Nat × Nat)) (sp n : Nat) : List (Nat × Nat) := l.filter (fun x => x.1 != sp) ++ (if n = 0 then [] else [(sp, n)])

/-- TIME_EXT of the gather deadline of the tick in progress (R43). -/
def State.deadline (s : State) : Nat := s.ctl.bound + 10 * s.cg F.CTL_GATHER_DL.DEADLINE

/-- Telemetry of a Spring has been taken for the tick in progress. -/
def State.heard (s : State) (sp : Nat) : Bool := s.ctl.got.any (fun t => t.spring == sp)

/-- Chains this Basin has relayed a TICK frame for in the tick in progress or the one before (R260). -/
def State.relaying (s : State) (c : Nat) : Bool := s.lnk.relayed.any (fun x => x.1 == c && decide (tickDist x.2 s.tickNow ≤ 1))

/-- The whole chains that carry relayed telemetry, the relay chain first. -/
def State.wholeChains (s : State) : List Nat := (List.range 12).filter (fun c => s.chainEnrolled c && s.portUp c && !s.relaying c)

/-- A far Basin relays the telemetry of a chain it relays (R260): its frames in turn out of the whole chains. -/
def State.relayTelem (s : State) (port : Nat) (t : Telem) : State :=
  let c := t.spring / 16
  if t.relayed || port != c || !s.relaying c then s
  else
    let n := countOf s.ctl.seen c
    let w := s.wholeChains
    let s := { s with ctl := { s.ctl with seen := putCount s.ctl.seen c (n + 1) } }
    if w.isEmpty then s else s.sendFrame (w.getD (n % w.length) 0) (.telem { t with relayed := true })

/-- A frame discarded under R49; the second copy of one is dropped without a count (R28). -/
def State.discTelem (s : State) (t : Telem) : State :=
  let k := (t.spring, t.tick, t.epoch)
  if s.ctl.disc.contains k then s
  else { s with ctl := { s.ctl with disc := s.ctl.disc ++ [k] } }.inc F.CTL_LATE_CNT.COUNT

/-- A frame of the tick in progress with the enrolled epoch: the first copy is used by the deadline, or streamed as late after it (R28, R43, R49). -/
def State.takeTelem (s : State) (near : Bool) (t : Telem) : State :=
  let s := { s with ctl := { s.ctl with sides := if s.ctl.sides.contains (t.spring, near) then s.ctl.sides else s.ctl.sides ++ [(t.spring, near)] } }
  if s.heard t.spring || s.ctl.late.contains t.spring then s
  else if s.ctl.gathering && decide (s.time.ext ≤ s.deadline) then { s with ctl := { s.ctl with got := s.ctl.got ++ [t] } }
  else ({ s with ctl := { s.ctl with late := s.ctl.late ++ [t.spring] } }.inc F.CTL_LATE_CNT.COUNT).streamTelem t true

/-- A frame with another epoch than the enrolled one (R38, R49, R365): a Basin that dispatches sees a restart and waits for enrolment; a standby follows the new epoch. -/
def State.otherEpoch (s : State) (t : Telem) (e : Enr) : State :=
  let s := s.discTelem t
  match e.epoch with
  | none => if s.dispatches then s else s.setEnr { e with epoch := some t.epoch }
  | some old =>
    let s := s.restartSeen t.spring old t.epoch
    s.setEnr { e with epoch := if s.dispatches then none else some t.epoch }

/-- A valid telemetry frame at a Basin. -/
def State.telemRx (s : State) (port : Nat) (t : Telem) : State :=
  if s.tickNow = 0 then s
  else
    let s := s.relayTelem port t
    match s.enrOf t.spring with
    | none =>
      if s.dispatches || !decide (t.spring < 192) then s
      else
        let s := s.setEnr ⟨t.spring, some t.epoch, 0, 0⟩
        if t.tick == s.tickNow then s.takeTelem (port == t.spring / 16) t else s.discTelem t
    | some e =>
      if e.epoch != some t.epoch then s.otherEpoch t e
      else if t.tick != s.tickNow then s.discTelem t
      else s.takeTelem (port == t.spring / 16) t

/-- TELEM_RX (R28, R38, R43, R49, R240, R260, R365). -/
def execTelemRx (dt : Nat) (port : Fin 12) (bs : List Block) (s : State) : Out := onBasin s fun s =>
  (s.advance dt).onFrame port bs ftTELEM fun b s => if b.length = 102 then s.telemRx port (telemOf b) else s

/-! ### STALE and LOST (R47, R48) -/

/-- A Spring is LOST. -/
def State.markLost (s : State) (sp : Nat) : State :=
  if s.ctl.lost.contains sp then s
  else
    let s := { s with ctl := { s.ctl with lost := s.ctl.lost ++ [sp] } }.inc F.CTL_LOST_CNT.COUNT
    s.raise Ev.CELL_LOST [sp, s.tickNow, countOf s.ctl.runs sp]

/-- A LOST Spring is back: it is pushed to where a swap passed it by (R513). -/
def State.markBack (s : State) (sp : Nat) : State :=
  let s := { s with ctl := { s.ctl with lost := s.ctl.lost.filter (· != sp), back := putCount s.ctl.back sp 0 } }.raise Ev.CELL_RETURNED [sp, s.tickNow]
  if s.tbl.lostPush.contains sp && s.dispatches && !s.tbl.img.isEmpty then
    { s with tbl := { s.tbl with lostPush := s.tbl.lostPush.filter (· != sp) } }.startPush s.tbl.img sp 0
  else s

/-- The deadline has come and the measure stage has not counted the tick yet. -/
def State.atDeadline (s : State) : Bool := s.ctl.gathering && decide (s.deadline ≤ s.time.ext)

/-- CELL_LOST (R47): STALE for more ticks in a row than STALE_MAX. The measure stage of GATHER_DEADLINE does the same for every Spring. -/
def execCellLost (dt : Nat) (sp : Fin 192) (s : State) : Out := onBasin s fun s =>
  let s := s.advance dt
  if s.atDeadline && (s.enrOf sp).isSome && !s.heard sp && decide (s.cg F.CTL_CTRL.STALE_MAX < countOf s.ctl.runs sp + 1) && !s.ctl.lost.contains sp then
    let r := s.ctl.runs
    let s := { s with ctl := { s.ctl with runs := putCount r sp (countOf r sp + 1) } }.markLost sp
    { s with ctl := { s.ctl with runs := r } }
  else s

/-- CELL_RETURNED (R48): 16 ticks in a row of telemetry by the deadline. The measure stage of GATHER_DEADLINE does the same for every Spring. -/
def execCellReturned (dt : Nat) (sp : Fin 192) (s : State) : Out := onBasin s fun s =>
  let s := s.advance dt
  if s.atDeadline && s.ctl.lost.contains sp.val && s.heard sp && decide (16 ≤ countOf s.ctl.back sp + 1) then s.markBack sp else s

end Sys2Proof.Machine
end

