-- ==== Sys2Proof/Machine/Demand.lean ====
section
/-! DEFINITION. Demand.lean: SET_DEMAND and its entries (R92 to R95), and the time-out of an insertion (R106). -/
namespace Sys2Proof.Machine

/-- Checks 3 and 4 of R93: the status of the first that fails. DESIGN CHOICE (log entry 52): an arm whose REBALANCE_EN is clear (R79) is no target of REBALANCE. -/
def State.demandBad (s : State) (d : Desc) : Option Nat :=
  let cls := bytesAt d.param 0 1
  let kind := bytesAt d.param 1 1
  let kindOk := if cls = 2 then kind == 0 || kind == 2 else decide (kind ≤ 2)
  let tgtOk := if cls = 2 then decide (d.target < 4) else if kind = 1 then decide (d.target < 12) && apRebal (s.tbl8 secARMPAR) d.target
    else decide (d.target < 12) || d.target == 0xFFFFFFFF
  let dur := bytesAt d.param 12 4
  if !(cls == 2 || cls == 3) || !kindOk || decide (63 < bytesAt d.param 2 2) || !tgtOk then some stTARGET
  else if decide (2 ^ 24 < bytesAt d.param 8 4) || dur == 0 || decide (2 ^ 24 < dur) then some stLENGTH
  else none

/-- The descriptor asks for RELEASE. -/
def isRelease (d : Desc) : Bool := bytesAt d.param 1 1 == 2

/-- A SET_DEMAND or RELEASE descriptor, the oldest of its SQ, goes to the apply queue (R50, R93). -/
def State.demandOp (s : State) (q : Nat) (release : Bool) : State :=
  s.op q ocDEMAND fun s x =>
    if isRelease x.d != release then s
    else
      match s.demandBad x.d with
      | some st => s.refuse x.id st 0
      | none => s.queueOp x

/-- SET_DEMAND (R92, R93): the entry waits for the tick before its apply tick. -/
def execSetDemand (dt : Nat) (q : Fin 16) (s : State) : Out := onBasin s fun s => (s.advance dt).demandOp q false

/-- DEMAND_RELEASE (R93): the slot is freed at the apply tick. -/
def execDemandRelease (dt : Nat) (q : Fin 16) (s : State) : Out := onBasin s fun s => (s.advance dt).demandOp q true

/-- The entry a slot holds. -/
def State.entryAt (s : State) (slot : Nat) : Option Entry := s.slu.entries.find? (fun e => e.slot == slot)

/-- A slot freed without a word (R95). -/
def State.dropEntry (s : State) (slot : Nat) : State := { s with slu := { s.slu with entries := s.slu.entries.filter (fun e => e.slot != slot) } }

/-- A waiting entry that is replaced completes REFUSED_LIMIT with REPLACED; a standing one just ends (R95). DESIGN CHOICE (log entry 47): a waiting entry that a RELEASE
frees completes in the same way; the manual names only replacement. -/
def State.endEntry (s : State) (slot : Nat) : State :=
  match s.entryAt slot with
  | none => s
  | some e => if e.left.isNone then s.refuseEntry { e with lastR := rzREPLACED * 2 ^ 24 + 0xFFFF00 } else s.dropEntry slot

/-- DEMAND_HOLD_EXPIRY (R94): an entry has waited its HOLD ticks. -/
def execDemandHoldExpiry (dt : Nat) (slot : Fin 64) (s : State) : Out := onBasin s fun s =>
  let s := s.advance dt
  match s.entryAt slot with
  | some e => if e.expired then s.refuseEntry e else s
  | none => s

/-- DEMAND_DURATION_END (R95): an entry has stood its DURATION ticks. -/
def execDemandDurationEnd (dt : Nat) (slot : Fin 64) (s : State) : Out := onBasin s fun s =>
  let s := s.advance dt
  match s.entryAt slot with
  | some e => if e.left == some 0 then s.dropEntry slot else s
  | none => s

/-- SPARE_INSERT_FAIL (R106): a spare's bypass has not opened within SLU_INS_CFG.TMO. -/
def execSpareInsertFail (dt : Nat) (arm : Fin 12) (spare : Fin 192) (s : State) : Out := onBasin s fun s =>
  let s := s.advance dt
  match (s.slArm arm).items.find? (fun i => i.spare == some spare.val) with
  | some i =>
    (match i.placed with
     | some t => if !i.opened && decide (t + 10000 * s.cg F.SLU_INS_CFG.TMO ≤ s.time.ext) then s.insertFail arm i 0 else s
     | none => s)
  | none => s

end Sys2Proof.Machine
end

