-- ==== Sys2Proof/Machine/Chains.lean ====
section
/-! DEFINITION. Chains.lean: the chain-loss vote and path swaps at the active Basin (R257, R259 to R263, R363), as the measure stage evaluates them. -/
namespace Sys2Proof.Machine

/-! ### The vote (R257, R398) -/

/-- LINK votes loss. -/
def State.linkVote (s : State) (c : Nat) : Bool := s.portSt c == psDOWN || s.portSt c == psIDLE || !(s.chain c).downLinks.isEmpty

/-- Enrolled Springs of a chain, by position. -/
def State.chainSprings (s : State) (c : Nat) : List Nat := (s.enrolledPos c).map (fun p => 16 * c + p - 1)

/-- Springs whose silence makes TELEM vote loss. -/
def State.telemMissing (s : State) (c : Nat) : List Nat := (s.chainSprings c).filter (fun sp => s.roleOf sp != roWITHDRAWN && !s.heard sp)

/-- The chain has a far end. -/
def State.hasFar (s : State) (c : Nat) : Bool :=
  if s.get F.RED_CLAIM.ROLE == roleLone then decide (c < 6) && s.portUp (c + 6) else s.flag (F.LNK_CHAIN.SECOND_PATH c)

/-- ECHO votes loss: the last FAR_REPORT says so, or a lone Basin's own frame did not come back. -/
def State.echoVote (s : State) (c : Nat) : Bool :=
  s.hasFar c && (if s.get F.RED_CLAIM.ROLE == roleLone then s.ctl.sent == s.tickNow && (s.chain c).frameAt != some s.tickNow else !(s.chain c).farArrived)

def State.chainVotes (s : State) (c : Nat) : List Bool := [s.linkVote c, !(s.telemMissing c).isEmpty, s.echoVote c]

/-- The chain is broken by its vote. -/
def State.chainBroken (s : State) (c : Nat) : Bool :=
  let v := s.chainVotes c
  let e := s.exclOf (2 + c)
  let noFar := !s.hasFar c
  let out := fun i => e.testBit i || (i == 2 && noFar)
  let n := ((List.range 3).filter (fun i => !out i && v.getD i false)).length
  decide ((if e = 0 && !noFar then 2 else 1) ≤ n)

/-- One sample of the vote: LNK_CHAINn.VOTE and the dissent it counts (R398). -/
def State.chainSample (s : State) (c : Nat) : State :=
  let v := s.chainVotes c
  let s := s.set (F.LNK_CHAIN.VOTE c) (bitsMask ((List.range 3).filter (fun i => v.getD i false)))
  let onlyLost := (s.telemMissing c).all (fun sp => s.ctl.lost.contains sp)
  s.voteSample (2 + c) v (s.hasFar c && !(dissenter (s.exclOf (2 + c)) v == some 1 && v.getD 1 false && onlyLost))

/-! ### Routes (R259, R260) -/

/-- The highest position heard through the near port in this tick, 0 for none. -/
def State.nearHeard (s : State) (c : Nat) : Nat :=
  maxNat ((s.ctl.sides.filter (fun x => x.2 && x.1 / 16 == c)).map (fun x => x.1 % 16 + 1))

/-- The lowest position a lone Basin hears through its far port, 17 for none. -/
def State.farHeard (s : State) (c : Nat) : Nat :=
  ((s.ctl.sides.filter (fun x => !x.2 && x.1 / 16 == c)).map (fun x => x.1 % 16 + 1)).foldl min 17

/-- The relay chain of a Basin pair. -/
def State.relayChain (s : State) : Option Nat :=
  (List.range 12).find? (fun c => s.chainEnrolled c && !s.chainBroken c && !s.flag (F.LNK_CHAIN.SWAPPED c) && s.flag (F.LNK_CHAIN.SECOND_PATH c))

/-- LNK_RELAY follows; chains swapped already hear of a relay that has gone. -/
def State.setRelay (s : State) (use : Bool) : State :=
  if s.get F.RED_CLAIM.ROLE == roleLone then s
  else
    let was := s.flag F.LNK_RELAY.ACTIVE
    match (if use then s.relayChain else none) with
    | some c => (s.set F.LNK_RELAY.ACTIVE 1).set F.LNK_RELAY.CHAIN c
    | none =>
      let s := (s.set F.LNK_RELAY.ACTIVE 0).set F.LNK_RELAY.CHAIN 0xF
      if use && was then ((List.range 12).filter (fun c => s.flag (F.LNK_CHAIN.SWAPPED c))).foldl (fun s c => s.raise Ev.RELAY_NONE [c]) s else s

/-- FAR_FIRST follows each FAR_REPORT that covers the tick the chain was found broken in, or a later one; a lone Basin hears its far port itself. -/
def State.farFollow (s : State) (c : Nat) : State :=
  let x := s.chain c
  let set := fun (f : Nat) => (s.set (F.LNK_CHAIN.FAR_FIRST c) f).modChain c (fun x => { x with farKnown := true })
  if s.get F.RED_CLAIM.ROLE == roleLone then set (s.farHeard c)
  else
    match x.farTick, x.brokenAt with
    | some t, some b => if t == s.tickNow && t != b then set x.farFirst else s
    | _, _ => s

/-- A chain first found broken (R259, R261, R363). -/
def State.chainBreaks (s : State) (c : Nat) : State :=
  let near := s.nearHeard c
  let s := s.modChain c (fun x => { x with brokenAt := some s.tickNow, farKnown := false, wholeTicks := 0, swapTicks := 0, lossSent := [] })
  if !s.cg F.LNK_SWAP_CFG.AUTO_SWAP == 1 then s.raise Ev.PATH_SWAP [c, near, 17, 0xF, s.tickNow]
  else
    let s := (((s.set (F.LNK_CHAIN.NEAR_LAST c) near).set (F.LNK_CHAIN.FAR_FIRST c) 17).set (F.LNK_CHAIN.SWAPPED c) 1).inc F.LNK_SWAP_CNT.COUNT
    let s := if s.get F.RED_CLAIM.ROLE == roleLone then s.farFollow c else s
    let s := s.raise Ev.PATH_SWAP [c, near, s.get (F.LNK_CHAIN.FAR_FIRST c), s.get F.LNK_RELAY.CHAIN, s.tickNow]
    let s := if s.get F.RED_CLAIM.ROLE != roleLone && !s.flag F.LNK_RELAY.ACTIVE then s.raise Ev.RELAY_NONE [c] else s
    ((s.chainSprings c).filter s.onFarRoute).foldl State.resendAll s

/-- A chain that has been whole for RESTORE_DLY ticks returns to its near route (R261). -/
def State.chainRestore (s : State) (c : Nat) : State :=
  let x := s.chain c
  let s := (((s.set (F.LNK_CHAIN.SWAPPED c) 0).set (F.LNK_CHAIN.NEAR_LAST c) 0).set (F.LNK_CHAIN.FAR_FIRST c) 17).modChain c
    (fun x => { x with brokenAt := none, farKnown := false, wholeTicks := 0, swapTicks := 0, lossSent := [] })
  s.raise Ev.PATH_RESTORE [c, x.swapTicks]

/-- A swapped chain in a later tick: its ends follow, and ticks whole are counted. -/
def State.chainSwapped (s : State) (c : Nat) : State :=
  let s := (s.set (F.LNK_CHAIN.NEAR_LAST c) (s.nearHeard c)).farFollow c
  let whole := !s.chainBroken c && ((s.chainSprings c).filter (fun sp => s.roleOf sp != roWITHDRAWN)).all (fun sp => s.ctl.sides.contains (sp, true))
  let s := s.modChain c (fun x => { x with swapTicks := x.swapTicks + 1, wholeTicks := if whole then x.wholeTicks + 1 else 0 })
  if whole && s.cg F.LNK_SWAP_CFG.AUTO_RESTORE == 1 && decide (s.cg F.LNK_SWAP_CFG.RESTORE_DLY ≤ (s.chain c).wholeTicks) then s.chainRestore c else s

/-- One chain at the measure stage. -/
def State.chainStep (s : State) (c : Nat) : State :=
  if s.flag (F.LNK_CHAIN.SWAPPED c) then s.chainSwapped c
  else
    let b := s.chainBroken c
    match (s.chain c).brokenAt with
    | none => if b && s.hasFar c then s.chainBreaks c else s
    | some _ => if b then s else s.modChain c (fun x => { x with brokenAt := none })

/-- Springs found reachable by neither route: their descriptors end (R363) and each arm affected is held by a CHAIN_LOSS Weir (R189). -/
def State.chainLosses (s : State) (c : Nat) : State :=
  let cut := (s.chainSprings c).filter s.unreachable
  let new := cut.filter (fun sp => !(s.chain c).lossSent.contains sp)
  let s := s.modChain c (fun x => { x with lossSent := cut })
  let s := cut.foldl State.unreachableNow s
  let arms := (new.filterMap (armOf (s.tbl8 secARM))).eraseDups
  arms.foldl (fun s a =>
    let mine := new.filter (fun sp => armOf (s.tbl8 secARM) sp == some a)
    let s := s.armWeir a cauLOSS
    let h := s.armHold a
    s.setArmHold a { h with lost := h.lost ++ mine }) s

/-- The chain-loss vote and path swaps of a tick. -/
def State.chainStage (s : State) (links : List (List Nat)) : State :=
  let cs := (List.range 12).filter s.chainEnrolled
  let s := cs.foldl State.chainSample s
  let was := cs.filter (fun c => s.flag (F.LNK_CHAIN.SWAPPED c))
  let fresh := cs.filter (fun c => !was.contains c && (s.chain c).brokenAt.isNone && s.chainBroken c && s.hasFar c && s.cg F.LNK_SWAP_CFG.AUTO_SWAP == 1)
  let s := s.setRelay (!was.isEmpty || !fresh.isEmpty)
  let s := cs.foldl State.chainStep s
  let s := if cs.any (fun c => s.flag (F.LNK_CHAIN.SWAPPED c)) then s else s.setRelay false
  let s := cs.foldl State.chainLosses s
  if fresh.isEmpty then s else (((s.tickBudget links).1).weirBudget links 1).1

/-- The swap state of a Basin that no longer dispatches (R263). -/
def State.swapsEnd (s : State) : State :=
  let s := (List.range 12).foldl (fun s c =>
    (((s.set (F.LNK_CHAIN.SWAPPED c) 0).set (F.LNK_CHAIN.NEAR_LAST c) 0).set (F.LNK_CHAIN.FAR_FIRST c) 17).modChain c
      (fun x => { x with brokenAt := none, farKnown := false, wholeTicks := 0, swapTicks := 0, lossSent := [] })) s
  (s.set F.LNK_RELAY.ACTIVE 0).set F.LNK_RELAY.CHAIN 0xF

end Sys2Proof.Machine
end

