-- ==== Sys2Proof/Machine/Energise.lean ====
section
/-! DEFINITION. Energise.lean: ENERGISE with its checks (R542), DEENERGISE and RESUME on their way to the measure stage (R50, R413, R543), and what RESUME does there
(R205, R230, R413). -/
namespace Sys2Proof.Machine

/-! ### ENERGISE (R542) -/

/-- T_DIE of a source against R220: 1 cold, 2 hot, 0 neither. -/
def dieCond (t : Int) : Nat := if t < -400 then 1 else if 1300 ≤ t then 2 else 0

/-- T_DIE of an enrolled Spring as R220 takes it: one not received, or invalid, is at HOT_SHUT (R217). -/
def State.sprTDie (s : State) (sp : Nat) : Int := match s.telOf sp with
  | some t => if t.tDie = -32768 then 1300 else t.tDie
  | none => 1300

/-- Enrolled Springs of a working role. -/
def State.enrolledIn (s : State) (roles : List Nat) : List Nat := (s.lnk.enrolled.map (fun (e : Enr) => e.spring)).filter (fun sp => roles.contains (s.roleOf sp))

/-- The REASON of R220, where it holds. -/
def State.coldHot (s : State) : Option Nat :=
  let l := (0xC0, s.tDie) :: (s.enrolledIn [roACTIVE]).map (fun sp => (sp, s.sprTDie sp))
  (l.find? (fun x => dieCond x.2 != 0)).map (fun x => x.1 * 256 + dieCond x.2)

/-- A Spring's TIME_OK as its telemetry shows it: an alignment error within TIME_ALIGN.LIM (R280, R284). -/
def State.sprTimeOk (s : State) (sp : Nat) : Bool := match s.telOf sp with
  | some t => decide (t.timeErr.natAbs ≤ s.get F.TIME_ALIGN.LIM)
  | none => false

/-- Checks 2 to 8 of R542: status and REASON of the first that fails. -/
def State.energiseBad (s : State) : Option (Nat × Nat) :=
  if s.tbl.img.isEmpty then some (stLIMIT, rsNOTVALID)
  else if s.station == ssOFF then some (stLIMIT, s.get F.CMN_PROG.STEP * 256 + 0x30)
  else if ssTHERMAL ≤ s.station then some (stLIMIT, s.station * 256 + 0x33)
  else if s.flag F.SAFE_STAT.UNLOCKED then some (stLIMIT, 0x23)
  else if s.safe.degExpired || (List.range 14).any (fun g => s.flag (F.RED_VOTE.EXPIRED g)) then some (stLIMIT, 0xB1)
  else match s.coldHot with
    | some r => some (stTHERMAL, r)
    | none => ((s.enrolledIn [roACTIVE, roSPARE]).find? (fun sp => !s.sprTimeOk sp)).map (fun sp => (stLIMIT, sp * 256 + 0x10))

/-- ENERGISE refused. -/
def State.energiseRefuse (s : State) (x : Infl) (status reason : Nat) : State :=
  (s.raise Ev.ENERGISE_REFUSED [status, reason]).refuse x.id status reason

/-- The checks of R542 in order; one that passes waits for its tick. -/
def State.energise (s : State) (x : Infl) (links : List (List Nat)) : State :=
  match s.energiseBad with
  | some (st, r) => s.energiseRefuse x st r
  | none =>
    let (s, c) := s.tickBudget links
    let (s, a) := s.weirBudget links 0
    match c, a with
    | some c, _ => s.energiseRefuse x stLIMIT (c * 256 + 0x41)
    | none, some a => s.energiseRefuse x stLIMIT (a * 256 + 0x42)
    | none, none => s.queueOp x

/-- ENERGISE (R45, R211, R220, R285, R542): `links` are the link delays SYNC has measured beyond this Basin's own ports, as in GridIn. -/
def execEnergise (dt : Nat) (q : Fin 16) (links : List (List Nat)) (s : State) : Out := onBasin s fun s =>
  (s.advance dt).op q ocENERGISE fun s x => s.energise x links

/-- DEENERGISE (R50, R543): sampled by the tick before its apply tick. -/
def execDeenergise (dt : Nat) (q : Fin 16) (s : State) : Out := onBasin s fun s => (s.advance dt).op q ocDEENERGISE fun s x => s.queueOp x

/-- RESUME (R50, R413): the measure stage of the tick before its apply tick carries it out. -/
def execResume (dt : Nat) (q : Fin 16) (s : State) : Out := onBasin s fun s => (s.advance dt).op q ocRESUME fun s x => s.queueOp x

/-! ### RESUME at the measure stage (R205, R230, R413) -/

/-- The station came to its state through a thermal shutdown that has not been resumed from. -/
def State.thermalStop (s : State) : Bool := s.station == ssTHERMAL || s.thm.needResume || (s.get F.SAFE_STAT.CAUSE).testBit dmTHERMAL

/-- The latched causes clear and the station is READY: every hold ends with the frames of this tick (R205, R413). -/
def State.resumeOk (s : State) : State :=
  let s := ((s.set F.SAFE_STAT.CAUSE 0).set F.SAFE_STAT.DEMAND 0).set F.THM_STATUS.SHUT 0
  let s := { s with thm := { s.thm with needResume := false }, safe := { s.safe with pduQuiet := false } }
  let s := s.set F.WEIR_ARM_STAT.STN_HOLD 0
  let s := ((List.range 12).filter s.armIsHeld).foldl (fun s a => s.releaseArm a true) s
  let s := s.toState ssREADY scNONE
  { s with ctl := { s.ctl with moved := true } }

/-- RESUME refused for a thermal shutdown that stands, or that comes in the same tick (R230, R232). -/
def State.resumeTooHot (s : State) (x : Infl) : State := (s.raise Ev.THERMAL_RESUME_REFUSED [s.get F.THM_STATUS.T_DIE]).refuse x.id stTHERMAL 0

/-- RESUME taken at the measure stage of tick A - 1. -/
def State.resume (s : State) (x : Infl) : State :=
  if s.station < ssTHERMAL then s.settle x.id stOK 0 0 0 x.due
  else if s.pwr.stuck then s.refuse x.id stLIMIT 0x31
  else if s.thermalStop && !s.coolEnough then s.resumeTooHot x
  else if s.failing != 0 then s.refuse x.id stLIMIT (s.failing * 256 + 0x22)
  else s.resumeOk.settle x.id stOK 0 0 0 x.due

end Sys2Proof.Machine
end

