-- ==== Sys2Proof/Machine/TickOut.lean ====
section
/-! DEFINITION. TickOut.lean: the slots and TICK frames of a tick (R50, R54, R60, R63, R64, R72, R148, R149, R242, R260, R348, R354, R357), and releases of arm
holds (R203). -/
namespace Sys2Proof.Machine

/-! ### Slots without their commands -/

/-- States in which every slot is OFF with DAB_EN clear, whatever the state record says (R228, R414, R531). -/
def State.allOff (s : State) : Bool := s.station == ssTHERMAL || s.station == ssHOLD || s.station == ssSAFEOFF || s.pwr.stuck

/-- STAGE_EN of the station state in force (R59). -/
def State.stageEn (s : State) (i : Nat) : Bool := (stStageEn (s.tbl8 secSTATE) s.station).testBit i

def emptySlot : Slot := { mode := mOFF, level := 0, seq := 0, m := 0, phase := 0, restart := false, dabEn := false, pDab := 0, cmdSrc := 0xFF, cmdOp := 0, cmdParam := List.replicate 14 0 }

/-- The arm a Spring's slot restarts with. -/
def State.restarting (s : State) (sp : Nat) : Bool := match armOf (s.tbl8 secARM) sp with
  | some a => s.ctl.restart || (s.slArm a).due
  | none => false

/-- A Spring's slot from the commands of allocation and modulation (R47, R60, R101, R228, R531): with STAGE_EN bit 3 clear every slot carries OFF. -/
def State.cellSlot (s : State) (cmds : List CellCmd) (sp : Nat) : Slot :=
  let rst := s.restarting sp
  let mod := s.stageEn 3 && s.station != ssOFF
  let dab := s.stageEn 4 && s.station != ssOFF
  if s.allOff then { emptySlot with restart := rst }
  else if s.ctl.lost.contains sp || s.roleOf sp == roWITHDRAWN then { emptySlot with mode := if mod then mBYPASS else mOFF, restart := rst }
  else
    match cmds.find? (fun x => x.sp == sp) with
    | none => { emptySlot with restart := rst }
    | some x =>
      { emptySlot with mode := if mod then x.mode else mOFF, level := if mod then x.level else 0, m := if mod then x.m else 0, phase := x.phase
                       restart := rst, dabEn := dab && x.dabEn, pDab := if dab then x.pDab else 0 }

/-- Positions this Basin serves: the Spring indexes of every chain with Springs (R25, R27). -/
def State.servedChains (s : State) : List Nat :=
  (List.range 12).filter (fun c => s.get (F.LNK_CHAIN.NSPR c) != 0 && (s.get F.RED_CLAIM.ROLE != roleLone || decide (c < 6)))

def State.servedSprings (s : State) : List Nat := s.servedChains.flatMap (fun c => (List.range (s.get (F.LNK_CHAIN.NSPR c))).map (fun i => 16 * c + i))

/-- Spares whose first LEVEL 0 stands in this tick's slots: their BYP_OPEN goes with it (R103, R149). -/
def State.toOpen (s : State) (l : List MySlot) : List Nat :=
  (s.slu.arms.flatMap (fun (x : ArmSt) => x.items)).filterMap (fun (i : InsItem) => match i.spare, i.placed with
    | some sp, none => if l.any (fun y => y.spring == sp && y.slot.mode == mLEVEL) then some sp else none
    | _, _ => none)

/-- The tick's slots, without SLOT_SEQ and host commands; insertions note their BYP_OPEN and arms their carrier restart (R64, R105). DESIGN CHOICE (log entry 48): the
time-out of R106 counts from the dispatch whose slot carries the open request; the manual does not say from where. -/
def State.buildSlots (s : State) (cmds : List CellCmd) : State × List MySlot :=
  let l := s.servedSprings.map (fun sp => MySlot.mk sp (s.cellSlot cmds sp))
  let opens := s.toOpen l
  let l := l.map (fun (x : MySlot) => if opens.contains x.spring then { x with slot := { x.slot with cmdSrc := 0xFE, cmdOp := 2 } } else x)
  let bnd := s.ctl.bound + 10 * s.ctl.per
  let s := (List.range 12).foldl (fun (s : State) a => s.modSlArm a (fun (x : ArmSt) =>
    { x with rst := if s.ctl.restart || x.due then some bnd else x.rst, due := false
             items := x.items.map (fun (i : InsItem) => if i.placed.isNone && (i.spare.map (fun sp => opens.contains sp)).getD false then { i with placed := some s.time.ext } else i) })) s
  ({ s with ctl := { s.ctl with restart := false } }, l)

/-! ### Host commands (R54, R348, R354, R357) -/

/-- Operations that stop a cell, which a busy Spring takes too (R352). -/
def stopping (d : Desc) : Bool := let op := bytesAt d.param 0 1; op == 3 || op == 5

/-- A SPRING_CMD may be carried now: no earlier Spring-directed descriptor of its SQ to its Spring is open (R348), and no reconciliation of the Spring runs (R370). -/
def State.cmdTurn (s : State) (x : Infl) : Bool :=
  !s.host.recon.contains x.d.target &&
    !(s.host.infl.any (fun y => decide (y.id < x.id) && y.sq == x.sq && springDirected y.d && y.d.target == x.d.target && !y.phase.isDone))

/-- SPRING_CMDs to a Spring that a slot for tick `a` could carry: again, held, or queued for that tick or before. -/
def State.cmdReady (s : State) (sp a : Nat) : List Infl :=
  s.host.infl.filter (fun x => x.d.opcode == ocCMD && x.d.target == sp && s.cmdTurn x && (match x.phase with
    | .again _ _ => true
    | .held _ _ _ => true
    | .queued t => t == a || decide (tickDist t a ≤ 2 ^ 24)
    | _ => false))

/-- Which of two ready commands goes first: one to be carried again, one that was held, then the one first due; on one tick the lower SQ, then the earlier submission. -/
def cmdBefore (a : Nat) (x y : Infl) : Bool :=
  let cls : Infl → Nat := fun z => match z.phase with
    | .again _ _ => 0
    | .held _ _ _ => 1
    | _ => 2
  let age : Infl → Nat := fun z => match z.phase with
    | .queued t => tickDist t a
    | _ => 0
  if cls x != cls y then decide (cls x < cls y)
  else if age x != age y then decide (age y < age x)
  else if x.sq != y.sq then decide (x.sq < y.sq)
  else decide (x.id < y.id)

/-- The command a slot carries (R54). -/
def cmdPick (a : Nat) (l : List Infl) : Option Infl :=
  l.foldl (fun (m : Option Infl) x => match m with
    | none => some x
    | some y => if cmdBefore a x y then some x else some y) none

/-- A busy Spring's non-stopping commands are held (R357). -/
def State.holdCmds (s : State) (sp a : Nat) (l : List Infl) : State :=
  if s.ctl.busy.contains sp then
    (l.filter (fun x => !stopping x.d)).foldl (fun (s : State) (x : Infl) => match x.phase with
      | .queued _ => s.modInfl x.id (fun y => { y with due := a, phase := .held a 0 0 })
      | .again q c => s.setPhase x.id (.held x.due q c)
      | _ => s) s
  else s

/-- A command carried in the slot with a SLOT_SEQ for tick `a`. -/
def State.carry (s : State) (x : Infl) (seq a : Nat) : State :=
  match x.phase with
  | .again _ c =>
    (s.setPhase x.id (.carried seq a (c + 1))).raise Ev.CMD_REPLAYED [x.d.target, x.sq, x.d.tag, c + 1, seq]
  | .held _ _ c => s.setPhase x.id (.carried seq a (c + 1))
  | _ => s.modInfl x.id (fun y => { y with due := a, phase := .carried seq a 1 })

/-- A slot as it leaves: its SLOT_SEQ, and the host command it carries unless the Basin has placed one (R72, R149). -/
def State.fillSlot (s : State) (a : Nat) (x : MySlot) : State × MySlot :=
  let sp := x.spring
  let seq := (countOf s.ctl.seqs sp + 1) % 65536
  let s := { s with ctl := { s.ctl with seqs := s.ctl.seqs.filter (fun (y : Nat × Nat) => y.1 != sp) ++ [(sp, seq)] } }
  let l := s.cmdReady sp a
  let s := s.holdCmds sp a l
  let l := l.filter (fun y => stopping y.d || !s.ctl.busy.contains sp)
  let slot := { x.slot with seq := seq }
  if slot.cmdSrc = 0xFE then (s, { x with slot := slot })
  else
    match cmdPick a l with
    | none => (s, { x with slot := slot })
    | some y =>
      (s.carry y seq a, { x with slot := { slot with cmdSrc := y.sq, cmdOp := bytesAt y.d.param 0 1, cmdParam := (y.d.param.drop 2).take 14 } })

def State.fillSlots (s : State) (a : Nat) (l : List MySlot) : State × List MySlot :=
  l.foldl (fun (acc : State × List MySlot) x =>
    let (s, y) := acc.1.fillSlot a x
    (s, acc.2 ++ [y])) (s, [])

/-! ### Frames (R242, R259, R260) -/

/-- A TIME_SET that sets time of day at tick `a` (R272): its value, and whether it steps back. -/
def State.timeSetAt (s : State) (a : Nat) : Option (Nat × Bool) :=
  let bnd := s.ctl.bound + 10 * s.ctl.per
  (s.host.infl.find? (fun x => x.d.opcode == ocTIMESET && x.phase == .queued a)).bind (fun x =>
    let v := timeSetVal x.d
    let back := decide ((v : Int) < (bnd : Int) + s.time.todOff)
    if back && !bitOf x.d.flags 1 then none else some (v, back))

/-- The header of a chain's frame for tick `a`. -/
def State.tickHdr (s : State) (a c : Nat) : TickHdr :=
  let bnd := s.ctl.bound + 10 * s.ctl.per
  let set := s.timeSetAt a
  let e := s.get F.TIME_STATUS.EPOCH
  let tod := match set with
    | some (v, _) => v
    | none => ((bnd : Int) + s.time.todOff).toNat
  { tick := a, bound := bnd % 2 ^ 32, period := s.get F.CTL_TICK_PERIOD.PERIOD, claim := s.get F.RED_CLAIM.CLAIM, nslot := s.get (F.LNK_CHAIN.NSPR c), state := s.station, side := s.side
    farFed := false, weirStn := s.flag F.WEIR_ARM_STAT.STN_HOLD || s.station == ssFAULT, weirHold := s.get F.WEIR_ARM_STAT.HELD
    epoch := if (set.map (·.2)).getD false then (if 0xFFFE ≤ e then 0 else e + 1) else e
    weirRstamp := (s.stamp + 2 ^ 32 - 10 * s.cg F.WEIR_ARM_MAX.MAX % 2 ^ 32) % 2 ^ 32
    todSec := tod / 1000000000 % 2 ^ 48, todNs := tod % 1000000000, todValid := s.time.todValid || set.isSome }

/-- A chain's frame. -/
def State.tickFrame (s : State) (a c : Nat) (l : List MySlot) (far : Bool) : TickFrame :=
  { chain := c, relayed := false, hdr := { s.tickHdr a c with farFed := far }
    slots := (List.range (s.get (F.LNK_CHAIN.NSPR c))).map (fun i => ((l.find? (fun x => x.spring == 16 * c + i)).map (·.slot)).getD emptySlot) }

/-- The frames of a tick leave: each chain's out of its port, and a swapped chain's far copy by the far route, after the relay chain's own frame. -/
def State.sendTicks (s : State) (a : Nat) (l : List MySlot) : State :=
  let cs := s.servedChains
  let far := cs.filter (fun c => s.flag (F.LNK_CHAIN.SWAPPED c))
  let s := cs.foldl (fun s c =>
    let s := if s.portUp c then s.sendFrame c (.tick (s.tickFrame a c l false)) else s
    (far.filter (fun d => s.get F.RED_CLAIM.ROLE != roleLone && s.farPort d == some c)).foldl (fun s d =>
      if s.portUp c then s.sendFrame c (.tick (s.tickFrame a d l true)) else s) s) s
  if s.get F.RED_CLAIM.ROLE == roleLone then
    far.foldl (fun s d => match s.farPort d with
      | some p => s.sendFrame p (.tick (s.tickFrame a d l true))
      | none => s) s
  else s

/-! ### Releases (R203) -/

/-- HOLD_MIN boundaries have passed by T(k + 1). -/
def State.heldLong (s : State) (a : Nat) : Bool :=
  decide (s.cg F.WEIR_CFG.HOLD_MIN ≤ tickDist (s.armHold a).since (tickSucc s.tickNow))

/-- Nothing of the hold's making persists: no origin is ACTIVE, and no Spring a CHAIN_LOSS named is ACTIVE and out of reach. -/
def State.holdQuiet (s : State) (a : Nat) : Bool :=
  let h := s.armHold a
  h.origins.all (fun o => !decide (o < 192) || s.roleOf o != roACTIVE) && h.lost.all (fun sp => !s.unreachable sp || s.roleOf sp != roACTIVE)

/-- Arms the frames of this tick release. -/
def State.releaseStage (s : State) : State :=
  (List.range 12).foldl (fun s a =>
    if !s.armIsHeld a || s.station == ssFAULT || !s.heldLong a then s
    else if s.weir.reqGot.contains a then s.releaseArm a true
    else if s.cg F.WEIR_CFG.AUTO_REL == 1 && !(s.get F.WEIR_ARM_STAT.NOAUTO).testBit a && s.holdQuiet a then s.releaseArm a false
    else s) s

/-- The slots of a tick are dispatched (R39, R50, R242); the time master has loaded its time from its first dispatch on. -/
def State.dispatch (s : State) (l : List MySlot) : State :=
  let a := tickSucc s.tickNow
  let (s, l) := s.fillSlots a l
  let s := (s.sendTicks a l).set F.TIME_STATUS.LOADED 1
  { s with ctl := { s.ctl with sent := a } }

end Sys2Proof.Machine
end

