-- ==== Sys2Proof/Machine/Gather.lean ====
section
/-! DEFINITION. Gather.lean: a tick boundary at a Basin (R23, R39, R50 to R56, R226, R258, R272, R390, R513): the tick that starts, what takes effect at its
boundary, and the apply queue sampled for the tick after it. -/
namespace Sys2Proof.Machine

/-! ### Which boundary comes (R39, R390) -/

/-- A tick to come: its number, TIME_EXT of its boundary, its period. -/
structure TickNext where
  tick : Nat
  bound : Nat
  per : Nat
  deriving DecidableEq, Repr

/-- The tick after the one in progress by this Basin's own count; its period is CTL_TICK_PERIOD. -/
def State.ownNext (s : State) : TickNext := ⟨tickSucc s.tickNow, s.ctl.bound + 10 * s.ctl.per, s.get F.CTL_TICK_PERIOD.PERIOD⟩

/-- The header of the active Basin names a tick that this standby has not started. -/
def State.hdrAhead (s : State) (h : TickHdr) : Bool :=
  s.tickNow == 0 || (decide (1 ≤ tickDist s.tickNow h.tick) && decide (tickDist s.tickNow h.tick ≤ 2 ^ 24))

/-- TIME_EXT of a header's boundary. -/
def State.extOf (s : State) (bound : Nat) : Nat := ((s.time.ext : Int) + stampDiff bound s.stamp).toNat

/-- The tick that starts next at a Basin that runs its pipeline: a Basin that dispatches counts its own, from tick 1; a standby follows the headers, and its own
count where they stop. -/
def State.comingTick (s : State) : Option TickNext :=
  if s.flag F.CLK_PLLS_STAT.ON_SAFE then none
  else if s.dispatches then some (if s.tickNow = 0 then ⟨1, s.time.ext, s.get F.CTL_TICK_PERIOD.PERIOD⟩ else s.ownNext)
  else if s.get F.RED_CLAIM.ROLE == roleStandby && s.pipeFit then
    match s.red.hdr with
    | some h => if s.hdrAhead h then some ⟨h.tick, s.extOf h.bound, h.period⟩ else some { s.ownNext with per := s.ctl.per }
    | none => if s.tickNow = 0 then none else some { s.ownNext with per := s.ctl.per }
  else none

/-! ### FAR_REPORT (R258) -/

/-- The record of a chain at the boundary of a tick. -/
def State.farRecord (s : State) (k c : Nat) : List Nat :=
  let first := ((s.ctl.sides.filter (fun x => x.2 && x.1 / 16 == c)).map (fun x => x.1 % 16 + 1)).foldl min 17
  leBytes 2 (b2n ((s.chain c).frameAt == some k) + 256 * first)

/-- A standby's FAR_REPORT, out of every port that is UP. -/
def State.farReport (s : State) (k : Nat) : State :=
  s.emitFrame s.upPorts (.mgmt (s.mkMgmt 0xC2 opFAR 0 0 false ((List.range 12).flatMap (s.farRecord k))))

/-! ### What takes effect at the boundary -/

/-- Descriptors of the apply queue due by a tick, in promise order (R53). -/
def State.dueBy (s : State) (a : Nat) : List Infl :=
  (List.range 16).flatMap (fun q => s.host.infl.filter (fun x => x.sq == q && (match x.phase with
    | .queued t => t == a || decide (tickDist t a ≤ 2 ^ 24)
    | _ => false)))

/-- A TABLE_SWAP at its tick (R513): the standby's takes effect; the active Basin's does when its pushes are done, and is abandoned otherwise. -/
def State.swapDue (s : State) (x : Infl) (k : Nat) : State :=
  let go := fun (s : State) => s.swapNow x.id (bytesAt x.d.param 0 1) ((wordBytes x.data).take (imgLen (wordBytes x.data))) k
  match s.tbl.swap with
  | some w =>
    if w.id != x.id || w.ready then go s
    else
      let sp := w.failed.getD ((w.pushed.find? (fun y => !w.committed.contains y)).getD 0xFFFF)
      ((s.swapAbandon w).raise Ev.SWAP_REFUSED [w.bank, stLIMIT, rsPUSH sp]).refuse x.id stLIMIT (rsPUSH sp)
  | none => go s

/-- Swaps and time settings due at a boundary. -/
def State.boundaryOps (s : State) (k : Nat) : State :=
  let s := ((s.dueBy k).filter (fun x => x.d.opcode == ocSWAP)).foldl (fun s x => s.swapDue x k) s
  ((s.dueBy k).filter (fun x => x.d.opcode == ocTIMESET)).foldl State.timeSetApply s

/-! ### The apply queue (R50 to R56, R92 to R95) -/

/-- The value a SET_REF gives: the powers are signed. -/
def refValue (d : Desc) : Int := if bytesAt d.param 0 1 < 2 then toSigned 32 (bytesAt d.param 4 4) else bytesAt d.param 4 4

/-- A reference set. -/
def State.setRef (s : State) (id : Nat) (v : Int) : State :=
  { s with ctl := { s.ctl with refs := s.ctl.refs.filter (fun (x : Nat × Int) => x.1 != id) ++ [(id, v)] } }

/-- The entry a SET_DEMAND describes. -/
def entryOf (x : Infl) : Entry :=
  let p := x.d.param
  { slot := bytesAt p 2 2, id := x.id, q := x.sq, tag := x.d.tag, cls := bytesAt p 0 1, kind := bytesAt p 1 1, target := x.d.target
    amount := toSigned 32 (bytesAt p 4 4), hold := bytesAt p 8 4, duration := bytesAt p 12 4, minFrac := bytesAt p 16 2
    waited := 0, left := none, lastF := 0, lastTick := 0, lastR := 0 }

/-- A SET_DEMAND sampled: its entry takes its slot, or RELEASE frees it (R93, R95). -/
def State.sampleDemand (s : State) (x : Infl) (a : Nat) : State :=
  let e := entryOf x
  let free := (s.entryAt e.slot).isNone
  let s := s.endEntry e.slot
  if isRelease x.d then s.settle x.id (if free then stOKEMPTY else stOK) 0 0 0 a
  else { s.setPhase x.id .demand with slu := { (s.setPhase x.id .demand).slu with entries := (s.setPhase x.id .demand).slu.entries ++ [e] } }

/-- ENERGISE sampled: every arm's carriers restart with it (R64). DESIGN CHOICE (log entry 42): also in NLM arms, of which R64 does not speak; their one PSC cell needs a
carrier that runs. -/
def State.sampleEnergise (s : State) (x : Infl) (a : Nat) : State :=
  let s := { s with ctl := { s.ctl with gotEnergise := true, restart := true } }
  (s.startStep 13).settle x.id stOK 0 0 0 a

/-- One descriptor sampled for tick `a`. -/
def State.sampleOne (a : Nat) (s : State) (x : Infl) : State :=
  if x.d.opcode == ocSETREF then (s.setRef (bytesAt x.d.param 0 1) (refValue x.d)).settle x.id stOK 0 0 0 a
  else if x.d.opcode == ocDEMAND then s.sampleDemand x a
  else if x.d.opcode == ocENERGISE then s.sampleEnergise x a
  else if x.d.opcode == ocDEENERGISE then { s with ctl := { s.ctl with gotDeenergise := true } }.settle x.id stOK 0 0 0 a
  else s

/-- The apply queue sampled for tick `a`; a DEENERGISE of the watchdog or of an expired group counts too (R342, R399). -/
def State.sampleQueue (s : State) (a : Nat) : State :=
  let s := (s.dueBy a).foldl (State.sampleOne a) s
  if s.host.wdDeen then { s with host := { s.host with wdDeen := false }, ctl := { s.ctl with gotDeenergise := true } } else s

/-! ### The start of gather (R23) -/

/-- The tick's own fields start afresh, and the registers are sampled. -/
def State.openTick (s : State) (n : TickNext) : State :=
  let s := s.set F.CTL_TICK_NUM.TICK n.tick
  let own := s.dispatches
  let s := { s with host := { s.host with pairs := s.host.pairs.map (fun (p : PairSt) =>
                      { p with ticks := p.ticks + 1, lastTick := if p.lastTick = 0 && !own then tickPred n.tick else p.lastTick }) }
                    lnk := { s.lnk with relayed := s.lnk.relayed.filter (fun (x : Nat × Nat) => decide (tickDist x.2 n.tick ≤ 1)) }
                    red := { s.red with hbGot := false } }
  { s with ctl := { s.ctl with bound := n.bound, per := n.per, gathering := true, got := [], sides := [], late := [], disc := [], seen := []
                               gotEnergise := false, gotDeenergise := false, moved := false } }

/-- A standby takes the station state of the tick from the header that names it (R390); while a station-scope Weir keeps it in FAULT_BLOCK (R205), only a higher one. -/
def State.followState (s : State) (k : Nat) : State :=
  match s.red.hdr with
  | some h =>
    if s.dispatches || h.tick != k || h.state == s.station ||
        (s.flag F.WEIR_ARM_STAT.STN_HOLD && decide (h.state < ssFAULT)) then s
    else { s with ctl := { s.ctl with lasted := 0 } }.set F.CTL_STATUS.STATE h.state
  | none => s

/-- Gather starts: the tick before it closes, the boundary's operations take effect, the registers and the apply queue are sampled. -/
def State.gatherStart (s : State) (n : TickNext) : State :=
  let s := s.closeTick
  let gap := tickDist s.tickNow n.tick
  let s := if s.tickNow != 0 && decide (1 < gap) then s.skipTicks (gap - 1) else s
  let s := if s.dispatches then s.set F.CTL_STATUS.TICK_RUN 1 else s.farReport n.tick
  let s := (s.openTick n).followState n.tick
  let s := (s.boundaryOps n.tick).thrGather
  s.sampleCfg.sampleQueue (tickSucc n.tick)

/-- GATHER_START (R23): a boundary that has come. -/
def execGatherStart (dt : Nat) (s : State) : Out := onBasin s fun s =>
  let s := s.advance dt
  match s.comingTick with
  | some n => if n.bound ≤ s.time.ext then s.gatherStart n else s
  | none => s

end Sys2Proof.Machine
end

