-- ==== Sys2Proof/Machine/Pipeline.lean ====
section
/-! DEFINITION. Pipeline.lean: what a Basin does at the gather deadline of a tick (R42, R43): the measure stage with its state machine, the controllers, allocation,
modulation and dispatch; and the limit on commands held for a busy Spring (R357). -/
namespace Sys2Proof.Machine

/-! ### Telemetry (R21, R47, R48, R219, R221, R352) -/

/-- Telemetry of a Spring used in this tick. -/
def State.gotOf (s : State) (sp : Nat) : Option Telem := s.ctl.got.find? (fun t => t.spring == sp)

/-- A Spring's die counted (R219); one that crosses HOT_SHUT in service asks for its withdrawal (R221). -/
def State.dieOf (s : State) (t : Telem) : State :=
  let sp := t.spring
  let (s, hot) := s.sprDie t
  if hot then
    { s with slu := { s.slu with reqs := s.slu.reqs ++ [(sp, 7, 0)] } }.raise Ev.SPRING_HOT_SHUT [sp, sPay t.tDie]
  else s

/-- A Spring whose telemetry came by the deadline. -/
def State.sprHeard (s : State) (sp : Nat) (t : Telem) : State :=
  let s := { s with ctl := { s.ctl with used := s.ctl.used.filter (fun (x : Telem) => x.spring != sp) ++ [t], runs := putCount s.ctl.runs sp 0
                                        busy := if t.busy then (if s.ctl.busy.contains sp then s.ctl.busy else s.ctl.busy ++ [sp]) else s.ctl.busy.filter (· != sp) } }
  let s :=
    if s.ctl.lost.contains sp then
      let n := countOf s.ctl.back sp + 1
      if 16 ≤ n then s.markBack sp else { s with ctl := { s.ctl with back := putCount s.ctl.back sp n } }
    else s
  (s.streamTelem t false).dieOf t

/-- A Spring without telemetry at the deadline is STALE, and LOST after more than STALE_MAX ticks in a row. -/
def State.sprStale (s : State) (sp : Nat) : State :=
  let n := countOf s.ctl.runs sp + 1
  let s := { s with ctl := { s.ctl with runs := putCount s.ctl.runs sp n, back := putCount s.ctl.back sp 0, stale := s.ctl.stale ++ [sp] } }.inc F.CTL_STALE_CNT.COUNT
  let s := if n = 1 then s.raise Ev.CELL_STALE [sp, s.tickNow] else s
  if s.cg F.CTL_CTRL.STALE_MAX < n then s.markLost sp else s

/-- Every enrolled Spring's telemetry taken or substituted; the throttle cause follows. -/
def State.measureTelem (s : State) : State :=
  let s := { s with ctl := { s.ctl with stale := [] } }
  let s := (s.lnk.enrolled.map (fun (e : Enr) => e.spring)).foldl (fun (s : State) sp => match s.gotOf sp with
    | some t => s.sprHeard sp t
    | none => s.sprStale sp) s
  s.hotSpr.thrEval

/-! ### Commands carried (R353) -/

/-- A SPRING_CMD carried for this tick is classified by its Spring's telemetry. -/
def State.classify (s : State) (x : Infl) : State :=
  match x.phase with
  | .carried seq tick carries =>
    if tick != s.tickNow then (if tickDist tick s.tickNow ≤ 2 ^ 24 then s.startCheck x seq tick carries else s)
    else
      match s.gotOf x.d.target with
      | none => s.startCheck x seq tick carries
      | some t =>
        if t.slotSeq != seq then s.carryAgain x.id seq carries
        else
          let r := t.cellStatus % 16
          if decide (1 ≤ r) && decide (r ≤ 6) then s.cmdOutcome x.id r tick
          else if t.busy then s.setPhase x.id (.held (if carries = 1 then tick else x.due) seq carries)
          else s.carryAgain x.id seq carries
  | _ => s

def State.classifyAll (s : State) : State := s.host.infl.foldl State.classify s

/-! ### Start-up steps (R534) -/

/-- A Spring is loaded, its TIME_OK set. -/
def State.sprLoaded (s : State) (sp : Nat) : Bool := s.tbl.loaded.contains sp && s.sprTimeOk sp

/-- The pack of an ACTIVE Spring is closed (R150, PACK_FB_CLOSED). -/
def State.packClosed (s : State) (sp : Nat) : Bool := match s.telOf sp with
  | some t => t.cellStatus.testBit 12
  | none => false

/-- Steps 8, 9 and 12 of a Basin that dispatches. -/
def State.basinSteps (s : State) : State :=
  let sps := s.lnk.enrolled.map (fun (e : Enr) => e.spring)
  let act := s.enrolledIn [roACTIVE]
  let s := if !s.servedChains.isEmpty && s.servedChains.all (fun c => s.flag (F.LNK_CHAIN.ENROLLED c)) then s.startStep 8 else s
  let s := if s.pwr.steps.contains 8 && sps.all s.sprLoaded then s.startStep 9 else s
  if s.pwr.steps.contains 11 && !act.isEmpty && act.all s.packClosed then s.startStep 12 else s

/-! ### The state machine (R57 to R59, R537) -/

/-- A condition of R59. -/
def State.smCond (s : State) (cond param : Nat) : Bool :=
  let g := s.ctl.grid
  let b := s.tbl8 secARM
  match cond with
  | 1 => s.ctl.gotEnergise
  | 2 => s.ctl.gotDeenergise
  | 3 => decide (param < g.vPos)
  | 4 => ((List.range 192).filter (fun sp => s.roleOf sp == roACTIVE)).all (fun sp => ((s.telOf sp).map (fun t => decide (param < 50 * t.vDc))).getD false)
  | 5 => ((List.range 12).filter (fun a => armMethod b a != 0)).all (fun a => decide (((armMembersOf b a).filter (fun m => !m.spare)).length ≤ s.activeCount a))
  | 6 => decide (param < s.ctl.lasted)
  | 7 => decide (param < max g.freq g.nominal - min g.freq g.nominal)
  | _ => false

/-- A row holds in the current state. -/
def State.smHolds (s : State) (r : SmRow) : Bool := r.frm == s.station && s.smCond r.cond r.param == (r.pol == 0)

/-- The first row that holds, with its number. -/
def State.smPick (s : State) : Option (Nat × SmRow) :=
  let l := smRows (s.tbl8 secSTATE)
  ((List.range l.length).zip l).find? (fun x => s.smHolds x.2)

/-- READY is reached from OFF (R537); it ends step 11. -/
def State.becomeReady (s : State) : State :=
  if s.pwr.steps.contains 8 && s.pwr.steps.contains 9 && s.flag F.SAFE_STAT.GUARD_TESTED && s.flag F.SAFE_STAT.OUT_ON then
    ((s.toState ssREADY scNONE).raise Ev.STATION_READY [s.tickNow]).startStep 11
  else s

/-- RESUME descriptors due in this tick (R413, R543): one that meets a thermal cause of the same tick is refused, one that meets another cause waits. -/
def State.resumes (s : State) (hw : Nat) : State :=
  ((s.dueBy (tickSucc s.tickNow)).filter (fun x => x.d.opcode == ocRESUME)).foldl (fun (s : State) (x : Infl) =>
    if hw == ssTHERMAL then s.resumeTooHot x else if hw != 0 then s else s.resume x) s

/-- The state machine of a Basin that dispatches: a hardware cause first, then RESUME, then the table's first row. -/
def State.stateStep (s : State) : State :=
  let s := { s with ctl := { s.ctl with lasted := s.ctl.lasted + 1 } }
  let was := s.station
  let hw := s.ctl.hw
  let s := (if s.pwr.stuck then s.hwCause ssHOLD else s).hwStep
  let s := s.resumes hw
  if s.ctl.moved || s.station != was || decide (ssTHERMAL ≤ s.station) then s
  else if s.station == ssOFF then s.becomeReady
  else
    match s.smPick with
    | some (i, r) => s.toState r.dst i
    | none => s

/-! ### Controllers (R60 to R62, R86, R202) -/

/-- The Basin's grid quantities (R185): voltages A, B, C in V and currents A, B, C in 0.1 A. -/
def State.gridQs (s : State) : List Int := (List.range 6).map (fun q => s.mapQ q (-32768) 32767)

/-- A reference as set, if it has been. -/
def State.refSet (s : State) (id : Nat) : Option Int := (s.ctl.refs.find? (fun (x : Nat × Int) => x.1 == id)).map (fun x => x.2)

/-- The reference of an identifier on its way from zero after entry to the station state (R59). -/
def State.refTarget (s : State) (id : Nat) : Int :=
  let v := (s.refSet id).getD 0
  let n := stRamp (s.tbl8 secSTATE) s.station
  if s.ctl.lasted < n then roundFree (v * s.ctl.lasted) n else v

/-- A value moved toward another by at most a limit, if one is set. -/
def rampTo (old new : Int) (lim : Option Int) : Int := match lim with
  | some l => clampInt (old - l) (old + l) new
  | none => new

/-- The references in force (R56, R59): the powers move by their ramp limits (0x08, 0x09). -/
def State.moveRefs (s : State) : State :=
  let old := fun i => s.ctl.refNow.getD i 0
  { s with ctl := { s.ctl with refNow := (List.range 6).map (fun i =>
      rampTo (old i) (s.refTarget i) (if i < 2 then s.refSet (8 + i) else none)) } }

/-- The measured voltage of an LV section in mV: the mean V_LV of the ACTIVE cells that feed it. -/
def State.lvMeasured (s : State) (k : Nat) : Int :=
  let sps := (List.range 192).filter (fun sp => s.roleOf sp == roACTIVE &&
    ((armOf (s.tbl8 secARM) sp).map (fun a => apSection (s.tbl8 secARMPAR) a == k)).getD false)
  let l := sps.filterMap (fun sp => (s.telOf sp).map (fun (t : Telem) => 50 * t.vLv))
  roundFree (l.foldl (· + ·) 0 : Nat) l.length

/-- Section of an LV controller (R61). -/
def lvOf (i : Nat) : Option Nat := if i = 14 then some 3 else if 10 ≤ i ∧ i ≤ 12 then some (i - 10) else none

/-- A controller's input error in Q8.24 (R61): reference minus measured for the outer loops, as the grid stages answer for the rest. -/
def State.ctlErr (s : State) (i : Nat) : Int :=
  let scaled := fun (d : Int) => satSigned 32 (roundFree (d * 2 ^ 24) (Config.gridBase i))
  match lvOf i with
  | some k => scaled (s.ctl.refNow.getD (2 + k) 0 - s.lvMeasured k)
  | none =>
    if i = 2 ∨ i = 3 then scaled (s.ctl.refNow.getD (i - 2) 0 - Config.gridPower (decide (i = 3)) s.gridQs) else s.ctl.grid.err.getD i 0

/-- The limit on a controller's output, in the controller's unit: the served amount of a class that was cut (R86), the zero-sequence injection limit (R56). -/
def State.ctlLimit (s : State) (i : Nat) : Option Int :=
  ((match lvOf i with
   | some k => s.ctl.limLv.getD k none
   | none => if i = 2 then s.ctl.limP else if i = 3 then s.ctl.limQ else if i = 9 then (s.refSet 0x0A).map Int.toNat else none) : Option Nat).map
    (fun l => satSigned 32 (roundFree (l * 2 ^ 24) (Config.gridBase i)))

/-- The STAGE_EN bit a controller's stage has, if any (R60, R61). -/
def ctlStage (i : Nat) : Option Nat := if 4 ≤ i ∧ i ≤ 8 then some 0 else if i = 9 then some 1 else none

/-- A controller's update in this tick. -/
def State.runCtrl (s : State) (i : Nat) : State :=
  let put := fun (x : CtrlSt) => { s with ctl := { s.ctl with ctrls := s.ctl.ctrls.set i x } }
  let off := match ctlStage i with
    | some b => !s.stageEn b
    | none => false
  if off then put {}
  else
    let c := ctlRec (s.tbl8 secCOEF) (16 * (stRefSet (s.tbl8 secSTATE) s.station % 2) + i)
    let c := match s.ctlLimit i with
      | some l => if i = 9 then { c with omin := max c.omin (-l), omax := min c.omax l } else { c with omin := -l, omax := l }
      | none => c
    let x := s.ctl.ctrls.getD i {}
    let ff := if i = 4 ∨ i = 5 then s.ctl.grid.ff.getD i 0 else 0
    let (y, i', s1, s2) := ctlUpdate c (s.ctlErr i) ff x.i x.s1 x.s2
    if (ctlStage i).isSome && s.get F.WEIR_ARM_STAT.HELD != 0 then put { x with out := y } else put ⟨i', s1, s2, y⟩

/-- Grid tracking, arm current control and energy balance in the order of R42, on the references in force. -/
def State.runCtrls (s : State) : State := ([0, 1, 2, 3, 10, 11, 12, 14, 4, 5, 6, 7, 8, 9] : List Nat).foldl State.runCtrl s.moveRefs

/-! ### Dispatch and after -/

/-- The first SLU_STATUS records of a new active Basin follow a RECOVERY GAP (R372). -/
def State.statusGaps (s : State) : State :=
  let s := (s.streamPairs 1).foldl (fun s q =>
    let p := s.pair q
    let n := tickDist p.lastTick s.tickNow - 1
    if p.lastTick = 0 || n = 0 then s
    else
      let c := (List.range n).filter (fun i => (p.ticks - (n - i)) % s.get (F.HIF_QP_STRM.DECIM q) == 0)
      s.recoveryGap q (tickAdd p.lastTick (1 + c.headD 0)) c.length) s
  { s with host := { s.host with pairs := s.host.pairs.map (fun (p : PairSt) => { p with lastTick := s.tickNow }) } }

/-- A MGMT-borne descriptor held for a busy Spring goes on once telemetry shows it free (R357). -/
def State.unhold (s : State) (x : Infl) : State :=
  match x.phase with
  | .mgmtHeld _ n =>
    if s.ctl.busy.contains x.d.target || (s.gotOf x.d.target).isNone || !s.mgmtMay x then s
    else if x.d.opcode == ocSAFETY then s.cfgStage x n
    else if x.d.opcode == ocCALRUN || x.d.opcode == ocSYSCAL then s.setPhase x.id .fetched
    else s.goRemote x n
  | _ => s

/-- Dispatch by the Basin that dispatches: releases first (R203), then the frames; a swap is decided (R513), and descriptors held for a busy Spring go on. -/
def State.dispatchStage (s : State) (l : List MySlot) : State :=
  let s := (s.releaseStage.dispatch l).swapDecide
  s.host.infl.foldl State.unhold s

/-- The stages after measure, with the slots they end in. -/
def State.afterMeasure (s : State) : State × List MySlot :=
  let s := s.runCtrls
  let (s, cmds) := s.allocate (s.stageEn 2)
  s.buildSlots cmds

/-- The pipeline of a Basin that dispatches. -/
def State.activePipe (s : State) (links : List (List Nat)) : State :=
  let s := (((s.measureTelem.classifyAll.basinSteps).chainStage links).escalateStage).stateStep
  let (s, l) := s.statusGaps.afterMeasure
  s.dispatchStage l

/-! ### The comparison (R391) -/

/-- Which fields of two slots differ beyond the tolerances: 0 MODE, 1 LEVEL, 2 PHASE, 3 FLAGS, 4 M, 5 P_DAB_REF. -/
def slotDiff (tolM tolP : Nat) (x y : Slot) : Option Nat :=
  if x.mode != y.mode then some 0
  else if x.level != y.level then some 1
  else if x.phase != y.phase then some 2
  else if x.restart != y.restart || x.dabEn != y.dabEn then some 3
  else if tolM < (x.m - y.m).natAbs then some 4
  else if tolP < (x.pDab - y.pDab).natAbs then some 5
  else none

/-- The differing slots of a frame: Spring and field. -/
def State.frameDiffs (s : State) (f : TickFrame) : List (Nat × Nat) :=
  (List.range f.slots.length).filterMap (fun i =>
    let sp := 16 * f.chain + i
    match f.slots[i]?, s.red.slots.find? (fun y => y.spring == sp) with
    | some x, some y => (slotDiff (s.cg F.RED_SHADOW_CFG.TOL_M) (s.cg F.RED_SHADOW_CFG.TOL_P) x y.slot).map (fun d => (sp, d))
    | _, _ => none)

/-- A frame's slots compared with the shadow's of the same tick, once for each chain. -/
def State.compareNow (s : State) (f : TickFrame) : State :=
  if s.red.compared.contains f.chain then s
  else
    let l := s.frameDiffs f
    let n := s.red.differ + l.length
    let s := s.addSat F.RED_SHADOW_CNT.COUNT l.length
    let ovr := decide (s.cg F.RED_SHADOW_CFG.LIM < n)
    let lost := ovr && s.red.syncTicks == 256
    let first := s.red.firstDiff.or l.head?
    let s := { s with red := { s.red with differ := n, firstDiff := first, compared := s.red.compared ++ [f.chain], syncTicks := if ovr then 0 else s.red.syncTicks } }
    match first with
    | some x => if lost then s.raise Ev.SHADOW_DIVERGE [f.hdr.tick, x.1, evNum Ev.SHADOW_DIVERGE x.2] else s
    | none => s

/-- A frame compared: one for a tick whose shadow slots are not computed yet waits for them. -/
def State.compare (s : State) (f : TickFrame) : State :=
  if s.red.slotsFor == f.hdr.tick then s.compareNow f
  else if f.hdr.tick == tickSucc s.tickNow || f.hdr.tick == tickSucc (tickSucc s.tickNow) then { s with red := { s.red with early := s.red.early ++ [f] } }
  else s

/-- The shadow's slots for the coming tick are there: the frames that waited for them are compared. -/
def State.compareEarly (s : State) : State :=
  let l := s.red.early
  (l.filter (fun f => s.red.slotsFor == f.hdr.tick)).foldl State.compareNow { s with red := { s.red with early := l.filter (fun f => s.red.slotsFor != f.hdr.tick && f.hdr.tick == tickSucc s.red.slotsFor) } }

/-- The comparison of the last tick closes: ticks in a row without a differing slot are counted up to 256 (R391). -/
def State.syncCount (s : State) : State :=
  if s.red.compared.isEmpty then s
  else if s.red.differ = 0 then { s with red := { s.red with syncTicks := min 256 (s.red.syncTicks + 1) } }
  else if s.red.syncTicks = 256 && decide (s.red.differ ≤ s.cg F.RED_SHADOW_CFG.LIM) then s
  else { s with red := { s.red with syncTicks := 0 } }

/-- The shadow of a standby (R390): its slots are kept, and it dispatches nothing; the station state is the headers', but for a station-scope Weir of its own or received, with
which it enters FAULT_BLOCK in that tick (R205). -/
def State.shadowPipe (s : State) : State :=
  let s := s.measureTelem
  let s := { s with ctl := { s.ctl with lasted := s.ctl.lasted + 1, hw := if s.flag F.WEIR_ARM_STAT.STN_HOLD then ssFAULT else 0 } }.hwStep
  let s := s.syncCount
  let (s, l) := s.afterMeasure
  { s with red := { s.red with slots := l, slotsFor := tickSucc s.tickNow, differ := 0, firstDiff := none, compared := [] } }.compareEarly

/-- GATHER_DEADLINE (R42, R43): `grid` is what the grid stages answer in this tick. -/
def execGatherDeadline (dt : Nat) (grid : GridIn) (s : State) : Out := onBasin s fun s =>
  let s := s.advance dt
  if !s.atDeadline || s.flag F.CLK_PLLS_STAT.ON_SAFE then s
  else
    let s := { s with ctl := { s.ctl with grid := grid, gathering := false } }
    if s.dispatches then s.activePipe grid.links else if s.get F.RED_CLAIM.ROLE == roleStandby && s.pipeFit then s.shadowPipe else s

/-! ### Commands held too long (R357) -/

/-- Ticks a descriptor has been held since its first carry or NAK. -/
def State.heldTicks (s : State) (x : Infl) : Option Nat := match x.phase with
  | .held since _ (_ + 1) => some (tickDist since s.tickNow)
  | .mgmtHeld _ _ => some (tickDist x.due s.tickNow)
  | _ => none

/-- CMD_BUSY_EXPIRED (R357, R375): the descriptor of a number, held for HIF_ORD_CFG.UPD_HOLD ticks, completes without effect, unless telemetry has shown its Spring
free: then this tick's dispatch carries it. -/
def execCmdBusyExpired (dt id : Nat) (s : State) : Out := onBasin s fun s =>
  let s := s.advance dt
  match s.inflAt id with
  | none => s
  | some x =>
    match s.heldTicks x with
    | some n =>
      if s.cg F.HIF_ORD_CFG.UPD_HOLD ≤ n && s.ctl.busy.contains x.d.target then (s.settle id stBUSY n 0 0 s.tickNow).raise Ev.CMD_BUSY_EXPIRED [x.d.target, x.sq, x.d.tag, n] else s
    | none => s

end Sys2Proof.Machine
end

