-- ==== Sys2Proof/Machine/Shadow.lean ====
section
/-! DEFINITION. Shadow.lean: TICK frames at a Basin (R258, R260, R368, R382 to R391) and missed heartbeats (R384, R385). -/
namespace Sys2Proof.Machine

/-! ### A frame of the active Basin at a standby -/

/-- The claim of a frame is one the standby accepts: none higher has been seen (R260, R384). -/
def State.claimOk (s : State) (h : TickHdr) : Bool := !keyHigher s.red.seenClaim h.side h.claim h.side

/-- SLOT_SEQs seen (R370). -/
def State.seeSeqs (s : State) (f : TickFrame) : State :=
  let l := (List.range f.slots.length).filterMap (fun i => (f.slots[i]?).map (fun (x : Slot) => (16 * f.chain + i, x.seq)))
  { s with red := { s.red with seqsSeen := s.red.seqsSeen.filter (fun (x : Nat × Nat) => !l.any (fun y => y.1 == x.1)) ++ l } }

/-- Holds the active Basin has released end here too: the header of the second tick after the mark, or of a later one, no longer shows them. -/
def State.headerReleases (s : State) (h : TickHdr) : State :=
  let s := (List.range 12).foldl (fun (s : State) a =>
    if s.armIsHeld a && !h.weirHold.testBit a && decide (2 ≤ tickDist (s.armHold a).since h.tick) then
      ((s.setBit F.WEIR_ARM_STAT.HELD a false).setBit F.WEIR_ARM_STAT.NOAUTO a false).setArmHold a { marks := (s.armHold a).marks }
    else s) s
  if s.flag F.WEIR_ARM_STAT.STN_HOLD && !h.weirStn && decide (2 ≤ tickDist s.weir.stnSince h.tick) then s.set F.WEIR_ARM_STAT.STN_HOLD 0 else s

/-- The header is later than the last one kept. -/
def State.newHeader (s : State) (h : TickHdr) : Bool := match s.red.hdr with
  | some o => o.tick != h.tick && decide (tickDist o.tick h.tick ≤ 2 ^ 24)
  | none => true

/-- The station was not energised in the header before and is in this one (R388). -/
def energiseSeen (o : Option TickHdr) (h : TickHdr) : Bool :=
  let on := fun (n : Nat) => n == ssPRECHARGE || n == ssENERGISED
  on h.state && !((o.map (fun (x : TickHdr) => on x.state)).getD false)

/-- A header kept: time of day, holds, and the takeover budget at an ENERGISE (R283, R388, R390). -/
def State.keepHeader (s : State) (h : TickHdr) : State :=
  if !s.newHeader h then s
  else
    let e := energiseSeen s.red.hdr h
    let s := { s with red := { s.red with hdr := some h, seenClaim := h.claim } }
    let s := (s.headerTime h).headerReleases h
    if e then s.takeoverBudget s.ctl.grid.links else s

/-- The heartbeat of the boundary to come (R384): the first frame that carries it in time. -/
def State.heartbeat (s : State) (h : TickHdr) : State :=
  if s.tickNow != 0 && (s.red.hbGot || h.tick != tickSucc s.tickNow || decide (s.ctl.bound + 10 * s.get F.RED_HB_CFG.WAIT < s.time.ext)) then s
  else
    let s := { s with red := { s.red with hbEver := true, hbGot := true } }
    (s.set F.RED_HB_STAT.MISS 0).set F.RED_HB_STAT.LAST (h.tick % 2 ^ 24)

/-- A FAR_FED frame begins a path swap when the tick before carried none (R388). -/
def State.farSeen (s : State) (h : TickHdr) : State :=
  if !h.farFed then s
  else
    let new := match s.red.farAt with
      | some t => t != h.tick && decide (1 < tickDist t h.tick)
      | none => true
    let s := { s with red := { s.red with farAt := some h.tick } }
    if new then s.takeoverBudget s.ctl.grid.links else s

/-- A valid frame of the active Basin at a standby. -/
def State.standbyFrame (s : State) (port : Nat) (f : TickFrame) : State :=
  let s := { s with lnk := { s.lnk with tickPort := some port } }
  let s := ((s.heartbeat f.hdr).keepHeader f.hdr).farSeen f.hdr
  let s := (s.seeSeqs f).compare f
  if port == f.chain && !f.relayed then s.modChain f.chain (fun x => { x with frameAt := some f.hdr.tick }) else s

/-- A far Basin passes on the far copy of another chain's frame (R260). -/
def State.relayTick (s : State) (port : Nat) (f : TickFrame) : State :=
  if f.relayed || f.chain == port || !decide (f.chain < 12) || !s.claimOk f.hdr then s
  else
    let s := { s with lnk := { s.lnk with relayed := s.lnk.relayed.filter (fun (x : Nat × Nat) => x.1 != f.chain) ++ [(f.chain, s.tickNow)] } }
    if s.portUp f.chain then s.sendFrame f.chain (.tick { f with relayed := true }) else s

/-- A frame of the other Basin, by this one's role: an ACTIVE Basin gives way to a higher key (R382), an electing one becomes STANDBY (R383). -/
def State.peerFrame (s : State) (port : Nat) (f : TickFrame) (crcOk : Bool) : State :=
  let h := f.hdr
  let role := s.get F.RED_CLAIM.ROLE
  if role == roleActive then
    if crcOk && keyHigher h.claim h.side (s.get F.RED_CLAIM.CLAIM) s.side then ((s.demote h.claim h.side).swapsEnd).standbyFrame port f else s
  else if role == roleElecting then
    if crcOk && s.pwr.step8 && s.paired then (s.electStandby h.claim).standbyFrame port f else s
  else if role == roleStandby && s.claimOk h then
    let s := s.relayTick port f
    if crcOk then s.standbyFrame port f else s
  else s

/-- A Basin's own frame that came through a whole chain to its far port (R257). -/
def State.ownFrame (s : State) (port : Nat) (f : TickFrame) : State :=
  if s.get F.RED_CLAIM.ROLE == roleLone && port == f.chain + 6 then s.modChain f.chain (fun x => { x with frameAt := some f.hdr.tick }) else s

/-- HEARTBEAT (R240, R257, R260, R382 to R384, R391): a TICK frame at a Basin's port; its header is acted on once its HDR_CRC matches. -/
def execHeartbeat (dt : Nat) (port : Fin 12) (bs : List Block) (s : State) : Out := onBasin s fun s =>
  let h := hear bs
  let s := (s.advance dt).hearFrame port h
  let f := tickOf h.bytes
  if ftypeOf h.bytes != ftTICK || !hdrOk h.bytes || !decide (f.chain < 12) then s
  else if f.hdr.side == s.side then (if h.good then s.ownFrame port f else s)
  else s.peerFrame port f h.good

/-! ### Missed heartbeats (R384, R385) -/

/-- The third miss: takeover, or what forbids it. The slots of the shadow for the coming boundary leave at once. -/
def State.thirdMiss (s : State) : State :=
  if s.upPorts.isEmpty then s.raise Ev.ISOLATED [s.get F.RED_HB_STAT.MISS]
  else if s.flag F.RED_CTRL.AUTO && s.mayTake then
    let slots := s.red.slots
    let ready := s.red.slotsFor == tickSucc s.tickNow
    let s := (s.takeOver 0).set F.CTL_STATUS.TICK_RUN 1
    if ready then s.dispatch slots else s
  else s.takeInhibited

/-- HB_MISS (R384, R385): the heartbeat of the coming boundary has not come within WAIT of the last one. -/
def execHbMiss (dt : Nat) (s : State) : Out := onBasin s fun s =>
  let s := s.advance dt
  if s.get F.RED_CLAIM.ROLE != roleStandby || !s.red.hbEver || s.red.hbGot || s.tickNow == 0 ||
      decide (s.time.ext < s.ctl.bound + 10 * s.get F.RED_HB_CFG.WAIT) then s
  else
    let s := { s with red := { s.red with hbGot := true } }.inc F.RED_HB_STAT.MISS
    let n := s.get F.RED_HB_STAT.MISS
    let s := if n = 1 then s.raise Ev.HB_MISS [tickSucc s.tickNow, bitsMask s.upPorts] else s
    if n = 3 then s.thirdMiss else s

end Sys2Proof.Machine
end

