-- ==== Sys2Proof/Machine/Dispatch.lean ====
section
/-! DEFINITION. Dispatch.lean: one arm per command, each a direct call of its meaning. -/
namespace Sys2Proof.Machine

def exec (i : Instr) (s : State) : Host.Outcome State Fault Refusal :=
  match i with
  | .porstNAssert => Sys2Proof.Machine.execPorstNAssert s
  | .porstNRelease b => Sys2Proof.Machine.execPorstNRelease b s
  | .hostWaitExpiry dt => Sys2Proof.Machine.execHostWaitExpiry dt s
  | .brownOut rail => Sys2Proof.Machine.execBrownOut rail s
  | .aonPowerOn => Sys2Proof.Machine.execAonPowerOn s
  | .resetNAssert dt => Sys2Proof.Machine.execResetNAssert dt s
  | .resetNRelease dt => Sys2Proof.Machine.execResetNRelease dt s
  | .resetStuck dt => Sys2Proof.Machine.execResetStuck dt s
  | .resetReleased dt => Sys2Proof.Machine.execResetReleased dt s
  | .softwareReset v => Sys2Proof.Machine.execSoftwareReset v s
  | .registerWrite dt off len ws w => Sys2Proof.Machine.execRegisterWrite dt off len ws w s
  | .gatherStart dt => Sys2Proof.Machine.execGatherStart dt s
  | .gatherDeadline dt grid => Sys2Proof.Machine.execGatherDeadline dt grid s
  | .cellLost dt sp => Sys2Proof.Machine.execCellLost dt sp s
  | .cellReturned dt sp => Sys2Proof.Machine.execCellReturned dt sp s
  | .demandHoldExpiry dt slot => Sys2Proof.Machine.execDemandHoldExpiry dt slot s
  | .demandDurationEnd dt slot => Sys2Proof.Machine.execDemandDurationEnd dt slot s
  | .spareInsertFail dt arm spare => Sys2Proof.Machine.execSpareInsertFail dt arm spare s
  | .throttleGraceExpiry dt => Sys2Proof.Machine.execThrottleGraceExpiry dt s
  | .telemLatch dt => Sys2Proof.Machine.execTelemLatch dt s
  | .telemSend dt => Sys2Proof.Machine.execTelemSend dt s
  | .telemRx dt port bs => Sys2Proof.Machine.execTelemRx dt port bs s
  | .tickRx dt port bs => Sys2Proof.Machine.execTickRx dt port bs s
  | .slotDeadline dt => Sys2Proof.Machine.execSlotDeadline dt s
  | .slotApply dt => Sys2Proof.Machine.execSlotApply dt s
  | .tickLoss dt => Sys2Proof.Machine.execTickLoss dt s
  | .dabPeriod dt => Sys2Proof.Machine.execDabPeriod dt s
  | .clear desat => Sys2Proof.Machine.execClear desat s
  | .bypOpen => Sys2Proof.Machine.execBypOpen s
  | .bypClose => Sys2Proof.Machine.execBypClose s
  | .packClose => Sys2Proof.Machine.execPackClose s
  | .packOpen => Sys2Proof.Machine.execPackOpen s
  | .bypFbChange dt level => Sys2Proof.Machine.execBypFbChange dt level s
  | .bypOpenFail dt => Sys2Proof.Machine.execBypOpenFail dt s
  | .bypCloseFail dt => Sys2Proof.Machine.execBypCloseFail dt s
  | .packFbChange dt level => Sys2Proof.Machine.execPackFbChange dt level s
  | .packFail dt => Sys2Proof.Machine.execPackFail dt s
  | .winExit dt j v sub => Sys2Proof.Machine.execWinExit dt j v sub s
  | .winReturn j v => Sys2Proof.Machine.execWinReturn j v s
  | .desatFault dt n hi desat sub => Sys2Proof.Machine.execDesatFault dt n hi desat sub s
  | .readyLoss dt n hi sub => Sys2Proof.Machine.execReadyLoss dt n hi sub s
  | .readyTimeout dt n => Sys2Proof.Machine.execReadyTimeout dt n s
  | .multiTripWindow dt => Sys2Proof.Machine.execMultiTripWindow dt s
  | .softTurnOff dt n => Sys2Proof.Machine.execSoftTurnOff dt n s
  | .ssdRelease dt n => Sys2Proof.Machine.execSsdRelease dt n s
  | .resumeTest dt n hi desat => Sys2Proof.Machine.execResumeTest dt n hi desat s
  | .retryExpiry dt n => Sys2Proof.Machine.execRetryExpiry dt n s
  | .conflict dt n sub => Sys2Proof.Machine.execConflict dt n sub s
  | .gateTestGo v => Sys2Proof.Machine.execGateTestGo v s
  | .testPulseProgrammeEnd dt => Sys2Proof.Machine.execTestPulseProgrammeEnd dt s
  | .ocpTrip dt a b c => Sys2Proof.Machine.execOcpTrip dt a b c s
  | .weirRxSpring dt port v => Sys2Proof.Machine.execWeirRxSpring dt port v s
  | .weirRxBasin dt port v => Sys2Proof.Machine.execWeirRxBasin dt port v s
  | .weirHoldMax dt arm => Sys2Proof.Machine.execWeirHoldMax dt arm s
  | .weirMemoryExpiry dt => Sys2Proof.Machine.execWeirMemoryExpiry dt s
  | .weirRel v => Sys2Proof.Machine.execWeirRel v s
  | .adcTrigger dt n src vs => Sys2Proof.Machine.execAdcTrigger dt n src vs s
  | .adcSwtrig n vs => Sys2Proof.Machine.execAdcSwtrig n vs s
  | .adcDelayEnd dt n => Sys2Proof.Machine.execAdcDelayEnd dt n s
  | .adcEntryDone dt n convs => Sys2Proof.Machine.execAdcEntryDone dt n convs s
  | .adcRunEnd dt n vs => Sys2Proof.Machine.execAdcRunEnd dt n vs s
  | .selfCalDone dt n offset gains lins => Sys2Proof.Machine.execSelfCalDone dt n offset gains lins s
  | .syscalMeasureDone dt n convs => Sys2Proof.Machine.execSyscalMeasureDone dt n convs s
  | .prechgFail dt => Sys2Proof.Machine.execPrechgFail dt s
  | .sensorConversion dt t0 t1 t2 t3 t4 => Sys2Proof.Machine.execSensorConversion dt t0 t1 t2 t3 t4 s
  | .nop dt q => Sys2Proof.Machine.execNop dt q s
  | .setRef dt q => Sys2Proof.Machine.execSetRef dt q s
  | .setDemand dt q => Sys2Proof.Machine.execSetDemand dt q s
  | .demandRelease dt q => Sys2Proof.Machine.execDemandRelease dt q s
  | .springCmd dt q => Sys2Proof.Machine.execSpringCmd dt q s
  | .tableLoad dt q buf => Sys2Proof.Machine.execTableLoad dt q buf s
  | .tableLoadDone dt q => Sys2Proof.Machine.execTableLoadDone dt q s
  | .tableSwap dt q => Sys2Proof.Machine.execTableSwap dt q s
  | .remoteRead dt q => Sys2Proof.Machine.execRemoteRead dt q s
  | .remoteWrite dt q buf => Sys2Proof.Machine.execRemoteWrite dt q buf s
  | .fenceClear dt q => Sys2Proof.Machine.execFenceClear dt q s
  | .logFreeze dt q => Sys2Proof.Machine.execLogFreeze dt q s
  | .logRead dt q bad => Sys2Proof.Machine.execLogRead dt q bad s
  | .logThaw dt q => Sys2Proof.Machine.execLogThaw dt q s
  | .ledgerRead dt q => Sys2Proof.Machine.execLedgerRead dt q s
  | .timeSet dt q => Sys2Proof.Machine.execTimeSet dt q s
  | .timeOffset dt q => Sys2Proof.Machine.execTimeOffset dt q s
  | .calRun dt q ans mask => Sys2Proof.Machine.execCalRun dt q ans mask s
  | .syscalZero dt q ans p => Sys2Proof.Machine.execSyscalZero dt q ans p s
  | .syscalFull dt q ans p => Sys2Proof.Machine.execSyscalFull dt q ans p s
  | .syscalClear dt q ans p => Sys2Proof.Machine.execSyscalClear dt q ans p s
  | .safetyUnlock dt q => Sys2Proof.Machine.execSafetyUnlock dt q s
  | .safetyCfg dt q buf => Sys2Proof.Machine.execSafetyCfg dt q buf s
  | .streamBuf dt q => Sys2Proof.Machine.execStreamBuf dt q s
  | .streamFlush dt q => Sys2Proof.Machine.execStreamFlush dt q s
  | .energise dt q links => Sys2Proof.Machine.execEnergise dt q links s
  | .deenergise dt q => Sys2Proof.Machine.execDeenergise dt q s
  | .resume dt q => Sys2Proof.Machine.execResume dt q s
  | .sqTailDoorbell q v => Sys2Proof.Machine.execSqTailDoorbell q v s
  | .cqHeadDoorbell q v => Sys2Proof.Machine.execCqHeadDoorbell q v s
  | .descriptorFetch dt b => Sys2Proof.Machine.execDescriptorFetch dt b s
  | .fetchErr dt code => Sys2Proof.Machine.execFetchErr dt code s
  | .completionWrite dt q => Sys2Proof.Machine.execCompletionWrite dt q s
  | .cqCoalTimer dt q => Sys2Proof.Machine.execCqCoalTimer dt q s
  | .msixSend dt v fmask => Sys2Proof.Machine.execMsixSend dt v fmask s
  | .msixUnmask v fmask => Sys2Proof.Machine.execMsixUnmask v fmask s
  | .qpEnable q => Sys2Proof.Machine.execQpEnable q s
  | .qpDisable q => Sys2Proof.Machine.execQpDisable q s
  | .qpDisabled q => Sys2Proof.Machine.execQpDisabled q s
  | .hifWdWrite v => Sys2Proof.Machine.execHifWdWrite v s
  | .hostWdExpired dt => Sys2Proof.Machine.execHostWdExpired dt s
  | .pcieLinkDown => Sys2Proof.Machine.execPcieLinkDown s
  | .pcieFlr => Sys2Proof.Machine.execPcieFlr s
  | .pcieLinkUp speed width cfg => Sys2Proof.Machine.execPcieLinkUp speed width cfg s
  | .cmdBusyExpired dt id => Sys2Proof.Machine.execCmdBusyExpired dt id s
  | .rdReq dt port bs => Sys2Proof.Machine.execRdReq dt port bs s
  | .rdResp dt port bs => Sys2Proof.Machine.execRdResp dt port bs s
  | .wrReq dt port bs w => Sys2Proof.Machine.execWrReq dt port bs w s
  | .wrAck dt port bs => Sys2Proof.Machine.execWrAck dt port bs s
  | .ack dt port bs => Sys2Proof.Machine.execAck dt port bs s
  | .nak dt port bs => Sys2Proof.Machine.execNak dt port bs s
  | .mgmtTimeout dt dest => Sys2Proof.Machine.execMgmtTimeout dt dest s
  | .responseTimeout dt dest mseq => Sys2Proof.Machine.execResponseTimeout dt dest mseq s
  | .enrolReq dt port bs => Sys2Proof.Machine.execEnrolReq dt port bs s
  | .enrolReply dt port bs => Sys2Proof.Machine.execEnrolReply dt port bs s
  | .enrolMismatch dt chain => Sys2Proof.Machine.execEnrolMismatch dt chain s
  | .linkReport dt port bs => Sys2Proof.Machine.execLinkReport dt port bs s
  | .farReport dt port bs => Sys2Proof.Machine.execFarReport dt port bs s
  | .tableChunkBegin dt port bs => Sys2Proof.Machine.execTableChunkBegin dt port bs s
  | .tableChunkData dt port bs => Sys2Proof.Machine.execTableChunkData dt port bs s
  | .tableChunkEnd dt port bs => Sys2Proof.Machine.execTableChunkEnd dt port bs s
  | .tableChunkCommit dt port bs => Sys2Proof.Machine.execTableChunkCommit dt port bs s
  | .tableChunkAbandon dt port bs => Sys2Proof.Machine.execTableChunkAbandon dt port bs s
  | .tableChunkResult dt port bs => Sys2Proof.Machine.execTableChunkResult dt port bs s
  | .record dt port bs => Sys2Proof.Machine.execRecord dt port bs s
  | .health dt port bs => Sys2Proof.Machine.execHealth dt port bs s
  | .healthSend dt => Sys2Proof.Machine.execHealthSend dt s
  | .peerLost dt => Sys2Proof.Machine.execPeerLost dt s
  | .electTimeout dt => Sys2Proof.Machine.execElectTimeout dt s
  | .heartbeat dt port bs => Sys2Proof.Machine.execHeartbeat dt port bs s
  | .hbMiss dt => Sys2Proof.Machine.execHbMiss dt s
  | .hostTakeover => Sys2Proof.Machine.execHostTakeover s
  | .bistSegment dt bad tested failing => Sys2Proof.Machine.execBistSegment dt bad tested failing s
  | .eccCorrected dt bank row => Sys2Proof.Machine.execEccCorrected dt bank row s
  | .sramUncorr dt bank row => Sys2Proof.Machine.execSramUncorr dt bank row s
  | .vaonFeedLost dt feed => Sys2Proof.Machine.execVaonFeedLost dt feed s
  | .vaonFeedOk dt feed => Sys2Proof.Machine.execVaonFeedOk dt feed s
  | .voteExcluded dt g => Sys2Proof.Machine.execVoteExcluded dt g s
  | .degradedWarn dt g => Sys2Proof.Machine.execDegradedWarn dt g s
  | .degradedExpired dt g => Sys2Proof.Machine.execDegradedExpired dt g s
  | .voteRestore dt v => Sys2Proof.Machine.execVoteRestore dt v s
  | .train dt port v => Sys2Proof.Machine.execTrain dt port v s
  | .trainRetry dt port => Sys2Proof.Machine.execTrainRetry dt port s
  | .eiEnter dt port v => Sys2Proof.Machine.execEiEnter dt port v s
  | .linkLoss dt port cause hdrs => Sys2Proof.Machine.execLinkLoss dt port cause hdrs s
  | .clkFallback dt port => Sys2Proof.Machine.execClkFallback dt port s
  | .clkRestore port clean => Sys2Proof.Machine.execClkRestore port clean s
  | .retrain port => Sys2Proof.Machine.execRetrain port s
  | .portLeaveIdle port => Sys2Proof.Machine.execPortLeaveIdle port s
  | .prbsGen port gen errs => Sys2Proof.Machine.execPrbsGen port gen errs s
  | .prbsClear port errs => Sys2Proof.Machine.execPrbsClear port errs s
  | .frameForward dt port bs => Sys2Proof.Machine.execFrameForward dt port bs s
  | .syncInterval dt port => Sys2Proof.Machine.execSyncInterval dt port s
  | .syncRequest dt port bs ago => Sys2Proof.Machine.execSyncRequest dt port bs ago s
  | .syncResponse dt port bs => Sys2Proof.Machine.execSyncResponse dt port bs s
  | .ppsInEdge dt => Sys2Proof.Machine.execPpsInEdge dt s
  | .timeHoldover dt => Sys2Proof.Machine.execTimeHoldover dt s
  | .timeAnchor dt => Sys2Proof.Machine.execTimeAnchor dt s
  | .ppsOut dt => Sys2Proof.Machine.execPpsOut dt s
  | .ppsOutEnd dt => Sys2Proof.Machine.execPpsOutEnd dt s
  | .timeStampRead dt rq => Sys2Proof.Machine.execTimeStampRead dt rq s
  | .pllHoldover p cause => Sys2Proof.Machine.execPllHoldover p cause s
  | .pllRefReturn p src port jump => Sys2Proof.Machine.execPllRefReturn p src port jump s
  | .pllLocked p how us => Sys2Proof.Machine.execPllLocked p how us s
  | .hopSlotStore dt p band med integ => Sys2Proof.Machine.execHopSlotStore dt p band med integ s
  | .pllUnlock p cause => Sys2Proof.Machine.execPllUnlock p cause s
  | .safeClockExit => Sys2Proof.Machine.execSafeClockExit s
  | .pllSearchFail p band => Sys2Proof.Machine.execPllSearchFail p band s
  | .pllSearch p v => Sys2Proof.Machine.execPllSearch p v s
  | .slotClr p => Sys2Proof.Machine.execSlotClr p s
  | .refSrcWrite p v => Sys2Proof.Machine.execRefSrcWrite p v s
  | .refclkBad freq => Sys2Proof.Machine.execRefclkBad freq s
  | .refclkOk freq => Sys2Proof.Machine.execRefclkOk freq s
  | .lockaFault mv => Sys2Proof.Machine.execLockaFault mv s
  | .lockaOk mv => Sys2Proof.Machine.execLockaOk mv s
  | .fpsSat waiting net => Sys2Proof.Machine.execFpsSat waiting net s
  | .safeInChange dt filt raw => Sys2Proof.Machine.execSafeInChange dt filt raw s
  | .guardInChange dt g => Sys2Proof.Machine.execGuardInChange dt g s
  | .guardDiscrepancy dt => Sys2Proof.Machine.execGuardDiscrepancy dt s
  | .safeOutOff dt => Sys2Proof.Machine.execSafeOutOff dt s
  | .outEn => Sys2Proof.Machine.execOutEn s
  | .hostOff => Sys2Proof.Machine.execHostOff s
  | .safetyLock => Sys2Proof.Machine.execSafetyLock s
  | .safetyRelockTimeout dt => Sys2Proof.Machine.execSafetyRelockTimeout dt s
  | .authLockoutEnd dt => Sys2Proof.Machine.execAuthLockoutEnd dt s
  | .safeFbChange dt hs ls => Sys2Proof.Machine.execSafeFbChange dt hs ls s
  | .safeFbFault dt k => Sys2Proof.Machine.execSafeFbFault dt k s
  | .testPulseStart dt => Sys2Proof.Machine.execTestPulseStart dt s
  | .testPulseEnd dt => Sys2Proof.Machine.execTestPulseEnd dt s
  | .safeOutDegraded dt k => Sys2Proof.Machine.execSafeOutDegraded dt k s
  | .safetyPduTx dt => Sys2Proof.Machine.execSafetyPduTx dt s
  | .safetyPduRx dt unit f => Sys2Proof.Machine.execSafetyPduRx dt unit f s
  | .pduTimeout dt => Sys2Proof.Machine.execPduTimeout dt s
  | .canFrameRx dt n f ago exc tec rec => Sys2Proof.Machine.execCanFrameRx dt n f ago exc tec rec s
  | .bmsStale dt => Sys2Proof.Machine.execBmsStale dt s
  | .canTxreq dt n v => Sys2Proof.Machine.execCanTxreq dt n v s
  | .canTxDone dt n ago tdcv tec rec => Sys2Proof.Machine.execCanTxDone dt n ago tdcv tec rec s
  | .canTxAttemptFail dt n ago bit lec dlec tdcv tec rec => Sys2Proof.Machine.execCanTxAttemptFail dt n ago bit lec dlec tdcv tec rec s
  | .canTxcan dt n v sof => Sys2Proof.Machine.execCanTxcan dt n v sof s
  | .canState dt n st tec rec => Sys2Proof.Machine.execCanState dt n st tec rec s
  | .recReq n => Sys2Proof.Machine.execRecReq n s
  | .busOffRecovery dt n => Sys2Proof.Machine.execBusOffRecovery dt n s
  | .canInitClear n => Sys2Proof.Machine.execCanInitClear n s
  | .elementLock dt n w rq => Sys2Proof.Machine.execElementLock dt n w rq s
  | .elementRelease n w rq => Sys2Proof.Machine.execElementRelease n w rq s
  | .lockTimeout dt n w => Sys2Proof.Machine.execLockTimeout dt n w s
  | .referenceMessage dt n => Sys2Proof.Machine.execReferenceMessage dt n s
  | .packRecRead => Sys2Proof.Machine.execPackRecRead s
  | .recordCommit dt => Sys2Proof.Machine.execRecordCommit dt s
  | .rateSummary dt code => Sys2Proof.Machine.execRateSummary dt code s
  | .freezeTimeout dt => Sys2Proof.Machine.execFreezeTimeout dt s
  | .eraseFirst => Sys2Proof.Machine.execEraseFirst s
  | .format => Sys2Proof.Machine.execFormat s
  | .norBlockBad dt lb k cause => Sys2Proof.Machine.execNorBlockBad dt lb k cause s
  | .nvmSag dt => Sys2Proof.Machine.execNvmSag dt s
  | .nvmSagEnd dt => Sys2Proof.Machine.execNvmSagEnd dt s
  | .ledgerPeriodic dt => Sys2Proof.Machine.execLedgerPeriodic dt s
  | .eInLatchRead => Sys2Proof.Machine.execEInLatchRead s
  | .withdraw sp => Sys2Proof.Machine.execWithdraw sp s
  | .return sp => Sys2Proof.Machine.execReturn sp s
  | .commandedEdge dt c sub => Sys2Proof.Machine.execCommandedEdge dt c sub s
  | .blockLock dt port => Sys2Proof.Machine.execBlockLock dt port s
  | .readyInputHigh n => Sys2Proof.Machine.execReadyInputHigh n s
  | .ocpChannelChange dt a b c => Sys2Proof.Machine.execOcpChannelChange dt a b c s
  | .slotRelockTimeout p => Sys2Proof.Machine.execSlotRelockTimeout p s
  | .firstFullSearch => Sys2Proof.Machine.execFirstFullSearch s

end Sys2Proof.Machine
end

