-- ==== Sys2Proof/Machine/Pins.lean ====
section
/-! DEFINITION. Pins.lean: the levels of the output balls of the power stage, the safety circuit, PPS and the NOR reset (R33, R406, R556, R557, R565). -/
namespace Sys2Proof.Machine

/-- The device drives its balls from its blocks: in a full reset the clamp and the pulls hold every one (R33, R152, R556). -/
def State.drives (s : State) (r : Role) : Bool := s.role == r && !s.pwr.full

/-- HBn_HI or HBn_LO; held low in a Basin (R554, R565). -/
def State.ballGate (s : State) (n : Nat) (hi : Bool) : Bool := s.drives .spring && ((s.hb n).ch hi).onAtBall (s.now 0)

/-- HBn_SSD_HI or HBn_SSD_LO. -/
def State.ballSsd (s : State) (n : Nat) (hi : Bool) : Bool := s.drives .spring && ((s.hb n).ch hi).ssd

/-- BYP_CMD and PACK_CTR, high to energise. -/
def State.ballBypCmd (s : State) : Bool := s.drives .spring && s.gate.bypCmd
def State.ballPackCtr (s : State) : Bool := s.drives .spring && s.gate.packCmd

/-- SAFE_HS and SAFE_LS, high to switch on; driven low in a Spring (R406). -/
def State.ballSafeHs (s : State) : Bool := s.drives .basin && s.flag F.SAFE_STAT.HS
def State.ballSafeLs (s : State) : Bool := s.drives .basin && s.flag F.SAFE_STAT.LS

/-- PPS_OUT, low in every reset (R33, R278). -/
def State.ballPpsOut (s : State) : Bool := !s.pwr.full && !s.pwr.warm && s.ppsOut

/-- XSPI_RST_N of a Basin: low for the 10 microseconds of R557, high at every other time. -/
def State.ballXspiRstN (s : State) : Bool := !(s.drives .basin && s.xspiRstLow)

end Sys2Proof.Machine
end

