-- ==== Sys2Proof/Safety.lean ====
section
/-! DEFINITION. Safety.lean: what counts as a safe state, in the terms the statements use. -/
namespace Sys2Proof.Machine

/-- No channel of a half-bridge drives its gate ball or its SSD ball. -/
def HbSt.low (h : HbSt) : Bool := !h.hi.on && !h.hi.ssd && !h.lo.on && !h.lo.ssd

/-- Every HBn_HI, HBn_LO and HBn_SSD ball is low (R33, R152). -/
def State.gatesLow (s : State) : Bool := s.gate.hbs.all HbSt.low

/-- BYP_CMD and PACK_CTR are de-energised (R33). -/
def State.contactorsOff (s : State) : Bool := !s.gate.bypCmd && !s.gate.packCmd

/-- The levels a full reset holds the power stage's balls at (R33, R152). -/
def State.clamped (s : State) : Bool := s.gatesLow && s.contactorsOff

/-- In full reset the power stage's balls are at the levels of R33. -/
def State.ClampInv (s : State) : Prop := s.pwr.full = true → s.clamped = true

/-- The message RAM of the CAN controllers is in its canonical form. -/
def State.RamInv (s : State) : Prop := ramWf s.can.ram = true

/-! ### What an effect leaves -/

/-- The second state differs from the first in its registers (with the bits of them that the hardware set in this very cycle) and its recorder alone. -/
def State.Recorded (s t : State) : Prop := t = { s with regs := t.regs, w1c := t.w1c, recd := t.recd }

/-- Every register outside a list of offsets reads in the second state as in the first. -/
def State.RegsBut (offs : List Nat) (s t : State) : Prop := ∀ o, o ∉ offs → t.rd o = s.rd o

/-- The registers that raising an event may count in: lost and suppressed records (R473, R477). -/
def recCounters : List Nat := [F.REC_LOST_CNT.COUNT.off, F.REC_SUPP_CNT.COUNT.off]

/-- Registers that the loss of a PLL's reference may change (R300). -/
def pllHoldRegs (p : Pll) : List Nat := [(pState p).off, (pRefOk p).off, (pllF p F.CLK_CNT.HOLD_S F.CLK_CNT.HOLD_L).off] ++ recCounters

/-- Registers that training of a port may change: PLL-S follows the port's clock path (R249, R256, R312). -/
def trainRegs (n : Nat) : List Nat := (F.LNK_PSTAT.STATE n).off :: (F.LNK_PSTAT.PEER_LOCKED n).off :: (F.LNK_PSTAT.CDR n).off :: pllHoldRegs .s

/-- What a burst of 128 TRAIN blocks puts out at a port; nothing while PLL-L holds the lanes off (R249, R307). -/
def State.burstOut (s : State) (p : Nat) : List OutMsg := if s.lanesOff then [] else [.sets p (trainBurst (s.flag (F.LNK_PSTAT.LOCK p)) s.role p)]

/-- Straps, queue and full reset are as before: what no command but the supplies' and PORST_N's touches. -/
def State.Outlives (s t : State) : Prop :=
  t.role = s.role ∧ t.side = s.side ∧ t.boot = s.boot ∧ t.pending = s.pending ∧ t.pwr.full = s.pwr.full

/-! ### Descriptors -/

/-- A descriptor of an opcode that this Basin, out of every reset, carries out next for an SQ: the oldest one fetched, in flight under its own number (R324, R329). -/
def State.Ready (s : State) (q oc : Nat) (x : Infl) : Prop :=
  s.live = true ∧ s.role = .basin ∧ s.host.infl.find? (fun y => y.sq == q && y.d.opcode == oc && y.phase == .fetched) = some x ∧ s.inflAt x.id = some x ∧ x.q < 16

/-- The outcome of an in-flight descriptor is decided: its completion has a status, a reason and a result (R330, R333). -/
def State.Ended (t : State) (id status reason result : Nat) : Prop :=
  ∃ y c, t.inflAt id = some y ∧ y.phase = .done c ∧ c.status = status ∧ c.reason = reason ∧ c.result = result

/-- Registers that a decided completion of a pair may change: CQ_FULL, its event source and the recorder's counters (R325, R339). -/
def cplRegs (q : Nat) : List Nat := [(F.HIF_QP_STAT.CQ_FULL q).off, (F.HIF_EVT_STAT.PEND 0).off] ++ recCounters

/-- This device, out of every reset, receives the blocks of a frame of an FTYPE whole and with its check passed at a port that is UP (R240, R249). -/
def State.HearsFrame (s : State) (p : Nat) (bs : List Block) (ft : Nat) : Prop :=
  s.live = true ∧ s.hasPort p = true ∧ s.portUp p = true ∧ (hear bs).good = true ∧ ftypeOf (hear bs).bytes = ft

/-- It is a MGMT frame, and addressed to this device (R244, R246). -/
def State.Hears (s : State) (p : Nat) (bs : List Block) (m : Mgmt) : Prop := s.HearsFrame p bs ftMGMT ∧ mgmtOf (hear bs).bytes = some m ∧ s.mgmtMine m.addr = true

/-- Error counters a frame's blocks may raise (R237, R239, R265). -/
def hearRegs (p : Nat) : List Nat := [(F.LNK_CRC_ERR.COUNT p).off, (F.LNK_HDR_ERR.COUNT p).off]

/-- A sequenced frame is the next one of its sender (R247, R589). -/
def State.InOrder (s : State) (m : Mgmt) : Prop := m.addr ≠ 0xFD ∧ m.addr ≠ 0xFE ∧ ∃ r, (s.peer m.src).rx = some r ∧ r < 65536 ∧ m.mseq = (r + 1) % 65536

/-- A frame of an operation with a parameter, for an owner, is on its way to a destination: sent and not yet acknowledged, or behind those that are (R247). -/
def State.Underway (t : State) (dest op param : Nat) (o : Owner) : Prop :=
  ∃ y ∈ (t.peer dest).unacked ++ (t.peer dest).waiting, y.m.op = op ∧ y.m.param = param ∧ y.owner = o

/-- A read reaches one register alone and in full: one word over the chain, or a request of the host for that word, one byte of it or two at an even offset (R9). -/
def State.ReadsOne (s : State) (o : Nat) (rq : Option HostRd) : Prop :=
  rq = none ∨ s.role = .basin ∧ ∃ r, rq = some r ∧ r.whole = true ∧ o ≤ r.off ∧ r.off + r.len ≤ o + 4 ∧ (r.len = 1 ∨ r.len = 2 ∧ r.off % 2 = 0 ∨ r.len = 4)

/-- The command record a source's results go to: 0 to 15, and 16 for source 0xFE (R351). -/
def cmdIdx (c : DueCmd) : Nat := if c.src = 0xFE then 16 else c.src

/-- A gate or contactor command has been evaluated with a result: it waits no more, the telemetry's CMD_RES shows the result, and so does its source's
command record, with one more count and the slot's number (R150, R351). -/
def State.CmdDone (t s : State) (c : DueCmd) (res : Nat) : Prop :=
  t.spr.cmd = none ∧ t.spr.cmdRes = res ∧ t.get (F.CTL_CMD_REC.RES (cmdIdx c)) = res ∧ t.get (F.CTL_CMD_REC.SEQ (cmdIdx c)) = c.seq % 65536 ∧
    t.get (F.CTL_CMD_REC.CNT (cmdIdx c)) = (if s.get (F.CTL_CMD_REC.CNT (cmdIdx c)) = 0xFFF then 1 else s.get (F.CTL_CMD_REC.CNT (cmdIdx c)) + 1)

/-! ### Half-bridges -/

/-- A half-bridge is neither TRIPPED, latched nor in soft turn-off: a fault of it is a trip of its own (R126). -/
def State.Untripped (s : State) (n : Nat) : Prop := s.isTripped n = false ∧ s.isLatched n = false ∧ (s.hb n).soft = none

/-- A half-bridge has tripped for a cause: its bit, its cause, its count and its stamp say so (R125, R126). -/
def State.Trip (s t : State) (n cause : Nat) : Prop :=
  t.isTripped n = true ∧ (t.hb n).cause = cause ∧ (t.hb n).tripped = true ∧ (t.hb n).tripAt / 8 = s.time.cyc ∧
    t.get (F.GATE_CNT.TRIP_CNT n) = min (s.get (F.GATE_CNT.TRIP_CNT n) + 1) 0xFFFF ∧ t.get (F.GATE_LAST.STAMP n) = s.stamp

/-! ### Outcomes -/

/-- A step's outcome is a next state. -/
def Goes (o : Host.Outcome State Fault Refusal) : Prop := ∃ t, o = .next t

/-- A step's outcome is a next state of which something holds. -/
def GoesTo (o : Host.Outcome State Fault Refusal) (p : State → Prop) : Prop := ∃ t, o = .next t ∧ p t

end Sys2Proof.Machine
end

