-- ==== Sys2Proof/WellFormed.lean ====
section
/-! DEFINITION. WellFormed.lean: which commands can occur: every field fits the bits the manual gives it in its frame, record or pattern. The effects (Machine/)
are total and answer on ill-formed commands too; nothing in them reads these checks. -/
namespace Sys2Proof

/-- A value of `n` bits. -/
def fits (n v : Nat) : Bool := decide (v < 2 ^ n)

/-- A signed value of `n` bits. -/
def sfits (n : Nat) (v : Int) : Bool := decide (-(2 ^ (n - 1) : Int) ≤ v) && decide (v < 2 ^ (n - 1))

/-- A list of bytes. -/
def bytesWf (l : List Nat) : Bool := l.all (fits 8)

/-- The size of an optional value. -/
def optFits (n : Nat) (o : Option Nat) : Bool := o.all (fits n)

/-- The descriptor's fields (R326). -/
def Desc.wf (d : Desc) : Bool :=
  fits 8 d.opcode && fits 8 d.flags && fits 16 d.tag && fits 16 d.target && fits 32 d.applyTick && fits 32 d.length && fits 64 d.buffer &&
  decide (d.param.length = 40) && bytesWf d.param

/-- The slot's fields (R72). -/
def Slot.wf (x : Slot) : Bool :=
  fits 8 x.mode && sfits 8 x.level && fits 16 x.seq && sfits 16 x.m && fits 24 x.phase && sfits 16 x.pDab && fits 8 x.cmdSrc && fits 8 x.cmdOp &&
  decide (x.cmdParam.length = 14) && bytesWf x.cmdParam

/-- The TICK header's fields (R242); tick 0 does not exist (R39). -/
def TickHdr.wf (h : TickHdr) : Bool :=
  decide (1 ≤ h.tick) && fits 32 h.tick && fits 32 h.bound && fits 16 h.period && fits 16 h.claim && decide (1 ≤ h.nslot) && decide (h.nslot ≤ 16) &&
  fits 5 h.state && fits 12 h.weirHold && fits 16 h.epoch && fits 32 h.weirRstamp && fits 48 h.todSec && fits 30 h.todNs

/-- A TICK frame names its chain and carries NSLOT slots (R240, R242). -/
def TickFrame.wf (f : TickFrame) : Bool :=
  decide (f.chain < 12) && f.hdr.wf && decide (f.slots.length = f.hdr.nslot) && f.slots.all Slot.wf

/-- The telemetry's fields (R74). -/
def Telem.wf (t : Telem) : Bool :=
  decide (t.spring < 192) && fits 32 t.tick && fits 8 t.epoch && fits 16 t.slotSeq && fits 32 t.measStamp && fits 16 t.vDc && sfits 16 t.iStr && fits 16 t.vLv &&
  sfits 16 t.iLv && sfits 16 t.iPack && sfits 16 t.pHb && sfits 16 t.pDab && sfits 16 t.mApplied && sfits 16 t.dabY && fits 8 t.mode && fits 8 t.hbFault &&
  sfits 16 t.tHs && sfits 16 t.tDie && sfits 16 t.tCellMin && sfits 16 t.tCellMax && fits 16 t.soc && fits 16 t.soh && fits 16 t.iChgLim && fits 16 t.iDisLim &&
  fits 16 t.vPackBms && fits 16 t.bmsAge && fits 32 t.eIn && fits 32 t.eOut && fits 16 t.pLimChg && fits 16 t.pLimDis && fits 16 t.bmsFault &&
  fits 16 t.cellStatus && fits 16 t.clipSrc && fits 16 t.evtCount && sfits 32 t.timeErr && fits 16 t.adcFlags && decide (t.sel.length = 4) && t.sel.all (sfits 16)

/-- The MGMT header and its payload of up to 256 bytes (R246). -/
def Mgmt.wf (m : Mgmt) : Bool :=
  fits 8 m.addr && fits 8 m.src && fits 8 m.op && fits 16 m.mseq && fits 8 m.chain && fits 8 m.hop && fits 32 m.param && decide (m.payload.length ≤ 256) &&
  bytesWf m.payload

/-- A SYNC frame's body (R254). -/
def SyncFrame.wf (f : SyncFrame) : Bool :=
  fits 8 f.kind && fits 4 f.port && fits 16 f.sseq && fits 48 f.t2 && fits 48 f.t3 && fits 8 f.mhop && sfits 32 f.terr

/-- A chain frame (R240). -/
def Frame.wf : Frame → Bool
  | .tick f => f.wf
  | .telem t => t.wf
  | .mgmt m => m.wf
  | .sync f => f.wf

/-- A CAN frame: an 11-bit or 29-bit identifier, a DLC of four bits, up to 8 or (FD) 64 bytes; no remote FD frame (R447). -/
def CanFrame.wf (f : CanFrame) : Bool :=
  fits (if f.ide then 29 else 11) f.id && fits 4 f.dlc && decide (f.data.length ≤ (if f.fdf then 64 else 8)) && bytesWf f.data && !(f.fdf && f.rtr)

/-- The payload of an ENROL_REPLY (R253): positions 1 to 16. -/
def EnrolReply.wf (r : EnrolReply) : Bool :=
  decide (r.index < 192) && decide (1 ≤ r.position) && decide (r.position ≤ 16) && fits 5 r.ports && fits 8 r.epoch && fits 32 r.rev && fits 64 r.serial && fits 4 r.straps

/-- A NOR device has at least one 64 KB block, or fails one of the requirements by its number (R490). -/
def NorProbe.wf : NorProbe → Bool
  | .absent => true
  | .unsupported r => fits 8 r
  | .device n => decide (1 ≤ n)

/-- The two boot straps (R526) and the devices found. -/
def BootIn.wf (b : BootIn) : Bool := fits 2 b.boot && b.cs0.wf && b.cs1.wf

/-- Data read from host memory (R327), or one of the four error codes (R328). -/
def HostBuf.wf : HostBuf → Bool
  | .words ws => decide (ws.length ≤ 16384)
  | .failed c => decide (1 ≤ c) && decide (c ≤ 4)

/-- Grid inputs: sixteen controllers (R61), twelve arms, twelve chains at most. -/
def GridIn.wf (g : GridIn) : Bool :=
  decide (g.err.length ≤ 16) && decide (g.ff.length ≤ 16) && decide (g.prot.length ≤ 12) && decide (g.links.length ≤ 12)

/-- Twelve ports' clock lanes (R256). -/
def WrIn.wf (w : WrIn) : Bool := fits 12 w.clean

/-- A block carries 8 data bytes, 7 after a start, at most 7 before an end, or an ordered set's 56 bits (R237). -/
def Block.wf : Block → Bool
  | .data bs => decide (bs.length = 8) && bytesWf bs
  | .start bs => decide (bs.length = 7) && bytesWf bs
  | .term bs => decide (bs.length ≤ 7) && bytesWf bs
  | .oset v => fits 56 v
  | .idle => true
  | .other => true
  | .badHdr => true


/-- A read of BAR0: an offset inside its 256 KB (R9). -/
def HostRd.wf (r : HostRd) : Bool := fits 18 r.off

/-- A command that can occur: its frames, records and values fit their fields. Times, ages and measured values without a stated range are not bounded. -/
def Instr.wf : Instr → Bool
  | .porstNAssert => true
  | .porstNRelease b => b.wf
  | .hostWaitExpiry _ => true
  | .brownOut _ => true
  | .aonPowerOn => true
  | .resetNAssert _ => true
  | .resetNRelease _ => true
  | .resetStuck _ => true
  | .resetReleased _ => true
  | .softwareReset _ => true
  | .registerWrite _ off len ws w => decide (ws.length = len / 4) && decide (off + len ≤ 0x40000) && w.wf
  | .gatherStart _ => true
  | .gatherDeadline _ grid => grid.wf
  | .cellLost _ _ => true
  | .cellReturned _ _ => true
  | .demandHoldExpiry _ _ => true
  | .demandDurationEnd _ _ => true
  | .spareInsertFail _ _ _ => true
  | .throttleGraceExpiry _ => true
  | .telemLatch _ => true
  | .telemSend _ => true
  | .telemRx _ _ bs => bs.all Block.wf
  | .tickRx _ _ bs => bs.all Block.wf
  | .slotDeadline _ => true
  | .slotApply _ => true
  | .tickLoss _ => true
  | .dabPeriod _ => true
  | .clear desat => fits 12 desat
  | .bypOpen => true
  | .bypClose => true
  | .packClose => true
  | .packOpen => true
  | .bypFbChange _ _ => true
  | .bypOpenFail _ => true
  | .bypCloseFail _ => true
  | .packFbChange _ _ => true
  | .packFail _ => true
  | .winExit _ _ _ _ => true
  | .winReturn _ _ => true
  | .desatFault _ _ _ desat _ => fits 12 desat
  | .readyLoss _ _ _ _ => true
  | .readyTimeout _ _ => true
  | .multiTripWindow _ => true
  | .softTurnOff _ _ => true
  | .ssdRelease _ _ => true
  | .resumeTest _ _ _ desat => fits 12 desat
  | .retryExpiry _ _ => true
  | .conflict _ _ _ => true
  | .gateTestGo _ => true
  | .testPulseProgrammeEnd _ => true
  | .ocpTrip _ _ _ _ => true
  | .weirRxSpring _ _ v => fits 56 v
  | .weirRxBasin _ _ v => fits 56 v
  | .weirHoldMax _ _ => true
  | .weirMemoryExpiry _ => true
  | .weirRel _ => true
  | .adcTrigger _ _ src _ => fits 4 src
  | .adcSwtrig _ _ => true
  | .adcDelayEnd _ _ => true
  | .adcEntryDone _ _ _ => true
  | .adcRunEnd _ _ _ => true
  | .selfCalDone _ _ _ gains lins => decide (gains.length ≤ 4) && decide (lins.length ≤ 6)
  | .syscalMeasureDone _ _ _ => true
  | .prechgFail _ => true
  | .sensorConversion _ _ _ _ _ _ => true
  | .nop _ _ => true
  | .setRef _ _ => true
  | .setDemand _ _ => true
  | .demandRelease _ _ => true
  | .springCmd _ _ => true
  | .tableLoad _ _ buf => buf.wf
  | .tableLoadDone _ _ => true
  | .tableSwap _ _ => true
  | .remoteRead _ _ => true
  | .remoteWrite _ _ buf => buf.wf
  | .fenceClear _ _ => true
  | .logFreeze _ _ => true
  | .logRead _ _ bad => bad.all (fun x => fits 16 x.2.1)
  | .logThaw _ _ => true
  | .ledgerRead _ _ => true
  | .timeSet _ _ => true
  | .timeOffset _ _ => true
  | .calRun _ _ _ _ => true
  | .syscalZero _ _ _ p => bytesWf p
  | .syscalFull _ _ _ p => bytesWf p
  | .syscalClear _ _ _ p => bytesWf p
  | .safetyUnlock _ _ => true
  | .safetyCfg _ _ buf => buf.wf
  | .streamBuf _ _ => true
  | .streamFlush _ _ => true
  | .energise _ _ links => decide (links.length ≤ 12)
  | .deenergise _ _ => true
  | .resume _ _ => true
  | .sqTailDoorbell _ _ => true
  | .cqHeadDoorbell _ _ => true
  | .descriptorFetch _ b => decide (b.length = 64) && bytesWf b
  | .fetchErr _ code => decide (1 ≤ code) && decide (code ≤ 4)
  | .completionWrite _ _ => true
  | .cqCoalTimer _ _ => true
  | .msixSend _ _ _ => true
  | .msixUnmask _ _ => true
  | .qpEnable _ => true
  | .qpDisable _ => true
  | .qpDisabled _ => true
  | .hifWdWrite _ => true
  | .hostWdExpired _ => true
  | .pcieLinkDown => true
  | .pcieFlr => true
  | .pcieLinkUp _ _ cfg => cfg.all (fun x => decide (x.1 < 4096))
  | .cmdBusyExpired _ _ => true
  | .rdReq _ _ bs => bs.all Block.wf
  | .rdResp _ _ bs => bs.all Block.wf
  | .wrReq _ _ bs w => bs.all Block.wf && w.wf
  | .wrAck _ _ bs => bs.all Block.wf
  | .ack _ _ bs => bs.all Block.wf
  | .nak _ _ bs => bs.all Block.wf
  | .mgmtTimeout _ dest => fits 8 dest
  | .responseTimeout _ dest mseq => fits 8 dest && fits 16 mseq
  | .enrolReq _ _ bs => bs.all Block.wf
  | .enrolReply _ _ bs => bs.all Block.wf
  | .enrolMismatch _ _ => true
  | .linkReport _ _ bs => bs.all Block.wf
  | .farReport _ _ bs => bs.all Block.wf
  | .tableChunkBegin _ _ bs => bs.all Block.wf
  | .tableChunkData _ _ bs => bs.all Block.wf
  | .tableChunkEnd _ _ bs => bs.all Block.wf
  | .tableChunkCommit _ _ bs => bs.all Block.wf
  | .tableChunkAbandon _ _ bs => bs.all Block.wf
  | .tableChunkResult _ _ bs => bs.all Block.wf
  | .record _ _ bs => bs.all Block.wf
  | .health _ _ bs => bs.all Block.wf
  | .healthSend _ => true
  | .peerLost _ => true
  | .electTimeout _ => true
  | .heartbeat _ _ bs => bs.all Block.wf
  | .hbMiss _ => true
  | .hostTakeover => true
  | .bistSegment _ bad tested failing => optFits 16 bad && fits 12 tested && fits 12 failing
  | .eccCorrected _ _ row => fits 16 row
  | .sramUncorr _ _ row => fits 16 row
  | .vaonFeedLost _ _ => true
  | .vaonFeedOk _ _ => true
  | .voteExcluded _ _ => true
  | .degradedWarn _ _ => true
  | .degradedExpired _ _ => true
  | .voteRestore _ _ => true
  | .train _ _ v => fits 56 v
  | .trainRetry _ _ => true
  | .eiEnter _ _ v => fits 56 v
  | .linkLoss _ _ _ _ => true
  | .clkFallback _ _ => true
  | .clkRestore _ _ => true
  | .retrain _ => true
  | .portLeaveIdle _ => true
  | .prbsGen _ _ _ => true
  | .prbsClear _ _ => true
  | .frameForward _ _ bs => bs.all Block.wf
  | .syncInterval _ _ => true
  | .syncRequest _ _ bs _ => bs.all Block.wf
  | .syncResponse _ _ bs => bs.all Block.wf
  | .ppsInEdge _ => true
  | .timeHoldover _ => true
  | .timeAnchor _ => true
  | .ppsOut _ => true
  | .ppsOutEnd _ => true
  | .timeStampRead _ rq => rq.all HostRd.wf
  | .pllHoldover _ cause => decide (cause < 2)
  | .pllRefReturn _ _ _ _ => true
  | .pllLocked _ how _ => decide (how < 3)
  | .hopSlotStore _ _ _ _ _ => true
  | .pllUnlock _ cause => decide (cause < 2)
  | .safeClockExit => true
  | .pllSearchFail _ _ => true
  | .pllSearch _ _ => true
  | .slotClr _ => true
  | .refSrcWrite _ _ => true
  | .refclkBad freq => fits 32 freq
  | .refclkOk _ => true
  | .lockaFault mv => fits 16 mv
  | .lockaOk mv => fits 16 mv
  | .fpsSat _ _ => true
  | .safeInChange _ _ _ => true
  | .guardInChange _ _ => true
  | .guardDiscrepancy _ => true
  | .safeOutOff _ => true
  | .outEn => true
  | .hostOff => true
  | .safetyLock => true
  | .safetyRelockTimeout _ => true
  | .authLockoutEnd _ => true
  | .safeFbChange _ _ _ => true
  | .safeFbFault _ _ => true
  | .testPulseStart _ => true
  | .testPulseEnd _ => true
  | .safeOutDegraded _ _ => true
  | .safetyPduTx _ => true
  | .safetyPduRx _ _ f => f.wf
  | .pduTimeout _ => true
  | .canFrameRx _ _ f _ _ _ _ => f.wf
  | .bmsStale _ => true
  | .canTxreq _ _ _ => true
  | .canTxDone _ _ _ tdcv _ _ => optFits 32 tdcv
  | .canTxAttemptFail _ _ _ _ _ _ _ _ _ => true
  | .canTxcan _ _ _ _ => true
  | .canState _ _ _ _ _ => true
  | .recReq _ => true
  | .busOffRecovery _ _ => true
  | .canInitClear _ => true
  | .elementLock _ _ _ rq => rq.all HostRd.wf
  | .elementRelease _ _ rq => rq.all HostRd.wf
  | .lockTimeout _ _ _ => true
  | .referenceMessage _ _ => true
  | .packRecRead => true
  | .recordCommit _ => true
  | .rateSummary _ code => fits 16 code
  | .freezeTimeout _ => true
  | .eraseFirst => true
  | .format => true
  | .norBlockBad _ lb _ _ => fits 16 lb
  | .nvmSag _ => true
  | .nvmSagEnd _ => true
  | .ledgerPeriodic _ => true
  | .eInLatchRead => true
  | .withdraw _ => true
  | .return _ => true
  | .commandedEdge _ _ _ => true
  | .blockLock _ _ => true
  | .readyInputHigh _ => true
  | .ocpChannelChange _ _ _ _ => true
  | .slotRelockTimeout _ => true
  | .firstFullSearch => true

end Sys2Proof
end

