-- ==== Sys2Proof/Certificates/Slice0/Obligations.lean ====
section
/-! DEFINITION. Obligations.lean: the statements for the provers. -/
open Sys2Proof Sys2Proof.Machine

/-- One step takes the front command: its effect on the state with the queue's rest (the model's own queue, log entry 1). -/
def Obligations.StepRunsFrontCommand : Prop :=
  ∀ (c : Instr) (s : State) (rest : List Instr), Sys2Proof.Machine.step { s with pending := c :: rest } = Sys2Proof.Machine.exec c { s with pending := rest }

/-- On an empty queue a step leaves the state as it is (DESIGN CHOICE, log entry 1). -/
def Obligations.EmptyQueueIdles : Prop := ∀ s : State, s.pending = [] → Sys2Proof.Machine.step s = .next s

/-- Every step answers a next state, whose queue is the old one's rest. -/
def Obligations.EveryStepAnswersAndConsumesOne : Prop :=
  ∀ s : State, ∃ t : State, Sys2Proof.Machine.step s = .next t ∧ t.pending = s.pending.tail

/-- R1: the straps are taken at the release of PORST_N; every other command keeps the role, the side and the boot code. -/
def Obligations.StrapsOnlyAtRelease : Prop :=
  ∀ s t : State, Sys2Proof.Machine.step s = .next t →
    (∀ (b : BootIn) (rest : List Instr), s.pending = .porstNRelease b :: rest → t.role = b.role ∧ t.side = b.side ∧ t.boot = b.boot % 4) ∧
    ((∀ b : BootIn, s.pending.head? ≠ some (.porstNRelease b)) → t.role = s.role ∧ t.side = s.side ∧ t.boot = s.boot)

/-- R33 and R152: whatever command is taken, a device in full reset holds the balls of its power stage at their reset levels. -/
def Obligations.StepKeepsClamp : Prop := ∀ s t : State, s.ClampInv → Sys2Proof.Machine.step s = .next t → t.ClampInv

/-- Reset: the power stage low, the registers of R12 at their reset words (strap levels and RAM contents: log entries 2 and 3). -/
def Obligations.ResetState : Prop :=
  State.reset.ClampInv ∧ State.reset.clamped = true ∧ State.reset.pending = [] ∧ State.reset.can.ram = [] ∧ State.reset.RamInv ∧
  State.reset.get F.CTL_TICK_PERIOD.PERIOD = 5000 ∧ State.reset.get F.CMN_PROG.STEP = 2 ∧ State.reset.get F.CLK_PLLS_STAT.STATE = 0 ∧
  State.reset.get F.CTL_STATUS.STATE = 0 ∧ State.reset.get F.RED_CLAIM.ROLE = 0

/-- R525: while full reset lasts only its release ends it, and no other command has an effect but the supplies' own. -/
def Obligations.FullResetHolds : Prop :=
  ∀ (s : State) (c : Instr) (rest : List Instr), s.pwr.full = true → s.pending = c :: rest →
    match c with
    | .porstNRelease b => GoesTo (Sys2Proof.Machine.step s) fun t => t.pwr.full = b.test ∧ t.role = b.role
    | .brownOut _ => GoesTo (Sys2Proof.Machine.step s) fun t => t.pwr.full = true ∧ t.nor.bankA = s.nor.bankA ∧ t.nor.bankB = s.nor.bankB
    | .aonPowerOn => GoesTo (Sys2Proof.Machine.step s) fun t => t.pwr.full = true ∧ t.aon = {}
    | _ => Sys2Proof.Machine.step s = .next { s with pending := rest }

/-- R152, R523 to R526: entering and leaving full reset. -/
def Obligations.SuppliesAndPorst : Prop :=
  (∀ s : State, s.pwr.full = false → GoesTo (exec .porstNAssert s) fun t =>
    t.pwr = { full := true } ∧ t.clamped = true ∧ t.regs = [] ∧ t.aon.cause = 1 ∧ t.aon.eIn = s.aon.eIn ∧ t.aon.eOut = s.aon.eOut ∧ t.aon.epoch = s.aon.epoch ∧
    t.aon.rseq = s.aon.rseq ∧ t.nor = { s.nor with sag := false } ∧ t.role = s.role ∧ t.side = s.side ∧ t.pending = s.pending) ∧
  (∀ (s : State) (rail : Fin 6), GoesTo (exec (.brownOut rail) s) fun t =>
    t.pwr = { full := true } ∧ t.clamped = true ∧ t.regs = [] ∧ t.aon.boRail = rail.val + 1 ∧ (s.pwr.full = false → t.aon.cause = 2) ∧ t.aon.eIn = s.aon.eIn ∧
    t.aon.eOut = s.aon.eOut ∧ t.aon.epoch = s.aon.epoch ∧ t.nor = { s.nor with sag := false } ∧ t.pending = s.pending) ∧
  (∀ s : State, GoesTo (exec .aonPowerOn s) fun t =>
    t.pwr = { full := true } ∧ t.clamped = true ∧ t.regs = [] ∧ t.aon = {} ∧ t.nor = { s.nor with sag := false } ∧ t.pending = s.pending) ∧
  (∀ (s : State) (b : BootIn), GoesTo (exec (.porstNRelease b) s) fun t =>
    t.role = b.role ∧ t.side = b.side ∧ t.boot = b.boot % 4 ∧ t.pwr.full = b.test ∧ t.pending = s.pending ∧
    (b.test = true → t.pwr = { full := true } ∧ t.clamped = true ∧ t.regs = [] ∧ t.recd = {} ∧ t.out = s.out) ∧
    (b.test = false → b.role = .spring → s.aon.seeded = true → t.aon.epoch = (s.aon.epoch + 1) % 256 ∧ t.get F.CTL_SPR_STATUS.EPOCH = (s.aon.epoch + 1) % 256 ∧
      t.get F.CMN_RESET.CAUSE = s.aon.cause % 16 ∧ t.gate = {} ∧ t.get F.CMN_PROG.STEP = 2 ∧ t.get F.CMN_STRAP.ROLE = 1))

/-- R527 to R533: the commands of RESET_N and CMN_SWRST. -/
def Obligations.WarmResets : Prop :=
  (∀ (s : State) (dt : Nat), s.pwr.full = false → s.pwr.warm = false → s.pwr.rstLow = false → GoesTo (exec (.resetNAssert dt) s) fun t =>
    t.pwr.warm = true ∧ t.pwr.rstLow = true ∧ t.pwr.rstAt = s.time.cyc + dt ∧ t.gate.bypCmd = false ∧ t.gate.packCmd = false ∧
    (∀ h ∈ t.gate.hbs, h.soft = none → h.low = true) ∧ t.time.ext = (State.advance dt s).time.ext ∧ t.nor = s.nor ∧ s.Outlives t ∧
    (∀ o, keptReg o = false → o ∉ [F.TIME_STATUS.EPOCH.off, F.CMN_SUPPLY.SAG.off, F.SAFE_STAT.GUARD_TESTED.off, F.CMN_PROG.STEP.off, F.RED_CLAIM.ROLE.off] ++
      (List.range 4).map (fun n => (F.ADC_STAT.CAL_OK n).off) → t.rd o = resetWord s.role s.side o)) ∧
  (∀ (s : State) (dt : Nat), s.pwr.full = false → s.pwr.warm = true → s.pwr.rstLow = true → s.time.cyc + dt - s.pwr.rstAt < s.tStkMax →
    GoesTo (exec (.resetNRelease dt) s) fun t =>
    ∃ u : State, t = s.confine (u.warmResume 3 ((s.time.cyc + dt - s.pwr.rstAt) / 500)) ∧ u.pwr.warm = false ∧ u.pwr.rstLow = false ∧
      u.pwr.highAt = s.time.cyc + dt ∧ u.aon.cause = 3 ∧ u.get F.CMN_RESET.CAUSE = 3 ∧ u.get F.CMN_RESET.WARM_CNT = min (s.get F.CMN_RESET.WARM_CNT + 1) 65535 ∧
      (s.role = .spring → s.aon.seeded = true → u.aon.epoch = (s.aon.epoch + 1) % 256)) ∧
  (∀ (s : State) (dt : Nat), s.pwr.full = false → s.pwr.warm = true → s.pwr.rstLow = true → s.tStk ≤ s.time.cyc + dt - s.pwr.rstAt →
    GoesTo (exec (.resetStuck dt) s) fun t => ∃ (u : State) (d : Nat), t = s.confine ((u.warmResume 5 (d / 500)).raise Ev.RESET_STUCK [d / 500000]) ∧ u.pwr.warm = false ∧
      u.pwr.stuck = true ∧ u.pwr.rstLow = true ∧ u.get F.CMN_RESET.SAFE_HOLD = 1 ∧ u.get F.CMN_RESET.CAUSE = 5 ∧ d = s.time.cyc + dt - s.pwr.rstAt) ∧
  (∀ (s : State) (dt : Nat), s.live = true → s.pwr.stuck = true → s.pwr.rstLow = false → s.pwr.highAt + s.tRel ≤ s.time.cyc + dt →
    GoesTo (exec (.resetReleased dt) s) fun t => t.pwr = { s.pwr with stuck := false } ∧ t.get F.CMN_RESET.SAFE_HOLD = 0 ∧
      t.get F.CMN_RESET.WARM_CNT = s.get F.CMN_RESET.WARM_CNT ∧ s.RegsBut (F.CMN_RESET.SAFE_HOLD.off :: recCounters) t ∧ t.gate = s.gate) ∧
  (∀ (s : State) (v : Word), s.live = true → s.pwr.rstLow = false → v.toNat % 256 = 0xA5 →
    (s.role = .basin ∧ s.energisedRange = true ∨ s.role = .spring ∧ s.anySwitch = true) →
    GoesTo (exec (.softwareReset v) s) fun t => s.Recorded t ∧ s.RegsBut recCounters t) ∧
  (∀ (s : State) (v : Word), s.live = true → s.pwr.rstLow = false → v.toNat % 256 = 0xA5 →
    (s.role = .basin → s.energisedRange = false) → (s.role = .spring → s.anySwitch = false) →
    GoesTo (exec (.softwareReset v) s) fun t => ∃ u : State, t = s.confine (u.warmResume 4 0) ∧ u.pwr.warm = false ∧ u.aon.cause = 4 ∧
      u.get F.CMN_RESET.CAUSE = 4 ∧ u.gate.bypCmd = false ∧ u.gate.packCmd = false) ∧
  (∀ (s : State) (v : Word), s.live = true → v.toNat % 256 ≠ 0xA5 → exec (.softwareReset v) s = .next s)

/-- R294, R297, R302, R304, R309, R310: what the clock block's events write, and that they write nothing else. -/
def Obligations.ClockEvents : Prop :=
  (∀ (s : State) (p : Pll) (cause : Nat), s.pwr.full = false → (s.get (pState p) = 2 ∨ s.get (pState p) = 3 ∨ s.get (pState p) = 5) →
    GoesTo (exec (.pllHoldover p cause) s) fun t => t.get (pState p) = 4 ∧ t.get (pRefOk p) = 0 ∧
      t.get (pllF p F.CLK_CNT.HOLD_S F.CLK_CNT.HOLD_L) = min (s.get (pllF p F.CLK_CNT.HOLD_S F.CLK_CNT.HOLD_L) + 1) (2 ^ (pllF p F.CLK_CNT.HOLD_S F.CLK_CNT.HOLD_L).w - 1) ∧
      s.Recorded t ∧ s.RegsBut ([(pState p).off, F.CLK_CNT.HOLD_S.off] ++ recCounters) t) ∧
  (∀ (s : State) (p : Pll) (cause : Nat), s.pwr.full = false → (s.get (pState p) = 2 ∨ s.get (pState p) = 3 ∨ s.get (pState p) = 5) →
    GoesTo (exec (.pllUnlock p cause) s) fun t =>
      t.get (pState p) = (if (s.relockSlot p (s.selSrc p)).isSome then 1 else 0) ∧ t.get (pSlot p) = (s.relockSlot p (s.selSrc p)).getD 15 % 16 ∧
      (p = .l → t.get F.CLK_CNT.UNLOCK_L = min (s.get F.CLK_CNT.UNLOCK_L + 1) 255 ∧ s.Recorded { t with lanes := s.lanes } ∧ t.lanesOff = true ∧
        s.RegsBut ([F.CLK_CNT.UNLOCK_L.off, (pState .l).off] ++ recCounters) t)) ∧
  (∀ (s : State) (p : Pll), s.pwr.full = false → s.get (pState p) = 1 →
    GoesTo (exec (.slotRelockTimeout p) s) fun t => t.get (pState p) = 0 ∧ t.get (pSlot p) = 15 ∧ s.Recorded t ∧ s.RegsBut [(pState p).off] t) ∧
  (∀ (s : State) (p : Pll) (band : Nat), s.pwr.full = false → s.get (pState p) = 0 → s.clk.firstSearch = true → s.flag F.CLK_REF.BAD = false → 3 ∈ s.pwr.steps →
    GoesTo (exec (.pllSearchFail p band) s) fun t => t.recd = (s.raise Ev.PLL_SEARCH_FAIL [pllNum p, band]).recd ∧ s.Recorded t ∧ s.RegsBut recCounters t) ∧
  (∀ (s : State) (freq : Nat), s.pwr.full = false → s.flag F.CLK_REF.BAD = false → refNear freq = false →
    GoesTo (exec (.refclkBad freq) s) fun t => t.get F.CLK_REF.BAD = 1 ∧ t.get F.CLK_REF.FREQ = s.get F.CLK_REF.FREQ ∧ s.Recorded t ∧
      s.RegsBut (F.CLK_REF.BAD.off :: recCounters) t) ∧
  (∀ (s : State) (freq : Bool), s.pwr.full = false → s.flag F.CLK_REF.BAD = true →
    GoesTo (exec (.refclkOk freq) s) fun t => t.get F.CLK_REF.BAD = 0 ∧ t.get F.CLK_REF.FREQ = b2n freq ∧ s.Recorded t ∧ s.RegsBut (F.CLK_REF.BAD.off :: recCounters) t) ∧
  (∀ (s : State) (mv : Nat), s.pwr.full = false → lockIn mv = false →
    GoesTo (exec (.lockaFault mv) s) fun t => t.get F.CLK_LOCKA.FAULT = 1 ∧ t.get F.CLK_LOCKA.MV = mv % 2 ^ F.CLK_LOCKA.MV.w ∧ s.Recorded t ∧
      s.RegsBut (F.CLK_LOCKA.FAULT.off :: recCounters) t) ∧
  (∀ (s : State) (mv : Nat), s.pwr.full = false → s.flag F.CLK_LOCKA.FAULT = true → lockIn mv = true →
    GoesTo (exec (.lockaOk mv) s) fun t => t.get F.CLK_LOCKA.FAULT = 0 ∧ t.get F.CLK_LOCKA.MV = mv % 2 ^ F.CLK_LOCKA.MV.w ∧ s.Recorded t ∧
      s.RegsBut (F.CLK_LOCKA.FAULT.off :: recCounters) t) ∧
  (∀ s : State, s.pwr.full = false → exec .firstFullSearch s = .next { s with clk := { s.clk with firstSearch := true } }) ∧
  (∀ (s : State) (waiting net : Int), s.pwr.full = false → s.flag F.CLK_PLLS_STAT.ON_SAFE = false → -2147483648 ≤ net → net < 2147483648 →
    GoesTo (exec (.fpsSat waiting net) s) fun t => t.getI F.CLK_FPS.VALUE = net ∧ s.Recorded t ∧ s.RegsBut (F.CLK_FPS.VALUE.off :: recCounters) t ∧
      t.recd = (s.raise Ev.FPS_SAT [sPay waiting, ofSigned 32 net]).recd)

/-- R295 to R303, R305, R308: locks, slots, references and writes of the PLL controls. -/
def Obligations.ClockLocks : Prop :=
  (∀ (s : State) (p : Pll) (src port : Nat) (jump : Int), s.pwr.full = false → s.get (pState p) = 4 → s.selSrc p = (src, port) →
    (match p with | .s => s.clk.waitRefS | .l => s.clk.waitRefL) = false →
    GoesTo (exec (.pllRefReturn p src port jump) s) fun t =>
      t.get (pState p) = (if s.flag F.CLK_PLLS_CTRL.PHASE_MODE then 5 else 2) ∧ t.get (pRefOk p) = 1 ∧ t.get (pSrc p) = src % 2 ^ (pSrc p).w ∧ t.get (pPort p) = port % 2 ^ (pPort p).w ∧
      t.getI F.CLK_PHASE.VALUE = satSigned 32 jump ∧ (s.flag F.CLK_PLLS_CTRL.PHASE_MODE = true → t.getI F.CLK_BO.VALUE = 0) ∧ s.Recorded t ∧
      s.RegsBut ([(pState p).off, F.CLK_PHASE.VALUE.off, F.CLK_BO.VALUE.off] ++ recCounters) t) ∧
  (∀ (s : State) (p : Pll) (how us : Nat), s.pwr.full = false → (s.get (pState p) = 1 ∨ s.get (pState p) = 2 ∨ s.get (pState p) = 5) →
    GoesTo (exec (.pllLocked p how us) s) fun t => ∃ u : State, t = s.confine (((match p with | .s => u | .l => u.retrainAll).setStored p).plls3.bootGo) ∧
      u.get (pState p) = 3 ∧ u.get (pRefOk p) = 1 ∧ u.get (pSrc p) = (s.selSrc p).1 % 2 ^ (pSrc p).w ∧ u.get (pPort p) = (s.selSrc p).2 % 2 ^ (pPort p).w ∧
      s.Recorded u ∧ s.RegsBut ((pState p).off :: recCounters) u) ∧
  (∀ (s : State) (dt : Nat) (p : Pll) (band med : Nat) (integ : Int), s.pwr.full = false → s.get (pState p) = 3 → s.storedAt p + 500000 ≤ s.time.cyc + dt →
    GoesTo (exec (.hopSlotStore dt p band med integ) s) fun t => ∃ n : Nat, n = s.takeSlot p (s.get (pSrc p), s.get (pPort p)) ∧ t.get (pSlot p) = n % 16 ∧
      (n < 8 → t.get (hopValid p n) = 1 ∧ t.get (hopSrc p n) = s.get (pSrc p) % 2 ^ (hopSrc p n).w ∧ t.get (hopPort p n) = s.get (pPort p) % 2 ^ (hopPort p n).w ∧ t.get (hopBand p n) = band % 2 ^ (hopBand p n).w ∧
        t.get (hopMed p n) = med % 2 ^ (hopMed p n).w ∧ t.getI (hopT p n) = s.getI F.THM_STATUS.T_DIE) ∧
      s.RegsBut [(pSlot p).off, (hopValid p n).off, (hopInteg p n).off] t) ∧
  (∀ s : State, s.pwr.full = false → s.flag F.CLK_PLLS_STAT.ON_SAFE = true → s.get F.CLK_PLLS_STAT.STATE = 3 →
    GoesTo (exec .safeClockExit s) fun t => ∃ u : State, t = s.confine u.leaveSafeClock ∧ u = s.set F.CLK_PLLS_STAT.ON_SAFE 0 ∧ (s.role = .spring → t = u)) ∧
  (∀ (s : State) (p : Pll), s.live = true → GoesTo (exec (.slotClr p) s) fun t =>
      t.get (pSlot p) = 15 ∧ (∀ n, n < 8 → t.get (hopValid p n) = 0) ∧ s.RegsBut ((pSlot p).off :: (List.range 8).map (fun n => (hopValid p n).off)) t) ∧
  (∀ (s : State) (p : Pll) (v : Word), s.live = true → v.getLsbD 30 = false → (s.refSrcWrite p (v ||| 0x80000000#32)).clkRefused (s.refSrcWrite p (v ||| 0x80000000#32)).anySwitch = true →
    GoesTo (exec (.pllSearch p v) s) fun t => t = s.confine ((s.refSrcWrite p (v ||| 0x80000000#32)).raise Ev.CLK_CMD_REFUSED [pllCtrl p, (v ||| 0x80000000#32).toNat])) ∧
  (∀ (s : State) (p : Pll) (v : Word), s.live = true → v.getLsbD 30 = false → (s.refSrcWrite p (v ||| 0x80000000#32)).clkRefused (s.refSrcWrite p (v ||| 0x80000000#32)).anySwitch = false →
    GoesTo (exec (.pllSearch p v) s) fun t => ∃ u : State, t = s.confine (match p with | .s => u.enterSafeClock | .l => u.lanesStop) ∧ u.get (pState p) = 0 ∧ u.get (pSlot p) = 15 ∧
      u.clk.firstSearch = true ∧ (s.refSrcWrite p (v ||| 0x80000000#32)).RegsBut [(pState p).off] u) ∧
  (∀ (s : State) (p : Pll) (v : Word), s.live = true → GoesTo (exec (.refSrcWrite p v) s) fun t => ∃ u : State, u = s.writeFields true (pllCtrl p) v.toNat ∧
      (u.selSrc p = s.selSrc p → t = s.confine u) ∧ (u.selSrc p ≠ s.selSrc p → u.selSrc p ≠ (u.get (pSrc p), u.get (pPort p)) → u.get (pState p) = 3 → t.get (pState p) = 4 ∧ t.get (pRefOk p) = 0))

/-- R166 to R171, R174, R175: what triggers, delays and ends do to a unit. Instants count 250 ps; the windows of GO are R311's. -/
def Obligations.ConverterRuns : Prop :=
  (∀ (s : State) (n : Fin 4) (vs : List Int), s.live = true → s.flag (F.ADC_STAT.CAL_BUSY n) = false → s.flag F.CLK_PLLS_STAT.ON_SAFE = false →
    (s.unit n).run = none → n.val < s.adc.units.length → (s.unit n).lastCyc ≠ some (s.now 0 / adcCycle) → s.runEntries n ≠ [] →
    GoesTo (exec (.adcSwtrig n vs) s) fun t => t.get (F.ADC_STAT.RUNNING n) = 1 ∧
      t.get (F.ADC_TRIG_CNT.COUNT n) = min (s.get (F.ADC_TRIG_CNT.COUNT n) + 1) (2 ^ (F.ADC_TRIG_CNT.COUNT n).w - 1) ∧
      s.RegsBut [(F.ADC_STAT.RUNNING n).off, (F.ADC_TRIG_CNT.COUNT n).off] t ∧
      ∃ r, (t.unit n).run = some r ∧ r.entries = s.runEntries n ∧ r.trig = s.adcGet ⟨(F.ADC_TRIG_CFG.DELAY n).off, 0, 32⟩ ∧ r.done = 0 ∧ r.sampling = false ∧ r.held = false ∧
        r.lo = s.now 0 + 40 * (r.trig % 65536) + 100 ∧ r.hi = r.lo + 200) ∧
  (∀ (s : State) (n : Fin 4) (vs : List Int), s.live = true → s.flag (F.ADC_STAT.CAL_BUSY n) = false → s.flag F.CLK_PLLS_STAT.ON_SAFE = false →
    (s.unit n).run = none → n.val < s.adc.units.length → (s.unit n).lastCyc ≠ some (s.now 0 / adcCycle) → s.runEntries n = [] →
    GoesTo (exec (.adcSwtrig n vs) s) fun t => t.get (F.ADC_STAT.RUNNING n) = 0 ∧ (t.unit n).run = none ∧
      t.get (F.ADC_TRIG_CNT.COUNT n) = min (s.get (F.ADC_TRIG_CNT.COUNT n) + 1) (2 ^ (F.ADC_TRIG_CNT.COUNT n).w - 1) ∧
      s.RegsBut [(F.ADC_STAT.RUNNING n).off, (F.ADC_TRIG_CNT.COUNT n).off] t) ∧
  (∀ (s : State) (n : Fin 4) (vs : List Int) (r : AdcRun), s.live = true → s.flag (F.ADC_STAT.CAL_BUSY n) = false → s.flag F.CLK_PLLS_STAT.ON_SAFE = false →
    (s.unit n).run = some r → n.val < s.adc.units.length → (s.unit n).lastCyc ≠ some (s.now 0 / adcCycle) → r.done ≠ r.entries.length → s.adcGet (F.ADC_CTRL.POLICY n) = 0 →
    GoesTo (exec (.adcSwtrig n vs) s) fun t => (t.unit n).run = some r ∧
      (s.flag (F.ADC_STAT.PENDING n) = false → t.get (F.ADC_STAT.PENDING n) = 1 ∧ (t.unit n).pend = some { at' := s.now 0, go := true } ∧
        s.RegsBut [(F.ADC_STAT.RUNNING n).off, (F.ADC_TRIG_CNT.COUNT n).off] t) ∧
      (s.flag (F.ADC_STAT.PENDING n) = true → t.get (F.ADC_TRIG_OVR.COUNT n) = min (s.get (F.ADC_TRIG_OVR.COUNT n) + 1) (2 ^ (F.ADC_TRIG_OVR.COUNT n).w - 1) ∧
        (t.unit n).pend = (s.unit n).pend ∧ s.RegsBut ([(F.ADC_TRIG_OVR.COUNT n).off, (F.ADC_TRIG_CNT.COUNT n).off] ++ recCounters) t)) ∧
  (∀ (s : State) (n : Fin 4) (vs : List Int) (r : AdcRun), s.live = true → s.flag (F.ADC_STAT.CAL_BUSY n) = false → s.flag F.CLK_PLLS_STAT.ON_SAFE = false →
    (s.unit n).run = some r → n.val < s.adc.units.length → (s.unit n).lastCyc ≠ some (s.now 0 / adcCycle) → r.sampling = false → s.adcGet (F.ADC_CTRL.POLICY n) = 1 → s.runEntries n ≠ [] →
    GoesTo (exec (.adcSwtrig n vs) s) fun t => t.get (F.ADC_RESTART_CNT.COUNT n) = min (s.get (F.ADC_RESTART_CNT.COUNT n) + 1) (2 ^ (F.ADC_RESTART_CNT.COUNT n).w - 1) ∧
      t.get (F.ADC_STAT.RUNNING n) = 1 ∧ ∃ r', (t.unit n).run = some r' ∧ r'.entries = s.runEntries n ∧ r'.done = 0 ∧ r'.sampling = false ∧ r'.held = false) ∧
  (∀ (s u : State) (dt age src : Nat) (n : Fin 4) (vs : List Int), u = State.advance dt s → s.live = true → u.flag (F.ADC_STAT.CAL_BUSY n) = false → u.flag F.CLK_PLLS_STAT.ON_SAFE = false →
    u.adcGet (F.ADC_CTRL.TRIG_SRC n) = src → u.sourceAge n src = some age → age < adcCycle → (u.unit n).fired = none →
    (u.unit n).run = none → n.val < u.adc.units.length → (u.unit n).lastCyc ≠ some ((u.now 0 - age) / adcCycle) → u.runEntries n ≠ [] →
    GoesTo (exec (.adcTrigger dt n src vs) s) fun t => t.get (F.ADC_STAT.RUNNING n) = 1 ∧
      t.get (F.ADC_TRIG_CNT.COUNT n) = min (s.get (F.ADC_TRIG_CNT.COUNT n) + 1) (2 ^ (F.ADC_TRIG_CNT.COUNT n).w - 1) ∧
      s.RegsBut [(F.ADC_STAT.RUNNING n).off, (F.ADC_TRIG_CNT.COUNT n).off] t ∧
      ∃ r, (t.unit n).run = some r ∧ r.entries = u.runEntries n ∧ r.done = 0 ∧ r.sampling = false ∧ r.held = false ∧
        r.lo = u.now 0 - age + 40 * (r.trig % 65536) - 10 ∧ r.hi = u.now 0 - age + 40 * (r.trig % 65536) + 10) ∧
  (∀ (s : State) (dt src : Nat) (n : Fin 4) (vs : List Int), s.live = true → (State.advance dt s).adcGet (F.ADC_CTRL.TRIG_SRC n) ≠ src →
    exec (.adcTrigger dt n src vs) s = .next (State.advance dt s)) ∧
  (∀ (s : State) (dt : Nat) (n : Fin 4) (r : AdcRun), s.live = true → n.val < s.adc.units.length → (s.unit n).run = some r → r.sampling = false → r.lo ≤ (State.advance dt s).now 8 →
    GoesTo (exec (.adcDelayEnd dt n) s) fun t => (∃ a, (t.unit n).run = some { r with sampling := true, at' := a } ∧ r.lo ≤ a ∧ (r.lo ≤ r.hi → a ≤ r.hi)) ∧ s.RegsBut [] t) ∧
  (∀ (s : State) (dt : Nat) (n : Fin 4) (r : AdcRun) (vs : List (List Int)), s.live = true → n.val < s.adc.units.length → (s.unit n).run = some r → r.done = r.entries.length →
    (∀ m, m < 4 → (State.advance dt s).adcGet (F.ADC_CTRL.TRIG_SRC m) ≠ 7) → (s.unit n).pend = none → (s.unit n).after = [] → (s.unit n).jobDue = false → s.adc.before = none →
    GoesTo (exec (.adcRunEnd dt n vs) s) fun t => t.get (F.ADC_STAT.RUNNING n) = 0 ∧ t.get (F.ADC_STAT.PENDING n) = 0 ∧ (t.unit n).run = none ∧
      t.get (F.ADC_RUN_CNT.COUNT n) = min (s.get (F.ADC_RUN_CNT.COUNT n) + 1) (2 ^ (F.ADC_RUN_CNT.COUNT n).w - 1) ∧
      s.RegsBut [(F.ADC_STAT.RUNNING n).off, (F.ADC_RUN_CNT.COUNT n).off] t) ∧
  (∀ (s : State) (j : Fin 32) (v : Int), s.pwr.full = false →
    idealCode 0 v ≤ 16 * s.getI (F.ADC_WIN.HIGH j) - 16 * (s.get (F.ADC_WIN.HYST j) : Int) → 16 * s.getI (F.ADC_WIN.LOW j) + 16 * (s.get (F.ADC_WIN.HYST j) : Int) ≤ idealCode 0 v →
    GoesTo (exec (.winReturn j v) s) fun t => (t.get F.ADC_WIN_STAT.OUT).testBit j = false ∧
      (∀ i, i < 32 → i ≠ j.val → (t.get F.ADC_WIN_STAT.OUT).testBit i = (s.get F.ADC_WIN_STAT.OUT).testBit i) ∧ s.RegsBut [F.ADC_WIN_STAT.OUT.off] t)

/-- R329, R333, R360, R478, R479, R487: descriptors carried out at once, and their completions. -/
def Obligations.DescriptorsAtOnce : Prop :=
  (∀ (s : State) (dt : Nat) (q : Fin 16) (x : Infl), s.Ready q 0x00 x → GoesTo (exec (.nop dt q) s) fun t => t.Ended x.id 0x00 0 0 ∧ s.RegsBut (cplRegs x.q) t) ∧
  (∀ (s : State) (dt : Nat) (q : Fin 16) (x : Infl) (m : Nat) (hit : Fence → Bool), s.Ready q 0x20 x →
    m = (if bytesAt x.d.param 0 2 = 0 then 2 ^ x.sq else bytesAt x.d.param 0 2) →
    (∀ f : Fence, hit f = (m.testBit f.q && decide (f.fetched ≤ x.id) && decide (f.cyc < s.time.cyc + dt) && (x.d.target == 0xFFFFFFFF || f.spring == x.d.target))) →
    GoesTo (exec (.fenceClear dt q) s) fun t => t.host.fences = s.host.fences.filter (fun f => !hit f) ∧
      t.Ended x.id (if (s.host.fences.filter hit).length = 0 then 0x01 else 0x00) 0 (s.host.fences.filter hit).length ∧ s.RegsBut (cplRegs x.q) t) ∧
  (∀ (s : State) (dt : Nat) (q : Fin 16) (x : Infl), s.Ready q 0x28 x → s.recStopped = false →
    GoesTo (exec (.logFreeze dt q) s) fun t => t.recd.frozen = true ∧ t.recd.frozenAt = s.time.cyc + dt ∧ t.Ended x.id 0x00 0 s.recd.lastSeq ∧ s.RegsBut (cplRegs x.q) t) ∧
  (∀ (s : State) (dt : Nat) (q : Fin 16) (x : Infl), s.Ready q 0x28 x → s.recStopped = true →
    GoesTo (exec (.logFreeze dt q) s) fun t => t.recd.frozen = s.recd.frozen ∧ t.Ended x.id 0x00 0 s.recd.lastSeq ∧ s.RegsBut (cplRegs x.q) t) ∧
  (∀ (s : State) (dt : Nat) (q : Fin 16) (x : Infl), s.Ready q 0x2A x → s.recd.frozen = true → s.recd.erasePending = false →
    GoesTo (exec (.logThaw dt q) s) fun t => t.recd.frozen = false ∧ t.Ended x.id 0x00 0 s.recd.lostInFreeze ∧ s.RegsBut (cplRegs x.q) t) ∧
  (∀ (s : State) (dt : Nat) (q : Fin 16) (x : Infl), s.Ready q 0x2A x → s.recd.frozen = true → s.recd.erasePending = true →
    GoesTo (exec (.logThaw dt q) s) fun t => t.Ended x.id 0x00 0 s.recd.lostInFreeze ∧
      ∃ u : State, u = { State.advance dt s with recd := { s.recd with frozen := false, lostInFreeze := 0 } } ∧ t = s.confine (u.eraseFirst.settle x.id 0x00 0 s.recd.lostInFreeze 0 0)) ∧
  (∀ (s : State) (dt : Nat) (q : Fin 16) (x : Infl), s.Ready q 0x2A x → s.recd.frozen = false →
    GoesTo (exec (.logThaw dt q) s) fun t => t.Ended x.id 0x01 0 0 ∧ s.RegsBut (cplRegs x.q) t) ∧
  (∀ (s : State) (dt : Nat) (q : Fin 16) (bad : List (Nat × Nat × Nat)) (x : Infl), s.Ready q 0x29 x → s.norUsable = false →
    GoesTo (exec (.logRead dt q bad) s) fun t => t.Ended x.id 0x11 0x0E 0 ∧ s.RegsBut (cplRegs x.q) t) ∧
  (∀ (s : State) (dt : Nat) (q : Fin 16) (bad : List (Nat × Nat × Nat)) (x : Infl) (start skip : Nat) (all good : List EvRec) (failed : List (Nat × Nat)) (early : Bool),
    s.Ready q 0x29 x → s.norUsable = true → all = s.areaRecs (bytesAt x.d.param 0 1) → start = bytesAt x.d.param 4 4 →
    skip = (if start = 0xFFFFFFFF then 0 else (all.takeWhile (fun r => decide (r.seq < start))).length) →
    (early = true ↔ start ≠ 0xFFFFFFFF ∧ ∃ r, all.head? = some r ∧ start < r.seq) → readRecs bad skip (x.d.length / 64) (all.drop skip) = (good, failed) →
    GoesTo (exec (.logRead dt q bad) s) fun t =>
      t.Ended x.id (if good.isEmpty then 0x01 else 0x00) (((good.getLast?).map (fun r => (r.seq + 1) % 2 ^ 32)).getD start)
        (good.length + 2 ^ 31 * b2n early + 2 ^ 30 * b2n (!failed.isEmpty)) ∧
      (good ≠ [] → OutMsg.hostWrite x.d.buffer (good.flatMap evBytes) ∈ t.out) ∧ t.nor = s.nor ∧ s.RegsBut (cplRegs x.q) t) ∧
  (∀ (s : State) (dt : Nat) (q : Fin 16) (x : Infl), s.Ready q 0x2B x → s.norUsable = false →
    GoesTo (exec (.ledgerRead dt q) s) fun t => t.Ended x.id 0x11 0x0E 0 ∧ s.RegsBut (cplRegs x.q) t) ∧
  (∀ (s : State) (dt : Nat) (q : Fin 16) (x : Infl) (start : Nat) (all good : List LedgerRec) (early : Bool), s.Ready q 0x2B x → s.norUsable = true →
    start = bytesAt x.d.param 4 4 → all = s.nor.ledger.flatten → good = (if start = 0xFFFFFFFF then all else all.filter (fun r => decide (start ≤ r.lseq))).take (x.d.length / 64) →
    (early = true ↔ start ≠ 0xFFFFFFFF ∧ ∃ r, all.head? = some r ∧ start < r.lseq) →
    GoesTo (exec (.ledgerRead dt q) s) fun t =>
      (∀ r, good.getLast? = some r → t.nor.ledgerRd = max s.nor.ledgerRd r.lseq ∧ OutMsg.hostWrite x.d.buffer (good.flatMap ledgerFull) ∈ t.out ∧
        t.Ended x.id 0x00 ((r.lseq + 1) % 2 ^ 32) (good.length + 2 ^ 31 * b2n early)) ∧
      (good.getLast? = none → t.nor = s.nor ∧ t.Ended x.id 0x01 start 0) ∧ s.RegsBut (cplRegs x.q) t)

/-- R50 to R56, R272, R413, R542, R543: into the apply queue for tick A, or STALE_TICK. -/
def Obligations.DescriptorsQueued : Prop :=
  (∀ (s : State) (dt : Nat) (q : Fin 16) (x : Infl) (a : Nat), s.Ready q 0x01 x → refIds.contains (bytesAt x.d.param 0 1) = true → applyTick s.nextTick x.d.applyTick = some a →
    GoesTo (exec (.setRef dt q) s) fun t => t.inflAt x.id = some { x with due := a, phase := .queued a } ∧ t.regs = s.regs ∧ t.recd = s.recd) ∧
  (∀ (s : State) (dt : Nat) (q : Fin 16) (x : Infl), s.Ready q 0x01 x → refIds.contains (bytesAt x.d.param 0 1) = false →
    GoesTo (exec (.setRef dt q) s) fun t => t.Ended x.id 0x32 0 0) ∧
  (∀ (s : State) (dt : Nat) (q : Fin 16) (x : Infl) (a : Nat), s.Ready q 0x03 x → bytesAt x.d.param 0 1 ≠ 0 → applyTick s.nextTick x.d.applyTick = some a →
    GoesTo (exec (.springCmd dt q) s) fun t => t.inflAt x.id = some { x with due := a, phase := .queued a } ∧ t.regs = s.regs ∧ t.recd = s.recd) ∧
  (∀ (s : State) (dt : Nat) (q : Fin 16) (x : Infl) (a : Nat), s.Ready q 0x51 x → applyTick s.nextTick x.d.applyTick = some a →
    GoesTo (exec (.deenergise dt q) s) fun t => t.inflAt x.id = some { x with due := a, phase := .queued a } ∧ t.regs = s.regs ∧ t.recd = s.recd) ∧
  (∀ (s : State) (dt : Nat) (q : Fin 16) (x : Infl) (a : Nat), s.Ready q 0x52 x → applyTick s.nextTick x.d.applyTick = some a →
    GoesTo (exec (.resume dt q) s) fun t => t.inflAt x.id = some { x with due := a, phase := .queued a } ∧ t.regs = s.regs ∧ t.recd = s.recd) ∧
  (∀ (s : State) (dt : Nat) (q : Fin 16) (x : Infl), s.Ready q 0x52 x → applyTick s.nextTick x.d.applyTick = none →
    GoesTo (exec (.resume dt q) s) fun t => t.Ended x.id 0x34 0 0) ∧
  (∀ (s : State) (dt : Nat) (q : Fin 16) (x : Infl) (a : Nat), s.Ready q 0x30 x → s.isMaster = true → bytesAt x.d.param 8 4 < 1000000000 →
    applyTick s.nextTick x.d.applyTick = some a → ((State.advance dt s).todAt a ≤ (timeSetVal x.d : Int) ∨ bitOf x.d.flags 1 = true) →
    GoesTo (exec (.timeSet dt q) s) fun t => t.inflAt x.id = some { x with due := a, phase := .queued a } ∧ t.regs = s.regs ∧ t.recd = s.recd) ∧
  (∀ (s : State) (dt : Nat) (q : Fin 16) (x : Infl), s.Ready q 0x30 x → s.isMaster = false → GoesTo (exec (.timeSet dt q) s) fun t => t.Ended x.id 0x11 0 0) ∧
  (∀ (s u v : State) (dt : Nat) (q : Fin 16) (x : Infl) (links : List (List Nat)) (a : Nat), s.Ready q 0x50 x → (State.advance dt s).energiseBad = none →
    (State.advance dt s).tickBudget links = (u, none) → u.weirBudget links 0 = (v, none) → applyTick v.nextTick x.d.applyTick = some a →
    GoesTo (exec (.energise dt q links) s) fun t => t.inflAt x.id = some { x with due := a, phase := .queued a } ∧ t.regs = v.regs) ∧
  (∀ (s : State) (dt : Nat) (q : Fin 16) (x : Infl) (links : List (List Nat)) (st r : Nat), s.Ready q 0x50 x → (State.advance dt s).energiseBad = some (st, r) →
    GoesTo (exec (.energise dt q links) s) fun t => t.Ended x.id st r 0 ∧ s.RegsBut (cplRegs x.q) t)

/-- R92 to R95, R106: demand entries come, wait, stand and go. -/
def Obligations.DemandEntries : Prop :=
  (∀ (s : State) (dt : Nat) (q : Fin 16) (x : Infl) (a : Nat), s.Ready q 0x02 x → bytesAt x.d.param 1 1 ≠ 2 → s.demandBad x.d = none → applyTick s.nextTick x.d.applyTick = some a →
    GoesTo (exec (.setDemand dt q) s) fun t => t.inflAt x.id = some { x with due := a, phase := .queued a } ∧ t.regs = s.regs ∧ t.slu = s.slu) ∧
  (∀ (s : State) (dt : Nat) (q : Fin 16) (x : Infl) (a : Nat), s.Ready q 0x02 x → bytesAt x.d.param 1 1 = 2 → s.demandBad x.d = none → applyTick s.nextTick x.d.applyTick = some a →
    GoesTo (exec (.demandRelease dt q) s) fun t => t.inflAt x.id = some { x with due := a, phase := .queued a } ∧ t.regs = s.regs ∧ t.slu = s.slu) ∧
  (∀ (s : State) (dt : Nat) (q : Fin 16) (x : Infl) (st : Nat), s.Ready q 0x02 x → s.demandBad x.d = some st →
    (bytesAt x.d.param 1 1 ≠ 2 → GoesTo (exec (.setDemand dt q) s) fun t => t.Ended x.id st 0 0 ∧ t.slu = s.slu) ∧
    (bytesAt x.d.param 1 1 = 2 → GoesTo (exec (.demandRelease dt q) s) fun t => t.Ended x.id st 0 0 ∧ t.slu = s.slu)) ∧
  (∀ (s : State) (dt : Nat) (slot : Fin 64) (e : Entry) (x : Infl), s.live = true → s.role = .basin → s.entryAt slot = some e → e.left = none → e.hold < e.waited →
    s.inflAt e.id = some x → x.phase = .demand → x.q < 16 →
    GoesTo (exec (.demandHoldExpiry dt slot) s) fun t => t.slu.entries = s.slu.entries.filter (fun y => y.slot != slot.val) ∧
      t.Ended e.id (reasonStatus (e.lastR / 2 ^ 24)) e.lastR 0 ∧ s.RegsBut (cplRegs x.q) t) ∧
  (∀ (s : State) (dt : Nat) (slot : Fin 64) (e : Entry), s.live = true → s.role = .basin → s.entryAt slot = some e → e.left = some 0 →
    GoesTo (exec (.demandDurationEnd dt slot) s) fun t => t = { State.advance dt s with slu := { s.slu with entries := s.slu.entries.filter (fun y => y.slot != slot.val) } }) ∧
  (∀ (s : State) (dt : Nat) (arm : Fin 12) (spare : Fin 192) (i : InsItem) (at_ : Nat), s.live = true → s.role = .basin →
    (s.slArm arm).items.find? (fun i => i.spare == some spare.val) = some i → i.placed = some at_ → i.opened = false →
    at_ + 10000 * s.cg F.SLU_INS_CFG.TMO ≤ (State.advance dt s).time.ext →
    GoesTo (exec (.spareInsertFail dt arm spare) s) fun t => ∃ u : State,
      s.RegsBut [F.SLU_INS_CNT.FAIL.off, (F.SLU_ROLE.ROLE (spare / 16)).off] u ∧ u.slu = s.slu ∧
      u.get F.SLU_INS_CNT.FAIL = min (s.get F.SLU_INS_CNT.FAIL + 1) (2 ^ F.SLU_INS_CNT.FAIL.w - 1) ∧ (s.roleOf spare = roSPARE → u.roleOf spare = roWITHDRAWN) ∧
      t = s.confine (((u.raise Ev.SPARE_INSERT_FAIL [arm, spare, evNum Ev.SPARE_INSERT_FAIL 0]).modSlArm arm
        (fun x => { x with items := x.items.filter (· != i), at' := none })).insertWith arm i.pos i.gone i.since))

/-- R408 to R416: inputs, causes and outputs. -/
def Obligations.SafetyOutputs : Prop :=
  (∀ s : State, s.live = true → s.role = .basin → s.get F.SAFE_STAT.CAUSE = 0 →
    GoesTo (exec .hostOff s) fun t => t.get F.SAFE_STAT.CAUSE = 2 ^ 6 ∧ t.get F.SAFE_STAT.DEMAND = 1 ∧ t.get F.SAFE_STAT.OUT_ON = 0 ∧
      ((s.flag F.SAFE_STAT.OUT_ON || s.flag F.SAFE_STAT.HS || s.flag F.SAFE_STAT.LS) = true → t.safe.offAt = some (s.time.cyc + 5000 * s.get F.SAFE_CFG.OFF_DLY)) ∧
      t.get F.SAFE_STAT.HS = s.get F.SAFE_STAT.HS ∧ t.get F.SAFE_STAT.LS = s.get F.SAFE_STAT.LS) ∧
  (∀ (s : State) (dt at_ : Nat), s.live = true → s.role = .basin → s.safe.offAt = some at_ → at_ ≤ s.time.cyc + dt →
    GoesTo (exec (.safeOutOff dt) s) fun t => t.get F.SAFE_STAT.OUT_ON = 0 ∧ t.get F.SAFE_STAT.HS = 0 ∧ t.get F.SAFE_STAT.LS = 0 ∧
      s.RegsBut (F.SAFE_STAT.OUT_ON.off :: recCounters) t) ∧
  (∀ s : State, s.live = true → s.role = .basin → s.outBad ≠ 0 →
    GoesTo (exec .outEn s) fun t => s.Recorded t ∧ s.RegsBut recCounters t) ∧
  (∀ s : State, s.live = true → s.role = .basin → s.outBad = 0 → s.guardOpen = false →
    GoesTo (exec .outEn s) fun t => t.get F.SAFE_STAT.OUT_ON = 1 ∧ t.get F.SAFE_STAT.HS = 1 ∧ t.get F.SAFE_STAT.LS = 1 ∧ t.safe.onAt = some s.time.cyc ∧
      t.safe.fbDiff = [some s.time.cyc, some s.time.cyc] ∧ s.RegsBut [F.SAFE_STAT.OUT_ON.off] t) ∧
  (∀ (s : State) (dt : Nat) (filt raw : Fin 8), s.live = true → s.role = .basin →
    GoesTo (exec (.safeInChange dt filt raw) s) fun t => ∃ u : State, t = s.confine u.safeVote ∧ u.get F.SAFE_IN_STAT.FILT = filt.val ∧ u.get F.SAFE_IN_STAT.RAW = raw.val ∧
      s.RegsBut [F.SAFE_IN_STAT.FILT.off] u) ∧
  (∀ (s : State) (dt : Nat) (g : Fin 4), s.live = true → s.role = .basin → s.flag F.SAFE_STAT.OUT_ON = false →
    GoesTo (exec (.guardInChange dt g) s) fun t => t.get F.SAFE_IN_STAT.GUARD = g.val ∧
      ((g = 0 ∨ g = 3) → t.safe.gDiff = none) ∧ (g = 0 → t.safe.gOpen = true) ∧
      (g = 3 → s.safe.gOpen = true → s.flag F.SAFE_STAT.GUARD_TESTED = false → t.get F.SAFE_STAT.GUARD_TESTED = 1 ∧ t.aon.guardTested = true ∧ t.safe.gBad = false)) ∧
  (∀ (s : State) (dt at_ : Nat), s.live = true → s.role = .basin → s.safe.gDiff = some at_ → s.safe.gBad = false → at_ + 50000000 < s.time.cyc + dt → s.flag F.SAFE_STAT.OUT_ON = false →
    GoesTo (exec (.guardDiscrepancy dt) s) fun t => t.safe.gBad = true ∧ t.guardOpen = true ∧ s.RegsBut recCounters t)

/-- R415 to R420, R437: readbacks and test pulses. -/
def Obligations.SafetyFeedback : Prop :=
  (∀ (s : State) (dt : Nat) (hs ls : Bool), s.live = true → s.role = .basin → s.safe.pulse = none → s.safe.onDue = false →
    GoesTo (exec (.safeFbChange dt hs ls) s) fun t => t.get F.SAFE_STAT.FB_HS = b2n hs ∧ t.get F.SAFE_STAT.FB_LS = b2n ls ∧ s.RegsBut [F.SAFE_STAT.FB_HS.off] t ∧ t.recd = s.recd) ∧
  (∀ (s : State) (dt : Nat) (k : Fin 2) (at_ : Nat), s.live = true → s.role = .basin → s.safe.fbDiff.getD k none = some at_ → at_ + 500000 * s.get F.SAFE_CFG.FB_TMO < s.time.cyc + dt →
    (s.get F.SAFE_STAT.CAUSE).testBit 4 = true →
    GoesTo (exec (.safeFbFault dt k) s) fun t => (t.get F.SAFE_STAT.CAUSE).testBit 4 = true ∧ t.safe.fbDiff.getD k none = none ∧
      (∀ p, s.safe.pulse = some p → p.out = k.val → t.safe.pulse = none) ∧ s.RegsBut recCounters t) ∧
  (∀ (s : State) (dt : Nat), s.live = true → s.role = .basin → s.flag F.SAFE_STAT.OUT_ON = true → s.flag F.SAFE_STAT.HS = true → s.flag F.SAFE_STAT.LS = true →
    s.flag F.SAFE_CTRL.TEST_EN = true → s.safe.pulse = none → s.safe.pulseDue ≤ s.time.cyc + dt → s.safe.fbDiff = [none, none] → s.flag F.CLK_PLLS_STAT.ON_SAFE = false →
    GoesTo (exec (.testPulseStart dt) s) fun t => t.get (outFld (s.get F.SAFE_TEST.NEXT)) = 0 ∧ t.safe.pulse = some { out := s.get F.SAFE_TEST.NEXT, at' := s.time.cyc + dt } ∧
      t.safe.pulseDue = s.time.cyc + dt + 250000000 ∧ s.RegsBut [F.SAFE_STAT.HS.off] t) ∧
  (∀ (s : State) (dt : Nat), s.live = true → s.role = .basin → s.flag F.SAFE_STAT.OUT_ON = true → s.flag F.SAFE_STAT.HS = true → s.flag F.SAFE_STAT.LS = true →
    s.flag F.SAFE_CTRL.TEST_EN = true → s.safe.pulse = none → s.safe.pulseDue ≤ s.time.cyc + dt → s.safe.fbDiff.any Option.isSome = true →
    GoesTo (exec (.testPulseStart dt) s) fun t => t.safe.pulse = none ∧ t.get F.SAFE_TEST.NOT_DONE = min (s.get F.SAFE_TEST.NOT_DONE + 1) (2 ^ F.SAFE_TEST.NOT_DONE.w - 1) ∧
      s.RegsBut (F.SAFE_TEST.NEXT.off :: recCounters) t) ∧
  (∀ (s : State) (dt : Nat) (p : PulseSt), s.live = true → s.role = .basin → s.safe.pulse = some p → p.out < 2 → p.ended = false → p.at' + 100000 ≤ s.time.cyc + dt → p.sawOff = true → p.lost = false → s.flag (fbFld p.out) = false →
    GoesTo (exec (.testPulseEnd dt) s) fun t => t.get (outFld p.out) = 1 ∧ t.safe.pulse = some { p with ended := true, at' := s.time.cyc + dt } ∧ s.RegsBut [F.SAFE_STAT.HS.off] t) ∧
  (∀ (s : State) (dt : Nat) (p : PulseSt), s.live = true → s.role = .basin → s.safe.pulse = some p → p.out < 2 → p.ended = false → p.at' + 100000 ≤ s.time.cyc + dt → p.sawOff = true → p.lost = true →
    GoesTo (exec (.testPulseEnd dt) s) fun t => t.get (outFld p.out) = 1 ∧ t.safe.pulse = none ∧ t.get F.SAFE_TEST.NEXT = p.out ∧
      t.get F.SAFE_TEST.NOT_DONE = min (s.get F.SAFE_TEST.NOT_DONE + 1) (2 ^ F.SAFE_TEST.NOT_DONE.w - 1) ∧ s.RegsBut ([F.SAFE_STAT.HS.off, F.SAFE_TEST.NEXT.off] ++ recCounters) t) ∧
  (∀ (s : State) (dt : Nat) (p : PulseSt), s.live = true → s.role = .basin → s.safe.pulse = some p → p.ended = false → p.at' + 100000 ≤ s.time.cyc + dt → p.sawOff = false →
    GoesTo (exec (.testPulseEnd dt) s) fun t => (t.get F.SAFE_STAT.CAUSE).testBit 4 = true ∧ t.safe.pulse = none) ∧
  (∀ (s : State) (dt : Nat) (hs ls : Bool) (p : PulseSt), s.live = true → s.role = .basin → s.safe.pulse = some p → p.out < 2 → p.ended = true → p.lost = false →
    s.time.cyc + dt ≤ p.at' + 500000 → (if p.out = 0 then hs else ls) = true → s.safe.onDue = false →
    GoesTo (exec (.safeFbChange dt hs ls) s) fun t => t.safe.pulse = none ∧ t.get F.SAFE_TEST.NEXT = 1 - p.out ∧ t.get F.SAFE_STAT.FB_HS = b2n hs ∧ t.get F.SAFE_STAT.FB_LS = b2n ls ∧ t.recd = s.recd) ∧
  (∀ (s : State) (dt : Nat) (k : Fin 2), s.live = true → s.role = .basin → s.flag F.SAFE_STAT.OUT_ON = true → s.safe.degraded.getD k false = false →
    s.safe.pulseDone.getD k 0 + 5000000000 ≤ s.time.cyc + dt →
    GoesTo (exec (.safeOutDegraded dt k) s) fun t => t.get F.SAFE_STAT.OUT_DEGRADED = 1 ∧ (k.val < s.safe.degraded.length → t.safe.degraded.getD k false = true) ∧
      t.safe.degFrom = some (s.safe.degFrom.getD (s.time.cyc + dt)) ∧ s.RegsBut (F.SAFE_STAT.OUT_DEGRADED.off :: recCounters) t)

/-- R424 to R429: locking, unlocking and configuring. -/
def Obligations.SafetyLock : Prop :=
  (∀ (s : State) (dt : Nat) (q : Fin 16) (x : Infl), s.Ready q 0x40 x → s.energisedRange = false → s.safe.lockoutAt = none →
    (x.d.param.take 8).any (fun c => decide (c < 0x21) || decide (0x7E < c)) = false →
    sha256 (leBytes 8 Config.serialNumber ++ x.d.param.take 8) = s.pwHashOf →
    GoesTo (exec (.safetyUnlock dt q) s) fun t => t.get F.SAFE_STAT.UNLOCKED = 1 ∧ t.safe.unlockCrc = (if s.flag F.SAFE_STAT.UNLOCKED then s.safe.unlockCrc else s.get F.SAFE_CRC.CRC) ∧ t.safe.roleId = bytesAt x.d.param 8 4 ∧ t.safe.fails = 0 ∧ t.safe.lastAct = s.time.cyc + dt ∧
      t.Ended x.id 0x00 0 0) ∧
  (∀ (s : State) (dt : Nat) (q : Fin 16) (x : Infl), s.Ready q 0x40 x → s.energisedRange = false → s.safe.lockoutAt = none →
    ((x.d.param.take 8).any (fun c => decide (c < 0x21) || decide (0x7E < c)) = true ∨ sha256 (leBytes 8 Config.serialNumber ++ x.d.param.take 8) ≠ s.pwHashOf) →
    GoesTo (exec (.safetyUnlock dt q) s) fun t => t.get F.SAFE_STAT.UNLOCKED = s.get F.SAFE_STAT.UNLOCKED ∧ t.safe.fails = s.safe.fails + 1 ∧
      (2 ≤ s.safe.fails → t.get F.SAFE_STAT.LOCKOUT = 1 ∧ t.safe.lockoutAt = some (s.time.cyc + dt)) ∧ t.Ended x.id 0x33 0 0) ∧
  (∀ (s : State) (dt : Nat) (q : Fin 16) (x : Infl), s.Ready q 0x40 x → s.energisedRange = false → s.safe.lockoutAt ≠ none →
    GoesTo (exec (.safetyUnlock dt q) s) fun t => t.get F.SAFE_STAT.UNLOCKED = s.get F.SAFE_STAT.UNLOCKED ∧ t.safe.fails = s.safe.fails ∧ t.Ended x.id 0x33 0 0) ∧
  (∀ (s : State) (dt : Nat) (q : Fin 16) (x : Infl), s.Ready q 0x40 x → s.energisedRange = true →
    GoesTo (exec (.safetyUnlock dt q) s) fun t => t.get F.SAFE_STAT.UNLOCKED = s.get F.SAFE_STAT.UNLOCKED ∧ t.safe.fails = s.safe.fails ∧ t.Ended x.id 0x11 0 0) ∧
  (∀ (s : State) (dt at_ : Nat), s.live = true → s.role = .basin → s.safe.lockoutAt = some at_ → at_ + 30000000000 ≤ s.time.cyc + dt →
    GoesTo (exec (.authLockoutEnd dt) s) fun t => t.get F.SAFE_STAT.LOCKOUT = 0 ∧ t.safe.lockoutAt = none ∧ t.safe.fails = 0 ∧ s.RegsBut [F.SAFE_STAT.LOCKOUT.off] t ∧ t.recd = s.recd) ∧
  (∀ s u : State, s.live = true → s.role = .basin → s.flag F.SAFE_STAT.UNLOCKED = true → s.host.infl.any (fun x => x.d.opcode == 0x41) = false →
    u = { s with safe := { s.safe with relockDue := false } }.set F.SAFE_STAT.UNLOCKED 0 →
    GoesTo (exec .safetyLock s) fun t => t.get F.SAFE_STAT.UNLOCKED = 0 ∧ (s.get F.SAFE_CRC.CRC = s.safe.unlockCrc → t = u) ∧
      (s.get F.SAFE_CRC.CRC ≠ s.safe.unlockCrc → t = s.confine (u.raise Ev.SAFETY_CHANGE [s.safe.roleId, u.todSec, u.todNs + 2 ^ 31 * b2n s.time.todValid, s.safe.unlockCrc, s.get F.SAFE_CRC.CRC, 1, u.basinId]))) ∧
  (∀ s : State, s.live = true → s.role = .basin → s.flag F.SAFE_STAT.UNLOCKED = true → s.host.infl.any (fun x => x.d.opcode == 0x41) = true →
    GoesTo (exec .safetyLock s) fun t => t = { s with safe := { s.safe with relockDue := true } }) ∧
  (∀ (s : State) (dt : Nat), s.live = true → s.role = .basin → s.safe.lastAct + 300000000000 ≤ s.time.cyc + dt →
    exec (.safetyRelockTimeout dt) s = exec .safetyLock (State.advance dt s) ∧
    (s.flag F.SAFE_STAT.UNLOCKED = true → s.host.infl.any (fun x => x.d.opcode == 0x41) = false → GoesTo (exec (.safetyRelockTimeout dt) s) fun t => t.get F.SAFE_STAT.UNLOCKED = 0 ∧
      (s.get F.SAFE_CRC.CRC = s.safe.unlockCrc → s.RegsBut [F.SAFE_STAT.UNLOCKED.off] t))) ∧
  (∀ (s : State) (dt : Nat) (q : Fin 16) (buf : HostBuf) (x : Infl), s.Ready q 0x41 x → s.flag F.SAFE_STAT.UNLOCKED = false →
    GoesTo (exec (.safetyCfg dt q buf) s) fun t => t.Ended x.id 0x33 0 0 ∧ s.RegsBut (cplRegs x.q) t) ∧
  (∀ (s : State) (dt : Nat) (q : Fin 16) (ws : List Word) (x : Infl), s.Ready q 0x41 x → s.flag F.SAFE_STAT.UNLOCKED = true → x.d.length / 4 ≤ ws.length → ¬ x.d.target < 192 →
    cfgTargets .basin (cfgPairs (ws.take (x.d.length / 4))) = true → s.get F.SAFE_CRC.CRC ≠ cfgOldCrc x.d →
    GoesTo (exec (.safetyCfg dt q (.words ws)) s) fun t => t.Ended x.id 0x11 1 0 ∧ s.RegsBut (cplRegs x.q) t) ∧
  (∀ (s u v r : State) (dt : Nat) (q : Fin 16) (ws : List Word) (x : Infl) (l : List (Nat × Nat)), s.Ready q 0x41 x → s.flag F.SAFE_STAT.UNLOCKED = true → x.d.length / 4 ≤ ws.length → ¬ x.d.target < 192 →
    l = cfgPairs (ws.take (x.d.length / 4)) → l ≠ [] → cfgTargets .basin l = true → (∀ e ∈ l, isPwOff e.1 = false) → s.get F.SAFE_CRC.CRC = cfgOldCrc x.d →
    u = l.foldl (fun (y : State) (e : Nat × Nat) => y.cfgWrite true {} e.1 e.2) { State.advance dt s with safe := { s.safe with lastAct := s.time.cyc + dt } } →
    v = u.safetyChange (s.get F.SAFE_CRC.CRC) (u.get F.SAFE_CRC.CRC) 0 u.basinId →
    r = (l.map (fun e => (e.1, (s.rd e.1).toNat))).foldl (fun (y : State) (e : Nat × Nat) => y.writeFields false e.1 e.2) u →
    ((∀ e ∈ l, cfgInRange e = true) → u.get F.SAFE_CRC.CRC = cfgNewCrc x.d → GoesTo (exec (.safetyCfg dt q (.words ws)) s) fun t => t = s.confine (v.settle x.id stOK 0 0 0 0)) ∧
    ((∃ e ∈ l, cfgInRange e = false) → GoesTo (exec (.safetyCfg dt q (.words ws)) s) fun t => t = s.confine (r.refuse x.id 0x11 2)) ∧
    ((∀ e ∈ l, cfgInRange e = true) → u.get F.SAFE_CRC.CRC ≠ cfgNewCrc x.d → GoesTo (exec (.safetyCfg dt q (.words ws)) s) fun t => t = s.confine (r.refuse x.id 0x11 3))) ∧
  (∀ (s : State) (dt : Nat) (q : Fin 16) (ws : List Word) (x : Infl) (a b : Nat), s.Ready q 0x41 x → s.flag F.SAFE_STAT.UNLOCKED = true → x.d.length = 16 → 4 ≤ ws.length → ¬ x.d.target < 192 →
    cfgPairs (ws.take 4) = [(pwOff0, a), (pwOff1, b)] → cfgInRange (pwOff0, a) = true → cfgInRange (pwOff1, b) = true → s.get F.SAFE_CRC.CRC = cfgOldCrc x.d → s.get F.SAFE_CRC.CRC = cfgNewCrc x.d →
    s.norUsable = true → GoesTo (exec (.safetyCfg dt q (.words ws)) s) fun t => t.nor.pwHash = some (sha256 (leBytes 8 Config.serialNumber ++ leBytes 4 a ++ leBytes 4 b)) ∧
      t.get F.SAFE_STAT.DEFAULT_PW = 0 ∧ t.Ended x.id 0x00 0 0) ∧
  (∀ (s : State) (dt : Nat) (q : Fin 16) (ws : List Word) (x : Infl), s.Ready q 0x41 x → s.flag F.SAFE_STAT.UNLOCKED = true → x.d.length / 4 ≤ ws.length → x.d.target < 192 →
    cfgTargets .spring (cfgPairs (ws.take (x.d.length / 4))) = true → s.mgmtMay x = true → s.unreachable x.d.target = false →
    GoesTo (exec (.safetyCfg dt q (.words ws)) s) fun t => t.Underway x.d.target 0x01 F.SAFE_CRC.CRC.off (.cfg x.id) ∧ t.regs = s.regs ∧
      (∃ y, t.inflAt x.id = some y ∧ y.phase = .mgmt 0 0 ∧ y.data = ws.take (x.d.length / 4)))

/-- R431 to R437, R455: the status PDU, and what is made of the other side's. -/
def Obligations.SafetyPdus : Prop :=
  (∀ (s : State) (dt n b : Nat) (f : CanFrame), s.live = true → s.role = .basin → s.flag F.SAFE_PDU_CFG.TX_EN = true → n = s.get F.SAFE_PDU_CFG.UNIT → n < s.can.units.length →
    b + 1 = s.get (F.CAN_RAMTX.COUNT n) → b < 32 → s.canSends n = true → s.txReqd n b = false → s.flag (F.CAN_CTRL.FDOE n) = true → s.get (F.CAN_CTRL.MODE n) = 0 → s.txAddr n b + 80 ≤ 65536 →
    s.safe.lastTx + 500000 * s.get F.SAFE_PDU_CFG.TX_MS ≤ s.time.cyc + dt →
    f = ⟨s.flag F.SAFE_PDU_TXID.IDE, s.get F.SAFE_PDU_TXID.ID, false, true, true, false, 14,
      pduBytes s.safe.txSeq (2 * s.get F.SAFE_PDU_CFG.TX_MS) (s.get F.SAFE_PDU_TXCONN.CONN) 1 (State.advance dt s).pduStatus⟩ →
    GoesTo (exec (.safetyPduTx dt) s) fun t => t.txReqd n b = true ∧ t.safe.lastTx = s.time.cyc + dt ∧ t.safe.txSeq = s.safe.txSeq ∧ t.out = s.out ∧
      (∀ i, i < 80 → ramByte t.can.ram (s.txAddr n b + i) = BitVec.ofNat 8 ((txElem f).getD i 0)) ∧
      (∀ a, ¬ (s.txAddr n b ≤ a ∧ a < s.txAddr n b + 80) → ramByte t.can.ram a = ramByte s.can.ram a) ∧ s.RegsBut [(F.CAN_TXREQ.BUF n).off, (F.CAN_TXCAN.BUF n).off] t) ∧
  (∀ (s : State) (dt n b : Nat), s.live = true → s.role = .basin → s.flag F.SAFE_PDU_CFG.TX_EN = true → n = s.get F.SAFE_PDU_CFG.UNIT → b + 1 = s.get (F.CAN_RAMTX.COUNT n) →
    s.canSends n = false ∨ s.txReqd n b = true → s.safe.lastTx + 500000 * s.get F.SAFE_PDU_CFG.TX_MS ≤ s.time.cyc + dt →
    GoesTo (exec (.safetyPduTx dt) s) fun t => t = { State.advance dt s with safe := { s.safe with lastTx := s.time.cyc + dt } }) ∧
  (∀ (s : State) (dt : Nat) (n : Fin 4) (ago b : Nat) (tec rec : Fin 256), s.live = true → s.canSends n = true → s.get (F.CAN_CTRL.MODE n) = 0 → (State.advance dt s).txPick n ago = some b → b < 32 →
    s.pduBuffer n b = true → GoesTo (exec (.canTxDone dt n ago none tec rec) s) fun t => t.safe.txSeq = (s.safe.txSeq + 1) % 65536 ∧ t.out = s.out ++ [.can n (s.txFrame n b)]) ∧
  (∀ (s : State) (dt : Nat) (unit : Fin 4) (f : CanFrame), s.live = true → s.role = .basin → s.isPdu unit f = true →
    (s.pduValid f.data = false → GoesTo (exec (.safetyPduRx dt unit f) s) fun t => t = s.confine ((State.advance dt s).pduFault 0 (bytesAt f.data 0 2))) ∧
    (s.pduValid f.data = true → s.safe.rxSeq = some (bytesAt f.data 0 2) → GoesTo (exec (.safetyPduRx dt unit f) s) fun t =>
      t.get F.SAFE_PDU_CNT.DUP = min (s.get F.SAFE_PDU_CNT.DUP + 1) (2 ^ F.SAFE_PDU_CNT.DUP.w - 1) ∧ t.safe = s.safe ∧ s.RegsBut [F.SAFE_PDU_CNT.DUP.off] t) ∧
    (∀ stop, s.pduValid f.data = true → s.safe.rxSeq ≠ some (bytesAt f.data 0 2) → (∀ last, s.safe.rxSeq = some last → bytesAt f.data 0 2 = (last + 1) % 65536) →
      stop = (bytesAt f.data 8 1 != 0 && bitOf (bytesAt f.data 10 1) 0) →
      GoesTo (exec (.safetyPduRx dt unit f) s) fun t => t.safe.rxSeq = some (bytesAt f.data 0 2) ∧ t.safe.rxAt = some (s.time.cyc + dt) ∧ t.safe.rxWd = bytesAt f.data 2 2 ∧ t.safe.pduBad = false ∧
        (stop = true → (t.get F.SAFE_STAT.CAUSE).testBit 5 = true) ∧ (stop = false → s.RegsBut recCounters t) ∧ (stop = false → s.safe.pduBad = false → t.regs = s.regs)) ∧
    (∀ last, s.pduValid f.data = true → s.safe.rxSeq = some last → bytesAt f.data 0 2 ≠ last → bytesAt f.data 0 2 ≠ (last + 1) % 65536 →
      GoesTo (exec (.safetyPduRx dt unit f) s) fun t => t = s.confine ((State.advance dt s).pduFault 1 (bytesAt f.data 0 2)))) ∧
  (∀ (s : State) (dt at_ : Nat), s.live = true → s.role = .basin → s.safe.rxAt = some at_ → s.flag F.SAFE_PDU_CFG.RX_EN = true → at_ + 500000 * s.safe.rxWd < s.time.cyc + dt →
    GoesTo (exec (.pduTimeout dt) s) fun t => t = s.confine ((State.advance dt s).pduFault 2 (s.safe.rxSeq.getD 0))) ∧
  (∀ (s : State) (kind seq : Nat), s.outputsLit = false → (s.pduFault kind seq).safe.rxSeq = none ∧ (s.pduFault kind seq).safe.rxAt = none ∧
    ((s.pduFault kind seq).get F.SAFE_STAT.CAUSE).testBit 5 = true ∧ (s.pduFault kind seq).get F.SAFE_STAT.DEMAND = 1 ∧
    (s.pduFault kind seq).get F.SAFE_PDU_CNT.FAULT = min (s.get F.SAFE_PDU_CNT.FAULT + 1) (2 ^ F.SAFE_PDU_CNT.FAULT.w - 1))

/-- R442, R443, R446, R450, R451: states of a controller and locks of its windows. -/
def Obligations.CanControllers : Prop :=
  (∀ (s : State) (dt : Nat) (n : Fin 4) (st : Fin 3) (tec rec : Fin 256), s.live = true → s.get (F.CAN_ECR.STATE n) < 2 → s.get (F.CAN_CTRL.MODE n) ≠ 1 → s.get (F.CAN_ECR.STATE n) ≠ st.val →
    GoesTo (exec (.canState dt n st tec rec) s) fun t => t.get (F.CAN_ECR.STATE n) = st.val ∧ t.get (F.CAN_ECR.TEC n) = tec.val ∧ t.get (F.CAN_ECR.REC n) = rec.val ∧
      (st = 2 → n.val < s.can.units.length → (t.canUnit n).dup = [] ∧ (t.canUnit n).recovering = false) ∧ s.RegsBut ((F.CAN_ECR.STATE n).off :: recCounters) t ∧ t.can.ram = s.can.ram) ∧
  (∀ (s : State) (n : Fin 4), s.live = true → s.get (F.CAN_ECR.STATE n) = 2 → n.val < s.can.units.length →
    GoesTo (exec (.recReq n) s) fun t => (t.canUnit n).recovering = true ∧ t.regs = s.regs ∧ t.can.ram = s.can.ram) ∧
  (∀ (s : State) (dt : Nat) (n : Fin 4), s.live = true → s.get (F.CAN_ECR.STATE n) = 2 → (s.flag (F.CAN_CTRL.AUTO_REC n) || (s.canUnit n).recovering) = true → n.val < s.can.units.length →
    GoesTo (exec (.busOffRecovery dt n) s) fun t => t.get (F.CAN_ECR.STATE n) = 0 ∧ (s.get (F.CAN_CTRL.MODE n) ≠ 1 → t.get (F.CAN_ECR.TEC n) = 0 ∧ t.get (F.CAN_ECR.REC n) = 0) ∧
      (t.canUnit n).recovering = false ∧ (t.canUnit n).off = false ∧ s.RegsBut ((F.CAN_ECR.STATE n).off :: recCounters) t) ∧
  (∀ (s : State) (n : Fin 4), s.live = true → s.flag (F.CAN_CTRL.INIT n) = true → canRegionsBad s.canRegions = none →
    GoesTo (exec (.canInitClear n) s) fun t => t.get (F.CAN_CTRL.INIT n) = 0 ∧ t.get (F.CAN_CTRL.CFG_ERR n) = 0 ∧
      ((s.canUnit n).off = false → t.get (F.CAN_ECR.STATE n) = 0 ∧ t.get (F.CAN_ECR.TEC n) = 0 ∧ t.get (F.CAN_ECR.REC n) = 0) ∧ ((s.canUnit n).off = true → t.get (F.CAN_ECR.STATE n) = 2) ∧
      s.RegsBut [(F.CAN_CTRL.INIT n).off, (F.CAN_ECR.STATE n).off] t) ∧
  (∀ (s : State) (n : Fin 4) (i : Nat), s.live = true → s.flag (F.CAN_CTRL.INIT n) = true → canRegionsBad s.canRegions = some i →
    GoesTo (exec (.canInitClear n) s) fun t => t.get (F.CAN_CTRL.INIT n) = 1 ∧ t.get (F.CAN_CTRL.CFG_ERR n) = 1 ∧ s.RegsBut ((F.CAN_CTRL.CFG_ERR n).off :: recCounters) t) ∧
  (∀ (s : State) (dt : Nat) (n w : Fin 4) (rq : Option HostRd), s.live = true → s.ReadsOne (winOff n w 0) rq → (s.winElem n w).isSome = true → s.lockedAt n w = none → n.val < s.can.units.length →
    GoesTo (exec (.elementLock dt n w rq) s) fun t => t.lockedAt n w = some (s.time.cyc + dt) ∧ t.regs = s.regs ∧ t.can.ram = s.can.ram) ∧
  (∀ (s : State) (dt at_ : Nat) (n w : Fin 4), s.live = true → s.lockedAt n w = some at_ → at_ + 500000 * s.get (F.CAN_CTRL.LOCK_TMO n) ≤ s.time.cyc + dt → n.val < s.can.units.length →
    GoesTo (exec (.lockTimeout dt n w) s) fun t => t.lockedAt n w = none ∧
      t.get (F.CAN_CNT0.LOCK_TMO_CNT n) = min (s.get (F.CAN_CNT0.LOCK_TMO_CNT n) + 1) (2 ^ (F.CAN_CNT0.LOCK_TMO_CNT n).w - 1) ∧ s.RegsBut ((F.CAN_CNT0.LOCK_TMO_CNT n).off :: recCounters) t) ∧
  (∀ (s : State) (n w : Fin 4) (at_ : Nat) (rq : Option HostRd), s.live = true → s.ReadsOne (winOff n w (winSize w / 4 - 1)) rq → w.val ≠ 2 → s.lockedAt n w = some at_ → 0 < s.get (fillFld n w) →
    n.val < s.can.units.length →
    GoesTo (exec (.elementRelease n w rq) s) fun t => t.lockedAt n w = none ∧ t.get (fillFld n w) = s.get (fillFld n w) - 1 ∧ s.RegsBut [(fillFld n w).off] t ∧ t.can.ram = s.can.ram) ∧
  (∀ (s : State) (n w : Fin 4) (at_ : Nat) (rq : Option HostRd), s.live = true → s.ReadsOne (winOff n w (winSize w / 4 - 1)) rq → w.val = 2 → s.lockedAt n w = some at_ → s.rxbShown n < s.winCount n 2 →
    s.rxbShown n < 64 → n.val < s.can.units.length →
    GoesTo (exec (.elementRelease n w rq) s) fun t => t.lockedAt n w = none ∧ (t.get (newFld n (s.rxbShown n))).testBit (s.rxbShown n % 32) = false ∧ s.RegsBut [(newFld n (s.rxbShown n)).off] t ∧
      t.can.ram = s.can.ram) ∧
  (∀ (s : State) (n w : Fin 4) (rq : Option HostRd), s.live = true → s.ReadsOne (winOff n w (winSize w / 4 - 1)) rq → s.lockedAt n w = none →
    GoesTo (exec (.elementRelease n w rq) s) fun t => t.regs = s.regs ∧ t.can = s.can ∧ t.recd = s.recd)

/-- R445, R448, R456 to R460: the transmit buffers of a controller. -/
def Obligations.CanTransmission : Prop :=
  (∀ (s : State) (dt : Nat) (n : Fin 4) (v : Word), s.live = true → n.val < s.can.units.length →
    (∀ b, b < 32 → v.toNat.testBit b = true → s.txUsable n b = true ∧ s.txReqd n b = false ∧ s.txCause n (s.txFrame n b) = none ∧ (s.canUnit n).canAt.contains (b, (State.advance dt s).canCycle) = false) →
    GoesTo (exec (.canTxreq dt n v) s) fun t => (∀ b, b < 32 → t.txReqd n b = (s.txReqd n b || v.toNat.testBit b)) ∧
      (t.canUnit n).reqAt = (s.canUnit n).reqAt ++ (maskBits 32 v.toNat).map (fun b => (b, (State.advance dt s).upNs)) ∧
      s.RegsBut [(F.CAN_TXREQ.BUF n).off, (F.CAN_TXCAN.BUF n).off] t ∧ t.can.ram = s.can.ram) ∧
  (∀ (s : State) (dt : Nat) (n : Fin 4) (v : Word), s.live = true → (∀ b, b < 32 → v.toNat.testBit b = true → s.txUsable n b = false ∨ s.txReqd n b = true) →
    GoesTo (exec (.canTxreq dt n v) s) fun t => t = State.advance dt s) ∧
  (∀ (s : State) (dt : Nat) (n : Fin 4) (v : Word) (b c : Nat), s.live = true → maskBits 32 v.toNat = [b] → s.txUsable n b = true → s.txReqd n b = false → s.txCause n (s.txFrame n b) = some c →
    (s.canUnit n).canAt.contains (b, (State.advance dt s).canCycle) = false →
    GoesTo (exec (.canTxreq dt n v) s) fun t => t.get (F.CAN_CNT1.TX_REFUSED n) = min (s.get (F.CAN_CNT1.TX_REFUSED n) + 1) (2 ^ (F.CAN_CNT1.TX_REFUSED n).w - 1) ∧ t.txReqd n b = false ∧
      s.RegsBut ((F.CAN_CNT1.TX_REFUSED n).off :: recCounters) t) ∧
  (∀ (s : State) (dt : Nat) (n : Fin 4) (v : Word) (sof : Option Nat) (b : Nat), s.live = true → maskBits 32 v.toNat = [b] → s.txUsable n b = true → s.txReqd n b = true → n.val < s.can.units.length →
    GoesTo (exec (.canTxcan dt n v sof) s) fun t => (t.get (F.CAN_TXCAN.BUF n)).testBit b = true ∧ s.RegsBut [(F.CAN_TXREQ.BUF n).off, (F.CAN_TXCAN.BUF n).off] t ∧
      (sof.bind (fun ago => (State.advance dt s).txPick n ago) ≠ some b → t.txReqd n b = false) ∧
      (sof.bind (fun ago => (State.advance dt s).txPick n ago) = some b → t.txReqd n b = true ∧ (t.canUnit n).noRetry.contains b = true)) ∧
  (∀ (s : State) (dt : Nat) (n : Fin 4) (ago : Nat) (tdcv : Option Nat) (tec rec : Fin 256) (b : Nat), s.live = true → s.canSends n = true → (State.advance dt s).txPick n ago = some b → b < 32 → s.get (F.CAN_CTRL.MODE n) = 0 →
    (s.tdcOn n (s.txFrame n b) = true → ∀ c, tdcv = some c → c ≤ 127) → (bitOf (s.ramWord (s.txAddr n b + 4)) 23 = false ∨ s.winCount n 3 ≤ s.get (fillFld n 3)) →
    GoesTo (exec (.canTxDone dt n ago tdcv tec rec) s) fun t => t.txReqd n b = false ∧ (t.get (F.CAN_TXDONE.BUF n)).testBit b = true ∧ t.out = s.out ++ [.can n (s.txFrame n b)] ∧
      t.get (F.CAN_ECR.TEC n) = tec.val ∧ t.get (F.CAN_ECR.REC n) = rec.val ∧ (s.tdcOn n (s.txFrame n b) = true → ∀ c, tdcv = some c → t.get (F.CAN_TDCR.TDCV n) = c) ∧ t.can.ram = s.can.ram ∧
      s.RegsBut [(F.CAN_TXREQ.BUF n).off, (F.CAN_TXDONE.BUF n).off, (F.CAN_ECR.TEC n).off, (F.CAN_TDCR.TDCV n).off] t) ∧
  (∀ (s : State) (dt : Nat) (n : Fin 4) (ago : Nat) (tec rec : Fin 256) (b e fill : Nat), s.live = true → s.canSends n = true → (State.advance dt s).txPick n ago = some b → b < 32 → s.get (F.CAN_CTRL.MODE n) = 0 →
    bitOf (s.ramWord (s.txAddr n b + 4)) 23 = true → fill = s.get (fillFld n 3) → fill < s.winCount n 3 → e = s.winBase n 3 + 12 * (((s.canUnit n).tef.get + fill) % s.winCount n 3) → e + 12 ≤ 65536 →
    GoesTo (exec (.canTxDone dt n ago none tec rec) s) fun t => t.get (fillFld n 3) = fill + 1 ∧ t.txReqd n b = false ∧ t.out = s.out ++ [.can n (s.txFrame n b)] ∧
      (∀ i, i < 4 → ramByte t.can.ram (e + i) = BitVec.ofNat 8 ((leBytes 4 (s.ramWord (s.txAddr n b))).getD i 0)) ∧
      (∀ i, i < 4 → ramByte t.can.ram (e + 8 + i) = BitVec.ofNat 8 ((leBytes 4 (((State.advance dt s).time.ext - ago) % 2 ^ 32)).getD i 0)) ∧
      (∀ a, ¬ (e ≤ a ∧ a < e + 12) → ramByte t.can.ram a = ramByte s.can.ram a)) ∧
  (∀ (s : State) (dt : Nat) (n : Fin 4) (ago : Nat) (tec rec : Fin 256) (b : Nat), s.live = true → s.canSends n = true → (State.advance dt s).txPick n ago = some b → b < 32 → s.get (F.CAN_CTRL.MODE n) = 3 →
    GoesTo (exec (.canTxDone dt n ago none tec rec) s) fun t => t.out = s.out ∧ ∃ u : State, u.txReqd n b = false ∧ t = s.confine (u.canReceive n (s.txFrame n b) (((State.advance dt s).time.ext - ago) % 2 ^ 32))) ∧
  (∀ (s : State) (dt : Nat) (n : Fin 4) (ago c : Nat) (tec rec : Fin 256) (b : Nat), s.live = true → s.canSends n = true → (State.advance dt s).txPick n ago = some b → s.tdcOn n (s.txOut n b) = true → 127 < c →
    GoesTo (exec (.canTxDone dt n ago (some c) tec rec) s) fun t => t.out = s.out ∧ t = s.confine (((((State.advance dt s).canCounters n tec rec).raise Ev.TDC_FAIL [n, c])).txFails n b true)) ∧
  (∀ (s : State) (dt : Nat) (n : Fin 4) (ago : Nat) (lec dlec : Fin 8) (tec rec : Fin 256) (b : Nat), s.live = true → s.canSends n = true → (State.advance dt s).txPick n ago = some b → s.get (F.CAN_CTRL.MODE n) = 0 →
    b < 32 → n.val < s.can.units.length →
    GoesTo (exec (.canTxAttemptFail dt n ago false lec dlec none tec rec) s) fun t => t.get (F.CAN_ECR.TEC n) = tec.val ∧ t.get (F.CAN_ECR.REC n) = rec.val ∧
      (lec.val ≠ 7 → t.get (F.CAN_ECR.LEC n) = lec.val) ∧ (dlec.val ≠ 7 → t.get (F.CAN_ECR.DLEC n) = dlec.val) ∧
      (s.flag (F.CAN_CTRL.DAR n) = false → (s.canUnit n).noRetry.contains b = false → t.txReqd n b = s.txReqd n b) ∧ (s.flag (F.CAN_CTRL.DAR n) = true ∨ (s.canUnit n).noRetry.contains b = true → t.txReqd n b = false) ∧
      t.out = s.out ∧ s.RegsBut [(F.CAN_TXREQ.BUF n).off, (F.CAN_ECR.TEC n).off] t) ∧
  (∀ (s : State) (dt : Nat) (n : Fin 4) (ago t0 : Nat) (lec dlec : Fin 8) (tec rec : Fin 256) (b : Nat), s.live = true → s.canSends n = true → (State.advance dt s).txPick n ago = some b → b < 32 →
    (s.canUnit n).dup.find? (fun x => x.1 == b) = some (b, 7, t0) → s.time.cyc + dt ≤ t0 + 500000000 →
    GoesTo (exec (.canTxAttemptFail dt n ago true lec dlec none tec rec) s) fun t => t.get (F.CAN_DUP.ID n) = (s.txFrame n b).id % 2 ^ 29 ∧ t.flag (F.CAN_DUP.IDE n) = (s.txFrame n b).ide ∧
      t.get (F.CAN_CNT1.DUP_CNT n) = min (s.get (F.CAN_CNT1.DUP_CNT n) + 1) (2 ^ (F.CAN_CNT1.DUP_CNT n).w - 1) ∧ (s.flag (F.CAN_CTRL.DUP_ABORT n) = true → t.txReqd n b = false) ∧ t.out = s.out) ∧
  (∀ (s : State) (dt : Nat) (n : Fin 4), s.live = true → s.flag (F.CAN_REF.EN n) = true → (s.canUnit n).refAt + 500000 * s.get (F.CAN_REF_CFG.PERIOD n) ≤ s.time.cyc + dt → s.refMay = false →
    GoesTo (exec (.referenceMessage dt n) s) fun t => t.get (F.CAN_CNT1.TX_REFUSED n) = min (s.get (F.CAN_CNT1.TX_REFUSED n) + 1) (2 ^ (F.CAN_CNT1.TX_REFUSED n).w - 1) ∧
      t.out = s.out ∧ s.RegsBut ((F.CAN_CNT1.TX_REFUSED n).off :: recCounters) t) ∧
  (∀ (s : State) (dt : Nat) (n : Fin 4), s.live = true → s.flag (F.CAN_REF.EN n) = true → (s.canUnit n).refAt + 500000 * s.get (F.CAN_REF_CFG.PERIOD n) ≤ s.time.cyc + dt → s.refMay = true →
    s.txCause n (s.refFrame n) = none → n.val < s.can.units.length →
    GoesTo (exec (.referenceMessage dt n) s) fun t => t.txReqd n 32 = true ∧ (t.canUnit n).refAt = s.time.cyc + dt ∧ t.regs = s.regs ∧ t.out = s.out) ∧
  (∀ (s : State) (dt ago : Nat) (n : Fin 4) (tec rec : Fin 256), s.live = true → s.canSends n = true → (State.advance dt s).txPick n ago = some 32 → s.get (F.CAN_CTRL.MODE n) = 0 → s.flag (F.CAN_DBTP.TDC_EN n) = false →
    n.val < s.can.units.length →
    GoesTo (exec (.canTxDone dt n ago none tec rec) s) fun t => ∃ f : CanFrame, t.out = s.out ++ [.can n f] ∧ f.id = s.get (F.CAN_REF.ID n) ∧ f.ide = s.flag (F.CAN_REF.IDE n) ∧ f.fdf = true ∧
      f.data.getD 12 0 = (s.canUnit n).refSeq % 256 ∧ (t.canUnit n).refSeq = (s.canUnit n).refSeq + 1 ∧ (t.canUnit n).refSent = true ∧ t.txReqd n 32 = false ∧ s.RegsBut [(F.CAN_ECR.TEC n).off] t)

/-- R441, R442, R446, R448, R450, R452, R454, R463, R464: where received frames go. -/
def Obligations.CanReception : Prop :=
  (∀ (s u : State) (dt : Nat) (n : Fin 4) (f : CanFrame) (ago : Nat) (tec rec : Fin 256) (r : FiltRes), s.live = true → s.canTakes n f = true → (s.role = .basin → s.isPdu n f = false) → u = (State.advance dt s).canCounters n tec rec → u.filter n f = r → (s.role = .basin ∨ r.dec = false) → r.act = 3 →
    GoesTo (exec (.canFrameRx dt n f ago false tec rec) s) fun t => s.RegsBut [(F.CAN_ECR.TEC n).off] t ∧ t.can = s.can ∧ t.recd = s.recd) ∧
  (∀ (s u : State) (dt : Nat) (n : Fin 4) (f : CanFrame) (ago : Nat) (tec rec : Fin 256) (r : FiltRes) (w base fill c k : Nat), s.live = true → s.canTakes n f = true → (s.role = .basin → s.isPdu n f = false) → u = (State.advance dt s).canCounters n tec rec → u.filter n f = r → (s.role = .basin ∨ r.dec = false) → r.act = w + 1 →
    w < 2 → fill = s.get (fillFld n w) → c = s.winCount n w → base = s.winBase n w + 80 * ((((s.canUnit n).fifo w).get + fill) % c) → fill < c →
    k = ((s.canUnit n).rseq + 1) % 65536 → base + 80 ≤ 65536 → n.val < s.can.units.length →
    GoesTo (exec (.canFrameRx dt n f ago false tec rec) s) fun t => t.get (fillFld n w) = fill + 1 ∧
      (∀ i, i < 80 → ramByte t.can.ram (base + i) = BitVec.ofNat 8 ((rxElem f r.fidx r.anmf (((State.advance dt s).time.ext - ago) % 2 ^ 32) k).getD i 0)) ∧
      (∀ a, ¬ (base ≤ a ∧ a < base + 80) → ramByte t.can.ram a = ramByte s.can.ram a) ∧ s.RegsBut [(F.CAN_ECR.TEC n).off, (fillFld n w).off] t) ∧
  (∀ (s u : State) (dt : Nat) (n : Fin 4) (f : CanFrame) (ago : Nat) (tec rec : Fin 256) (r : FiltRes) (w : Nat), s.live = true → s.canTakes n f = true → (s.role = .basin → s.isPdu n f = false) → u = (State.advance dt s).canCounters n tec rec → u.filter n f = r → (s.role = .basin ∨ r.dec = false) → r.act = w + 1 →
    w < 2 → s.winCount n w ≤ s.get (fillFld n w) → s.flag (if w = 0 then F.CAN_CTRL.RXF0_OW n else F.CAN_CTRL.RXF1_OW n) = false →
    GoesTo (exec (.canFrameRx dt n f ago false tec rec) s) fun t => t.get (F.CAN_CNT0.RX_LOST n) = min (s.get (F.CAN_CNT0.RX_LOST n) + 1) (2 ^ (F.CAN_CNT0.RX_LOST n).w - 1) ∧ t.can.ram = s.can.ram ∧
      s.RegsBut ([(F.CAN_ECR.TEC n).off, (F.CAN_CNT0.RX_LOST n).off] ++ recCounters) t) ∧
  (∀ (s u : State) (dt : Nat) (n : Fin 4) (f : CanFrame) (ago : Nat) (tec rec : Fin 256) (r : FiltRes) (w base c k : Nat), s.live = true → s.canTakes n f = true → (s.role = .basin → s.isPdu n f = false) → u = (State.advance dt s).canCounters n tec rec → u.filter n f = r → (s.role = .basin ∨ r.dec = false) → r.act = w + 1 →
    w < 2 → c = s.winCount n w → 0 < c → c ≤ s.get (fillFld n w) → s.flag (if w = 0 then F.CAN_CTRL.RXF0_OW n else F.CAN_CTRL.RXF1_OW n) = true → ((s.canUnit n).fifo w).lockAt = none →
    base = s.winBase n w + 80 * (((s.canUnit n).fifo w).get % c) → k = ((s.canUnit n).rseq + 1) % 65536 → base + 80 ≤ 65536 → n.val < s.can.units.length →
    GoesTo (exec (.canFrameRx dt n f ago false tec rec) s) fun t => ((t.canUnit n).fifo w).get = (((s.canUnit n).fifo w).get + 1) % c ∧
      (∀ i, i < 80 → ramByte t.can.ram (base + i) = BitVec.ofNat 8 ((rxElem f r.fidx r.anmf (((State.advance dt s).time.ext - ago) % 2 ^ 32) k).getD i 0)) ∧
      (∀ a, ¬ (base ≤ a ∧ a < base + 80) → ramByte t.can.ram a = ramByte s.can.ram a) ∧ s.RegsBut [(F.CAN_ECR.TEC n).off] t) ∧
  (∀ (s u : State) (dt : Nat) (n : Fin 4) (f : CanFrame) (ago : Nat) (tec rec : Fin 256) (r : FiltRes) (base k : Nat), s.live = true → s.canTakes n f = true → (s.role = .basin → s.isPdu n f = false) → u = (State.advance dt s).canCounters n tec rec → u.filter n f = r → (s.role = .basin ∨ r.dec = false) → r.act = 4 →
    r.buf < 64 → r.buf < s.winCount n 2 → (s.canUnit n).rxbLock = none → base = s.winBase n 2 + 80 * r.buf → k = ((s.canUnit n).rseq + 1) % 65536 → base + 80 ≤ 65536 → n.val < s.can.units.length →
    GoesTo (exec (.canFrameRx dt n f ago false tec rec) s) fun t => (t.get (newFld n r.buf)).testBit (r.buf % 32) = true ∧
      (∀ i, i < 80 → ramByte t.can.ram (base + i) = BitVec.ofNat 8 ((rxElem f r.fidx false (((State.advance dt s).time.ext - ago) % 2 ^ 32) k).getD i 0)) ∧
      (∀ a, ¬ (base ≤ a ∧ a < base + 80) → ramByte t.can.ram a = ramByte s.can.ram a) ∧ s.RegsBut [(F.CAN_ECR.TEC n).off, (newFld n r.buf).off] t) ∧
  (∀ (s : State) (dt : Nat) (n : Fin 4) (f : CanFrame) (ago : Nat) (exc : Bool) (tec rec : Fin 256), s.live = true →
    (s.canHears n = true → exc = true → GoesTo (exec (.canFrameRx dt n f ago exc tec rec) s) fun t => t = s.confine ((State.advance dt s).raise Ev.PROTOCOL_EXC [n])) ∧
    (s.canHears n = false ∨ exc = false ∧ s.canTakes n f = false → GoesTo (exec (.canFrameRx dt n f ago exc tec rec) s) fun t => t = State.advance dt s)) ∧
  (∀ (s : State) (dt : Nat), s.live = true → s.role = .spring → s.can.pack.doneAt.isSome = true → s.flag F.CAN_PACK_STAT.STALE = false → s.staleMs < (State.advance dt s).bmsAge →
    GoesTo (exec (.bmsStale dt) s) fun t => t.get F.CAN_PACK_STAT.STALE = 1 ∧ t.can.pack.staleAt = s.time.cyc + dt ∧ s.RegsBut (F.CAN_PACK_STAT.STALE.off :: recCounters) t) ∧
  (∀ s : State, s.live = true → s.role = .spring → GoesTo (exec .packRecRead s) fun t => (∀ i, i < 10 → t.get (F.CAN_PACK_REC.WORD i) = s.can.pack.std.getD i 0 % 2 ^ 32) ∧
      s.RegsBut ((List.range 10).map (fun i => (F.CAN_PACK_REC.WORD i).off)) t ∧ t.recd = s.recd)

/-- R237, R238, R249 to R256, R265: what happens to one port; `p` is any port the device's role has. -/
def Obligations.PortEvents : Prop :=
  (∀ (s : State) (dt v : Nat) (p : Fin 12), s.live = true → s.hasPort p = true → osetCode v = 1 → osetOk v = true → s.portSt p = 1 ∨ s.portSt p = 3 →
    (bitOf v 4 = false ∨ s.flag (F.LNK_PSTAT.LOCK p) = false → GoesTo (exec (.train dt p v) s) fun t => t.get (F.LNK_PSTAT.PEER_LOCKED p) = b2n (bitOf v 4) ∧ t.portSt p = s.portSt p ∧
      t.out = (if s.flag (F.LNK_PSTAT.LOCK p) then s.out ++ s.burstOut p else s.out) ∧ s.RegsBut [(F.LNK_PSTAT.PEER_LOCKED p).off] t) ∧
    (bitOf v 4 = true → s.flag (F.LNK_PSTAT.LOCK p) = true → GoesTo (exec (.train dt p v) s) fun t => ∃ u : State, t = s.confine (u.goUp p) ∧ u.get (F.LNK_PSTAT.PEER_LOCKED p) = 1 ∧
      s.RegsBut [(F.LNK_PSTAT.PEER_LOCKED p).off] u)) ∧
  (∀ (s : State) (dt v : Nat) (p : Fin 12), s.live = true → s.hasPort p = true → osetCode v = 1 → osetOk v = true → s.portSt p = 2 →
    GoesTo (exec (.train dt p v) s) fun t => t.portSt p = 1 ∧ t.get (F.LNK_PSTAT.PEER_LOCKED p) = b2n (bitOf v 4) ∧ t.get (F.LNK_PSTAT.CDR p) = 0 ∧ t.out = s.out ++ s.burstOut p ∧ s.RegsBut (trainRegs p) t) ∧
  (∀ (s : State) (dt v : Nat) (p : Fin 12), s.live = true → s.hasPort p = true → (osetCode v = 1 ∧ osetOk v = false) ∨ osetCode v ∉ [1, 2, 0xA] →
    GoesTo (exec (.train dt p v) s) fun t => t.get (F.LNK_CRC_ERR.COUNT p) = min (s.get (F.LNK_CRC_ERR.COUNT p) + 1) (2 ^ (F.LNK_CRC_ERR.COUNT p).w - 1) ∧
      s.RegsBut [(F.LNK_CRC_ERR.COUNT p).off] t ∧ t.lnk = s.lnk ∧ t.out = s.out) ∧
  (∀ (s : State) (dt v : Nat) (p : Fin 12), s.live = true → s.hasPort p = true → (osetCode v = 2 ∧ osetOk v = false) ∨ osetCode v ∉ [1, 2, 0xA] →
    GoesTo (exec (.eiEnter dt p v) s) fun t => t.get (F.LNK_CRC_ERR.COUNT p) = min (s.get (F.LNK_CRC_ERR.COUNT p) + 1) (2 ^ (F.LNK_CRC_ERR.COUNT p).w - 1) ∧
      s.RegsBut [(F.LNK_CRC_ERR.COUNT p).off] t ∧ t.lnk = s.lnk ∧ t.out = s.out) ∧
  (∀ (s : State) (dt : Nat) (p : Fin 12), s.live = true → s.hasPort p = true → (s.portSt p = 1 ∨ s.portSt p = 3) → (s.lport p).burstAt + 5000 ≤ s.time.cyc + dt →
    GoesTo (exec (.trainRetry dt p) s) fun t => t.out = s.out ++ s.burstOut p ∧ t.regs = s.regs) ∧
  (∀ (s : State) (dt : Nat) (p : Fin 12), s.live = true → s.hasPort p = true → s.portSt p = 1 ∨ s.portSt p = 3 →
    (s.flag (F.LNK_PSTAT.PEER_LOCKED p) = false → GoesTo (exec (.blockLock dt p) s) fun t => t.get (F.LNK_PSTAT.LOCK p) = 1 ∧ t.portSt p = s.portSt p ∧ s.RegsBut [(F.LNK_PSTAT.LOCK p).off] t ∧ t.out = s.out) ∧
    (s.flag (F.LNK_PSTAT.PEER_LOCKED p) = true → GoesTo (exec (.blockLock dt p) s) fun t => ∃ u : State, t = s.confine (u.goUp p) ∧ u.get (F.LNK_PSTAT.LOCK p) = 1 ∧ s.RegsBut [(F.LNK_PSTAT.LOCK p).off] u)) ∧
  (∀ (s : State) (dt : Nat) (p : Fin 12) (cause : Fin 2) (hdrs : Nat), s.live = true → s.hasPort p = true → s.portSt p = 2 →
    GoesTo (exec (.linkLoss dt p cause hdrs) s) fun t => ∃ u : State, t = s.confine (u.linkReport p 1) ∧ u.portSt p = 3 ∧ u.get (F.LNK_PSTAT.LOCK p) = 0 ∧
      u.get (F.LNK_LOSS_CNT.COUNT p) = min (s.get (F.LNK_LOSS_CNT.COUNT p) + 1) (2 ^ (F.LNK_LOSS_CNT.COUNT p).w - 1) ∧
      u.get (F.LNK_HDR_ERR.COUNT p) = min (s.get (F.LNK_HDR_ERR.COUNT p) + hdrs) (2 ^ (F.LNK_HDR_ERR.COUNT p).w - 1) ∧
      (s.role = .basin → s.chainOfPort p ≠ p → u.get (F.LNK_CHAIN.SECOND_PATH (s.chainOfPort p)) = 0) ∧ (s.chainOfPort p = p →
        s.RegsBut ([(F.LNK_PSTAT.STATE p).off, (F.LNK_LOSS_CNT.COUNT p).off, (F.LNK_HDR_ERR.COUNT p).off, (F.LNK_CRC_ERR.COUNT p).off] ++ recCounters) u) ∧ u.out = s.out) ∧
  (∀ (s : State) (dt v : Nat) (p : Fin 12), s.live = true → s.hasPort p = true → s.portSt p ≠ 0 → osetCode v = 2 → osetOk v = true →
    GoesTo (exec (.eiEnter dt p v) s) fun t => ∃ u : State, t = s.confine (u.linkReport p 2) ∧ u.portSt p = 0 ∧ u.get (F.LNK_PSTAT.LOCK p) = 0 ∧
      (s.role = .basin → s.chainOfPort p ≠ p → u.get (F.LNK_CHAIN.SECOND_PATH (s.chainOfPort p)) = 0) ∧ (s.chainOfPort p = p →
        s.RegsBut ([(F.LNK_PSTAT.STATE p).off, (F.LNK_LOSS_CNT.COUNT p).off] ++ recCounters) u) ∧ u.out = s.out) ∧
  (∀ (s : State) (dt : Nat) (p : Fin 12), s.live = true → s.hasPort p = true → s.portSt p ≠ 0 → s.flag (F.LNK_PSTAT.CDR p) = false →
    GoesTo (exec (.clkFallback dt p) s) fun t => t.get (F.LNK_PSTAT.CDR p) = 1 ∧ t.portSt p = s.portSt p ∧ s.RegsBut ((F.LNK_PSTAT.CDR p).off :: pllHoldRegs .s) t) ∧
  (∀ (s : State) (p : Fin 12), s.live = true → s.hasPort p = true → s.flag (F.LNK_PSTAT.CDR p) = true →
    GoesTo (exec (.clkRestore p true) s) fun t => t.get (F.LNK_PSTAT.CDR p) = 0 ∧ s.RegsBut ((F.LNK_PSTAT.CDR p).off :: pllHoldRegs .s) t) ∧
  (∀ s : State, ∀ p : Fin 12, s.live = true → GoesTo (exec (.clkRestore p false) s) fun t => t = s) ∧
  (∀ (s : State) (p : Fin 12), s.live = true → s.hasPort p = true → s.portSt p ≠ 0 → s.portSt p ≠ 4 →
    GoesTo (exec (.retrain p) s) fun t => t.portSt p = 1 ∧ t.get (F.LNK_PSTAT.CDR p) = 0 ∧ t.get (F.LNK_PSTAT.PEER_LOCKED p) = 0 ∧ t.out = s.out ++ s.burstOut p ∧ s.RegsBut (trainRegs p) t) ∧
  (∀ (s : State) (p : Fin 12), s.live = true → s.hasPort p = true → s.portSt p = 0 →
    GoesTo (exec (.portLeaveIdle p) s) fun t => t.get (F.LNK_PCTRL.EN p) = 1 ∧ t.portSt p = 1 ∧ t.out = s.out ++ s.burstOut p ∧ s.RegsBut ((F.LNK_PCTRL.EN p).off :: trainRegs p) t) ∧
  (∀ (s : State) (p : Fin 12) (errs : Nat) (enr : Bool), s.live = true → s.hasPort p = true → enr = (match s.role with | .spring => s.flag F.LNK_SPOS.ENROLLED | .basin => s.chainEnrolled (s.chainOfPort p)) →
    (s.portSt p = 0 ∨ s.portSt p = 2 ∧ enr = false → s.flag (F.LNK_PRBS_CTRL.GEN p) = false →
      GoesTo (exec (.prbsGen p true errs) s) fun t => t.get (F.LNK_PRBS_CTRL.GEN p) = 1 ∧ t.portSt p = 4 ∧ t.out = s.out ∧
        s.RegsBut [(F.LNK_PRBS_CTRL.GEN p).off, (F.LNK_PSTAT.STATE p).off, (F.LNK_PRBS_ERR.COUNT p).off] t) ∧
    (¬ (s.portSt p = 0 ∨ s.portSt p = 2 ∧ enr = false) → s.flag (F.LNK_PRBS_CTRL.GEN p) = false →
      GoesTo (exec (.prbsGen p true errs) s) fun t => s.RegsBut [(F.LNK_PRBS_ERR.COUNT p).off] t ∧ t.out = s.out) ∧
    (s.flag (F.LNK_PRBS_CTRL.GEN p) = true → GoesTo (exec (.prbsGen p false errs) s) fun t => t.get (F.LNK_PRBS_CTRL.GEN p) = 0 ∧ t.portSt p = 1 ∧ t.out = s.out ++ s.burstOut p) ∧
    (∀ g : Bool, (s.lport p).chkAt.isSome = true → GoesTo (exec (.prbsGen p g errs) s) fun t =>
      t.get (F.LNK_PRBS_ERR.COUNT p) = min (s.get (F.LNK_PRBS_ERR.COUNT p) + errs) (2 ^ (F.LNK_PRBS_ERR.COUNT p).w - 1)) ∧
    GoesTo (exec (.prbsClear p errs) s) fun t => t.get (F.LNK_PRBS_ERR.COUNT p) = 0 ∧ t.get (F.LNK_PRBS_CNT.COUNT p) = 0 ∧ s.RegsBut [(F.LNK_PRBS_ERR.COUNT p).off, (F.LNK_PRBS_CNT.COUNT p).off] t)

/-- R240, R244 to R247, R260, R587, R588: frames held, freed, resent, failed, forwarded and relayed. -/
def Obligations.MgmtTransport : Prop :=
  (∀ (s : State) (dt q n : Nat) (port : Fin 2) (bs : List Block), s.live = true → s.role = .spring → s.portUp port = true → q = 1 - port.val → s.forwards (hear bs).bytes = true → n = (hear bs).bytes.length →
    (s.portUp q = false → GoesTo (exec (.frameForward dt port bs) s) fun t => t.out = s.out ∧ s.RegsBut (hearRegs port) t) ∧
    (s.portUp q = true → ¬ (ftypeOf (hear bs).bytes = ftMGMT ∧ ((State.advance dt s).lane q).jobs ≠ [] ∧ 8192 < ((State.advance dt s).lane q).stored + n) →
      GoesTo (exec (.frameForward dt port bs) s) fun t => t.out = (if s.lanesOff then s.out else s.out ++ [.blocks q (ownBlocks {} bs)]) ∧ s.RegsBut (hearRegs port) t) ∧
    (s.portUp q = true → ftypeOf (hear bs).bytes = ftMGMT → ((State.advance dt s).lane q).jobs ≠ [] → 8192 < ((State.advance dt s).lane q).stored + n →
      GoesTo (exec (.frameForward dt port bs) s) fun t => t.out = s.out ∧ t.get (F.LNK_FWD_OVF.COUNT q) = min (s.get (F.LNK_FWD_OVF.COUNT q) + 1) (2 ^ (F.LNK_FWD_OVF.COUNT q).w - 1) ∧
        s.RegsBut ((F.LNK_FWD_OVF.COUNT q).off :: (hearRegs port ++ recCounters)) t)) ∧
  (∀ (s : State) (dt : Nat) (port : Fin 12) (bs : List Block), s.live = true → s.hasPort port = true → s.portUp port = true → (hear bs).good = false →
    GoesTo (exec (.ack dt port bs) s) fun t => t.get (F.LNK_CRC_ERR.COUNT port) = min (s.get (F.LNK_CRC_ERR.COUNT port) + (hear bs).count) (2 ^ (F.LNK_CRC_ERR.COUNT port).w - 1) ∧
      s.RegsBut (hearRegs port) t ∧ t.lnk = s.lnk ∧ t.out = s.out) ∧
  (∀ (s : State) (dt : Nat) (port : Fin 12) (bs : List Block) (m : Mgmt) (x : MOut), s.Hears port bs m → m.op = 0x05 → (s.peer m.src).unacked.find? (fun x => x.m.mseq == m.param) = some x → (s.peer m.src).waiting = [] →
    ¬ (x.m.op = 0x20 ∧ chunkKind x.m.param = 3) →
    GoesTo (exec (.ack dt port bs) s) fun t => (t.peer m.src).unacked = (s.peer m.src).unacked.filter (fun y => y.m.mseq != m.param) ∧ (t.peer m.src).resends = 0 ∧
      t.lnk.awaits = s.lnk.awaits ++ (if wantsResponse x.m then [⟨m.src, x.m.op, m.param, x.m.param, x.owner, s.time.cyc + dt⟩] else []) ∧ s.RegsBut (hearRegs port) t ∧ t.out = s.out) ∧
  (∀ (s : State) (dt : Nat) (port : Fin 12) (bs : List Block) (m : Mgmt) (x : MOut) (id w c : Nat), s.Hears port bs m → m.op = 0x06 → (s.peer m.src).unacked.find? (fun x => x.m.mseq == m.param) = some x →
    (s.peer m.src).waiting = [] → x.owner = .infl id w c →
    GoesTo (exec (.nak dt port bs) s) fun t => ∃ u : State, t = s.confine (u.remoteNak id (m.payload.getD 0 0)) ∧
      (u.peer m.src).unacked = (s.peer m.src).unacked.filter (fun y => y.m.mseq != m.param) ∧ s.RegsBut (hearRegs port) u ∧ u.host = s.host ∧ u.out = s.out) ∧
  (∀ (s : State) (dt dest : Nat), s.live = true → (∃ x ∈ (s.peer dest).unacked, x.at' + 5000 * s.get F.LNK_MGMT_CFG.TMO ≤ s.time.cyc + dt) → (s.peer dest).resends < s.get F.LNK_MGMT_CFG.RETRY →
    GoesTo (exec (.mgmtTimeout dt dest) s) fun t => (t.peer dest).resends = (s.peer dest).resends + 1 ∧ (t.peer dest).unacked = (s.peer dest).unacked.map (fun x => { x with at' := s.time.cyc + dt }) ∧
      t.out = (if s.lanesOff then s.out else s.out ++ (s.peer dest).unacked.flatMap (fun x => (s.mgmtPorts dest).map (fun p => OutMsg.frame p (wireBytes (.mgmt x.m))))) ∧
      s.RegsBut ((s.mgmtPorts dest).map (fun p => (F.LNK_MGMT_RETRY.COUNT p).off)) t) ∧
  (∀ (s : State) (dt dest : Nat), s.live = true → (∃ x ∈ (s.peer dest).unacked, x.at' + 5000 * s.get F.LNK_MGMT_CFG.TMO ≤ s.time.cyc + dt) → s.get F.LNK_MGMT_CFG.RETRY ≤ (s.peer dest).resends →
    GoesTo (exec (.mgmtTimeout dt dest) s) fun t => ∃ u : State, t = s.confine (u.ownersFail ((s.peer dest).unacked ++ (s.peer dest).waiting)) ∧
      (u.peer dest).unacked = [] ∧ (u.peer dest).waiting = [] ∧ (u.peer dest).restart = true ∧ s.RegsBut recCounters u ∧ u.out = s.out) ∧
  (∀ (s : State) (dt dest mseq : Nat) (a : Await), s.live = true → s.lnk.awaits.find? (fun a => a.dest == dest && a.mseq == mseq) = some a →
    a.at' + (s.get F.LNK_MGMT_CFG.RETRY + 2) * (5000 * s.get F.LNK_MGMT_CFG.TMO) ≤ s.time.cyc + dt →
    GoesTo (exec (.responseTimeout dt dest mseq) s) fun t => ∃ u : State, t = s.confine (u.ownerFails a.owner) ∧
      u.lnk.awaits = s.lnk.awaits.filter (fun b => !(b.dest == dest && b.mseq == mseq)) ∧ s.RegsBut recCounters u) ∧
  (∀ (s : State) (dt : Nat) (port : Fin 12) (bs : List Block) (m : Mgmt), s.HearsFrame port bs ftMGMT → s.role = .basin → mgmtOf (hear bs).bytes = some m → m.relayed = false → m.addr < 192 →
    m.addr / 16 ≠ port.val → s.portUp (m.addr / 16) = true →
    GoesTo (exec (.ack dt port bs) s) fun t => t.out = (if s.lanesOff then s.out else s.out ++ [.frame (m.addr / 16) (wireBytes (.mgmt { m with relayed := true }))]) ∧ s.RegsBut (hearRegs port) t)

/-- R252, R253, R257, R258: enrolment, its end, and what the chain reports. -/
def Obligations.EnrolmentAndReports : Prop :=
  (∀ (s : State) (dt : Nat) (port : Fin 2) (bs : List Block) (m : Mgmt) (pos : Nat), s.HearsFrame port bs ftMGMT → mgmtOf (hear bs).bytes = some m → s.role = .spring → m.op = 0x10 → m.addr = 0xFF →
    s.get F.LNK_SPOS.ENROLLED = 0 → (pos : Int) = (if bitOf m.param 0 then (bytesAt m.payload 2 1 : Int) - m.hop else m.hop + 1) → 1 ≤ pos → pos ≤ bytesAt m.payload 2 1 → pos < 32 → 16 * m.chain + pos ≤ 256 →
    GoesTo (exec (.enrolReq dt port bs) s) fun t => ∃ u v : State, v = (u.startStep 4).enrolAnswer m 0x11 (b2n (bitOf m.param 0)) (replyBytes u.replyNow) ∧
      t = s.confine (v.when (v.portUp (1 - port.val)) fun v => v.sendFrame (1 - port.val) (.mgmt { m with hop := (m.hop + 1) % 256 })) ∧
      u.get F.LNK_SPOS.ENROLLED = 1 ∧ u.get F.LNK_SPOS.INDEX = 16 * m.chain + pos - 1 ∧ u.get F.LNK_SPOS.POSITION = pos ∧
      u.get F.LNK_SPOS.A_PORT = (if bitOf m.param 0 then 1 - port.val else port.val) ∧
      u.get (F.LNK_PSTAT.FACES_A (u.get F.LNK_SPOS.A_PORT)) = 1 ∧ u.get (F.LNK_PSTAT.FACES_A (1 - u.get F.LNK_SPOS.A_PORT)) = 0 ∧ u.out = s.out ∧
      s.RegsBut ([F.LNK_SPOS.ENROLLED.off, (F.LNK_PSTAT.FACES_A 0).off, (F.LNK_PSTAT.FACES_A 1).off] ++ hearRegs port) u) ∧
  (∀ (s : State) (dt : Nat) (port : Fin 2) (bs : List Block) (m : Mgmt) (pos : Int), s.HearsFrame port bs ftMGMT → mgmtOf (hear bs).bytes = some m → s.role = .spring → m.op = 0x10 → m.addr = 0xFF →
    s.get F.LNK_SPOS.ENROLLED = 0 → pos = (if bitOf m.param 0 then (bytesAt m.payload 2 1 : Int) - m.hop else m.hop + 1) → pos < 1 ∨ (bytesAt m.payload 2 1 : Int) < pos →
    GoesTo (exec (.enrolReq dt port bs) s) fun t => t.get F.LNK_SPOS.ENROLLED = 0 ∧ s.RegsBut (hearRegs port ++ recCounters) t ∧ t.gate = s.gate ∧
      ∃ u v : State, v = (u.enrolAnswer m 0x12 m.hop []).raise Ev.ENROL_REJECT [m.hop, bytesAt m.payload 2 1] ∧ u.out = s.out ∧
        t = s.confine (v.when (v.portUp (1 - port.val)) fun v => v.sendFrame (1 - port.val) (.mgmt { m with hop := (m.hop + 1) % 256 }))) ∧
  (∀ (s : State) (dt : Nat) (port : Fin 2) (bs : List Block) (m : Mgmt), s.HearsFrame port bs ftMGMT → mgmtOf (hear bs).bytes = some m → s.role = .spring → m.op = 0x10 → m.addr = 0xFF → s.get F.LNK_SPOS.ENROLLED = 1 →
    GoesTo (exec (.enrolReq dt port bs) s) fun t => s.RegsBut (hearRegs port) t ∧ t.recd = s.recd ∧ t.gate = s.gate ∧ ∃ u v : State, u.out = s.out ∧
      v = u.enrolAnswer m 0x11 (b2n (bitOf m.param 0) + (if (s.get F.LNK_SPOS.INDEX : Int) = 16 * m.chain + (if bitOf m.param 0 then (bytesAt m.payload 2 1 : Int) - m.hop else m.hop + 1) - 1 then 2 else 4)) (replyBytes u.replyNow) ∧
      t = s.confine (v.when (v.portUp (1 - port.val)) fun v => v.sendFrame (1 - port.val) (.mgmt { m with hop := (m.hop + 1) % 256 }))) ∧
  (∀ (s : State) (dt : Nat) (port : Fin 12) (bs : List Block) (m : Mgmt) (r : EnrolReply), s.Hears port bs m → s.role = .basin → m.op = 0x11 → r = replyOf m.payload →
    s.dispatches = true → m.chain < 12 → r.index / 16 = m.chain →
    (bitOf m.param 2 = false → GoesTo (exec (.enrolReply dt port bs) s) fun t => ∃ u : State, t = s.confine (u.enrolCheck m.chain) ∧
      u.enrOf r.index = some ⟨r.index, some r.epoch, r.serial, r.ports⟩ ∧ (m.chain < s.lnk.chains.length → r.position ∈ (u.chain m.chain).replied)) ∧
    (bitOf m.param 2 = true → GoesTo (exec (.enrolReply dt port bs) s) fun t => t.lnk.enrolled = s.lnk.enrolled ∧ t.lnk.chains = s.lnk.chains ∧ s.RegsBut (hearRegs port ++ recCounters) t ∧ t.out = s.out ∧
      (bitOf m.param 1 = false → (t.peer r.index).rx = none))) ∧
  (∀ (s : State) (dt : Nat) (chain : Fin 12) (at_ : Nat), s.live = true → s.role = .basin → (s.chain chain).startedAt = some at_ → at_ + 500000 ≤ s.time.cyc + dt →
    GoesTo (exec (.enrolMismatch dt chain) s) fun t => ∃ u : State, t = s.confine (u.enrolFar chain) ∧ u.get (F.LNK_CHAIN.ENROLLED chain) = 1 ∧
      (chain.val < s.lnk.chains.length → (u.chain chain).startedAt = none) ∧
      (∀ i, i < s.get (F.LNK_CHAIN.NSPR chain) → i + 1 ∉ (s.chain chain).replied → 16 * chain.val + i ∈ u.ctl.lost ∧ (u.enrOf (16 * chain.val + i)).isSome = true) ∧
      s.RegsBut ((F.LNK_CHAIN.ENROLLED chain).off :: recCounters) u) ∧
  (∀ (s : State) (dt c : Nat) (port : Fin 12) (bs : List Block) (m : Mgmt), s.Hears port bs m → s.role = .basin → m.op = 0x13 →
    (m.src < 192 ∧ c = m.src / 16) ∨ ((m.src = 0xC0 ∨ m.src = 0xC1) ∧ c = m.chain) → c < 12 → c < s.lnk.chains.length →
    (m.payload.getD 1 0 ≠ 0 → GoesTo (exec (.linkReport dt port bs) s) fun t => (m.src, m.payload.getD 0 0) ∈ (t.chain c).downLinks ∧
      s.RegsBut ((F.LNK_CHAIN.SECOND_PATH c).off :: hearRegs port) t ∧ t.recd = s.recd ∧ t.out = s.out) ∧
    (m.payload.getD 1 0 = 0 → GoesTo (exec (.linkReport dt port bs) s) fun t => ∃ u : State, t = s.confine (u.enrolChain c) ∧
      (m.src, m.payload.getD 0 0) ∉ (u.chain c).downLinks ∧ s.RegsBut ((F.LNK_CHAIN.SECOND_PATH c).off :: hearRegs port) u ∧ u.recd = s.recd ∧ u.out = s.out)) ∧
  (∀ (s : State) (dt : Nat) (port : Fin 12) (bs : List Block) (m : Mgmt), s.Hears port bs m → s.role = .basin → m.op = 0x14 →
    GoesTo (exec (.farReport dt port bs) s) fun t => t.get (F.LNK_CHAIN.SECOND_PATH port) = 1 ∧ s.RegsBut ((F.LNK_CHAIN.SECOND_PATH port).off :: hearRegs port) t ∧
      ∀ c, c < 12 → c < s.lnk.chains.length → t.chain c = (if (s.chain c).farTick = some s.tickNow then s.chain c
        else { s.chain c with farTick := some s.tickNow, farArrived := bitOf (bytesAt m.payload (2 * c) 2) 0, farFirst := bitsOf (bytesAt m.payload (2 * c) 2) 8 5 }))

/-- R9, R10, R246, R329, R335, R348: words written and read by the host and over the chain. -/
def Obligations.RegisterAccess : Prop :=
  (∀ (s : State) (dt o : Nat) (v : Word) (w : WrIn) (r : RegRow), s.live = true → s.role = .basin →
    0xC00C ≤ o ∧ o < 0x10000 ∨ 0x10020 ≤ o ∧ o < 0x14000 ∨ 0x1A000 ≤ o ∧ o < 0x1C000 ∧ o ≠ F.THM_HS_MAP.SRC.off →
    o % 4 = 0 → rowAt o = some r → rowLive s.role r o = true →
    GoesTo (exec (.registerWrite dt o 4 [v] w) s) fun t => t.rd o = r.fields.foldl (fieldWrite s.cfgLocked ((State.advance dt s).freshBits o) v.toNat) (s.rd o) ∧
      s.RegsBut (o :: F.SAFE_CRC.CRC.off :: recCounters) t ∧ t.out = s.out) ∧
  (∀ (s : State) (dt off len : Nat) (ws : List Word) (w : WrIn), s.live = true → s.role = .basin → off % 4 ≠ 0 ∨ len % 4 ≠ 0 ∨ len < 4 →
    GoesTo (exec (.registerWrite dt off len ws w) s) fun t => t = State.advance dt s) ∧
  (∀ (s : State) (dt off len : Nat) (ws : List Word) (w : WrIn), s.live = true → s.role = .spring → GoesTo (exec (.registerWrite dt off len ws w) s) fun t => t = s) ∧
  (∀ (s : State) (dt : Nat) (port : Fin 12) (bs : List Block) (m : Mgmt), s.Hears port bs m → s.InOrder m → m.op = 0x01 → m.payload.length = 2 → 1 ≤ bytesAt m.payload 0 2 → bytesAt m.payload 0 2 ≤ 64 →
    inBlock m.param = true → s.updating = false →
    GoesTo (exec (.rdReq dt port bs) s) fun t => ∃ (u v : State) (l : List Nat), State.readWords (bytesAt m.payload 0 2) m.param (u.ackFrame m) = (v, l) ∧
      t = s.confine (v.sendSeq m.src 0x02 m.param (l.flatMap (leBytes 4)) .none) ∧ (u.peer m.src).rx = some m.mseq ∧ s.RegsBut (hearRegs port) u ∧ u.out = s.out) ∧
  (∀ (s : State) (dt : Nat) (port : Fin 12) (bs : List Block) (m : Mgmt) (reason : Nat), s.Hears port bs m → s.InOrder m →
    (opKnown m.op = false ∧ reason = 1) ∨ (m.op = 0x01 ∧ (m.payload.length ≠ 2 ∨ bytesAt m.payload 0 2 = 0 ∨ 64 < bytesAt m.payload 0 2) ∧ reason = 2) ∨
      (m.op = 0x01 ∧ m.payload.length = 2 ∧ 1 ≤ bytesAt m.payload 0 2 ∧ bytesAt m.payload 0 2 ≤ 64 ∧ ((inBlock m.param = false ∧ reason = 3) ∨ (inBlock m.param = true ∧ s.updating = true ∧ reason = 4))) →
    GoesTo (exec (.rdReq dt port bs) s) fun t => ∃ u : State, t = s.confine (u.sendNak m reason) ∧ (u.peer m.src).rx = some m.mseq ∧ s.RegsBut (hearRegs port) u ∧ u.out = s.out) ∧
  (∀ (s : State) (dt : Nat) (port : Fin 12) (bs : List Block) (m : Mgmt) (w : WrIn) (n k : Nat), s.Hears port bs m → s.InOrder m → m.op = 0x03 → n = m.payload.length / 4 → m.payload.length % 4 = 0 → 1 ≤ n → n ≤ 64 →
    inBlock m.param = true → s.updating = false → k = wordsIn n m.param → s.resets m.param (payloadWords m.payload) = false →
    GoesTo (exec (.wrReq dt port bs w) s) fun t => ∃ u : State,
      t = s.confine ((State.writeWords w m.param ((payloadWords m.payload).take k) (u.beforeWrite.ackFrame m)).sendSeq m.src 0x04 (if k = n then m.param else k * 2 ^ 16 + m.param % 2 ^ 16) [] .none) ∧
      (u.peer m.src).rx = some m.mseq ∧ s.RegsBut (hearRegs port) u ∧ u.out = s.out) ∧
  (∀ (s : State) (dt : Nat) (port : Fin 12) (bs : List Block) (m : Mgmt) (w : WrIn) (n reason : Nat), s.Hears port bs m → s.InOrder m → m.op = 0x03 → n = m.payload.length / 4 →
    ((m.payload.length % 4 ≠ 0 ∨ n = 0 ∨ 64 < n) ∧ reason = 2) ∨ (m.payload.length % 4 = 0 ∧ 1 ≤ n ∧ n ≤ 64 ∧ ((inBlock m.param = false ∧ reason = 3) ∨ (inBlock m.param = true ∧ s.updating = true ∧ reason = 4))) →
    GoesTo (exec (.wrReq dt port bs w) s) fun t => ∃ u : State, t = s.confine (u.sendNak m reason) ∧ (u.peer m.src).rx = some m.mseq ∧ s.RegsBut (hearRegs port) u ∧ u.out = s.out) ∧
  (∀ (s : State) (dt : Nat) (port : Fin 12) (bs : List Block) (m : Mgmt) (w : WrIn), s.Hears port bs m → s.InOrder m → m.op = 0x03 → m.payload.length % 4 = 0 → 4 ≤ m.payload.length → m.payload.length ≤ 256 →
    inBlock m.param = true → s.updating = false → s.resets m.param (payloadWords m.payload) = true →
    GoesTo (exec (.wrReq dt port bs w) s) fun t => ∃ u : State,
      t = s.confine (State.writeWords w m.param ((payloadWords m.payload).take ((F.CMN_SWRST.KEY.off - m.param) / 4 + 1)) u) ∧ (u.peer m.src).rx = some m.mseq ∧ s.RegsBut (hearRegs port) u ∧ u.out = s.out) ∧
  (∀ (s : State) (dt : Nat) (port : Fin 12) (bs : List Block) (m : Mgmt) (a : Await) (id w c sent acked : Nat) (x : Infl), s.Hears port bs m → s.InOrder m → m.op = 0x02 →
    s.lnk.awaits.find? (fun a => a.dest == m.src && a.op == 0x01 && a.param == m.param) = some a → a.owner = .infl id w c →
    s.inflAt id = some x → x.q < 16 → x.phase = .mgmt sent acked → x.d.opcode = 0x18 → remCount x.d ≤ w + c →
    GoesTo (exec (.rdResp dt port bs) s) fun t => t.Ended id (if x.due = 0 then 0x00 else 0x03) 0 (acked + (payloadWords m.payload).length) ∧
      .hostWrite (x.d.buffer + 4 * w) (wordBytes (payloadWords m.payload)) ∈ t.out ∧ s.RegsBut (hearRegs port ++ cplRegs x.q) t) ∧
  (∀ (s : State) (dt : Nat) (port : Fin 12) (bs : List Block) (m : Mgmt) (a : Await) (id w c sent acked : Nat) (x : Infl), s.Hears port bs m → s.InOrder m → m.op = 0x04 →
    (s.lnk.awaits.find? (fun a => a.dest == m.src && a.op == 0x03 && a.param == m.param) = some a ∨
      (∀ b ∈ s.lnk.awaits, ¬ (b.dest = m.src ∧ b.op = 0x03 ∧ b.param = m.param)) ∧ s.lnk.awaits.find? (fun a => a.dest == m.src && a.op == 0x03 && a.param % 65536 == m.param % 65536) = some a) →
    a.owner = .infl id w c → s.inflAt id = some x → x.q < 16 → x.phase = .mgmt sent acked → x.d.opcode = 0x19 → remCount x.d ≤ w + c →
    GoesTo (exec (.wrAck dt port bs) s) fun t => t.Ended id (if x.due = 0 then 0x00 else 0x03) 0 (acked + (if m.param = a.param then c else bitsOf m.param 16 16)) ∧ s.RegsBut (hearRegs port ++ cplRegs x.q) t) ∧
  (∀ (s : State) (dt : Nat) (q : Fin 16) (x : Infl), s.Ready q 0x18 x → s.mgmtMay x = true → (x.d.target < 192 → s.unreachable x.d.target = false) → 1 ≤ remCount x.d →
    GoesTo (exec (.remoteRead dt q) s) fun t => t.inflAt x.id = some { x with phase := .mgmt (remCount x.d) 0 } ∧ t.regs = s.regs ∧
      t.Underway x.d.target 0x01 (remOffset x.d) (.infl x.id 0 (min 64 (remCount x.d)))) ∧
  (∀ (s : State) (dt : Nat) (q : Fin 16) (x : Infl) (buf : HostBuf) (ws : List Word), s.Ready q 0x19 x → coversUnlock x.d = false → s.mgmtMay x = true → (x.d.target < 192 → s.unreachable x.d.target = false) →
    (if bitOf x.d.flags 2 then HostBuf.words (payloadWords (x.d.param.drop 8)) else buf) = .words ws → 1 ≤ remCount x.d → remCount x.d ≤ ws.length →
    GoesTo (exec (.remoteWrite dt q buf) s) fun t => t.inflAt x.id = some { x with phase := .mgmt (remCount x.d) 0, data := ws } ∧ t.regs = s.regs ∧
      t.Underway x.d.target 0x03 (remOffset x.d) (.infl x.id 0 (min 64 (remCount x.d)))) ∧
  (∀ (s : State) (dt e : Nat) (q : Fin 16) (x : Infl) (buf : HostBuf), s.Ready q 0x19 x →
    (coversUnlock x.d = true → GoesTo (exec (.remoteWrite dt q buf) s) fun t => t.Ended x.id 0x32 0 0 ∧ t.out = s.out) ∧
    (coversUnlock x.d = false → s.mgmtMay x = true → (x.d.target < 192 → s.unreachable x.d.target = false) → bitOf x.d.flags 2 = false → buf = .failed e →
      GoesTo (exec (.remoteWrite dt q buf) s) fun t => t.Ended x.id 0x40 e 0 ∧ t.out = s.out) ∧
    (coversUnlock x.d = false → s.mgmtMay x = false → GoesTo (exec (.remoteWrite dt q buf) s) fun t => t = State.advance dt s)) ∧
  (∀ (s : State) (dt : Nat) (q : Fin 16) (x : Infl), s.Ready q 0x48 x → (s.pair x.q).noBuf = none → x.q < s.host.pairs.length →
    GoesTo (exec (.streamBuf dt q) s) fun t => t.inflAt x.id = some { x with phase := .posted } ∧ (t.pair x.q).bufs = (s.pair x.q).bufs ++ [⟨x.id, x.d.buffer, x.d.length, 0, 0, 0⟩] ∧
      t.regs = s.regs ∧ t.out = s.out)

/-- R505, R510 to R517: images loaded, swapped and pushed. -/
def Obligations.TableImages : Prop :=
  (∀ (s : State) (dt : Nat) (q : Fin 16) (x : Infl) (ws : List Word), s.Ready q 0x10 x → s.norUsable = true → bytesAt x.d.param 0 1 ≤ 1 → s.get F.TBL_STATUS.IN_FORCE ≠ bytesAt x.d.param 0 1 →
    x.d.length ≤ ws.length * 4 → bytesAt x.d.param 4 4 = 0 → imgLen (wordBytes ((ws.take (x.d.length / 4)).take 16)) ≤ 65536 * (s.bank (bytesAt x.d.param 0 1)).blocks →
    (if bitOf x.d.flags 3 then x.d.length = imgLen (wordBytes ((ws.take (x.d.length / 4)).take 16)) else x.d.length < imgLen (wordBytes ((ws.take (x.d.length / 4)).take 16))) →
    GoesTo (exec (.tableLoad dt q (.words ws)) s) fun t => t.tbl.load = some ⟨bytesAt x.d.param 0 1, x.d.length, imgLen (wordBytes ((ws.take (x.d.length / 4)).take 16))⟩ ∧
      t.inflAt x.id = some { x with phase := .working, data := ws.take (x.d.length / 4) } ∧ (t.bank (bytesAt x.d.param 0 1)).bytes = [] ∧ (t.bank (bytesAt x.d.param 0 1)).valid = false ∧
      t.get F.TBL_STATUS.LOAD_OPEN = 1 ∧ t.get F.TBL_STATUS.LOAD_BANK = bytesAt x.d.param 0 1 ∧ t.get (validFld (bytesAt x.d.param 0 1)) = 0) ∧
  (∀ (s : State) (dt : Nat) (q : Fin 16) (x : Infl) (ws : List Word) (l : LoadSt), s.Ready q 0x10 x → s.norUsable = true → bytesAt x.d.param 0 1 ≤ 1 → s.get F.TBL_STATUS.IN_FORCE ≠ bytesAt x.d.param 0 1 →
    x.d.length ≤ ws.length * 4 → bytesAt x.d.param 4 4 ≠ 0 → s.tbl.load = some l → l.bank = bytesAt x.d.param 0 1 → l.next = bytesAt x.d.param 4 4 →
    (if bitOf x.d.flags 3 then l.next + x.d.length = l.len else l.next + x.d.length < l.len) →
    GoesTo (exec (.tableLoad dt q (.words ws)) s) fun t => t.tbl.load = some { l with next := l.next + x.d.length } ∧
      t.inflAt x.id = some { x with phase := .working, data := ws.take (x.d.length / 4) } ∧ t.regs = s.regs ∧ t.nor = s.nor ∧ t.out = s.out) ∧
  (∀ (s : State) (dt : Nat) (q : Fin 16) (x : Infl) (l : LoadSt), s.live = true → s.role = .basin →
    s.host.infl.find? (fun y => y.sq == q.val && y.d.opcode == 0x10 && y.phase == .working) = some x → s.inflAt x.id = some x → x.q < 16 → s.nor.sag = false →
    s.tbl.load = some l → l.bank = bytesAt x.d.param 0 1 → bitOf x.d.flags 3 = false →
    GoesTo (exec (.tableLoadDone dt q) s) fun t => t.Ended x.id 0 0 0 ∧ (t.bank l.bank).bytes = (s.bank l.bank).bytes ++ wordBytes x.data ∧ s.RegsBut (cplRegs x.q) t) ∧
  (∀ (s : State) (dt : Nat) (q : Fin 16) (x : Infl) (l : LoadSt), s.live = true → s.role = .basin →
    s.host.infl.find? (fun y => y.sq == q.val && y.d.opcode == 0x10 && y.phase == .working) = some x → s.inflAt x.id = some x → x.q < 16 → s.nor.sag = false →
    s.tbl.load = some l → l.bank = bytesAt x.d.param 0 1 → bitOf x.d.flags 3 = true →
    imgCheck .bank (s.rd F.CMN_REV.REV.off).toNat ((s.bank l.bank).bytes ++ wordBytes x.data) = none →
    GoesTo (exec (.tableLoadDone dt q) s) fun t => t.Ended x.id 0 0 (imgGen ((s.bank l.bank).bytes ++ wordBytes x.data)) ∧
      (t.bank l.bank).bytes = (s.bank l.bank).bytes ++ wordBytes x.data ∧ (t.bank l.bank).valid = true ∧ t.tbl.load = none ∧ t.get F.TBL_STATUS.LOAD_OPEN = 0 ∧
      t.get (validFld l.bank) = 1 ∧ t.get (genFld l.bank) = imgGen ((s.bank l.bank).bytes ++ wordBytes x.data) % 2 ^ 32) ∧
  (∀ (s : State) (dt : Nat) (q : Fin 16) (x : Infl) (a : Nat), s.Ready q 0x11 x → bytesAt x.d.param 0 1 ≤ 1 → s.get F.TBL_STATUS.IN_FORCE ≠ bytesAt x.d.param 0 1 →
    (s.bank (bytesAt x.d.param 0 1)).valid = true → (s.tbl.img = [] ∨ 0 < toSigned 32 (imgGen (s.bank (bytesAt x.d.param 0 1)).bytes + 2 ^ 32 - imgGen s.tbl.img)) →
    (s.cfgLocked = false ∨ s.swapRwl (s.bank (bytesAt x.d.param 0 1)).bytes = false) → s.swapState (s.bank (bytesAt x.d.param 0 1)).bytes = false → s.tbl.swap = none →
    s.dispatches = true → s.ticking = true → applyTick s.nextTick x.d.applyTick = some a →
    GoesTo (exec (.tableSwap dt q) s) fun t => (∃ w, t.tbl.swap = some w ∧ w.id = x.id ∧ w.bank = bytesAt x.d.param 0 1 ∧ w.tick = a ∧ w.accepted = [] ∧ w.committed = [] ∧
        w.pushed = (s.lnk.enrolled.map (fun e => e.spring)).filter (fun sp => !s.ctl.lost.contains sp)) ∧
      t.inflAt x.id = some { x with due := a, phase := .queued a, data := payloadWords (s.bank (bytesAt x.d.param 0 1)).bytes } ∧
      s.RegsBut (F.TBL_STATUS.PUSHING.off :: recCounters) t) ∧
  (∀ (s : State) (dt : Nat) (q : Fin 16) (x : Infl) (st reason : Nat), s.Ready q 0x11 x →
    1 < bytesAt x.d.param 0 1 ∧ st = 0x32 ∧ reason = 0 ∨
    bytesAt x.d.param 0 1 ≤ 1 ∧ s.get F.TBL_STATUS.IN_FORCE = bytesAt x.d.param 0 1 ∧ st = 0x11 ∧ reason = rsBANK ∨
    bytesAt x.d.param 0 1 ≤ 1 ∧ s.get F.TBL_STATUS.IN_FORCE ≠ bytesAt x.d.param 0 1 ∧ st = 0x11 ∧
      ((s.bank (bytesAt x.d.param 0 1)).valid = false ∧ reason = rsNOTVALID ∨
        (s.bank (bytesAt x.d.param 0 1)).valid = true ∧ s.tbl.img ≠ [] ∧ toSigned 32 (imgGen (s.bank (bytesAt x.d.param 0 1)).bytes + 2 ^ 32 - imgGen s.tbl.img) ≤ 0 ∧ reason = rsNOTNEWER) →
    GoesTo (exec (.tableSwap dt q) s) fun t => t.Ended x.id st reason 0 ∧ t.tbl = s.tbl ∧ t.nor = s.nor ∧ t.out = s.out) ∧
  (∀ (s : State) (dt : Nat) (q : Fin 16) (x : Infl) (buf : HostBuf), s.Ready q 0x10 x → bytesAt x.d.param 0 1 ≤ 1 →
    (s.norUsable = false → GoesTo (exec (.tableLoad dt q buf) s) fun t => t.Ended x.id 0x11 rsNOR 0 ∧ t.tbl.load = none ∧ t.nor = s.nor) ∧
    (s.norUsable = true → s.get F.TBL_STATUS.IN_FORCE = bytesAt x.d.param 0 1 → GoesTo (exec (.tableLoad dt q buf) s) fun t => t.Ended x.id 0x11 rsBANK 0 ∧ t.tbl.load = none ∧ t.nor = s.nor) ∧
    (∀ ws, s.norUsable = true → s.get F.TBL_STATUS.IN_FORCE ≠ bytesAt x.d.param 0 1 → buf = .words ws → x.d.length ≤ ws.length * 4 → bytesAt x.d.param 4 4 ≠ 0 →
      (s.tbl.load = none ∨ ∃ l, s.tbl.load = some l ∧ (l.bank ≠ bytesAt x.d.param 0 1 ∨ l.next ≠ bytesAt x.d.param 4 4)) →
      GoesTo (exec (.tableLoad dt q buf) s) fun t => t.Ended x.id 0x11 rsSEQ 0 ∧ t.tbl.load = none ∧ t.nor = s.nor)) ∧
  (∀ (s : State) (dt : Nat) (port : Fin 2) (bs : List Block) (m : Mgmt), s.Hears port bs m → s.role = .spring → s.InOrder m → m.op = 0x20 →
    (chunkKind m.param = 0 → GoesTo (exec (.tableChunkBegin dt port bs) s) fun t => t.tbl = { s.tbl with rxLen := bytesAt m.payload 0 4, rxGen := bytesAt m.payload 4 4, rx := [], staged := none, commitAt := none } ∧
      t.get F.TBL_STATUS.PUSHING = 1 ∧ t.get F.TBL_STATUS.STAGED = 0 ∧ s.RegsBut (F.TBL_STATUS.PUSHING.off :: hearRegs port) t) ∧
    (chunkKind m.param = 1 → GoesTo (exec (.tableChunkData dt port bs) s) fun t => t.tbl = { s.tbl with rx := s.tbl.rx ++ [(m.param % 2 ^ 24, m.payload)] } ∧ s.RegsBut (hearRegs port) t) ∧
    (chunkKind m.param = 2 → imgCheck (.push s.selfId) (s.rd F.CMN_REV.REV.off).toNat s.tbl.pushed = none →
      GoesTo (exec (.tableChunkEnd dt port bs) s) fun t => t.tbl = { s.tbl with staged := some s.tbl.pushed } ∧ t.get F.TBL_STATUS.STAGED = 1 ∧
        s.RegsBut (F.TBL_STATUS.PUSHING.off :: hearRegs port) t ∧ t.Underway m.src 0x20 (chunk 5 0) .none) ∧
    (∀ r, chunkKind m.param = 2 → imgCheck (.push s.selfId) (s.rd F.CMN_REV.REV.off).toNat s.tbl.pushed = some r →
      GoesTo (exec (.tableChunkEnd dt port bs) s) fun t => t.tbl = s.tbl ∧ s.RegsBut (F.CMN_PROG.FAIL.off :: recCounters ++ hearRegs port) t ∧ t.Underway m.src 0x20 (chunk 5 0) .none) ∧
    (chunkKind m.param = 3 → s.tbl.staged.isSome = true → bytesAt m.payload 0 4 ≠ 0 →
      GoesTo (exec (.tableChunkCommit dt port bs) s) fun t => t.tbl = { s.tbl with commitAt := some (bytesAt m.payload 0 4) } ∧ s.RegsBut (hearRegs port) t) ∧
    (chunkKind m.param = 3 → s.tbl.staged.isSome = true → bytesAt m.payload 0 4 = 0 →
      GoesTo (exec (.tableChunkCommit dt port bs) s) fun t => ∃ u : State, t = s.confine u.applyStaged ∧ u.tbl = s.tbl ∧ s.RegsBut (hearRegs port) u) ∧
    (chunkKind m.param = 3 → s.tbl.staged = none → GoesTo (exec (.tableChunkCommit dt port bs) s) fun t => t.tbl = s.tbl ∧ s.RegsBut (hearRegs port) t) ∧
    (chunkKind m.param = 4 → GoesTo (exec (.tableChunkAbandon dt port bs) s) fun t => t.tbl = { s.tbl with staged := none, commitAt := none, rxLen := 0, rxGen := 0, rx := [] } ∧
      t.get F.TBL_STATUS.PUSHING = 0 ∧ t.get F.TBL_STATUS.STAGED = 0 ∧ s.RegsBut (F.TBL_STATUS.PUSHING.off :: hearRegs port) t)) ∧
  (∀ (s : State) (dt : Nat) (port : Fin 12) (bs : List Block) (m : Mgmt) (g tick : Nat), s.Hears port bs m → s.role = .basin → s.InOrder m → m.op = 0x20 → chunkKind m.param = 5 →
    s.tbl.pushes.find? (fun x => x.1 == m.src) = some (m.src, g, tick) →
    (bytesAt m.payload 0 4 = 0 → GoesTo (exec (.tableChunkResult dt port bs) s) fun t => t.tbl.pushes = s.tbl.pushes ∧ s.RegsBut (hearRegs port) t ∧ t.Underway m.src 0x20 (chunk 3 0) (.push m.src)) ∧
    (bytesAt m.payload 0 4 ≠ 0 → GoesTo (exec (.tableChunkResult dt port bs) s) fun t => t.tbl.pushes = s.tbl.pushes.filter (fun x => x.1 != m.src) ∧
      s.RegsBut (F.TBL_STATUS.PUSHING.off :: recCounters ++ hearRegs port) t))

/-- R160 to R164, R178 to R184, R541: results and calibrations. Instants count 250 ps. -/
def Obligations.ResultsAndCalibration : Prop :=
  (∀ (s : State) (dt w j gain : Nat) (n : Fin 4) (convs : List Conv) (r : AdcRun) (sys : Bool), s.live = true → n.val < s.adc.units.length → (s.unit n).run = some r → r.sampling = true →
    r.done < r.entries.length → r.entries.length ≤ 16 → w = r.entries.getD r.done 0 → j = 8 * n + bitsOf w 0 3 → gain = bitsOf w 10 2 → convs.length = 2 ^ bitsOf w 20 4 →
    r.at' + entryTime w ≤ (State.advance dt s).now 8 → (s.unit n).after = [] → sys = (bitOf w 9 && s.flag (F.ADC_SYS_CFG.VALID j) && s.get (F.ADC_SYS_CFG.GAIN_SEL j) == gain) →
    GoesTo (exec (.adcEntryDone dt n convs) s) fun t => ∃ u : State, t = s.confine u.precharge ∧
      u.get (F.ADC_RES.VALUE n r.done) = ofSigned 24 (adcValue (bitsOf w 24 4) (convs.map (fun c => if sys then (s.sysCorrect j (s.convCode n gain c)).1 else s.convCode n gain c))) ∧
      u.get (F.ADC_RES.FLAGS n r.done) = 128 * b2n (convs.any (fun c => (rangeMark gain c.1).isSome)) + 64 * b2n (((s.unit n).susAt.map (fun e => decide (r.at' < e + 1600))).getD false) +
        16 * b2n (!s.flag (F.ADC_STAT.CAL_OK n) || (s.unit n).failed) + 8 * b2n r.held + 4 * b2n sys + 2 * b2n (sys && convs.any (fun c => (s.sysCorrect j (s.convCode n gain c)).2)) ∧
      (u.unit n).run = some { r with done := r.done + 1, at' := r.at' + entryTime w, endAt := (State.advance dt s).now 0 } ∧
      u.get (F.ADC_OVR_CNT.COUNT n) = min (s.get (F.ADC_OVR_CNT.COUNT n) + (convs.filter (fun c => (rangeMark gain c.1).isSome)).length) (2 ^ (F.ADC_OVR_CNT.COUNT n).w - 1) ∧
      s.RegsBut ([(F.ADC_RES.VALUE n r.done).off, (F.ADC_OVR_CNT.COUNT n).off] ++ recCounters) u) ∧
  (∀ (s : State) (dt : Nat) (n : Fin 4) (convs : List Conv) (r : AdcRun), s.live = true → (s.unit n).run = some r → (State.advance dt s).now 8 < r.at' + entryTime (r.entries.getD r.done 0) →
    GoesTo (exec (.adcEntryDone dt n convs) s) fun t => t = State.advance dt s) ∧
  (∀ (s : State) (dt : Nat) (n m : Fin 4) (offset : Int) (gains : List Nat) (lins : List Int) (own o2 : Option Nat), s.live = true → n ≠ m → n.val < s.adc.units.length → m.val < s.adc.units.length →
    (s.unit n).job = some (.self own) → (s.unit m).job = some (.self o2) → (s.unit n).jobDue = false → (s.unit n).jobAt + 1600000 ≤ s.time.cyc + dt →
    (calBad offset gains lins = none → GoesTo (exec (.selfCalDone dt n offset gains lins) s) fun t => t.rd (0x140C0 + 0x100 * n) = BitVec.ofNat 32 (ofSigned 16 offset) ∧
      (∀ i, i < 4 → t.rd (0x140C4 + 0x100 * n + 4 * i) = BitVec.ofNat 32 (gains.getD i 0x4000 % 65536)) ∧
      (∀ i, i < 3 → t.rd (0x140D4 + 0x100 * n + 4 * i) = BitVec.ofNat 32 (ofSigned 16 (lins.getD (2 * i) 0) + 65536 * ofSigned 16 (lins.getD (2 * i + 1) 0))) ∧
      t.get (F.ADC_STAT.CAL_OK n) = 1 ∧ t.get (F.ADC_STAT.CAL_FAIL n) = 0 ∧ t.get (F.ADC_STAT.CAL_BUSY n) = 0 ∧ (t.unit n).job = none ∧
      s.RegsBut ((F.ADC_STAT.CAL_OK n).off :: (List.range 8).map (fun i => 0x140C0 + 0x100 * n.val + 4 * i)) t ∧ t.recd = s.recd) ∧
    (∀ step v, calBad offset gains lins = some (step, v) → GoesTo (exec (.selfCalDone dt n offset gains lins) s) fun t => t.get (F.ADC_STAT.CAL_FAIL n) = 1 ∧
      t.get (F.ADC_STAT.CAL_BUSY n) = 0 ∧ (t.unit n).job = none ∧ s.RegsBut ((F.ADC_STAT.CAL_OK n).off :: recCounters) t)) ∧
  (∀ (s : State) (dt : Nat) (n : Fin 4) (offset : Int) (gains : List Nat) (lins : List Int) (id : Nat) (x : Infl), s.live = true → s.role = .basin → n.val < s.adc.units.length →
    (s.unit n).job = some (.self (some id)) → (∀ m, m < 4 → m ≠ n.val → (s.unit m).job = none) → s.adc.units.length = 4 → (s.unit n).jobDue = false →
    (s.unit n).jobAt + 1600000 ≤ s.time.cyc + dt → calBad offset gains lins = none → s.inflAt id = some x → x.phase = .working → x.q < 16 →
    GoesTo (exec (.selfCalDone dt n offset gains lins) s) fun t => (if s.adc.calFail = 0 then t.Ended id 0 0 0 else t.Ended id 0x40 s.adc.calFail 0) ∧
      t.get (F.ADC_STAT.CAL_OK n) = 1 ∧ t.get (F.ADC_STAT.CAL_BUSY n) = 0 ∧ (t.unit n).job = none ∧
      s.RegsBut ((F.ADC_STAT.CAL_OK n).off :: (List.range 8).map (fun i => 0x140C0 + 0x100 * n.val + 4 * i) ++ cplRegs x.q) t) ∧
  (∀ (s : State) (dt : Nat) (q : Fin 16) (ans : Option RemoteAns) (mask : Fin 16), s.live = true → s.role = .spring →
    (mask.val ≠ 0 → s.calRefused = false → (∀ u ∈ s.adc.units, u.job = none) → GoesTo (exec (.calRun dt q ans mask) s) fun t => t.adc.calMask = mask.val ∧ t.recd = s.recd ∧
      s.RegsBut ((List.range 4).map (fun n => (F.ADC_STAT.CAL_BUSY n).off)) t ∧
      ∀ n, n < s.adc.units.length → n < 4 → mask.val.testBit n = true → (t.unit n).job = some (.self (some 0)) ∧ ((s.unit n).run = none → t.get (F.ADC_STAT.CAL_BUSY n) = 1)) ∧
    (mask.val = 0 → GoesTo (exec (.calRun dt q ans mask) s) fun t => t = (State.advance dt s).emit (.answer 0x38 0x01 0)) ∧
    (mask.val ≠ 0 → s.calRefused = true → GoesTo (exec (.calRun dt q ans mask) s) fun t => t = (State.advance dt s).emit (.answer 0x38 0x11 0))) ∧
  (∀ (s : State) (dt : Nat) (q : Fin 16) (ans : Option RemoteAns) (mask : Fin 16) (x : Infl), s.Ready q 0x38 x →
    (bytesAt x.d.param 0 1 % 16 = 0 → GoesTo (exec (.calRun dt q ans mask) s) fun t => t.Ended x.id 0x01 0 0 ∧ t.adc = s.adc) ∧
    (192 ≤ x.d.target → bytesAt x.d.param 0 1 % 16 ≠ 0 → s.calRefused = true → GoesTo (exec (.calRun dt q ans mask) s) fun t => t.Ended x.id 0x11 0 0 ∧ t.adc = s.adc) ∧
    (192 ≤ x.d.target → bytesAt x.d.param 0 1 % 16 ≠ 0 → s.calRefused = false → (∀ u ∈ s.adc.units, u.job = none) →
      GoesTo (exec (.calRun dt q ans mask) s) fun t => t.inflAt x.id = some { x with phase := .working } ∧
      t.adc.calMask = bytesAt x.d.param 0 1 % 16 ∧ s.RegsBut ((List.range 4).map (fun n => (F.ADC_STAT.CAL_BUSY n).off)) t ∧
      ∀ n, n < s.adc.units.length → n < 4 → (bytesAt x.d.param 0 1).testBit n = true → (t.unit n).job = some (.self (some x.id)) ∧
        ((s.unit n).run = none → t.get (F.ADC_STAT.CAL_BUSY n) = 1)) ∧
    (∀ f : Fin 16, x.d.target < 192 → bytesAt x.d.param 0 1 % 16 ≠ 0 → s.mgmtMay x = true → s.unreachable x.d.target = false → x.due = 0 → ans = some (.done f) →
      GoesTo (exec (.calRun dt q ans mask) s) fun t => (if f.val &&& (bytesAt x.d.param 0 1 % 16) = 0 then t.Ended x.id 0 0 0 else t.Ended x.id 0x40 (f.val &&& (bytesAt x.d.param 0 1 % 16)) 0) ∧
        t.adc = s.adc ∧ s.RegsBut (cplRegs x.q) t)) ∧
  (∀ (s : State) (dt : Nat) (q : Fin 16) (ans : Option RemoteAns) (p : List Nat) (x : Infl) (j : Nat), s.Ready q 0x39 x → 192 ≤ x.d.target → bytesAt x.d.param 1 1 = j → j ≤ 31 →
    s.calRefused = false → j / 8 < s.adc.units.length → (s.unit (j / 8)).job = none → (s.unit (j / 8)).run = none →
    (bytesAt x.d.param 0 1 = 0 → GoesTo (exec (.syscalZero dt q ans p) s) fun t => t.inflAt x.id = some { x with phase := .working } ∧ t.get (F.ADC_STAT.CAL_BUSY (j / 8)) = 1 ∧
      (t.unit (j / 8)).job = some (.sys x.id false j (bytesAt x.d.param 2 1 % 4) (bytesAt x.d.param 3 1) (toSigned 32 (bytesAt x.d.param 4 4))) ∧
      s.RegsBut [(F.ADC_STAT.CAL_BUSY (j / 8)).off] t) ∧
    (∀ z, bytesAt x.d.param 0 1 = 1 → s.zeroOf j = some (z, bytesAt x.d.param 2 1 % 4) → GoesTo (exec (.syscalFull dt q ans p) s) fun t => t.inflAt x.id = some { x with phase := .working } ∧
      t.get (F.ADC_STAT.CAL_BUSY (j / 8)) = 1 ∧
      (t.unit (j / 8)).job = some (.sys x.id true j (bytesAt x.d.param 2 1 % 4) (bytesAt x.d.param 3 1) (toSigned 32 (bytesAt x.d.param 4 4))) ∧
      s.RegsBut [(F.ADC_STAT.CAL_BUSY (j / 8)).off] t) ∧
    (bytesAt x.d.param 0 1 = 1 → (s.zeroOf j).map (fun z => z.2) ≠ some (bytesAt x.d.param 2 1 % 4) → GoesTo (exec (.syscalFull dt q ans p) s) fun t => t.Ended x.id 0x11 2 0 ∧ t.adc = s.adc ∧
      s.RegsBut (recCounters ++ cplRegs x.q) t) ∧
    (bytesAt x.d.param 0 1 = 2 → GoesTo (exec (.syscalClear dt q ans p) s) fun t => t.Ended x.id 0 0 0 ∧ t.get (F.ADC_SYS_CFG.VALID j) = 0 ∧
      s.RegsBut ((F.ADC_SYS_CFG.VALID j).off :: cplRegs x.q) t)) ∧
  (∀ (s : State) (dt : Nat) (q : Fin 16) (ans : Option RemoteAns) (p : List Nat) (x : Infl), s.Ready q 0x39 x → bytesAt x.d.param 0 1 = 0 →
    (31 < bytesAt x.d.param 1 1 → GoesTo (exec (.syscalZero dt q ans p) s) fun t => t.Ended x.id 0x32 0 0 ∧ t.adc = s.adc) ∧
    (bytesAt x.d.param 1 1 ≤ 31 → 192 ≤ x.d.target → s.calRefused = true → GoesTo (exec (.syscalZero dt q ans p) s) fun t => t.Ended x.id 0x11 5 0 ∧ t.adc = s.adc) ∧
    (bytesAt x.d.param 1 1 ≤ 31 → x.d.target < 192 → s.mgmtMay x = true → s.unreachable x.d.target = false → x.due = 0 →
      (∀ f, ans = some (.done f) → GoesTo (exec (.syscalZero dt q ans p) s) fun t => t.Ended x.id 0 0 0 ∧ t.adc = s.adc ∧ s.RegsBut (cplRegs x.q) t) ∧
      (∀ f : Fin 5, f.val = 0 ∨ f.val = 4 → ans = some (.refused f) → GoesTo (exec (.syscalZero dt q ans p) s) fun t => t.Ended x.id 0x11 (f.val + 1) 0 ∧ t.adc = s.adc ∧ s.RegsBut (cplRegs x.q) t))) ∧
  (∀ (s : State) (dt j : Nat) (q : Fin 16) (ans : Option RemoteAns) (p : List Nat), s.live = true → s.role = .spring → j = bytesAt p 1 1 → j ≤ 31 → s.calRefused = false →
    j / 8 < s.adc.units.length → (s.unit (j / 8)).job = none → (s.unit (j / 8)).run = none →
    (GoesTo (exec (.syscalZero dt q ans p) s) fun t => t.get (F.ADC_STAT.CAL_BUSY (j / 8)) = 1 ∧ s.RegsBut [(F.ADC_STAT.CAL_BUSY (j / 8)).off] t ∧
      (t.unit (j / 8)).job = some (.sys 0 false j (bytesAt p 2 1 % 4) (bytesAt p 3 1) (toSigned 32 (bytesAt p 4 4)))) ∧
    (∀ z, s.zeroOf j = some (z, bytesAt p 2 1 % 4) → GoesTo (exec (.syscalFull dt q ans p) s) fun t => t.get (F.ADC_STAT.CAL_BUSY (j / 8)) = 1 ∧
      s.RegsBut [(F.ADC_STAT.CAL_BUSY (j / 8)).off] t ∧ (t.unit (j / 8)).job = some (.sys 0 true j (bytesAt p 2 1 % 4) (bytesAt p 3 1) (toSigned 32 (bytesAt p 4 4)))) ∧
    (GoesTo (exec (.syscalClear dt q ans p) s) fun t => t.get (F.ADC_SYS_CFG.VALID j) = 0 ∧ s.RegsBut ((F.ADC_SYS_CFG.VALID j).off :: recCounters) t)) ∧
  (∀ (s : State) (dt : Nat) (n : Fin 4) (convs : List Conv) (sum : Int) (own j gain smp : Nat) (target : Int) (x : Infl), s.live = true → s.role = .basin → n.val < s.adc.units.length →
    (s.unit n).job = some (.sys own false j gain smp target) → (s.unit n).jobDue = false → (s.unit n).jobAt + 256 * ((smp + 1) * 5 + 80) ≤ s.time.cyc + dt → j ≤ 31 →
    convs.length = 256 → sum = (convs.map (s.convCode n gain)).foldl (· + ·) 0 → s.inflAt own = some x → x.phase = .working → x.q < 16 →
    ((∀ c ∈ convs, rangeMark gain c.1 = none) → GoesTo (exec (.syscalMeasureDone dt n convs) s) fun t => t.Ended own 0 0 0 ∧ t.zeroOf j = some (sum, gain) ∧ (t.unit n).job = none ∧
      t.get (F.ADC_STAT.CAL_BUSY n) = 0 ∧ s.RegsBut ((F.ADC_STAT.CAL_BUSY n).off :: cplRegs x.q) t) ∧
    ((∃ c ∈ convs, rangeMark gain c.1 ≠ none) → GoesTo (exec (.syscalMeasureDone dt n convs) s) fun t => t.Ended own 0x11 1 0 ∧ t.adc.zeros = s.adc.zeros ∧ (t.unit n).job = none ∧
      t.get (F.ADC_STAT.CAL_BUSY n) = 0 ∧ s.RegsBut ((F.ADC_STAT.CAL_BUSY n).off :: recCounters ++ cplRegs x.q) t)) ∧
  (∀ (s : State) (dt : Nat) (n : Fin 4) (convs : List Conv) (sum z : Int) (own j gain smp : Nat) (target : Int) (x : Infl), s.live = true → s.role = .basin → n.val < s.adc.units.length →
    (s.unit n).job = some (.sys own true j gain smp target) → (s.unit n).jobDue = false → (s.unit n).jobAt + 256 * ((smp + 1) * 5 + 80) ≤ s.time.cyc + dt → j ≤ 31 → s.zeroOf j = some (z, gain) →
    convs.length = 256 → sum = (convs.map (s.convCode n gain)).foldl (· + ·) 0 → (∀ c ∈ convs, rangeMark gain c.1 = none) → s.inflAt own = some x → x.phase = .working → x.q < 16 →
    (65536 ≤ (sum - z).natAbs → -(2 ^ 31) ≤ nearest (target * 2 ^ 30) (sum - z) → nearest (target * 2 ^ 30) (sum - z) ≤ 2 ^ 31 - 1 →
      GoesTo (exec (.syscalMeasureDone dt n convs) s) fun t => t.Ended own 0 0 0 ∧ t.get (F.ADC_SYS_OFFSET.OFFSET j) = ofSigned 32 z ∧
      t.getI (F.ADC_SYS_GAIN.GAIN j) = nearest (target * 2 ^ 30) (sum - z) ∧ t.get (F.ADC_SYS_CFG.GAIN_SEL j) = gain % 4 ∧ t.get (F.ADC_SYS_CFG.VALID j) = 1 ∧ (t.unit n).job = none ∧
      s.RegsBut ([(F.ADC_STAT.CAL_BUSY n).off, (F.ADC_SYS_OFFSET.OFFSET j).off, (F.ADC_SYS_GAIN.GAIN j).off, (F.ADC_SYS_CFG.VALID j).off] ++ cplRegs x.q) t) ∧
    ((sum - z).natAbs < 65536 → GoesTo (exec (.syscalMeasureDone dt n convs) s) fun t => t.Ended own 0x11 3 0 ∧ s.RegsBut ((F.ADC_STAT.CAL_BUSY n).off :: recCounters ++ cplRegs x.q) t) ∧
    (65536 ≤ (sum - z).natAbs → (nearest (target * 2 ^ 30) (sum - z) < -(2 ^ 31) ∨ 2 ^ 31 - 1 < nearest (target * 2 ^ 30) (sum - z)) →
      GoesTo (exec (.syscalMeasureDone dt n convs) s) fun t => t.Ended own 0x11 4 0 ∧ s.RegsBut ((F.ADC_STAT.CAL_BUSY n).off :: recCounters ++ cplRegs x.q) t)) ∧
  (∀ (s : State) (dt : Nat), s.live = true → s.role = .spring → s.spr.pre = true → 50000000 * s.get F.CMN_PRECHG.TMO ≤ s.time.cyc + dt - s.spr.preAt →
    GoesTo (exec (.prechgFail dt) s) fun t => t.spr.pre = false ∧ t.spr.preFailed = true ∧ t.get F.CMN_PRECHG.STATE = 3)

/-- R216 to R219, R225, R226, R228: an update of the sensors, and the grace timer's end. -/
def Obligations.DieTemperature : Prop :=
  (∀ (s : State) (dt : Nat) (t0 t1 t2 t3 t4 : Int), s.live = true → (∀ i, i < 5 → -350 ≤ [t0, t1, t2, t3, t4].getD i 0 ∧ [t0, t1, t2, t3, t4].getD i 0 < 1150) →
    (∀ i j, i < 5 → j < 5 → ([t0, t1, t2, t3, t4].getD i 0 - [t0, t1, t2, t3, t4].getD j 0).natAbs ≤ 80) → 2 ≤ s.inService.length →
    GoesTo (exec (.sensorConversion dt t0 t1 t2 t3 t4) s) fun t => (∀ i, i < 5 → t.getI (F.THM_TS.VALUE i) = [t0, t1, t2, t3, t4].getD i 0) ∧
      t.getI F.THM_STATUS.T_DIE = median (s.inService.map (fun i => [t0, t1, t2, t3, t4].getD i 0)) ∧ t.get F.THM_STATUS.DIE_INVALID = 0 ∧
      t.get F.THM_SENS.IN_SERVICE = s.get F.THM_SENS.IN_SERVICE ∧ t.get F.THM_SENS.INVALID = s.get F.THM_SENS.INVALID ∧ t.thm.below115 = min 2 (s.thm.below115 + 1)) ∧
  (∀ (s : State) (dt : Nat) (t0 t1 t2 t3 t4 : Int), s.live = true → s.role = .spring → (∀ i, i < 5 → -350 ≤ [t0, t1, t2, t3, t4].getD i 0 ∧ [t0, t1, t2, t3, t4].getD i 0 < 1150) →
    (∀ i j, i < 5 → j < 5 → ([t0, t1, t2, t3, t4].getD i 0 - [t0, t1, t2, t3, t4].getD j 0).natAbs ≤ 80) → 2 ≤ s.inService.length →
    (∀ x ∈ thresholds, s.get x.2.2 = 0) →
    GoesTo (exec (.sensorConversion dt t0 t1 t2 t3 t4) s) fun t => s.RegsBut (F.THM_STATUS.T_DIE.off :: (List.range 5).map (fun i => (F.THM_TS.VALUE i).off)) t ∧
      t.recd = s.recd ∧ t.gate = s.gate ∧ t.out = s.out) ∧
  (∀ (s : State) (dt : Nat) (t0 t1 t2 t3 t4 : Int) (n : Fin 5), s.live = true → (s.get F.THM_SENS.INVALID).testBit n = false →
    [t0, t1, t2, t3, t4].getD n 0 < -550 ∨ 1500 < [t0, t1, t2, t3, t4].getD n 0 →
    GoesTo (exec (.sensorConversion dt t0 t1 t2 t3 t4) s) fun t => (t.get F.THM_SENS.INVALID).testBit n = true ∧ (t.get F.THM_SENS.IN_SERVICE).testBit n = false) ∧
  (∀ (s : State) (dt : Nat) (t0 t1 t2 t3 t4 : Int), s.live = true → (∀ i, i < 5 → 1300 ≤ [t0, t1, t2, t3, t4].getD i 0 ∧ [t0, t1, t2, t3, t4].getD i 0 ≤ 1380) → 2 ≤ s.inService.length →
    s.thm.beyond.length = 5 → (∀ i, i < 3 → s.thm.beyond.getD i 0 = 1) →
    GoesTo (exec (.sensorConversion dt t0 t1 t2 t3 t4) s) fun t => t.get F.THM_STATUS.HOT_WARN = 1 ∧ t.get F.THM_STATUS.THROTTLE = 1 ∧ t.get F.THM_STATUS.SHUT = 1 ∧
      (s.role = .basin → t.get F.THM_STATUS.THR_CAUSE = 1 ∧ (s.get F.THM_STATUS.SHUT = 0 → t.thm.needResume = true ∧ ∃ r ∈ t.recd.staging, r.code = 0x0830)) ∧
      (s.role = .basin → s.dispatches = true → s.ticking = true → s.get F.THM_STATUS.SHUT = 0 → s.flag F.THM_CTRL.SHUT_SAFE = false → t.ctl.hw = max s.ctl.hw 28)) ∧
  (∀ (s : State) (dt g : Nat), s.live = true → s.role = .basin → s.thm.graceAt = some g → s.get F.THM_STATUS.THR_CAUSE = 1 →
    g + 50000000 * s.get F.THM_THR_CFG.GRACE ≤ s.time.cyc + dt →
    GoesTo (exec (.throttleGraceExpiry dt) s) fun t => t = { State.advance dt s with thm := { s.thm with graceAt := none, graceDone := true } }) ∧
  (∀ (s : State) (dt g : Nat), s.live = true → s.role = .basin → s.thm.graceAt = some g → s.time.cyc + dt < g + 50000000 * s.get F.THM_THR_CFG.GRACE →
    GoesTo (exec (.throttleGraceExpiry dt) s) fun t => t = State.advance dt s)

/-- R320 to R341: what moves the queues. -/
def Obligations.QueuePairs : Prop :=
  (∀ (s : State) (q : Fin 16) (v : Word), s.live = true → s.role = .basin → s.qpState q = 1 → v.toNat % 2 ^ 13 < s.get (F.HIF_QP_SIZE.SQ_SIZE q) → q.val < s.host.pairs.length →
    GoesTo (exec (.sqTailDoorbell q v) s) fun t => t.pair q = { s.pair q with sqTail := v.toNat % 2 ^ 13 } ∧ t.host.dbSq = s.host.dbSq.set q (v.toNat % 2 ^ 13) ∧
      t.host.wdAt = s.time.cyc ∧ t.host.wdFired = false ∧ t.regs = s.regs ∧ t.recd = s.recd) ∧
  (∀ (s : State) (q : Fin 16) (v : Word), s.live = true → s.role = .basin → s.get (F.HIF_QP_SIZE.SQ_SIZE q) ≤ v.toNat % 2 ^ 13 ∨ s.qpState q ≠ 1 →
    GoesTo (exec (.sqTailDoorbell q v) s) fun t => t.host.pairs = s.host.pairs ∧ t.get F.HIF_DB_ERR.COUNT = min (s.get F.HIF_DB_ERR.COUNT + 1) (2 ^ F.HIF_DB_ERR.COUNT.w - 1) ∧
      s.RegsBut (F.HIF_DB_ERR.COUNT.off :: recCounters) t) ∧
  (∀ (s : State) (q : Fin 16) (v : Word), s.live = true → s.role = .basin → s.qpState q ≠ 0 → v.toNat % 2 ^ 13 < s.get (F.HIF_QP_SIZE.CQ_SIZE q) → q.val < s.host.pairs.length →
    (v.toNat % 2 ^ 13 + s.get (F.HIF_QP_SIZE.CQ_SIZE q) - (s.pair q).cqHead) % s.get (F.HIF_QP_SIZE.CQ_SIZE q) ≤
      (s.get (F.HIF_QP_STAT.CQ_TAIL q) + s.get (F.HIF_QP_SIZE.CQ_SIZE q) - (s.pair q).cqHead) % s.get (F.HIF_QP_SIZE.CQ_SIZE q) →
    GoesTo (exec (.cqHeadDoorbell q v) s) fun t => t.pair q = { s.pair q with cqHead := v.toNat % 2 ^ 13 } ∧ t.host.wdAt = s.time.cyc ∧
      s.RegsBut [(F.HIF_QP_STAT.CQ_FULL q).off] t ∧ t.get (F.HIF_QP_STAT.CQ_TAIL q) = s.get (F.HIF_QP_STAT.CQ_TAIL q) ∧
      ((s.get (F.HIF_QP_STAT.CQ_TAIL q) + 1) % s.get (F.HIF_QP_SIZE.CQ_SIZE q) ≠ v.toNat % 2 ^ 13 → t.get (F.HIF_QP_STAT.CQ_FULL q) = 0) ∧ t.recd = s.recd) ∧
  (∀ (s : State) (q : Fin 16) (v : Word), s.live = true → s.role = .basin → s.get (F.HIF_QP_SIZE.CQ_SIZE q) ≤ v.toNat % 2 ^ 13 ∨ s.qpState q = 0 ∨
    (s.get (F.HIF_QP_STAT.CQ_TAIL q) + s.get (F.HIF_QP_SIZE.CQ_SIZE q) - (s.pair q).cqHead) % s.get (F.HIF_QP_SIZE.CQ_SIZE q) <
      (v.toNat % 2 ^ 13 + s.get (F.HIF_QP_SIZE.CQ_SIZE q) - (s.pair q).cqHead) % s.get (F.HIF_QP_SIZE.CQ_SIZE q) →
    GoesTo (exec (.cqHeadDoorbell q v) s) fun t => t.host.pairs = s.host.pairs ∧ t.get F.HIF_DB_ERR.COUNT = min (s.get F.HIF_DB_ERR.COUNT + 1) (2 ^ F.HIF_DB_ERR.COUNT.w - 1) ∧
      s.RegsBut (F.HIF_DB_ERR.COUNT.off :: recCounters) t) ∧
  (∀ (s : State) (dt q : Nat) (b : List Nat), s.live = true → s.role = .basin → s.fetchPair = some q → q < 16 → 2 ≤ s.get (F.HIF_QP_SIZE.SQ_SIZE q) → b.length = 64 →
    GoesTo (exec (.descriptorFetch dt b) s) fun t => ∃ u : State, t = s.confine (u.firstChecks { id := s.host.nextId, q := q, d := descOf b, due := 0, phase := .fetched }) ∧
      u.host.infl = s.host.infl ++ [{ id := s.host.nextId, q := q, d := descOf b, due := 0, phase := .fetched }] ∧ u.host.nextId = s.host.nextId + 1 ∧
      u.get (F.HIF_QP_STAT.SQ_HEAD q) = (s.get (F.HIF_QP_STAT.SQ_HEAD q) + 1) % s.get (F.HIF_QP_SIZE.SQ_SIZE q) % 2 ^ (F.HIF_QP_STAT.SQ_HEAD q).w ∧
      s.RegsBut ((F.HIF_QP_STAT.SQ_HEAD q).off :: recCounters) u) ∧
  (∀ (s : State) (dt q st : Nat) (b : List Nat), s.live = true → s.role = .basin → s.fetchPair = some q → q < 16 → 2 ≤ s.get (F.HIF_QP_SIZE.SQ_SIZE q) → b.length = 64 →
    (∀ x ∈ s.host.infl, x.id < s.host.nextId) →
    ((opcodeOk (s.isStream q) q (descOf b).opcode = false ∨ flagsOk (descOf b) = false) ∧ st = 0x30 ∨
      opcodeOk (s.isStream q) q (descOf b).opcode = true ∧ flagsOk (descOf b) = true ∧
        ((descOf b).length = 0 ∧ ((descOf b).opcode = 0x01 ∨ (descOf b).opcode = 0x02) ∧ st = 0x01 ∨
          ¬ ((descOf b).length = 0 ∧ ((descOf b).opcode = 0x01 ∨ (descOf b).opcode = 0x02)) ∧ (lengthOk (descOf b) = false ∧ st = 0x31 ∨ lengthOk (descOf b) = true ∧ s.targetOk (descOf b) = false ∧ st = 0x32))) →
    GoesTo (exec (.descriptorFetch dt b) s) fun t => t.Ended s.host.nextId st 0 0) ∧
  (∀ (s : State) (dt q : Nat) (code : Nat), s.live = true → s.role = .basin → s.fetchPair = some q → q < 16 → (∀ x ∈ s.host.infl, x.id < s.host.nextId) →
    GoesTo (exec (.fetchErr dt code) s) fun t => t.Ended s.host.nextId 0x40 code 0 ∧ t.qpState q = 3 ∧
      s.RegsBut ([(F.HIF_QP_STAT.STATE q).off, (F.HIF_EVT_STAT.PEND 0).off] ++ recCounters) t) ∧
  (∀ (s : State) (dt : Nat) (q : Fin 16) (x : Infl) (c : Cpl), s.live = true → s.role = .basin → (s.inflOf q).head? = some x → x.phase = .done c → s.cqRoom q = true →
    q.val < s.host.pairs.length → s.get (F.HIF_QP_SIZE.CQ_SIZE q) < 2 ^ 13 →
    GoesTo (exec (.completionWrite dt q) s) fun t =>
      t.out = s.out ++ [.hostWrite (s.cqAddr q (s.get (F.HIF_QP_STAT.CQ_TAIL q)))
        (cplBytes { c with tick := if c.tick = 0 then s.tickNow else c.tick } (s.pair q).phase x.d.tag x.d.opcode (s.get (F.HIF_QP_STAT.SQ_HEAD q)))] ∧
      t.get (F.HIF_QP_STAT.CQ_TAIL q) = (s.get (F.HIF_QP_STAT.CQ_TAIL q) + 1) % s.get (F.HIF_QP_SIZE.CQ_SIZE q) ∧
      t.host.infl = s.host.infl.filter (fun y => y.id != x.id) ∧
      (t.pair q).phase = (if s.get (F.HIF_QP_STAT.CQ_TAIL q) + 1 = s.get (F.HIF_QP_SIZE.CQ_SIZE q) then !(s.pair q).phase else (s.pair q).phase) ∧
      (s.qpState q = 2 → t.qpState q = (if (s.inflOf q).tail = [] then 0 else 2)) ∧ (s.qpState q ≠ 2 → t.qpState q = s.qpState q) ∧
      s.RegsBut ([(F.HIF_QP_STAT.CQ_TAIL q).off, (F.HIF_EVT_STAT.PEND 0).off, F.SAFE_STAT.UNLOCKED.off] ++ recCounters) t) ∧
  (∀ (s : State) (dt : Nat) (q : Fin 16) (x : Infl) (c : Cpl), s.live = true → s.role = .basin → (s.inflOf q).head? = some x → x.phase = .done c → s.cqRoom q = false →
    GoesTo (exec (.completionWrite dt q) s) fun t => t.out = s.out ∧ t.host.infl = s.host.infl ∧ (s.qpState q ≠ 0 → t.get (F.HIF_QP_STAT.CQ_FULL q) = 1)) ∧
  (∀ (s : State) (dt a : Nat) (q : Fin 16), s.live = true → s.role = .basin → (s.pair q).firstAt = some a → s.get (F.HIF_QP_COAL.TIME q) ≠ 0 →
    a + 500 * s.get (F.HIF_QP_COAL.TIME q) ≤ s.time.cyc + dt → q.val < s.host.pairs.length →
    GoesTo (exec (.cqCoalTimer dt q) s) fun t => (t.get (F.HIF_EVT_STAT.PEND 0)).testBit q = true ∧ (t.pair q).firstAt = none ∧ (t.pair q).sinceAssert = 0 ∧
      s.RegsBut [(F.HIF_EVT_STAT.PEND 0).off] t) ∧
  (∀ (s : State) (dt : Nat) (q : Fin 16) (b : StreamBuf) (l : List StreamBuf) (x : Infl), s.live = true → s.role = .basin → (s.pair q).bufs = b :: l → s.get (F.HIF_QP_COAL.FLUSH q) ≠ 0 →
    b.count ≠ 0 → b.firstAt + 500 * s.get (F.HIF_QP_COAL.FLUSH q) ≤ s.time.cyc + dt → q.val < s.host.pairs.length → s.inflAt b.id = some x → x.phase = .posted → x.q < 16 →
    GoesTo (exec (.streamFlush dt q) s) fun t => (t.pair q).bufs = l ∧ (∃ y c, t.inflAt b.id = some y ∧ y.phase = .done c ∧ c.status = 0 ∧ c.result = b.used ∧ c.frac = b.count) ∧
      s.RegsBut (cplRegs x.q) t) ∧
  (∀ (s : State) (q : Fin 16), s.live = true → s.role = .basin → s.qpState q = 0 → 2 ≤ s.get (F.HIF_QP_SIZE.SQ_SIZE q) → 2 ≤ s.get (F.HIF_QP_SIZE.CQ_SIZE q) → q.val < s.host.pairs.length →
    GoesTo (exec (.qpEnable q) s) fun t => ∃ u : State, t = s.confine (if q = 0 then (u.startStep 7).beginStep8 else u) ∧
      u.qpState q = 1 ∧ u.get (F.HIF_QP_CFG.EN q) = 1 ∧ u.get (F.HIF_QP_STAT.SQ_HEAD q) = 0 ∧ u.get (F.HIF_QP_STAT.CQ_TAIL q) = 0 ∧
      u.get (F.HIF_QP_STAT.CQ_FULL q) = 0 ∧ (u.pair q).sqTail = 0 ∧ (u.pair q).cqHead = 0 ∧ (u.pair q).phase = true ∧
      s.RegsBut [(F.HIF_QP_CFG.EN q).off, (F.HIF_QP_STAT.STATE q).off] u) ∧
  (∀ (s : State) (q : Fin 16), s.live = true → s.role = .basin → s.qpState q = 1 ∨ s.qpState q = 3 → q.val < s.host.pairs.length →
    GoesTo (exec (.qpDisable q) s) fun t => t.get (F.HIF_QP_CFG.EN q) = 0 ∧ (t.qpState q = 0 ∨ t.qpState q = 2) ∧ (t.pair q).bufs = [] ∧
      ((s.pair q).bufs = [] → (s.pair q).gaps = [] → t.qpState q = (if s.inflOf q = [] then 0 else 2) ∧ t.host = s.host ∧
        s.RegsBut [(F.HIF_QP_CFG.EN q).off, (F.HIF_QP_STAT.STATE q).off] t)) ∧
  (∀ (s : State) (q : Fin 16), s.live = true → s.role = .basin → s.qpState q = 2 → s.inflOf q = [] →
    GoesTo (exec (.qpDisabled q) s) fun t => t.qpState q = 0 ∧ t.host = s.host ∧ s.RegsBut [(F.HIF_QP_STAT.STATE q).off] t)

/-- R317, R340, R342, R357, R535: messages, the watchdog, the link to the host, and waits that end. -/
def Obligations.HostLinkAndWaits : Prop :=
  (∀ (s : State) (dt : Nat) (v : Fin 64), s.live = true → s.role = .basin → v.val ∈ s.host.vecDue →
    (∀ a, s.host.vecLast.find? (fun x => x.1 == v.val) = some (v.val, a) → a + 500 * s.get (F.HIF_VEC_HOLD.HOLD v) ≤ s.time.cyc + dt) →
    (v.val ∉ s.host.msixMask → GoesTo (exec (.msixSend dt v false) s) fun t => t.out = s.out ++ [.msix v] ∧ v.val ∉ t.host.vecDue ∧ v.val ∉ t.host.msixPba ∧
      t.host.vecLast.find? (fun x => x.1 == v.val) = some (v.val, s.time.cyc + dt) ∧ t.regs = s.regs) ∧
    (∀ fmask, v.val ∈ s.host.msixMask ∨ fmask = true → GoesTo (exec (.msixSend dt v fmask) s) fun t => t.out = s.out ∧ v.val ∉ t.host.vecDue ∧ v.val ∈ t.host.msixPba ∧ t.regs = s.regs)) ∧
  (∀ (s : State) (v : Fin 64), s.live = true → s.role = .basin →
    (v.val ∈ s.host.msixPba → GoesTo (exec (.msixUnmask v false) s) fun t => t.out = s.out ++ [.msix v] ∧ v.val ∉ t.host.msixMask ∧ v.val ∉ t.host.msixPba ∧ t.regs = s.regs) ∧
    (∀ fmask, v.val ∉ s.host.msixPba ∨ fmask = true → GoesTo (exec (.msixUnmask v fmask) s) fun t =>
      t = { s with host := { s.host with msixMask := s.host.msixMask.filter (· != v.val) } })) ∧
  (∀ (s : State) (v : Word), s.live = true → s.role = .basin → GoesTo (exec (.hifWdWrite v) s) fun t => t.get F.HIF_WD.TMO = v.toNat % 65536 ∧
    t.get F.HIF_WD.ACT = v.toNat / 65536 % 2 ∧ t.host = { s.host with wdAt := s.time.cyc, wdFired := false } ∧ s.RegsBut [F.HIF_WD.TMO.off] t ∧ t.recd = s.recd) ∧
  (∀ (s : State) (dt : Nat), s.live = true → s.role = .basin → s.get F.HIF_WD.TMO ≠ 0 → s.host.wdFired = false → s.host.wdAt + 500000 * s.get F.HIF_WD.TMO ≤ s.time.cyc + dt →
    GoesTo (exec (.hostWdExpired dt) s) fun t => t.host = { s.host with wdFired := true, wdDeen := s.host.wdDeen || (s.flag F.HIF_WD.ACT && s.station == 3) } ∧
      s.RegsBut recCounters t ∧ t.gate = s.gate ∧ t.out = s.out) ∧
  (∀ (s : State), s.live = true → s.role = .basin → GoesTo (exec .pcieLinkDown s) fun t => t.get F.HIF_DROP_CNT.COUNT = min (s.get F.HIF_DROP_CNT.COUNT + s.hostGone.2) (2 ^ 32 - 1) ∧
    (∀ q, q < 16 → t.qpState q = 0) ∧ t.get F.HIF_STATUS.LINK_UP = 0 ∧ (∀ x ∈ t.host.infl, 16 ≤ x.q) ∧ (∀ e ∈ t.slu.entries, e.left.isSome = true) ∧ t.tbl.load = none ∧
    (∀ o, o < 0x4000 ∨ 0x8000 ≤ o → o ∉ F.TBL_STATUS.LOAD_OPEN.off :: F.SAFE_STAT.UNLOCKED.off :: recCounters → t.rd o = s.rd o) ∧
    (∀ o, 0x4000 ≤ o → o < 0x8000 → o ∉ [F.HIF_DROP_CNT.COUNT.off, F.HIF_DB_ERR.COUNT.off, F.HIF_ORD_STAT.RECON_BUSY.off] → t.rd o = resetWord s.role s.side o) ∧ t.station = s.station ∧ t.pcie = s.pcie ∧
    ((∀ p ∈ s.host.pairs, p.gaps = [] ∧ p.noBuf = none) → t.get F.HIF_DROP_CNT.COUNT = min (s.get F.HIF_DROP_CNT.COUNT + s.inflight) (2 ^ 32 - 1))) ∧
  (∀ (s : State), s.live = true → s.role = .basin → GoesTo (exec .pcieFlr s) fun t => t.get F.HIF_DROP_CNT.COUNT = min (s.get F.HIF_DROP_CNT.COUNT + s.hostGone.2) (2 ^ 32 - 1) ∧
    (∀ q, q < 16 → t.qpState q = 0) ∧ t.rd F.HIF_STATUS.LINK_UP.off = s.rd F.HIF_STATUS.LINK_UP.off ∧ (∀ x ∈ t.host.infl, 16 ≤ x.q) ∧ (∀ e ∈ t.slu.entries, e.left.isSome = true) ∧
    (∀ o, o < 0x4000 ∨ 0x8000 ≤ o → o ∉ F.TBL_STATUS.LOAD_OPEN.off :: F.SAFE_STAT.UNLOCKED.off :: recCounters → t.rd o = s.rd o) ∧ t.station = s.station ∧ t.pcie = []) ∧
  (∀ (s : State) (speed : Fin 4) (width : Fin 5) (cfg : List (Nat × Word)), s.live = true → s.role = .basin →
    (speed.val ≠ 0 → width.val = 1 ∨ width.val = 2 ∨ width.val = 4 → GoesTo (exec (.pcieLinkUp speed width cfg) s) fun t => t.get F.HIF_STATUS.LINK_UP = 1 ∧
      t.get F.HIF_STATUS.SPEED = speed ∧ t.get F.HIF_STATUS.WIDTH = width ∧ s.RegsBut (F.HIF_STATUS.LINK_UP.off :: recCounters) t ∧ t.host = s.host ∧
      ∀ o, t.pcie.lookup o = ((cfg.lookup o).orElse fun _ => s.pcie.lookup o)) ∧
    (speed.val = 0 ∨ width.val = 0 ∨ width.val = 3 → GoesTo (exec (.pcieLinkUp speed width cfg) s) fun t => t = s)) ∧
  (∀ (s : State) (dt id n : Nat) (x : Infl), s.live = true → s.role = .basin → s.inflAt id = some x → x.q < 16 → s.heldTicks x = some n →
    (s.cg F.HIF_ORD_CFG.UPD_HOLD ≤ n → x.d.target ∈ s.ctl.busy → GoesTo (exec (.cmdBusyExpired dt id) s) fun t => t.Ended id 0x24 n 0 ∧ s.RegsBut (cplRegs x.q) t) ∧
    (n < s.cg F.HIF_ORD_CFG.UPD_HOLD ∨ x.d.target ∉ s.ctl.busy → GoesTo (exec (.cmdBusyExpired dt id) s) fun t => t = State.advance dt s)) ∧
  (∀ (s : State) (dt : Nat), s.live = true → s.role = .basin → 6 ∈ s.pwr.steps → s.get F.CMN_START_CFG.HOST_WAIT ≠ 0 → s.pwr.step8 = false →
    s.pwr.step6At + 500000000 * s.get F.CMN_START_CFG.HOST_WAIT ≤ s.time.cyc + dt →
    GoesTo (exec (.hostWaitExpiry dt) s) fun t => t.pwr.step8 = true ∧ t.pwr.steps = s.pwr.steps ∧ ∀ p ∈ s.startPorts, s.portSt p = 0 → t.portSt p = 1)

/-- R254, R270, R274 to R282, R290, R291: the time commands. -/
def Obligations.TimeCommands : Prop :=
  (∀ (s : State) (dt : Nat) (q : Fin 16) (x : Infl) (e : Int), s.Ready q 0x31 x → s.get F.TIME_CTRL.SRC = 2 → stampDiff (State.advance dt s).stamp (bytesAt x.d.param 0 4) ≤ 2000000000 →
    e = toSigned 64 (bytesAt x.d.param 8 8) → s.isMaster = true → (∀ y ∈ s.host.infl, y.d.opcode = 0x30 → y.phase.isDone = true ∨ y.phase = .fetched) →
    GoesTo (exec (.timeOffset dt q) s) fun t => t.Ended x.id 0 0 0 ∧ t.getI F.TIME_OFS.VALUE = satSigned 32 e ∧ t.time.sampleAt = s.time.cyc + dt ∧
      ((s.get F.TIME_SERVO.STEP_THR = 0 ∨ e.natAbs < s.get F.TIME_SERVO.STEP_THR * 1000000) →
        t.time.integ = clampInt (-(s.get F.TIME_SERVO.SLEW_MAX * 1000 * 65536 : Nat)) (s.get F.TIME_SERVO.SLEW_MAX * 1000 * 65536 : Nat) (s.time.integ + e * 65536 / 2 ^ s.get F.TIME_SERVO.KI_SH) ∧
        t.time.f = clampInt (-(s.get F.TIME_SERVO.SLEW_MAX * 1000 * 65536 : Nat)) (s.get F.TIME_SERVO.SLEW_MAX * 1000 * 65536 : Nat)
          (-(e * 65536 / 2 ^ s.get F.TIME_SERVO.KP_SH) - t.time.integ) ∧ t.time.todOff = s.time.todOff) ∧
      (s.get F.TIME_SERVO.STEP_THR ≠ 0 → s.get F.TIME_SERVO.STEP_THR * 1000000 ≤ e.natAbs → s.flag F.TIME_CTRL.STEP_EN = true → e < 0 ∨ s.flag F.TIME_CTRL.BACKSTEP_EN = true →
        t.time.todOff = s.time.todOff + roundFree (-e) 1000 ∧ t.time.f = s.time.f)) ∧
  (∀ (s : State) (dt : Nat) (q : Fin 16) (x : Infl), s.Ready q 0x31 x → s.get F.TIME_CTRL.SRC ≠ 2 → GoesTo (exec (.timeOffset dt q) s) fun t => t.Ended x.id 0x11 0 0 ∧
    s.RegsBut (cplRegs x.q) t ∧ t.time = (State.advance dt s).time) ∧
  (∀ (s : State) (dt : Nat) (ns : Int), s.live = true → s.role = .basin → s.isMaster = true → s.get F.TIME_CTRL.SRC = 1 →
    (∀ y ∈ s.host.infl, y.d.opcode = 0x30 → y.phase.isDone = true ∨ y.phase = .fetched) → ns = ((State.advance dt s).todNs : Int) - s.getI F.TIME_PPS.ICOMP →
    GoesTo (exec (.ppsInEdge dt) s) fun t => t.time.sampleAt = s.time.cyc + dt ∧ t.getI F.TIME_OFS.VALUE =
      satSigned 32 ((if 500000000 ≤ ns then ns - 1000000000 else ns) * 1000 + roundFree ((State.advance dt s).time.frac * 1000) 65536)) ∧
  (∀ (s : State) (dt : Nat) (port : Fin 12), s.live = true → s.hasPort port = true → s.portUp port = true → s.get (F.LNK_SYNC_CFG.INT port) ≠ 0 →
    (s.lport port).syncAt + 50000 * s.get (F.LNK_SYNC_CFG.INT port) ≤ s.time.cyc + dt →
    GoesTo (exec (.syncInterval dt port) s) fun t => t.out = (if s.lanesOff then s.out else s.out ++ [.frame port (wireBytes (.sync (s.syncFrame port 1 (((s.lport port).syncSeq + 1) % 65536) 0 0)))]) ∧
      t.lport port = (if port.val < s.lnk.ports.length then { s.lport port with syncSeq := ((s.lport port).syncSeq + 1) % 65536, syncT1 := some ((State.advance dt s).departs port), syncAt := s.time.cyc + dt } else {}) ∧
      t.regs = s.regs) ∧
  (∀ (s : State) (dt ago : Nat) (port : Fin 12) (bs : List Block) (f : SyncFrame), s.HearsFrame port bs ftSYNC → f = syncOf (hear bs).bytes → f.kind = 1 →
    GoesTo (exec (.syncRequest dt port bs ago) s) fun t => t.out = (if s.lanesOff then s.out else s.out ++ [.frame port (wireBytes (.sync (t.syncFrame port 2 f.sseq
        (((State.advance dt s).now48 + 2 ^ 48 - ago % 2 ^ 48) % 2 ^ 48) ((State.advance dt s).departs port))))]) ∧
      t.portHop port = (f.mhop, f.terr) ∧ s.RegsBut (F.TIME_STATUS.UPPORT.off :: hearRegs port) t) ∧
  (∀ (s : State) (dt t1 : Nat) (port : Fin 12) (bs : List Block) (f : SyncFrame), s.HearsFrame port bs ftSYNC → f = syncOf (hear bs).bytes → f.kind = 2 →
    (s.lport port).syncT1 = some t1 → f.sseq = (s.lport port).syncSeq → t1 < 2 ^ 48 →
    GoesTo (exec (.syncResponse dt port bs) s) fun t => t.portHop port = (f.mhop, f.terr) ∧ (t.lport port).syncT1 = none ∧
      t.get (F.LNK_SYNC_T1_HI.STAMP port) = t1 / 65536 ∧ t.get (F.LNK_SYNC_T1_LO.STAMP port) = t1 % 65536 ∧
      t.get (F.LNK_SYNC_T2_HI.STAMP port) = f.t2 / 65536 ∧ t.get (F.LNK_SYNC_T2_LO.STAMP port) = f.t2 % 65536 ∧
      t.get (F.LNK_SYNC_T3_HI.STAMP port) = f.t3 / 65536 ∧ t.get (F.LNK_SYNC_T3_LO.STAMP port) = f.t3 % 65536 ∧
      t.get (F.LNK_SYNC_T4_HI.STAMP port) = (State.advance dt s).now48 / 65536 ∧ t.get (F.LNK_SYNC_T4_LO.STAMP port) = (State.advance dt s).now48 % 65536 ∧
      t.getI (F.LNK_DELAY.DELAY port) = satSigned 32 (roundFree ((diff48 (State.advance dt s).now48 t1 - diff48 f.t3 f.t2) * 1000) 131072)) ∧
  (∀ (s : State) (dt : Nat), s.live = true → s.isMaster = true → s.get F.TIME_CTRL.SRC = 1 → 1250000000 ≤ s.time.cyc + dt - s.time.sampleAt → s.get F.TIME_STATUS.STATE ≠ 3 →
    GoesTo (exec (.timeHoldover dt) s) fun t => t.get F.TIME_STATUS.STATE = 3 ∧ t.time.lockCnt = 0 ∧ t.time.f = s.time.f ∧ s.RegsBut (F.TIME_STATUS.STATE.off :: recCounters) t) ∧
  (∀ (s : State) (dt : Nat), s.live = true → s.isMaster = false → s.get F.TIME_STATUS.LOADED = 1 → s.get F.TIME_STATUS.UPPORT < 12 →
    10 * 50000 * s.get (F.LNK_SYNC_CFG.INT (s.get F.TIME_STATUS.UPPORT)) ≤ s.time.cyc + dt - s.time.sampleAt → s.get F.TIME_STATUS.STATE ≠ 3 →
    GoesTo (exec (.timeHoldover dt) s) fun t => t.get F.TIME_STATUS.STATE = 3 ∧ t.get F.TIME_STATUS.MHOP = 0xFF ∧ t.get F.TIME_STATUS.TIME_OK = 0 ∧ t.time.f = s.time.f ∧
      s.RegsBut (F.TIME_STATUS.STATE.off :: recCounters) t) ∧
  (∀ (s : State) (dt : Nat), s.live = true → s.isMaster = true → s.time.anchorAt + 100000000 * s.get F.TIME_CTRL.ANCHOR_INT ≤ (State.advance dt s).time.ext →
    GoesTo (exec (.timeAnchor dt) s) fun t => t.time = { (State.advance dt s).time with anchorAt := (State.advance dt s).time.ext } ∧ s.RegsBut recCounters t ∧ t.out = s.out) ∧
  (∀ (s : State) (dt : Nat), s.live = true → s.get F.TIME_CTRL.PPS_EN = 1 → s.time.todValid = true →
    ((State.advance dt s).todNs * 65536 + (State.advance dt s).time.frac) * 9990 < s.period10 * 1000 → (∀ p, s.time.ppsPass = some p → p + 1 < s.time.cyc + dt) →
    ((∀ l, s.time.ppsLast = some l → l + 250000000 ≤ s.time.cyc + dt) → GoesTo (exec (.ppsOut dt) s) fun t =>
      t = { State.advance dt s with time := { (State.advance dt s).time with ppsPass := some (s.time.cyc + dt), ppsHigh := true, ppsLast := some (s.time.cyc + dt) } } ∧
      t.ppsOut = !s.flag F.TIME_CTRL.PPS_POL) ∧
    (∀ l, s.time.ppsLast = some l → s.time.cyc + dt < l + 250000000 → GoesTo (exec (.ppsOut dt) s) fun t => t.time.ppsHigh = s.time.ppsHigh ∧
      t.get F.TIME_CNT.PPS_SKIP = min (s.get F.TIME_CNT.PPS_SKIP + 1) (2 ^ F.TIME_CNT.PPS_SKIP.w - 1) ∧ s.RegsBut (F.TIME_CNT.PPS_SKIP.off :: recCounters) t)) ∧
  (∀ (s : State) (dt l : Nat), s.live = true → s.time.ppsHigh = true → s.time.ppsLast = some l → l + 500000 * s.get F.TIME_PPS.WIDTH ≤ s.time.cyc + dt →
    GoesTo (exec (.ppsOutEnd dt) s) fun t => t = { State.advance dt s with time := { (State.advance dt s).time with ppsHigh := false } }) ∧
  (∀ (s : State) (dt : Nat) (rq : Option HostRd), s.live = true → s.ReadsOne F.TIME_STAMP.VALUE.off rq → GoesTo (exec (.timeStampRead dt rq) s) fun t => t.get F.TIME_STAMP.VALUE = (State.advance dt s).stamp ∧
    (s.role = .basin → t.get F.TIME_EXT_LO.VALUE = (State.advance dt s).time.ext % 2 ^ 32 ∧ t.get F.TIME_EXT_HI.VALUE = (State.advance dt s).time.ext / 2 ^ 32 % 2 ^ 32) ∧
    (s.role = .spring → t.get F.TIME_EXT_LO.VALUE = 0 ∧ t.get F.TIME_EXT_HI.VALUE = 0) ∧
    t.get F.TIME_TOD_SEC_LO.VALUE = (State.advance dt s).todSec % 2 ^ 32 ∧ t.get F.TIME_TOD_SEC_HI.SEC_HI = (State.advance dt s).todSec / 2 ^ 32 ∧
    t.get F.TIME_TOD_NS.NS = (State.advance dt s).todNs ∧ t.get F.TIME_TOD_NS.TOD_VALID = b2n s.time.todValid ∧ t.time = (State.advance dt s).time ∧ t.recd = s.recd ∧
    s.RegsBut [F.TIME_STAMP.VALUE.off, F.TIME_EXT_LO.VALUE.off, F.TIME_EXT_HI.VALUE.off, F.TIME_TOD_SEC_LO.VALUE.off, F.TIME_TOD_SEC_HI.SEC_HI.off, F.TIME_TOD_NS.NS.off] t)

/-- R470 to R486, R498: records on their way into the NOR. -/
def Obligations.RecorderCommands : Prop :=
  (∀ (s : State) (dt : Nat) (port : Fin 12) (bs : List Block) (h : TickHdr), s.live = true → s.role = .spring → s.spr.hdr = some h → s.get F.LNK_SPOS.ENROLLED = 1 →
    (s.aon.ledger ≠ [] → GoesTo (exec (.record dt port bs) s) fun t => t.aon.ledger = s.aon.ledger.drop 4 ∧ t.regs = s.regs ∧ t.recd = s.recd ∧
      t.Underway (if h.side == .a then 0xC0 else 0xC1) 0x21 (2 + 256 * (s.aon.ledger.take 4).length) (.ledger (s.aon.ledger.take 4))) ∧
    (s.aon.ledger = [] → s.recd.staging ≠ [] → GoesTo (exec (.record dt port bs) s) fun t => t.recd = { s.recd with staging := s.recd.staging.drop 4 } ∧ t.regs = s.regs ∧ t.aon = s.aon ∧
      t.Underway (if h.side == .a then 0xC0 else 0xC1) 0x21 (1 + 256 * (s.recd.staging.take 4).length) (.event (s.recd.staging.take 4)))) ∧
  (∀ (s : State) (dt : Nat) (port : Fin 12) (bs : List Block) (m : Mgmt) (r : EvRec), s.Hears port bs m → s.InOrder m → s.role = .basin → m.op = 0x21 → recFrameEvents m = [r] →
    recFrameLedger m = [] → (∀ x ∈ s.recd.seenLseq, x.1 = m.src → x.2.2 ≠ r.lseq) →
    r.code ∉ [Ev.DEGRADED_EXPIRED, Ev.VOTE_RESTORED, Ev.RESET_STUCK, Ev.PUSH_DONE] ∨ r.source ≠ m.src → s.recd.lost = none → s.evStaged < 256 →
    GoesTo (exec (.record dt port bs) s) fun t => t.recd.staging = s.recd.staging ++ [{ r with seq := 0, commit := 0xFF }] ∧ s.RegsBut (hearRegs port) t ∧ (t.peer m.src).rx = some m.mseq) ∧
  (∀ (s : State) (dt : Nat) (port : Fin 12) (bs : List Block) (m : Mgmt) (r : LedgerRec), s.Hears port bs m → s.InOrder m → s.role = .basin → m.op = 0x21 → recFrameEvents m = [] →
    recFrameLedger m = [r] → (∀ x ∈ s.recd.restarted, x.1 ≠ m.src) →
    GoesTo (exec (.record dt port bs) s) fun t => t.recd = { s.recd with led := s.recd.led ++ [r] } ∧ s.RegsBut (hearRegs port) t ∧ (t.peer m.src).rx = some m.mseq) ∧
  (∀ (s : State) (dt i : Nat) (r : EvRec), s.live = true → s.role = .basin → s.recHeld = false → pickRec s.recd.staging = some i → s.recd.staging[i]? = some r → s.nor.sag = false →
    r.commit = 0xFF → s.norUsable = true → s.nor.stopped = none → s.get F.REC_SEQ.VALUE ≠ 0xFFFFFFFF → s.nor.first.length ≠ 16383 →
    GoesTo (exec (.recordCommit dt) s) fun t => ∃ u : State, t = s.confine (u.publish { r with seq := s.get F.REC_SEQ.VALUE, commit := s.basinId }) ∧
      u.get F.REC_SEQ.VALUE = s.get F.REC_SEQ.VALUE + 1 ∧ s.RegsBut [F.REC_SEQ.VALUE.off] u ∧ u.recd.staging = s.recd.staging.eraseIdx i ∧
      u.nor.last = ringAdd s.nor.lastBlocks s.nor.last { r with seq := s.get F.REC_SEQ.VALUE, commit := s.basinId } ∧
      u.nor.first = (if !s.nor.firstClosed && decide (s.nor.first.length < 16384) then s.nor.first ++ [{ r with seq := s.get F.REC_SEQ.VALUE, commit := s.basinId }] else s.nor.first) ∧
      u.nor.journal = (if r.journal then journalAdd s.nor.journalBlocks s.nor.journal { r with seq := s.get F.REC_SEQ.VALUE, commit := s.basinId } else s.nor.journal) ∧
      s.get F.REC_SEQ.VALUE + 1 ≤ u.nor.seqCeil) ∧
  (∀ (s : State) (dt code : Nat), s.live = true → ((State.advance dt s).bucketOf code).pend ≠ 0 → (s.attrOf code).rate ≠ 0 → (s.attrOf code).burst * tokenUnit ≤ ((State.advance dt s).bucketOf code).level →
    GoesTo (exec (.rateSummary dt code) s) fun t => ∃ u : State, t = s.confine (u.raise Ev.RATE_SUMMARY [code, ((State.advance dt s).bucketOf code).pend]) ∧
      (u.bucketOf code).pend = 0 ∧ u.regs = s.regs ∧ u.recd.staging = s.recd.staging) ∧
  (∀ (s : State) (dt : Nat), s.live = true → s.role = .basin → s.recd.frozen = true → s.recd.frozenAt + 50000000 * s.get F.REC_CFG.FREEZE_MAX ≤ s.time.cyc + dt →
    GoesTo (exec (.freezeTimeout dt) s) fun t => t.recd.frozen = false ∧ (s.recd.erasePending = false → t.nor = s.nor ∧ s.RegsBut recCounters t)) ∧
  (∀ (s : State) (dt : Nat), s.live = true → s.role = .spring → s.aon.tenureOpen = true → s.aon.ledger.length + s.ledInTransit < 16 →
    (if s.time.todValid then s.aon.lastTod / s.get F.REC_LEDGER_CFG.INT ≠ (State.advance dt s).todSec / s.get F.REC_LEDGER_CFG.INT
      else s.aon.lastLedger + s.get F.REC_LEDGER_CFG.INT * 1000000000 ≤ (State.advance dt s).time.ext) →
    GoesTo (exec (.ledgerPeriodic dt) s) fun t => (∃ r, t.aon.ledger = s.aon.ledger ++ [r] ∧ r.kind = 1 ∧ r.packSerial = s.aon.packId ∧ r.eIn = s.aon.eIn ∧ r.eOut = s.aon.eOut ∧
        r.rseq = s.aon.rseq % 2 ^ 16 ∧ r.index = s.selfId ∧ r.todValid = s.time.todValid ∧ r.recSec = (State.advance dt s).todSec % 2 ^ 32 ∧ r.tag = ledgerTag r) ∧
      t.aon.rseq = s.aon.rseq + 1 ∧ t.aon.lastTod = (State.advance dt s).todSec ∧ t.get F.REC_TENURE.RSEQ = s.aon.rseq % 2 ^ 16 ∧ s.RegsBut [F.REC_TENURE.RSEQ.off] t ∧ t.recd = s.recd) ∧
  (∀ (s : State), s.live = true → s.role = .spring → GoesTo (exec .eInLatchRead s) fun t => t.get F.REC_E_IN_LO.VALUE = s.aon.eIn % 2 ^ 32 ∧
    t.get F.REC_E_IN_HI.VALUE = s.aon.eIn / 2 ^ 32 % 2 ^ 32 ∧ t.get F.REC_E_OUT_LO.VALUE = s.aon.eOut % 2 ^ 32 ∧ t.get F.REC_E_OUT_HI.VALUE = s.aon.eOut / 2 ^ 32 % 2 ^ 32 ∧
    s.RegsBut [F.REC_E_IN_LO.VALUE.off, F.REC_E_IN_HI.VALUE.off, F.REC_E_OUT_LO.VALUE.off, F.REC_E_OUT_HI.VALUE.off] t ∧ t.aon = s.aon ∧ t.recd = s.recd)

/-- R480, R493 to R497: what changes the NOR beside its records. -/
def Obligations.NorCommands : Prop :=
  (∀ (s : State), s.live = true → s.role = .basin → s.cfgLocked = false → s.station ≤ 1 → s.norUsable = true →
    (s.recHeld = false → s.nor.sag = false → GoesTo (exec .eraseFirst s) fun t => t.nor.first = [] ∧ t.nor.firstClosed = s.nor.firstClosed ∧ t.recd.erasePending = false) ∧
    (s.recHeld = true ∨ s.nor.sag = true → GoesTo (exec .eraseFirst s) fun t => t = { s with recd := { s.recd with erasePending := true } })) ∧
  (∀ (s : State), s.live = true → s.role = .basin → s.cfgLocked = false → s.station ≤ 1 → s.nor.noNor = false →
    (s.nor.sag = false → GoesTo (exec .format s) fun t => t.nor = layoutNew s.nor ∧ t.get F.REC_SEQ.VALUE = 0 ∧ t.get F.REC_LSEQ.VALUE = 0 ∧ t.get F.TBL_STATUS.VALID_A = 0 ∧ t.get F.TBL_STATUS.VALID_B = 0 ∧
      t.get F.TBL_GEN_A.GEN = 0 ∧ t.get F.TBL_GEN_B.GEN = 0 ∧ t.get F.SAFE_STAT.DEFAULT_PW = 1 ∧ t.tbl.load = none ∧ t.recd.formatPending = false) ∧
    (s.nor.sag = true → GoesTo (exec .format s) fun t => t = { s with recd := { s.recd with formatPending := true } })) ∧
  (∀ (s : State), s.live = true → s.role = .basin → s.cfgLocked = true →
    (GoesTo (exec .eraseFirst s) fun t => t.nor = s.nor ∧ s.Recorded t ∧ s.RegsBut recCounters t) ∧ (GoesTo (exec .format s) fun t => t.nor = s.nor ∧ s.Recorded t ∧ s.RegsBut recCounters t)) ∧
  (∀ (s : State), s.live = true → s.role = .basin → s.cfgLocked = false → 1 < s.station → (GoesTo (exec .eraseFirst s) fun t => t = s) ∧ (GoesTo (exec .format s) fun t => t = s)) ∧
  (∀ (s : State) (dt lb k : Nat) (cause : Fin 3), s.live = true → s.role = .basin → s.norUsable = true → s.nor.sag = true →
    GoesTo (exec (.norBlockBad dt lb k cause) s) fun t => t.recd = { s.recd with retire := s.recd.retire ++ [(lb, k, cause.val)] } ∧ t.nor = s.nor ∧ t.regs = s.regs) ∧
  (∀ (s : State) (dt lb k : Nat) (cause : Fin 3), s.live = true → s.role = .basin → s.norUsable = true → s.nor.sag = false → areaOf s.nor lb ≠ 0 → s.nor.used < s.nor.reserve →
    GoesTo (exec (.norBlockBad dt lb k cause) s) fun t => t.nor = { s.nor with used := s.nor.used + 1, ptGen := s.nor.ptGen + 1, remap := s.nor.remap.filter (fun x => x.1 != lb) ++ [(lb, s.nor.total - s.nor.reserve + s.nor.used)] } ∧ s.RegsBut recCounters t ∧ t.out = s.out) ∧
  (∀ (s : State) (dt lb k : Nat) (cause : Fin 3), s.live = true → s.role = .basin → s.norUsable = true → s.nor.sag = false → areaOf s.nor lb = 6 → s.nor.reserve ≤ s.nor.used → s.nor.stopped = none →
    GoesTo (exec (.norBlockBad dt lb k cause) s) fun t => t.nor = { s.nor with stopped := some 0 } ∧ s.RegsBut recCounters t) ∧
  (∀ (s : State) (dt : Nat), s.live = true → s.nor.sag = false → GoesTo (exec (.nvmSag dt) s) fun t => t.nor = { s.nor with sag := true, sagAt := s.time.cyc + dt } ∧
    t.get F.CMN_SUPPLY.SAG = 1 ∧ t.get F.CMN_SUPPLY.SAG_CNT = min (s.get F.CMN_SUPPLY.SAG_CNT + 1) 65535 ∧ s.RegsBut (F.CMN_SUPPLY.SAG.off :: recCounters) t) ∧
  (∀ (s : State) (dt : Nat), s.live = true → s.nor.sag = true → GoesTo (exec (.nvmSagEnd dt) s) fun t => t.nor.sag = false ∧ t.get F.CMN_SUPPLY.SAG = 0 ∧
    (s.role = .basin → t.recd.retire = []) ∧ (s.recd.retire = [] → s.recd.formatPending = false → s.recd.erasePending = false →
      t.nor = { s.nor with sag := false } ∧ s.RegsBut (F.CMN_SUPPLY.SAG.off :: recCounters) t))

/-- R382 to R387, R393: what the two Basins of a pair hear from each other. -/
def Obligations.BasinPair : Prop :=
  (∀ (s : State) (dt : Nat) (port : Fin 12) (bs : List Block) (m : Mgmt) (h : Health), s.Hears port bs m → s.role = .basin → m.op = 0x22 → m.payload.length = 64 → healthOf m.payload = h → m.src = s.otherId →
    (s.get F.RED_CLAIM.ROLE ≠ 0 ∨ h.role ≠ 0) →
    GoesTo (exec (.health dt port bs) s) fun t => t.get F.RED_PEER.PEER_OK = 1 ∧ t.get F.RED_PEER.ROLE = h.role % 2 ^ F.RED_PEER.ROLE.w ∧ t.get F.RED_PEER.FIT = h.fit % 256 ∧
      t.get F.RED_PEER.CLAIM = h.claim % 65536 ∧ t.red.health = some h ∧ t.red.healthAt = some (s.time.cyc + dt) ∧ s.RegsBut (F.RED_PEER.PEER_OK.off :: recCounters ++ hearRegs port) t) ∧
  (∀ (s : State) (dt : Nat), s.live = true → s.role = .basin → s.get F.RED_CTRL.HEALTH_EN = 1 → s.get F.RED_CLAIM.ROLE ≠ 3 → (s.get F.RED_CLAIM.ROLE = 0 → s.paired = true) → s.upPorts ≠ [] →
    (∀ a, s.red.healthTx = some a → a + (if s.get F.RED_CLAIM.ROLE = 0 then 500000 else 50000000) ≤ s.time.cyc + dt) →
    GoesTo (exec (.healthSend dt) s) fun t => t.red.healthTx = some (s.time.cyc + dt) ∧ t.regs = s.regs ∧ t.recd = s.recd ∧ ∃ m : Mgmt, m.op = 0x22 ∧ m.addr = s.otherId ∧
      m.payload = healthBytes ((State.advance dt s).healthNow) ∧
      t.out = (if s.lanesOff then s.out else s.out ++ s.upPorts.map (fun p => OutMsg.frame p (wireBytes (.mgmt m))))) ∧
  (∀ (s : State) (dt a : Nat), s.live = true → s.role = .basin → s.red.healthAt = some a → s.get F.RED_PEER.PEER_OK = 1 → a + 150000000 ≤ s.time.cyc + dt →
    GoesTo (exec (.peerLost dt) s) fun t => t.get F.RED_PEER.PEER_OK = 0 ∧ t.get F.RED_PEER.FIT = s.get F.RED_PEER.FIT ∧ s.RegsBut (F.RED_PEER.PEER_OK.off :: recCounters) t ∧ t.red = s.red) ∧
  (∀ (s : State) (dt a : Nat), s.live = true → s.role = .basin → s.red.electAt = some a → s.get F.RED_CLAIM.ROLE = 0 → s.pwr.step8 = true → s.paired = true →
    a + 500000 * s.get F.RED_HB_CFG.ELECT_TMO ≤ s.time.cyc + dt →
    GoesTo (exec (.electTimeout dt) s) fun t => t.get F.RED_CLAIM.ROLE = 1 ∧ t.get F.RED_CLAIM.CLAIM = 0 ∧ t.get F.TIME_STATUS.MHOP = 0 ∧ t.red.electAt = none ∧ t.dispatches = true ∧
      s.RegsBut ([F.RED_CLAIM.ROLE.off, F.TIME_STATUS.MHOP.off, F.TIME_ERR.VALUE.off] ++ recCounters) t) ∧
  (∀ (s : State) (dt : Nat) (port : Fin 12) (bs : List Block) (f : TickFrame), s.HearsFrame port bs ftTICK → s.role = .basin → hdrOk (hear bs).bytes = true → f = tickOf (hear bs).bytes → f.chain < 12 → f.hdr.side ≠ s.side → s.get F.RED_CLAIM.ROLE = 2 →
    s.claimOk f.hdr = true → s.tickNow ≠ 0 → s.red.hbGot = false → f.hdr.tick = tickSucc s.tickNow → (State.advance dt s).time.ext ≤ s.ctl.bound + 10 * s.get F.RED_HB_CFG.WAIT →
    GoesTo (exec (.heartbeat dt port bs) s) fun t => t.red.hbGot = true ∧ t.red.hbEver = true ∧ t.get F.RED_HB_STAT.MISS = 0 ∧ t.get F.RED_HB_STAT.LAST = f.hdr.tick % 2 ^ 24) ∧
  (∀ (s : State) (dt : Nat) (port : Fin 12) (bs : List Block) (f : TickFrame), s.HearsFrame port bs ftTICK → s.role = .basin → hdrOk (hear bs).bytes = true → f = tickOf (hear bs).bytes → f.chain < 12 → f.hdr.side ≠ s.side → s.get F.RED_CLAIM.ROLE = 1 →
    keyHigher f.hdr.claim f.hdr.side (s.get F.RED_CLAIM.CLAIM) s.side = true →
    GoesTo (exec (.heartbeat dt port bs) s) fun t => t.get F.RED_CLAIM.ROLE = 2 ∧ t.get F.RED_CLAIM.CLAIM = s.get F.RED_CLAIM.CLAIM ∧ t.get F.CTL_STATUS.TICK_RUN = 0 ∧ t.red.seenClaim = f.hdr.claim) ∧
  (∀ (s : State) (dt : Nat) (port : Fin 12) (bs : List Block) (f : TickFrame), s.HearsFrame port bs ftTICK → s.role = .basin → hdrOk (hear bs).bytes = true → f = tickOf (hear bs).bytes → f.chain < 12 → f.hdr.side ≠ s.side →
    (s.get F.RED_CLAIM.ROLE = 1 → keyHigher f.hdr.claim f.hdr.side (s.get F.RED_CLAIM.CLAIM) s.side = false → GoesTo (exec (.heartbeat dt port bs) s) fun t => s.RegsBut (hearRegs port) t ∧ t.red = s.red ∧ t.out = s.out) ∧
    (s.get F.RED_CLAIM.ROLE = 0 → s.pwr.step8 = true → s.paired = true → GoesTo (exec (.heartbeat dt port bs) s) fun t => t.get F.RED_CLAIM.ROLE = 2 ∧ t.red.seenClaim = f.hdr.claim)) ∧
  (∀ (s : State) (dt : Nat), s.live = true → s.role = .basin → s.get F.RED_CLAIM.ROLE = 2 → s.red.hbEver = true → s.red.hbGot = false → s.tickNow ≠ 0 →
    s.ctl.bound + 10 * s.get F.RED_HB_CFG.WAIT ≤ (State.advance dt s).time.ext → s.get F.RED_HB_STAT.MISS ≠ 2 →
    GoesTo (exec (.hbMiss dt) s) fun t => t.get F.RED_HB_STAT.MISS = min (s.get F.RED_HB_STAT.MISS + 1) (2 ^ F.RED_HB_STAT.MISS.w - 1) ∧ t.red = { s.red with hbGot := true } ∧
      s.RegsBut (F.RED_HB_STAT.MISS.off :: recCounters) t) ∧
  (∀ (s : State) (dt : Nat), s.live = true → s.role = .basin → s.get F.RED_CLAIM.ROLE = 2 → s.red.hbEver = true → s.red.hbGot = false → s.tickNow ≠ 0 →
    s.ctl.bound + 10 * s.get F.RED_HB_CFG.WAIT ≤ (State.advance dt s).time.ext → s.get F.RED_HB_STAT.MISS = 2 → s.upPorts ≠ [] → s.get F.RED_CTRL.AUTO = 1 → s.mayTake = true →
    GoesTo (exec (.hbMiss dt) s) fun t => t.get F.RED_CLAIM.ROLE = 1 ∧ t.get F.RED_CLAIM.CLAIM = (s.red.seenClaim + 1) % 65536 ∧ t.get F.CTL_STATUS.TICK_RUN = 1) ∧
  (∀ (s : State), s.live = true → s.role = .basin → s.get F.RED_CLAIM.ROLE = 2 →
    (s.mayTake = true → GoesTo (exec .hostTakeover s) fun t => t.get F.RED_CLAIM.ROLE = 1 ∧ t.get F.RED_CLAIM.CLAIM = (s.red.seenClaim + 1) % 65536 ∧ t.get F.TIME_STATUS.MHOP = 0) ∧
    (s.mayTake = false → GoesTo (exec .hostTakeover s) fun t => s.Recorded t ∧ s.RegsBut recCounters t))

/-- R392 to R400: what spends a spare and what gives it back. -/
def Obligations.SparesAndVotes : Prop :=
  (∀ (s : State) (dt c a : Nat) (g : Fin 14), s.live = true → (s.vote g).diss = some (c, a) → s.hasGroup g = true → s.exclOf g = 0 → a + 50000000 ≤ s.time.cyc + dt → g.val < s.red.votes.length →
    GoesTo (exec (.voteExcluded dt g) s) fun t => t.exclOf g = 2 ^ c % 8 ∧ t.vote g = { s.vote g with diss := none, agree := none, exclAt := s.time.cyc + dt, warned := false } ∧
      s.RegsBut ((F.RED_VOTE.EXCL g).off :: recCounters) t ∧ t.gate = s.gate) ∧
  (∀ (s : State) (dt : Nat) (g : Fin 15), s.live = true → g.val < 14 → s.exclOf g ≠ 0 → (s.vote g).warned = false → g.val < s.red.votes.length →
    (s.vote g).exclAt + s.get F.RED_VOTE_CFG.DEGRADED_MAX * hourCyc ≤ s.time.cyc + dt + hourCyc →
    GoesTo (exec (.degradedWarn dt g) s) fun t => t.vote g = { s.vote g with warned := true } ∧ s.RegsBut recCounters t) ∧
  (∀ (s : State) (dt : Nat) (g : Fin 15), s.live = true → g.val < 14 → s.exclOf g ≠ 0 → s.get (F.RED_VOTE.EXPIRED g) = 0 → (s.vote g).exclAt + s.get F.RED_VOTE_CFG.DEGRADED_MAX * hourCyc ≤ s.time.cyc + dt →
    GoesTo (exec (.degradedExpired dt g) s) fun t => t.get (F.RED_VOTE.EXPIRED g) = 1 ∧ t.exclOf g = s.exclOf g ∧
      t.host.wdDeen = (s.host.wdDeen || (s.role == .basin && s.dispatches && s.flag F.CTL_STATUS.TICK_RUN)) ∧ s.RegsBut ((F.RED_VOTE.EXPIRED g).off :: recCounters) t) ∧
  (∀ (s : State) (dt a : Nat), s.live = true → s.safe.degFrom = some a →
    (s.safe.degWarned = false → a + s.get F.RED_VOTE_CFG.DEGRADED_MAX * hourCyc ≤ s.time.cyc + dt + hourCyc →
      GoesTo (exec (.degradedWarn dt 14) s) fun t => t.safe = { s.safe with degWarned := true } ∧ s.RegsBut recCounters t) ∧
    (s.safe.degExpired = false → a + s.get F.RED_VOTE_CFG.DEGRADED_MAX * hourCyc ≤ s.time.cyc + dt →
      GoesTo (exec (.degradedExpired dt 14) s) fun t => t.safe = { s.safe with degExpired := true } ∧
        t.host.wdDeen = (s.host.wdDeen || (s.role == .basin && s.dispatches && s.flag F.CTL_STATUS.TICK_RUN)) ∧ s.RegsBut recCounters t)) ∧
  (∀ (s : State) (dt : Nat) (g : Fin 14), s.live = true → g.val < s.red.votes.length →
    (∀ a, (s.vote g).agree = some a → s.exclOf g ≠ 0 → a + 500000000 ≤ s.time.cyc + dt →
      GoesTo (exec (.voteRestore dt (BitVec.ofNat 32 (2 ^ g.val))) s) fun t => t.exclOf g = 0 ∧ t.get (F.RED_VOTE.EXPIRED g) = 0 ∧ t.vote g = { s.vote g with diss := none, warned := false } ∧
        s.RegsBut ((F.RED_VOTE.EXPIRED g).off :: recCounters) t) ∧
    ((∀ a, (s.vote g).agree = some a → s.exclOf g = 0 ∨ s.time.cyc + dt < a + 500000000) → GoesTo (exec (.voteRestore dt (BitVec.ofNat 32 (2 ^ g.val))) s) fun t => (State.advance dt s).Recorded t ∧ s.RegsBut recCounters t)) ∧
  (∀ (s : State) (dt row n : Nat) (bank : Fin 6), s.live = true → ((s.red.rows.find? (fun x => x.1 == bank.val * 65536 + row)).map (fun x => x.2)).getD 0 = n →
    GoesTo (exec (.eccCorrected dt bank row) s) fun t => t.get F.RED_ECC_CNT.COUNT = min (s.get F.RED_ECC_CNT.COUNT + 1) (2 ^ F.RED_ECC_CNT.COUNT.w - 1) ∧
      t.red.rows.find? (fun x => x.1 == bank.val * 65536 + row) = some (bank.val * 65536 + row, n + 1) ∧
      (n + 1 ≠ 4 → t.candidates = s.candidates ∧ s.RegsBut [F.RED_ECC_CNT.COUNT.off] t) ∧
      (n + 1 = 4 → (s.role = .basin → s.norUsable = true) → bank.val * 65536 + row ∈ t.candidates)) ∧
  (∀ (s : State) (dt row : Nat) (bank : Fin 6), s.live = true → s.role = .basin →
    GoesTo (exec (.sramUncorr dt bank row) s) fun t => t.get F.RED_CLAIM.ROLE = 4 ∧ t.dispatches = false ∧ t.get F.CTL_STATUS.TICK_RUN = 0 ∧
      s.RegsBut ([F.RED_CLAIM.ROLE.off, F.CTL_STATUS.TICK_RUN.off] ++ recCounters) t) ∧
  (∀ (s : State) (dt row : Nat) (bank : Fin 6), s.live = true → s.role = .spring →
    GoesTo (exec (.sramUncorr dt bank row) s) fun t => ∃ u : State, t = s.confine (u.warmResume 4 0) ∧ u.pwr.warm = false ∧ u.get F.CMN_RESET.CAUSE = 4 ∧ u.gate.bypCmd = false ∧ u.gate.packCmd = false) ∧
  (∀ (s : State) (dt tested failing : Nat) (bad : Option Nat), s.live = true → s.role = .basin → s.get F.RED_CLAIM.ROLE = 2 → s.get F.RED_BIST_CFG.EN = 1 →
    s.red.bistAt + 500000 * s.get F.RED_BIST_CFG.INT ≤ s.time.cyc + dt →
    GoesTo (exec (.bistSegment dt bad tested failing) s) fun t => t.red.bist = (if s.red.bist = 1535 then 0 else s.red.bist + 1) ∧ t.red.bistAt = s.time.cyc + dt ∧
      t.red.prbsTested = tested &&& bitsMask s.prbsPorts ∧
      t.get F.RED_BIST_STAT.PASS = (if s.red.bist = 1535 then min (s.get F.RED_BIST_STAT.PASS + 1) (2 ^ F.RED_BIST_STAT.PASS.w - 1) else s.get F.RED_BIST_STAT.PASS) ∧
      t.get F.RED_BIST_STAT.FAIL = (if bad.isSome then min (s.get F.RED_BIST_STAT.FAIL + 1) (2 ^ F.RED_BIST_STAT.FAIL.w - 1) else s.get F.RED_BIST_STAT.FAIL)) ∧
  (∀ (s : State) (dt : Nat) (feed : Fin 2), s.live = true →
    (s.get (vaonBit feed) = 1 → GoesTo (exec (.vaonFeedLost dt feed) s) fun t => t.get (vaonBit feed) = 0 ∧ t.get (vaonBit (1 - feed.val)) = s.get (vaonBit (1 - feed.val)) ∧
      t.get F.RED_VAON.LOSS_CNT = min (s.get F.RED_VAON.LOSS_CNT + 1) (2 ^ F.RED_VAON.LOSS_CNT.w - 1) ∧ s.RegsBut (F.RED_VAON.A_OK.off :: recCounters) t) ∧
    (s.get (vaonBit feed) = 0 → GoesTo (exec (.vaonFeedOk dt feed) s) fun t => t.get (vaonBit feed) = 1 ∧ t.get (vaonBit (1 - feed.val)) = s.get (vaonBit (1 - feed.val)) ∧
      t.get F.RED_VAON.LOSS_CNT = s.get F.RED_VAON.LOSS_CNT ∧ s.RegsBut (F.RED_VAON.A_OK.off :: recCounters) t))

/-- R141 to R148: each operation and each feedback event under its own conditions. -/
def Obligations.Contactors : Prop :=
  (∀ (s : State) (c : DueCmd) (x : Slot), s.live = true → s.role = .spring → s.spr.cmd = some c → (c.src ≤ 15 ∨ c.src = 0xFE) →
    (c.op = 2 → s.blocked = false → s.spr.slot = some x → x.mode = 2 → x.level = 0 → s.get F.CMN_RESET.SAFE_HOLD = 0 → s.gate.bypCmd = false →
      (∀ n < 2, s.isTripped n = false ∧ s.isLatched n = false ∧ (s.hb n).hi.rdy = true ∧ (s.hb n).lo.rdy = true) →
      GoesTo (exec .bypOpen s) fun t => t.gate.bypCmd = true ∧ t.gate.bypOpening = (if s.bypShowsClosed then some s.time.cyc else none) ∧ t.gate.bypClosing = none ∧
        t.CmdDone s c resACC ∧ t.get F.CELL_OPS.BYP_OPS = min (s.get F.CELL_OPS.BYP_OPS + 1) 0xFFFF ∧ s.RegsBut ([F.CELL_OPS.BYP_OPS.off, (F.CTL_CMD_REC.RES (cmdIdx c)).off] ++ recCounters) t) ∧
    (c.op = 2 → s.blocked = true ∨ s.spr.slot = none ∨ s.get F.CMN_RESET.SAFE_HOLD = 1 ∨ (s.spr.slot = some x ∧ (x.mode ≠ 2 ∨ x.level ≠ 0)) →
      GoesTo (exec .bypOpen s) fun t => t.CmdDone s c resMODE ∧ t.gate = s.gate ∧ s.RegsBut ((F.CTL_CMD_REC.RES (cmdIdx c)).off :: recCounters) t) ∧
    (c.op = 2 → s.blocked = false → s.spr.slot = some x → x.mode = 2 → x.level = 0 → s.get F.CMN_RESET.SAFE_HOLD = 0 →
      (∃ n < 2, s.isTripped n = true ∨ s.isLatched n = true ∨ (s.hb n).hi.rdy = false ∨ (s.hb n).lo.rdy = false) →
      GoesTo (exec .bypOpen s) fun t => t.CmdDone s c resFAULT ∧ t.gate = s.gate ∧ s.RegsBut ((F.CTL_CMD_REC.RES (cmdIdx c)).off :: recCounters) t) ∧
    (c.op = 3 ∧ s.gate.bypCmd = false → GoesTo (exec .bypClose s) fun t => t.CmdDone s c resACC ∧ t.gate = s.gate ∧ s.RegsBut ((F.CTL_CMD_REC.RES (cmdIdx c)).off :: recCounters) t) ∧
    (c.op = 5 ∧ s.gate.packCmd = false ∧ s.iPack.natAbs ≤ 2 * s.get F.CELL_PACK_LIM.PACK_I_OPEN →
      GoesTo (exec .packOpen s) fun t => t.CmdDone s c resACC ∧ t.gate = { s.gate with packOp := (if s.packShowsClosed then some (1, s.time.cyc) else none) } ∧ s.RegsBut ((F.CTL_CMD_REC.RES (cmdIdx c)).off :: recCounters) t) ∧
    (c.op = 3 → s.gate.bypCmd = true → GoesTo (exec .bypClose s) fun t => t.gate.bypCmd = false ∧ t.gate.bypOpening = none ∧
        t.gate.bypClosing = (if s.bypShowsClosed then s.gate.bypClosing else some s.time.cyc) ∧ t.CmdDone s c resACC ∧
        t.get F.CELL_OPS.BYP_OPS = min (s.get F.CELL_OPS.BYP_OPS + 1) 0xFFFF ∧ s.RegsBut ([F.CELL_OPS.BYP_OPS.off, (F.CTL_CMD_REC.RES (cmdIdx c)).off] ++ recCounters) t) ∧
    (c.op = 4 → s.blocked = false → s.bmsAge ≠ 0xFFFF → (s.vDc - 2 * s.vPackBms).natAbs ≤ 2 * s.get F.CELL_PACK_LIM.PACK_DV →
      GoesTo (exec .packClose s) fun t => t.gate = { s.gate with packCmd := true, packOp := (if s.packShowsClosed then none else some (0, s.time.cyc)) } ∧ t.CmdDone s c resACC ∧
        t.get F.CELL_OPS.PACK_OPS = (if s.gate.packCmd then s.get F.CELL_OPS.PACK_OPS else min (s.get F.CELL_OPS.PACK_OPS + 1) 0xFFFF) ∧
        s.RegsBut ([F.CELL_OPS.PACK_OPS.off, (F.CTL_CMD_REC.RES (cmdIdx c)).off] ++ recCounters) t) ∧
    (c.op = 4 → (s.blocked = true ∨ s.bmsAge = 0xFFFF ∨ 2 * s.get F.CELL_PACK_LIM.PACK_DV < (s.vDc - 2 * s.vPackBms).natAbs) →
      GoesTo (exec .packClose s) fun t => t.gate = s.gate ∧ t.CmdDone s c (if s.blocked then resMODE else if s.bmsAge = 0xFFFF then resFAULT else resVOLT) ∧
        s.RegsBut ((F.CTL_CMD_REC.RES (cmdIdx c)).off :: recCounters) t) ∧
    (c.op = 5 → s.gate.packCmd = true → (2 * s.get F.CELL_PACK_LIM.PACK_I_OPEN < s.iPack.natAbs → bitOf (c.param.headD 0) 0 = true) →
      GoesTo (exec .packOpen s) fun t => t.gate = { s.gate with packCmd := false, packOp := (if s.packShowsClosed then some (1, s.time.cyc) else none) } ∧ t.CmdDone s c resACC ∧
        t.get F.CELL_OPS.PACK_OPS = min (s.get F.CELL_OPS.PACK_OPS + 1) 0xFFFF ∧ s.RegsBut ([F.CELL_OPS.PACK_OPS.off, (F.CTL_CMD_REC.RES (cmdIdx c)).off] ++ recCounters) t) ∧
    (c.op = 5 → 2 * s.get F.CELL_PACK_LIM.PACK_I_OPEN < s.iPack.natAbs → bitOf (c.param.headD 0) 0 = false →
      GoesTo (exec .packOpen s) fun t => t.gate = s.gate ∧ t.CmdDone s c resCURR ∧ s.RegsBut ((F.CTL_CMD_REC.RES (cmdIdx c)).off :: recCounters) t)) ∧
  (∀ (s : State) (dt : Nat) (level : Bool), s.live = true → s.role = .spring →
    (GoesTo (exec (.bypFbChange dt level) s) fun t => t.gate.bypFb = level ∧ t.gate.bypCmd = s.gate.bypCmd ∧ t.bypShowsClosed = (level != s.flag F.CELL_CTRL.BYP_FB_POL) ∧
      (t.bypShowsClosed = true → t.gate.actByp = false) ∧ (t.bypShowsClosed = false → t.gate.actByp = s.gate.actByp ∧ t.gate.bypOpening = none) ∧
      (t.bypShowsClosed = true → s.gate.bypOpening = none → t.gate.bypClosing = none) ∧ s.RegsBut recCounters t) ∧
    (GoesTo (exec (.packFbChange dt level) s) fun t => t.gate.packFb = level ∧ t.gate.packCmd = s.gate.packCmd ∧ t.packShowsClosed = (level != s.flag F.CELL_CTRL.PACK_FB_POL) ∧
      (∀ k a, s.gate.packOp = some (k, a) → t.gate.packOp = if (t.packShowsClosed = true ∧ k = 0) ∨ (t.packShowsClosed = false ∧ k ≠ 0) then none else some (k, a)) ∧
      s.RegsBut (F.CMN_PRECHG.STATE.off :: recCounters) t)) ∧
  (∀ (s : State) (dt a : Nat), s.live = true → s.role = .spring →
    (s.gate.bypOpening = some a → s.gate.bypCmd = true → a + 500000 * s.get F.CELL_TMO.BYP_OPEN_TMO ≤ s.time.cyc + dt →
      GoesTo (exec (.bypOpenFail dt) s) fun t => t.gate.bypCmd = false ∧ t.gate.bypOpening = none ∧ t.get F.CELL_OPS.BYP_OPS = min (s.get F.CELL_OPS.BYP_OPS + 1) 0xFFFF ∧
        s.RegsBut (F.CELL_OPS.BYP_OPS.off :: recCounters) t) ∧
    (s.gate.bypClosing = some a → a + 500000 * s.get F.CELL_TMO.BYP_CLOSE_TMO ≤ s.time.cyc + dt →
      (s.actBypOk = true → GoesTo (exec (.bypCloseFail dt) s) fun t => t.gate.actByp = true ∧ t.gate.bypClosing = none ∧ t.effMode = (mLEVEL, 0) ∧ s.RegsBut recCounters t) ∧
      (s.actBypOk = false → s.blocked = false → GoesTo (exec (.bypCloseFail dt) s) fun t => t.blocked = true ∧ t.gate.cause = cauBYP ∧ t.gate.bypCmd = false ∧ t.gate.actByp = false) ∧
      (s.blocked = true → s.get F.LNK_SPOS.ENROLLED = 1 → s.get F.WEIR_SCFG.ARM_ID ≠ 0xF →
        GoesTo (exec (.bypCloseFail dt) s) fun t => t.gate = { s.gate with bypClosing := none } ∧ t.weir.seq = (s.weir.seq + 1) % 256 ∧
          t.get F.WEIR_TX_CNT.COUNT = min (s.get F.WEIR_TX_CNT.COUNT + 1) 0xFFFFFFFF ∧ t.get F.WEIR_LAST.CAUSE = cauBYP)) ∧
    (∀ k, s.gate.packOp = some (k, a) → a + 500000 * s.get F.CELL_TMO.PACK_TMO ≤ s.time.cyc + dt →
      GoesTo (exec (.packFail dt) s) fun t => t.gate = { s.gate with packOp := none, packCmd := s.gate.packCmd && k != 0 } ∧ s.RegsBut recCounters t))

/-- R118 to R132: what protects a half-bridge. -/
def Obligations.TripsAndResumes : Prop :=
  (∀ (s : State) (dt desat : Nat) (n : Fin 6) (hi : Bool) (sub : Fin 8), s.live = true → s.role = .spring → s.gate.hbs.length = 6 → s.hbEn n = true → s.Untripped n → s.gate.actByp = false →
    (s.hb n).conducting (8 * (s.time.cyc + dt) + sub) = some hi → ((s.hb n).ch hi).onAt + 80 * s.gate.blank.getD n (s.get (F.GATE_PROT.BLANK n)) ≤ 8 * (s.time.cyc + dt) + sub →
    ((∀ e ∈ s.gate.window.head?, e.at' + 400 < 8 * (s.time.cyc + dt) + sub) →
      GoesTo (exec (.desatFault dt n hi desat sub) s) fun t => (State.advance dt s).Trip t n tripDESAT ∧ (t.hb n).tripCh = some hi ∧ (t.hb n).soft = some 0 ∧ ((t.hb n).ch hi).ssd = true ∧ ((t.hb n).ch hi).on = true ∧
        (((s.hb n).ch (!hi)).ssd = false → ((t.hb n).ch (!hi)).on = false) ∧ (∀ m ∈ groupOf n, m ≠ n.val → (t.hb m).stopping = true) ∧
        t.gate.window = [⟨n, tripDESAT, chNum n hi, 8 * (s.time.cyc + dt) + sub⟩] ∧ t.blocked = s.blocked ∧
        s.RegsBut ([F.GATE_STATUS.TRIPPED.off, (F.GATE_CNT.TRIP_CNT n).off, (F.GATE_LAST.STAMP n).off] ++ recCounters) t) ∧
    (∀ e w, s.gate.window = e :: w → 8 * (s.time.cyc + dt) + sub ≤ e.at' + 400 → e.hb < 6 →
      GoesTo (exec (.desatFault dt n hi desat sub) s) fun t => t.isTripped n = true ∧ t.isLatched n = true ∧ t.isLatched e.hb = true ∧ t.blocked = true ∧ t.gate.multi = true ∧ (t.hb n).soft = some 0)) ∧
  (∀ (s : State) (dt : Nat) (n : Fin 6) (hi : Bool) (sub : Fin 8), s.live = true → s.role = .spring → s.gate.hbs.length = 6 →
    (s.hbEn n = false ∨ s.cmdSwitch n = false ∧ (s.hb n).soft = none → GoesTo (exec (.readyLoss dt n hi sub) s) fun t => ((t.hb n).ch hi).rdy = false ∧ (t.get F.GATE_STATUS.RDY_OK).testBit n = false ∧
      t.get F.GATE_STATUS.TRIPPED = s.get F.GATE_STATUS.TRIPPED ∧ t.recd = s.recd ∧ s.RegsBut [F.GATE_STATUS.RDY_OK.off] t) ∧
    (s.hbEn n = true → s.cmdSwitch n = true → s.Untripped n → s.gate.actByp = false → (∀ e ∈ s.gate.window.head?, e.at' + 400 < 8 * (s.time.cyc + dt) + sub) → (s.hb n).hi.ssd = false → (s.hb n).lo.ssd = false →
      GoesTo (exec (.readyLoss dt n hi sub) s) fun t => (State.advance dt s).Trip t n tripREADY ∧ (t.hb n).soft = none ∧ (t.hb n).hi.on = false ∧ (t.hb n).lo.on = false ∧ ((t.hb n).ch hi).rdy = false ∧
        (t.get F.GATE_STATUS.RDY_OK).testBit n = false) ∧
    (GoesTo (exec (.readyInputHigh n) s) fun t => (t.hb n).hi.rdy = true ∧ (t.hb n).lo.rdy = true ∧ (t.get F.GATE_STATUS.RDY_OK).testBit n = true ∧ s.RegsBut [F.GATE_STATUS.RDY_OK.off] t ∧
      t.get F.GATE_STATUS.TRIPPED = s.get F.GATE_STATUS.TRIPPED) ∧
    (s.isTripped n = true → s.isLatched n = false → (s.hb n).cause = tripREADY → (s.hb n).tripAt / 8 + 500000 * s.get F.GATE_FAULT_CFG.RDY_TMO < s.time.cyc + dt →
      GoesTo (exec (.readyTimeout dt n) s) fun t => t.isLatched n = true ∧ t.blocked = true ∧ t.isTripped n = true)) ∧
  (∀ (s : State) (dt desat : Nat) (n : Fin 6) (hi : Bool) (sub : Fin 8), s.live = true → s.role = .spring →
    s.hbEn n = false ∨ (s.hb n).conducting (8 * (s.time.cyc + dt) + sub) ≠ some hi ∨ 8 * (s.time.cyc + dt) + sub < ((s.hb n).ch hi).onAt + 80 * s.gate.blank.getD n (s.get (F.GATE_PROT.BLANK n)) →
    GoesTo (exec (.desatFault dt n hi desat sub) s) fun t => t = (State.advance dt s).setDesat desat) ∧
  (∀ (s : State) (dt : Nat) (n : Fin 6) (sub : Fin 8), s.live = true → s.role = .spring → s.gate.hbs.length = 6 → s.hbEn n = true → s.isTripped n = true → (s.hb n).soft = some 0 → (s.hb n).hi.ssd = true →
    GoesTo (exec (.readyLoss dt n true sub) s) fun t => (t.hb n).soft = some 1 ∧ (t.hb n).hi.on = false ∧ (t.hb n).hi.ssd = true ∧ t.isTripped n = true ∧
      t.get (F.GATE_CNT.TRIP_CNT n) = min (s.get (F.GATE_CNT.TRIP_CNT n) + 1) 0xFFFF ∧ s.RegsBut ([F.GATE_STATUS.RDY_OK.off, (F.GATE_CNT.TRIP_CNT n).off] ++ recCounters) t) ∧
  (∀ (s : State) (dt : Nat) (j : Fin 32) (v : Int) (sub : Fin 8), s.live = true → s.get (F.ADC_WIN.EN j) = 1 → (s.get F.ADC_WIN_STAT.OUT).testBit j = false →
    16 * s.getI (F.ADC_WIN.HIGH j) < idealCode 0 v ∨ idealCode 0 v < 16 * s.getI (F.ADC_WIN.LOW j) →
    (s.role = .basin → GoesTo (exec (.winExit dt j v sub) s) fun t => (t.get F.ADC_WIN_STAT.OUT).testBit j = true ∧ (t.get F.ADC_WIN_LATCH.OUT).testBit j = true ∧ t.gate = s.gate ∧
      s.RegsBut ([F.ADC_WIN_STAT.OUT.off, F.ADC_WIN_LATCH.OUT.off, (F.HIF_EVT_STAT.PEND 0).off] ++ recCounters) t) ∧
    (s.role = .spring →
      GoesTo (exec (.winExit dt j v sub) s) fun t => (t.get F.ADC_WIN_STAT.OUT).testBit j = true ∧ (t.get F.ADC_WIN_LATCH.OUT).testBit j = true ∧
        (∀ n < 6, s.hbEn n = true → s.get (F.GATE_PROT.OC_SEL n) = j.val → (s.hb n).soft = none → t.isTripped n = true ∨ t.isLatched n = true))) ∧
  (∀ (s : State) (dt : Nat) (j : Fin 32) (v : Int) (sub : Fin 8), s.live = true →
    s.get (F.ADC_WIN.EN j) = 0 ∨ (16 * s.getI (F.ADC_WIN.LOW j) ≤ idealCode 0 v ∧ idealCode 0 v ≤ 16 * s.getI (F.ADC_WIN.HIGH j)) →
    GoesTo (exec (.winExit dt j v sub) s) fun t => t = State.advance dt s) ∧
  (∀ (s : State) (dt : Nat) (e : TripEnt) (w : List TripEnt), s.live = true → s.role = .spring → s.gate.window = e :: w → e.at' + 400 ≤ 8 * (s.time.cyc + dt) →
    GoesTo (exec (.multiTripWindow dt) s) fun t => t.gate = { s.gate with window := [], multi := false } ∧ s.RegsBut recCounters t) ∧
  (∀ (s : State) (dt : Nat) (n : Fin 6), s.pwr.full = false → n.val < s.gate.hbs.length →
    ((s.hb n).soft = some 0 → (s.hb n).softAt + (if s.flag F.CLK_PLLS_STAT.ON_SAFE then 6000 else (s.hb n).softFor) < (State.advance dt s).now 8 →
      GoesTo (exec (.softTurnOff dt n) s) fun t => (t.hb n).soft = some 1 ∧ (t.hb n).softAt = (State.advance dt s).now 0 ∧ ((s.hb n).hi.ssd = true → (t.hb n).hi.on = false) ∧ ((s.hb n).lo.ssd = true → (t.hb n).lo.on = false) ∧
      (t.hb n).hi.ssd = (s.hb n).hi.ssd ∧ (t.hb n).lo.ssd = (s.hb n).lo.ssd ∧ (∀ m, m ≠ n.val → t.hb m = s.hb m) ∧ s.RegsBut [] t) ∧
    ((s.hb n).soft = some 1 → (s.hb n).softAt + 1960 < (State.advance dt s).now 8 → GoesTo (exec (.ssdRelease dt n) s) fun t => (t.hb n).soft = none ∧ (t.hb n).hi = { (s.hb n).hi with ssd := false } ∧ (t.hb n).lo = { (s.hb n).lo with ssd := false } ∧
      (∀ m, m ≠ n.val → t.hb m = s.hb m) ∧ s.RegsBut [] t)) ∧
  (∀ (s : State) (dt desat : Nat) (n : Fin 6) (hi : Bool), s.live = true → s.role = .spring → s.gate.hbs.length = 6 → s.isTripped n = true → s.isLatched n = false → s.blocked = false → (s.hb n).soft = none →
    ((s.hb n).tripCh = none ∨ (s.hb n).tripCh = some hi) → ((s.hb n).ch hi).cmd = true → ((s.hb n).ch hi).cmdAt / 8 = s.time.cyc + dt →
    (s.get F.GATE_FAULT_CFG.RETRY_MAX ≤ ((State.advance dt s).liveRetries n).length → GoesTo (exec (.resumeTest dt n hi desat) s) fun t => t.isLatched n = true ∧ t.blocked = true ∧ t.gate.cause = cauLATCH) ∧
    (((State.advance dt s).liveRetries n).length < s.get F.GATE_FAULT_CFG.RETRY_MAX → ((State.advance dt s).setDesat desat).quiet n = 0 →
      GoesTo (exec (.resumeTest dt n hi desat) s) fun t => t.isTripped n = false ∧ (t.hb n).retries = (State.advance dt s).liveRetries n ++ [s.time.cyc + dt] ∧ t.blocked = false ∧
        s.RegsBut (F.GATE_STATUS.TRIPPED.off :: recCounters) t) ∧
    (((State.advance dt s).liveRetries n).length < s.get F.GATE_FAULT_CFG.RETRY_MAX → ((State.advance dt s).setDesat desat).quiet n ≠ 0 →
      GoesTo (exec (.resumeTest dt n hi desat) s) fun t => t.isTripped n = true ∧ (t.hb n).retries = (State.advance dt s).liveRetries n ∧ (t.hb n).heldOnce = true ∧ (t.hb n).hi.on = (s.hb n).hi.on ∧
        (t.hb n).lo.on = (s.hb n).lo.on ∧ s.RegsBut recCounters t)) ∧
  (∀ (s : State) (dt : Nat) (n : Fin 6) (sub : Fin 8), s.live = true → s.role = .spring → s.gate.hbs.length = 6 →
    (GoesTo (exec (.retryExpiry dt n) s) fun t => t.hb n = { s.hb n with retries := (s.hb n).retries.filter (fun r => decide (s.time.cyc + dt < r + 500000 * s.get F.GATE_FAULT_CFG.RETRY_WIN)) } ∧
      (∀ m, m ≠ n.val → t.hb m = s.hb m) ∧ s.RegsBut [] t) ∧
    (s.hbEn n = true → s.blocked = false → s.inConflict n = false → (s.hb n).hi.ssd = false → (s.hb n).lo.ssd = false →
      GoesTo (exec (.conflict dt n sub) s) fun t => t.inConflict n = true ∧ (t.hb n).hi.on = false ∧ (t.hb n).lo.on = false ∧ (t.hb n).confRun = (s.hb n).confRun + 1 ∧
        t.get (F.GATE_CNT.CONFLICT_CNT n) = min (s.get (F.GATE_CNT.CONFLICT_CNT n) + 1) 0xFFFF ∧
        (s.get F.GATE_CTRL.CONF_LATCH = 0 ∨ (s.hb n).confRun + 1 < s.get F.GATE_CTRL.CONF_LATCH → t.blocked = false ∧ s.RegsBut ([F.GATE_STATUS.CONFLICT.off, (F.GATE_CNT.CONFLICT_CNT n).off] ++ recCounters) t) ∧
        (s.get F.GATE_CTRL.CONF_LATCH ≠ 0 → s.get F.GATE_CTRL.CONF_LATCH ≤ (s.hb n).confRun + 1 → s.isLatched n = false → t.isLatched n = true ∧ t.blocked = true)))

/-- R112 to R118, R135, R154: what the gate path does with a commanded edge. -/
def Obligations.EdgesAndClear : Prop :=
  (∀ (s : State) (dt : Nat) (c : Fin 12) (sub : Fin 8), s.live = true → s.role = .spring → s.gate.hbs.length = 6 → (∀ p, s.gate.test = some p → p.ch ≠ c.val) →
    (∀ w : Wave, (State.advance dt s).wave (c.val / 2) sub = some w → w.since < 2 → s.tooShort w.left = false → ((s.hb (c.val / 2)).ch w.hi).cmd = false →
      (GoesTo (exec (.commandedEdge dt c sub) s) fun t => ((t.hb (c.val / 2)).ch (!w.hi)).cmd = false ∧
        (((s.hb (c.val / 2)).ch (!w.hi)).ssd = false → ((t.hb (c.val / 2)).ch (!w.hi)).on = false) ∧
        (((s.hb (c.val / 2)).ch (!w.hi)).ssd = true → ((t.hb (c.val / 2)).ch (!w.hi)).on = ((s.hb (c.val / 2)).ch (!w.hi)).on) ∧
        ((t.hb (c.val / 2)).ch w.hi).cmd = true ∧ ((t.hb (c.val / 2)).ch w.hi).cmdAt = 8 * (s.time.cyc + dt) + sub ∧ (∀ m, m ≠ c.val / 2 → t.hb m = s.hb m) ∧ s.RegsBut [] t) ∧
      (s.mayDrive (c.val / 2) = true → (s.hb (c.val / 2)).stopping = false → ((s.hb (c.val / 2)).ch w.hi).on = false →
        GoesTo (exec (.commandedEdge dt c sub) s) fun t =>
          ((∀ o, ((t.hb (c.val / 2)).ch (!w.hi)).offAt = some o → o + (State.advance dt s).dtEff (c.val / 2) < 8 * (s.time.cyc + dt) + sub + w.left) →
            ((t.hb (c.val / 2)).ch w.hi).on = true ∧ 8 * (s.time.cyc + dt) + sub ≤ ((t.hb (c.val / 2)).ch w.hi).onAt ∧
            (∀ o, ((t.hb (c.val / 2)).ch (!w.hi)).offAt = some o → o + (State.advance dt s).dtEff (c.val / 2) ≤ ((t.hb (c.val / 2)).ch w.hi).onAt)) ∧
          (∀ o, ((t.hb (c.val / 2)).ch (!w.hi)).offAt = some o → 8 * (s.time.cyc + dt) + sub + w.left ≤ o + (State.advance dt s).dtEff (c.val / 2) → ((t.hb (c.val / 2)).ch w.hi).on = false)) ∧
      (s.mayDrive (c.val / 2) = false → GoesTo (exec (.commandedEdge dt c sub) s) fun t => ((t.hb (c.val / 2)).ch w.hi).on = ((s.hb (c.val / 2)).ch w.hi).on)) ∧
    ((∀ w : Wave, (State.advance dt s).wave (c.val / 2) sub = some w → 2 ≤ w.since ∨ s.tooShort w.left = true ∨ ((s.hb (c.val / 2)).ch w.hi).cmd = true) →
      GoesTo (exec (.commandedEdge dt c sub) s) fun t => t = State.advance dt s)) ∧
  (∀ (s : State) (dt : Nat) (c : Fin 12) (sub : Fin 8) (p : TestSt), s.live = true → s.role = .spring → s.gate.hbs.length = 6 → s.gate.test = some p → p.ch = c.val → s.get F.CLK_PLLS_STAT.ON_SAFE = 0 →
    (p.level (8 * (s.time.cyc + dt) + sub) = false → p.level (8 * (s.time.cyc + dt) + sub - 1) = true →
      GoesTo (exec (.commandedEdge dt c sub) s) fun t => ((t.hb (c.val / 2)).ch (c.val % 2 == 0)).cmd = false ∧
        (((s.hb (c.val / 2)).ch (c.val % 2 == 0)).ssd = false → ((t.hb (c.val / 2)).ch (c.val % 2 == 0)).on = false) ∧
        (t.hb (c.val / 2)).ch (c.val % 2 != 0) = (s.hb (c.val / 2)).ch (c.val % 2 != 0) ∧ (∀ m, m ≠ c.val / 2 → t.hb m = s.hb m) ∧ s.RegsBut [] t) ∧
    (p.level (8 * (s.time.cyc + dt) + sub) = true → p.level (8 * (s.time.cyc + dt) + sub - 1) = false →
      ((((s.hb (c.val / 2)).ch (c.val % 2 != 0)).cmd = false ∨ s.hbEn (c.val / 2) = false) →
        GoesTo (exec (.commandedEdge dt c sub) s) fun t => ((t.hb (c.val / 2)).ch (c.val % 2 == 0)).cmd = true ∧
          (s.mayDrive (c.val / 2) = true → (State.advance dt s).riseAt (c.val / 2) (c.val % 2 == 0) (8 * (s.time.cyc + dt) + sub) < 8 * (s.time.cyc + dt) + sub + p.left (8 * (s.time.cyc + dt) + sub) →
            ((t.hb (c.val / 2)).ch (c.val % 2 == 0)).on = true) ∧
          (s.mayDrive (c.val / 2) = false → ((t.hb (c.val / 2)).ch (c.val % 2 == 0)).on = ((s.hb (c.val / 2)).ch (c.val % 2 == 0)).on) ∧
          (t.hb (c.val / 2)).ch (c.val % 2 != 0) = (s.hb (c.val / 2)).ch (c.val % 2 != 0) ∧ (∀ m, m ≠ c.val / 2 → t.hb m = s.hb m) ∧ s.RegsBut [] t) ∧
      (((s.hb (c.val / 2)).ch (c.val % 2 != 0)).cmd = true → s.hbEn (c.val / 2) = true → s.inConflict (c.val / 2) = false →
        GoesTo (exec (.commandedEdge dt c sub) s) fun t => t.inConflict (c.val / 2) = true ∧ ((s.hb (c.val / 2)).hi.ssd = false → (t.hb (c.val / 2)).hi.on = false) ∧
          ((s.hb (c.val / 2)).lo.ssd = false → (t.hb (c.val / 2)).lo.on = false) ∧
          t.get (F.GATE_CNT.CONFLICT_CNT (c.val / 2)) = min (s.get (F.GATE_CNT.CONFLICT_CNT (c.val / 2)) + 1) 0xFFFF)) ∧
    (p.level (8 * (s.time.cyc + dt) + sub) = p.level (8 * (s.time.cyc + dt) + sub - 1) → GoesTo (exec (.commandedEdge dt c sub) s) fun t => t = State.advance dt s)) ∧
  (∀ (s : State) (v : Word) (c : Nat), s.live = true → s.role = .spring → s.gate.hbs.length = 6 → c = (if bitsOf v.toNat 24 4 ≤ 11 then bitsOf v.toNat 24 4 else s.get F.GATE_TEST.CH) → c ≤ 11 →
    (bitOf v.toNat 31 = true → s.get F.GATE_CTRL.TEST_EN = 1 → s.get F.GATE_TEST_T.T_ON1 ≠ 0 →
      ((s.slotMode.1 = mOFF ∧ s.gate.actByp = false ∧ (∀ x, s.spr.slot = some x → x.dabEn = false) ∧ s.blocked = false ∧ s.get F.GATE_STATUS.TRIPPED = 0 ∧ s.get F.GATE_STATUS.LATCHED = 0 ∧
          (s.hb (c / 2)).hi.rdy = true ∧ (s.hb (c / 2)).lo.rdy = true ∧ s.gate.test = none) →
        GoesTo (exec (.gateTestGo v) s) fun t => t.gate.test = some ⟨c, 8 * s.time.cyc, s.get F.GATE_TEST_T.T_ON1, bitsOf v.toNat 12 12, bitsOf v.toNat 0 12⟩ ∧ t.get F.GATE_STATUS.TEST_BUSY = 1 ∧
          t.get F.GATE_TEST.CH = c ∧ t.get F.GATE_TEST.T_GAP = bitsOf v.toNat 12 12 ∧ t.get F.GATE_TEST.T_ON2 = bitsOf v.toNat 0 12 ∧ ((t.hb (c / 2)).ch (c % 2 == 0)).cmd = true ∧
          (s.mayDrive (c / 2) = true → s.riseAt (c / 2) (c % 2 == 0) (8 * s.time.cyc) < 8 * s.time.cyc + 80 * s.get F.GATE_TEST_T.T_ON1 → ((t.hb (c / 2)).ch (c % 2 == 0)).on = true) ∧
          (∀ m, m ≠ c / 2 → t.hb m = s.hb m) ∧ s.RegsBut [F.GATE_TEST.CH.off, F.GATE_STATUS.TEST_BUSY.off] t) ∧
      ((s.slotMode.1 ≠ mOFF ∨ s.gate.actByp = true ∨ (∃ x, s.spr.slot = some x ∧ x.dabEn = true) ∨ s.blocked = true ∨ s.get F.GATE_STATUS.TRIPPED ≠ 0 ∨ s.get F.GATE_STATUS.LATCHED ≠ 0 ∨
          (s.hb (c / 2)).hi.rdy = false ∨ (s.hb (c / 2)).lo.rdy = false ∨ s.gate.test ≠ none) →
        GoesTo (exec (.gateTestGo v) s) fun t => t.gate = s.gate ∧ t.get F.GATE_STATUS.TEST_BUSY = s.get F.GATE_STATUS.TEST_BUSY ∧ s.RegsBut (F.GATE_TEST.CH.off :: recCounters) t)) ∧
    (bitOf v.toNat 31 = false ∨ s.get F.GATE_CTRL.TEST_EN = 0 ∨ s.get F.GATE_TEST_T.T_ON1 = 0 →
      GoesTo (exec (.gateTestGo v) s) fun t => t = { s with regs := t.regs } ∧ t.get F.GATE_TEST.CH = c ∧ t.get F.GATE_TEST.T_GAP = bitsOf v.toNat 12 12 ∧ t.get F.GATE_TEST.T_ON2 = bitsOf v.toNat 0 12 ∧
        s.RegsBut [F.GATE_TEST.CH.off] t)) ∧
  (∀ (s : State) (dt : Nat) (p : TestSt), s.live = true → s.role = .spring → s.gate.test = some p → p.ch / 2 < s.gate.hbs.length →
    (p.at' + p.length < 8 * (s.time.cyc + dt) + 8 →
      GoesTo (exec (.testPulseProgrammeEnd dt) s) fun t => t.gate.test = none ∧ t.get F.GATE_STATUS.TEST_BUSY = 0 ∧ ((t.hb (p.ch / 2)).ch (p.ch % 2 == 0)).cmd = false ∧
        (((s.hb (p.ch / 2)).ch (p.ch % 2 == 0)).ssd = false → ((t.hb (p.ch / 2)).ch (p.ch % 2 == 0)).on = false) ∧ s.RegsBut [F.GATE_STATUS.TEST_BUSY.off] t) ∧
    (8 * (s.time.cyc + dt) + 8 ≤ p.at' + p.length → GoesTo (exec (.testPulseProgrammeEnd dt) s) fun t => t = State.advance dt s)) ∧
  (∀ (s : State) (desat : Nat) (c : DueCmd), s.live = true → s.role = .spring → s.spr.cmd = some c → c.op = 1 → (c.src ≤ 15 ∨ c.src = 0xFE) →
    ((∀ n < 6, s.hbEn n = true → (s.setDesat desat).quiet n = 0) → GoesTo (exec (.clear desat) s) fun t => t.CmdDone s c resACC ∧ t.get F.GATE_STATUS.TRIPPED = 0 ∧ t.get F.GATE_STATUS.LATCHED = 0 ∧
      t.blocked = false ∧ t.spr.missed = 0 ∧ t.gate.cause = 0 ∧ t.gate.bypCmd = s.gate.bypCmd ∧ (∀ n < 6, n < s.gate.hbs.length → (t.hb n).retries = [] ∧ (t.hb n).hi.on = (s.hb n).hi.on ∧ (t.hb n).lo.on = (s.hb n).lo.on) ∧
      s.RegsBut ([F.GATE_STATUS.TRIPPED.off, (F.CTL_CMD_REC.RES (cmdIdx c)).off] ++ recCounters) t) ∧
    (∀ n < 6, s.hbEn n = true → (s.setDesat desat).quiet n ≠ 0 → GoesTo (exec (.clear desat) s) fun t => t.CmdDone s c resFAULT ∧ t.blocked = s.blocked ∧ t.get F.GATE_STATUS.TRIPPED = s.get F.GATE_STATUS.TRIPPED ∧
      t.get F.GATE_STATUS.LATCHED = s.get F.GATE_STATUS.LATCHED ∧ t.gate.cause = s.gate.cause ∧ s.RegsBut ((F.CTL_CMD_REC.RES (cmdIdx c)).off :: recCounters) t))

/-- R191 to R207: what a received Weir, the OCP vote and the hold's limits do. -/
def Obligations.WeirAndVotes : Prop :=
  (∀ (s : State) (dt v : Nat) (port : Fin 2), s.live = true → s.role = .spring →
    (weirRx v = .notWeir → osetCode v ≠ ocTRAIN → osetCode v ≠ ocEI → GoesTo (exec (.weirRxSpring dt port v) s) fun t =>
      t.get (F.LNK_CRC_ERR.COUNT port) = min (s.get (F.LNK_CRC_ERR.COUNT port) + 1) 0xFFFFFFFF ∧ t.out = s.out ∧ t.weir = s.weir ∧ s.RegsBut [(F.LNK_CRC_ERR.COUNT port).off] t) ∧
    (osetCode v = ocTRAIN ∨ osetCode v = ocEI → GoesTo (exec (.weirRxSpring dt port v) s) fun t => t = State.advance dt s) ∧
    (weirRx v = .badCrc ∨ weirRx v = .badFields → GoesTo (exec (.weirRxSpring dt port v) s) fun t => t.get F.WEIR_CRC_CNT.COUNT = min (s.get F.WEIR_CRC_CNT.COUNT + 1) 0xFFFFFFFF ∧
      t.out = s.out ∧ t.gate = s.gate ∧ s.RegsBut (F.WEIR_CRC_CNT.COUNT.off :: recCounters) t) ∧
    (∀ x, weirRx v = .valid x → GoesTo (exec (.weirRxSpring dt port v) s) fun t =>
      t.out = (if s.lanesOff = true ∨ (s.get F.LNK_SPOS.ENROLLED ≠ 0 ∧ x.origin = s.selfId) then s.out else s.out ++ [.sets (1 - port.val) [v]]) ∧
      t.get F.WEIR_RX_CNT.COUNT = min (s.get F.WEIR_RX_CNT.COUNT + 1) 0xFFFFFFFF ∧ t.get F.WEIR_LAST.CAUSE = x.cause ∧ t.get F.WEIR_LAST.ORIGIN = x.origin ∧ t.get F.WEIR_LAST.SEQ = x.seq ∧
      (x.scope = 1 → x.arm = s.get F.WEIR_SCFG.ARM_ID → t.get F.WEIR_SSTAT.ARM_HOLD = 1 ∧ t.get F.WEIR_SSTAT.STN_HOLD = s.get F.WEIR_SSTAT.STN_HOLD ∧
        (s.get F.WEIR_SSTAT.ARM_HOLD = 0 → t.get F.WEIR_HOLD_IN.STAMP = (State.advance dt s).stamp)) ∧
      (x.scope = 1 → x.arm ≠ s.get F.WEIR_SCFG.ARM_ID → t.get F.WEIR_SSTAT.ARM_HOLD = s.get F.WEIR_SSTAT.ARM_HOLD ∧ t.gate = s.gate) ∧
      (x.scope = 2 → t.get F.WEIR_SSTAT.STN_HOLD = 1 ∧ (s.get F.WEIR_SSTAT.STN_HOLD = 0 → t.get F.WEIR_STN_IN.STAMP = (State.advance dt s).stamp)) ∧ t.blocked = s.blocked ∧
      s.RegsBut ([F.WEIR_RX_CNT.COUNT.off, F.WEIR_LAST.SEQ.off, F.WEIR_SSTAT.ARM_HOLD.off, F.WEIR_HOLD_IN.STAMP.off, F.WEIR_STN_IN.STAMP.off, F.GATE_STATUS.TEST_BUSY.off] ++ recCounters) t)) ∧
  (∀ (s : State) (dt v : Nat) (port : Fin 12), s.live = true → s.role = .basin →
    (weirRx v = .notWeir → osetCode v ≠ ocTRAIN → osetCode v ≠ ocEI → GoesTo (exec (.weirRxBasin dt port v) s) fun t =>
      t.get (F.LNK_CRC_ERR.COUNT port) = min (s.get (F.LNK_CRC_ERR.COUNT port) + 1) 0xFFFFFFFF ∧ t.out = s.out ∧ t.weir = s.weir ∧ s.RegsBut [(F.LNK_CRC_ERR.COUNT port).off] t) ∧
    (osetCode v = ocTRAIN ∨ osetCode v = ocEI → GoesTo (exec (.weirRxBasin dt port v) s) fun t => t = State.advance dt s) ∧
    (weirRx v = .badCrc ∨ weirRx v = .badFields → GoesTo (exec (.weirRxBasin dt port v) s) fun t => t.get F.WEIR_CRC_CNT.COUNT = min (s.get F.WEIR_CRC_CNT.COUNT + 1) 0xFFFFFFFF ∧
      t.weir = s.weir ∧ s.RegsBut ([F.WEIR_CRC_CNT.COUNT.off, (F.HIF_EVT_STAT.PEND 0).off] ++ recCounters) t) ∧
    (∀ x, weirRx v = .valid x → (State.advance dt s).pairKnown x.origin x.seq = true → GoesTo (exec (.weirRxBasin dt port v) s) fun t =>
      t.get F.WEIR_RX_CNT.COUNT = min (s.get F.WEIR_RX_CNT.COUNT + 1) 0xFFFFFFFF ∧ t.weir = s.weir ∧ t.out = s.out ∧ s.RegsBut [F.WEIR_RX_CNT.COUNT.off, F.WEIR_LAST.SEQ.off] t) ∧
    (∀ x, weirRx v = .valid x → (State.advance dt s).pairKnown x.origin x.seq = false →
      (x.scope = 1 → s.armSprings x.arm = [] → GoesTo (exec (.weirRxBasin dt port v) s) fun t => t.out = s.out ∧ t.pairKnown x.origin x.seq = true ∧
        s.RegsBut [F.WEIR_RX_CNT.COUNT.off, F.WEIR_LAST.SEQ.off] t) ∧
      (x.scope = 1 → s.armSprings x.arm ≠ [] → s.isMaster = false ∨ s.armIsHeld x.arm = true ∨ s.get F.WEIR_ARM_STAT.STN_HOLD = 1 ∨ (s.get F.WEIR_CFG.ESC_ARMS = 0 ∧ s.get F.WEIR_CFG.ESC_MAX = 0) →
        GoesTo (exec (.weirRxBasin dt port v) s) fun t =>
          t.out = (if s.lanesOff then s.out else s.out ++ ((s.armPorts x.arm).filter (· != port.val)).map (fun p => .sets p (List.replicate 3 (weirSet x)))) ∧ t.armIsHeld x.arm = true ∧
          t.pairKnown x.origin x.seq = true ∧ (x.cause = cauBYP → (t.get F.WEIR_ARM_STAT.NOAUTO).testBit x.arm = true) ∧ t.get F.WEIR_RX_CNT.COUNT = min (s.get F.WEIR_RX_CNT.COUNT + 1) 0xFFFFFFFF ∧
          s.RegsBut ([F.WEIR_RX_CNT.COUNT.off, F.WEIR_LAST.SEQ.off, F.WEIR_ARM_STAT.HELD.off, (F.HIF_EVT_STAT.PEND 0).off] ++ recCounters) t) ∧
      (x.scope = 1 → s.armSprings x.arm ≠ [] → s.isMaster = true → s.armIsHeld x.arm = false → s.get F.WEIR_ARM_STAT.STN_HOLD = 0 → s.get F.WEIR_CFG.ESC_ARMS ≠ 0 →
        s.get F.WEIR_CFG.ESC_ARMS ≤ ((List.range 12).filter s.armIsHeld).length + 1 → GoesTo (exec (.weirRxBasin dt port v) s) fun t => t.armIsHeld x.arm = true ∧ t.get F.WEIR_ARM_STAT.STN_HOLD = 1 ∧
          t.get F.WEIR_LAST.SCOPE = 2 ∧ t.get F.WEIR_LAST.CAUSE = cauESC ∧ t.weir.seq = (s.weir.seq + 1) % 256) ∧
      (x.scope = 2 → GoesTo (exec (.weirRxBasin dt port v) s) fun t => t.get F.WEIR_ARM_STAT.STN_HOLD = 1 ∧ t.pairKnown x.origin x.seq = true ∧
        (∀ p ∈ s.enrolledPorts, p ≠ port.val → s.lanesOff = false → .sets p (List.replicate 3 (weirSet x)) ∈ t.out) ∧
        (s.get F.WEIR_CFG.STN_TRIP = 0 → s.ticking = true → t.ctl.hw = max s.ctl.hw ssFAULT ∧ t.station = s.station)))) ∧
  (∀ (s : State) (dt : Nat) (a b c : Fin 3) (i : Instr), s.live = true → i = .ocpTrip dt a b c ∨ i = .ocpChannelChange dt a b c →
    (s.get F.WEIR_OCP_CFG.EN = 0 ∨ s.get F.WEIR_OCP_STAT.VOTE = 1 ∨ s.voteTrips 0 [a.val != 0, b.val != 0, c.val != 0] = false →
      (GoesTo (exec i s) fun t => t.get F.WEIR_OCP_STAT.STATE_A = a ∧ t.get F.WEIR_OCP_STAT.STATE_B = b ∧ t.get F.WEIR_OCP_STAT.STATE_C = c ∧
        t.get F.WEIR_OCP_STAT.VOTE = b2n (s.voteTrips 0 [a.val != 0, b.val != 0, c.val != 0]) ∧ s.RegsBut [F.WEIR_OCP_STAT.VOTE.off] t ∧ t.recd = s.recd ∧ t.gate = s.gate)) ∧
    (s.get F.WEIR_OCP_CFG.EN = 1 → s.get F.WEIR_OCP_STAT.VOTE = 0 → s.voteTrips 0 [a.val != 0, b.val != 0, c.val != 0] = true →
      (s.role = .spring → GoesTo (exec i s) fun t => t.blocked = true ∧ t.get F.WEIR_OCP_STAT.VOTE = 1 ∧ (s.blocked = false → t.gate.cause = cauSOCP ∧ t.gate.bypCmd = false)) ∧
      (s.role = .basin → GoesTo (exec i s) fun t => t.get F.WEIR_ARM_STAT.STN_HOLD = 1 ∧ t.get F.WEIR_OCP_STAT.VOTE = 1 ∧ t.get F.WEIR_LAST.SCOPE = 2 ∧ t.get F.WEIR_LAST.CAUSE = cauBOCP ∧
        t.weir.seq = (s.weir.seq + 1) % 256 ∧ t.get F.WEIR_TX_CNT.COUNT = min (s.get F.WEIR_TX_CNT.COUNT + 1) 0xFFFFFFFF))) ∧
  (∀ (s : State) (dt : Nat) (arm : Fin 12), s.live = true → s.role = .basin →
    (s.isMaster = true → s.armIsHeld arm = true → s.get F.WEIR_HOLD_MAX.TICKS ≠ 0 → s.get F.WEIR_HOLD_MAX.TICKS < tickDist (s.armHold arm).since s.tickNow → s.get F.WEIR_ARM_STAT.STN_HOLD = 0 →
      GoesTo (exec (.weirHoldMax dt arm) s) fun t => t.get F.WEIR_ARM_STAT.STN_HOLD = 1 ∧ t.get F.WEIR_LAST.SCOPE = 2 ∧ t.get F.WEIR_LAST.CAUSE = cauESC ∧ t.weir.seq = (s.weir.seq + 1) % 256 ∧
        t.armIsHeld arm = true) ∧
    (s.isMaster = false ∨ s.armIsHeld arm = false ∨ s.get F.WEIR_HOLD_MAX.TICKS = 0 ∨ tickDist (s.armHold arm).since s.tickNow ≤ s.get F.WEIR_HOLD_MAX.TICKS ∨ s.get F.WEIR_ARM_STAT.STN_HOLD = 1 →
      GoesTo (exec (.weirHoldMax dt arm) s) fun t => t = State.advance dt s)) ∧
  (∀ (s : State) (dt : Nat), s.live = true → s.role = .basin → GoesTo (exec (.weirMemoryExpiry dt) s) fun t =>
    t.weir = { s.weir with relayed := s.weir.relayed.filter (fun x => decide (s.time.cyc + dt < x.2.2 + 500000)) } ∧ t.out = s.out ∧ s.RegsBut [] t) ∧
  (∀ (s : State) (v : Word), s.live = true → s.role = .basin → GoesTo (exec (.weirRel v) s) fun t =>
    (∀ a, a < 12 → v.toNat.testBit a = true → (a ∈ t.weir.req ↔ s.armIsHeld a = true)) ∧ (∀ a, (12 ≤ a ∨ v.toNat.testBit a = false) → (a ∈ t.weir.req ↔ a ∈ s.weir.req)) ∧
    t.get F.WEIR_ARM_STAT.HELD = s.get F.WEIR_ARM_STAT.HELD ∧ s.RegsBut ((F.HIF_EVT_STAT.PEND 0).off :: recCounters) t) ∧
  (∀ (s : State) (dt : Nat) (v : Word) (w : WrIn), s.live = true → s.role = .basin → s.cfgLocked = false → s.get F.WEIR_OCP_STAT.VOTE = 1 → s.get F.WEIR_OCP_CFG.EN = 0 → v.getLsbD 0 = true →
    GoesTo (exec (.registerWrite dt F.WEIR_OCP_CFG.EN.off 4 [v] w) s) fun t => t.get F.WEIR_OCP_CFG.EN = 1 ∧ t.get F.WEIR_ARM_STAT.STN_HOLD = 1 ∧ t.get F.WEIR_LAST.SCOPE = 2 ∧
      t.get F.WEIR_LAST.CAUSE = cauBOCP ∧ t.weir.seq = (s.weir.seq + 1) % 256)

/-- R39 to R44, R70 to R74, R199, R243: a Spring follows the tick. -/
def Obligations.SpringTicks : Prop :=
  (∀ (s : State) (dt : Nat) (port : Fin 2) (bs : List Block) (f : TickFrame), s.HearsFrame port bs ftTICK → s.role = .spring → s.get F.LNK_SPOS.ENROLLED = 1 → hdrOk (hear bs).bytes = true → f = tickOf (hear bs).bytes →
    f.chain = s.get F.LNK_SPOS.INDEX / 16 →
    (∀ k ∈ s.spr.keys, keyHigher k.1 k.2.1 f.hdr.claim f.hdr.side = false ∨ k.2.2 + fourTicks (if s.sprPeriod = 0 then f.hdr.period else s.sprPeriod) < s.time.cyc + dt) →
    s.get F.LNK_SPOS.POSITION ≠ 0 → (s.spr.tick = 0 ∨ 0 < stampDiff f.hdr.bound s.spr.bound) →
    ((∀ n, s.spr.next = some n → n.slot = none ∨ n.hdr.tick ≠ f.hdr.tick ∨ keyHigher f.hdr.claim f.hdr.side n.hdr.claim n.hdr.side = true) →
      (∀ x, 1000 ≤ stampDiff f.hdr.bound (State.advance dt s).stamp → s.get F.LNK_SPOS.POSITION ≤ f.hdr.nslot → f.slots[s.get F.LNK_SPOS.POSITION - 1]? = some x →
        GoesTo (exec (.tickRx dt port bs) s) fun t => t.spr.next = some ⟨f.hdr, some x⟩ ∧ t.spr.hdr = some f.hdr ∧ t.spr.missed = s.spr.missed ∧
          (s.get F.TIME_STATUS.LOADED = 1 → t.get F.TIME_STATUS.EPOCH = f.hdr.epoch % 65536) ∧
          t.time.todValid = f.hdr.todValid ∧ t.todNsTotal = ((f.hdr.todSec * 1000000000 + f.hdr.todNs : Nat) - stampDiff f.hdr.bound (State.advance dt s).stamp : Int).toNat ∧
          (∀ a, s.get F.WEIR_SCFG.ARM_ID = a → a < 12 → f.hdr.weirHold.testBit a = true → t.get F.WEIR_SSTAT.ARM_HOLD = 1) ∧ (f.hdr.weirStn = true → t.get F.WEIR_SSTAT.STN_HOLD = 1)) ∧
      (1000 ≤ stampDiff f.hdr.bound (State.advance dt s).stamp → f.hdr.nslot < s.get F.LNK_SPOS.POSITION →
        GoesTo (exec (.tickRx dt port bs) s) fun t => t.spr.next = some ⟨f.hdr, none⟩ ∧ t.spr.hdr = some f.hdr ∧ t.spr.missed = s.spr.missed) ∧
      (stampDiff f.hdr.bound (State.advance dt s).stamp < 1000 → s.spr.late = false →
        GoesTo (exec (.tickRx dt port bs) s) fun t => t.spr.next = some ⟨f.hdr, none⟩ ∧ t.spr.hdr = some f.hdr ∧ t.spr.late = true ∧ t.spr.missed = s.spr.missed + 1 ∧
          t.get F.CTL_SPR_STATUS.TICK_LATE_CNT = min (s.get F.CTL_SPR_STATUS.TICK_LATE_CNT + 1) 0xFFFF)) ∧
    (∀ n y, s.spr.next = some ⟨n, some y⟩ → n.tick = f.hdr.tick → keyHigher f.hdr.claim f.hdr.side n.claim n.side = false →
      GoesTo (exec (.tickRx dt port bs) s) fun t => t.spr.next = some ⟨n, some y⟩ ∧ t.spr.hdr = some f.hdr ∧ t.spr.missed = s.spr.missed)) ∧
  (∀ (s : State) (dt : Nat) (port : Fin 2) (bs : List Block), s.live = true → s.role = .spring →
    ftypeOf (hear bs).bytes ≠ ftTICK ∨ hdrOk (hear bs).bytes = false ∨ s.get F.LNK_SPOS.ENROLLED = 0 ∨ (tickOf (hear bs).bytes).chain ≠ s.get F.LNK_SPOS.INDEX / 16 →
    GoesTo (exec (.tickRx dt port bs) s) fun t => t.spr = s.spr ∧ t.weir = s.weir ∧ t.get F.TIME_STATUS.EPOCH = s.get F.TIME_STATUS.EPOCH) ∧
  (∀ (s : State) (dt : Nat), s.live = true → s.role = .spring →
    (s.spr.hdr.isSome = true → s.get F.LNK_SPOS.ENROLLED = 1 → s.haveSlot = false → s.spr.late = false → stampDiff s.nextBound (State.advance dt s).stamp ≤ 1000 →
      GoesTo (exec (.slotDeadline dt) s) fun t => t.spr.late = true ∧ t.spr.missed = s.spr.missed + 1 ∧ t.spr.slot = s.spr.slot ∧
        t.get F.CTL_SPR_STATUS.TICK_LATE_CNT = min (s.get F.CTL_SPR_STATUS.TICK_LATE_CNT + 1) 0xFFFF ∧ t.gate = s.gate ∧ s.RegsBut (F.CTL_SPR_STATUS.TICK_LATE_CNT.off :: recCounters) t) ∧
    (s.haveSlot = true ∨ s.spr.late = true ∨ s.spr.hdr = none ∨ s.get F.LNK_SPOS.ENROLLED = 0 ∨ 1000 < stampDiff s.nextBound (State.advance dt s).stamp →
      GoesTo (exec (.slotDeadline dt) s) fun t => t = State.advance dt s)) ∧
  (∀ (s : State) (dt : Nat), s.live = true → s.role = .spring → s.spr.hdr = none ∨ s.get F.LNK_SPOS.ENROLLED = 0 ∨ 0 < stampDiff s.nextBound (State.advance dt s).stamp →
    GoesTo (exec (.slotApply dt) s) fun t => t = State.advance dt s) ∧
  (∀ (s : State) (dt : Nat), s.live = true → s.role = .spring → s.spr.hdr.isSome = true → s.get F.LNK_SPOS.ENROLLED = 1 → s.gate.actByp = false → (∀ a, s.tbl.commitAt = some a → 2 ^ 31 ≤ tickDist a s.coming) →
    stampDiff s.nextBound (State.advance dt s).stamp ≤ 0 →
    (∀ h x, s.spr.next = some ⟨h, some x⟩ → s.get F.CLK_PLLS_STAT.ON_SAFE = 0 →
      (s.pwr.steps.contains 7 = true → s.spr.slot.map (fun (y : Slot) => y.seq) ≠ some x.seq →
        GoesTo (exec (.slotApply dt) s) fun t => t.spr.tick = h.tick ∧ t.spr.bound = h.bound ∧ t.spr.next = none ∧ t.spr.missed = 0 ∧ t.spr.late = false ∧ t.spr.held = false ∧
          t.spr.slot = some (if s.blocked then parkedSlot x else x) ∧ t.get F.CTL_SPR_TICK.TICK = h.tick % 2 ^ 32 ∧ t.blocked = s.blocked ∧ (s.blocked = true → ∀ n, (t.hb n).hi.on = true → (s.hb n).hi.on = true)) ∧
      (s.pwr.steps.contains 7 = false ∨ s.spr.slot.map (fun (y : Slot) => y.seq) = some x.seq →
        GoesTo (exec (.slotApply dt) s) fun t => t.spr.tick = h.tick ∧ t.spr.bound = h.bound ∧ t.spr.next = none ∧ t.spr.missed = 0 ∧ t.spr.held = false ∧ t.spr.slot = s.spr.slot ∧ t.blocked = s.blocked)) ∧
    (∀ h x, s.spr.next = some ⟨h, some x⟩ → s.get F.CLK_PLLS_STAT.ON_SAFE = 1 →
      GoesTo (exec (.slotApply dt) s) fun t => t.spr.tick = h.tick ∧ t.spr.bound = h.bound ∧ t.spr.next = none ∧ t.spr.missed = s.spr.missed + 1 ∧ t.spr.held = true ∧ t.spr.slot = s.spr.slot ∧ t.blocked = s.blocked) ∧
    (s.haveSlot = false → GoesTo (exec (.slotApply dt) s) fun t => t.spr.tick = s.coming ∧ t.spr.bound = s.nextBound ∧ t.spr.slot = s.spr.slot ∧ t.spr.held = true ∧ t.spr.next = none ∧
      t.spr.missed = (if s.spr.late then s.spr.missed else s.spr.missed + 1) ∧ t.spr.late = false ∧ t.blocked = s.blocked ∧ t.spr.cmd = none)) ∧
  (∀ (s : State) (dt : Nat), s.live = true → s.role = .spring →
    (3 ≤ s.spr.missed → s.blocked = false → GoesTo (exec (.tickLoss dt) s) fun t => t.blocked = true ∧ t.gate.cause = cauTICK ∧ t.gate.bypCmd = false ∧ t.gate.packCmd = s.gate.packCmd ∧ t.spr.slot = s.spr.slot ∧
      (∀ n < 6, ((s.hb n).hi.ssd = false → (t.hb n).hi.on = false) ∧ ((s.hb n).lo.ssd = false → (t.hb n).lo.on = false))) ∧
    (s.spr.missed < 3 ∨ s.blocked = true → GoesTo (exec (.tickLoss dt) s) fun t => t = State.advance dt s)) ∧
  (∀ (s : State) (dt : Nat), s.live = true → s.role = .spring →
    (s.spr.dab.on = true → s.get F.CLK_PLLS_STAT.ON_SAFE = 0 → s.spr.dab.at' + s.spr.dab.per < 8 * (s.time.cyc + dt) + 8 →
      GoesTo (exec (.dabPeriod dt) s) fun t => t.spr.dab.y = s.spr.dab.yNext ∧ t.spr.dab.p = slewTo s.spr.dab.p s.spr.pDabRef (s.get F.CTL_DAB_LIM.SLEW) ∧ t.spr.dab.per = s.spr.perNext ∧
        t.spr.dab.at' = s.spr.dab.at' + s.spr.dab.per ∧ t.spr.dab.on = true ∧
        (t.spr.dab.yNext, t.spr.dab.i, t.spr.dab.s1, t.spr.dab.s2) = (State.advance dt s).dabStep (slewTo s.spr.dab.p s.spr.pDabRef (s.get F.CTL_DAB_LIM.SLEW)) ∧ t.gate = s.gate ∧ s.RegsBut [] t) ∧
    (s.spr.dab.on = false ∨ s.get F.CLK_PLLS_STAT.ON_SAFE = 1 ∨ 8 * (s.time.cyc + dt) + 8 ≤ s.spr.dab.at' + s.spr.dab.per → GoesTo (exec (.dabPeriod dt) s) fun t => t = State.advance dt s)) ∧
  (∀ (s : State) (dt : Nat), s.live = true → s.role = .spring →
    (s.spr.tick ≠ 0 → s.spr.latched ≠ s.spr.tick → 400 ≤ stampDiff (State.advance dt s).stamp s.spr.bound →
      GoesTo (exec (.telemLatch dt) s) fun t => t.spr.latched = s.spr.tick ∧ (∃ x, t.spr.telem = some x ∧ x.spring = s.selfId ∧ x.tick = s.spr.tick ∧ x.epoch = s.aon.epoch ∧ x.blocked = s.blocked ∧ x.mode = s.modeShown ∧
        x.bypClosed = s.bypShowsClosed ∧ x.held = s.spr.held ∧ x.slotSeq = (s.spr.slot.map (fun (y : Slot) => y.seq)).getD 0 ∧ x.cellStatus = s.cellStatus ∧ x.vDc = s.vDc.toNat ∧ x.iStr = s.iStr ∧
        x.pLimChg = (State.advance dt s).pLim false ∧ x.pLimDis = (State.advance dt s).pLim true) ∧ t.get F.CELL_STATUS.STATUS = s.cellStatus % 65536 ∧ t.gate.conflictSeen = false ∧ (∀ n < 6, (t.hb n).tripped = false) ∧
        (s.packShowsClosed = false → t.aon = s.aon) ∧ s.RegsBut (F.CELL_STATUS.STATUS.off :: recCounters) t) ∧
    (s.spr.tick = 0 ∨ s.spr.latched = s.spr.tick ∨ stampDiff (State.advance dt s).stamp s.spr.bound < 400 → GoesTo (exec (.telemLatch dt) s) fun t => t = State.advance dt s)) ∧
  (∀ (s : State) (dt : Nat), s.live = true → s.role = .spring →
    (∀ x, s.spr.telem = some x → 500 ≤ stampDiff (State.advance dt s).stamp s.spr.bound →
      GoesTo (exec (.telemSend dt) s) fun t => t.out = (if s.lanesOff = true ∨ s.get F.LNK_SPOS.ENROLLED = 0 then s.out else s.out ++ (([0, 1] : List Nat).filter s.portUp).map (fun p => .frame p (wireBytes (.telem x)))) ∧
        t.spr.telem = none ∧ s.RegsBut [] t) ∧
    (s.spr.telem = none ∨ stampDiff (State.advance dt s).stamp s.spr.bound < 500 → GoesTo (exec (.telemSend dt) s) fun t => t = State.advance dt s))

/-- R23, R28, R43, R47, R48: the tick of a Basin from its boundary to its deadline. -/
def Obligations.BasinTicks : Prop :=
  (∀ (s : State) (dt : Nat) (n : TickNext), s.live = true → s.role = .basin → s.get F.CLK_PLLS_STAT.ON_SAFE = 0 →
    (s.dispatches = true ∧ n = (if s.tickNow = 0 then ⟨1, (State.advance dt s).time.ext, s.get F.CTL_TICK_PERIOD.PERIOD⟩ else ⟨tickSucc s.tickNow, s.ctl.bound + 10 * s.ctl.per, s.get F.CTL_TICK_PERIOD.PERIOD⟩)) ∨
      (s.dispatches = false ∧ s.get F.RED_CLAIM.ROLE = 2 ∧ s.pipeFit = true ∧ ∃ h, s.red.hdr = some h ∧
        n = (if s.hdrAhead h then ⟨h.tick, (State.advance dt s).extOf h.bound, h.period⟩ else ⟨tickSucc s.tickNow, s.ctl.bound + 10 * s.ctl.per, s.ctl.per⟩)) →
    (n.bound ≤ (State.advance dt s).time.ext →
      GoesTo (exec (.gatherStart dt) s) fun t => ∃ u v : State, v = ((u.boundaryOps n.tick).thrGather).sampleCfg.sampleQueue (tickSucc n.tick) ∧ t = s.confine v ∧
        u.get F.CTL_TICK_NUM.TICK = n.tick % 2 ^ 32 ∧ u.ctl.bound = n.bound ∧ u.ctl.per = n.per ∧ u.ctl.gathering = true ∧ u.ctl.got = [] ∧ u.ctl.late = [] ∧ u.ctl.gotEnergise = false ∧ u.ctl.gotDeenergise = false ∧
        (s.dispatches = true → u.get F.CTL_STATUS.TICK_RUN = 1)) ∧
    ((State.advance dt s).time.ext < n.bound → GoesTo (exec (.gatherStart dt) s) fun t => t = State.advance dt s)) ∧
  (∀ (s : State) (dt : Nat) (port : Fin 12) (bs : List Block) (x : Telem), s.HearsFrame port bs ftTELEM → s.role = .basin → (hear bs).bytes.length = 102 → x = telemOf (hear bs).bytes → s.tickNow ≠ 0 →
    (∀ e, s.enrOf x.spring = some e → e.epoch = some x.epoch →
      (x.tick = s.tickNow → s.heard x.spring = false → x.spring ∉ s.ctl.late →
        (s.ctl.gathering = true → (State.advance dt s).time.ext ≤ s.deadline → GoesTo (exec (.telemRx dt port bs) s) fun t => t.ctl.got = s.ctl.got ++ [x] ∧ (x.spring, port.val == x.spring / 16) ∈ t.ctl.sides ∧
          t.ctl.late = s.ctl.late ∧ (x.relayed = true ∨ port.val ≠ x.spring / 16 ∨ s.relaying (x.spring / 16) = false → t.out = s.out) ∧ s.RegsBut (hearRegs port) t) ∧
        (s.ctl.gathering = false ∨ s.deadline < (State.advance dt s).time.ext → GoesTo (exec (.telemRx dt port bs) s) fun t => t.ctl.got = s.ctl.got ∧ t.ctl.late = s.ctl.late ++ [x.spring] ∧
          t.get F.CTL_LATE_CNT.COUNT = min (s.get F.CTL_LATE_CNT.COUNT + 1) 0xFFFFFFFF)) ∧
      (x.tick = s.tickNow → s.heard x.spring = true → GoesTo (exec (.telemRx dt port bs) s) fun t => t.ctl.got = s.ctl.got ∧ t.ctl.late = s.ctl.late ∧ s.RegsBut (hearRegs port) t) ∧
      (x.tick ≠ s.tickNow → (x.spring, x.tick, x.epoch) ∉ s.ctl.disc → GoesTo (exec (.telemRx dt port bs) s) fun t => t.ctl.got = s.ctl.got ∧ t.ctl.disc = s.ctl.disc ++ [(x.spring, x.tick, x.epoch)] ∧
        t.get F.CTL_LATE_CNT.COUNT = min (s.get F.CTL_LATE_CNT.COUNT + 1) 0xFFFFFFFF ∧ s.RegsBut (F.CTL_LATE_CNT.COUNT.off :: hearRegs port) t)) ∧
    (∀ e o, s.enrOf x.spring = some e → e.epoch = some o → o ≠ x.epoch → s.dispatches = true → GoesTo (exec (.telemRx dt port bs) s) fun t => t.ctl.got = s.ctl.got ∧ (t.enrOf x.spring).map (·.epoch) = some none) ∧
    (s.enrOf x.spring = none → s.dispatches = true → x.relayed = true ∨ port.val ≠ x.spring / 16 ∨ s.relaying (x.spring / 16) = false →
      GoesTo (exec (.telemRx dt port bs) s) fun t => t.ctl = s.ctl ∧ t.out = s.out ∧ s.RegsBut (hearRegs port) t) ∧
    (x.relayed = false → port.val = x.spring / 16 → s.relaying (x.spring / 16) = true → s.wholeChains ≠ [] → s.lanesOff = false →
      GoesTo (exec (.telemRx dt port bs) s) fun t => OutMsg.frame (s.wholeChains.getD (countOf s.ctl.seen (x.spring / 16) % s.wholeChains.length) 0) (wireBytes (.telem { x with relayed := true })) ∈ t.out)) ∧
  (∀ (s : State) (dt : Nat) (port : Fin 12) (bs : List Block), s.live = true → s.role = .basin → s.portUp port = true → (hear bs).good = false ∨ ftypeOf (hear bs).bytes ≠ ftTELEM ∨ (hear bs).bytes.length ≠ 102 →
    GoesTo (exec (.telemRx dt port bs) s) fun t => t.ctl = s.ctl ∧ t.get (F.LNK_CRC_ERR.COUNT port) = min (s.get (F.LNK_CRC_ERR.COUNT port) + (hear bs).count) 0xFFFFFFFF ∧ s.RegsBut (hearRegs port) t) ∧
  (∀ (s : State) (dt : Nat) (grid : GridIn), s.live = true → s.role = .basin →
    (s.get F.CLK_PLLS_STAT.ON_SAFE = 0 → s.ctl.gathering = true → s.deadline ≤ (State.advance dt s).time.ext →
      (s.dispatches = true → GoesTo (exec (.gatherDeadline dt grid) s) fun t => ∃ u : State, t = s.confine (u.activePipe grid.links) ∧ u = { State.advance dt s with ctl := { s.ctl with grid := grid, gathering := false } }) ∧
      (s.get F.RED_CLAIM.ROLE = 2 → s.pipeFit = true → GoesTo (exec (.gatherDeadline dt grid) s) fun t => ∃ u v : State, u = { State.advance dt s with ctl := { s.ctl with grid := grid, gathering := false } } ∧
        t = s.confine v ∧ v = u.shadowPipe ∧ v.red.slotsFor = tickSucc s.tickNow) ∧
      (s.dispatches = false → s.get F.RED_CLAIM.ROLE ≠ 2 ∨ s.pipeFit = false → GoesTo (exec (.gatherDeadline dt grid) s) fun t => t = { State.advance dt s with ctl := { s.ctl with grid := grid, gathering := false } })) ∧
    (s.get F.CLK_PLLS_STAT.ON_SAFE = 1 ∨ s.ctl.gathering = false ∨ (State.advance dt s).time.ext < s.deadline → GoesTo (exec (.gatherDeadline dt grid) s) fun t => t = State.advance dt s)) ∧
  (∀ (s : State) (dt : Nat) (sp : Fin 192), s.live = true → s.role = .basin →
    (s.ctl.gathering = true → s.deadline ≤ (State.advance dt s).time.ext →
      ((s.enrOf sp).isSome = true → s.heard sp = false → s.cg F.CTL_CTRL.STALE_MAX < countOf s.ctl.runs sp + 1 → sp.val ∉ s.ctl.lost →
        GoesTo (exec (.cellLost dt sp) s) fun t => t.ctl = { s.ctl with lost := s.ctl.lost ++ [sp.val] } ∧ t.get F.CTL_LOST_CNT.COUNT = min (s.get F.CTL_LOST_CNT.COUNT + 1) 0xFFFFFFFF ∧
          s.RegsBut (F.CTL_LOST_CNT.COUNT.off :: recCounters) t) ∧
      (sp.val ∈ s.ctl.lost → s.heard sp = true → 16 ≤ countOf s.ctl.back sp + 1 →
        (sp.val ∉ s.tbl.lostPush ∨ s.dispatches = false ∨ s.tbl.img = [] → GoesTo (exec (.cellReturned dt sp) s) fun t =>
          t.ctl = { s.ctl with lost := s.ctl.lost.filter (· != sp.val), back := putCount s.ctl.back sp 0 } ∧ t.tbl = s.tbl ∧ s.RegsBut recCounters t) ∧
        (sp.val ∈ s.tbl.lostPush → s.dispatches = true → s.tbl.img ≠ [] → (s.springImage s.tbl.img sp).length ≤ 65536 → GoesTo (exec (.cellReturned dt sp) s) fun t => t.ctl.lost = s.ctl.lost.filter (· != sp.val) ∧
          (sp.val, imgGen s.tbl.img, 0) ∈ t.tbl.pushes ∧ t.tbl.lostPush = s.tbl.lostPush.filter (· != sp.val)))) ∧
    (s.ctl.gathering = false ∨ (State.advance dt s).time.ext < s.deadline ∨ s.heard sp = true ∨ sp.val ∈ s.ctl.lost ∨ countOf s.ctl.runs sp + 1 ≤ s.cg F.CTL_CTRL.STALE_MAX → GoesTo (exec (.cellLost dt sp) s) fun t => t = State.advance dt s) ∧
    (s.ctl.gathering = false ∨ (State.advance dt s).time.ext < s.deadline ∨ s.heard sp = false ∨ sp.val ∉ s.ctl.lost ∨ countOf s.ctl.back sp + 1 < 16 → GoesTo (exec (.cellReturned dt sp) s) fun t => t = State.advance dt s))

/-- R57, R58, R537: one step of the station's state machine. -/
def Obligations.StationStateMachine : Prop :=
  ∀ s : State, s.pwr.stuck = false → (∀ x ∈ s.dueBy (tickSucc s.tickNow), x.d.opcode ≠ ocRESUME) → s.ctl.moved = false →
    (s.station < s.ctl.hw → s.ctl.hw ≤ 31 → s.stateStep.station = s.ctl.hw ∧ s.stateStep.ctl.lasted = 0 ∧ s.stateStep.ctl.hw = 0) ∧
    (28 ≤ s.station → s.ctl.hw ≤ s.station → s.stateStep.station = s.station) ∧
    (s.ctl.hw = 0 → s.station = 0 → s.stateStep.station =
      (if s.pwr.steps.contains 8 && s.pwr.steps.contains 9 && s.flag F.SAFE_STAT.GUARD_TESTED && s.flag F.SAFE_STAT.OUT_ON then 1 else 0)) ∧
    (s.ctl.hw = 0 → 1 ≤ s.station → s.station ≤ 27 → s.stateStep.station =
      (match State.smPick { s with ctl := { s.ctl with lasted := s.ctl.lasted + 1 } } with
       | some (_, r) => r.dst % 32
       | none => s.station)) ∧
    (∀ i r, s.smPick = some (i, r) → r.frm = s.station ∧ s.smCond r.cond r.param = (r.pol == 0) ∧
      ∀ j, j < i → ∀ y, (smRows (s.tbl8 secSTATE))[j]? = some y → s.smHolds y = false)

/-- R333: completions leave a pair in the order its descriptors came. -/
def Obligations.CompletionsInFetchOrder : Prop :=
  (∀ (s t : State) (dt : Nat) (q : Fin 16), exec (.completionWrite dt q) s = .next t →
    (t.out = s.out ∧ t.inflOf q = s.inflOf q) ∨
    ∃ x rest c, s.inflOf q = x :: rest ∧ x.phase = .done c ∧ t.inflOf q = rest.filter (fun y => y.id != x.id) ∧
      ∃ (ph : Bool) (head : Nat) (c' : Cpl), t.out = s.out ++ [.hostWrite (s.cqAddr q (s.get (F.HIF_QP_STAT.CQ_TAIL q))) (cplBytes c' ph x.d.tag x.d.opcode head)] ∧ c'.status = c.status ∧
        c'.reason = c.reason ∧ c'.result = c.result) ∧
  (∀ (s t : State) (dt p q : Nat) (b : List Nat), s.live = true → s.role = .basin → s.fetchPair = some p → exec (.descriptorFetch dt b) s = .next t →
    (t.inflOf q).map (fun x => x.id) = (s.inflOf q).map (fun x => x.id) ++ (if q = p then [s.host.nextId] else []))

/-- R2, R9: what one role does not have, the other finds empty; which reads are performed. -/
def Obligations.BlocksOfTheOtherRole : Prop :=
  (∀ (s : State) (o : Nat), s.role = .basin → 0x28000 ≤ o → o < 0x30000 → s.busRead o = (s, 0)) ∧
  (∀ (s : State) (o : Nat), s.role = .spring → 0x4000 ≤ o → o < 0x8000 → s.busRead o = (s, 0)) ∧
  (∀ (s : State) (dt off : Nat) (ws : List Word) (w : WrIn), s.live = true → s.role = .basin → 0x28000 ≤ off → off + 4 * ws.length ≤ 0x30000 →
    GoesTo (exec (.registerWrite dt off (4 * ws.length) ws w) s) fun t => s.RegsBut [] t ∧ t.gate = s.gate ∧ t.recd = s.recd ∧ t.out = s.out) ∧
  (∀ (s : State) (o v : Nat) (w : WrIn), s.role = .spring → 0x4000 ≤ o → o < 0x8000 → s.busWrite w o v = s) ∧
  (∀ (s : State) (o : Nat), s.role = .spring → s.doorbellRead o = 0) ∧
  (∀ (s : State) (q : Fin 16) (v : Word), s.live = true → s.role = .basin → s.host.dbSq.length = 16 →
    GoesTo (exec (.sqTailDoorbell q v) s) fun t => t.doorbellRead (8 * q) = v.toNat ∧ ∀ o, o < 0x80 → o ≠ 8 * q → t.doorbellRead o = s.doorbellRead o) ∧
  (∀ (s : State) (q : Fin 16) (v : Word), s.live = true → s.role = .basin → s.host.dbCq.length = 16 →
    GoesTo (exec (.cqHeadDoorbell q v) s) fun t => t.doorbellRead (8 * q + 4) = v.toNat ∧ ∀ o, o < 0x80 → o ≠ 8 * q + 4 → t.doorbellRead o = s.doorbellRead o) ∧
  (∀ (s : State) (o : Nat), 0x80 ≤ o ∨ o % 4 ≠ 0 → s.doorbellRead o = 0) ∧
  (∀ (s : State) (o i n : Nat), o % 4 = 0 → n = 1 ∧ i < 4 ∨ n = 2 ∧ (i = 0 ∨ i = 2) →
    s.hostRead ⟨o + i, n, true⟩ = ((s.hostRead ⟨o, 4, true⟩).1, ((s.hostRead ⟨o, 4, true⟩).2.drop i).take n)) ∧
  (∀ (s : State) (r : HostRd), r.whole = false ∨ (r.len = 2 ∧ r.off % 2 = 1) ∨ r.len = 3 ∨ r.len = 0 ∨ (4 ≤ r.len ∧ (r.len % 4 ≠ 0 ∨ r.off % 4 ≠ 0)) →
    s.hostRead r = (s, List.replicate r.len 0)) ∧
  (∀ (s : State) (q : Fin 16) (v : Word) (n : Fin 64) (dt off len : Nat) (m : Bool) (sp : Fin 4) (wd : Fin 5) (c : List (Nat × Word)) (ws : List Word) (w : WrIn), s.role = .spring →
    ∀ i ∈ [Instr.sqTailDoorbell q v, .cqHeadDoorbell q v, .hifWdWrite v, .qpEnable q, .qpDisable q, .pcieLinkDown, .pcieFlr, .pcieLinkUp sp wd c, .msixSend dt n m, .msixUnmask n m,
      .registerWrite dt off len ws w], exec i s = .next s)

/-- R101, R108, R110: the cell commands of the host. -/
def Obligations.CellCommands : Prop :=
  ∀ (s : State) (sp : Fin 256), s.live = true → s.role = .basin →
    ((191 < sp.val ∨ armOf (s.tbl8 secARM) sp = none) →
      (GoesTo (exec (.withdraw sp) s) fun t => t.slu = s.slu ∧ t.recd = (s.raise Ev.SLU_CMD_REJECTED [sp.val + 256]).recd ∧ s.RegsBut ((F.HIF_EVT_STAT.PEND 0).off :: recCounters) t) ∧
      (GoesTo (exec (.return sp) s) fun t => t.slu = s.slu ∧ t.recd = (s.raise Ev.SLU_CMD_REJECTED [sp.val + 512]).recd ∧ s.RegsBut ((F.HIF_EVT_STAT.PEND 0).off :: recCounters) t)) ∧
    (∀ a, sp.val ≤ 191 → armOf (s.tbl8 secARM) sp = some a →
      (GoesTo (exec (.withdraw sp) s) fun t => t.slu = { s.slu with reqs := s.slu.reqs ++ [(sp.val, 6, sp.val + 256)] } ∧ s.RegsBut [] t ∧ t.recd = s.recd) ∧
      ((s.slArm a).items ≠ [] → GoesTo (exec (.return sp) s) fun t => t.slu = { s.slu with reqs := s.slu.reqs ++ [(sp.val, 0, sp.val + 512)] } ∧ s.RegsBut [] t ∧ t.recd = s.recd) ∧
      ((s.slArm a).items = [] → s.roleOf sp = roWITHDRAWN → s.spareReady sp = true → (∀ x, s.thm.sprs.find? (fun x => x.spring == sp.val) = some x → x.shut = false) → sp.val ∉ s.slu.expired →
        sp.val ∉ s.slu.fresh ∨ sp.val ∈ s.tbl.loaded →
        GoesTo (exec (.return sp) s) fun t => t.roleOf sp = roSPARE ∧ (∀ p : Fin 192, p.val ≠ sp.val → t.roleOf p = s.roleOf p) ∧ t.slu = s.slu ∧ t.recd = ((s.setRole sp roSPARE).raise Ev.CELL_RETURNED_SPARE [sp]).recd ∧
          s.RegsBut ([(F.SLU_ROLE.ROLE (sp.val / 16)).off, (F.HIF_EVT_STAT.PEND 0).off] ++ recCounters) t) ∧
      ((s.slArm a).items = [] → (s.roleOf sp ≠ roWITHDRAWN ∨ s.spareReady sp = false ∨ (∃ x, s.thm.sprs.find? (fun x => x.spring == sp.val) = some x ∧ x.shut = true) ∨ sp.val ∈ s.slu.expired ∨
          (sp.val ∈ s.slu.fresh ∧ sp.val ∉ s.tbl.loaded)) →
        GoesTo (exec (.return sp) s) fun t => (∀ p : Fin 192, t.roleOf p = s.roleOf p) ∧ t.slu = s.slu ∧ t.recd = (s.raise Ev.SLU_CMD_REJECTED [sp.val + 512]).recd ∧
          s.RegsBut ((F.HIF_EVT_STAT.PEND 0).off :: recCounters) t))

/-- R237, R240 to R242, R246, R254: frames, as blocks on a lane, read back as they were sent. -/
def Obligations.FramesReadBack : Prop :=
  (∀ f : Frame, f.wf = true → (hear (frameBlocks (wireBytes f))).good = true ∧ (hear (frameBlocks (wireBytes f))).bytes = wireBytes f ∧ (hear (frameBlocks (wireBytes f))).count = 0 ∧
    (frameBlocks (wireBytes f)).length = blockCount (wireBytes f).length ∧ (frameBlocks (wireBytes f)).all Block.wf = true) ∧
  (∀ f : TickFrame, f.wf = true → f.hdr.todValid = Config.todShown f.hdr.todSec f.hdr.todNs →
    ftypeOf (wireBytes (.tick f)) = ftTICK ∧ hdrOk (wireBytes (.tick f)) = true ∧ tickOf (wireBytes (.tick f)) = f ∧ (wireBytes (.tick f)).length = 70 + 32 * f.hdr.nslot) ∧
  (∀ x : Telem, x.wf = true → ftypeOf (wireBytes (.telem x)) = ftTELEM ∧ telemOf (wireBytes (.telem x)) = x ∧ (wireBytes (.telem x)).length = 102) ∧
  (∀ m : Mgmt, m.wf = true → ftypeOf (wireBytes (.mgmt m)) = ftMGMT ∧ mgmtOf (wireBytes (.mgmt m)) = some m ∧ (wireBytes (.mgmt m)).length = 18 + m.payload.length) ∧
  (∀ f : SyncFrame, f.wf = true → ftypeOf (wireBytes (.sync f)) = ftSYNC ∧ syncOf (wireBytes (.sync f)) = f ∧ (wireBytes (.sync f)).length = 38) ∧
  (∀ (f g : Frame) (n : Nat), f.wf = true → g.wf = true → 0 < n → n < (frameBlocks (wireBytes f)).length →
    (ftypeOf (wireBytes f) = ftMGMT ∨ ftypeOf (wireBytes f) = ftSYNC →
      hear ((frameBlocks (wireBytes f)).take n ++ frameBlocks (wireBytes g) ++ (frameBlocks (wireBytes f)).drop n) = hear (frameBlocks (wireBytes f)) ∧
      ownBlocks {} ((frameBlocks (wireBytes f)).take n ++ frameBlocks (wireBytes g) ++ (frameBlocks (wireBytes f)).drop n) = frameBlocks (wireBytes f)) ∧
    (ftypeOf (wireBytes f) = ftTICK ∨ ftypeOf (wireBytes f) = ftTELEM →
      (hear ((frameBlocks (wireBytes f)).take n ++ frameBlocks (wireBytes g) ++ (frameBlocks (wireBytes f)).drop n)).good = false ∧
      (hear ((frameBlocks (wireBytes f)).take n ++ frameBlocks (wireBytes g) ++ (frameBlocks (wireBytes f)).drop n)).count = 1)) ∧
  (∀ (f : Frame) (v n : Nat), f.wf = true → osetCode v = ocWEIR →
    hear ((frameBlocks (wireBytes f)).take n ++ [.oset v] ++ (frameBlocks (wireBytes f)).drop n) = hear (frameBlocks (wireBytes f)))

/-- R191, R192, R238, R253, R326, R393, R469, R486: what is laid out in bits and bytes is read back. -/
def Obligations.RecordsReadBack : Prop :=
  (∀ x : WeirSet, x.scope < 4 → x.arm < 16 → x.cause < 16 → x.origin < 256 → x.seq < 256 → x.stamp < 2 ^ 18 →
    osetOk (weirSet x) = true ∧ osetCode (weirSet x) = 0xA ∧ weirFields (weirSet x) = x ∧ weirSet x < 2 ^ 56) ∧
  (∀ (locked : Bool) (role : Role) (count port : Nat), count < 256 → port < 16 → osetOk (trainSet locked role count port) = true ∧ osetCode (trainSet locked role count port) = 1 ∧
    (trainSet locked role count port).testBit 4 = locked ∧ (trainSet locked role count port).testBit 5 = (role == .spring) ∧ bitsOf (trainSet locked role count port) 8 8 = count ∧
    bitsOf (trainSet locked role count port) 16 4 = port ∧ (trainBurst locked role port).length = 128 ∧ (trainBurst locked role port)[127]? = some (trainSet locked role 0 port)) ∧
  (osetOk eiSet = true ∧ osetCode eiSet = 2) ∧
  (∀ r : EvRec, r.seq < 2 ^ 32 → r.stamp < 2 ^ 32 → r.secLo < 2 ^ 32 → r.epoch < 2 ^ 16 → r.code < 2 ^ 16 → r.source < 256 → r.commit < 256 → r.sev < 16 → r.suppressed < 2 ^ 16 →
    r.lseq < 2 ^ 16 → r.tick < 2 ^ 32 → r.payload.length = 32 → (∀ x ∈ r.payload, x < 256) → evOf (evBytes r) = r ∧ (evBytes r).length = 64 ∧
    (r.commit ≠ 0xFF → bytesAt (evBytes r) 60 4 = crc32 ((evBytes r).take 60)) ∧ (r.commit = 0xFF → bytesAt (evBytes r) 60 4 = 0)) ∧
  (∀ r : LedgerRec, r.packSerial.length = 16 → (∀ x ∈ r.packSerial, x < 256) → r.devSerial < 2 ^ 64 → r.eIn < 2 ^ 64 → r.eOut < 2 ^ 64 → r.recSec < 2 ^ 32 → r.epoch < 2 ^ 16 →
    r.rseq < 2 ^ 16 → r.kind < 256 → r.index < 256 → r.tag < 2 ^ 64 → r.lseq < 2 ^ 32 → ledgerOf (ledgerFull r) = r ∧ (ledgerFull r).length = 64) ∧
  (∀ r : EnrolReply, r.wf = true → replyOf (replyBytes r) = r ∧ (replyBytes r).length = 24) ∧
  (∀ h : Health, h.role < 8 → h.fit < 128 → h.claim < 2 ^ 16 → h.tick < 2 ^ 32 → h.shadowMis < 2 ^ 32 → h.rowsLeft < 2 ^ 16 → h.rowsPend < 2 ^ 16 → h.eccCorr < 2 ^ 32 →
    h.prbsTested < 2 ^ 16 → h.prbsFail < 2 ^ 16 → h.vaon < 256 → h.sens < 256 → h.voteExcl < 2 ^ 16 → h.chainExcl < 2 ^ 16 → h.secondPath < 2 ^ 16 → h.norSpare < 2 ^ 16 →
    h.recorder < 256 → healthOf (healthBytes h) = h ∧ (healthBytes h).length = 64) ∧
  (∀ d : Desc, d.wf = true → d.target < 2 ^ 16 → descOf (descBytes d) = d ∧ (descBytes d).length = 64)

/-- R29, R241: the order in which a lane's frames and ordered sets leave. -/
def Obligations.LaneOrder : Prop :=
  (∀ l : List LaneJob, l ≠ [] → (lanePick l).isSome = true) ∧
  (∀ (l : List LaneJob) (i : Nat), lanePick l = some i → ∃ x, l[i]? = some x ∧ ((∃ j ∈ l, j.cls = 0) → x.cls = 0) ∧ ((∃ j ∈ l, j.cls = 1) → x.cls ≠ 2) ∧
    ((∀ j ∈ l, j.cls ≠ 0) → (∃ j ∈ l, j.cls = 1 ∧ j.opened = true) → x.cls = 1 ∧ x.opened = true) ∧
    ((∀ j ∈ l, j.cls = 2) → (∃ j ∈ l, j.opened = true) → x.opened = true)) ∧
  (∀ (a b : List LaneJob) (x : LaneJob), x.cls = 1 → 1 ≤ x.left → (∀ j ∈ a, j.cls = 2) → (∀ j ∈ b, j.cls = 2) → laneRun x.left (a ++ x :: b) = a ++ b) ∧
  (∀ (l : List LaneJob) (n : Nat), (l.filter (fun j => j.cls == 2 && j.opened)).length ≤ 1 → ((laneRun n l).filter (fun j => j.cls == 2 && j.opened)).length ≤ 1) ∧
  (∀ (s : State) (p : Nat) (f : Frame), p < s.lanes.length → s.lanesOff = false → (s.sendFrame p f).out = s.out ++ [.frame p (wireBytes f)] ∧
    ((s.sendFrame p f).lanes.getD p {}).jobs = (s.lane p).jobs ++ [{ cls := laneClass (ftypeOf (wireBytes f)), left := blockCount (wireBytes f).length, bytes := (wireBytes f).length }]) ∧
  (∀ (s : State) (p : Nat) (f : Frame), s.lanesOff = true → s.sendFrame p f = s)

/-- R33, R152, R406, R557, R565: the levels of the output balls. -/
def Obligations.OutputBalls : Prop :=
  (∀ (s : State) (n : Nat) (hi : Bool), s.pwr.full = true → s.ballGate n hi = false ∧ s.ballSsd n hi = false ∧ s.ballBypCmd = false ∧ s.ballPackCtr = false ∧ s.ballSafeHs = false ∧
    s.ballSafeLs = false ∧ s.ballPpsOut = false ∧ s.ballXspiRstN = true) ∧
  (∀ (s : State) (n : Nat) (hi : Bool), s.pwr.full = false → GoesTo (exec .porstNAssert s) fun t => t.ballGate n hi = false ∧ t.ballSsd n hi = false ∧ t.ballBypCmd = false ∧ t.ballPackCtr = false ∧
    t.ballSafeHs = false ∧ t.ballSafeLs = false ∧ t.ballPpsOut = false ∧ t.ballXspiRstN = true) ∧
  (∀ s : State, s.role = .spring → s.ballSafeHs = false ∧ s.ballSafeLs = false ∧ s.ballXspiRstN = true) ∧
  (∀ (s : State) (n : Nat) (hi : Bool), s.role = .basin → s.ballGate n hi = false ∧ s.ballSsd n hi = false ∧ s.ballBypCmd = false ∧ s.ballPackCtr = false) ∧
  (∀ (s : State) (dt n : Nat) (hi : Bool), s.pwr.full = false → s.pwr.warm = false → s.pwr.rstLow = false → GoesTo (exec (.resetNAssert dt) s) fun t =>
    t.ballBypCmd = false ∧ t.ballPackCtr = false ∧ t.ballPpsOut = false ∧ ((t.hb n).soft = none → t.ballGate n hi = false ∧ t.ballSsd n hi = false)) ∧
  (∀ s : State, s.pwr.full = false → s.role = .basin → (s.ballXspiRstN = false ↔ (∃ a, s.pwr.xspiAt = some a ∧ s.time.cyc < a + 5000)))
end

