-- ==== Sys2Proof/Laws/Registers.lean ====
section
/-! SUPPORT. Registers.lean: reading a register after writing one (R7, R10), fields of a word, and the canonical form of the register list. -/
set_option Elab.async false
namespace Sys2Proof.Machine

/-! ### The list of registers -/

theorem Regs.find_erase_same (r : List (Nat × Word)) (o : Nat) : Regs.find (Regs.erase r o) o = none := by
  induction r with
  | nil => rfl
  | cons x t ih =>
    obtain ⟨k, v⟩ := x
    by_cases h : k = o
    · simp [Regs.erase, h, ih]
    · simp [Regs.erase, Regs.find, h, ih]

theorem Regs.find_erase_other (r : List (Nat × Word)) (o p : Nat) (h : p ≠ o) : Regs.find (Regs.erase r o) p = Regs.find r p := by
  induction r with
  | nil => rfl
  | cons x t ih =>
    obtain ⟨k, v⟩ := x
    by_cases hk : k = o
    · simp [Regs.erase, Regs.find, hk, ih, h.symm]
    · by_cases hp : k = p
      · simp [Regs.erase, Regs.find, hp, h]
      · simp [Regs.erase, Regs.find, hk, hp, ih]

theorem Regs.find_insert_same (r : List (Nat × Word)) (o : Nat) (w : Word) (h : Regs.find r o = none) : Regs.find (Regs.insert r o w) o = some w := by
  induction r with
  | nil => simp [Regs.insert, Regs.find]
  | cons x t ih =>
    obtain ⟨k, v⟩ := x
    have hk : ¬ k = o := by
      intro e
      simp [Regs.find, e] at h
    have ht : Regs.find t o = none := by simpa [Regs.find, hk] using h
    by_cases hl : o < k
    · simp [Regs.insert, hl, Regs.find]
    · simp [Regs.insert, hl, Regs.find, hk, ih ht]

theorem Regs.find_insert_other (r : List (Nat × Word)) (o p : Nat) (w : Word) (h : p ≠ o) : Regs.find (Regs.insert r o w) p = Regs.find r p := by
  induction r with
  | nil => simp [Regs.insert, Regs.find, h.symm]
  | cons x t ih =>
    obtain ⟨k, v⟩ := x
    by_cases hl : o < k
    · simp [Regs.insert, hl, Regs.find, h.symm]
    · by_cases hp : k = p
      · subst hp
        simp [Regs.insert, hl, Regs.find]
      · simp [Regs.insert, hl, Regs.find, hp, ih]

/-- What a put register reads as. -/
theorem Regs.put_same (r : List (Nat × Word)) (rst : Word) (o : Nat) (w : Word) : (Regs.find (Regs.put r rst o w) o).getD rst = w := by
  unfold Regs.put
  split
  · rename_i h
    simp [Regs.find_erase_same, h]
  · simp [Regs.find_insert_same _ _ _ (Regs.find_erase_same r o)]

/-- A put leaves every other register. -/
theorem Regs.put_other (r : List (Nat × Word)) (rst : Word) (o p : Nat) (w : Word) (h : p ≠ o) : Regs.find (Regs.put r rst o w) p = Regs.find r p := by
  unfold Regs.put
  split
  · exact Regs.find_erase_other r o p h
  · rw [Regs.find_insert_other _ _ _ _ h, Regs.find_erase_other r o p h]

/-- The canonical form of the list: offsets strictly rising, no entry at its reset word. -/
def Regs.wf (rst : Nat → Word) : List (Nat × Word) → Bool
  | [] => true
  | (k, v) :: t => (v != rst k) && t.all (fun x => decide (k < x.1)) && Regs.wf rst t

theorem Regs.mem_erase {r : List (Nat × Word)} {o : Nat} {x : Nat × Word} (h : x ∈ Regs.erase r o) : x ∈ r ∧ x.1 ≠ o := by
  induction r with
  | nil => simp [Regs.erase] at h
  | cons y t ih =>
    obtain ⟨k, v⟩ := y
    by_cases hk : k = o
    · simp only [Regs.erase, hk, if_true] at h
      exact ⟨List.mem_cons_of_mem _ (ih h).1, (ih h).2⟩
    · simp only [Regs.erase, hk, if_false, List.mem_cons] at h
      rcases h with rfl | h
      · exact ⟨List.mem_cons_self, hk⟩
      · exact ⟨List.mem_cons_of_mem _ (ih h).1, (ih h).2⟩

theorem Regs.mem_insert {r : List (Nat × Word)} {o : Nat} {w : Word} {x : Nat × Word} (h : x ∈ Regs.insert r o w) : x = (o, w) ∨ x ∈ r := by
  induction r with
  | nil => simpa [Regs.insert] using h
  | cons y t ih =>
    obtain ⟨k, v⟩ := y
    by_cases hl : o < k
    · simpa [Regs.insert, hl] using h
    · simp only [Regs.insert, hl, if_false, List.mem_cons] at h
      rcases h with rfl | h
      · exact .inr List.mem_cons_self
      · exact (ih h).imp id (List.mem_cons_of_mem _)

theorem Regs.wf_erase (rst : Nat → Word) (r : List (Nat × Word)) (o : Nat) (h : Regs.wf rst r = true) : Regs.wf rst (Regs.erase r o) = true := by
  induction r with
  | nil => rfl
  | cons y t ih =>
    obtain ⟨k, v⟩ := y
    simp only [Regs.wf, Bool.and_eq_true, List.all_eq_true, decide_eq_true_eq] at h
    by_cases hk : k = o
    · simpa [Regs.erase, hk] using ih h.2
    · simp only [Regs.erase, hk, if_false, Regs.wf, Bool.and_eq_true, List.all_eq_true, decide_eq_true_eq]
      exact ⟨⟨h.1.1, fun x hx => h.1.2 x (Regs.mem_erase hx).1⟩, ih h.2⟩

theorem Regs.wf_insert (rst : Nat → Word) (r : List (Nat × Word)) (o : Nat) (w : Word) (h : Regs.wf rst r = true) (hn : ∀ x ∈ r, x.1 ≠ o) (hw : w ≠ rst o) :
    Regs.wf rst (Regs.insert r o w) = true := by
  induction r with
  | nil => simp [Regs.insert, Regs.wf, hw]
  | cons y t ih =>
    obtain ⟨k, v⟩ := y
    have h' := h
    simp only [Regs.wf, Bool.and_eq_true, List.all_eq_true, decide_eq_true_eq] at h
    by_cases hl : o < k
    · simp only [Regs.insert, hl, if_true]
      rw [Regs.wf, h']
      simp only [Bool.and_eq_true, List.all_eq_true, decide_eq_true_eq, List.mem_cons, and_true, bne_iff_ne, ne_eq]
      refine ⟨hw, ?_⟩
      rintro x (rfl | hx)
      · exact hl
      · exact hl.trans (h.1.2 x hx)
    · have hlt : k < o := lt_of_le_of_ne (not_lt.mp hl) (hn (k, v) List.mem_cons_self)
      simp only [Regs.insert, hl, if_false, Regs.wf, Bool.and_eq_true, List.all_eq_true, decide_eq_true_eq]
      refine ⟨⟨h.1.1, fun x hx => ?_⟩, ih h.2 (fun x hx => hn x (List.mem_cons_of_mem _ hx))⟩
      rcases Regs.mem_insert hx with rfl | hx
      · exact hlt
      · exact h.1.2 x hx

/-- A put keeps the canonical form. -/
theorem Regs.wf_put (rst : Nat → Word) (r : List (Nat × Word)) (o : Nat) (w : Word) (h : Regs.wf rst r = true) : Regs.wf rst (Regs.put r (rst o) o w) = true := by
  unfold Regs.put
  split
  · exact Regs.wf_erase rst r o h
  · rename_i hw
    exact Regs.wf_insert rst _ o w (Regs.wf_erase rst r o h) (fun x hx => (Regs.mem_erase hx).2) hw

/-! ### Words and registers -/

theorem State.rd_wr_same (s : State) (o : Nat) (w : Word) : (s.wr o w).rd o = w := Regs.put_same s.regs _ o w

theorem State.rd_wr_other (s : State) (o p : Nat) (w : Word) (h : p ≠ o) : (s.wr o w).rd p = s.rd p := by
  unfold State.rd State.wr
  rw [Regs.put_other _ _ _ _ _ h]

/-- Bits outside a put field are kept, bits inside come from the value. -/
theorem putField_testBit (w : Word) (lo n v i : Nat) (hi : i < 32) :
    (putField w lo n v).toNat.testBit i = if lo ≤ i ∧ i < lo + n then v.testBit (i - lo) else w.toNat.testBit i := by
  unfold putField
  simp only [BitVec.testBit_toNat, BitVec.getLsbD_or, BitVec.getLsbD_and, BitVec.getLsbD_not, BitVec.getLsbD_shiftLeft, BitVec.getLsbD_ofNat, hi, decide_true,
    Bool.true_and, Nat.testBit_two_pow_sub_one]
  by_cases h1 : lo ≤ i
  · have h2 : ¬ i < lo := not_lt.mpr h1
    by_cases h3 : i < lo + n
    · have h4 : i - lo < n := by omega
      have h5 : i - lo < 32 := by omega
      simp [h1, h2, h3, h4, h5]
    · have h4 : ¬ i - lo < n := by omega
      simp [h1, h2, h3, h4]
  · have h2 : i < lo := not_le.mp h1
    simp [h1, h2]

theorem bitsOf_testBit (v lo w i : Nat) : (bitsOf v lo w).testBit i = (decide (i < w) && v.testBit (lo + i)) := by
  simp [bitsOf, Nat.testBit_mod_two_pow, Nat.testBit_shiftRight]

theorem bitsOf_lt (v lo w : Nat) : bitsOf v lo w < 2 ^ w := Nat.mod_lt _ (Nat.two_pow_pos w)

theorem bitsOf_putField_same (x : Word) (lo n v : Nat) (h : lo + n ≤ 32) : bitsOf (putField x lo n v).toNat lo n = v % 2 ^ n := by
  apply Nat.eq_of_testBit_eq
  intro i
  rw [bitsOf_testBit, Nat.testBit_mod_two_pow]
  by_cases hi : i < n
  · rw [putField_testBit _ _ _ _ _ (by omega)]
    have : lo + i < lo + n := by omega
    simp [hi]
  · simp [hi]

theorem bitsOf_putField_apart (x : Word) (lo n v lo' n' : Nat) (h' : lo' + n' ≤ 32) (h : lo + n ≤ lo' ∨ lo' + n' ≤ lo) :
    bitsOf (putField x lo n v).toNat lo' n' = bitsOf x.toNat lo' n' := by
  apply Nat.eq_of_testBit_eq
  intro i
  rw [bitsOf_testBit, bitsOf_testBit]
  by_cases hi : i < n'
  · rw [putField_testBit _ _ _ _ _ (by omega)]
    have : ¬ (lo ≤ lo' + i ∧ lo' + i < lo + n) := by omega
    simp [this]
  · simp [hi]

/-! ### Fields -/

/-- A field lies within its word. -/
def Fld.ok (f : Fld) : Bool := decide (f.lo + f.w ≤ 32)

/-- Two fields share no bit. -/
def Fld.apart (f g : Fld) : Bool := f.off != g.off || decide (f.lo + f.w ≤ g.lo) || decide (g.lo + g.w ≤ f.lo)

theorem State.get_lt (s : State) (f : Fld) : s.get f < 2 ^ f.w := bitsOf_lt _ _ _

/-- A field set reads as the value's low bits. -/
theorem State.get_set_same (s : State) (f : Fld) (v : Nat) (h : f.ok = true) : (s.set f v).get f = v % 2 ^ f.w := by
  simp only [Fld.ok, decide_eq_true_eq] at h
  unfold State.get State.set
  rw [State.rd_wr_same, bitsOf_putField_same _ _ _ _ h]

/-- A field set leaves every field apart from it. -/
theorem State.get_set_apart (s : State) (f g : Fld) (v : Nat) (hg : g.ok = true) (h : f.apart g = true) : (s.set f v).get g = s.get g := by
  simp only [Fld.ok, decide_eq_true_eq] at hg
  simp only [Fld.apart, Bool.or_eq_true, bne_iff_ne, ne_eq, decide_eq_true_eq] at h
  unfold State.get State.set
  by_cases ho : g.off = f.off
  · rw [ho, State.rd_wr_same, bitsOf_putField_apart _ _ _ _ _ _ hg]
    rcases h with (h | h) | h
    · exact absurd ho.symm h
    · exact .inl h
    · exact .inr h
  · rw [State.rd_wr_other _ _ _ _ ho]

/-- A word written reads, field by field, as its bits. -/
theorem State.get_wr_same (s : State) (o : Nat) (w : Word) (f : Fld) (h : f.off = o) : (s.wr o w).get f = bitsOf w.toNat f.lo f.w := by
  subst h
  rw [State.get, State.rd_wr_same]

theorem State.get_wr_other (s : State) (o : Nat) (w : Word) (f : Fld) (h : f.off ≠ o) : (s.wr o w).get f = s.get f := by
  unfold State.get
  rw [State.rd_wr_other _ _ _ _ h]

/-- A field set leaves every other register whole. -/
theorem State.rd_set_other (s : State) (f : Fld) (v o : Nat) (h : o ≠ f.off) : (s.set f v).rd o = s.rd o := State.rd_wr_other s f.off o _ h

end Sys2Proof.Machine
end

