-- ==== Sys2Proof/Laws/State.lean ====
section
/-! SUPPORT. Laws/State.lean: what each basic update of the state leaves, field by field, and extensionality of State. -/
namespace Sys2Proof.Machine

/-- Two states with equal fields are equal. -/
theorem State.eq_of_fields {s t : State} (h_role : s.role = t.role) (h_side : s.side = t.side) (h_boot : s.boot = t.boot) (h_regs : s.regs = t.regs) (h_w1c : s.w1c = t.w1c) (h_pwr : s.pwr = t.pwr) (h_clk : s.clk = t.clk) (h_time : s.time = t.time) (h_recd : s.recd = t.recd) (h_aon : s.aon = t.aon) (h_nor : s.nor = t.nor) (h_tbl : s.tbl = t.tbl) (h_host : s.host = t.host) (h_pcie : s.pcie = t.pcie) (h_lnk : s.lnk = t.lnk) (h_ctl : s.ctl = t.ctl) (h_slu : s.slu = t.slu) (h_spr : s.spr = t.spr) (h_gate : s.gate = t.gate) (h_adc : s.adc = t.adc) (h_weir : s.weir = t.weir) (h_thm : s.thm = t.thm) (h_can : s.can = t.can) (h_red : s.red = t.red) (h_safe : s.safe = t.safe) (h_lanes : s.lanes = t.lanes) (h_out : s.out = t.out) (h_free : s.free = t.free) (h_pending : s.pending = t.pending) : s = t := by
  cases s; cases t; simp only at *; subst h_role h_side h_boot h_regs h_w1c h_pwr h_clk h_time h_recd h_aon h_nor h_tbl h_host h_pcie h_lnk h_ctl h_slu h_spr h_gate h_adc h_weir h_thm h_can h_red h_safe h_lanes h_out h_free h_pending; rfl

/-! `wr` -/
@[simp] theorem State.wr_role (s : State) (o : Nat) (w : Word) : (s.wr o w).role = s.role := (rfl)
@[simp] theorem State.wr_side (s : State) (o : Nat) (w : Word) : (s.wr o w).side = s.side := (rfl)
@[simp] theorem State.wr_boot (s : State) (o : Nat) (w : Word) : (s.wr o w).boot = s.boot := (rfl)
@[simp] theorem State.wr_w1c (s : State) (o : Nat) (w : Word) : (s.wr o w).w1c = s.w1c := (rfl)
@[simp] theorem State.wr_pwr (s : State) (o : Nat) (w : Word) : (s.wr o w).pwr = s.pwr := (rfl)
@[simp] theorem State.wr_clk (s : State) (o : Nat) (w : Word) : (s.wr o w).clk = s.clk := (rfl)
@[simp] theorem State.wr_time (s : State) (o : Nat) (w : Word) : (s.wr o w).time = s.time := (rfl)
@[simp] theorem State.wr_recd (s : State) (o : Nat) (w : Word) : (s.wr o w).recd = s.recd := (rfl)
@[simp] theorem State.wr_aon (s : State) (o : Nat) (w : Word) : (s.wr o w).aon = s.aon := (rfl)
@[simp] theorem State.wr_nor (s : State) (o : Nat) (w : Word) : (s.wr o w).nor = s.nor := (rfl)
@[simp] theorem State.wr_tbl (s : State) (o : Nat) (w : Word) : (s.wr o w).tbl = s.tbl := (rfl)
@[simp] theorem State.wr_host (s : State) (o : Nat) (w : Word) : (s.wr o w).host = s.host := (rfl)
@[simp] theorem State.wr_pcie (s : State) (o : Nat) (w : Word) : (s.wr o w).pcie = s.pcie := (rfl)
@[simp] theorem State.wr_lnk (s : State) (o : Nat) (w : Word) : (s.wr o w).lnk = s.lnk := (rfl)
@[simp] theorem State.wr_ctl (s : State) (o : Nat) (w : Word) : (s.wr o w).ctl = s.ctl := (rfl)
@[simp] theorem State.wr_slu (s : State) (o : Nat) (w : Word) : (s.wr o w).slu = s.slu := (rfl)
@[simp] theorem State.wr_spr (s : State) (o : Nat) (w : Word) : (s.wr o w).spr = s.spr := (rfl)
@[simp] theorem State.wr_gate (s : State) (o : Nat) (w : Word) : (s.wr o w).gate = s.gate := (rfl)
@[simp] theorem State.wr_adc (s : State) (o : Nat) (w : Word) : (s.wr o w).adc = s.adc := (rfl)
@[simp] theorem State.wr_weir (s : State) (o : Nat) (w : Word) : (s.wr o w).weir = s.weir := (rfl)
@[simp] theorem State.wr_thm (s : State) (o : Nat) (w : Word) : (s.wr o w).thm = s.thm := (rfl)
@[simp] theorem State.wr_can (s : State) (o : Nat) (w : Word) : (s.wr o w).can = s.can := (rfl)
@[simp] theorem State.wr_red (s : State) (o : Nat) (w : Word) : (s.wr o w).red = s.red := (rfl)
@[simp] theorem State.wr_safe (s : State) (o : Nat) (w : Word) : (s.wr o w).safe = s.safe := (rfl)
@[simp] theorem State.wr_lanes (s : State) (o : Nat) (w : Word) : (s.wr o w).lanes = s.lanes := (rfl)
@[simp] theorem State.wr_out (s : State) (o : Nat) (w : Word) : (s.wr o w).out = s.out := (rfl)
@[simp] theorem State.wr_free (s : State) (o : Nat) (w : Word) : (s.wr o w).free = s.free := (rfl)
@[simp] theorem State.wr_pending (s : State) (o : Nat) (w : Word) : (s.wr o w).pending = s.pending := (rfl)

/-! `set` -/
@[simp] theorem State.set_role (s : State) (f : Fld) (v : Nat) : (s.set f v).role = s.role := (rfl)
@[simp] theorem State.set_side (s : State) (f : Fld) (v : Nat) : (s.set f v).side = s.side := (rfl)
@[simp] theorem State.set_boot (s : State) (f : Fld) (v : Nat) : (s.set f v).boot = s.boot := (rfl)
@[simp] theorem State.set_w1c (s : State) (f : Fld) (v : Nat) : (s.set f v).w1c = s.w1c := (rfl)
@[simp] theorem State.set_pwr (s : State) (f : Fld) (v : Nat) : (s.set f v).pwr = s.pwr := (rfl)
@[simp] theorem State.set_clk (s : State) (f : Fld) (v : Nat) : (s.set f v).clk = s.clk := (rfl)
@[simp] theorem State.set_time (s : State) (f : Fld) (v : Nat) : (s.set f v).time = s.time := (rfl)
@[simp] theorem State.set_recd (s : State) (f : Fld) (v : Nat) : (s.set f v).recd = s.recd := (rfl)
@[simp] theorem State.set_aon (s : State) (f : Fld) (v : Nat) : (s.set f v).aon = s.aon := (rfl)
@[simp] theorem State.set_nor (s : State) (f : Fld) (v : Nat) : (s.set f v).nor = s.nor := (rfl)
@[simp] theorem State.set_tbl (s : State) (f : Fld) (v : Nat) : (s.set f v).tbl = s.tbl := (rfl)
@[simp] theorem State.set_host (s : State) (f : Fld) (v : Nat) : (s.set f v).host = s.host := (rfl)
@[simp] theorem State.set_pcie (s : State) (f : Fld) (v : Nat) : (s.set f v).pcie = s.pcie := (rfl)
@[simp] theorem State.set_lnk (s : State) (f : Fld) (v : Nat) : (s.set f v).lnk = s.lnk := (rfl)
@[simp] theorem State.set_ctl (s : State) (f : Fld) (v : Nat) : (s.set f v).ctl = s.ctl := (rfl)
@[simp] theorem State.set_slu (s : State) (f : Fld) (v : Nat) : (s.set f v).slu = s.slu := (rfl)
@[simp] theorem State.set_spr (s : State) (f : Fld) (v : Nat) : (s.set f v).spr = s.spr := (rfl)
@[simp] theorem State.set_gate (s : State) (f : Fld) (v : Nat) : (s.set f v).gate = s.gate := (rfl)
@[simp] theorem State.set_adc (s : State) (f : Fld) (v : Nat) : (s.set f v).adc = s.adc := (rfl)
@[simp] theorem State.set_weir (s : State) (f : Fld) (v : Nat) : (s.set f v).weir = s.weir := (rfl)
@[simp] theorem State.set_thm (s : State) (f : Fld) (v : Nat) : (s.set f v).thm = s.thm := (rfl)
@[simp] theorem State.set_can (s : State) (f : Fld) (v : Nat) : (s.set f v).can = s.can := (rfl)
@[simp] theorem State.set_red (s : State) (f : Fld) (v : Nat) : (s.set f v).red = s.red := (rfl)
@[simp] theorem State.set_safe (s : State) (f : Fld) (v : Nat) : (s.set f v).safe = s.safe := (rfl)
@[simp] theorem State.set_lanes (s : State) (f : Fld) (v : Nat) : (s.set f v).lanes = s.lanes := (rfl)
@[simp] theorem State.set_out (s : State) (f : Fld) (v : Nat) : (s.set f v).out = s.out := (rfl)
@[simp] theorem State.set_free (s : State) (f : Fld) (v : Nat) : (s.set f v).free = s.free := (rfl)
@[simp] theorem State.set_pending (s : State) (f : Fld) (v : Nat) : (s.set f v).pending = s.pending := (rfl)

/-! `setI` -/
@[simp] theorem State.setI_role (s : State) (f : Fld) (v : Int) : (s.setI f v).role = s.role := (rfl)
@[simp] theorem State.setI_side (s : State) (f : Fld) (v : Int) : (s.setI f v).side = s.side := (rfl)
@[simp] theorem State.setI_boot (s : State) (f : Fld) (v : Int) : (s.setI f v).boot = s.boot := (rfl)
@[simp] theorem State.setI_w1c (s : State) (f : Fld) (v : Int) : (s.setI f v).w1c = s.w1c := (rfl)
@[simp] theorem State.setI_pwr (s : State) (f : Fld) (v : Int) : (s.setI f v).pwr = s.pwr := (rfl)
@[simp] theorem State.setI_clk (s : State) (f : Fld) (v : Int) : (s.setI f v).clk = s.clk := (rfl)
@[simp] theorem State.setI_time (s : State) (f : Fld) (v : Int) : (s.setI f v).time = s.time := (rfl)
@[simp] theorem State.setI_recd (s : State) (f : Fld) (v : Int) : (s.setI f v).recd = s.recd := (rfl)
@[simp] theorem State.setI_aon (s : State) (f : Fld) (v : Int) : (s.setI f v).aon = s.aon := (rfl)
@[simp] theorem State.setI_nor (s : State) (f : Fld) (v : Int) : (s.setI f v).nor = s.nor := (rfl)
@[simp] theorem State.setI_tbl (s : State) (f : Fld) (v : Int) : (s.setI f v).tbl = s.tbl := (rfl)
@[simp] theorem State.setI_host (s : State) (f : Fld) (v : Int) : (s.setI f v).host = s.host := (rfl)
@[simp] theorem State.setI_pcie (s : State) (f : Fld) (v : Int) : (s.setI f v).pcie = s.pcie := (rfl)
@[simp] theorem State.setI_lnk (s : State) (f : Fld) (v : Int) : (s.setI f v).lnk = s.lnk := (rfl)
@[simp] theorem State.setI_ctl (s : State) (f : Fld) (v : Int) : (s.setI f v).ctl = s.ctl := (rfl)
@[simp] theorem State.setI_slu (s : State) (f : Fld) (v : Int) : (s.setI f v).slu = s.slu := (rfl)
@[simp] theorem State.setI_spr (s : State) (f : Fld) (v : Int) : (s.setI f v).spr = s.spr := (rfl)
@[simp] theorem State.setI_gate (s : State) (f : Fld) (v : Int) : (s.setI f v).gate = s.gate := (rfl)
@[simp] theorem State.setI_adc (s : State) (f : Fld) (v : Int) : (s.setI f v).adc = s.adc := (rfl)
@[simp] theorem State.setI_weir (s : State) (f : Fld) (v : Int) : (s.setI f v).weir = s.weir := (rfl)
@[simp] theorem State.setI_thm (s : State) (f : Fld) (v : Int) : (s.setI f v).thm = s.thm := (rfl)
@[simp] theorem State.setI_can (s : State) (f : Fld) (v : Int) : (s.setI f v).can = s.can := (rfl)
@[simp] theorem State.setI_red (s : State) (f : Fld) (v : Int) : (s.setI f v).red = s.red := (rfl)
@[simp] theorem State.setI_safe (s : State) (f : Fld) (v : Int) : (s.setI f v).safe = s.safe := (rfl)
@[simp] theorem State.setI_lanes (s : State) (f : Fld) (v : Int) : (s.setI f v).lanes = s.lanes := (rfl)
@[simp] theorem State.setI_out (s : State) (f : Fld) (v : Int) : (s.setI f v).out = s.out := (rfl)
@[simp] theorem State.setI_free (s : State) (f : Fld) (v : Int) : (s.setI f v).free = s.free := (rfl)
@[simp] theorem State.setI_pending (s : State) (f : Fld) (v : Int) : (s.setI f v).pending = s.pending := (rfl)

/-! `setFlag` -/
@[simp] theorem State.setFlag_role (s : State) (f : Fld) (b : Bool) : (s.setFlag f b).role = s.role := (rfl)
@[simp] theorem State.setFlag_side (s : State) (f : Fld) (b : Bool) : (s.setFlag f b).side = s.side := (rfl)
@[simp] theorem State.setFlag_boot (s : State) (f : Fld) (b : Bool) : (s.setFlag f b).boot = s.boot := (rfl)
@[simp] theorem State.setFlag_w1c (s : State) (f : Fld) (b : Bool) : (s.setFlag f b).w1c = s.w1c := (rfl)
@[simp] theorem State.setFlag_pwr (s : State) (f : Fld) (b : Bool) : (s.setFlag f b).pwr = s.pwr := (rfl)
@[simp] theorem State.setFlag_clk (s : State) (f : Fld) (b : Bool) : (s.setFlag f b).clk = s.clk := (rfl)
@[simp] theorem State.setFlag_time (s : State) (f : Fld) (b : Bool) : (s.setFlag f b).time = s.time := (rfl)
@[simp] theorem State.setFlag_recd (s : State) (f : Fld) (b : Bool) : (s.setFlag f b).recd = s.recd := (rfl)
@[simp] theorem State.setFlag_aon (s : State) (f : Fld) (b : Bool) : (s.setFlag f b).aon = s.aon := (rfl)
@[simp] theorem State.setFlag_nor (s : State) (f : Fld) (b : Bool) : (s.setFlag f b).nor = s.nor := (rfl)
@[simp] theorem State.setFlag_tbl (s : State) (f : Fld) (b : Bool) : (s.setFlag f b).tbl = s.tbl := (rfl)
@[simp] theorem State.setFlag_host (s : State) (f : Fld) (b : Bool) : (s.setFlag f b).host = s.host := (rfl)
@[simp] theorem State.setFlag_pcie (s : State) (f : Fld) (b : Bool) : (s.setFlag f b).pcie = s.pcie := (rfl)
@[simp] theorem State.setFlag_lnk (s : State) (f : Fld) (b : Bool) : (s.setFlag f b).lnk = s.lnk := (rfl)
@[simp] theorem State.setFlag_ctl (s : State) (f : Fld) (b : Bool) : (s.setFlag f b).ctl = s.ctl := (rfl)
@[simp] theorem State.setFlag_slu (s : State) (f : Fld) (b : Bool) : (s.setFlag f b).slu = s.slu := (rfl)
@[simp] theorem State.setFlag_spr (s : State) (f : Fld) (b : Bool) : (s.setFlag f b).spr = s.spr := (rfl)
@[simp] theorem State.setFlag_gate (s : State) (f : Fld) (b : Bool) : (s.setFlag f b).gate = s.gate := (rfl)
@[simp] theorem State.setFlag_adc (s : State) (f : Fld) (b : Bool) : (s.setFlag f b).adc = s.adc := (rfl)
@[simp] theorem State.setFlag_weir (s : State) (f : Fld) (b : Bool) : (s.setFlag f b).weir = s.weir := (rfl)
@[simp] theorem State.setFlag_thm (s : State) (f : Fld) (b : Bool) : (s.setFlag f b).thm = s.thm := (rfl)
@[simp] theorem State.setFlag_can (s : State) (f : Fld) (b : Bool) : (s.setFlag f b).can = s.can := (rfl)
@[simp] theorem State.setFlag_red (s : State) (f : Fld) (b : Bool) : (s.setFlag f b).red = s.red := (rfl)
@[simp] theorem State.setFlag_safe (s : State) (f : Fld) (b : Bool) : (s.setFlag f b).safe = s.safe := (rfl)
@[simp] theorem State.setFlag_lanes (s : State) (f : Fld) (b : Bool) : (s.setFlag f b).lanes = s.lanes := (rfl)
@[simp] theorem State.setFlag_out (s : State) (f : Fld) (b : Bool) : (s.setFlag f b).out = s.out := (rfl)
@[simp] theorem State.setFlag_free (s : State) (f : Fld) (b : Bool) : (s.setFlag f b).free = s.free := (rfl)
@[simp] theorem State.setFlag_pending (s : State) (f : Fld) (b : Bool) : (s.setFlag f b).pending = s.pending := (rfl)

/-! `hwSet` -/
@[simp] theorem State.hwSet_role (s : State) (f : Fld) (n : Nat) : (s.hwSet f n).role = s.role := (rfl)
@[simp] theorem State.hwSet_side (s : State) (f : Fld) (n : Nat) : (s.hwSet f n).side = s.side := (rfl)
@[simp] theorem State.hwSet_boot (s : State) (f : Fld) (n : Nat) : (s.hwSet f n).boot = s.boot := (rfl)
@[simp] theorem State.hwSet_pwr (s : State) (f : Fld) (n : Nat) : (s.hwSet f n).pwr = s.pwr := (rfl)
@[simp] theorem State.hwSet_clk (s : State) (f : Fld) (n : Nat) : (s.hwSet f n).clk = s.clk := (rfl)
@[simp] theorem State.hwSet_time (s : State) (f : Fld) (n : Nat) : (s.hwSet f n).time = s.time := (rfl)
@[simp] theorem State.hwSet_recd (s : State) (f : Fld) (n : Nat) : (s.hwSet f n).recd = s.recd := (rfl)
@[simp] theorem State.hwSet_aon (s : State) (f : Fld) (n : Nat) : (s.hwSet f n).aon = s.aon := (rfl)
@[simp] theorem State.hwSet_nor (s : State) (f : Fld) (n : Nat) : (s.hwSet f n).nor = s.nor := (rfl)
@[simp] theorem State.hwSet_tbl (s : State) (f : Fld) (n : Nat) : (s.hwSet f n).tbl = s.tbl := (rfl)
@[simp] theorem State.hwSet_host (s : State) (f : Fld) (n : Nat) : (s.hwSet f n).host = s.host := (rfl)
@[simp] theorem State.hwSet_pcie (s : State) (f : Fld) (n : Nat) : (s.hwSet f n).pcie = s.pcie := (rfl)
@[simp] theorem State.hwSet_lnk (s : State) (f : Fld) (n : Nat) : (s.hwSet f n).lnk = s.lnk := (rfl)
@[simp] theorem State.hwSet_ctl (s : State) (f : Fld) (n : Nat) : (s.hwSet f n).ctl = s.ctl := (rfl)
@[simp] theorem State.hwSet_slu (s : State) (f : Fld) (n : Nat) : (s.hwSet f n).slu = s.slu := (rfl)
@[simp] theorem State.hwSet_spr (s : State) (f : Fld) (n : Nat) : (s.hwSet f n).spr = s.spr := (rfl)
@[simp] theorem State.hwSet_gate (s : State) (f : Fld) (n : Nat) : (s.hwSet f n).gate = s.gate := (rfl)
@[simp] theorem State.hwSet_adc (s : State) (f : Fld) (n : Nat) : (s.hwSet f n).adc = s.adc := (rfl)
@[simp] theorem State.hwSet_weir (s : State) (f : Fld) (n : Nat) : (s.hwSet f n).weir = s.weir := (rfl)
@[simp] theorem State.hwSet_thm (s : State) (f : Fld) (n : Nat) : (s.hwSet f n).thm = s.thm := (rfl)
@[simp] theorem State.hwSet_can (s : State) (f : Fld) (n : Nat) : (s.hwSet f n).can = s.can := (rfl)
@[simp] theorem State.hwSet_red (s : State) (f : Fld) (n : Nat) : (s.hwSet f n).red = s.red := (rfl)
@[simp] theorem State.hwSet_safe (s : State) (f : Fld) (n : Nat) : (s.hwSet f n).safe = s.safe := (rfl)
@[simp] theorem State.hwSet_lanes (s : State) (f : Fld) (n : Nat) : (s.hwSet f n).lanes = s.lanes := (rfl)
@[simp] theorem State.hwSet_out (s : State) (f : Fld) (n : Nat) : (s.hwSet f n).out = s.out := (rfl)
@[simp] theorem State.hwSet_free (s : State) (f : Fld) (n : Nat) : (s.hwSet f n).free = s.free := (rfl)
@[simp] theorem State.hwSet_pending (s : State) (f : Fld) (n : Nat) : (s.hwSet f n).pending = s.pending := (rfl)

/-! `setBit` -/
@[simp] theorem State.setBit_role (s : State) (f : Fld) (n : Nat) (b : Bool) : (s.setBit f n b).role = s.role := (rfl)
@[simp] theorem State.setBit_side (s : State) (f : Fld) (n : Nat) (b : Bool) : (s.setBit f n b).side = s.side := (rfl)
@[simp] theorem State.setBit_boot (s : State) (f : Fld) (n : Nat) (b : Bool) : (s.setBit f n b).boot = s.boot := (rfl)
@[simp] theorem State.setBit_w1c (s : State) (f : Fld) (n : Nat) (b : Bool) : (s.setBit f n b).w1c = s.w1c := (rfl)
@[simp] theorem State.setBit_pwr (s : State) (f : Fld) (n : Nat) (b : Bool) : (s.setBit f n b).pwr = s.pwr := (rfl)
@[simp] theorem State.setBit_clk (s : State) (f : Fld) (n : Nat) (b : Bool) : (s.setBit f n b).clk = s.clk := (rfl)
@[simp] theorem State.setBit_time (s : State) (f : Fld) (n : Nat) (b : Bool) : (s.setBit f n b).time = s.time := (rfl)
@[simp] theorem State.setBit_recd (s : State) (f : Fld) (n : Nat) (b : Bool) : (s.setBit f n b).recd = s.recd := (rfl)
@[simp] theorem State.setBit_aon (s : State) (f : Fld) (n : Nat) (b : Bool) : (s.setBit f n b).aon = s.aon := (rfl)
@[simp] theorem State.setBit_nor (s : State) (f : Fld) (n : Nat) (b : Bool) : (s.setBit f n b).nor = s.nor := (rfl)
@[simp] theorem State.setBit_tbl (s : State) (f : Fld) (n : Nat) (b : Bool) : (s.setBit f n b).tbl = s.tbl := (rfl)
@[simp] theorem State.setBit_host (s : State) (f : Fld) (n : Nat) (b : Bool) : (s.setBit f n b).host = s.host := (rfl)
@[simp] theorem State.setBit_pcie (s : State) (f : Fld) (n : Nat) (b : Bool) : (s.setBit f n b).pcie = s.pcie := (rfl)
@[simp] theorem State.setBit_lnk (s : State) (f : Fld) (n : Nat) (b : Bool) : (s.setBit f n b).lnk = s.lnk := (rfl)
@[simp] theorem State.setBit_ctl (s : State) (f : Fld) (n : Nat) (b : Bool) : (s.setBit f n b).ctl = s.ctl := (rfl)
@[simp] theorem State.setBit_slu (s : State) (f : Fld) (n : Nat) (b : Bool) : (s.setBit f n b).slu = s.slu := (rfl)
@[simp] theorem State.setBit_spr (s : State) (f : Fld) (n : Nat) (b : Bool) : (s.setBit f n b).spr = s.spr := (rfl)
@[simp] theorem State.setBit_gate (s : State) (f : Fld) (n : Nat) (b : Bool) : (s.setBit f n b).gate = s.gate := (rfl)
@[simp] theorem State.setBit_adc (s : State) (f : Fld) (n : Nat) (b : Bool) : (s.setBit f n b).adc = s.adc := (rfl)
@[simp] theorem State.setBit_weir (s : State) (f : Fld) (n : Nat) (b : Bool) : (s.setBit f n b).weir = s.weir := (rfl)
@[simp] theorem State.setBit_thm (s : State) (f : Fld) (n : Nat) (b : Bool) : (s.setBit f n b).thm = s.thm := (rfl)
@[simp] theorem State.setBit_can (s : State) (f : Fld) (n : Nat) (b : Bool) : (s.setBit f n b).can = s.can := (rfl)
@[simp] theorem State.setBit_red (s : State) (f : Fld) (n : Nat) (b : Bool) : (s.setBit f n b).red = s.red := (rfl)
@[simp] theorem State.setBit_safe (s : State) (f : Fld) (n : Nat) (b : Bool) : (s.setBit f n b).safe = s.safe := (rfl)
@[simp] theorem State.setBit_lanes (s : State) (f : Fld) (n : Nat) (b : Bool) : (s.setBit f n b).lanes = s.lanes := (rfl)
@[simp] theorem State.setBit_out (s : State) (f : Fld) (n : Nat) (b : Bool) : (s.setBit f n b).out = s.out := (rfl)
@[simp] theorem State.setBit_free (s : State) (f : Fld) (n : Nat) (b : Bool) : (s.setBit f n b).free = s.free := (rfl)
@[simp] theorem State.setBit_pending (s : State) (f : Fld) (n : Nat) (b : Bool) : (s.setBit f n b).pending = s.pending := (rfl)

/-! `addSat` -/
@[simp] theorem State.addSat_role (s : State) (f : Fld) (n : Nat) : (s.addSat f n).role = s.role := (rfl)
@[simp] theorem State.addSat_side (s : State) (f : Fld) (n : Nat) : (s.addSat f n).side = s.side := (rfl)
@[simp] theorem State.addSat_boot (s : State) (f : Fld) (n : Nat) : (s.addSat f n).boot = s.boot := (rfl)
@[simp] theorem State.addSat_w1c (s : State) (f : Fld) (n : Nat) : (s.addSat f n).w1c = s.w1c := (rfl)
@[simp] theorem State.addSat_pwr (s : State) (f : Fld) (n : Nat) : (s.addSat f n).pwr = s.pwr := (rfl)
@[simp] theorem State.addSat_clk (s : State) (f : Fld) (n : Nat) : (s.addSat f n).clk = s.clk := (rfl)
@[simp] theorem State.addSat_time (s : State) (f : Fld) (n : Nat) : (s.addSat f n).time = s.time := (rfl)
@[simp] theorem State.addSat_recd (s : State) (f : Fld) (n : Nat) : (s.addSat f n).recd = s.recd := (rfl)
@[simp] theorem State.addSat_aon (s : State) (f : Fld) (n : Nat) : (s.addSat f n).aon = s.aon := (rfl)
@[simp] theorem State.addSat_nor (s : State) (f : Fld) (n : Nat) : (s.addSat f n).nor = s.nor := (rfl)
@[simp] theorem State.addSat_tbl (s : State) (f : Fld) (n : Nat) : (s.addSat f n).tbl = s.tbl := (rfl)
@[simp] theorem State.addSat_host (s : State) (f : Fld) (n : Nat) : (s.addSat f n).host = s.host := (rfl)
@[simp] theorem State.addSat_pcie (s : State) (f : Fld) (n : Nat) : (s.addSat f n).pcie = s.pcie := (rfl)
@[simp] theorem State.addSat_lnk (s : State) (f : Fld) (n : Nat) : (s.addSat f n).lnk = s.lnk := (rfl)
@[simp] theorem State.addSat_ctl (s : State) (f : Fld) (n : Nat) : (s.addSat f n).ctl = s.ctl := (rfl)
@[simp] theorem State.addSat_slu (s : State) (f : Fld) (n : Nat) : (s.addSat f n).slu = s.slu := (rfl)
@[simp] theorem State.addSat_spr (s : State) (f : Fld) (n : Nat) : (s.addSat f n).spr = s.spr := (rfl)
@[simp] theorem State.addSat_gate (s : State) (f : Fld) (n : Nat) : (s.addSat f n).gate = s.gate := (rfl)
@[simp] theorem State.addSat_adc (s : State) (f : Fld) (n : Nat) : (s.addSat f n).adc = s.adc := (rfl)
@[simp] theorem State.addSat_weir (s : State) (f : Fld) (n : Nat) : (s.addSat f n).weir = s.weir := (rfl)
@[simp] theorem State.addSat_thm (s : State) (f : Fld) (n : Nat) : (s.addSat f n).thm = s.thm := (rfl)
@[simp] theorem State.addSat_can (s : State) (f : Fld) (n : Nat) : (s.addSat f n).can = s.can := (rfl)
@[simp] theorem State.addSat_red (s : State) (f : Fld) (n : Nat) : (s.addSat f n).red = s.red := (rfl)
@[simp] theorem State.addSat_safe (s : State) (f : Fld) (n : Nat) : (s.addSat f n).safe = s.safe := (rfl)
@[simp] theorem State.addSat_lanes (s : State) (f : Fld) (n : Nat) : (s.addSat f n).lanes = s.lanes := (rfl)
@[simp] theorem State.addSat_out (s : State) (f : Fld) (n : Nat) : (s.addSat f n).out = s.out := (rfl)
@[simp] theorem State.addSat_free (s : State) (f : Fld) (n : Nat) : (s.addSat f n).free = s.free := (rfl)
@[simp] theorem State.addSat_pending (s : State) (f : Fld) (n : Nat) : (s.addSat f n).pending = s.pending := (rfl)

/-! `inc` -/
@[simp] theorem State.inc_role (s : State) (f : Fld) : (s.inc f).role = s.role := (rfl)
@[simp] theorem State.inc_side (s : State) (f : Fld) : (s.inc f).side = s.side := (rfl)
@[simp] theorem State.inc_boot (s : State) (f : Fld) : (s.inc f).boot = s.boot := (rfl)
@[simp] theorem State.inc_w1c (s : State) (f : Fld) : (s.inc f).w1c = s.w1c := (rfl)
@[simp] theorem State.inc_pwr (s : State) (f : Fld) : (s.inc f).pwr = s.pwr := (rfl)
@[simp] theorem State.inc_clk (s : State) (f : Fld) : (s.inc f).clk = s.clk := (rfl)
@[simp] theorem State.inc_time (s : State) (f : Fld) : (s.inc f).time = s.time := (rfl)
@[simp] theorem State.inc_recd (s : State) (f : Fld) : (s.inc f).recd = s.recd := (rfl)
@[simp] theorem State.inc_aon (s : State) (f : Fld) : (s.inc f).aon = s.aon := (rfl)
@[simp] theorem State.inc_nor (s : State) (f : Fld) : (s.inc f).nor = s.nor := (rfl)
@[simp] theorem State.inc_tbl (s : State) (f : Fld) : (s.inc f).tbl = s.tbl := (rfl)
@[simp] theorem State.inc_host (s : State) (f : Fld) : (s.inc f).host = s.host := (rfl)
@[simp] theorem State.inc_pcie (s : State) (f : Fld) : (s.inc f).pcie = s.pcie := (rfl)
@[simp] theorem State.inc_lnk (s : State) (f : Fld) : (s.inc f).lnk = s.lnk := (rfl)
@[simp] theorem State.inc_ctl (s : State) (f : Fld) : (s.inc f).ctl = s.ctl := (rfl)
@[simp] theorem State.inc_slu (s : State) (f : Fld) : (s.inc f).slu = s.slu := (rfl)
@[simp] theorem State.inc_spr (s : State) (f : Fld) : (s.inc f).spr = s.spr := (rfl)
@[simp] theorem State.inc_gate (s : State) (f : Fld) : (s.inc f).gate = s.gate := (rfl)
@[simp] theorem State.inc_adc (s : State) (f : Fld) : (s.inc f).adc = s.adc := (rfl)
@[simp] theorem State.inc_weir (s : State) (f : Fld) : (s.inc f).weir = s.weir := (rfl)
@[simp] theorem State.inc_thm (s : State) (f : Fld) : (s.inc f).thm = s.thm := (rfl)
@[simp] theorem State.inc_can (s : State) (f : Fld) : (s.inc f).can = s.can := (rfl)
@[simp] theorem State.inc_red (s : State) (f : Fld) : (s.inc f).red = s.red := (rfl)
@[simp] theorem State.inc_safe (s : State) (f : Fld) : (s.inc f).safe = s.safe := (rfl)
@[simp] theorem State.inc_lanes (s : State) (f : Fld) : (s.inc f).lanes = s.lanes := (rfl)
@[simp] theorem State.inc_out (s : State) (f : Fld) : (s.inc f).out = s.out := (rfl)
@[simp] theorem State.inc_free (s : State) (f : Fld) : (s.inc f).free = s.free := (rfl)
@[simp] theorem State.inc_pending (s : State) (f : Fld) : (s.inc f).pending = s.pending := (rfl)

/-! `emit` -/
@[simp] theorem State.emit_role (s : State) (o : OutMsg) : (s.emit o).role = s.role := (rfl)
@[simp] theorem State.emit_side (s : State) (o : OutMsg) : (s.emit o).side = s.side := (rfl)
@[simp] theorem State.emit_boot (s : State) (o : OutMsg) : (s.emit o).boot = s.boot := (rfl)
@[simp] theorem State.emit_regs (s : State) (o : OutMsg) : (s.emit o).regs = s.regs := (rfl)
@[simp] theorem State.emit_w1c (s : State) (o : OutMsg) : (s.emit o).w1c = s.w1c := (rfl)
@[simp] theorem State.emit_pwr (s : State) (o : OutMsg) : (s.emit o).pwr = s.pwr := (rfl)
@[simp] theorem State.emit_clk (s : State) (o : OutMsg) : (s.emit o).clk = s.clk := (rfl)
@[simp] theorem State.emit_time (s : State) (o : OutMsg) : (s.emit o).time = s.time := (rfl)
@[simp] theorem State.emit_recd (s : State) (o : OutMsg) : (s.emit o).recd = s.recd := (rfl)
@[simp] theorem State.emit_aon (s : State) (o : OutMsg) : (s.emit o).aon = s.aon := (rfl)
@[simp] theorem State.emit_nor (s : State) (o : OutMsg) : (s.emit o).nor = s.nor := (rfl)
@[simp] theorem State.emit_tbl (s : State) (o : OutMsg) : (s.emit o).tbl = s.tbl := (rfl)
@[simp] theorem State.emit_host (s : State) (o : OutMsg) : (s.emit o).host = s.host := (rfl)
@[simp] theorem State.emit_pcie (s : State) (o : OutMsg) : (s.emit o).pcie = s.pcie := (rfl)
@[simp] theorem State.emit_lnk (s : State) (o : OutMsg) : (s.emit o).lnk = s.lnk := (rfl)
@[simp] theorem State.emit_ctl (s : State) (o : OutMsg) : (s.emit o).ctl = s.ctl := (rfl)
@[simp] theorem State.emit_slu (s : State) (o : OutMsg) : (s.emit o).slu = s.slu := (rfl)
@[simp] theorem State.emit_spr (s : State) (o : OutMsg) : (s.emit o).spr = s.spr := (rfl)
@[simp] theorem State.emit_gate (s : State) (o : OutMsg) : (s.emit o).gate = s.gate := (rfl)
@[simp] theorem State.emit_adc (s : State) (o : OutMsg) : (s.emit o).adc = s.adc := (rfl)
@[simp] theorem State.emit_weir (s : State) (o : OutMsg) : (s.emit o).weir = s.weir := (rfl)
@[simp] theorem State.emit_thm (s : State) (o : OutMsg) : (s.emit o).thm = s.thm := (rfl)
@[simp] theorem State.emit_can (s : State) (o : OutMsg) : (s.emit o).can = s.can := (rfl)
@[simp] theorem State.emit_red (s : State) (o : OutMsg) : (s.emit o).red = s.red := (rfl)
@[simp] theorem State.emit_safe (s : State) (o : OutMsg) : (s.emit o).safe = s.safe := (rfl)
@[simp] theorem State.emit_lanes (s : State) (o : OutMsg) : (s.emit o).lanes = s.lanes := (rfl)
@[simp] theorem State.emit_free (s : State) (o : OutMsg) : (s.emit o).free = s.free := (rfl)
@[simp] theorem State.emit_pending (s : State) (o : OutMsg) : (s.emit o).pending = s.pending := (rfl)

/-! `drawn` -/
@[simp] theorem State.drawn_role (s : State)  : (s.drawn ).role = s.role := (rfl)
@[simp] theorem State.drawn_side (s : State)  : (s.drawn ).side = s.side := (rfl)
@[simp] theorem State.drawn_boot (s : State)  : (s.drawn ).boot = s.boot := (rfl)
@[simp] theorem State.drawn_regs (s : State)  : (s.drawn ).regs = s.regs := (rfl)
@[simp] theorem State.drawn_w1c (s : State)  : (s.drawn ).w1c = s.w1c := (rfl)
@[simp] theorem State.drawn_pwr (s : State)  : (s.drawn ).pwr = s.pwr := (rfl)
@[simp] theorem State.drawn_clk (s : State)  : (s.drawn ).clk = s.clk := (rfl)
@[simp] theorem State.drawn_time (s : State)  : (s.drawn ).time = s.time := (rfl)
@[simp] theorem State.drawn_recd (s : State)  : (s.drawn ).recd = s.recd := (rfl)
@[simp] theorem State.drawn_aon (s : State)  : (s.drawn ).aon = s.aon := (rfl)
@[simp] theorem State.drawn_nor (s : State)  : (s.drawn ).nor = s.nor := (rfl)
@[simp] theorem State.drawn_tbl (s : State)  : (s.drawn ).tbl = s.tbl := (rfl)
@[simp] theorem State.drawn_host (s : State)  : (s.drawn ).host = s.host := (rfl)
@[simp] theorem State.drawn_pcie (s : State)  : (s.drawn ).pcie = s.pcie := (rfl)
@[simp] theorem State.drawn_lnk (s : State)  : (s.drawn ).lnk = s.lnk := (rfl)
@[simp] theorem State.drawn_ctl (s : State)  : (s.drawn ).ctl = s.ctl := (rfl)
@[simp] theorem State.drawn_slu (s : State)  : (s.drawn ).slu = s.slu := (rfl)
@[simp] theorem State.drawn_spr (s : State)  : (s.drawn ).spr = s.spr := (rfl)
@[simp] theorem State.drawn_gate (s : State)  : (s.drawn ).gate = s.gate := (rfl)
@[simp] theorem State.drawn_adc (s : State)  : (s.drawn ).adc = s.adc := (rfl)
@[simp] theorem State.drawn_weir (s : State)  : (s.drawn ).weir = s.weir := (rfl)
@[simp] theorem State.drawn_thm (s : State)  : (s.drawn ).thm = s.thm := (rfl)
@[simp] theorem State.drawn_can (s : State)  : (s.drawn ).can = s.can := (rfl)
@[simp] theorem State.drawn_red (s : State)  : (s.drawn ).red = s.red := (rfl)
@[simp] theorem State.drawn_safe (s : State)  : (s.drawn ).safe = s.safe := (rfl)
@[simp] theorem State.drawn_lanes (s : State)  : (s.drawn ).lanes = s.lanes := (rfl)
@[simp] theorem State.drawn_out (s : State)  : (s.drawn ).out = s.out := (rfl)
@[simp] theorem State.drawn_pending (s : State)  : (s.drawn ).pending = s.pending := (rfl)

/-! `advance` -/
@[simp] theorem State.advance_role (n : Nat) (s : State) : (State.advance n s).role = s.role := (rfl)
@[simp] theorem State.advance_side (n : Nat) (s : State) : (State.advance n s).side = s.side := (rfl)
@[simp] theorem State.advance_boot (n : Nat) (s : State) : (State.advance n s).boot = s.boot := (rfl)
@[simp] theorem State.advance_regs (n : Nat) (s : State) : (State.advance n s).regs = s.regs := (rfl)
@[simp] theorem State.advance_w1c (n : Nat) (s : State) : (State.advance n s).w1c = s.w1c := (rfl)
@[simp] theorem State.advance_pwr (n : Nat) (s : State) : (State.advance n s).pwr = s.pwr := (rfl)
@[simp] theorem State.advance_clk (n : Nat) (s : State) : (State.advance n s).clk = s.clk := (rfl)
@[simp] theorem State.advance_recd (n : Nat) (s : State) : (State.advance n s).recd = s.recd := (rfl)
@[simp] theorem State.advance_aon (n : Nat) (s : State) : (State.advance n s).aon = s.aon := (rfl)
@[simp] theorem State.advance_nor (n : Nat) (s : State) : (State.advance n s).nor = s.nor := (rfl)
@[simp] theorem State.advance_tbl (n : Nat) (s : State) : (State.advance n s).tbl = s.tbl := (rfl)
@[simp] theorem State.advance_host (n : Nat) (s : State) : (State.advance n s).host = s.host := (rfl)
@[simp] theorem State.advance_pcie (n : Nat) (s : State) : (State.advance n s).pcie = s.pcie := (rfl)
@[simp] theorem State.advance_lnk (n : Nat) (s : State) : (State.advance n s).lnk = s.lnk := (rfl)
@[simp] theorem State.advance_ctl (n : Nat) (s : State) : (State.advance n s).ctl = s.ctl := (rfl)
@[simp] theorem State.advance_slu (n : Nat) (s : State) : (State.advance n s).slu = s.slu := (rfl)
@[simp] theorem State.advance_spr (n : Nat) (s : State) : (State.advance n s).spr = s.spr := (rfl)
@[simp] theorem State.advance_gate (n : Nat) (s : State) : (State.advance n s).gate = s.gate := (rfl)
@[simp] theorem State.advance_adc (n : Nat) (s : State) : (State.advance n s).adc = s.adc := (rfl)
@[simp] theorem State.advance_weir (n : Nat) (s : State) : (State.advance n s).weir = s.weir := (rfl)
@[simp] theorem State.advance_thm (n : Nat) (s : State) : (State.advance n s).thm = s.thm := (rfl)
@[simp] theorem State.advance_can (n : Nat) (s : State) : (State.advance n s).can = s.can := (rfl)
@[simp] theorem State.advance_red (n : Nat) (s : State) : (State.advance n s).red = s.red := (rfl)
@[simp] theorem State.advance_safe (n : Nat) (s : State) : (State.advance n s).safe = s.safe := (rfl)
@[simp] theorem State.advance_lanes (n : Nat) (s : State) : (State.advance n s).lanes = s.lanes := (rfl)
@[simp] theorem State.advance_out (n : Nat) (s : State) : (State.advance n s).out = s.out := (rfl)
@[simp] theorem State.advance_free (n : Nat) (s : State) : (State.advance n s).free = s.free := (rfl)
@[simp] theorem State.advance_pending (n : Nat) (s : State) : (State.advance n s).pending = s.pending := (rfl)
@[simp] theorem State.advance_cyc (n : Nat) (s : State) : (State.advance n s).time.cyc = s.time.cyc + n := rfl

/-! `confine` -/
@[simp] theorem State.confine_role (s t : State) : (s.confine t).role = s.role := (rfl)
@[simp] theorem State.confine_side (s t : State) : (s.confine t).side = s.side := (rfl)
@[simp] theorem State.confine_boot (s t : State) : (s.confine t).boot = s.boot := (rfl)
@[simp] theorem State.confine_regs (s t : State) : (s.confine t).regs = t.regs := (rfl)
@[simp] theorem State.confine_w1c (s t : State) : (s.confine t).w1c = t.w1c := (rfl)
@[simp] theorem State.confine_clk (s t : State) : (s.confine t).clk = t.clk := (rfl)
@[simp] theorem State.confine_time (s t : State) : (s.confine t).time = t.time := (rfl)
@[simp] theorem State.confine_recd (s t : State) : (s.confine t).recd = t.recd := (rfl)
@[simp] theorem State.confine_aon (s t : State) : (s.confine t).aon = t.aon := (rfl)
@[simp] theorem State.confine_nor (s t : State) : (s.confine t).nor = t.nor := (rfl)
@[simp] theorem State.confine_tbl (s t : State) : (s.confine t).tbl = t.tbl := (rfl)
@[simp] theorem State.confine_host (s t : State) : (s.confine t).host = t.host := (rfl)
@[simp] theorem State.confine_pcie (s t : State) : (s.confine t).pcie = t.pcie := (rfl)
@[simp] theorem State.confine_lnk (s t : State) : (s.confine t).lnk = t.lnk := (rfl)
@[simp] theorem State.confine_ctl (s t : State) : (s.confine t).ctl = t.ctl := (rfl)
@[simp] theorem State.confine_slu (s t : State) : (s.confine t).slu = t.slu := (rfl)
@[simp] theorem State.confine_spr (s t : State) : (s.confine t).spr = t.spr := (rfl)
@[simp] theorem State.confine_gate (s t : State) : (s.confine t).gate = t.gate := (rfl)
@[simp] theorem State.confine_adc (s t : State) : (s.confine t).adc = t.adc := (rfl)
@[simp] theorem State.confine_weir (s t : State) : (s.confine t).weir = t.weir := (rfl)
@[simp] theorem State.confine_thm (s t : State) : (s.confine t).thm = t.thm := (rfl)
@[simp] theorem State.confine_can (s t : State) : (s.confine t).can = t.can := (rfl)
@[simp] theorem State.confine_red (s t : State) : (s.confine t).red = t.red := (rfl)
@[simp] theorem State.confine_safe (s t : State) : (s.confine t).safe = t.safe := (rfl)
@[simp] theorem State.confine_lanes (s t : State) : (s.confine t).lanes = t.lanes := (rfl)
@[simp] theorem State.confine_out (s t : State) : (s.confine t).out = t.out := (rfl)
@[simp] theorem State.confine_free (s t : State) : (s.confine t).free = t.free := (rfl)
@[simp] theorem State.confine_pending (s t : State) : (s.confine t).pending = s.pending := (rfl)
@[simp] theorem State.confine_full (s t : State) : (s.confine t).pwr.full = s.pwr.full := rfl

/-! `raise` and the stages it is made of change the recorder and its counters alone. -/

theorem State.Recorded.same (s : State) : s.Recorded s := by cases s; rfl

theorem State.Recorded.trans {s t u : State} (h : s.Recorded t) (k : t.Recorded u) : s.Recorded u := by
  unfold State.Recorded at *
  rw [k, h]

theorem State.recorded_set (s : State) (f : Fld) (v : Nat) : s.Recorded (s.set f v) := by cases s; rfl

theorem State.recorded_hwSet (s : State) (f : Fld) (n : Nat) : s.Recorded (s.hwSet f n) := by cases s; rfl

theorem State.recorded_recd (s : State) (r : RecSt) : s.Recorded { s with recd := r } := by cases s; rfl

theorem State.recorded_lostFirst (s : State) : s.Recorded s.lostFirst := by
  unfold State.lostFirst
  split
  · split
    · exact State.recorded_recd s _
    · exact .same s
  · exact .same s

theorem State.recorded_loseRec (s : State) : s.Recorded s.loseRec := (State.recorded_set s _ _).trans (State.recorded_recd _ _)

theorem State.recorded_stage (s : State) (r : EvRec) : s.Recorded (s.stage r) := by
  unfold State.stage
  refine s.recorded_lostFirst.trans ?_
  simp only
  split
  · exact State.recorded_recd _ _
  · exact State.recorded_loseRec _

/-- Raising an event changes the recorder and its counters alone (R469 to R477). -/
theorem State.recorded_raise (s : State) (c : Nat) (p : List Nat) : s.Recorded (s.raise c p) := by
  unfold State.raise
  simp only
  split
  · exact State.recorded_stage s _
  · split
    · exact (State.recorded_recd s _).trans (State.recorded_stage _ _)
    · exact (State.recorded_recd s _).trans (State.recorded_set _ _ _)

theorem State.Recorded.role {s t : State} (h : s.Recorded t) : t.role = s.role := (congrArg State.role h).trans rfl
theorem State.Recorded.side {s t : State} (h : s.Recorded t) : t.side = s.side := (congrArg State.side h).trans rfl
theorem State.Recorded.boot {s t : State} (h : s.Recorded t) : t.boot = s.boot := (congrArg State.boot h).trans rfl
theorem State.Recorded.pwr {s t : State} (h : s.Recorded t) : t.pwr = s.pwr := (congrArg State.pwr h).trans rfl
theorem State.Recorded.clk {s t : State} (h : s.Recorded t) : t.clk = s.clk := (congrArg State.clk h).trans rfl
theorem State.Recorded.time {s t : State} (h : s.Recorded t) : t.time = s.time := (congrArg State.time h).trans rfl
theorem State.Recorded.aon {s t : State} (h : s.Recorded t) : t.aon = s.aon := (congrArg State.aon h).trans rfl
theorem State.Recorded.nor {s t : State} (h : s.Recorded t) : t.nor = s.nor := (congrArg State.nor h).trans rfl
theorem State.Recorded.tbl {s t : State} (h : s.Recorded t) : t.tbl = s.tbl := (congrArg State.tbl h).trans rfl
theorem State.Recorded.host {s t : State} (h : s.Recorded t) : t.host = s.host := (congrArg State.host h).trans rfl
theorem State.Recorded.pcie {s t : State} (h : s.Recorded t) : t.pcie = s.pcie := (congrArg State.pcie h).trans rfl
theorem State.Recorded.lnk {s t : State} (h : s.Recorded t) : t.lnk = s.lnk := (congrArg State.lnk h).trans rfl
theorem State.Recorded.ctl {s t : State} (h : s.Recorded t) : t.ctl = s.ctl := (congrArg State.ctl h).trans rfl
theorem State.Recorded.slu {s t : State} (h : s.Recorded t) : t.slu = s.slu := (congrArg State.slu h).trans rfl
theorem State.Recorded.spr {s t : State} (h : s.Recorded t) : t.spr = s.spr := (congrArg State.spr h).trans rfl
theorem State.Recorded.gate {s t : State} (h : s.Recorded t) : t.gate = s.gate := (congrArg State.gate h).trans rfl
theorem State.Recorded.adc {s t : State} (h : s.Recorded t) : t.adc = s.adc := (congrArg State.adc h).trans rfl
theorem State.Recorded.weir {s t : State} (h : s.Recorded t) : t.weir = s.weir := (congrArg State.weir h).trans rfl
theorem State.Recorded.thm {s t : State} (h : s.Recorded t) : t.thm = s.thm := (congrArg State.thm h).trans rfl
theorem State.Recorded.can {s t : State} (h : s.Recorded t) : t.can = s.can := (congrArg State.can h).trans rfl
theorem State.Recorded.red {s t : State} (h : s.Recorded t) : t.red = s.red := (congrArg State.red h).trans rfl
theorem State.Recorded.safe {s t : State} (h : s.Recorded t) : t.safe = s.safe := (congrArg State.safe h).trans rfl
theorem State.Recorded.lanes {s t : State} (h : s.Recorded t) : t.lanes = s.lanes := (congrArg State.lanes h).trans rfl
theorem State.Recorded.out {s t : State} (h : s.Recorded t) : t.out = s.out := (congrArg State.out h).trans rfl
theorem State.Recorded.free {s t : State} (h : s.Recorded t) : t.free = s.free := (congrArg State.free h).trans rfl
theorem State.Recorded.pending {s t : State} (h : s.Recorded t) : t.pending = s.pending := (congrArg State.pending h).trans rfl

@[simp] theorem State.raise_role (s : State) (c : Nat) (p : List Nat) : (s.raise c p).role = s.role := (s.recorded_raise c p).role
@[simp] theorem State.raise_side (s : State) (c : Nat) (p : List Nat) : (s.raise c p).side = s.side := (s.recorded_raise c p).side
@[simp] theorem State.raise_boot (s : State) (c : Nat) (p : List Nat) : (s.raise c p).boot = s.boot := (s.recorded_raise c p).boot
@[simp] theorem State.raise_pwr (s : State) (c : Nat) (p : List Nat) : (s.raise c p).pwr = s.pwr := (s.recorded_raise c p).pwr
@[simp] theorem State.raise_clk (s : State) (c : Nat) (p : List Nat) : (s.raise c p).clk = s.clk := (s.recorded_raise c p).clk
@[simp] theorem State.raise_time (s : State) (c : Nat) (p : List Nat) : (s.raise c p).time = s.time := (s.recorded_raise c p).time
@[simp] theorem State.raise_aon (s : State) (c : Nat) (p : List Nat) : (s.raise c p).aon = s.aon := (s.recorded_raise c p).aon
@[simp] theorem State.raise_nor (s : State) (c : Nat) (p : List Nat) : (s.raise c p).nor = s.nor := (s.recorded_raise c p).nor
@[simp] theorem State.raise_tbl (s : State) (c : Nat) (p : List Nat) : (s.raise c p).tbl = s.tbl := (s.recorded_raise c p).tbl
@[simp] theorem State.raise_host (s : State) (c : Nat) (p : List Nat) : (s.raise c p).host = s.host := (s.recorded_raise c p).host
@[simp] theorem State.raise_pcie (s : State) (c : Nat) (p : List Nat) : (s.raise c p).pcie = s.pcie := (s.recorded_raise c p).pcie
@[simp] theorem State.raise_lnk (s : State) (c : Nat) (p : List Nat) : (s.raise c p).lnk = s.lnk := (s.recorded_raise c p).lnk
@[simp] theorem State.raise_ctl (s : State) (c : Nat) (p : List Nat) : (s.raise c p).ctl = s.ctl := (s.recorded_raise c p).ctl
@[simp] theorem State.raise_slu (s : State) (c : Nat) (p : List Nat) : (s.raise c p).slu = s.slu := (s.recorded_raise c p).slu
@[simp] theorem State.raise_spr (s : State) (c : Nat) (p : List Nat) : (s.raise c p).spr = s.spr := (s.recorded_raise c p).spr
@[simp] theorem State.raise_gate (s : State) (c : Nat) (p : List Nat) : (s.raise c p).gate = s.gate := (s.recorded_raise c p).gate
@[simp] theorem State.raise_adc (s : State) (c : Nat) (p : List Nat) : (s.raise c p).adc = s.adc := (s.recorded_raise c p).adc
@[simp] theorem State.raise_weir (s : State) (c : Nat) (p : List Nat) : (s.raise c p).weir = s.weir := (s.recorded_raise c p).weir
@[simp] theorem State.raise_thm (s : State) (c : Nat) (p : List Nat) : (s.raise c p).thm = s.thm := (s.recorded_raise c p).thm
@[simp] theorem State.raise_can (s : State) (c : Nat) (p : List Nat) : (s.raise c p).can = s.can := (s.recorded_raise c p).can
@[simp] theorem State.raise_red (s : State) (c : Nat) (p : List Nat) : (s.raise c p).red = s.red := (s.recorded_raise c p).red
@[simp] theorem State.raise_safe (s : State) (c : Nat) (p : List Nat) : (s.raise c p).safe = s.safe := (s.recorded_raise c p).safe
@[simp] theorem State.raise_lanes (s : State) (c : Nat) (p : List Nat) : (s.raise c p).lanes = s.lanes := (s.recorded_raise c p).lanes
@[simp] theorem State.raise_out (s : State) (c : Nat) (p : List Nat) : (s.raise c p).out = s.out := (s.recorded_raise c p).out
@[simp] theorem State.raise_free (s : State) (c : Nat) (p : List Nat) : (s.raise c p).free = s.free := (s.recorded_raise c p).free
@[simp] theorem State.raise_pending (s : State) (c : Nat) (p : List Nat) : (s.raise c p).pending = s.pending := (s.recorded_raise c p).pending

end Sys2Proof.Machine
end

