-- ==== Sys2Proof/Laws/Guards.lean ====
section
/-! SUPPORT. Guards.lean: what the guards of a command's effect can do, and registers through the operations every effect is made of. -/
set_option Elab.async false
namespace Sys2Proof.Machine

/-- A guarded effect answers a next state, whatever it is. -/
theorem guarded_goes (s : State) (c : Bool) (f : State → State) : guarded s c f = .next (if c then s.confine (f s) else s) := rfl

/-- Under its guard it answers the confined effect. -/
theorem guarded_on {s : State} {c : Bool} (f : State → State) (h : c = true) : guarded s c f = .next (s.confine (f s)) := by simp [guarded, h]

/-- Away from its guard it changes nothing. -/
theorem guarded_off {s : State} {c : Bool} (f : State → State) (h : c = false) : guarded s c f = .next s := by simp [guarded, h]

/-- What confine restores, restored: an effect that keeps straps, queue and full reset passes as it is. -/
theorem State.confine_eq {s t : State} (h1 : t.role = s.role) (h2 : t.side = s.side) (h3 : t.boot = s.boot) (h4 : t.pending = s.pending)
    (h5 : t.pwr.full = s.pwr.full) : s.confine t = t := by
  cases t
  simp only at h1 h2 h3 h4 h5
  subst h1 h2 h3 h4
  simp [State.confine, ← h5]

/-- Whatever a guarded effect does, straps, queue and full reset stay. -/
theorem guarded_keeps {s t : State} {c : Bool} {f : State → State} (h : guarded s c f = .next t) :
    t.role = s.role ∧ t.side = s.side ∧ t.boot = s.boot ∧ t.pending = s.pending ∧ t.pwr.full = s.pwr.full := by
  simp only [guarded, Host.Outcome.next.injEq] at h
  subst h
  split <;> simp

/-- A device in full reset: an effect that asks for the device out of it does nothing. -/
theorem whenLive_full {s : State} {f : State → State} (h : s.pwr.full = true) : whenLive s f = .next s := guarded_off f (by simp [State.live, h])
theorem whenPowered_full {s : State} {f : State → State} (h : s.pwr.full = true) : whenPowered s f = .next s := guarded_off f (by simp [h])
theorem onBasin_full {s : State} {f : State → State} (h : s.pwr.full = true) : onBasin s f = .next s := guarded_off f (by simp [State.live, h])
theorem onSpring_full {s : State} {f : State → State} (h : s.pwr.full = true) : onSpring s f = .next s := guarded_off f (by simp [State.live, h])

/-- A guarded effect ends where its effect does. -/
theorem goesTo_guarded {s : State} {c : Bool} {f : State → State} {p : State → Prop} (h : c = true) (hp : p (s.confine (f s))) : GoesTo (guarded s c f) p :=
  ⟨_, guarded_on f h, hp⟩

theorem goesTo_live {s : State} {f : State → State} {p : State → Prop} (h : s.live = true) (hp : p (s.confine (f s))) : GoesTo (whenLive s f) p :=
  goesTo_guarded h hp
theorem goesTo_powered {s : State} {f : State → State} {p : State → Prop} (h : s.pwr.full = false) (hp : p (s.confine (f s))) : GoesTo (whenPowered s f) p :=
  goesTo_guarded (by simp [h]) hp
theorem goesTo_basin {s : State} {f : State → State} {p : State → Prop} (h : s.live = true) (hr : s.role = .basin) (hp : p (s.confine (f s))) :
    GoesTo (onBasin s f) p := goesTo_guarded (by simp [h, hr]) hp
theorem goesTo_spring {s : State} {f : State → State} {p : State → Prop} (h : s.live = true) (hr : s.role = .spring) (hp : p (s.confine (f s))) :
    GoesTo (onSpring s f) p := goesTo_guarded (by simp [h, hr]) hp

/-! ### Registers through the shared operations -/

/-- A state's registers as every read sees them. -/
theorem State.rd_congr {s t : State} (h1 : t.role = s.role) (h2 : t.side = s.side) (h3 : t.regs = s.regs) (o : Nat) : t.rd o = s.rd o := by
  simp [State.rd, h1, h2, h3]

theorem State.get_congr {s t : State} (h1 : t.role = s.role) (h2 : t.side = s.side) (h3 : t.regs = s.regs) (f : Fld) : t.get f = s.get f := by
  simp [State.get, State.rd_congr h1 h2 h3]

/-- A state written out whose registers are another's reads as that other does. -/
theorem State.rd_mk (s : State) (x_role : Role) (x_side : Side) (x_boot : Nat) (x_w1c : W1cSt) (x_pwr : PwrSt) (x_clk : ClkSt) (x_time : TimeSt) (x_recd : RecSt) (x_aon : AonSt) (x_nor : NorSt) (x_tbl : TblSt) (x_host : HostSt) (x_pcie : List (Nat × Word)) (x_lnk : LnkSt) (x_ctl : CtlSt) (x_slu : SluSt) (x_spr : SprSt) (x_gate : GateSt) (x_adc : AdcSt) (x_weir : WeirSt) (x_thm : ThmSt) (x_can : CanSt) (x_red : RedSt) (x_safe : SafeSt) (x_lanes : List Lane) (x_out : List OutMsg) (x_free : Nat) (x_pending : List Instr) (o : Nat) (h1 : x_role = s.role) (h2 : x_side = s.side) :
    State.rd { role := x_role, side := x_side, boot := x_boot, regs := s.regs, w1c := x_w1c, pwr := x_pwr, clk := x_clk, time := x_time, recd := x_recd, aon := x_aon, nor := x_nor, tbl := x_tbl, host := x_host, pcie := x_pcie, lnk := x_lnk, ctl := x_ctl, slu := x_slu, spr := x_spr, gate := x_gate, adc := x_adc, weir := x_weir, thm := x_thm, can := x_can, red := x_red, safe := x_safe, lanes := x_lanes, out := x_out, free := x_free, pending := x_pending } o = s.rd o := by subst h1 h2; rfl

theorem State.get_mk (s : State) (x_role : Role) (x_side : Side) (x_boot : Nat) (x_w1c : W1cSt) (x_pwr : PwrSt) (x_clk : ClkSt) (x_time : TimeSt) (x_recd : RecSt) (x_aon : AonSt) (x_nor : NorSt) (x_tbl : TblSt) (x_host : HostSt) (x_pcie : List (Nat × Word)) (x_lnk : LnkSt) (x_ctl : CtlSt) (x_slu : SluSt) (x_spr : SprSt) (x_gate : GateSt) (x_adc : AdcSt) (x_weir : WeirSt) (x_thm : ThmSt) (x_can : CanSt) (x_red : RedSt) (x_safe : SafeSt) (x_lanes : List Lane) (x_out : List OutMsg) (x_free : Nat) (x_pending : List Instr) (f : Fld) (h1 : x_role = s.role) (h2 : x_side = s.side) :
    State.get { role := x_role, side := x_side, boot := x_boot, regs := s.regs, w1c := x_w1c, pwr := x_pwr, clk := x_clk, time := x_time, recd := x_recd, aon := x_aon, nor := x_nor, tbl := x_tbl, host := x_host, pcie := x_pcie, lnk := x_lnk, ctl := x_ctl, slu := x_slu, spr := x_spr, gate := x_gate, adc := x_adc, weir := x_weir, thm := x_thm, can := x_can, red := x_red, safe := x_safe, lanes := x_lanes, out := x_out, free := x_free, pending := x_pending } f = s.get f := by subst h1 h2; rfl

@[simp] theorem State.advance_rd (n : Nat) (s : State) (o : Nat) : (State.advance n s).rd o = s.rd o := (rfl)
@[simp] theorem State.advance_get (n : Nat) (s : State) (f : Fld) : (State.advance n s).get f = s.get f := (rfl)
@[simp] theorem State.advance_getI (n : Nat) (s : State) (f : Fld) : (State.advance n s).getI f = s.getI f := (rfl)
@[simp] theorem State.advance_flag (n : Nat) (s : State) (f : Fld) : (State.advance n s).flag f = s.flag f := (rfl)
@[simp] theorem State.emit_get (s : State) (o : OutMsg) (f : Fld) : (s.emit o).get f = s.get f := (rfl)
@[simp] theorem State.drawn_get (s : State) (f : Fld) : s.drawn.get f = s.get f := (rfl)

/-- The registers that raising an event can change: the counters of lost and suppressed records (R473, R477). -/
def Fld.quiet (f : Fld) : Bool := f.off != F.REC_LOST_CNT.COUNT.off && f.off != F.REC_SUPP_CNT.COUNT.off

theorem State.lostFirst_regs (s : State) : s.lostFirst.regs = s.regs := by
  unfold State.lostFirst
  split
  · split <;> rfl
  · rfl

/-- Raising an event leaves every register but its two counters (R469 to R477). -/
theorem State.raise_rd (s : State) (c : Nat) (p : List Nat) (o : Nat) (h1 : o ≠ F.REC_LOST_CNT.COUNT.off) (h2 : o ≠ F.REC_SUPP_CNT.COUNT.off) :
    (s.raise c p).rd o = s.rd o := by
  have hs : ∀ (u : State) (r : EvRec), (u.stage r).rd o = u.rd o := by
    intro u r
    have h0 : u.lostFirst.rd o = u.rd o := State.rd_congr (u.recorded_lostFirst).role (u.recorded_lostFirst).side u.lostFirst_regs o
    unfold State.stage
    simp only
    split
    · exact h0
    · exact (State.rd_set_other u.lostFirst F.REC_LOST_CNT.COUNT _ o h1).trans h0
  unfold State.raise
  simp only
  split
  · exact hs s _
  · split
    · exact hs _ _
    · exact State.rd_set_other _ F.REC_SUPP_CNT.COUNT _ o h2

theorem State.raise_get (s : State) (c : Nat) (p : List Nat) (f : Fld) (h : f.quiet = true) : (s.raise c p).get f = s.get f := by
  simp only [Fld.quiet, Bool.and_eq_true, bne_iff_ne, ne_eq] at h
  simp [State.get, State.raise_rd s c p f.off h.1 h.2]

/-- Steps of the start-up programme (R534): what completing one leaves. -/
theorem State.startStep_get (s : State) (n : Nat) (f : Fld) (h : f.quiet = true) (h2 : F.CMN_PROG.STEP.apart f = true) (h3 : f.ok = true) :
    (s.startStep n).get f = s.get f := by
  unfold State.startStep
  split
  · rfl
  · rw [State.raise_get _ _ _ _ h, State.get_set_apart _ _ _ _ h3 h2]
    rfl

end Sys2Proof.Machine
end

