-- ==== Sys2Proof/Laws/Commands.lean ====
section
/-! SUPPORT. Commands.lean: what any command can do to straps, queue and full reset: all but four run under a guard that is off in full reset. -/
set_option Elab.async false
set_option linter.unusedSimpArgs false
namespace Sys2Proof.Machine

/-- The four commands that make or end a full reset. -/
def Instr.resets : Instr → Bool
  | .porstNAssert => true
  | .porstNRelease _ => true
  | .brownOut _ => true
  | .aonPowerOn => true
  | _ => false

/-- An outcome is an effect under a guard that full reset turns off. -/
def Guards (s : State) (o : Host.Outcome State Fault Refusal) : Prop := ∃ c f, o = guarded s c f ∧ (s.pwr.full = true → c = false)

theorem guards_live (s : State) (f : State → State) : Guards s (whenLive s f) := ⟨s.live, f, rfl, fun e => by simp [State.live, e]⟩
theorem guards_powered (s : State) (f : State → State) : Guards s (whenPowered s f) := ⟨!s.pwr.full, f, rfl, fun e => by simp [e]⟩
theorem guards_basin (s : State) (f : State → State) : Guards s (onBasin s f) := ⟨s.live && s.role == .basin, f, rfl, fun e => by simp [State.live, e]⟩
theorem guards_spring (s : State) (f : State → State) : Guards s (onSpring s f) := ⟨s.live && s.role == .spring, f, rfl, fun e => by simp [State.live, e]⟩

/-- Every other command is an effect under a guard that full reset turns off. -/
theorem exec_guarded (i : Instr) (s : State) (h : Instr.resets i = false) : Guards s (exec i s) := by
  cases i <;> simp only [exec] <;> first
    | exact guards_live s _
    | exact guards_basin s _
    | exact guards_spring s _
    | exact guards_powered s _
    | simp [Instr.resets] at h

/-- So it leaves straps, queue and full reset as they are. -/
theorem exec_outlives {i : Instr} {s t : State} (h : Instr.resets i = false) (e : exec i s = .next t) : s.Outlives t := by
  obtain ⟨c, f, hg, -⟩ := exec_guarded i s h
  rw [hg] at e
  exact guarded_keeps e

/-- And in full reset it does nothing. -/
theorem exec_full {i : Instr} {s : State} (h : Instr.resets i = false) (hf : s.pwr.full = true) : exec i s = .next s := by
  obtain ⟨c, f, hg, hc⟩ := exec_guarded i s h
  rw [hg, guarded_off f (hc hf)]

end Sys2Proof.Machine
end

