-- ==== Sys2Proof/Laws/Frames.lean ====
section
/-! SUPPORT. Frames.lean: how frames compose: registers outside a list (RegsBut), and everything but registers and recorder (Recorded). -/
set_option Elab.async false
namespace Sys2Proof.Machine

theorem regsBut_same (s : State) (l : List Nat) : s.RegsBut l s := fun _ _ => rfl

theorem regsBut_trans {s t u : State} {l : List Nat} (h : s.RegsBut l t) (k : t.RegsBut l u) : s.RegsBut l u := fun o ho => (k o ho).trans (h o ho)

theorem regsBut_wider {s t : State} {l m : List Nat} (h : s.RegsBut l t) (hm : ∀ o ∈ l, o ∈ m) : s.RegsBut m t := fun o ho => h o (fun e => ho (hm o e))

theorem regsBut_set (s : State) (f : Fld) (v : Nat) (l : List Nat) (h : f.off ∈ l) : s.RegsBut l (s.set f v) :=
  fun _ ho => State.rd_set_other _ _ _ _ (fun e => ho (e ▸ h))

theorem regsBut_hwSet (s : State) (f : Fld) (n : Nat) (l : List Nat) (h : f.off ∈ l) : s.RegsBut l (s.hwSet f n) :=
  fun o ho => regsBut_set s f _ l h o ho

theorem regsBut_wr (s : State) (o : Nat) (w : Word) (l : List Nat) (h : o ∈ l) : s.RegsBut l (s.wr o w) :=
  fun _ ho => State.rd_wr_other _ _ _ _ (fun e => ho (e ▸ h))

theorem regsBut_raise (s : State) (c : Nat) (p : List Nat) (l : List Nat) (h : ∀ o ∈ recCounters, o ∈ l) : s.RegsBut l (s.raise c p) :=
  fun _ ho => State.raise_rd _ _ _ _ (fun e => ho (h _ (by simp [recCounters, e]))) (fun e => ho (h _ (by simp [recCounters, e])))

/-- A change that leaves straps and registers leaves every register's reading. -/
theorem regsBut_hidden {s t : State} (l : List Nat) (h1 : t.role = s.role) (h2 : t.side = s.side) (h3 : t.regs = s.regs) : s.RegsBut l t :=
  fun o _ => State.rd_congr h1 h2 h3 o

theorem recorded_then_raise {s t : State} (h : s.Recorded t) (c : Nat) (p : List Nat) : s.Recorded (t.raise c p) := h.trans (t.recorded_raise c p)

theorem recorded_then_set {s t : State} (h : s.Recorded t) (f : Fld) (v : Nat) : s.Recorded (t.set f v) := h.trans (State.recorded_set t f v)

theorem recorded_then_wr {s t : State} (h : s.Recorded t) (o : Nat) (w : Word) : s.Recorded (t.wr o w) := h.trans (by cases t; rfl)

/-- An effect on registers and recorder alone passes a guard as it is. -/
theorem confine_recorded {s t : State} (h : s.Recorded t) : s.confine t = t := State.confine_eq h.role h.side h.boot h.pending (by rw [h.pwr])

end Sys2Proof.Machine
end

