-- ==== Sys2Proof/Laws/Hull.lean ====
section
/-! SUPPORT. Hull.lean: every operation keeps straps, queue and full reset (the hull), one lemma each; so confine passes every effect as it is. -/
set_option Elab.async false
set_option linter.unusedSimpArgs false
namespace Sys2Proof.Machine

/-- What no command but those of PORST_N and the supplies touches: straps, queue, full reset. -/
def State.hull (s : State) : Role × Side × Nat × List Instr × Bool := (s.role, s.side, s.boot, s.pending, s.pwr.full)

@[simp] theorem hull_mk (s : State) (x_regs : List (Nat × Word)) (x_w1c : W1cSt) (x_clk : ClkSt) (x_time : TimeSt) (x_recd : RecSt) (x_aon : AonSt) (x_nor : NorSt) (x_tbl : TblSt) (x_host : HostSt) (x_pcie : List (Nat × Word)) (x_lnk : LnkSt) (x_ctl : CtlSt) (x_slu : SluSt) (x_spr : SprSt) (x_gate : GateSt) (x_adc : AdcSt) (x_weir : WeirSt) (x_thm : ThmSt) (x_can : CanSt) (x_red : RedSt) (x_safe : SafeSt) (x_lanes : List Lane) (x_out : List OutMsg) (x_free : Nat) (p : PwrSt) (h : p.full = s.pwr.full) :
    State.hull { role := s.role, side := s.side, boot := s.boot, regs := x_regs, w1c := x_w1c, pwr := p, clk := x_clk, time := x_time, recd := x_recd, aon := x_aon, nor := x_nor, tbl := x_tbl, host := x_host, pcie := x_pcie, lnk := x_lnk, ctl := x_ctl, slu := x_slu, spr := x_spr, gate := x_gate, adc := x_adc, weir := x_weir, thm := x_thm, can := x_can, red := x_red, safe := x_safe, lanes := x_lanes, out := x_out, free := x_free, pending := s.pending } = s.hull := by simp [State.hull, h]

@[simp] theorem hull_foldl {α : Type} (g : State → α → State) (h : ∀ s x, (g s x).hull = s.hull) (l : List α) (s : State) : (l.foldl g s).hull = s.hull := by
  induction l generalizing s with
  | nil => rfl
  | cons x t ih => exact (ih (g s x)).trans (h s x)

theorem confine_hull {s t : State} (h : t.hull = s.hull) : s.confine t = t := by
  simp only [State.hull, Prod.mk.injEq] at h
  exact State.confine_eq h.1 h.2.1 h.2.2.1 h.2.2.2.1 h.2.2.2.2

@[simp] theorem hull_wr (s : State) (o : Nat) (w : Word) : (s.wr o w).hull = s.hull := (rfl)
@[simp] theorem hull_set (s : State) (f : Fld) (v : Nat) : (s.set f v).hull = s.hull := (rfl)
@[simp] theorem hull_ite (c : Prop) [Decidable c] (a b : State) : (if c then a else b).hull = if c then a.hull else b.hull := by split <;> rfl

theorem hull_foldl1 {α β : Type} (g : State × β → α → State × β) (h : ∀ a x, (g a x).1.hull = a.1.hull) (l : List α) (a : State × β) : (l.foldl g a).1.hull = a.1.hull := by
  induction l generalizing a with
  | nil => rfl
  | cons x t ih => exact (ih (g a x)).trans (h a x)

@[simp] theorem hull_setI (s : State) (f : Fld) (v : Int) : (State.setI s f v).hull = s.hull := by simp [State.setI]
@[simp] theorem hull_setFlag (s : State) (f : Fld) (b : Bool) : (State.setFlag s f b).hull = s.hull := by simp [State.setFlag]
@[simp] theorem hull_addSat (s : State) (f : Fld) (n : Nat) : (State.addSat s f n).hull = s.hull := by simp [State.addSat]
@[simp] theorem hull_inc (s : State) (f : Fld) : (State.inc s f).hull = s.hull := by simp [State.inc]
@[simp] theorem hull_setBit (s : State) (f : Fld) (n : Nat) (b : Bool) : (State.setBit s f n b).hull = s.hull := by simp [State.setBit]
@[simp] theorem hull_hwSet (s : State) (f : Fld) (n : Nat) : (State.hwSet s f n).hull = s.hull := by simp [State.hwSet]
@[simp] theorem hull_sampleCfg (s : State) : (State.sampleCfg s).hull = s.hull := by simp [State.sampleCfg]
@[simp] theorem hull_sampleLate (s : State) : (State.sampleLate s).hull = s.hull := by simp [State.sampleLate]
@[simp] theorem hull_when (s : State) (c : Bool) (f : State → State) (h_f : ∀ (y0 : State), (f y0).hull = y0.hull) : (State.when s c f).hull = s.hull := by simp [State.when, h_f]
@[simp] theorem hull_advance (n : Nat) (s : State) : (State.advance n s).hull = s.hull := by simp [State.advance]
@[simp] theorem hull_emit (s : State) (o : OutMsg) : (State.emit s o).hull = s.hull := by simp [State.emit]
@[simp] theorem hull_laneOut (s : State) (p : Nat) (j : LaneJob) (o : OutMsg) : (State.laneOut s p j o).hull = s.hull := by simp [State.laneOut]
@[simp] theorem hull_sendFrame (s : State) (p : Nat) (f : Frame) : (State.sendFrame s p f).hull = s.hull := by simp [State.sendFrame]
@[simp] theorem hull_emitFrame (s : State) (ports : List Nat) (f : Frame) : (State.emitFrame s ports f).hull = s.hull := by simp [State.emitFrame]
@[simp] theorem hull_sendSets (s : State) (p : Nat) (weir : Bool) (vs : List Nat) : (State.sendSets s p weir vs).hull = s.hull := by simp [State.sendSets]
@[simp] theorem hull_drawn (s : State) : (State.drawn s).hull = s.hull := by simp [State.drawn]
@[simp] theorem hull_putBucket (s : State) (b : Bucket) : (State.putBucket s b).hull = s.hull := by simp [State.putBucket]
@[simp] theorem hull_setAttrs (s : State) (l : List AttrEnt) : (State.setAttrs s l).hull = s.hull := by simp [State.setAttrs]
@[simp] theorem hull_pushRec (s : State) (r : EvRec) : (State.pushRec s r).hull = s.hull := by simp [State.pushRec]
@[simp] theorem hull_loseRec (s : State) : (State.loseRec s).hull = s.hull := by simp [State.loseRec]
@[simp] theorem hull_lostFirst (s : State) : (State.lostFirst s).hull = s.hull := by unfold State.lostFirst; (repeat' split) <;> simp [State.when]
@[simp] theorem hull_stage (s : State) (r : EvRec) : (State.stage s r).hull = s.hull := by simp [State.stage]
@[simp] theorem hull_raise (s : State) (code : Nat) (payload : List Nat := []) : (State.raise s code payload).hull = s.hull := by simp [State.raise]
@[simp] theorem hull_startStep (n : Nat) (s : State) : (State.startStep n s).hull = s.hull := by simp [State.startStep]
@[simp] theorem hull_startFail (n : Nat) (cause : Nat) (s : State) : (State.startFail n cause s).hull = s.hull := by simp [State.startFail]
@[simp] theorem hull_anchor (s : State) (cause : Nat) (loc : Nat) : (State.anchor s cause loc).hull = s.hull := by simp [State.anchor]
@[simp] theorem hull_setTimeOk (s : State) (ok : Bool) : (State.setTimeOk s ok).hull = s.hull := by simp [State.setTimeOk]
@[simp] theorem hull_followTimeOk (s : State) : (State.followTimeOk s).hull = s.hull := by simp [State.followTimeOk]
@[simp] theorem hull_servoTo (s : State) (st : Nat) (src : Nat) : (State.servoTo s st src).hull = s.hull := by simp [State.servoTo]
@[simp] theorem hull_weirLast (s : State) (x : WeirSet) : (State.weirLast s x).hull = s.hull := by simp [State.weirLast]
@[simp] theorem hull_sendWeir (s : State) (ports : List Nat) (x : WeirSet) : (State.sendWeir s ports x).hull = s.hull := by simp [State.sendWeir]
@[simp] theorem hull_newWeir (s : State) (scope : Nat) (arm : Nat) (cause : Nat) : (State.newWeir s scope arm cause).1.hull = s.hull := by simp [State.newWeir]
@[simp] theorem hull_springWeir (s : State) (cause : Nat) : (State.springWeir s cause).hull = s.hull := by simp [State.springWeir]
@[simp] theorem hull_setHb (s : State) (n : Nat) (h : HbSt) : (State.setHb s n h).hull = s.hull := by simp [State.setHb]
@[simp] theorem hull_modHb (s : State) (n : Nat) (f : HbSt → HbSt) : (State.modHb s n f).hull = s.hull := by simp [State.modHb]
@[simp] theorem hull_beforeWrite (s : State) : (State.beforeWrite s).hull = s.hull := by unfold State.beforeWrite; (repeat' split) <;> simp [State.when]
@[simp] theorem hull_readPattern (s : State) : (State.readPattern s).hull = s.hull := by simp [State.readPattern]
@[simp] theorem hull_hbLow (s : State) (n : Nat) (t : Nat) : (State.hbLow s n t).hull = s.hull := by simp [State.hbLow]
@[simp] theorem hull_hbsLow (s : State) (ns : List Nat) (t : Nat) : (State.hbsLow s ns t).hull = s.hull := by simp [State.hbsLow]
@[simp] theorem hull_uncommand (s : State) (ns : List Nat) : (State.uncommand s ns).hull = s.hull := by simp [State.uncommand]
@[simp] theorem hull_rise (s : State) (n : Nat) (hi : Bool) (t : Nat) : (State.rise s n hi t).hull = s.hull := by simp [State.rise]
@[simp] theorem hull_bypRelease (s : State) : (State.bypRelease s).hull = s.hull := by simp [State.bypRelease]
@[simp] theorem hull_endTest (s : State) (t : Nat) : (State.endTest s t).hull = s.hull := by unfold State.endTest; (repeat' split) <;> simp [State.when]
@[simp] theorem hull_preStop (s : State) (st : Nat) : (State.preStop s st).hull = s.hull := by simp [State.preStop]
@[simp] theorem hull_raiseBlock (s : State) (cause : Nat) (w : List TripEnt) : (State.raiseBlock s cause w).hull = s.hull := by simp [State.raiseBlock]
@[simp] theorem hull_closeWindow (s : State) : (State.closeWindow s).hull = s.hull := by simp [State.closeWindow]
@[simp] theorem hull_enterBlock (s : State) (cause : Nat) (t : Nat) : (State.enterBlock s cause t).hull = s.hull := by simp [State.enterBlock]
@[simp] theorem hull_actCheck (s : State) (t : Nat) : (State.actCheck s t).hull = s.hull := by simp [State.actCheck]
@[simp] theorem hull_latchHb (s : State) (n : Nat) (why : Nat) (t : Nat) : (State.latchHb s n why t).hull = s.hull := by simp [State.latchHb]
@[simp] theorem hull_stopGroup (s : State) (n : Nat) : (State.stopGroup s n).hull = s.hull := by simp [State.stopGroup]
@[simp] theorem hull_joinWindow (s : State) (e : TripEnt) : (State.joinWindow s e).hull = s.hull := by unfold State.joinWindow; simp only []; (repeat' split) <;> simp [State.when]
@[simp] theorem hull_trip (s : State) (n : Nat) (cause : Nat) (t : Nat) : (State.trip s n cause t).hull = s.hull := by simp [State.trip]
@[simp] theorem hull_freeGroup (s : State) (n : Nat) : (State.freeGroup s n).hull = s.hull := by simp [State.freeGroup]
@[simp] theorem hull_setDesat (s : State) (mask : Nat) : (State.setDesat s mask).hull = s.hull := by simp [State.setDesat]
@[simp] theorem hull_onEdge (s : State) (n : Nat) (hi : Bool) (t : Nat) (width : Nat) : (State.onEdge s n hi t width).hull = s.hull := by simp [State.onEdge]
@[simp] theorem hull_offEdge (s : State) (n : Nat) (hi : Bool) (t : Nat) : (State.offEdge s n hi t).hull = s.hull := by simp [State.offEdge]
@[simp] theorem hull_conflict (s : State) (n : Nat) (t : Nat) : (State.conflict s n t).hull = s.hull := by simp [State.conflict]
@[simp] theorem hull_cmdResult (s : State) (c : DueCmd) (res : Nat) : (State.cmdResult s c res).hull = s.hull := by simp [State.cmdResult]
@[simp] theorem hull_opClear (s : State) (c : DueCmd) : (State.opClear s c).hull = s.hull := by simp [State.opClear]
@[simp] theorem hull_opBypOpen (s : State) (c : DueCmd) : (State.opBypOpen s c).hull = s.hull := by simp [State.opBypOpen]
@[simp] theorem hull_opBypClose (s : State) (c : DueCmd) : (State.opBypClose s c).hull = s.hull := by simp [State.opBypClose]
@[simp] theorem hull_opPackClose (s : State) (c : DueCmd) : (State.opPackClose s c).hull = s.hull := by simp [State.opPackClose]
@[simp] theorem hull_opPackOpen (s : State) (c : DueCmd) : (State.opPackOpen s c).hull = s.hull := by simp [State.opPackOpen]
@[simp] theorem hull_withDue (s : State) (op : Nat) (f : State → DueCmd → State) (h_f : ∀ (y0 : State) (y1 : DueCmd), (f y0 y1).hull = y0.hull) : (State.withDue s op f).hull = s.hull := by unfold State.withDue; (repeat' split) <;> simp [State.when, h_f]
@[simp] theorem hull_setUnit (s : State) (n : Nat) (u : AdcUnit) : (State.setUnit s n u).hull = s.hull := by simp [State.setUnit]
@[simp] theorem hull_modUnit (s : State) (n : Nat) (f : AdcUnit → AdcUnit) : (State.modUnit s n f).hull = s.hull := by simp [State.modUnit]
@[simp] theorem hull_seeFlag (s : State) (n : Nat) (bit : Nat) : (State.seeFlag s n bit).hull = s.hull := by simp [State.seeFlag]
@[simp] theorem hull_adcBefore (s : State) : (State.adcBefore s).hull = s.hull := by simp [State.adcBefore]
@[simp] theorem hull_accept (s : State) (n : Nat) (x : AdcTrig) (held : Bool) (from' : Nat) : (State.accept s n x held from').hull = s.hull := by simp [State.accept]
@[simp] theorem hull_startJob (s : State) (n : Nat) : (State.startJob s n).hull = s.hull := by simp [State.startJob]
@[simp] theorem hull_askJob (s : State) (n : Nat) (j : CalJob) : (State.askJob s n j).hull = s.hull := by simp [State.askJob]
@[simp] theorem hull_startCal (s : State) (mask : Nat) (own : Option Nat) : (State.startCal s mask own).hull = s.hull := by simp [State.startCal]
@[simp] theorem hull_flagAborted (s : State) (n : Nat) (len : Nat) : (State.flagAborted s n len).hull = s.hull := by simp [State.flagAborted]
@[simp] theorem hull_lostMarks (s : State) (n : Nat) (r : AdcRun) (t : Nat) (vs : List Int) : (State.lostMarks s n r t vs).hull = s.hull := by unfold State.lostMarks; simp only []; (repeat' split) <;> simp [State.when]
@[simp] theorem hull_trigger (s : State) (n : Nat) (x : AdcTrig) (vs : List Int) : (State.trigger s n x vs).hull = s.hull := by unfold State.trigger; simp only []; (repeat' split) <;> simp [State.when]
@[simp] theorem hull_arrive (s : State) (n : Nat) (x : AdcTrig) (vs : List Int) : (State.arrive s n x vs).hull = s.hull := by simp [State.arrive]
@[simp] theorem hull_sourceFires (s : State) (n : Nat) (src : Nat) (vs : List Int) : (State.sourceFires s n src vs).hull = s.hull := by unfold State.sourceFires; (repeat' split) <;> simp [State.when]
@[simp] theorem hull_softTrigger (s : State) (n : Nat) (vs : List Int) : (State.softTrigger s n vs).hull = s.hull := by simp [State.softTrigger]
@[simp] theorem hull_precharge (s : State) : (State.precharge s).hull = s.hull := by simp [State.precharge]
@[simp] theorem hull_writeResult (s : State) (n : Nat) (r : AdcRun) (convs : List Conv) : (State.writeResult s n r convs).hull = s.hull := by unfold State.writeResult; simp only []; (repeat' split) <;> simp [State.when]
@[simp] theorem hull_entryDone (s : State) (n : Nat) (convs : List Conv) : (State.entryDone s n convs).hull = s.hull := by unfold State.entryDone; (repeat' split) <;> simp [State.when]
@[simp] theorem hull_chainFires (s : State) (n : Nat) (vs : List (List Int)) : (State.chainFires s n vs).hull = s.hull := by simp [State.chainFires]
@[simp] theorem hull_runEnd (s : State) (n : Nat) (vs : List (List Int)) : (State.runEnd s n vs).hull = s.hull := by unfold State.runEnd; simp only []; (repeat' split) <;> simp [State.when]
@[simp] theorem hull_abortRuns (s : State) : (State.abortRuns s).hull = s.hull := by
  unfold State.abortRuns
  exact hull_foldl _ (fun s x => by split <;> simp) _ _
@[simp] theorem hull_setPair (s : State) (q : Nat) (p : PairSt) : (State.setPair s q p).hull = s.hull := by simp [State.setPair]
@[simp] theorem hull_modPair (s : State) (q : Nat) (f : PairSt → PairSt) : (State.modPair s q f).hull = s.hull := by simp [State.modPair]
@[simp] theorem hull_modInfl (s : State) (id : Nat) (f : Infl → Infl) : (State.modInfl s id f).hull = s.hull := by simp [State.modInfl]
@[simp] theorem hull_setPhase (s : State) (id : Nat) (p : Phase) : (State.setPhase s id p).hull = s.hull := by simp [State.setPhase]
@[simp] theorem hull_vectorDue (s : State) (v : Nat) : (State.vectorDue s v).hull = s.hull := by simp [State.vectorDue]
@[simp] theorem hull_assertSrc (s : State) (n : Nat) : (State.assertSrc s n).hull = s.hull := by simp [State.assertSrc]
@[simp] theorem hull_pairException (s : State) (q : Nat) : (State.pairException s q).hull = s.hull := by simp [State.pairException]
@[simp] theorem hull_cqCheck (s : State) (q : Nat) : (State.cqCheck s q).hull = s.hull := by simp [State.cqCheck]
@[simp] theorem hull_settle (s : State) (id : Nat) (status : Nat) (reason : Nat) (result : Nat) (frac : Nat) (tick : Nat) : (State.settle s id status reason result frac tick).hull = s.hull := by unfold State.settle; (repeat' split) <;> simp [State.when]
@[simp] theorem hull_refuse (s : State) (id : Nat) (status : Nat) (reason : Nat) : (State.refuse s id status reason).hull = s.hull := by simp [State.refuse]
@[simp] theorem hull_cqAssert (s : State) (q : Nat) : (State.cqAssert s q).hull = s.hull := by simp [State.cqAssert]
@[simp] theorem hull_coalesce (s : State) (q : Nat) (now : Bool) : (State.coalesce s q now).hull = s.hull := by simp [State.coalesce]
@[simp] theorem hull_qpSettled (s : State) (q : Nat) : (State.qpSettled s q).hull = s.hull := by simp [State.qpSettled]
@[simp] theorem hull_writeCpl (s : State) (q : Nat) : (State.writeCpl s q).hull = s.hull := by unfold State.writeCpl; (repeat' split) <;> simp [State.when]
@[simp] theorem hull_closeBuf (s : State) (q : Nat) : (State.closeBuf s q).hull = s.hull := by unfold State.closeBuf; (repeat' split) <;> simp [State.when]
@[simp] theorem hull_streamLost (s : State) (q : Nat) (n : Nat) : (State.streamLost s q n).hull = s.hull := by unfold State.streamLost; simp only []; (repeat' split) <;> simp [State.when]
theorem hull_putFit {q : Nat} {r : StreamRec} {n : Nat} {s t : State} (h : State.putFit q r n s = some t) : t.hull = s.hull := by
  induction n generalizing s with
  | zero => cases h
  | succ n ih =>
    unfold State.putFit at h
    split at h
    · cases h
    · split at h
      · simp only [Option.some.injEq] at h
        subst h
        split <;> simp
      · exact (ih h).trans (by simp)

@[simp] theorem hull_putNoBufGap (s : State) (q : Nat) : (State.putNoBufGap s q).hull = s.hull := by
  unfold State.putNoBufGap
  split
  · rfl
  · split
    · rfl
    · rename_i h; simp [hull_putFit h]
@[simp] theorem hull_streamPut (s : State) (q : Nat) (r : StreamRec) (n : Nat) : (State.streamPut s q r n).hull = s.hull := by
  unfold State.streamPut
  simp only []
  split
  · simp
  · generalize h : State.putFit q r _ _ = o
    cases o with
    | none => simp
    | some t => simp [hull_putFit h]
@[simp] theorem hull_closeGap (s : State) (q : Nat) (sp : Nat) : (State.closeGap s q sp).hull = s.hull := by unfold State.closeGap; (repeat' split) <;> simp [State.when]
@[simp] theorem hull_streamTelem (s : State) (t : Telem) (late : Bool) : (State.streamTelem s t late).hull = s.hull := by simp [State.streamTelem]
@[simp] theorem hull_streamHole (s : State) (sp : Nat) (tick : Nat) (cause : Nat) : (State.streamHole s sp tick cause).hull = s.hull := by
  unfold State.streamHole
  exact hull_foldl _ (fun s x => by (repeat' split) <;> simp) _ _
@[simp] theorem hull_recoveryGap (s : State) (q : Nat) (first : Nat) (count : Nat) : (State.recoveryGap s q first count).hull = s.hull := by simp [State.recoveryGap]
@[simp] theorem hull_streamEvent (s : State) (r : EvRec) : (State.streamEvent s r).hull = s.hull := by simp [State.streamEvent]
@[simp] theorem hull_writeFields (s : State) (locked : Bool) (o : Nat) (v : Nat) : (State.writeFields s locked o v).hull = s.hull := by unfold State.writeFields; (repeat' split) <;> simp [State.when]
@[simp] theorem hull_legTo (s : State) (n : Nat) (hi : Bool) (t : Nat) (width : Nat) (edge : Bool) : (State.legTo s n hi t width edge).hull = s.hull := by simp [State.legTo]
@[simp] theorem hull_legWave (s : State) (n : Nat) (t : Nat) (w : Wave) : (State.legWave s n t w).hull = s.hull := by simp [State.legWave]
@[simp] theorem hull_driveBridge (s : State) (sub : Nat) (boundary : Bool) : (State.driveBridge s sub boundary).hull = s.hull := by
  unfold State.driveBridge
  simp only []
  split
  · simp
  · split
    · exact hull_foldl _ (fun s n => by split <;> simp) _ _
    · simp
@[simp] theorem hull_driveDab (s : State) (sub : Nat) : (State.driveDab s sub).hull = s.hull := by
  unfold State.driveDab
  exact hull_foldl _ (fun s n => by split <;> simp) _ _
@[simp] theorem hull_interlock (s : State) (boundary : Bool) : (State.interlock s boundary).hull = s.hull := by simp [State.interlock]
@[simp] theorem hull_bypMoved (s : State) (was : State) : (State.bypMoved s was).hull = s.hull := by simp [State.bypMoved]
@[simp] theorem hull_applyClip (s : State) : (State.applyClip s).hull = s.hull := by unfold State.applyClip; (repeat' split) <;> simp [State.when]
@[simp] theorem hull_dabCompute (s : State) : (State.dabCompute s).hull = s.hull := (rfl)
@[simp] theorem hull_dabFollow (s : State) : (State.dabFollow s).hull = s.hull := by simp [State.dabFollow]
@[simp] theorem hull_holdLow (s : State) (t : Nat) : (State.holdLow s t).hull = s.hull := by simp [State.holdLow]
@[simp] theorem hull_enterArmHold (s : State) (t : Nat) : (State.enterArmHold s t).hull = s.hull := by simp [State.enterArmHold]
@[simp] theorem hull_enterStnHold (s : State) (t : Nat) : (State.enterStnHold s t).hull = s.hull := by simp [State.enterStnHold]
@[simp] theorem hull_headerHolds (s : State) (h : TickHdr) : (State.headerHolds s h).hull = s.hull := by simp [State.headerHolds]
@[simp] theorem hull_leaveHolds (s : State) (h : TickHdr) : (State.leaveHolds s h).hull = s.hull := by simp [State.leaveHolds]
@[simp] theorem hull_touchSlot (s : State) (p : Pll) (n : Nat) : (State.touchSlot s p n).hull = s.hull := by unfold State.touchSlot; (repeat' split) <;> simp [State.when]
@[simp] theorem hull_pllHold (s : State) (p : Pll) (cause : Nat) : (State.pllHold s p cause).hull = s.hull := by simp [State.pllHold]
@[simp] theorem hull_hopIfMoved (s : State) (p : Pll) (before : Nat × Nat) : (State.hopIfMoved s p before).hull = s.hull := by simp [State.hopIfMoved]
@[simp] theorem hull_enterSafeClock (s : State) : (State.enterSafeClock s).hull = s.hull := by unfold State.enterSafeClock; simp only []; (repeat' split) <;> simp [State.when]
@[simp] theorem hull_closeTick (s : State) : (State.closeTick s).hull = s.hull := by simp [State.closeTick]
@[simp] theorem hull_skipTicks (s : State) (n : Nat) : (State.skipTicks s n).hull = s.hull := by simp [State.skipTicks]
@[simp] theorem hull_lanesStop (s : State) : (State.lanesStop s).hull = s.hull := by simp [State.lanesStop]
@[simp] theorem hull_setStored (s : State) (p : Pll) : (State.setStored s p).hull = s.hull := by unfold State.setStored; (repeat' split) <;> simp [State.when]
@[simp] theorem hull_leaveSafeClock (s : State) : (State.leaveSafeClock s).hull = s.hull := by unfold State.leaveSafeClock; simp only []; (repeat' split) <;> simp [State.when]
@[simp] theorem hull_slotClr (s : State) (p : Pll) : (State.slotClr s p).hull = s.hull := by unfold State.slotClr; (repeat' split) <;> simp [State.when]
@[simp] theorem hull_refSrcWrite (s : State) (p : Pll) (v : Word) : (State.refSrcWrite s p v).hull = s.hull := by simp [State.refSrcWrite]
@[simp] theorem hull_pllSearch (s : State) (p : Pll) (v : Word) : (State.pllSearch s p v).hull = s.hull := by unfold State.pllSearch; (repeat' split) <;> simp [State.when]
@[simp] theorem hull_pllWrite (s : State) (p : Pll) (v : Word) : (State.pllWrite s p v).hull = s.hull := by simp [State.pllWrite]
@[simp] theorem hull_calOrNext (s : State) : (State.calOrNext s).hull = s.hull := by simp [State.calOrNext]
@[simp] theorem hull_step4Due (s : State) : (State.step4Due s).hull = s.hull := by simp [State.step4Due]
@[simp] theorem hull_plls3 (s : State) : (State.plls3 s).hull = s.hull := by unfold State.plls3; (repeat' split) <;> simp [State.when]
@[simp] theorem hull_toState (s : State) (n : Nat) (cause : Nat) : (State.toState s n cause).hull = s.hull := by simp [State.toState]
@[simp] theorem hull_hwStep (s : State) : (State.hwStep s).hull = s.hull := by simp [State.hwStep]
@[simp] theorem hull_hwCause (s : State) (n : Nat) : (State.hwCause s n).hull = s.hull := by simp [State.hwCause]
@[simp] theorem hull_pulseFails (s : State) (why : Nat) : (State.pulseFails s why).hull = s.hull := by unfold State.pulseFails; (repeat' split) <;> simp [State.when]
@[simp] theorem hull_undoOutEn (s : State) : (State.undoOutEn s).hull = s.hull := by simp [State.undoOutEn]
@[simp] theorem hull_latchDemand (s : State) (bit : Nat) : (State.latchDemand s bit).hull = s.hull := by simp [State.latchDemand]
@[simp] theorem hull_outputsIdle (s : State) : (State.outputsIdle s).hull = s.hull := by simp [State.outputsIdle]
@[simp] theorem hull_outputsOff (s : State) : (State.outputsOff s).hull = s.hull := by simp [State.outputsOff]
@[simp] theorem hull_stationBlock (s : State) (cause : Nat) (origin : Nat) : (State.stationBlock s cause origin).hull = s.hull := by simp [State.stationBlock]
@[simp] theorem hull_keepPair (s : State) (o : Nat) (q : Nat) : (State.keepPair s o q).hull = s.hull := by simp [State.keepPair]
@[simp] theorem hull_basinOriginate (s : State) (scope : Nat) (arm : Nat) (cause : Nat) : (State.basinOriginate s scope arm cause).1.hull = s.hull := by simp [State.basinOriginate]
@[simp] theorem hull_stationWeir (s : State) (cause : Nat) : (State.stationWeir s cause).hull = s.hull := by simp [State.stationWeir]
@[simp] theorem hull_escalate (s : State) (cond : Nat) (arm : Nat) : (State.escalate s cond arm).hull = s.hull := by simp [State.escalate]
@[simp] theorem hull_setArmHold (s : State) (a : Nat) (h : ArmHold) : (State.setArmHold s a h).hull = s.hull := by simp [State.setArmHold]
@[simp] theorem hull_markArm (s : State) (x : WeirSet) (arrival : Nat) : (State.markArm s x arrival).hull = s.hull := by simp [State.markArm]
@[simp] theorem hull_escalateStage (s : State) : (State.escalateStage s).hull = s.hull := by unfold State.escalateStage; simp only []; (repeat' split) <;> simp [State.when]
@[simp] theorem hull_armWeir (s : State) (arm : Nat) (cause : Nat) : (State.armWeir s arm cause).hull = s.hull := by simp [State.armWeir]
@[simp] theorem hull_releaseArm (s : State) (a : Nat) (host : Bool) : (State.releaseArm s a host).hull = s.hull := by simp [State.releaseArm]
@[simp] theorem hull_setVote (s : State) (g : Nat) (v : VoteSt) : (State.setVote s g v).hull = s.hull := by simp [State.setVote]
@[simp] theorem hull_voteSample (s : State) (g : Nat) (votes : List Bool) (dis : Bool) : (State.voteSample s g votes dis).hull = s.hull := by simp [State.voteSample]
@[simp] theorem hull_ocpAct (s : State) (was : Bool) : (State.ocpAct s was).hull = s.hull := by unfold State.ocpAct; (repeat' split) <;> simp [State.when]
@[simp] theorem hull_ocpSet (s : State) (a : Nat) (b : Nat) (c : Nat) : (State.ocpSet s a b c).hull = s.hull := by unfold State.ocpSet; simp only []; (repeat' split) <;> simp [State.when]
@[simp] theorem hull_modPort (s : State) (p : Nat) (f : PortSt → PortSt) : (State.modPort s p f).hull = s.hull := by simp [State.modPort]
@[simp] theorem hull_modChain (s : State) (c : Nat) (f : ChainSt → ChainSt) : (State.modChain s c f).hull = s.hull := by simp [State.modChain]
@[simp] theorem hull_setPeer (s : State) (p : Peer) : (State.setPeer s p).hull = s.hull := by simp [State.setPeer]
@[simp] theorem hull_pump (d : Nat) (z0 : Nat) (z1 : State) : (State.pump d z0 z1).hull = z1.hull := by
  induction z0 generalizing z1 with
  | zero => rfl
  | succ n ih =>
    unfold State.pump
    simp only []
    split
    · rfl
    · split
      · exact (ih _).trans (by simp)
      · rfl
@[simp] theorem hull_sendMgmt (s : State) (d : Nat) (m : Mgmt) (owner : Owner) : (State.sendMgmt s d m owner).hull = s.hull := by simp [State.sendMgmt]
@[simp] theorem hull_sendSeq (s : State) (d : Nat) (op : Nat) (param : Nat) (payload : List Nat) (owner : Owner) : (State.sendSeq s d op param payload owner).hull = s.hull := by simp [State.sendSeq]
@[simp] theorem hull_sendPlain (s : State) (d : Nat) (op : Nat) (param : Nat) (payload : List Nat) : (State.sendPlain s d op param payload).hull = s.hull := by simp [State.sendPlain]
@[simp] theorem hull_sendNak (s : State) (m : Mgmt) (reason : Nat) : (State.sendNak s m reason).hull = s.hull := by simp [State.sendNak]
@[simp] theorem hull_acceptSeq (s : State) (m : Mgmt) : (State.acceptSeq s m).1.hull = s.hull := by unfold State.acceptSeq; simp only []; (repeat' split) <;> simp [State.when]
@[simp] theorem hull_ackFrame (s : State) (m : Mgmt) : (State.ackFrame s m).hull = s.hull := by simp [State.ackFrame]
@[simp] theorem hull_clearRx (s : State) (d : Nat) : (State.clearRx s d).hull = s.hull := by simp [State.clearRx]
@[simp] theorem hull_takeAck (s : State) (d : Nat) (mseq : Nat) : (State.takeAck s d mseq).1.hull = s.hull := by unfold State.takeAck; simp only []; (repeat' split) <;> simp [State.when]
@[simp] theorem hull_takeAwait (s : State) (d : Nat) (op : Nat) (ok : Nat → Bool) : (State.takeAwait s d op ok).1.hull = s.hull := by unfold State.takeAwait; (repeat' split) <;> simp [State.when]
@[simp] theorem hull_resendAll (s : State) (d : Nat) : (State.resendAll s d).hull = s.hull := by simp [State.resendAll]
@[simp] theorem hull_dropPeer (s : State) (d : Nat) : (State.dropPeer s d).1.hull = s.hull := by simp [State.dropPeer]
@[simp] theorem hull_relayMgmt (s : State) (port : Nat) (m : Mgmt) : (State.relayMgmt s port m).hull = s.hull := by unfold State.relayMgmt; (repeat' split) <;> simp [State.when]
@[simp] theorem hull_heardPeer (s : State) (src : Nat) : (State.heardPeer s src).hull = s.hull := by simp [State.heardPeer]
@[simp] theorem hull_mgmtIn (s : State) (port : Nat) (b : List Nat) (f : Mgmt → State → State) (h_f : ∀ (y0 : Mgmt) (y1 : State), (f y0 y1).hull = y1.hull) : (State.mgmtIn s port b f).hull = s.hull := by unfold State.mgmtIn; (repeat' split) <;> simp [State.when, h_f]
@[simp] theorem hull_linkReport (s : State) (p : Nat) (st : Nat) : (State.linkReport s p st).hull = s.hull := by unfold State.linkReport; (repeat' split) <;> simp [State.when]
@[simp] theorem hull_sendChunk (s : State) (sp : Nat) (kind : Nat) (off : Nat) (payload : List Nat) : (State.sendChunk s sp kind off payload).hull = s.hull := by simp [State.sendChunk]
@[simp] theorem hull_setPushing (s : State) : (State.setPushing s).hull = s.hull := by simp [State.setPushing]
@[simp] theorem hull_setPushes (s : State) (l : List (Nat × Nat × Nat)) : (State.setPushes s l).hull = s.hull := by simp [State.setPushes]
@[simp] theorem hull_pushFails (s : State) (sp : Nat) (cause : Nat) : (State.pushFails s sp cause).hull = s.hull := by simp [State.pushFails]
@[simp] theorem hull_startPush (s : State) (img : List Nat) (sp : Nat) (tick : Nat) : (State.startPush s img sp tick).hull = s.hull := by simp [State.startPush]
@[simp] theorem hull_pushResult (s : State) (sp : Nat) (word : Nat) : (State.pushResult s sp word).hull = s.hull := by unfold State.pushResult; (repeat' split) <;> simp [State.when]
@[simp] theorem hull_pushCommitted (s : State) (sp : Nat) : (State.pushCommitted s sp).hull = s.hull := by unfold State.pushCommitted; simp only []; (repeat' split) <;> simp [State.when]
@[simp] theorem hull_swapAbandon (s : State) (w : SwapSt) : (State.swapAbandon s w).hull = s.hull := by simp [State.swapAbandon]
@[simp] theorem hull_abandonLoad (s : State) : (State.abandonLoad s).hull = s.hull := by simp [State.abandonLoad]
@[simp] theorem hull_fenceOff (s : State) (x : Infl) (status : Nat) (tag : Nat) : (State.fenceOff s x status tag).hull = s.hull := by simp [State.fenceOff]
@[simp] theorem hull_setFence (s : State) (sp : Nat) (qs : List Nat) (status : Nat) (tag : Nat) : (State.setFence s sp qs status tag).hull = s.hull := by
  unfold State.setFence
  simp only []
  split
  · rfl
  · refine (hull_foldl _ (fun s x => by (repeat' split) <;> simp) _ _).trans ?_
    simp
@[simp] theorem hull_abortPath (s : State) (id : Nat) (cause : Nat) : (State.abortPath s id cause).hull = s.hull := by unfold State.abortPath; (repeat' split) <;> simp [State.when]
@[simp] theorem hull_cmdOutcome (s : State) (id : Nat) (res : Nat) (tick : Nat) : (State.cmdOutcome s id res tick).hull = s.hull := by unfold State.cmdOutcome; (repeat' split) <;> simp [State.when]
@[simp] theorem hull_carryAgain (s : State) (id : Nat) (seq : Nat) (carries : Nat) : (State.carryAgain s id seq carries).hull = s.hull := by simp [State.carryAgain]
@[simp] theorem hull_startCheck (s : State) (x : Infl) (seq : Nat) (tick : Nat) (carries : Nat) : (State.startCheck s x seq tick carries).hull = s.hull := by simp [State.startCheck]
@[simp] theorem hull_checkAnswer (s : State) (id : Nat) (word : Nat) : (State.checkAnswer s id word).hull = s.hull := by unfold State.checkAnswer; (repeat' split) <;> simp [State.when]
@[simp] theorem hull_sendRemote (x : Infl) (z0 : Nat) (z1 : Nat) (z2 : State) : (State.sendRemote x z0 z1 z2).hull = z2.hull := by
  induction z0 generalizing z1 z2 with
  | zero => rfl
  | succ n ih =>
    unfold State.sendRemote
    simp only []
    split
    · rfl
    · refine (ih _ _).trans ?_
      split <;> simp
@[simp] theorem hull_goRemote (s : State) (x : Infl) (w : Nat) : (State.goRemote s x w).hull = s.hull := by simp [State.goRemote]
@[simp] theorem hull_remoteWords (s : State) (id : Nat) (word : Nat) (c : Nat) (n : Nat) (ws : List Word) : (State.remoteWords s id word c n ws).hull = s.hull := by unfold State.remoteWords; (repeat' split) <;> simp [State.when]
@[simp] theorem hull_remoteNak (s : State) (id : Nat) (reason : Nat) : (State.remoteNak s id reason).hull = s.hull := by unfold State.remoteNak; (repeat' split) <;> simp [State.when]
@[simp] theorem hull_raiseAs (s : State) (src : Nat) (code : Nat) (payload : List Nat) : (State.raiseAs s src code payload).hull = s.hull := by simp [State.raiseAs]
@[simp] theorem hull_reconEnd (s : State) : (State.reconEnd s).hull = s.hull := by simp [State.reconEnd]
@[simp] theorem hull_reconRead (s : State) (sp : Nat) (ws : List Nat) : (State.reconRead s sp ws).hull = s.hull := by simp [State.reconRead]
@[simp] theorem hull_reconFail (s : State) (sp : Nat) : (State.reconFail s sp).hull = s.hull := by simp [State.reconFail]
@[simp] theorem hull_reconStart (s : State) (tick : Nat) : (State.reconStart s tick).hull = s.hull := by simp [State.reconStart]
@[simp] theorem hull_ownerFails (s : State) (o : Owner) : (State.ownerFails s o).hull = s.hull := by unfold State.ownerFails; (repeat' split) <;> simp [State.when]
@[simp] theorem hull_ownersFail (s : State) (l : List MOut) : (State.ownersFail s l).hull = s.hull := by
  unfold State.ownersFail
  exact hull_foldl _ (fun s x => by simp) _ _
@[simp] theorem hull_mgmtFail (s : State) (d : Nat) : (State.mgmtFail s d).hull = s.hull := by unfold State.mgmtFail; simp only []; (repeat' split) <;> simp [State.when]
@[simp] theorem hull_restartSeen (s : State) (sp : Nat) (oldE : Nat) (newE : Nat) : (State.restartSeen s sp oldE newE).hull = s.hull := by simp [State.restartSeen]
@[simp] theorem hull_unreachableNow (s : State) (sp : Nat) : (State.unreachableNow s sp).hull = s.hull := by
  unfold State.unreachableNow
  exact hull_foldl _ (fun s x => by (repeat' split) <;> simp) _ _
@[simp] theorem hull_demoteAborts (s : State) : (State.demoteAborts s).hull = s.hull := by simp [State.demoteAborts]
@[simp] theorem hull_safetyChange (s : State) (old : Nat) (new : Nat) (source : Nat) (target : Nat) : (State.safetyChange s old new source target).hull = s.hull := by simp [State.safetyChange]
@[simp] theorem hull_relock (s : State) : (State.relock s).hull = s.hull := by simp [State.relock]
@[simp] theorem hull_relockIfDue (s : State) : (State.relockIfDue s).hull = s.hull := by simp [State.relockIfDue]
@[simp] theorem hull_cfgStage (s : State) (x : Infl) (stage : Nat) : (State.cfgStage s x stage).hull = s.hull := by unfold State.cfgStage; (repeat' split) <;> simp [State.when]
@[simp] theorem hull_cfgNext (s : State) (x : Infl) (stage : Nat) : (State.cfgNext s x stage).hull = s.hull := by unfold State.cfgNext; (repeat' split) <;> simp [State.when]
@[simp] theorem hull_cfgAnswer (s : State) (id : Nat) (ws : List Word) : (State.cfgAnswer s id ws).hull = s.hull := by unfold State.cfgAnswer; simp only []; (repeat' split) <;> simp [State.when]
@[simp] theorem hull_cfgNak (s : State) (id : Nat) (reason : Nat) : (State.cfgNak s id reason).hull = s.hull := by unfold State.cfgNak; (repeat' split) <;> simp [State.when]
@[simp] theorem hull_burst (s : State) (p : Nat) : (State.burst s p).hull = s.hull := by simp [State.burst]
@[simp] theorem hull_portGone (s : State) (p : Nat) : (State.portGone s p).hull = s.hull := by unfold State.portGone; simp only []; split <;> simp
@[simp] theorem hull_setCdr (s : State) (p : Nat) (on : Bool) : (State.setCdr s p on).hull = s.hull := by simp [State.setCdr]
@[simp] theorem hull_trainPort (s : State) (p : Nat) : (State.trainPort s p).hull = s.hull := by simp [State.trainPort]
@[simp] theorem hull_retrainPort (s : State) (p : Nat) : (State.retrainPort s p).hull = s.hull := by simp [State.retrainPort]
@[simp] theorem hull_leaveIdle (s : State) (p : Nat) : (State.leaveIdle s p).hull = s.hull := by simp [State.leaveIdle]
@[simp] theorem hull_enrolFar (s : State) (c : Nat) : (State.enrolFar s c).hull = s.hull := by simp [State.enrolFar]
@[simp] theorem hull_enrolChain (s : State) (c : Nat) : (State.enrolChain s c).hull = s.hull := by simp [State.enrolChain]
@[simp] theorem hull_enrolAll (s : State) : (State.enrolAll s).hull = s.hull := by simp [State.enrolAll]
@[simp] theorem hull_goUp (s : State) (p : Nat) : (State.goUp s p).hull = s.hull := by unfold State.goUp; simp only []; (repeat' split) <;> simp [State.when]
@[simp] theorem hull_upIfReady (s : State) (p : Nat) (got : Bool) : (State.upIfReady s p got).hull = s.hull := by simp [State.upIfReady]
@[simp] theorem hull_trainRx (s : State) (p : Nat) (locked : Bool) : (State.trainRx s p locked).hull = s.hull := by simp [State.trainRx]
@[simp] theorem hull_linkLost (s : State) (p : Nat) (cause : Nat) : (State.linkLost s p cause).hull = s.hull := by simp [State.linkLost]
@[simp] theorem hull_eiRx (s : State) (p : Nat) : (State.eiRx s p).hull = s.hull := by simp [State.eiRx]
@[simp] theorem hull_eiSend (s : State) (p : Nat) : (State.eiSend s p).hull = s.hull := by simp [State.eiSend]
@[simp] theorem hull_hearFrame (s : State) (p : Nat) (h : Heard) : (State.hearFrame s p h).hull = s.hull := by simp [State.hearFrame]
@[simp] theorem hull_onFrame (s : State) (p : Nat) (bs : List Block) (ft : Nat) (f : List Nat → State → State) (h_f : ∀ (y0 : List Nat) (y1 : State), (f y0 y1).hull = y1.hull) : (State.onFrame s p bs ft f).hull = s.hull := by simp [State.onFrame, h_f]
@[simp] theorem hull_mgmtRx (s : State) (port : Nat) (bs : List Block) (ok : Mgmt → Bool) (f : Mgmt → State → State) (h_f : ∀ (y0 : Mgmt) (y1 : State), (f y0 y1).hull = y1.hull) : (State.mgmtRx s port bs ok f).hull = s.hull := by simp [State.mgmtRx, h_f]
@[simp] theorem hull_mgmtSeq (s : State) (port : Nat) (bs : List Block) (ok : Mgmt → Bool) (f : Mgmt → State → State) (h_f : ∀ (y0 : Mgmt) (y1 : State), (f y0 y1).hull = y1.hull) : (State.mgmtSeq s port bs ok f).hull = s.hull := by simp [State.mgmtSeq, h_f]
@[simp] theorem hull_onSet (s : State) (p : Nat) (v : Nat) (code : Nat) (f : State → State) (h_f : ∀ (y0 : State), (f y0).hull = y0.hull) : (State.onSet s p v code f).hull = s.hull := by simp [State.onSet, h_f]
@[simp] theorem hull_clkRestore (s : State) (p : Nat) (clean : Bool) : (State.clkRestore s p clean).hull = s.hull := by simp [State.clkRestore]
@[simp] theorem hull_retrain (s : State) (p : Nat) : (State.retrain s p).hull = s.hull := by simp [State.retrain]
@[simp] theorem hull_portEn (s : State) (p : Nat) (en : Bool) : (State.portEn s p en).hull = s.hull := by simp [State.portEn]
@[simp] theorem hull_prbsErrs (s : State) (p : Nat) (errs : Nat) : (State.prbsErrs s p errs).hull = s.hull := by simp [State.prbsErrs]
@[simp] theorem hull_prbsCheck (s : State) (p : Nat) (on : Bool) : (State.prbsCheck s p on).hull = s.hull := by simp [State.prbsCheck]
@[simp] theorem hull_prbsGen (s : State) (p : Nat) (gen : Bool) : (State.prbsGen s p gen).hull = s.hull := by simp [State.prbsGen]
@[simp] theorem hull_prbsClear (s : State) (p : Nat) : (State.prbsClear s p).hull = s.hull := by simp [State.prbsClear]
@[simp] theorem hull_enrolAnswer (s : State) (m : Mgmt) (op : Nat) (param : Nat) (payload : List Nat) : (State.enrolAnswer s m op param payload).hull = s.hull := by simp [State.enrolAnswer]
@[simp] theorem hull_enrolReq (s : State) (port : Nat) (m : Mgmt) : (State.enrolReq s port m).hull = s.hull := by simp [State.enrolReq]
@[simp] theorem hull_setEnr (s : State) (e : Enr) : (State.setEnr s e).hull = s.hull := by simp [State.setEnr]
@[simp] theorem hull_farEnd (s : State) (c : Nat) (pos : Nat) (up : Nat → Option Bool) : (State.farEnd s c pos up).hull = s.hull := by unfold State.farEnd; (repeat' split) <;> simp [State.when]
@[simp] theorem hull_enrolCheck (s : State) (c : Nat) : (State.enrolCheck s c).hull = s.hull := by simp [State.enrolCheck]
@[simp] theorem hull_enrolReply (s : State) (r : EnrolReply) (chain : Nat) (hop : Nat) (far : Bool) (rep : Bool) (conflict : Bool) : (State.enrolReply s r chain hop far rep conflict).hull = s.hull := by simp [State.enrolReply]
@[simp] theorem hull_becomeMaster (s : State) (role : Nat) (claim : Nat) : (State.becomeMaster s role claim).hull = s.hull := by simp [State.becomeMaster]
@[simp] theorem hull_elect (s : State) (role : Nat) : (State.elect s role).hull = s.hull := by simp [State.elect]
@[simp] theorem hull_electStandby (s : State) (seen : Nat) : (State.electStandby s seen).hull = s.hull := by simp [State.electStandby]
@[simp] theorem hull_electBegin (s : State) : (State.electBegin s).hull = s.hull := by simp [State.electBegin]
@[simp] theorem hull_beginStep8 (s : State) : (State.beginStep8 s).hull = s.hull := by simp [State.beginStep8]
@[simp] theorem hull_wdRestart (s : State) : (State.wdRestart s).hull = s.hull := by simp [State.wdRestart]
@[simp] theorem hull_dbBad (s : State) (q : Nat) (cq : Nat) (v : Nat) (cause : Nat) : (State.dbBad s q cq v cause).hull = s.hull := by simp [State.dbBad]
@[simp] theorem hull_sqDoorbell (s : State) (q : Nat) (v : Nat) : (State.sqDoorbell s q v).hull = s.hull := by simp [State.sqDoorbell]
@[simp] theorem hull_cqDoorbell (s : State) (q : Nat) (v : Nat) : (State.cqDoorbell s q v).hull = s.hull := by simp [State.cqDoorbell]
@[simp] theorem hull_turnTo (s : State) (q : Nat) : (State.turnTo s q).hull = s.hull := by simp [State.turnTo]
@[simp] theorem hull_standbyResume (s : State) (d : Desc) : (State.standbyResume s d).hull = s.hull := by simp [State.standbyResume]
@[simp] theorem hull_standbySays (s : State) (d : Desc) : (State.standbySays s d).hull = s.hull := by simp [State.standbySays]
@[simp] theorem hull_firstChecks (s : State) (x : Infl) : (State.firstChecks s x).hull = s.hull := by unfold State.firstChecks; simp only []; (repeat' split) <;> simp [State.when]
@[simp] theorem hull_inflightFull (s : State) : (State.inflightFull s).hull = s.hull := by simp [State.inflightFull]
@[simp] theorem hull_fetchFrom (s : State) (q : Nat) (d : Desc) : (State.fetchFrom s q d).hull = s.hull := by simp [State.fetchFrom]
@[simp] theorem hull_sendMsix (s : State) (v : Nat) : (State.sendMsix s v).hull = s.hull := by simp [State.sendMsix]
@[simp] theorem hull_unmask (s : State) (v : Nat) (fmask : Bool) : (State.unmask s v fmask).hull = s.hull := by simp [State.unmask]
@[simp] theorem hull_qpEnable (s : State) (q : Nat) : (State.qpEnable s q).hull = s.hull := by simp [State.qpEnable]
@[simp] theorem hull_qpDisable (s : State) (q : Nat) : (State.qpDisable s q).hull = s.hull := by simp [State.qpDisable]
@[simp] theorem hull_qpStart (s : State) (q : Nat) : (State.qpStart s q).hull = s.hull := by simp [State.qpStart]
@[simp] theorem hull_hostGone (s : State) : (State.hostGone s).1.hull = s.hull := by simp [State.hostGone]
@[simp] theorem hull_op (s : State) (q : Nat) (oc : Nat) (f : State → Infl → State) (h_f : ∀ (y0 : State) (y1 : Infl), (f y0 y1).hull = y0.hull) : (State.op s q oc f).hull = s.hull := by unfold State.op; (repeat' split) <;> simp [State.when, h_f]
@[simp] theorem hull_queueOp (s : State) (x : Infl) : (State.queueOp s x).hull = s.hull := by unfold State.queueOp; (repeat' split) <;> simp [State.when]
@[simp] theorem hull_setRole (s : State) (sp : Nat) (r : Nat) : (State.setRole s sp r).hull = s.hull := by simp [State.setRole]
@[simp] theorem hull_setSlArm (s : State) (a : Nat) (x : ArmSt) : (State.setSlArm s a x).hull = s.hull := by simp [State.setSlArm]
@[simp] theorem hull_modSlArm (s : State) (a : Nat) (f : ArmSt → ArmSt) : (State.modSlArm s a f).hull = s.hull := by simp [State.modSlArm]
@[simp] theorem hull_ts4For (s : State) (n : Nat) : (State.ts4For s n).hull = s.hull := by simp [State.ts4For]
@[simp] theorem hull_sensorOut (s : State) (n : Nat) : (State.sensorOut s n).hull = s.hull := by simp [State.sensorOut]
@[simp] theorem hull_sensorsInvalid (s : State) (v : Nat → Int) : (State.sensorsInvalid s v).hull = s.hull := by unfold State.sensorsInvalid; simp only []; (repeat' split) <;> simp [State.when]
@[simp] theorem hull_sensorSuspect (s : State) (n : Nat) (med : Int) : (State.sensorSuspect s n med).hull = s.hull := by simp [State.sensorSuspect]
@[simp] theorem hull_crossCheck (s : State) : (State.crossCheck s).hull = s.hull := by simp [State.crossCheck]
@[simp] theorem hull_dieTemp (s : State) : (State.dieTemp s).hull = s.hull := by simp [State.dieTemp]
@[simp] theorem hull_followThr (s : State) (i : Nat) : (State.followThr s i).1.hull = s.hull := by unfold State.followThr; simp only []; (repeat' split) <;> simp [State.when]
@[simp] theorem hull_thermalJournal (s : State) : (State.thermalJournal s).hull = s.hull := by simp [State.thermalJournal]
@[simp] theorem hull_hotShut (s : State) : (State.hotShut s).hull = s.hull := by simp [State.hotShut]
@[simp] theorem hull_thrEval (s : State) : (State.thrEval s).hull = s.hull := by unfold State.thrEval; (repeat' split) <;> simp [State.when]
@[simp] theorem hull_thrGather (s : State) : (State.thrGather s).hull = s.hull := by simp [State.thrGather]
@[simp] theorem hull_sprDie (s : State) (t : Telem) : (State.sprDie s t).1.hull = s.hull := by simp [State.sprDie]
@[simp] theorem hull_hotSpr (s : State) : (State.hotSpr s).hull = s.hull := by unfold State.hotSpr; simp only []; (repeat' split) <;> simp [State.when]
@[simp] theorem hull_thrChange (s : State) (i : Nat) (what : Nat) : (State.thrChange s i what).hull = s.hull := by unfold State.thrChange; (repeat' split) <;> simp [State.when]
@[simp] theorem hull_sensors (s : State) (v : Nat → Int) : (State.sensors s v).hull = s.hull := by simp [State.sensors]
@[simp] theorem hull_rolesFromTable (s : State) : (State.rolesFromTable s).hull = s.hull := by simp [State.rolesFromTable]
@[simp] theorem hull_insertWith (s : State) (a : Nat) (pos : Option Nat) (gone : Nat) (since : Nat) : (State.insertWith s a pos gone since).hull = s.hull := by unfold State.insertWith; (repeat' split) <;> simp [State.when]
@[simp] theorem hull_withdraw (s : State) (sp : Nat) (cause : Nat) : (State.withdraw s sp cause).hull = s.hull := by unfold State.withdraw; simp only []; (repeat' split) <;> simp [State.when]
@[simp] theorem hull_fillVacant (s : State) : (State.fillVacant s).hull = s.hull := by simp [State.fillVacant]
@[simp] theorem hull_returnCell (s : State) (sp : Nat) (v : Nat) : (State.returnCell s sp v).hull = s.hull := by simp [State.returnCell]
@[simp] theorem hull_insertFail (s : State) (a : Nat) (i : InsItem) (cause : Nat) : (State.insertFail s a i cause).hull = s.hull := by simp [State.insertFail]
@[simp] theorem hull_insertLate (s : State) (a : Nat) (us : Nat) : (State.insertLate s a us).hull = s.hull := by simp [State.insertLate]
@[simp] theorem hull_restartArm (s : State) (a : Nat) (tick : Nat) : (State.restartArm s a tick).hull = s.hull := by unfold State.restartArm; simp only []; (repeat' split) <;> simp [State.when]
@[simp] theorem hull_programme (s : State) (a : Nat) : (State.programme s a).hull = s.hull := by simp [State.programme]
@[simp] theorem hull_refill (s : State) (a : Nat) : (State.refill s a).hull = s.hull := by simp [State.refill]
@[simp] theorem hull_sluRoles (s : State) : (State.sluRoles s).hull = s.hull := by
  unfold State.sluRoles
  simp only [hull_mk]
  refine (hull_foldl _ (fun s x => by simp) _ _).trans ?_
  refine (hull_foldl _ (fun s x => by simp) _ _).trans ?_
  refine (hull_foldl _ (fun s x => by (repeat' split) <;> simp) _ _).trans ?_
  refine (hull_foldl _ (fun s x => by (repeat' split) <;> simp) _ _).trans ?_
  simp
@[simp] theorem hull_refuseEntry (s : State) (e : Entry) : (State.refuseEntry s e).hull = s.hull := by simp [State.refuseEntry]
@[simp] theorem hull_putEntry (s : State) (e : Entry) : (State.putEntry s e).hull = s.hull := by simp [State.putEntry]
@[simp] theorem hull_evalEntry (s : State) (e : Entry) (f : Nat) (reason : Nat) : (State.evalEntry s e f reason).hull = s.hull := by simp [State.evalEntry]
@[simp] theorem hull_underSwap (s : State) : (State.underSwap s).hull = s.hull := by unfold State.underSwap; (repeat' split) <;> simp [State.when]
@[simp] theorem hull_evalEntries (s : State) (arms : List ArmIn) (th : Rat) (on : Bool) : (State.evalEntries s arms th on).hull = s.hull := by
  unfold State.evalEntries
  simp only []
  refine (hull_foldl _ (fun s e => ?_) _ _).trans (by simp)
  (repeat' split) <;> simp
@[simp] theorem hull_putCls (s : State) (n : Nat) (c : ClsRec) : (State.putCls s n c).hull = s.hull := by unfold State.putCls; simp only []; (repeat' split) <;> simp [State.when]
@[simp] theorem hull_allocArm (s : State) (on : Bool) (arms : List ArmIn) (d : Asked) (v : Served) (es : List Entry) (i : Nat) (x : ArmIn) : (State.allocArm s on arms d v es i x).1.hull = s.hull := by simp [State.allocArm]
@[simp] theorem hull_setLimits (s : State) (on : Bool) (d : Asked) (v : Served) (ps : Int) (qs : Int) : (State.setLimits s on d v ps qs).hull = s.hull := by simp [State.setLimits]
@[simp] theorem hull_sluStatus (s : State) (on : Bool) (cs : List ClsRec) (ps : Int) (qs : Int) : (State.sluStatus s on cs ps qs).hull = s.hull := by simp [State.sluStatus]
@[simp] theorem hull_idleArms (s : State) (arms : List ArmIn) : (State.idleArms s arms).hull = s.hull := by simp [State.idleArms]
@[simp] theorem hull_allocate (s : State) (on : Bool) : (State.allocate s on).1.hull = s.hull := by
  unfold State.allocate
  simp only [hull_sluStatus]
  refine (hull_foldl1 _ (fun a i => ?_) _ _).trans ?_
  · split
    · rfl
    · simp
  · simp
@[simp] theorem hull_safeVote (s : State) : (State.safeVote s).hull = s.hull := by simp [State.safeVote]
@[simp] theorem hull_guardDemand (s : State) : (State.guardDemand s).hull = s.hull := by simp [State.guardDemand]
@[simp] theorem hull_guardSet (s : State) (g : Nat) : (State.guardSet s g).hull = s.hull := by simp [State.guardSet]
@[simp] theorem hull_outEn (s : State) : (State.outEn s).hull = s.hull := by simp [State.outEn]
@[simp] theorem hull_fbTime (s : State) (k : Nat) : (State.fbTime s k).hull = s.hull := by simp [State.fbTime]
@[simp] theorem hull_pulseDone (s : State) (k : Nat) : (State.pulseDone s k).hull = s.hull := by simp [State.pulseDone]
@[simp] theorem hull_outDegrades (s : State) (k : Nat) : (State.outDegrades s k).hull = s.hull := by simp [State.outDegrades]
@[simp] theorem hull_pulseSee (s : State) : (State.pulseSee s).hull = s.hull := by unfold State.pulseSee; (repeat' split) <;> simp [State.when]
@[simp] theorem hull_fbSet (s : State) (hs : Bool) (ls : Bool) : (State.fbSet s hs ls).hull = s.hull := by simp [State.fbSet]
@[simp] theorem hull_fbFault (s : State) (k : Nat) : (State.fbFault s k).hull = s.hull := by simp [State.fbFault]
@[simp] theorem hull_pulseStart (s : State) : (State.pulseStart s).hull = s.hull := by simp [State.pulseStart]
@[simp] theorem hull_pulseEnd (s : State) : (State.pulseEnd s).hull = s.hull := by unfold State.pulseEnd; (repeat' split) <;> simp [State.when]
@[simp] theorem hull_authFail (s : State) (role : Nat) : (State.authFail s role).hull = s.hull := by simp [State.authFail]
@[simp] theorem hull_pduLatch (s : State) : (State.pduLatch s).hull = s.hull := by simp [State.pduLatch]
@[simp] theorem hull_pduFault (s : State) (kind : Nat) (seq : Nat) : (State.pduFault s kind seq).hull = s.hull := by simp [State.pduFault]
@[simp] theorem hull_pduRx (s : State) (unit : Nat) (f : CanFrame) : (State.pduRx s unit f).hull = s.hull := by simp [State.pduRx]
@[simp] theorem hull_stopRec (s : State) (cause : Nat) : (State.stopRec s cause).hull = s.hull := by simp [State.stopRec]
@[simp] theorem hull_takeSeq (s : State) : (State.takeSeq s).1.hull = s.hull := by unfold State.takeSeq; simp only []; (repeat' split) <;> simp [State.when]
@[simp] theorem hull_numbered (s : State) (r : EvRec) : (State.numbered s r).1.hull = s.hull := by unfold State.numbered; simp only []; (repeat' split) <;> simp [State.when]
@[simp] theorem hull_journalPut (s : State) (r : EvRec) : (State.journalPut s r).hull = s.hull := by simp [State.journalPut]
@[simp] theorem hull_areasPut (s : State) (r : EvRec) : (State.areasPut s r).hull = s.hull := by simp [State.areasPut]
@[simp] theorem hull_publish (s : State) (r : EvRec) : (State.publish s r).hull = s.hull := by simp [State.publish]
@[simp] theorem hull_commitRec (s : State) (r : EvRec) : (State.commitRec s r).hull = s.hull := by simp [State.commitRec]
@[simp] theorem hull_commitLedger (s : State) (r : LedgerRec) : (State.commitLedger s r).hull = s.hull := by unfold State.commitLedger; simp only []; (repeat' split) <;> simp [State.when]
@[simp] theorem hull_commitOne (s : State) : (State.commitOne s).hull = s.hull := by unfold State.commitOne; simp only []; (repeat' split) <;> simp [State.when]
@[simp] theorem hull_eraseFirstNow (s : State) : (State.eraseFirstNow s).hull = s.hull := by simp [State.eraseFirstNow]
@[simp] theorem hull_formatNow (s : State) : (State.formatNow s).hull = s.hull := by simp [State.formatNow]
@[simp] theorem hull_bankLost (s : State) (b : Nat) : (State.bankLost s b).hull = s.hull := by simp [State.bankLost]
@[simp] theorem hull_noReserve (s : State) (area : Nat) (k : Nat) : (State.noReserve s area k).hull = s.hull := by unfold State.noReserve; (repeat' split) <;> simp [State.when]
@[simp] theorem hull_retireBlock (s : State) (lb : Nat) (k : Nat) (cause : Nat) : (State.retireBlock s lb k cause).hull = s.hull := by simp [State.retireBlock]
@[simp] theorem hull_eraseFirst (s : State) : (State.eraseFirst s).hull = s.hull := by simp [State.eraseFirst]
@[simp] theorem hull_formatNor (s : State) : (State.formatNor s).hull = s.hull := by simp [State.formatNor]
@[simp] theorem hull_recCtrl (s : State) (locked : Bool) (v : Nat) : (State.recCtrl s locked v).hull = s.hull := by unfold State.recCtrl; (repeat' split) <;> simp [State.when] <;> (repeat' split) <;> simp
@[simp] theorem hull_thaw (s : State) : (State.thaw s).hull = s.hull := by simp [State.thaw]
@[simp] theorem hull_ledgerRec (s : State) (kind : Nat) : (State.ledgerRec s kind).hull = s.hull := by unfold State.ledgerRec; simp only []; (repeat' split) <;> simp [State.when]
@[simp] theorem hull_newTenure (s : State) (id : List Nat) : (State.newTenure s id).hull = s.hull := by simp [State.newTenure]
@[simp] theorem hull_integrate (s : State) (w : Int) (p : Nat) : (State.integrate s w p).hull = s.hull := by simp [State.integrate]
@[simp] theorem hull_sprEvent (s : State) (sp : Nat) (r : EvRec) : (State.sprEvent s sp r).hull = s.hull := by unfold State.sprEvent; (repeat' split) <;> simp [State.when]
theorem hull_newLseq {s t : State} {a b : Nat} (h : s.newLseq a b = some t) : t.hull = s.hull := by
  unfold State.newLseq at h
  simp only [] at h
  split at h
  · cases h
  · cases h; rfl

@[simp] theorem hull_takeEvent (s : State) (sp : Nat) (r : EvRec) : (State.takeEvent s sp r).hull = s.hull := by
  unfold State.takeEvent
  split
  · rfl
  · rename_i h
    have := hull_newLseq h
    simp only []
    split <;> simp [this]
@[simp] theorem hull_basinClose (s : State) (sp : Nat) (low : Option (Nat × Nat)) : (State.basinClose s sp low).hull = s.hull := by unfold State.basinClose; (repeat' split) <;> simp [State.when]
@[simp] theorem hull_takeLedger (s : State) (sp : Nat) (r : LedgerRec) : (State.takeLedger s sp r).hull = s.hull := by unfold State.takeLedger; (repeat' split) <;> simp [State.when]
@[simp] theorem hull_sendRecords (s : State) : (State.sendRecords s).hull = s.hull := by unfold State.sendRecords; (repeat' split) <;> simp [State.when]
@[simp] theorem hull_energyLatch (s : State) : (State.energyLatch s).hull = s.hull := by simp [State.energyLatch]
@[simp] theorem hull_ramSet (s : State) (a : Nat) (v : Byte) : (State.ramSet s a v).hull = s.hull := by simp [State.ramSet]
@[simp] theorem hull_ramStore (z0 : List Nat) (z1 : Nat) (z2 : State) : (State.ramStore z0 z1 z2).hull = z2.hull := by
  induction z0 generalizing z1 z2 with
  | nil => rfl
  | cons v t ih => exact (ih _ _).trans (by simp)
@[simp] theorem hull_modCan (s : State) (n : Nat) (f : CanUnit → CanUnit) : (State.modCan s n f).hull = s.hull := by simp [State.modCan]
@[simp] theorem hull_setFill (s : State) (n : Nat) (w : Nat) (k : Nat) : (State.setFill s n w k).hull = s.hull := by simp [State.setFill]
@[simp] theorem hull_elemLock (s : State) (n : Nat) (w : Nat) : (State.elemLock s n w).hull = s.hull := by simp [State.elemLock]
@[simp] theorem hull_elemUnlock (s : State) (n : Nat) (w : Nat) : (State.elemUnlock s n w).hull = s.hull := by simp [State.elemUnlock]
@[simp] theorem hull_fifoPop (s : State) (n : Nat) (w : Nat) : (State.fifoPop s n w).hull = s.hull := by simp [State.fifoPop]
@[simp] theorem hull_elemRelease (s : State) (n : Nat) (w : Nat) : (State.elemRelease s n w).hull = s.hull := by simp [State.elemRelease]
@[simp] theorem hull_rxLost (s : State) (n : Nat) (which : Nat) : (State.rxLost s n which).hull = s.hull := by simp [State.rxLost]
@[simp] theorem hull_nextRseq (s : State) (n : Nat) : (State.nextRseq s n).1.hull = s.hull := by simp [State.nextRseq]
@[simp] theorem hull_fifoStore (s : State) (n : Nat) (w : Nat) (f : CanFrame) (fidx : Nat) (anmf : Bool) (stamp : Nat) : (State.fifoStore s n w f fidx anmf stamp).hull = s.hull := by simp [State.fifoStore]
@[simp] theorem hull_bufStore (s : State) (n : Nat) (b : Nat) (f : CanFrame) (fidx : Nat) (stamp : Nat) : (State.bufStore s n b f fidx stamp).hull = s.hull := by simp [State.bufStore]
@[simp] theorem hull_modPack (s : State) (f : PackSt → PackSt) : (State.modPack s f).hull = s.hull := by simp [State.modPack]
@[simp] theorem hull_packStore (s : State) (code : Nat) (v : Int) : (State.packStore s code v).hull = s.hull := by simp [State.packStore]
@[simp] theorem hull_rowShort (s : State) (i : Nat) (len : Nat) : (State.rowShort s i len).hull = s.hull := by simp [State.rowShort]
@[simp] theorem hull_decodeRow (s : State) (p : List Nat) (f : CanFrame) (i : Nat) : (State.decodeRow s p f i).hull = s.hull := by simp [State.decodeRow]
@[simp] theorem hull_packComplete (s : State) (p : List Nat) : (State.packComplete s p).hull = s.hull := by simp [State.packComplete]
@[simp] theorem hull_packDecode (s : State) (n : Nat) (f : CanFrame) : (State.packDecode s n f).hull = s.hull := by unfold State.packDecode; (repeat' split) <;> simp [State.when]
@[simp] theorem hull_canReceive (s : State) (n : Nat) (f : CanFrame) (stamp : Nat) : (State.canReceive s n f stamp).hull = s.hull := by simp [State.canReceive]
@[simp] theorem hull_txAsk (s : State) (n : Nat) (b : Nat) : (State.txAsk s n b).hull = s.hull := by simp [State.txAsk]
@[simp] theorem hull_txDrop (s : State) (n : Nat) (b : Nat) : (State.txDrop s n b).hull = s.hull := by simp [State.txDrop]
@[simp] theorem hull_txRefused (s : State) (n : Nat) (b : Nat) (cause : Nat) : (State.txRefused s n b cause).hull = s.hull := by simp [State.txRefused]
@[simp] theorem hull_txRequest (s : State) (n : Nat) (b : Nat) : (State.txRequest s n b).hull = s.hull := by unfold State.txRequest; (repeat' split) <;> simp [State.when]
@[simp] theorem hull_txCancel (s : State) (n : Nat) (b : Nat) (sending : Option Nat) : (State.txCancel s n b sending).hull = s.hull := by simp [State.txCancel]
@[simp] theorem hull_canCounters (s : State) (n : Nat) (tec : Nat) (rec : Nat) : (State.canCounters s n tec rec).hull = s.hull := by simp [State.canCounters]
@[simp] theorem hull_dupClear (s : State) (n : Nat) (b : Nat) : (State.dupClear s n b).hull = s.hull := by simp [State.dupClear]
@[simp] theorem hull_dupCount (s : State) (n : Nat) (b : Nat) (tec : Nat) (rec : Nat) : (State.dupCount s n b tec rec).hull = s.hull := by simp [State.dupCount]
@[simp] theorem hull_txFails (s : State) (n : Nat) (b : Nat) (bit : Bool) : (State.txFails s n b bit).hull = s.hull := by simp [State.txFails]
@[simp] theorem hull_tdcFail (s : State) (n : Nat) (b : Nat) (cycles : Nat) : (State.tdcFail s n b cycles).hull = s.hull := by simp [State.tdcFail]
@[simp] theorem hull_tefPut (s : State) (n : Nat) (b : Nat) (stamp : Nat) : (State.tefPut s n b stamp).hull = s.hull := by simp [State.tefPut]
@[simp] theorem hull_refSentAt (s : State) (n : Nat) (ago : Nat) : (State.refSentAt s n ago).hull = s.hull := by simp [State.refSentAt]
@[simp] theorem hull_txDone (s : State) (n : Nat) (b : Nat) (ago : Nat) : (State.txDone s n b ago).hull = s.hull := by simp [State.txDone]
@[simp] theorem hull_canStateTo (s : State) (n : Nat) (st : Nat) (tec : Nat) (rec : Nat) : (State.canStateTo s n st tec rec).hull = s.hull := by simp [State.canStateTo]
@[simp] theorem hull_recReq (s : State) (n : Nat) : (State.recReq s n).hull = s.hull := by simp [State.recReq]
@[simp] theorem hull_canInitSet (s : State) (n : Nat) : (State.canInitSet s n).hull = s.hull := by simp [State.canInitSet]
@[simp] theorem hull_canInitClear (s : State) (n : Nat) : (State.canInitClear s n).hull = s.hull := by unfold State.canInitClear; (repeat' split) <;> simp [State.when]
@[simp] theorem hull_refDue (s : State) (n : Nat) : (State.refDue s n).hull = s.hull := by unfold State.refDue; simp only []; (repeat' split) <;> simp [State.when]
@[simp] theorem hull_pduTx (s : State) : (State.pduTx s).hull = s.hull := by unfold State.pduTx; simp only []; (repeat' split) <;> simp [State.when]
@[simp] theorem hull_canRead (s : State) (n : Nat) (o : Nat) : (State.canRead s n o).1.hull = s.hull := by unfold State.canRead; (repeat' split) <;> simp [State.when]
@[simp] theorem hull_canWrite (s : State) (n : Nat) (o : Nat) (v : Nat) : (State.canWrite s n o v).hull = s.hull := by unfold State.canWrite; (repeat' split) <;> simp [State.when]
@[simp] theorem hull_packLatch (s : State) : (State.packLatch s).hull = s.hull := by simp [State.packLatch]
@[simp] theorem hull_setLec (s : State) (f : Fld) (v : Nat) : (State.setLec s f v).hull = s.hull := by simp [State.setLec]
@[simp] theorem hull_epochInc (s : State) (cause : Nat) : (State.epochInc s cause).hull = s.hull := by simp [State.epochInc]
@[simp] theorem hull_showFreq (s : State) : (State.showFreq s).hull = s.hull := by simp [State.showFreq]
@[simp] theorem hull_slew (s : State) (e : Int) : (State.slew s e).hull = s.hull := by simp [State.slew]
@[simp] theorem hull_lockCount (s : State) (e : Int) (src : Nat) : (State.lockCount s e src).hull = s.hull := by simp [State.lockCount]
theorem hull_servoStep {s t : State} {e : Int} (h : s.servoStep e = some t) : t.hull = s.hull := by
  unfold State.servoStep at h
  split at h
  · simp only [Option.some.injEq] at h
    subst h
    simp
  · cases h

@[simp] theorem hull_masterSample (s : State) (e : Int) : (State.masterSample s e).hull = s.hull := by
  unfold State.masterSample
  simp only []
  split
  · rfl
  · split
    · rename_i h
      split at h
      · simp [hull_servoStep (Option.some.inj h)]
      · cases h
    · (repeat' split) <;> simp
    · simp
@[simp] theorem hull_timeCtrl (s : State) (old : Nat) : (State.timeCtrl s old).hull = s.hull := by simp [State.timeCtrl]
@[simp] theorem hull_noteHop (s : State) (p : Nat) (mhop : Nat) (terr : Int) : (State.noteHop s p mhop terr).hull = s.hull := by unfold State.noteHop; simp only []; (repeat' split) <;> simp [State.when]
@[simp] theorem hull_takeUpstream (s : State) (p : Nat) : (State.takeUpstream s p).hull = s.hull := by simp [State.takeUpstream]
@[simp] theorem hull_headerTime (s : State) (h : TickHdr) : (State.headerTime s h).hull = s.hull := by simp [State.headerTime]
@[simp] theorem hull_timeLoad (s : State) (p : Nat) (th : Int) : (State.timeLoad s p th).hull = s.hull := by unfold State.timeLoad; simp only []; (repeat' split) <;> simp [State.when]
@[simp] theorem hull_followSample (s : State) (p : Nat) (e : Int) (terr : Int) : (State.followSample s p e terr).hull = s.hull := by simp [State.followSample]
@[simp] theorem hull_syncDone (s : State) (p : Nat) (t1 : Nat) (t2 : Nat) (t3 : Nat) (t4 : Nat) : (State.syncDone s p t1 t2 t3 t4).hull = s.hull := by
  unfold State.syncDone
  simp only []
  (repeat' split) <;> simp
@[simp] theorem hull_timeSetApply (s : State) (x : Infl) : (State.timeSetApply s x).hull = s.hull := by simp [State.timeSetApply]
@[simp] theorem hull_stampLatch (s : State) : (State.stampLatch s).hull = s.hull := by simp [State.stampLatch]
@[simp] theorem hull_remoteAct (s : State) (x : Infl) (ans : Option RemoteAns) (st : RemoteAns → Option (Nat × Nat)) : (State.remoteAct s x ans st).hull = s.hull := by
  unfold State.remoteAct
  split
  · rfl
  · split
    · simp
    · split
      · simp
      · simp
      · cases st _ with
        | none => rfl
        | some c => simp only [Option.map_some, Option.getD_some]; split <;> simp
      · rfl
@[simp] theorem hull_calAnswer (s : State) (own : Nat) (opcode : Nat) (status : Nat) (reason : Nat) : (State.calAnswer s own opcode status reason).hull = s.hull := by unfold State.calAnswer; (repeat' split) <;> simp [State.when]
@[simp] theorem hull_storeCal (s : State) (n : Nat) (offset : Int) (gains : List Nat) (lins : List Int) : (State.storeCal s n offset gains lins).hull = s.hull := by simp [State.storeCal]
@[simp] theorem hull_calStep (s : State) : (State.calStep s).hull = s.hull := by unfold State.calStep; simp only []; (repeat' split) <;> simp [State.when]
@[simp] theorem hull_sysRefuse (s : State) (own : Nat) (input : Nat) (step : Nat) (reason : Nat) : (State.sysRefuse s own input step reason).hull = s.hull := by simp [State.sysRefuse]
@[simp] theorem hull_sysStep (s : State) (own : Nat) (step : Nat) (p : List Nat) : (State.sysStep s own step p).hull = s.hull := by simp [State.sysStep]
@[simp] theorem hull_sysRow (s : State) (q : Fin 16) (step : Nat) (ans : Option RemoteAns) (p : List Nat) : (State.sysRow s q step ans p).hull = s.hull := by unfold State.sysRow; (repeat' split) <;> simp [State.when]
@[simp] theorem hull_healthRx (s : State) (h : Health) : (State.healthRx s h).hull = s.hull := by simp [State.healthRx]
@[simp] theorem hull_takeOver (s : State) (cause : Nat) : (State.takeOver s cause).hull = s.hull := by simp [State.takeOver]
@[simp] theorem hull_takeInhibited (s : State) : (State.takeInhibited s).hull = s.hull := by simp [State.takeInhibited]
@[simp] theorem hull_hostTakeover (s : State) : (State.hostTakeover s).hull = s.hull := by simp [State.hostTakeover]
@[simp] theorem hull_demote (s : State) (claim : Nat) (side : Side) : (State.demote s claim side).hull = s.hull := by simp [State.demote]
@[simp] theorem hull_outWarn (s : State) : (State.outWarn s).hull = s.hull := by unfold State.outWarn; (repeat' split) <;> simp [State.when]
@[simp] theorem hull_expireDeen (s : State) : (State.expireDeen s).hull = s.hull := by simp [State.expireDeen]
@[simp] theorem hull_outExpire (s : State) : (State.outExpire s).hull = s.hull := by unfold State.outExpire; (repeat' split) <;> simp [State.when]
@[simp] theorem hull_voteRestore (s : State) (g : Nat) : (State.voteRestore s g).hull = s.hull := by simp [State.voteRestore]
@[simp] theorem hull_voteRst (s : State) (v : Nat) : (State.voteRst s v).hull = s.hull := by simp [State.voteRst]
@[simp] theorem hull_rowCandidate (s : State) (bank : Nat) (row : Nat) (cause : Nat) : (State.rowCandidate s bank row cause).hull = s.hull := by unfold State.rowCandidate; (repeat' split) <;> simp [State.when]
@[simp] theorem hull_weirBad (s : State) (port : Nat) (w : Nat) (report : Bool) : (State.weirBad s port w report).hull = s.hull := by simp [State.weirBad]
@[simp] theorem hull_obey (s : State) (port : Nat) (x : WeirSet) : (State.obey s port x).hull = s.hull := by simp [State.obey]
@[simp] theorem hull_weirRel (s : State) (v : Nat) : (State.weirRel s v).hull = s.hull := by simp [State.weirRel]
@[simp] theorem hull_testEdge (s : State) (p : TestSt) (t : Nat) : (State.testEdge s p t).hull = s.hull := by simp [State.testEdge]
@[simp] theorem hull_gateTest (s : State) (v : Word) : (State.gateTest s v).hull = s.hull := by simp [State.gateTest]
@[simp] theorem hull_msixWrite (s : State) (o : Nat) (v : Nat) (fmask : Bool) : (State.msixWrite s o v fmask).hull = s.hull := by simp [State.msixWrite]
@[simp] theorem hull_qpWriteEn (s : State) (q : Nat) (en : Bool) : (State.qpWriteEn s q en).hull = s.hull := by simp [State.qpWriteEn]
@[simp] theorem hull_qpWrite (s : State) (locked : Bool) (o : Nat) (v : Nat) : (State.qpWrite s locked o v).hull = s.hull := by simp [State.qpWrite]
@[simp] theorem hull_linkWrite (s : State) (locked : Bool) (w : WrIn) (o : Nat) (v : Nat) : (State.linkWrite s locked w o v).hull = s.hull := by simp [State.linkWrite]
@[simp] theorem hull_cellCmd (s : State) (v : Nat) : (State.cellCmd s v).hull = s.hull := by simp [State.cellCmd]
@[simp] theorem hull_canCtrlWrite (s : State) (locked : Bool) (n : Nat) (o : Nat) (v : Nat) : (State.canCtrlWrite s locked n o v).hull = s.hull := by simp [State.canCtrlWrite]
@[simp] theorem hull_canRefWrite (s : State) (locked : Bool) (n : Nat) (o : Nat) (v : Nat) : (State.canRefWrite s locked n o v).hull = s.hull := by simp [State.canRefWrite]
@[simp] theorem hull_canSpace (s : State) (locked : Bool) (w : WrIn) (o : Nat) (v : Nat) : (State.canSpace s locked w o v).hull = s.hull := by simp [State.canSpace]
@[simp] theorem hull_attrWrite (s : State) (v : Nat) : (State.attrWrite s v).hull = s.hull := by simp [State.attrWrite]
@[simp] theorem hull_cfgWrite (s : State) (img : Bool) (w : WrIn) (o : Nat) (v : Nat) : (State.cfgWrite s img w o v).hull = s.hull := by simp [State.cfgWrite]
@[simp] theorem hull_busRead (s : State) (o : Nat) : (State.busRead s o).1.hull = s.hull := by unfold State.busRead; (repeat' split) <;> simp [State.when]
@[simp] theorem hull_setBank (s : State) (b : Nat) (x : Bank) : (State.setBank s b x).hull = s.hull := by simp [State.setBank]
@[simp] theorem hull_bankShown (s : State) (b : Nat) : (State.bankShown s b).hull = s.hull := by simp [State.bankShown]
@[simp] theorem hull_applyCan (s : State) (b : List Nat) : (State.applyCan s b).hull = s.hull := by simp [State.applyCan]
@[simp] theorem hull_applyDerived (s : State) (b : List Nat) : (State.applyDerived s b).hull = s.hull := by simp [State.applyDerived]
@[simp] theorem hull_applyImage (s : State) (img : List Nat) (bank : Nat) : (State.applyImage s img bank).hull = s.hull := by simp [State.applyImage]
@[simp] theorem hull_applyBank (s : State) (b : Nat) (img : List Nat) : (State.applyBank s b img).hull = s.hull := by simp [State.applyBank]
@[simp] theorem hull_loadRefuse (s : State) (x : Infl) (reason : Nat) : (State.loadRefuse s x reason).hull = s.hull := by simp [State.loadRefuse]
theorem hull_loadOpen {s t : State} {b : Nat} {l : List Nat} (h : s.loadOpen b l = some t) : t.hull = s.hull := by
  unfold State.loadOpen at h
  simp only [] at h
  split at h
  · cases h
  · cases h; simp

@[simp] theorem hull_tableLoad (s : State) (x : Infl) (buf : HostBuf) : (State.tableLoad s x buf).hull = s.hull := by
  unfold State.tableLoad
  simp only []
  split
  · simp
  · split
    · simp
    · split
      · simp
      · split
        · simp
        · split
          · rfl
          · split
            · simp
            · rename_i u hu
              have hh : u.hull = s.hull := by
                split at hu
                · exact hull_loadOpen hu
                · cases hu; rfl
              split
              · simp [hh]
              · split
                · simp [hh]
                · (repeat' split) <;> simp [hh]
@[simp] theorem hull_loadEnd (s : State) (x : Infl) (b : Nat) : (State.loadEnd s x b).hull = s.hull := by unfold State.loadEnd; simp only []; (repeat' split) <;> simp [State.when]
@[simp] theorem hull_swapRefuse (s : State) (x : Infl) (status : Nat) (reason : Nat) : (State.swapRefuse s x status reason).hull = s.hull := by simp [State.swapRefuse]
@[simp] theorem hull_pushOthers (s : State) (reached : List Nat) : (State.pushOthers s reached).hull = s.hull := by simp [State.pushOthers]
@[simp] theorem hull_swapNow (s : State) (id : Nat) (bank : Nat) (img : List Nat) (a : Nat) : (State.swapNow s id bank img a).hull = s.hull := by unfold State.swapNow; simp only []; (repeat' split) <;> simp [State.when]
@[simp] theorem hull_tableSwap (s : State) (x : Infl) : (State.tableSwap s x).hull = s.hull := by
  cases ha : applyTick s.nextTick x.d.applyTick <;> simp [State.tableSwap, ha]
@[simp] theorem hull_swapDecide (s : State) : (State.swapDecide s).hull = s.hull := by unfold State.swapDecide; simp only []; (repeat' split) <;> simp [State.when]
@[simp] theorem hull_applyStaged (s : State) : (State.applyStaged s).hull = s.hull := by unfold State.applyStaged; (repeat' split) <;> simp [State.when]
@[simp] theorem hull_dropStaged (s : State) : (State.dropStaged s).hull = s.hull := by simp [State.dropStaged]
@[simp] theorem hull_chunkBegin (s : State) (m : Mgmt) : (State.chunkBegin s m).hull = s.hull := by simp [State.chunkBegin]
@[simp] theorem hull_chunkData (s : State) (m : Mgmt) : (State.chunkData s m).hull = s.hull := by simp [State.chunkData]
@[simp] theorem hull_chunkEnd (s : State) (m : Mgmt) : (State.chunkEnd s m).hull = s.hull := by unfold State.chunkEnd; simp only []; (repeat' split) <;> simp [State.when]
@[simp] theorem hull_chunkCommit (s : State) (m : Mgmt) : (State.chunkCommit s m).hull = s.hull := by simp [State.chunkCommit]
@[simp] theorem hull_chunkRx (s : State) (kind : Nat) (port : Nat) (bs : List Block) (f : Mgmt → State → State) (h_f : ∀ (y0 : Mgmt) (y1 : State), (f y0 y1).hull = y1.hull) : (State.chunkRx s kind port bs f).hull = s.hull := by simp [State.chunkRx, h_f]
@[simp] theorem hull_warmState (s : State) : (State.warmState s).hull = s.hull := by simp [State.warmState]
@[simp] theorem hull_warmEnter (s : State) : (State.warmEnter s).hull = s.hull := by simp [State.warmEnter]
@[simp] theorem hull_mapRow (s : State) (r : Nat) : (State.mapRow s r).hull = s.hull := by simp [State.mapRow]
@[simp] theorem hull_mapCandidates (s : State) : (State.mapCandidates s).hull = s.hull := by simp [State.mapCandidates]
@[simp] theorem hull_mapFused (s : State) : (State.mapFused s).hull = s.hull := by simp [State.mapFused]
@[simp] theorem hull_norProbe (s : State) (b : NorProbe × NorProbe) : (State.norProbe s b).hull = s.hull := by simp [State.norProbe]
@[simp] theorem hull_norTable (s : State) : (State.norTable s).hull = s.hull := by simp [State.norTable]
@[simp] theorem hull_norSystem (s : State) : (State.norSystem s).hull = s.hull := by simp [State.norSystem]
@[simp] theorem hull_defaultPw (s : State) : (State.defaultPw s).hull = s.hull := by simp [State.defaultPw]
@[simp] theorem hull_bankBoot (s : State) (b : Nat) : (State.bankBoot s b).hull = s.hull := by unfold State.bankBoot; (repeat' split) <;> simp [State.when]
@[simp] theorem hull_selectBank (s : State) : (State.selectBank s).1.hull = s.hull := by unfold State.selectBank; simp only []; (repeat' split) <;> simp [State.when]
@[simp] theorem hull_norBoot (s : State) : (State.norBoot s).hull = s.hull := by simp [State.norBoot]
@[simp] theorem hull_bootGo (s : State) : (State.bootGo s).hull = s.hull := by unfold State.bootGo; simp only []; (repeat' split) <;> simp [State.when]
@[simp] theorem hull_bootAfterSag (s : State) : (State.bootAfterSag s).hull = s.hull := by unfold State.bootAfterSag; (repeat' split) <;> simp [State.when]
@[simp] theorem hull_nextEpoch (s : State) : (State.nextEpoch s).hull = s.hull := by simp [State.nextEpoch]
@[simp] theorem hull_springStart (s : State) : (State.springStart s).hull = s.hull := by simp [State.springStart]
@[simp] theorem hull_warmLeft (s : State) (cause : Nat) : (State.warmLeft s cause).hull = s.hull := by unfold State.warmLeft; simp only []; (repeat' split) <;> simp [State.when]
@[simp] theorem hull_warmResume (s : State) (cause : Nat) (us : Nat) : (State.warmResume s cause us).hull = s.hull := by unfold State.warmResume; simp only []; (repeat' split) <;> simp [State.when]
@[simp] theorem hull_warmExit (s : State) (cause : Nat) (us : Nat) : (State.warmExit s cause us).hull = s.hull := by simp [State.warmExit]
@[simp] theorem hull_intoHold (s : State) : (State.intoHold s).hull = s.hull := by simp [State.intoHold]
@[simp] theorem hull_softReset (s : State) (v : Nat) : (State.softReset s v).hull = s.hull := by unfold State.softReset; (repeat' split) <;> simp [State.when]
@[simp] theorem hull_busWrite (s : State) (w : WrIn) (o : Nat) (v : Nat) : (State.busWrite s w o v).hull = s.hull := by simp [State.busWrite]
@[simp] theorem hull_writeWords (w : WrIn) (z0 : Nat) (z1 : List Word) (z2 : State) : (State.writeWords w z0 z1 z2).hull = z2.hull := by
  induction z1 generalizing z0 z2 with
  | nil => simp [State.writeWords]
  | cons v t ih => exact (ih _ _).trans (by simp)
@[simp] theorem hull_readWords (z0 : Nat) (z1 : Nat) (z2 : State) : (State.readWords z0 z1 z2).1.hull = z2.hull := by
  induction z0 generalizing z1 z2 with
  | zero => rfl
  | succ n ih =>
    unfold State.readWords
    exact (ih _ _).trans (by simp)
@[simp] theorem hull_hostRead (s : State) (r : HostRd) : (State.hostRead s r).1.hull = s.hull := by unfold State.hostRead; simp only []; (repeat' split) <;> simp [State.when]
@[simp] theorem hull_readBy (s : State) (o : Nat) (rq : Option HostRd) : (State.readBy s o rq).hull = s.hull := by unfold State.readBy; simp only []; (repeat' split) <;> simp [State.when]
@[simp] theorem hull_rdReq (s : State) (m : Mgmt) : (State.rdReq s m).hull = s.hull := by simp [State.rdReq]
@[simp] theorem hull_wrReq (s : State) (m : Mgmt) (w : WrIn) : (State.wrReq s m w).hull = s.hull := by simp [State.wrReq]
@[simp] theorem hull_setPassword (s : State) (l : List (Nat × Nat)) : (State.setPassword s l).hull = s.hull := by simp [State.setPassword]
@[simp] theorem hull_cfgHere (s : State) (x : Infl) (l : List (Nat × Nat)) : (State.cfgHere s x l).hull = s.hull := by simp [State.cfgHere]
@[simp] theorem hull_retrainAll (s : State) : (State.retrainAll s).hull = s.hull := by simp [State.retrainAll]
@[simp] theorem hull_keepKey (s : State) (h : TickHdr) : (State.keepKey s h).hull = s.hull := by simp [State.keepKey]
@[simp] theorem hull_newSide (s : State) (h : TickHdr) : (State.newSide s h).hull = s.hull := by unfold State.newSide; simp only []; (repeat' split) <;> simp [State.when]
@[simp] theorem hull_newKey (s : State) (h : TickHdr) : (State.newKey s h).hull = s.hull := by unfold State.newKey; (repeat' split) <;> simp [State.when]
@[simp] theorem hull_tickLate (s : State) (k : Nat) : (State.tickLate s k).hull = s.hull := by simp [State.tickLate]
@[simp] theorem hull_takeFrame (s : State) (f : TickFrame) (crcOk : Bool) : (State.takeFrame s f crcOk).hull = s.hull := by simp [State.takeFrame]
@[simp] theorem hull_leaveConflict (s : State) : (State.leaveConflict s).hull = s.hull := by simp [State.leaveConflict]
@[simp] theorem hull_slotCommand (s : State) (x : Slot) : (State.slotCommand s x).hull = s.hull := by simp [State.slotCommand]
@[simp] theorem hull_carrierRestart (s : State) (x : Slot) : (State.carrierRestart s x).hull = s.hull := by simp [State.carrierRestart]
@[simp] theorem hull_slotInForce (s : State) : (State.slotInForce s).hull = s.hull := by simp [State.slotInForce]
@[simp] theorem hull_slotNew (s : State) (h : TickHdr) (x : Slot) : (State.slotNew s h x).hull = s.hull := by simp [State.slotNew]
@[simp] theorem hull_slotHeld (s : State) : (State.slotHeld s).hull = s.hull := by simp [State.slotHeld]
@[simp] theorem hull_boundary (s : State) : (State.boundary s).hull = s.hull := by unfold State.boundary; simp only []; (repeat' split) <;> simp [State.when]
@[simp] theorem hull_hsWarnCheck (s : State) : (State.hsWarnCheck s).hull = s.hull := by simp [State.hsWarnCheck]
@[simp] theorem hull_tickBudget (s : State) (links : List (List Nat)) : (State.tickBudget s links).1.hull = s.hull := by simp [State.tickBudget]
@[simp] theorem hull_weirBudget (s : State) (links : List (List Nat)) (why : Nat) : (State.weirBudget s links why).1.hull = s.hull := by
  unfold State.weirBudget
  simp only []
  exact hull_foldl1 _ (fun a x => by (repeat' split) <;> simp) _ _
@[simp] theorem hull_takeoverBudget (s : State) (links : List (List Nat)) : (State.takeoverBudget s links).hull = s.hull := by unfold State.takeoverBudget; simp only []; (repeat' split) <;> simp [State.when]
@[simp] theorem hull_relayTelem (s : State) (port : Nat) (t : Telem) : (State.relayTelem s port t).hull = s.hull := by simp [State.relayTelem]
@[simp] theorem hull_discTelem (s : State) (t : Telem) : (State.discTelem s t).hull = s.hull := by simp [State.discTelem]
@[simp] theorem hull_takeTelem (s : State) (near : Bool) (t : Telem) : (State.takeTelem s near t).hull = s.hull := by simp [State.takeTelem]
@[simp] theorem hull_otherEpoch (s : State) (t : Telem) (e : Enr) : (State.otherEpoch s t e).hull = s.hull := by unfold State.otherEpoch; (repeat' split) <;> simp [State.when]
@[simp] theorem hull_telemRx (s : State) (port : Nat) (t : Telem) : (State.telemRx s port t).hull = s.hull := by unfold State.telemRx; simp only []; (repeat' split) <;> simp [State.when]
@[simp] theorem hull_markLost (s : State) (sp : Nat) : (State.markLost s sp).hull = s.hull := by simp [State.markLost]
@[simp] theorem hull_markBack (s : State) (sp : Nat) : (State.markBack s sp).hull = s.hull := by simp [State.markBack]
@[simp] theorem hull_demandOp (s : State) (q : Nat) (release : Bool) : (State.demandOp s q release).hull = s.hull := by
  unfold State.demandOp
  exact hull_op _ _ _ _ (fun s x => by (repeat' split) <;> simp)
@[simp] theorem hull_dropEntry (s : State) (slot : Nat) : (State.dropEntry s slot).hull = s.hull := by simp [State.dropEntry]
@[simp] theorem hull_endEntry (s : State) (slot : Nat) : (State.endEntry s slot).hull = s.hull := by unfold State.endEntry; (repeat' split) <;> simp [State.when]
@[simp] theorem hull_chainSample (s : State) (c : Nat) : (State.chainSample s c).hull = s.hull := by simp [State.chainSample]
@[simp] theorem hull_setRelay (s : State) (use : Bool) : (State.setRelay s use).hull = s.hull := by unfold State.setRelay; (repeat' split) <;> simp [State.when]
@[simp] theorem hull_farFollow (s : State) (c : Nat) : (State.farFollow s c).hull = s.hull := by unfold State.farFollow; simp only []; (repeat' split) <;> simp [State.when]
@[simp] theorem hull_chainBreaks (s : State) (c : Nat) : (State.chainBreaks s c).hull = s.hull := by simp [State.chainBreaks]
@[simp] theorem hull_chainRestore (s : State) (c : Nat) : (State.chainRestore s c).hull = s.hull := by simp [State.chainRestore]
@[simp] theorem hull_chainSwapped (s : State) (c : Nat) : (State.chainSwapped s c).hull = s.hull := by simp [State.chainSwapped]
@[simp] theorem hull_chainStep (s : State) (c : Nat) : (State.chainStep s c).hull = s.hull := by unfold State.chainStep; (repeat' split) <;> simp [State.when]
@[simp] theorem hull_chainLosses (s : State) (c : Nat) : (State.chainLosses s c).hull = s.hull := by simp [State.chainLosses]
@[simp] theorem hull_chainStage (s : State) (links : List (List Nat)) : (State.chainStage s links).hull = s.hull := by simp [State.chainStage]
@[simp] theorem hull_swapsEnd (s : State) : (State.swapsEnd s).hull = s.hull := by simp [State.swapsEnd]
@[simp] theorem hull_energiseRefuse (s : State) (x : Infl) (status : Nat) (reason : Nat) : (State.energiseRefuse s x status reason).hull = s.hull := by simp [State.energiseRefuse]
@[simp] theorem hull_energise (s : State) (x : Infl) (links : List (List Nat)) : (State.energise s x links).hull = s.hull := by unfold State.energise; simp only []; (repeat' split) <;> simp [State.when]
@[simp] theorem hull_resumeOk (s : State) : (State.resumeOk s).hull = s.hull := by simp [State.resumeOk]
@[simp] theorem hull_resumeTooHot (s : State) (x : Infl) : (State.resumeTooHot s x).hull = s.hull := by simp [State.resumeTooHot]
@[simp] theorem hull_resume (s : State) (x : Infl) : (State.resume s x).hull = s.hull := by simp [State.resume]
@[simp] theorem hull_buildSlots (s : State) (cmds : List CellCmd) : (State.buildSlots s cmds).1.hull = s.hull := by simp [State.buildSlots]
@[simp] theorem hull_holdCmds (s : State) (sp : Nat) (a : Nat) (l : List Infl) : (State.holdCmds s sp a l).hull = s.hull := by
  unfold State.holdCmds
  split
  · exact hull_foldl _ (fun s x => by (repeat' split) <;> simp) _ _
  · rfl
@[simp] theorem hull_carry (s : State) (x : Infl) (seq : Nat) (a : Nat) : (State.carry s x seq a).hull = s.hull := by unfold State.carry; (repeat' split) <;> simp [State.when]
@[simp] theorem hull_fillSlot (s : State) (a : Nat) (x : MySlot) : (State.fillSlot s a x).1.hull = s.hull := by unfold State.fillSlot; simp only []; (repeat' split) <;> simp [State.when]
@[simp] theorem hull_fillSlots (s : State) (a : Nat) (l : List MySlot) : (State.fillSlots s a l).1.hull = s.hull := by
  unfold State.fillSlots
  exact hull_foldl1 _ (fun a x => by simp) _ _
@[simp] theorem hull_sendTicks (s : State) (a : Nat) (l : List MySlot) : (State.sendTicks s a l).hull = s.hull := by
  unfold State.sendTicks
  simp only []
  split
  · exact (hull_foldl _ (fun s x => by split <;> simp) _ _).trans
      (hull_foldl _ (fun s c => (hull_foldl _ (fun s d => by split <;> simp) _ _).trans (by split <;> simp)) _ _)
  · exact hull_foldl _ (fun s c => (hull_foldl _ (fun s d => by split <;> simp) _ _).trans (by split <;> simp)) _ _
@[simp] theorem hull_releaseStage (s : State) : (State.releaseStage s).hull = s.hull := by simp [State.releaseStage]
@[simp] theorem hull_dispatch (s : State) (l : List MySlot) : (State.dispatch s l).hull = s.hull := by simp [State.dispatch]
@[simp] theorem hull_farReport (s : State) (k : Nat) : (State.farReport s k).hull = s.hull := by simp [State.farReport]
@[simp] theorem hull_swapDue (s : State) (x : Infl) (k : Nat) : (State.swapDue s x k).hull = s.hull := by unfold State.swapDue; (repeat' split) <;> simp [State.when]
@[simp] theorem hull_boundaryOps (s : State) (k : Nat) : (State.boundaryOps s k).hull = s.hull := by simp [State.boundaryOps]
@[simp] theorem hull_setRef (s : State) (id : Nat) (v : Int) : (State.setRef s id v).hull = s.hull := by simp [State.setRef]
@[simp] theorem hull_sampleDemand (s : State) (x : Infl) (a : Nat) : (State.sampleDemand s x a).hull = s.hull := by simp [State.sampleDemand]
@[simp] theorem hull_sampleEnergise (s : State) (x : Infl) (a : Nat) : (State.sampleEnergise s x a).hull = s.hull := by simp [State.sampleEnergise]
@[simp] theorem hull_sampleOne (a : Nat) (s : State) (x : Infl) : (State.sampleOne a s x).hull = s.hull := by simp [State.sampleOne]
@[simp] theorem hull_sampleQueue (s : State) (a : Nat) : (State.sampleQueue s a).hull = s.hull := by simp [State.sampleQueue]
@[simp] theorem hull_openTick (s : State) (n : TickNext) : (State.openTick s n).hull = s.hull := by simp [State.openTick]
@[simp] theorem hull_followState (s : State) (k : Nat) : (State.followState s k).hull = s.hull := by unfold State.followState; (repeat' split) <;> simp [State.when]
@[simp] theorem hull_gatherStart (s : State) (n : TickNext) : (State.gatherStart s n).hull = s.hull := by simp [State.gatherStart]
@[simp] theorem hull_dieOf (s : State) (t : Telem) : (State.dieOf s t).hull = s.hull := by simp [State.dieOf]
@[simp] theorem hull_sprHeard (s : State) (sp : Nat) (t : Telem) : (State.sprHeard s sp t).hull = s.hull := by simp [State.sprHeard]
@[simp] theorem hull_sprStale (s : State) (sp : Nat) : (State.sprStale s sp).hull = s.hull := by simp [State.sprStale]
@[simp] theorem hull_measureTelem (s : State) : (State.measureTelem s).hull = s.hull := by
  unfold State.measureTelem
  simp only [hull_thrEval, hull_hotSpr]
  refine (hull_foldl _ (fun s x => by split <;> simp) _ _).trans ?_
  simp
@[simp] theorem hull_classify (s : State) (x : Infl) : (State.classify s x).hull = s.hull := by unfold State.classify; (repeat' split) <;> simp [State.when]
@[simp] theorem hull_classifyAll (s : State) : (State.classifyAll s).hull = s.hull := by simp [State.classifyAll]
@[simp] theorem hull_basinSteps (s : State) : (State.basinSteps s).hull = s.hull := by simp [State.basinSteps]
@[simp] theorem hull_becomeReady (s : State) : (State.becomeReady s).hull = s.hull := by simp [State.becomeReady]
@[simp] theorem hull_resumes (s : State) (hw : Nat) : (State.resumes s hw).hull = s.hull := by simp [State.resumes]
@[simp] theorem hull_stateStep (s : State) : (State.stateStep s).hull = s.hull := by
  unfold State.stateStep
  simp only []
  (repeat' split) <;> simp
@[simp] theorem hull_moveRefs (s : State) : (State.moveRefs s).hull = s.hull := by simp [State.moveRefs]
@[simp] theorem hull_runCtrl (s : State) (i : Nat) : (State.runCtrl s i).hull = s.hull := by simp [State.runCtrl]
@[simp] theorem hull_runCtrls (s : State) : (State.runCtrls s).hull = s.hull := by simp [State.runCtrls]
@[simp] theorem hull_statusGaps (s : State) : (State.statusGaps s).hull = s.hull := by simp [State.statusGaps]
@[simp] theorem hull_unhold (s : State) (x : Infl) : (State.unhold s x).hull = s.hull := by unfold State.unhold; (repeat' split) <;> simp [State.when]
@[simp] theorem hull_dispatchStage (s : State) (l : List MySlot) : (State.dispatchStage s l).hull = s.hull := by simp [State.dispatchStage]
@[simp] theorem hull_afterMeasure (s : State) : (State.afterMeasure s).1.hull = s.hull := by simp [State.afterMeasure]
@[simp] theorem hull_activePipe (s : State) (links : List (List Nat)) : (State.activePipe s links).hull = s.hull := by simp [State.activePipe]
@[simp] theorem hull_compareNow (s : State) (f : TickFrame) : (State.compareNow s f).hull = s.hull := by unfold State.compareNow; simp only []; (repeat' split) <;> simp [State.when]
@[simp] theorem hull_compare (s : State) (f : TickFrame) : (State.compare s f).hull = s.hull := by
  unfold State.compare
  (repeat' split) <;> simp
@[simp] theorem hull_compareEarly (s : State) : (State.compareEarly s).hull = s.hull := by simp [State.compareEarly]
@[simp] theorem hull_syncCount (s : State) : (State.syncCount s).hull = s.hull := by simp [State.syncCount]
@[simp] theorem hull_shadowPipe (s : State) : (State.shadowPipe s).hull = s.hull := by simp [State.shadowPipe]
@[simp] theorem hull_seeSeqs (s : State) (f : TickFrame) : (State.seeSeqs s f).hull = s.hull := by simp [State.seeSeqs]
@[simp] theorem hull_headerReleases (s : State) (h : TickHdr) : (State.headerReleases s h).hull = s.hull := by simp [State.headerReleases]
@[simp] theorem hull_keepHeader (s : State) (h : TickHdr) : (State.keepHeader s h).hull = s.hull := by simp [State.keepHeader]
@[simp] theorem hull_heartbeat (s : State) (h : TickHdr) : (State.heartbeat s h).hull = s.hull := by simp [State.heartbeat]
@[simp] theorem hull_farSeen (s : State) (h : TickHdr) : (State.farSeen s h).hull = s.hull := by simp [State.farSeen]
@[simp] theorem hull_standbyFrame (s : State) (port : Nat) (f : TickFrame) : (State.standbyFrame s port f).hull = s.hull := by simp [State.standbyFrame]
@[simp] theorem hull_relayTick (s : State) (port : Nat) (f : TickFrame) : (State.relayTick s port f).hull = s.hull := by simp [State.relayTick]
@[simp] theorem hull_peerFrame (s : State) (port : Nat) (f : TickFrame) (crcOk : Bool) : (State.peerFrame s port f crcOk).hull = s.hull := by simp [State.peerFrame]
@[simp] theorem hull_ownFrame (s : State) (port : Nat) (f : TickFrame) : (State.ownFrame s port f).hull = s.hull := by simp [State.ownFrame]
@[simp] theorem hull_thirdMiss (s : State) : (State.thirdMiss s).hull = s.hull := by simp [State.thirdMiss]

end Sys2Proof.Machine
end

