-- ==== Sys2Proof/Laws/Host.lean ====
section
/-! SUPPORT. Host.lean: what deciding a descriptor's outcome does, and how a row of an opcode reaches its descriptor. -/
set_option Elab.async false
namespace Sys2Proof.Machine

/-- A fetched descriptor of a row: what the row does to it, confined. -/
theorem goesTo_op {s : State} {dt q oc : Nat} {x : Infl} {f : State → Infl → State} {p : State → Prop} (h : s.Ready q oc x)
    (hp : p (s.confine (f (State.advance dt s) x))) : GoesTo (onBasin s fun s => (s.advance dt).op q oc f) p := by
  obtain ⟨h1, h2, h3, -, -⟩ := h
  refine goesTo_basin h1 h2 ?_
  have : (State.advance dt s).host.infl = s.host.infl := rfl
  simp only [State.op, this, h3]
  exact hp

theorem ready_fetched {s : State} {q oc : Nat} {x : Infl} (h : s.Ready q oc x) : x.phase = .fetched ∧ x.sq = q ∧ x.d.opcode = oc := by
  have := List.find?_some h.2.2.1
  simp only [Bool.and_eq_true, beq_iff_eq] at this
  exact ⟨this.2, this.1.1, this.1.2⟩

theorem State.assertSrc_infl (s : State) (n : Nat) : (s.assertSrc n).host.infl = s.host.infl := by
  unfold State.assertSrc
  have h : ∀ (u : State) (v : Nat), (u.vectorDue v).host.infl = u.host.infl := by intro u v; unfold State.vectorDue; split <;> rfl
  simp only []
  split
  · rw [h, State.hwSet_host]
  · rw [State.hwSet_host]

theorem State.cqCheck_infl (s : State) (q : Nat) : (s.cqCheck q).host.infl = s.host.infl := by
  unfold State.cqCheck State.pairException
  simp only []
  split
  · rw [State.raise_host, State.assertSrc_infl]; rfl
  · rfl

theorem State.assertSrc_regs (s : State) (n : Nat) (l : List Nat) (h : (F.HIF_EVT_STAT.PEND (n / 32)).off ∈ l) : s.RegsBut l (s.assertSrc n) := by
  have hv : ∀ (u : State) (v : Nat), u.RegsBut l (u.vectorDue v) := by
    intro u v; unfold State.vectorDue; split
    · exact regsBut_same _ _
    · exact regsBut_hidden _ rfl rfl rfl
  unfold State.assertSrc
  simp only []
  have hb : s.RegsBut l (s.hwSet (F.HIF_EVT_STAT.PEND (n / 32)) (n % 32)) := regsBut_hwSet _ _ _ _ h
  split
  · exact regsBut_trans hb (hv _ _)
  · exact hb

theorem State.cqCheck_regs (s : State) (q : Nat) (h : q < 16) : s.RegsBut (cplRegs q) (s.cqCheck q) := by
  unfold State.cqCheck State.pairException
  simp only []
  split
  · refine regsBut_trans (regsBut_trans (regsBut_set _ _ _ _ (by simp [cplRegs])) (State.assertSrc_regs _ _ _ ?_)) (regsBut_raise _ _ _ _ ?_)
    · have : (16 + q) / 32 = 0 := by omega
      simp [cplRegs, this]
    · intro o ho; simp [cplRegs, ho]
  · exact regsBut_same _ _

/-- The in-flight descriptor changed by number, found again. -/
theorem State.inflAt_modInfl {s : State} {id : Nat} {x : Infl} {f : Infl → Infl} (h : s.inflAt id = some x) (hf : ∀ y, (f y).id = y.id) :
    (s.modInfl id f).inflAt id = some (f x) := by
  unfold State.inflAt State.modInfl at *
  simp only []
  revert h
  induction s.host.infl with
  | nil => intro h; simp at h
  | cons a l ih =>
    intro h
    simp only [List.map_cons, List.find?_cons] at h ⊢
    by_cases e : a.id = id
    · simp only [e, beq_self_eq_true, Option.some.injEq, if_true, hf] at h ⊢
      rw [h]
    · have : (a.id == id) = false := by simp [e]
      simp only [this, Bool.false_eq_true, if_false] at h ⊢
      exact ih h

theorem State.inflAt_congr {s t : State} (h : t.host.infl = s.host.infl) (id : Nat) : t.inflAt id = s.inflAt id := by unfold State.inflAt; rw [h]

/-- A decision is the completion R333 writes later, and touches no register but those of a full CQ. -/
theorem settle_ended {s : State} {x : Infl} {id : Nat} (st rs re fr tk : Nat) (h : s.inflAt id = some x) (hd : x.phase.isDone = false) (hq : x.q < 16) :
    (s.settle id st rs re fr tk).Ended id st rs re ∧ s.RegsBut (cplRegs x.q) (s.settle id st rs re fr tk) := by
  unfold State.settle
  have hn : ¬ 16 ≤ x.q := by omega
  simp only [h, hd, Bool.false_eq_true, if_false, hn]
  refine ⟨⟨{ x with phase := .done ⟨st, fr, tk, s.stamp, rs, re⟩ }, ⟨st, fr, tk, s.stamp, rs, re⟩, ?_, rfl, rfl, rfl, rfl⟩, ?_⟩
  · rw [State.inflAt_congr (State.cqCheck_infl _ _), State.setPhase]
    exact State.inflAt_modInfl (f := fun y => { y with phase := .done ⟨st, fr, tk, s.stamp, rs, re⟩ }) h (fun _ => rfl)
  · refine regsBut_trans (regsBut_hidden _ rfl rfl rfl) (State.cqCheck_regs _ _ hq)

/-- The same through a change of other state. -/
theorem settle_ends {s u : State} {x : Infl} {id : Nat} (st rs re fr tk : Nat) (h : s.inflAt id = some x) (hu : u.host.infl = s.host.infl) (hd : x.phase.isDone = false) (hq : x.q < 16) :
    (u.settle id st rs re fr tk).Ended id st rs re ∧ u.RegsBut (cplRegs x.q) (u.settle id st rs re fr tk) :=
  settle_ended st rs re fr tk ((State.inflAt_congr hu id).trans h) hd hq

/-- What deciding an outcome may touch beside registers and the recorder: the descriptors in flight and the vectors that are due. -/
theorem settle_touch (s : State) (id st rs re fr tk : Nat) : ∃ (r : List (Nat × Word)) (w : W1cSt) (rc : RecSt) (i : List Infl) (v : List Nat),
    s.settle id st rs re fr tk = { s with regs := r, w1c := w, recd := rc, host := { s.host with infl := i, vecDue := v } } := by
  have hv : ∀ (u : State) (n : Nat), ∃ v, u.vectorDue n = { u with host := { u.host with vecDue := v } } := by
    intro u n; unfold State.vectorDue; split
    · exact ⟨_, rfl⟩
    · exact ⟨_, rfl⟩
  have ha : ∀ (u : State) (n : Nat), ∃ r w v, u.assertSrc n = { u with regs := r, w1c := w, host := { u.host with vecDue := v } } := by
    intro u n; unfold State.assertSrc; simp only []; split
    · obtain ⟨v, e⟩ := hv (u.hwSet (F.HIF_EVT_STAT.PEND (n / 32)) (n % 32)) ((u.hwSet (F.HIF_EVT_STAT.PEND (n / 32)) (n % 32)).get (evtVec n))
      exact ⟨_, _, v, e⟩
    · exact ⟨_, _, _, rfl⟩
  have hc : ∀ (u : State) (q : Nat), ∃ r w rc v, u.cqCheck q = { u with regs := r, w1c := w, recd := rc, host := { u.host with vecDue := v } } := by
    intro u q; unfold State.cqCheck State.pairException; simp only []; split
    · obtain ⟨r, w, v, e⟩ := ha (u.set (F.HIF_QP_STAT.CQ_FULL q) 1) (16 + q)
      rw [e]
      exact ⟨_, _, _, v, Eq.trans (State.recorded_raise _ _ _) rfl⟩
    · exact ⟨_, _, _, _, rfl⟩
  unfold State.settle
  split
  · exact ⟨_, _, _, _, _, rfl⟩
  · split
    · exact ⟨_, _, _, _, _, rfl⟩
    · split
      · exact ⟨_, _, _, _, _, rfl⟩
      · rename_i x _ _ _
        obtain ⟨r, w, rc, v, e⟩ := hc (s.setPhase id (.done ⟨st, fr, tk, s.stamp, rs, re⟩)) x.q
        rw [e]
        exact ⟨r, w, rc, _, v, rfl⟩

theorem settle_out (s : State) (id st rs re fr tk : Nat) : (s.settle id st rs re fr tk).out = s.out ∧ (s.settle id st rs re fr tk).nor = s.nor := by
  obtain ⟨r, w, rc, i, v, e⟩ := settle_touch s id st rs re fr tk
  rw [e]
  exact ⟨rfl, rfl⟩
theorem settle_fences (s : State) (id st rs re fr tk : Nat) : (s.settle id st rs re fr tk).host.fences = s.host.fences := by
  obtain ⟨r, w, rc, i, v, e⟩ := settle_touch s id st rs re fr tk
  rw [e]

/-- A run of one event raised: registers and recorder alone. -/
theorem raises_facts {α : Type} (g : α → List Nat) (code : Nat) (o : List Nat) (ho : ∀ x ∈ recCounters, x ∈ o) (l : List α) : ∀ s : State,
    s.Recorded (l.foldl (fun (s : State) (f : α) => s.raise code (g f)) s) ∧ s.RegsBut o (l.foldl (fun (s : State) (f : α) => s.raise code (g f)) s) := by
  induction l with
  | nil => exact fun s => ⟨.same _, regsBut_same _ _⟩
  | cons a l ih =>
    intro s
    obtain ⟨h1, h2⟩ := ih (s.raise code (g a))
    exact ⟨(State.recorded_raise s code (g a)).trans h1, regsBut_trans (regsBut_raise _ _ _ _ ho) h2⟩

theorem cplRegs_rec (q : Nat) : ∀ o ∈ recCounters, o ∈ cplRegs q := by intro o h; simp [cplRegs, h]
theorem advance_regs (s : State) (dt : Nat) (l : List Nat) : s.RegsBut l (State.advance dt s) := regsBut_hidden _ rfl rfl rfl

theorem Phase.fetched_open {x : Infl} (h : x.phase = .fetched) : x.phase.isDone = false := by rw [h]; rfl

end Sys2Proof.Machine
end

