-- ==== Sys2Proof/Laws/PerInstr.lean ====
section
/-! SUPPORT. PerInstr.lean: per command, that a well-formed command of its kind exists, so that no check of WellFormed shuts a row of the table out. -/
set_option Elab.async false
namespace Sys2Proof.Laws

def desc0 : Desc := ⟨0, 0, 0, 0, 0, 0, 0, List.replicate 40 0⟩
def mgmt0 : Mgmt := { relayed := false, addr := 0, src := 0, op := 0, mseq := 0, chain := 0, hop := 0, param := 0, payload := [] }
def slot0 : Slot := ⟨0, 0, 0, 0, 0, false, false, 0, 0, 0, List.replicate 14 0⟩
def tick0 : TickFrame := ⟨0, false, ⟨1, 0, 0, 0, 1, 0, .a, false, false, 0, 0, 0, 0, 0, false⟩, [slot0]⟩
def telem0 : Telem :=
  ⟨0, 1, 0, false, false, false, false, false, false, false, false, 0, 0, 0, 0, 0, 0, 0, 0, 0, 0, 0, 0, 0, 0, 0, 0, 0, 0, 0, 0, 0, 0, 0, 0, 0, 0, 0, 0, 0, 0, 0, 0, 0, [0, 0, 0, 0], false⟩

/-- A well-formed command of the same row as a command exists. -/
def Occurs.Statement (i : Instr) : Prop := ∃ j : Instr, j.ctorIdx = i.ctorIdx ∧ j.wf = true

theorem Occurs.porstNAssert : Occurs.Statement (.porstNAssert) := ⟨.porstNAssert, rfl, by decide⟩
theorem Occurs.porstNRelease (b : BootIn) : Occurs.Statement (.porstNRelease b) := ⟨.porstNRelease ⟨.basin, .a, 0, .absent, .absent, false⟩, rfl, by decide⟩
theorem Occurs.hostWaitExpiry (dt : Nat) : Occurs.Statement (.hostWaitExpiry dt) := ⟨.hostWaitExpiry 0, rfl, by decide⟩
theorem Occurs.brownOut (rail : Fin 6) : Occurs.Statement (.brownOut rail) := ⟨.brownOut 0, rfl, by decide⟩
theorem Occurs.aonPowerOn : Occurs.Statement (.aonPowerOn) := ⟨.aonPowerOn, rfl, by decide⟩
theorem Occurs.resetNAssert (dt : Nat) : Occurs.Statement (.resetNAssert dt) := ⟨.resetNAssert 0, rfl, by decide⟩
theorem Occurs.resetNRelease (dt : Nat) : Occurs.Statement (.resetNRelease dt) := ⟨.resetNRelease 0, rfl, by decide⟩
theorem Occurs.resetStuck (dt : Nat) : Occurs.Statement (.resetStuck dt) := ⟨.resetStuck 0, rfl, by decide⟩
theorem Occurs.resetReleased (dt : Nat) : Occurs.Statement (.resetReleased dt) := ⟨.resetReleased 0, rfl, by decide⟩
theorem Occurs.softwareReset (v : Word) : Occurs.Statement (.softwareReset v) := ⟨.softwareReset 0#32, rfl, by decide⟩
theorem Occurs.registerWrite (dt : Nat) (off : Nat) (len : Nat) (ws : List Word) (w : WrIn) : Occurs.Statement (.registerWrite dt off len ws w) := ⟨.registerWrite 0 0 0 [] {}, rfl, by decide⟩
theorem Occurs.gatherStart (dt : Nat) : Occurs.Statement (.gatherStart dt) := ⟨.gatherStart 0, rfl, by decide⟩
theorem Occurs.gatherDeadline (dt : Nat) (grid : GridIn) : Occurs.Statement (.gatherDeadline dt grid) := ⟨.gatherDeadline 0 {}, rfl, by decide⟩
theorem Occurs.cellLost (dt : Nat) (sp : Fin 192) : Occurs.Statement (.cellLost dt sp) := ⟨.cellLost 0 0, rfl, by decide⟩
theorem Occurs.cellReturned (dt : Nat) (sp : Fin 192) : Occurs.Statement (.cellReturned dt sp) := ⟨.cellReturned 0 0, rfl, by decide⟩
theorem Occurs.demandHoldExpiry (dt : Nat) (slot : Fin 64) : Occurs.Statement (.demandHoldExpiry dt slot) := ⟨.demandHoldExpiry 0 0, rfl, by decide⟩
theorem Occurs.demandDurationEnd (dt : Nat) (slot : Fin 64) : Occurs.Statement (.demandDurationEnd dt slot) := ⟨.demandDurationEnd 0 0, rfl, by decide⟩
theorem Occurs.spareInsertFail (dt : Nat) (arm : Fin 12) (spare : Fin 192) : Occurs.Statement (.spareInsertFail dt arm spare) := ⟨.spareInsertFail 0 0 0, rfl, by decide⟩
theorem Occurs.throttleGraceExpiry (dt : Nat) : Occurs.Statement (.throttleGraceExpiry dt) := ⟨.throttleGraceExpiry 0, rfl, by decide⟩
theorem Occurs.telemLatch (dt : Nat) : Occurs.Statement (.telemLatch dt) := ⟨.telemLatch 0, rfl, by decide⟩
theorem Occurs.telemSend (dt : Nat) : Occurs.Statement (.telemSend dt) := ⟨.telemSend 0, rfl, by decide⟩
theorem Occurs.telemRx (dt : Nat) (port : Fin 12) (bs : List Block) : Occurs.Statement (.telemRx dt port bs) := ⟨.telemRx 0 0 [], rfl, by decide⟩
theorem Occurs.tickRx (dt : Nat) (port : Fin 2) (bs : List Block) : Occurs.Statement (.tickRx dt port bs) := ⟨.tickRx 0 0 [], rfl, by decide⟩
theorem Occurs.slotDeadline (dt : Nat) : Occurs.Statement (.slotDeadline dt) := ⟨.slotDeadline 0, rfl, by decide⟩
theorem Occurs.slotApply (dt : Nat) : Occurs.Statement (.slotApply dt) := ⟨.slotApply 0, rfl, by decide⟩
theorem Occurs.tickLoss (dt : Nat) : Occurs.Statement (.tickLoss dt) := ⟨.tickLoss 0, rfl, by decide⟩
theorem Occurs.dabPeriod (dt : Nat) : Occurs.Statement (.dabPeriod dt) := ⟨.dabPeriod 0, rfl, by decide⟩
theorem Occurs.clear (desat : Nat) : Occurs.Statement (.clear desat) := ⟨.clear 0, rfl, by decide⟩
theorem Occurs.bypOpen : Occurs.Statement (.bypOpen) := ⟨.bypOpen, rfl, by decide⟩
theorem Occurs.bypClose : Occurs.Statement (.bypClose) := ⟨.bypClose, rfl, by decide⟩
theorem Occurs.packClose : Occurs.Statement (.packClose) := ⟨.packClose, rfl, by decide⟩
theorem Occurs.packOpen : Occurs.Statement (.packOpen) := ⟨.packOpen, rfl, by decide⟩
theorem Occurs.bypFbChange (dt : Nat) (level : Bool) : Occurs.Statement (.bypFbChange dt level) := ⟨.bypFbChange 0 false, rfl, by decide⟩
theorem Occurs.bypOpenFail (dt : Nat) : Occurs.Statement (.bypOpenFail dt) := ⟨.bypOpenFail 0, rfl, by decide⟩
theorem Occurs.bypCloseFail (dt : Nat) : Occurs.Statement (.bypCloseFail dt) := ⟨.bypCloseFail 0, rfl, by decide⟩
theorem Occurs.packFbChange (dt : Nat) (level : Bool) : Occurs.Statement (.packFbChange dt level) := ⟨.packFbChange 0 false, rfl, by decide⟩
theorem Occurs.packFail (dt : Nat) : Occurs.Statement (.packFail dt) := ⟨.packFail 0, rfl, by decide⟩
theorem Occurs.winExit (dt : Nat) (j : Fin 32) (v : Int) (sub : Fin 8) : Occurs.Statement (.winExit dt j v sub) := ⟨.winExit 0 0 0 0, rfl, by decide⟩
theorem Occurs.winReturn (j : Fin 32) (v : Int) : Occurs.Statement (.winReturn j v) := ⟨.winReturn 0 0, rfl, by decide⟩
theorem Occurs.desatFault (dt : Nat) (n : Fin 6) (hi : Bool) (desat : Nat) (sub : Fin 8) : Occurs.Statement (.desatFault dt n hi desat sub) := ⟨.desatFault 0 0 false 0 0, rfl, by decide⟩
theorem Occurs.readyLoss (dt : Nat) (n : Fin 6) (hi : Bool) (sub : Fin 8) : Occurs.Statement (.readyLoss dt n hi sub) := ⟨.readyLoss 0 0 false 0, rfl, by decide⟩
theorem Occurs.readyTimeout (dt : Nat) (n : Fin 6) : Occurs.Statement (.readyTimeout dt n) := ⟨.readyTimeout 0 0, rfl, by decide⟩
theorem Occurs.multiTripWindow (dt : Nat) : Occurs.Statement (.multiTripWindow dt) := ⟨.multiTripWindow 0, rfl, by decide⟩
theorem Occurs.softTurnOff (dt : Nat) (n : Fin 6) : Occurs.Statement (.softTurnOff dt n) := ⟨.softTurnOff 0 0, rfl, by decide⟩
theorem Occurs.ssdRelease (dt : Nat) (n : Fin 6) : Occurs.Statement (.ssdRelease dt n) := ⟨.ssdRelease 0 0, rfl, by decide⟩
theorem Occurs.resumeTest (dt : Nat) (n : Fin 6) (hi : Bool) (desat : Nat) : Occurs.Statement (.resumeTest dt n hi desat) := ⟨.resumeTest 0 0 false 0, rfl, by decide⟩
theorem Occurs.retryExpiry (dt : Nat) (n : Fin 6) : Occurs.Statement (.retryExpiry dt n) := ⟨.retryExpiry 0 0, rfl, by decide⟩
theorem Occurs.conflict (dt : Nat) (n : Fin 6) (sub : Fin 8) : Occurs.Statement (.conflict dt n sub) := ⟨.conflict 0 0 0, rfl, by decide⟩
theorem Occurs.gateTestGo (v : Word) : Occurs.Statement (.gateTestGo v) := ⟨.gateTestGo 0#32, rfl, by decide⟩
theorem Occurs.testPulseProgrammeEnd (dt : Nat) : Occurs.Statement (.testPulseProgrammeEnd dt) := ⟨.testPulseProgrammeEnd 0, rfl, by decide⟩
theorem Occurs.ocpTrip (dt : Nat) (a : Fin 3) (b : Fin 3) (c : Fin 3) : Occurs.Statement (.ocpTrip dt a b c) := ⟨.ocpTrip 0 0 0 0, rfl, by decide⟩
theorem Occurs.weirRxSpring (dt : Nat) (port : Fin 2) (v : Nat) : Occurs.Statement (.weirRxSpring dt port v) := ⟨.weirRxSpring 0 0 0, rfl, by decide⟩
theorem Occurs.weirRxBasin (dt : Nat) (port : Fin 12) (v : Nat) : Occurs.Statement (.weirRxBasin dt port v) := ⟨.weirRxBasin 0 0 0, rfl, by decide⟩
theorem Occurs.weirHoldMax (dt : Nat) (arm : Fin 12) : Occurs.Statement (.weirHoldMax dt arm) := ⟨.weirHoldMax 0 0, rfl, by decide⟩
theorem Occurs.weirMemoryExpiry (dt : Nat) : Occurs.Statement (.weirMemoryExpiry dt) := ⟨.weirMemoryExpiry 0, rfl, by decide⟩
theorem Occurs.weirRel (v : Word) : Occurs.Statement (.weirRel v) := ⟨.weirRel 0#32, rfl, by decide⟩
theorem Occurs.adcTrigger (dt : Nat) (n : Fin 4) (src : Nat) (vs : List Int) : Occurs.Statement (.adcTrigger dt n src vs) := ⟨.adcTrigger 0 0 0 [], rfl, by decide⟩
theorem Occurs.adcSwtrig (n : Fin 4) (vs : List Int) : Occurs.Statement (.adcSwtrig n vs) := ⟨.adcSwtrig 0 [], rfl, by decide⟩
theorem Occurs.adcDelayEnd (dt : Nat) (n : Fin 4) : Occurs.Statement (.adcDelayEnd dt n) := ⟨.adcDelayEnd 0 0, rfl, by decide⟩
theorem Occurs.adcEntryDone (dt : Nat) (n : Fin 4) (convs : List (Int × Int)) : Occurs.Statement (.adcEntryDone dt n convs) := ⟨.adcEntryDone 0 0 [], rfl, by decide⟩
theorem Occurs.adcRunEnd (dt : Nat) (n : Fin 4) (vs : List (List Int)) : Occurs.Statement (.adcRunEnd dt n vs) := ⟨.adcRunEnd 0 0 [], rfl, by decide⟩
theorem Occurs.selfCalDone (dt : Nat) (n : Fin 4) (offset : Int) (gains : List Nat) (lins : List Int) : Occurs.Statement (.selfCalDone dt n offset gains lins) := ⟨.selfCalDone 0 0 0 [] [], rfl, by decide⟩
theorem Occurs.syscalMeasureDone (dt : Nat) (n : Fin 4) (convs : List (Int × Int)) : Occurs.Statement (.syscalMeasureDone dt n convs) := ⟨.syscalMeasureDone 0 0 [], rfl, by decide⟩
theorem Occurs.prechgFail (dt : Nat) : Occurs.Statement (.prechgFail dt) := ⟨.prechgFail 0, rfl, by decide⟩
theorem Occurs.sensorConversion (dt : Nat) (t0 : Int) (t1 : Int) (t2 : Int) (t3 : Int) (t4 : Int) : Occurs.Statement (.sensorConversion dt t0 t1 t2 t3 t4) := ⟨.sensorConversion 0 0 0 0 0 0, rfl, by decide⟩
theorem Occurs.nop (dt : Nat) (q : Fin 16) : Occurs.Statement (.nop dt q) := ⟨.nop 0 0, rfl, by decide⟩
theorem Occurs.setRef (dt : Nat) (q : Fin 16) : Occurs.Statement (.setRef dt q) := ⟨.setRef 0 0, rfl, by decide⟩
theorem Occurs.setDemand (dt : Nat) (q : Fin 16) : Occurs.Statement (.setDemand dt q) := ⟨.setDemand 0 0, rfl, by decide⟩
theorem Occurs.demandRelease (dt : Nat) (q : Fin 16) : Occurs.Statement (.demandRelease dt q) := ⟨.demandRelease 0 0, rfl, by decide⟩
theorem Occurs.springCmd (dt : Nat) (q : Fin 16) : Occurs.Statement (.springCmd dt q) := ⟨.springCmd 0 0, rfl, by decide⟩
theorem Occurs.tableLoad (dt : Nat) (q : Fin 16) (buf : HostBuf) : Occurs.Statement (.tableLoad dt q buf) := ⟨.tableLoad 0 0 (.words []), rfl, by decide⟩
theorem Occurs.tableLoadDone (dt : Nat) (q : Fin 16) : Occurs.Statement (.tableLoadDone dt q) := ⟨.tableLoadDone 0 0, rfl, by decide⟩
theorem Occurs.tableSwap (dt : Nat) (q : Fin 16) : Occurs.Statement (.tableSwap dt q) := ⟨.tableSwap 0 0, rfl, by decide⟩
theorem Occurs.remoteRead (dt : Nat) (q : Fin 16) : Occurs.Statement (.remoteRead dt q) := ⟨.remoteRead 0 0, rfl, by decide⟩
theorem Occurs.remoteWrite (dt : Nat) (q : Fin 16) (buf : HostBuf) : Occurs.Statement (.remoteWrite dt q buf) := ⟨.remoteWrite 0 0 (.words []), rfl, by decide⟩
theorem Occurs.fenceClear (dt : Nat) (q : Fin 16) : Occurs.Statement (.fenceClear dt q) := ⟨.fenceClear 0 0, rfl, by decide⟩
theorem Occurs.logFreeze (dt : Nat) (q : Fin 16) : Occurs.Statement (.logFreeze dt q) := ⟨.logFreeze 0 0, rfl, by decide⟩
theorem Occurs.logRead (dt : Nat) (q : Fin 16) (bad : List (Nat × Nat × Nat)) : Occurs.Statement (.logRead dt q bad) := ⟨.logRead 0 0 [], rfl, by decide⟩
theorem Occurs.logThaw (dt : Nat) (q : Fin 16) : Occurs.Statement (.logThaw dt q) := ⟨.logThaw 0 0, rfl, by decide⟩
theorem Occurs.ledgerRead (dt : Nat) (q : Fin 16) : Occurs.Statement (.ledgerRead dt q) := ⟨.ledgerRead 0 0, rfl, by decide⟩
theorem Occurs.timeSet (dt : Nat) (q : Fin 16) : Occurs.Statement (.timeSet dt q) := ⟨.timeSet 0 0, rfl, by decide⟩
theorem Occurs.timeOffset (dt : Nat) (q : Fin 16) : Occurs.Statement (.timeOffset dt q) := ⟨.timeOffset 0 0, rfl, by decide⟩
theorem Occurs.calRun (dt : Nat) (q : Fin 16) (ans : Option RemoteAns) (mask : Fin 16) : Occurs.Statement (.calRun dt q ans mask) := ⟨.calRun 0 0 none 0, rfl, by decide⟩
theorem Occurs.syscalZero (dt : Nat) (q : Fin 16) (ans : Option RemoteAns) (p : List Nat) : Occurs.Statement (.syscalZero dt q ans p) := ⟨.syscalZero 0 0 none [], rfl, by decide⟩
theorem Occurs.syscalFull (dt : Nat) (q : Fin 16) (ans : Option RemoteAns) (p : List Nat) : Occurs.Statement (.syscalFull dt q ans p) := ⟨.syscalFull 0 0 none [], rfl, by decide⟩
theorem Occurs.syscalClear (dt : Nat) (q : Fin 16) (ans : Option RemoteAns) (p : List Nat) : Occurs.Statement (.syscalClear dt q ans p) := ⟨.syscalClear 0 0 none [], rfl, by decide⟩
theorem Occurs.safetyUnlock (dt : Nat) (q : Fin 16) : Occurs.Statement (.safetyUnlock dt q) := ⟨.safetyUnlock 0 0, rfl, by decide⟩
theorem Occurs.safetyCfg (dt : Nat) (q : Fin 16) (buf : HostBuf) : Occurs.Statement (.safetyCfg dt q buf) := ⟨.safetyCfg 0 0 (.words []), rfl, by decide⟩
theorem Occurs.streamBuf (dt : Nat) (q : Fin 16) : Occurs.Statement (.streamBuf dt q) := ⟨.streamBuf 0 0, rfl, by decide⟩
theorem Occurs.streamFlush (dt : Nat) (q : Fin 16) : Occurs.Statement (.streamFlush dt q) := ⟨.streamFlush 0 0, rfl, by decide⟩
theorem Occurs.energise (dt : Nat) (q : Fin 16) (links : List (List Nat)) : Occurs.Statement (.energise dt q links) := ⟨.energise 0 0 [], rfl, by decide⟩
theorem Occurs.deenergise (dt : Nat) (q : Fin 16) : Occurs.Statement (.deenergise dt q) := ⟨.deenergise 0 0, rfl, by decide⟩
theorem Occurs.resume (dt : Nat) (q : Fin 16) : Occurs.Statement (.resume dt q) := ⟨.resume 0 0, rfl, by decide⟩
theorem Occurs.sqTailDoorbell (q : Fin 16) (v : Word) : Occurs.Statement (.sqTailDoorbell q v) := ⟨.sqTailDoorbell 0 0#32, rfl, by decide⟩
theorem Occurs.cqHeadDoorbell (q : Fin 16) (v : Word) : Occurs.Statement (.cqHeadDoorbell q v) := ⟨.cqHeadDoorbell 0 0#32, rfl, by decide⟩
theorem Occurs.descriptorFetch (dt : Nat) (b : List Nat) : Occurs.Statement (.descriptorFetch dt b) := ⟨.descriptorFetch 0 ((List.replicate 64 0)), rfl, by decide⟩
theorem Occurs.fetchErr (dt : Nat) (code : Nat) : Occurs.Statement (.fetchErr dt code) := ⟨.fetchErr 0 1, rfl, by decide⟩
theorem Occurs.completionWrite (dt : Nat) (q : Fin 16) : Occurs.Statement (.completionWrite dt q) := ⟨.completionWrite 0 0, rfl, by decide⟩
theorem Occurs.cqCoalTimer (dt : Nat) (q : Fin 16) : Occurs.Statement (.cqCoalTimer dt q) := ⟨.cqCoalTimer 0 0, rfl, by decide⟩
theorem Occurs.msixSend (dt : Nat) (v : Fin 64) (fmask : Bool) : Occurs.Statement (.msixSend dt v fmask) := ⟨.msixSend 0 0 false, rfl, by decide⟩
theorem Occurs.msixUnmask (v : Fin 64) (fmask : Bool) : Occurs.Statement (.msixUnmask v fmask) := ⟨.msixUnmask 0 false, rfl, by decide⟩
theorem Occurs.qpEnable (q : Fin 16) : Occurs.Statement (.qpEnable q) := ⟨.qpEnable 0, rfl, by decide⟩
theorem Occurs.qpDisable (q : Fin 16) : Occurs.Statement (.qpDisable q) := ⟨.qpDisable 0, rfl, by decide⟩
theorem Occurs.qpDisabled (q : Fin 16) : Occurs.Statement (.qpDisabled q) := ⟨.qpDisabled 0, rfl, by decide⟩
theorem Occurs.hifWdWrite (v : Word) : Occurs.Statement (.hifWdWrite v) := ⟨.hifWdWrite 0#32, rfl, by decide⟩
theorem Occurs.hostWdExpired (dt : Nat) : Occurs.Statement (.hostWdExpired dt) := ⟨.hostWdExpired 0, rfl, by decide⟩
theorem Occurs.pcieLinkDown : Occurs.Statement (.pcieLinkDown) := ⟨.pcieLinkDown, rfl, by decide⟩
theorem Occurs.pcieFlr : Occurs.Statement (.pcieFlr) := ⟨.pcieFlr, rfl, by decide⟩
theorem Occurs.pcieLinkUp (speed : Fin 4) (width : Fin 5) (cfg : List (Nat × Word)) : Occurs.Statement (.pcieLinkUp speed width cfg) := ⟨.pcieLinkUp 0 0 [], rfl, by decide⟩
theorem Occurs.cmdBusyExpired (dt : Nat) (id : Nat) : Occurs.Statement (.cmdBusyExpired dt id) := ⟨.cmdBusyExpired 0 0, rfl, by decide⟩
theorem Occurs.rdReq (dt : Nat) (port : Fin 12) (bs : List Block) : Occurs.Statement (.rdReq dt port bs) := ⟨.rdReq 0 0 [], rfl, by decide⟩
theorem Occurs.rdResp (dt : Nat) (port : Fin 12) (bs : List Block) : Occurs.Statement (.rdResp dt port bs) := ⟨.rdResp 0 0 [], rfl, by decide⟩
theorem Occurs.wrReq (dt : Nat) (port : Fin 12) (bs : List Block) (w : WrIn) : Occurs.Statement (.wrReq dt port bs w) := ⟨.wrReq 0 0 [] {}, rfl, by decide⟩
theorem Occurs.wrAck (dt : Nat) (port : Fin 12) (bs : List Block) : Occurs.Statement (.wrAck dt port bs) := ⟨.wrAck 0 0 [], rfl, by decide⟩
theorem Occurs.ack (dt : Nat) (port : Fin 12) (bs : List Block) : Occurs.Statement (.ack dt port bs) := ⟨.ack 0 0 [], rfl, by decide⟩
theorem Occurs.nak (dt : Nat) (port : Fin 12) (bs : List Block) : Occurs.Statement (.nak dt port bs) := ⟨.nak 0 0 [], rfl, by decide⟩
theorem Occurs.mgmtTimeout (dt : Nat) (dest : Nat) : Occurs.Statement (.mgmtTimeout dt dest) := ⟨.mgmtTimeout 0 0, rfl, by decide⟩
theorem Occurs.responseTimeout (dt : Nat) (dest : Nat) (mseq : Nat) : Occurs.Statement (.responseTimeout dt dest mseq) := ⟨.responseTimeout 0 0 0, rfl, by decide⟩
theorem Occurs.enrolReq (dt : Nat) (port : Fin 2) (bs : List Block) : Occurs.Statement (.enrolReq dt port bs) := ⟨.enrolReq 0 0 [], rfl, by decide⟩
theorem Occurs.enrolReply (dt : Nat) (port : Fin 12) (bs : List Block) : Occurs.Statement (.enrolReply dt port bs) := ⟨.enrolReply 0 0 [], rfl, by decide⟩
theorem Occurs.enrolMismatch (dt : Nat) (chain : Fin 12) : Occurs.Statement (.enrolMismatch dt chain) := ⟨.enrolMismatch 0 0, rfl, by decide⟩
theorem Occurs.linkReport (dt : Nat) (port : Fin 12) (bs : List Block) : Occurs.Statement (.linkReport dt port bs) := ⟨.linkReport 0 0 [], rfl, by decide⟩
theorem Occurs.farReport (dt : Nat) (port : Fin 12) (bs : List Block) : Occurs.Statement (.farReport dt port bs) := ⟨.farReport 0 0 [], rfl, by decide⟩
theorem Occurs.tableChunkBegin (dt : Nat) (port : Fin 2) (bs : List Block) : Occurs.Statement (.tableChunkBegin dt port bs) := ⟨.tableChunkBegin 0 0 [], rfl, by decide⟩
theorem Occurs.tableChunkData (dt : Nat) (port : Fin 2) (bs : List Block) : Occurs.Statement (.tableChunkData dt port bs) := ⟨.tableChunkData 0 0 [], rfl, by decide⟩
theorem Occurs.tableChunkEnd (dt : Nat) (port : Fin 2) (bs : List Block) : Occurs.Statement (.tableChunkEnd dt port bs) := ⟨.tableChunkEnd 0 0 [], rfl, by decide⟩
theorem Occurs.tableChunkCommit (dt : Nat) (port : Fin 2) (bs : List Block) : Occurs.Statement (.tableChunkCommit dt port bs) := ⟨.tableChunkCommit 0 0 [], rfl, by decide⟩
theorem Occurs.tableChunkAbandon (dt : Nat) (port : Fin 2) (bs : List Block) : Occurs.Statement (.tableChunkAbandon dt port bs) := ⟨.tableChunkAbandon 0 0 [], rfl, by decide⟩
theorem Occurs.tableChunkResult (dt : Nat) (port : Fin 12) (bs : List Block) : Occurs.Statement (.tableChunkResult dt port bs) := ⟨.tableChunkResult 0 0 [], rfl, by decide⟩
theorem Occurs.record (dt : Nat) (port : Fin 12) (bs : List Block) : Occurs.Statement (.record dt port bs) := ⟨.record 0 0 [], rfl, by decide⟩
theorem Occurs.health (dt : Nat) (port : Fin 12) (bs : List Block) : Occurs.Statement (.health dt port bs) := ⟨.health 0 0 [], rfl, by decide⟩
theorem Occurs.healthSend (dt : Nat) : Occurs.Statement (.healthSend dt) := ⟨.healthSend 0, rfl, by decide⟩
theorem Occurs.peerLost (dt : Nat) : Occurs.Statement (.peerLost dt) := ⟨.peerLost 0, rfl, by decide⟩
theorem Occurs.electTimeout (dt : Nat) : Occurs.Statement (.electTimeout dt) := ⟨.electTimeout 0, rfl, by decide⟩
theorem Occurs.heartbeat (dt : Nat) (port : Fin 12) (bs : List Block) : Occurs.Statement (.heartbeat dt port bs) := ⟨.heartbeat 0 0 [], rfl, by decide⟩
theorem Occurs.hbMiss (dt : Nat) : Occurs.Statement (.hbMiss dt) := ⟨.hbMiss 0, rfl, by decide⟩
theorem Occurs.hostTakeover : Occurs.Statement (.hostTakeover) := ⟨.hostTakeover, rfl, by decide⟩
theorem Occurs.bistSegment (dt : Nat) (bad : Option Nat) (tested : Nat) (failing : Nat) : Occurs.Statement (.bistSegment dt bad tested failing) := ⟨.bistSegment 0 none 0 0, rfl, by decide⟩
theorem Occurs.eccCorrected (dt : Nat) (bank : Fin 6) (row : Nat) : Occurs.Statement (.eccCorrected dt bank row) := ⟨.eccCorrected 0 0 0, rfl, by decide⟩
theorem Occurs.sramUncorr (dt : Nat) (bank : Fin 6) (row : Nat) : Occurs.Statement (.sramUncorr dt bank row) := ⟨.sramUncorr 0 0 0, rfl, by decide⟩
theorem Occurs.vaonFeedLost (dt : Nat) (feed : Fin 2) : Occurs.Statement (.vaonFeedLost dt feed) := ⟨.vaonFeedLost 0 0, rfl, by decide⟩
theorem Occurs.vaonFeedOk (dt : Nat) (feed : Fin 2) : Occurs.Statement (.vaonFeedOk dt feed) := ⟨.vaonFeedOk 0 0, rfl, by decide⟩
theorem Occurs.voteExcluded (dt : Nat) (g : Fin 14) : Occurs.Statement (.voteExcluded dt g) := ⟨.voteExcluded 0 0, rfl, by decide⟩
theorem Occurs.degradedWarn (dt : Nat) (g : Fin 15) : Occurs.Statement (.degradedWarn dt g) := ⟨.degradedWarn 0 0, rfl, by decide⟩
theorem Occurs.degradedExpired (dt : Nat) (g : Fin 15) : Occurs.Statement (.degradedExpired dt g) := ⟨.degradedExpired 0 0, rfl, by decide⟩
theorem Occurs.voteRestore (dt : Nat) (v : Word) : Occurs.Statement (.voteRestore dt v) := ⟨.voteRestore 0 0#32, rfl, by decide⟩
theorem Occurs.train (dt : Nat) (port : Fin 12) (v : Nat) : Occurs.Statement (.train dt port v) := ⟨.train 0 0 0, rfl, by decide⟩
theorem Occurs.trainRetry (dt : Nat) (port : Fin 12) : Occurs.Statement (.trainRetry dt port) := ⟨.trainRetry 0 0, rfl, by decide⟩
theorem Occurs.eiEnter (dt : Nat) (port : Fin 12) (v : Nat) : Occurs.Statement (.eiEnter dt port v) := ⟨.eiEnter 0 0 0, rfl, by decide⟩
theorem Occurs.linkLoss (dt : Nat) (port : Fin 12) (cause : Fin 2) (hdrs : Nat) : Occurs.Statement (.linkLoss dt port cause hdrs) := ⟨.linkLoss 0 0 0 0, rfl, by decide⟩
theorem Occurs.clkFallback (dt : Nat) (port : Fin 12) : Occurs.Statement (.clkFallback dt port) := ⟨.clkFallback 0 0, rfl, by decide⟩
theorem Occurs.clkRestore (port : Fin 12) (clean : Bool) : Occurs.Statement (.clkRestore port clean) := ⟨.clkRestore 0 false, rfl, by decide⟩
theorem Occurs.retrain (port : Fin 12) : Occurs.Statement (.retrain port) := ⟨.retrain 0, rfl, by decide⟩
theorem Occurs.portLeaveIdle (port : Fin 12) : Occurs.Statement (.portLeaveIdle port) := ⟨.portLeaveIdle 0, rfl, by decide⟩
theorem Occurs.prbsGen (port : Fin 12) (gen : Bool) (errs : Nat) : Occurs.Statement (.prbsGen port gen errs) := ⟨.prbsGen 0 false 0, rfl, by decide⟩
theorem Occurs.prbsClear (port : Fin 12) (errs : Nat) : Occurs.Statement (.prbsClear port errs) := ⟨.prbsClear 0 0, rfl, by decide⟩
theorem Occurs.frameForward (dt : Nat) (port : Fin 2) (bs : List Block) : Occurs.Statement (.frameForward dt port bs) := ⟨.frameForward 0 0 [], rfl, by decide⟩
theorem Occurs.syncInterval (dt : Nat) (port : Fin 12) : Occurs.Statement (.syncInterval dt port) := ⟨.syncInterval 0 0, rfl, by decide⟩
theorem Occurs.syncRequest (dt : Nat) (port : Fin 12) (bs : List Block) (ago : Nat) : Occurs.Statement (.syncRequest dt port bs ago) := ⟨.syncRequest 0 0 [] 0, rfl, by decide⟩
theorem Occurs.syncResponse (dt : Nat) (port : Fin 12) (bs : List Block) : Occurs.Statement (.syncResponse dt port bs) := ⟨.syncResponse 0 0 [], rfl, by decide⟩
theorem Occurs.ppsInEdge (dt : Nat) : Occurs.Statement (.ppsInEdge dt) := ⟨.ppsInEdge 0, rfl, by decide⟩
theorem Occurs.timeHoldover (dt : Nat) : Occurs.Statement (.timeHoldover dt) := ⟨.timeHoldover 0, rfl, by decide⟩
theorem Occurs.timeAnchor (dt : Nat) : Occurs.Statement (.timeAnchor dt) := ⟨.timeAnchor 0, rfl, by decide⟩
theorem Occurs.ppsOut (dt : Nat) : Occurs.Statement (.ppsOut dt) := ⟨.ppsOut 0, rfl, by decide⟩
theorem Occurs.ppsOutEnd (dt : Nat) : Occurs.Statement (.ppsOutEnd dt) := ⟨.ppsOutEnd 0, rfl, by decide⟩
theorem Occurs.timeStampRead (dt : Nat) (rq : Option HostRd) : Occurs.Statement (.timeStampRead dt rq) := ⟨.timeStampRead 0 none, rfl, by decide⟩
theorem Occurs.pllHoldover (p : Pll) (cause : Nat) : Occurs.Statement (.pllHoldover p cause) := ⟨.pllHoldover .s 0, rfl, by decide⟩
theorem Occurs.pllRefReturn (p : Pll) (src : Nat) (port : Nat) (jump : Int) : Occurs.Statement (.pllRefReturn p src port jump) := ⟨.pllRefReturn .s 0 0 0, rfl, by decide⟩
theorem Occurs.pllLocked (p : Pll) (how : Nat) (us : Nat) : Occurs.Statement (.pllLocked p how us) := ⟨.pllLocked .s 0 0, rfl, by decide⟩
theorem Occurs.hopSlotStore (dt : Nat) (p : Pll) (band : Nat) (med : Nat) (integ : Int) : Occurs.Statement (.hopSlotStore dt p band med integ) := ⟨.hopSlotStore 0 .s 0 0 0, rfl, by decide⟩
theorem Occurs.pllUnlock (p : Pll) (cause : Nat) : Occurs.Statement (.pllUnlock p cause) := ⟨.pllUnlock .s 0, rfl, by decide⟩
theorem Occurs.safeClockExit : Occurs.Statement (.safeClockExit) := ⟨.safeClockExit, rfl, by decide⟩
theorem Occurs.pllSearchFail (p : Pll) (band : Nat) : Occurs.Statement (.pllSearchFail p band) := ⟨.pllSearchFail .s 0, rfl, by decide⟩
theorem Occurs.pllSearch (p : Pll) (v : Word) : Occurs.Statement (.pllSearch p v) := ⟨.pllSearch .s 0#32, rfl, by decide⟩
theorem Occurs.slotClr (p : Pll) : Occurs.Statement (.slotClr p) := ⟨.slotClr .s, rfl, by decide⟩
theorem Occurs.refSrcWrite (p : Pll) (v : Word) : Occurs.Statement (.refSrcWrite p v) := ⟨.refSrcWrite .s 0#32, rfl, by decide⟩
theorem Occurs.refclkBad (freq : Nat) : Occurs.Statement (.refclkBad freq) := ⟨.refclkBad 0, rfl, by decide⟩
theorem Occurs.refclkOk (freq : Bool) : Occurs.Statement (.refclkOk freq) := ⟨.refclkOk false, rfl, by decide⟩
theorem Occurs.lockaFault (mv : Nat) : Occurs.Statement (.lockaFault mv) := ⟨.lockaFault 0, rfl, by decide⟩
theorem Occurs.lockaOk (mv : Nat) : Occurs.Statement (.lockaOk mv) := ⟨.lockaOk 0, rfl, by decide⟩
theorem Occurs.fpsSat (waiting : Int) (net : Int) : Occurs.Statement (.fpsSat waiting net) := ⟨.fpsSat 0 0, rfl, by decide⟩
theorem Occurs.safeInChange (dt : Nat) (filt : Fin 8) (raw : Fin 8) : Occurs.Statement (.safeInChange dt filt raw) := ⟨.safeInChange 0 0 0, rfl, by decide⟩
theorem Occurs.guardInChange (dt : Nat) (g : Fin 4) : Occurs.Statement (.guardInChange dt g) := ⟨.guardInChange 0 0, rfl, by decide⟩
theorem Occurs.guardDiscrepancy (dt : Nat) : Occurs.Statement (.guardDiscrepancy dt) := ⟨.guardDiscrepancy 0, rfl, by decide⟩
theorem Occurs.safeOutOff (dt : Nat) : Occurs.Statement (.safeOutOff dt) := ⟨.safeOutOff 0, rfl, by decide⟩
theorem Occurs.outEn : Occurs.Statement (.outEn) := ⟨.outEn, rfl, by decide⟩
theorem Occurs.hostOff : Occurs.Statement (.hostOff) := ⟨.hostOff, rfl, by decide⟩
theorem Occurs.safetyLock : Occurs.Statement (.safetyLock) := ⟨.safetyLock, rfl, by decide⟩
theorem Occurs.safetyRelockTimeout (dt : Nat) : Occurs.Statement (.safetyRelockTimeout dt) := ⟨.safetyRelockTimeout 0, rfl, by decide⟩
theorem Occurs.authLockoutEnd (dt : Nat) : Occurs.Statement (.authLockoutEnd dt) := ⟨.authLockoutEnd 0, rfl, by decide⟩
theorem Occurs.safeFbChange (dt : Nat) (hs : Bool) (ls : Bool) : Occurs.Statement (.safeFbChange dt hs ls) := ⟨.safeFbChange 0 false false, rfl, by decide⟩
theorem Occurs.safeFbFault (dt : Nat) (k : Fin 2) : Occurs.Statement (.safeFbFault dt k) := ⟨.safeFbFault 0 0, rfl, by decide⟩
theorem Occurs.testPulseStart (dt : Nat) : Occurs.Statement (.testPulseStart dt) := ⟨.testPulseStart 0, rfl, by decide⟩
theorem Occurs.testPulseEnd (dt : Nat) : Occurs.Statement (.testPulseEnd dt) := ⟨.testPulseEnd 0, rfl, by decide⟩
theorem Occurs.safeOutDegraded (dt : Nat) (k : Fin 2) : Occurs.Statement (.safeOutDegraded dt k) := ⟨.safeOutDegraded 0 0, rfl, by decide⟩
theorem Occurs.safetyPduTx (dt : Nat) : Occurs.Statement (.safetyPduTx dt) := ⟨.safetyPduTx 0, rfl, by decide⟩
theorem Occurs.safetyPduRx (dt : Nat) (unit : Fin 4) (f : CanFrame) : Occurs.Statement (.safetyPduRx dt unit f) := ⟨.safetyPduRx 0 0 ⟨false, 0, false, false, false, false, 0, []⟩, rfl, by decide⟩
theorem Occurs.pduTimeout (dt : Nat) : Occurs.Statement (.pduTimeout dt) := ⟨.pduTimeout 0, rfl, by decide⟩
theorem Occurs.canFrameRx (dt : Nat) (n : Fin 4) (f : CanFrame) (ago : Nat) (exc : Bool) (tec : Fin 256) (rec : Fin 256) : Occurs.Statement (.canFrameRx dt n f ago exc tec rec) := ⟨.canFrameRx 0 0 ⟨false, 0, false, false, false, false, 0, []⟩ 0 false 0 0, rfl, by decide⟩
theorem Occurs.bmsStale (dt : Nat) : Occurs.Statement (.bmsStale dt) := ⟨.bmsStale 0, rfl, by decide⟩
theorem Occurs.canTxreq (dt : Nat) (n : Fin 4) (v : Word) : Occurs.Statement (.canTxreq dt n v) := ⟨.canTxreq 0 0 0#32, rfl, by decide⟩
theorem Occurs.canTxDone (dt : Nat) (n : Fin 4) (ago : Nat) (tdcv : Option Nat) (tec : Fin 256) (rec : Fin 256) : Occurs.Statement (.canTxDone dt n ago tdcv tec rec) := ⟨.canTxDone 0 0 0 none 0 0, rfl, by decide⟩
theorem Occurs.canTxAttemptFail (dt : Nat) (n : Fin 4) (ago : Nat) (bit : Bool) (lec : Fin 8) (dlec : Fin 8) (tdcv : Option Nat) (tec : Fin 256) (rec : Fin 256) : Occurs.Statement (.canTxAttemptFail dt n ago bit lec dlec tdcv tec rec) := ⟨.canTxAttemptFail 0 0 0 false 0 0 none 0 0, rfl, by decide⟩
theorem Occurs.canTxcan (dt : Nat) (n : Fin 4) (v : Word) (sof : Option Nat) : Occurs.Statement (.canTxcan dt n v sof) := ⟨.canTxcan 0 0 0#32 none, rfl, by decide⟩
theorem Occurs.canState (dt : Nat) (n : Fin 4) (st : Fin 3) (tec : Fin 256) (rec : Fin 256) : Occurs.Statement (.canState dt n st tec rec) := ⟨.canState 0 0 0 0 0, rfl, by decide⟩
theorem Occurs.recReq (n : Fin 4) : Occurs.Statement (.recReq n) := ⟨.recReq 0, rfl, by decide⟩
theorem Occurs.busOffRecovery (dt : Nat) (n : Fin 4) : Occurs.Statement (.busOffRecovery dt n) := ⟨.busOffRecovery 0 0, rfl, by decide⟩
theorem Occurs.canInitClear (n : Fin 4) : Occurs.Statement (.canInitClear n) := ⟨.canInitClear 0, rfl, by decide⟩
theorem Occurs.elementLock (dt : Nat) (n : Fin 4) (w : Fin 4) (rq : Option HostRd) : Occurs.Statement (.elementLock dt n w rq) := ⟨.elementLock 0 0 0 none, rfl, by decide⟩
theorem Occurs.elementRelease (n : Fin 4) (w : Fin 4) (rq : Option HostRd) : Occurs.Statement (.elementRelease n w rq) := ⟨.elementRelease 0 0 none, rfl, by decide⟩
theorem Occurs.lockTimeout (dt : Nat) (n : Fin 4) (w : Fin 4) : Occurs.Statement (.lockTimeout dt n w) := ⟨.lockTimeout 0 0 0, rfl, by decide⟩
theorem Occurs.referenceMessage (dt : Nat) (n : Fin 4) : Occurs.Statement (.referenceMessage dt n) := ⟨.referenceMessage 0 0, rfl, by decide⟩
theorem Occurs.packRecRead : Occurs.Statement (.packRecRead) := ⟨.packRecRead, rfl, by decide⟩
theorem Occurs.recordCommit (dt : Nat) : Occurs.Statement (.recordCommit dt) := ⟨.recordCommit 0, rfl, by decide⟩
theorem Occurs.rateSummary (dt : Nat) (code : Nat) : Occurs.Statement (.rateSummary dt code) := ⟨.rateSummary 0 0, rfl, by decide⟩
theorem Occurs.freezeTimeout (dt : Nat) : Occurs.Statement (.freezeTimeout dt) := ⟨.freezeTimeout 0, rfl, by decide⟩
theorem Occurs.eraseFirst : Occurs.Statement (.eraseFirst) := ⟨.eraseFirst, rfl, by decide⟩
theorem Occurs.format : Occurs.Statement (.format) := ⟨.format, rfl, by decide⟩
theorem Occurs.norBlockBad (dt : Nat) (lb : Nat) (k : Nat) (cause : Fin 3) : Occurs.Statement (.norBlockBad dt lb k cause) := ⟨.norBlockBad 0 0 0 0, rfl, by decide⟩
theorem Occurs.nvmSag (dt : Nat) : Occurs.Statement (.nvmSag dt) := ⟨.nvmSag 0, rfl, by decide⟩
theorem Occurs.nvmSagEnd (dt : Nat) : Occurs.Statement (.nvmSagEnd dt) := ⟨.nvmSagEnd 0, rfl, by decide⟩
theorem Occurs.ledgerPeriodic (dt : Nat) : Occurs.Statement (.ledgerPeriodic dt) := ⟨.ledgerPeriodic 0, rfl, by decide⟩
theorem Occurs.eInLatchRead : Occurs.Statement (.eInLatchRead) := ⟨.eInLatchRead, rfl, by decide⟩
theorem Occurs.withdraw (sp : Fin 256) : Occurs.Statement (.withdraw sp) := ⟨.withdraw 0, rfl, by decide⟩
theorem Occurs.return (sp : Fin 256) : Occurs.Statement (.return sp) := ⟨.return 0, rfl, by decide⟩
theorem Occurs.commandedEdge (dt : Nat) (c : Fin 12) (sub : Fin 8) : Occurs.Statement (.commandedEdge dt c sub) := ⟨.commandedEdge 0 0 0, rfl, by decide⟩
theorem Occurs.blockLock (dt : Nat) (port : Fin 12) : Occurs.Statement (.blockLock dt port) := ⟨.blockLock 0 0, rfl, by decide⟩
theorem Occurs.readyInputHigh (n : Fin 6) : Occurs.Statement (.readyInputHigh n) := ⟨.readyInputHigh 0, rfl, by decide⟩
theorem Occurs.ocpChannelChange (dt : Nat) (a : Fin 3) (b : Fin 3) (c : Fin 3) : Occurs.Statement (.ocpChannelChange dt a b c) := ⟨.ocpChannelChange 0 0 0 0, rfl, by decide⟩
theorem Occurs.slotRelockTimeout (p : Pll) : Occurs.Statement (.slotRelockTimeout p) := ⟨.slotRelockTimeout .s, rfl, by decide⟩
theorem Occurs.firstFullSearch : Occurs.Statement (.firstFullSearch) := ⟨.firstFullSearch, rfl, by decide⟩

end Sys2Proof.Laws
end

