-- ==== Sys2Proof/Laws/Ram.lean ====
section
/-! SUPPORT. Ram.lean: the CAN message RAM: read after write, every other byte kept, and the canonical form kept by every operation on it (R446, R450). -/
set_option Elab.async false
namespace Sys2Proof.Machine

theorem ramByte_erase_same (l : List Host.Cell) (a : Nat) : ramByte (ramErase l a) a = 0#8 := by
  induction l with
  | nil => rfl
  | cons x t ih =>
    obtain ⟨k, v⟩ := x
    by_cases h : k = a <;> simp [ramErase, ramByte, h, ih]

theorem ramByte_erase_other (l : List Host.Cell) (a b : Nat) (h : b ≠ a) : ramByte (ramErase l a) b = ramByte l b := by
  induction l with
  | nil => rfl
  | cons x t ih =>
    obtain ⟨k, v⟩ := x
    by_cases hk : k = a
    · simp [ramErase, ramByte, hk, ih, h.symm]
    · by_cases hb : k = b
      · simp [ramErase, ramByte, hb, h]
      · simp [ramErase, ramByte, hk, hb, ih]

theorem mem_ramErase {l : List Host.Cell} {a : Nat} {x : Host.Cell} (h : x ∈ ramErase l a) : x ∈ l ∧ x.1 ≠ a := by
  induction l with
  | nil => simp [ramErase] at h
  | cons y t ih =>
    obtain ⟨k, v⟩ := y
    by_cases hk : k = a
    · simp only [ramErase, hk, if_true] at h
      exact ⟨List.mem_cons_of_mem _ (ih h).1, (ih h).2⟩
    · simp only [ramErase, hk, if_false, List.mem_cons] at h
      rcases h with rfl | h
      · exact ⟨List.mem_cons_self, hk⟩
      · exact ⟨List.mem_cons_of_mem _ (ih h).1, (ih h).2⟩

theorem mem_ramInsert {l : List Host.Cell} {a : Nat} {v : Byte} {x : Host.Cell} (h : x ∈ ramInsert l a v) : x = (a, v) ∨ x ∈ l := by
  induction l with
  | nil => simpa [ramInsert] using h
  | cons y t ih =>
    obtain ⟨k, w⟩ := y
    by_cases hl : a < k
    · simpa [ramInsert, hl] using h
    · simp only [ramInsert, hl, if_false, List.mem_cons] at h
      rcases h with rfl | h
      · exact .inr List.mem_cons_self
      · exact (ih h).imp id (List.mem_cons_of_mem _)

theorem ramByte_insert_same (l : List Host.Cell) (a : Nat) (v : Byte) (h : ∀ x ∈ l, x.1 ≠ a) : ramByte (ramInsert l a v) a = v := by
  induction l with
  | nil => simp [ramInsert, ramByte]
  | cons x t ih =>
    obtain ⟨k, w⟩ := x
    have hk : k ≠ a := h (k, w) List.mem_cons_self
    by_cases hl : a < k
    · simp [ramInsert, hl, ramByte]
    · simp [ramInsert, hl, ramByte, hk, ih (fun y hy => h y (List.mem_cons_of_mem _ hy))]

theorem ramByte_insert_other (l : List Host.Cell) (a b : Nat) (v : Byte) (h : b ≠ a) : ramByte (ramInsert l a v) b = ramByte l b := by
  induction l with
  | nil => simp [ramInsert, ramByte, h.symm]
  | cons x t ih =>
    obtain ⟨k, w⟩ := x
    by_cases hl : a < k
    · simp [ramInsert, hl, ramByte, h.symm]
    · simp [ramInsert, hl, ramByte, ih]

/-- A byte written reads back. -/
theorem ramByte_put_same (l : List Host.Cell) (a : Nat) (v : Byte) : ramByte (ramPut l a v) a = v := by
  unfold ramPut
  split
  · rename_i h
    rw [h, ramByte_erase_same]
  · exact ramByte_insert_same _ _ _ (fun x hx => (mem_ramErase hx).2)

/-- A byte written leaves every other. -/
theorem ramByte_put_other (l : List Host.Cell) (a b : Nat) (v : Byte) (h : b ≠ a) : ramByte (ramPut l a v) b = ramByte l b := by
  unfold ramPut
  split
  · exact ramByte_erase_other l a b h
  · rw [ramByte_insert_other _ _ _ _ h, ramByte_erase_other l a b h]

theorem ramWf_erase (l : List Host.Cell) (a : Nat) (h : ramWf l = true) : ramWf (ramErase l a) = true := by
  induction l with
  | nil => rfl
  | cons y t ih =>
    obtain ⟨k, v⟩ := y
    simp only [ramWf, Bool.and_eq_true, List.all_eq_true, decide_eq_true_eq] at h
    by_cases hk : k = a
    · simpa [ramErase, hk] using ih h.2
    · simp only [ramErase, hk, if_false, ramWf, Bool.and_eq_true, List.all_eq_true, decide_eq_true_eq]
      exact ⟨⟨h.1.1, fun x hx => h.1.2 x (mem_ramErase hx).1⟩, ih h.2⟩

theorem ramWf_insert (l : List Host.Cell) (a : Nat) (v : Byte) (h : ramWf l = true) (hn : ∀ x ∈ l, x.1 ≠ a) (ha : a < 65536) (hv : v ≠ 0#8) :
    ramWf (ramInsert l a v) = true := by
  induction l with
  | nil => simp [ramInsert, ramWf, ha, hv]
  | cons y t ih =>
    obtain ⟨k, w⟩ := y
    have h' := h
    simp only [ramWf, Bool.and_eq_true, List.all_eq_true, decide_eq_true_eq] at h
    by_cases hl : a < k
    · simp only [ramInsert, hl, if_true]
      rw [ramWf, h']
      simp only [Bool.and_eq_true, List.all_eq_true, decide_eq_true_eq, List.mem_cons, and_true, bne_iff_ne, ne_eq]
      refine ⟨⟨ha, hv⟩, ?_⟩
      rintro x (rfl | hx)
      · exact hl
      · exact hl.trans (h.1.2 x hx)
    · have hlt : k < a := lt_of_le_of_ne (not_lt.mp hl) (hn (k, w) List.mem_cons_self)
      simp only [ramInsert, hl, if_false, ramWf, Bool.and_eq_true, List.all_eq_true, decide_eq_true_eq]
      refine ⟨⟨h.1.1, fun x hx => ?_⟩, ih h.2 (fun x hx => hn x (List.mem_cons_of_mem _ hx))⟩
      rcases mem_ramInsert hx with rfl | hx
      · exact hlt
      · exact h.1.2 x hx

/-- Writing a byte keeps the canonical form. -/
theorem ramWf_put (l : List Host.Cell) (a : Nat) (v : Byte) (h : ramWf l = true) (ha : a < 65536) : ramWf (ramPut l a v) = true := by
  unfold ramPut
  split
  · exact ramWf_erase l a h
  · rename_i hv
    exact ramWf_insert _ a v (ramWf_erase l a h) (fun x hx => (mem_ramErase hx).2) ha hv

theorem State.ramSet_wf (s : State) (a : Nat) (v : Byte) (h : ramWf s.can.ram = true) : ramWf (s.ramSet a v).can.ram = true := by
  unfold State.ramSet
  split
  · rename_i ha
    exact ramWf_put _ a v h ha
  · exact h

/-- Storing bytes keeps the canonical form. -/
theorem State.ramStore_wf (l : List Nat) (a : Nat) (s : State) (h : ramWf s.can.ram = true) : ramWf (State.ramStore l a s).can.ram = true := by
  induction l generalizing a s with
  | nil => exact h
  | cons b t ih => exact ih (a + 1) (s.ramSet a (BitVec.ofNat 8 b)) (s.ramSet_wf a _ h)

theorem State.ramSet_byte_other (s : State) (a b : Nat) (v : Byte) (h : b ≠ a) : ramByte (s.ramSet a v).can.ram b = ramByte s.can.ram b := by
  unfold State.ramSet
  split
  · exact ramByte_put_other _ a b v h
  · rfl

/-- Storing bytes leaves every byte outside them. -/
theorem State.ramStore_byte_other (l : List Nat) (a b : Nat) (s : State) (h : b < a ∨ a + l.length ≤ b) :
    ramByte (State.ramStore l a s).can.ram b = ramByte s.can.ram b := by
  induction l generalizing a s with
  | nil => rfl
  | cons x t ih =>
    simp only [List.length_cons] at h
    show ramByte (State.ramStore t (a + 1) (s.ramSet a (BitVec.ofNat 8 x))).can.ram b = _
    rw [ih (a + 1) _ (by omega), State.ramSet_byte_other _ _ _ _ (by omega)]

/-- The message RAM right after PORST_N release has the canonical form. -/
theorem State.reset_ram_wf : ramWf State.reset.can.ram = true := rfl

end Sys2Proof.Machine
end

