-- ==== Sys2Proof/Laws/Startup.lean ====
section
/-! SUPPORT. Laws/Startup.lean: what the shared operations of start-up leave: a step completed, a port that leaves IDLE, rows mapped (R249, R396, R534). -/
set_option Elab.async false
namespace Sys2Proof.Machine

theorem mapFused_keeps (s : State) : (s.mapFused.aon = s.aon ∧ s.mapFused.gate = s.gate) ∧ ∀ f : Fld, f.quiet = true → s.mapFused.get f = s.get f := by
  unfold State.mapFused
  generalize Config.fusedRows = l
  induction l generalizing s with
  | nil => exact ⟨⟨rfl, rfl⟩, fun _ _ => rfl⟩
  | cons x t ih =>
    obtain ⟨⟨h1, h2⟩, h3⟩ := ih (s.raise Ev.SRAM_REPAIRED [x / 65536, x % 65536, evNum Ev.SRAM_REPAIRED 0])
    exact ⟨⟨by simpa using h1, by simpa using h2⟩, fun f hf => (h3 f hf).trans (State.raise_get _ _ _ _ hf)⟩
theorem startStep_aon (s : State) (n : Nat) : (s.startStep n).aon = s.aon := by unfold State.startStep; split <;> simp
theorem startStep_gate (s : State) (n : Nat) : (s.startStep n).gate = s.gate := by unfold State.startStep; split <;> simp
theorem startStep_role (s : State) (n : Nat) : (s.startStep n).role = s.role := by unfold State.startStep; split <;> simp
theorem startStep_side (s : State) (n : Nat) : (s.startStep n).side = s.side := by unfold State.startStep; split <;> simp
theorem startStep_steps (s : State) (n : Nat) (h : s.pwr.steps.contains n = false) : (s.startStep n).pwr.steps = s.pwr.steps ++ [n] := by
  unfold State.startStep; rw [if_neg (by simpa using h)]; simp
theorem startStep_STEP (s : State) (n : Nat) (h : s.pwr.steps.contains n = false) : (s.startStep n).get F.CMN_PROG.STEP = stepReached (s.pwr.steps ++ [n]) 13 0 % 16 := by
  unfold State.startStep; rw [if_neg (by simpa using h)]
  simp +decide [State.raise_get, State.get_set_same]; rfl
theorem mapFused_aon (s : State) : s.mapFused.aon = s.aon := (mapFused_keeps s).1.1
theorem mapFused_gate (s : State) : s.mapFused.gate = s.gate := (mapFused_keeps s).1.2
theorem mapFused_get (s : State) (f : Fld) (h : f.quiet = true) : s.mapFused.get f = s.get f := (mapFused_keeps s).2 f h
theorem mapFused_role (s : State) : s.mapFused.role = s.role := by
  unfold State.mapFused
  generalize Config.fusedRows = l
  induction l generalizing s with
  | nil => rfl
  | cons x t ih => exact (ih _).trans (by simp)
theorem mapFused_side (s : State) : s.mapFused.side = s.side := by
  unfold State.mapFused
  generalize Config.fusedRows = l
  induction l generalizing s with
  | nil => rfl
  | cons x t ih => exact (ih _).trans (by simp)

theorem pllHold_recorded (s : State) (p : Pll) (c : Nat) : s.Recorded (s.pllHold p c) :=
  (((State.recorded_set s _ _).trans (State.recorded_set _ _ _)).trans (State.recorded_set _ _ _)).trans (State.recorded_raise _ _ _)

theorem pllHold_regs (s : State) (p : Pll) (c : Nat) : s.RegsBut (pllHoldRegs p) (s.pllHold p c) := by
  unfold State.pllHold
  refine regsBut_trans ?_ (regsBut_raise _ _ _ _ (fun o ho => by simp [pllHoldRegs, ho]))
  refine regsBut_trans ?_ (regsBut_set _ _ _ _ (by simp [pllHoldRegs]))
  exact regsBut_trans (regsBut_set _ _ _ _ (by simp [pllHoldRegs])) (regsBut_set _ _ _ _ (by simp [pllHoldRegs]))

theorem hopIfMoved_recorded (s : State) (p : Pll) (x : Nat × Nat) : s.Recorded (s.hopIfMoved p x) := by
  unfold State.hopIfMoved
  simp only []
  split
  · exact pllHold_recorded s p 0
  · exact .same s

theorem hopIfMoved_regs (s : State) (p : Pll) (x : Nat × Nat) : s.RegsBut (pllHoldRegs p) (s.hopIfMoved p x) := by
  unfold State.hopIfMoved
  simp only []
  split
  · exact pllHold_regs s p 0
  · exact regsBut_same s _

theorem setCdr_recorded (s : State) (n : Nat) (on : Bool) : s.Recorded (s.setCdr n on) := (State.recorded_set s _ _).trans (hopIfMoved_recorded _ _ _)

theorem setCdr_regs (s : State) (n : Nat) (on : Bool) : s.RegsBut ((F.LNK_PSTAT.CDR n).off :: pllHoldRegs .s) (s.setCdr n on) :=
  regsBut_trans (regsBut_set _ _ _ _ (by simp)) (regsBut_wider (hopIfMoved_regs _ _ _) (fun o ho => by simp [ho]))

/-- What a port's change of path leaves: everything but lanes, links, registers and recorder. -/
def State.Linked (s t : State) : Prop := t.role = s.role ∧ t.side = s.side ∧ t.boot = s.boot ∧ t.pending = s.pending ∧ t.pwr = s.pwr ∧ t.aon = s.aon ∧ t.gate = s.gate ∧ t.time = s.time ∧ t.nor = s.nor

theorem linked_trans {s t u : State} (h : s.Linked t) (k : t.Linked u) : s.Linked u := by
  obtain ⟨a1, a2, a3, a4, a5, a6, a7, a8, a9⟩ := h
  obtain ⟨b1, b2, b3, b4, b5, b6, b7, b8, b9⟩ := k
  exact ⟨b1.trans a1, b2.trans a2, b3.trans a3, b4.trans a4, b5.trans a5, b6.trans a6, b7.trans a7, b8.trans a8, b9.trans a9⟩

theorem linked_recorded {s t : State} (h : s.Recorded t) : s.Linked t := ⟨h.role, h.side, h.boot, h.pending, h.pwr, h.aon, h.gate, h.time, h.nor⟩
theorem linked_laneOut (s : State) (p : Nat) (j : LaneJob) (o : OutMsg) : s.Linked (s.laneOut p j o) := by
  unfold State.laneOut
  split <;> exact ⟨rfl, rfl, rfl, rfl, rfl, rfl, rfl, rfl, rfl⟩
theorem linked_modPort (s : State) (p : Nat) (f : PortSt → PortSt) : s.Linked (s.modPort p f) := ⟨rfl, rfl, rfl, rfl, rfl, rfl, rfl, rfl, rfl⟩
theorem linked_same (s : State) : s.Linked s := ⟨rfl, rfl, rfl, rfl, rfl, rfl, rfl, rfl, rfl⟩
theorem laneOut_rd (s : State) (p : Nat) (j : LaneJob) (o : OutMsg) (a : Nat) : (s.laneOut p j o).rd a = s.rd a := by
  unfold State.laneOut
  split <;> rfl

theorem burst_linked (s : State) (n : Nat) : s.Linked (s.burst n) ∧ ∀ o, (s.burst n).rd o = s.rd o := by
  unfold State.burst
  split
  · exact ⟨linked_same s, fun _ => rfl⟩
  · exact ⟨linked_trans (linked_modPort s _ _) (linked_laneOut _ _ _ _), fun o => laneOut_rd _ _ _ _ o⟩


theorem trainPort_leaves (s : State) (n : Nat) : s.Linked (s.trainPort n) ∧ s.RegsBut (trainRegs n) (s.trainPort n) := by
  unfold State.trainPort
  have hb := burst_linked (((s.set (F.LNK_PSTAT.STATE n) psTRAINING).setCdr n false).set (F.LNK_PSTAT.PEER_LOCKED n) 0) n
  refine ⟨linked_trans ?_ hb.1, regsBut_trans ?_ (fun o _ => hb.2 o)⟩
  · exact linked_recorded (((State.recorded_set s _ _).trans (setCdr_recorded _ _ _)).trans (State.recorded_set _ _ _))
  · refine regsBut_trans ?_ (regsBut_set _ _ _ _ (by simp [trainRegs]))
    exact regsBut_trans (regsBut_set _ _ _ _ (by simp [trainRegs])) (regsBut_wider (setCdr_regs _ _ _) (fun o ho => by rcases List.mem_cons.mp ho with h | h <;> simp [trainRegs, h]))

theorem leaveIdle_leaves (s : State) (n : Nat) : s.Linked (s.leaveIdle n) ∧ s.RegsBut (trainRegs n) (s.leaveIdle n) := by
  unfold State.leaveIdle
  split
  · have h := trainPort_leaves (s.modPort n (fun x => { x with bursts := 0 })) n
    exact ⟨linked_trans (linked_modPort s _ _) h.1, regsBut_trans (regsBut_hidden _ rfl rfl rfl) h.2⟩
  · exact ⟨linked_same s, regsBut_same s _⟩

theorem leaveIdle_aon (s : State) (n : Nat) : (s.leaveIdle n).aon = s.aon := (leaveIdle_leaves s n).1.2.2.2.2.2.1
theorem leaveIdle_gate (s : State) (n : Nat) : (s.leaveIdle n).gate = s.gate := (leaveIdle_leaves s n).1.2.2.2.2.2.2.1
theorem leaveIdle_pwr (s : State) (n : Nat) : (s.leaveIdle n).pwr = s.pwr := (leaveIdle_leaves s n).1.2.2.2.2.1
theorem leaveIdle_role (s : State) (n : Nat) : (s.leaveIdle n).role = s.role := (leaveIdle_leaves s n).1.1
theorem leaveIdle_side (s : State) (n : Nat) : (s.leaveIdle n).side = s.side := (leaveIdle_leaves s n).1.2.1
theorem leaveIdle_get (s : State) (n : Nat) (f : Fld) (h : f.off ∉ trainRegs n) : (s.leaveIdle n).get f = s.get f := by
  unfold State.get; rw [(leaveIdle_leaves s n).2 _ h]

theorem eiSend_linked (s : State) (p : Nat) : s.Linked (s.eiSend p) := by
  unfold State.eiSend
  split
  · exact linked_same s
  · simp only []
    refine linked_trans ?_ (linked_recorded ((State.recorded_set _ _ _).trans (State.recorded_set _ _ _)))
    exact linked_trans (t := { s with lanes := s.lanes.set p { s.lane p with jobs := (s.lane p).jobs.filter (fun j => j.opened) } }) ⟨rfl, rfl, rfl, rfl, rfl, rfl, rfl, rfl, rfl⟩ (linked_laneOut _ _ _ _)

theorem eiSend_fold (l : List Nat) (s : State) : s.Linked (l.foldl State.eiSend s) := by
  induction l generalizing s with
  | nil => exact linked_same s
  | cons x t ih => exact linked_trans (eiSend_linked s x) (ih _)
theorem linked_set (s : State) (f : Fld) (v : Nat) : s.Linked (s.set f v) := linked_recorded (State.recorded_set s f v)
theorem linked_raise (s : State) (c : Nat) (p : List Nat) : s.Linked (s.raise c p) := linked_recorded (s.recorded_raise c p)
theorem linked_addSat (s : State) (f : Fld) (n : Nat) : s.Linked (s.addSat f n) := ⟨rfl, rfl, rfl, rfl, rfl, rfl, rfl, rfl, rfl⟩

theorem linked_outputsIdle (s : State) : s.Linked s.outputsIdle := ⟨rfl, rfl, rfl, rfl, rfl, rfl, rfl, rfl, rfl⟩

theorem outputsOff_linked (s : State) : s.Linked s.outputsOff := by
  unfold State.outputsOff
  split
  · refine linked_trans ?_ (linked_raise _ _ _)
    exact linked_trans (linked_trans (linked_trans (linked_set s _ _) (linked_set _ _ _)) (linked_set _ _ _)) (linked_outputsIdle _)
  · exact linked_set _ _ _

theorem relock_linked (s : State) : s.Linked s.relock := by
  unfold State.relock
  split
  · exact linked_same s
  · split
    · exact ⟨rfl, rfl, rfl, rfl, rfl, rfl, rfl, rfl, rfl⟩
    · simp only []
      have h : s.Linked ({ s with safe := { s.safe with relockDue := false } }.set F.SAFE_STAT.UNLOCKED 0) := ⟨rfl, rfl, rfl, rfl, rfl, rfl, rfl, rfl, rfl⟩
      split
      · exact linked_trans h (linked_raise _ _ _)
      · exact h

theorem relockIfDue_linked (s : State) : s.Linked s.relockIfDue := by
  unfold State.relockIfDue
  split
  · exact relock_linked s
  · exact linked_same s

theorem hostGone_linked (s : State) : s.Linked s.hostGone.1 := by
  unfold State.hostGone
  simp only []
  refine linked_trans ?_ (linked_addSat _ _ _)
  refine linked_trans ?_ (relockIfDue_linked _)
  exact ⟨rfl, rfl, rfl, rfl, rfl, rfl, rfl, rfl, rfl⟩

/-- A warm reset is entered from the state with every port announced idle, the host gone and the safety outputs off (R250, R317, R420, R527). -/
theorem warmEnter_eq (s : State) : ∃ v : State, s.warmEnter = v.warmState ∧ s.Linked v := by
  unfold State.warmEnter
  refine ⟨_, rfl, ?_⟩
  refine linked_trans (eiSend_fold s.upPorts s) ?_
  generalize s.upPorts.foldl State.eiSend s = u
  simp only [State.when]
  split
  · refine linked_trans ?_ (outputsOff_linked _)
    split
    · exact linked_trans (linked_trans (hostGone_linked u) (linked_raise _ _ _)) ⟨rfl, rfl, rfl, rfl, rfl, rfl, rfl, rfl, rfl⟩
    · exact ⟨rfl, rfl, rfl, rfl, rfl, rfl, rfl, rfl, rfl⟩
  · exact linked_same u

/-- A field kept of another state in each of a list of places. -/
theorem keep_fold (g : Nat → Fld) (v : State) (l : List Nat) (t : State) :
    t.Linked (l.foldl (fun (t : State) n => t.set (g n) (v.get (g n))) t) ∧ t.RegsBut (l.map (fun n => (g n).off)) (l.foldl (fun (t : State) n => t.set (g n) (v.get (g n))) t) := by
  induction l generalizing t with
  | nil => exact ⟨linked_same t, regsBut_same t _⟩
  | cons a l ih =>
    obtain ⟨h1, h2⟩ := ih (t.set (g a) (v.get (g a)))
    exact ⟨linked_trans (linked_set _ _ _) h1, regsBut_trans (regsBut_set _ _ _ _ (by simp)) (regsBut_wider h2 (fun o ho => by simp only [List.map_cons, List.mem_cons]; exact Or.inr ho))⟩

theorem linked_when (s : State) (c : Bool) (f : State → State) (h : ∀ u : State, u.Linked (f u)) : s.Linked (s.when c f) := by
  unfold State.when
  split
  · exact h s
  · exact linked_same s
theorem regsBut_when (s : State) (c : Bool) (f : State → State) (l : List Nat) (h : ∀ u : State, u.RegsBut l (f u)) : s.RegsBut l (s.when c f) := by
  unfold State.when
  split
  · exact h s
  · exact regsBut_same s _

theorem find_filter (r : List (Nat × Word)) (o : Nat) (h : keptReg o = false) : Regs.find (r.filter (fun (x : Nat × Word) => keptReg x.1)) o = none := by
  induction r with
  | nil => rfl
  | cons x t ih =>
    obtain ⟨k, v⟩ := x
    by_cases hk : keptReg k = true
    · have : ¬ k = o := fun e => by rw [e, h] at hk; cases hk
      simp [List.filter, hk, Regs.find, this, ih]
    · simp [List.filter, hk, ih]
theorem find_filter_kept (r : List (Nat × Word)) (o : Nat) (h : keptReg o = true) : Regs.find (r.filter (fun (x : Nat × Word) => keptReg x.1)) o = Regs.find r o := by
  induction r with
  | nil => rfl
  | cons x t ih =>
    obtain ⟨k, v⟩ := x
    by_cases hk : keptReg k = true
    · simp [List.filter, hk, Regs.find, ih]
    · have : ¬ k = o := fun e => by rw [e] at hk; exact hk h
      simp [List.filter, hk, Regs.find, this, ih]
theorem warmHb_low (h : HbSt) : (warmHb h).soft = none → (warmHb h).low = true := by
  unfold warmHb
  split
  · rename_i hs; intro h2; simp at h2; rw [h2] at hs; simp at hs
  · intro _; rfl
/-- The registers outside R529's list that a warm reset does not leave at their reset words: the epoch, SAG, GUARD_TESTED, the start-up step, CAL_OK and a failed Basin's role. -/
def warmRegs : List Nat := [F.TIME_STATUS.EPOCH.off, F.CMN_SUPPLY.SAG.off, F.SAFE_STAT.GUARD_TESTED.off, F.CMN_PROG.STEP.off, F.RED_CLAIM.ROLE.off] ++
  (List.range 4).map (fun n => (F.ADC_STAT.CAL_OK n).off)

theorem warmState_facts (v : State) : v.warmState.pwr.warm = true ∧ v.warmState.pwr.full = v.pwr.full ∧ v.warmState.pwr.rstLow = v.pwr.rstLow ∧ v.warmState.pwr.rstAt = v.pwr.rstAt ∧ v.warmState.pwr.highAt = v.pwr.highAt ∧ v.warmState.pwr.stuck = v.pwr.stuck ∧
    v.warmState.gate = { hbs := v.gate.hbs.map warmHb } ∧ v.warmState.time.ext = v.time.ext ∧ v.warmState.nor = v.nor ∧ v.warmState.role = v.role ∧ v.warmState.side = v.side ∧ v.warmState.boot = v.boot ∧ v.warmState.pending = v.pending ∧
    ∀ o, keptReg o = false → o ∉ warmRegs → v.warmState.rd o = resetWord v.role v.side o := by
  unfold State.warmState
  dsimp only
  generalize ht : ({ ({} : State) with
      role := v.role, side := v.side, boot := v.boot, out := v.out, free := v.free, pending := v.pending
      regs := v.regs.filter (fun (x : Nat × Word) => keptReg x.1)
      pwr := _, clk := _, time := _, recd := _, aon := _, nor := _, tbl := _, gate := _, can := _, adc := _, pcie := _, red := _ } : State) = t
  generalize hx : State.set _ F.CMN_PROG.STEP _ = x
  have hl : t.Linked x ∧ t.RegsBut warmRegs x := by
    subst hx
    obtain ⟨k1, k2⟩ := keep_fold F.ADC_STAT.CAL_OK v (List.range 4) ((t.set F.TIME_STATUS.EPOCH (v.get F.TIME_STATUS.EPOCH)).set F.CMN_SUPPLY.SAG (b2n v.nor.sag))
    refine ⟨linked_trans ?_ (linked_set _ _ _), regsBut_trans ?_ (regsBut_set _ _ _ _ (by simp [warmRegs]))⟩
    · refine linked_trans ?_ (linked_when _ _ _ (fun u => linked_set u _ _))
      refine linked_trans ?_ (linked_when _ _ _ (fun u => linked_set u _ _))
      exact linked_trans (linked_trans (linked_set _ _ _) (linked_set _ _ _)) k1
    · refine regsBut_trans ?_ (regsBut_when _ _ _ _ (fun u => regsBut_set u _ _ _ (by simp [warmRegs])))
      refine regsBut_trans ?_ (regsBut_when _ _ _ _ (fun u => regsBut_set u _ _ _ (by simp [warmRegs])))
      refine regsBut_trans (regsBut_trans (regsBut_set _ _ _ _ (by simp [warmRegs])) (regsBut_set _ _ _ _ (by simp [warmRegs]))) (regsBut_wider k2 (fun o ho => ?_))
      exact List.mem_append_right _ ho
  obtain ⟨⟨h1, h2, h3, h4, h5, h6, h7, h8, h9⟩, h10⟩ := hl
  rw [h5, h7, h8, h9, h1, h2, h3, h4]
  subst ht
  refine ⟨rfl, rfl, rfl, rfl, rfl, rfl, rfl, rfl, rfl, rfl, rfl, rfl, rfl, fun o hk ho => ?_⟩
  rw [h10 o ho]
  unfold State.rd
  simp only [find_filter _ o hk, Option.getD_none]
theorem adv_full (n : Nat) (s : State) : (State.advance n s).pwr = s.pwr := rfl
theorem springStart_keeps (s : State) : s.springStart.pwr = s.pwr ∧ (s.springStart).get F.CMN_RESET.CAUSE = s.get F.CMN_RESET.CAUSE ∧ (s.springStart).get F.CMN_RESET.WARM_CNT = s.get F.CMN_RESET.WARM_CNT ∧ (s.springStart).get F.CMN_RESET.SAFE_HOLD = s.get F.CMN_RESET.SAFE_HOLD ∧ s.springStart.aon.cause = s.aon.cause ∧ s.springStart.gate = s.gate ∧ (s.aon.seeded = true → s.springStart.aon.epoch = (s.aon.epoch + 1) % 256) := by
  unfold State.springStart State.nextEpoch
  simp +decide [leaveIdle_aon, leaveIdle_pwr, leaveIdle_gate, leaveIdle_get, State.setFlag, State.get_set_apart, State.get_mk]
  intro h; simp [h]
theorem warmLeft_facts (s : State) (c : Nat) (hc : c < 16) : (s.warmLeft c).pwr = { s.pwr with warm := false, relAt := s.upNs } ∧ (s.warmLeft c).aon.cause = c ∧ (s.warmLeft c).get F.CMN_RESET.CAUSE = c ∧
    (s.warmLeft c).get F.CMN_RESET.WARM_CNT = min (s.get F.CMN_RESET.WARM_CNT + 1) 65535 ∧ (s.warmLeft c).get F.CMN_RESET.SAFE_HOLD = s.get F.CMN_RESET.SAFE_HOLD ∧ (s.warmLeft c).gate = s.gate ∧
    (s.role = .spring → s.aon.seeded = true → (s.warmLeft c).aon.epoch = (s.aon.epoch + 1) % 256) := by
  have hw : ∀ u : State, (u.set F.CMN_RESET.CAUSE c).get F.CMN_RESET.WARM_CNT = u.get F.CMN_RESET.WARM_CNT := fun u => State.get_set_apart _ _ _ _ rfl rfl
  have hlt : min (s.get F.CMN_RESET.WARM_CNT + 1) 65535 % 2 ^ F.CMN_RESET.WARM_CNT.w = min (s.get F.CMN_RESET.WARM_CNT + 1) 65535 := by
    apply Nat.mod_eq_of_lt
    show _ < 65536
    omega
  have hcc : c % 2 ^ F.CMN_RESET.CAUSE.w = c := Nat.mod_eq_of_lt hc
  unfold State.warmLeft
  dsimp only
  generalize hu : ((State.set ({ s with pwr := _, aon := _ } : State) F.CMN_RESET.CAUSE c).inc F.CMN_RESET.WARM_CNT) = u
  have hur : u.role = s.role := by subst hu; simp
  have f1 : u.pwr = { s.pwr with warm := false, relAt := s.upNs } := by subst hu; simp
  have f2 : u.aon = { s.aon with cause := c } := by subst hu; simp
  have f3 : u.get F.CMN_RESET.CAUSE = c := by subst hu; simp +decide [State.inc, State.addSat, State.get_set_same, State.get_set_apart, State.get_mk, hcc]
  have f4 : u.get F.CMN_RESET.WARM_CNT = min (s.get F.CMN_RESET.WARM_CNT + 1) 65535 := by
    subst hu; simp +decide [State.inc, State.addSat, State.get_set_same, State.get_set_apart, State.get_mk]; exact hlt
  have f5 : u.get F.CMN_RESET.SAFE_HOLD = s.get F.CMN_RESET.SAFE_HOLD := by subst hu; simp +decide [State.inc, State.addSat, State.get_set_apart, State.get_mk]
  have f6 : u.gate = s.gate := by subst hu; simp
  cases hr : s.role
  · rw [hur, hr]
    exact ⟨f1, by rw [f2], f3, f4, f5, f6, fun h => by cases h⟩
  · obtain ⟨k1, k2, k3, k4, k5, k6, k7⟩ := springStart_keeps u
    rw [hur, hr]
    exact ⟨k1.trans f1, by rw [k5, f2], k2.trans f3, k3.trans f4, k4.trans f5, k6.trans f6, fun _ h => by rw [k7 (by rw [f2]; exact h), f2]⟩

end Sys2Proof.Machine
end

