-- ==== Sys2Proof/Tests/Slice0.lean ====
section
/-! SUPPORT. Tests/Slice0.lean: the ill-formed terms WellFormed refuses, worked figures of the manual, and for every obligation with hypotheses concrete states
that meet them. -/
set_option Elab.async false
namespace Sys2Proof.Tests
open Sys2Proof Sys2Proof.Machine

/-! ### Small states -/

/-- A Spring just out of reset. -/
def spring0 : State := { State.reset with role := .spring }

/-- A state with fields of registers set. -/
def fields (s : State) (l : List (Fld × Nat)) : State := l.foldl (fun s x => s.set x.1 x.2) s

/-- A Basin that dispatches. -/
def active0 : State := fields State.reset [(F.RED_CLAIM.ROLE, 1)]

/-- A slot in mode OFF that carries no command. -/
def slot0 : Slot := emptySlot

/-- A half-bridge with both ready inputs high, and a channel's level. -/
def hb0 : HbSt := { hi := { rdy := true, desat := false }, lo := { rdy := true, desat := false } }

/-- A Spring with its half-bridges ready and quiet. -/
def ready0 : State := { spring0 with gate := { spring0.gate with hbs := List.replicate 6 hb0 } }

/-- A Spring with a command due in its slot. -/
def due (s : State) (op : Nat) (p : List Nat) : State := { s with spr := { s.spr with cmd := some ⟨3, op, p, 7⟩ } }

/-- A pack record received, of a voltage word. -/
def packed (s : State) (v : Nat) : State := { s with can := { s.can with pack := { s.can.pack with doneAt := some 0, std := [v] } } }

/-- An image of one section. -/
def image1 (type target : Nat) (b : List Nat) : List Nat :=
  List.replicate 16 0 ++ [1, 0, 1] ++ List.replicate 45 0 ++ [type, 0] ++ leBytes 2 target ++ leBytes 4 80 ++ leBytes 4 b.length ++ leBytes 4 0 ++ b

/-- A Basin whose ARM table puts Springs 0 and 16 into arm 0. -/
def armed0 : State := { active0 with tbl := { active0.tbl with img := image1 secARM 0xFE ([1, 0, 2, 0, 0, 0, 16, 0] ++ List.replicate 124 0) } }

/-- A half-bridge with its high side on since the start. -/
def hbOn : HbSt := { hb0 with hi := { hb0.hi with on := true, cmd := true } }

/-- The ready Spring with half-bridge 1's high side on and every half-bridge enabled. -/
def running0 : State := { fields ready0 [(F.GATE_CTRL.HB_EN, 63), (F.CLK_PLLS_STAT.ON_SAFE, 0)] with gate := { ready0.gate with hbs := ready0.gate.hbs.set 1 hbOn, hbEn := 63 }, spr := { spring0.spr with mode := 1, carrier := true } }

/-- The 48 bits of a WEIR ordered set. -/
def weirWord (scope arm cause origin seq : Nat) : Nat := 16 * scope + 64 * arm + 1024 * cause + 2 ^ 14 * origin + 2 ^ 22 * seq

/-- The state a command answers. -/
def after (i : Instr) (s : State) : State := match exec i s with
  | .next t => t
  | _ => s

/-- A header and a frame of tick 5, at bound 5000. -/
def hdr0 : TickHdr :=
  { tick := 5, bound := 5000, period := 5000, claim := 2, nslot := 3, state := 0, side := .a, farFed := false, weirStn := false, weirHold := 0, epoch := 9, weirRstamp := 0
    todSec := 1, todNs := 5, todValid := true }
def frame0 : TickFrame := { chain := 0, relayed := false, hdr := hdr0, slots := [slot0, { slot0 with seq := 4, mode := 2 }, slot0] }

/-- A Spring enrolled at a position, its ports UP, on the DCO, with step 7 of the start-up passed. -/
def enrolled0 : State :=
  { (fields ready0 [(F.CLK_PLLS_STAT.ON_SAFE, 0), (F.LNK_SPOS.ENROLLED, 1), (F.LNK_SPOS.POSITION, 2), (F.LNK_SPOS.INDEX, 1), (F.LNK_PSTAT.STATE 0, 2), (F.LNK_PSTAT.STATE 1, 2)]) with
    pwr := { spring0.pwr with steps := [1, 2, 3, 4, 5, 6, 7] } }

/-- A telemetry frame of Spring 16 for tick 5. -/
def telem0 : Telem := { spring0.buildTelem with spring := 16, tick := 5, epoch := 3, bmsAge := 5 }

/-- A dispatching Basin in tick 5 that gathers, with Spring 16 enrolled and its ports UP. -/
def gathering0 : State :=
  { (fields armed0 [(F.CLK_PLLS_STAT.ON_SAFE, 0), (F.CTL_TICK_NUM.TICK, 5), (F.LNK_PSTAT.STATE 1, 2), (F.LNK_PSTAT.STATE 2, 2)]) with
    lnk := { armed0.lnk with enrolled := [⟨16, some 3, 0, 0⟩] }, ctl := { armed0.ctl with gathering := true, bound := 0, per := 5000 } }

/-- A NOP descriptor. -/
def nop0 : Desc := ⟨0, 0, 77, 0xC2, 0, 0, 0, []⟩

/-- A Basin whose pair 2 has completions waiting. -/
def waiting0 : State :=
  let c : Cpl := ⟨0, 0, 5, 0, 0, 9⟩
  { (fields gathering0 [(F.HIF_QP_SIZE.CQ_SIZE 2, 16), (F.HIF_QP_SIZE.SQ_SIZE 2, 16), (F.HIF_QP_STAT.STATE 2, 1)]) with
    host := { gathering0.host with nextId := 4, infl := [⟨1, 2, nop0, 0, .done c, []⟩, ⟨2, 3, nop0, 0, .fetched, []⟩, ⟨3, 2, nop0, 0, .done c, []⟩] } }

/-- A Basin whose STATE table holds the rows given. -/
def stated0 (row : List Nat) : State := { gathering0 with tbl := { gathering0.tbl with img := image1 secSTATE 0xFE ([row.length / 8, 0, 0, 0] ++ List.replicate 128 0 ++ row) } }

/-- The state a step answers. -/
def ran (s : State) : State := match Sys2Proof.Machine.step s with
  | .next t => t
  | _ => s

/-- The straps and NOR probes of a Spring on side B without NOR. -/
def bootB : BootIn := { role := .spring, side := .b, boot := 1, cs0 := .absent, cs1 := .absent }

/-- A fetched descriptor of SQ 2. -/
def infl0 (oc : Nat) (param : List Nat) : Infl := ⟨1, 2, { nop0 with opcode := oc, param := param }, 0, .fetched, []⟩

/-- A state with one descriptor in flight, its pair enabled. -/
def holding (s : State) (x : Infl) : State :=
  { (fields s [(F.HIF_QP_SIZE.CQ_SIZE 2, 16), (F.HIF_QP_SIZE.SQ_SIZE 2, 16), (F.HIF_QP_STAT.STATE 2, 1)]) with host := { s.host with nextId := 5, infl := [x] } }

/-- A pair of password bytes, and the NOR with its hash stored. -/
def pw0 : List Nat := [0x61, 0x62, 0x63, 0x64, 0x65, 0x66, 0x67, 0x68]
def pwSet0 (s : State) : State := { s with nor := { s.nor with pwHash := some (sha256 (leBytes 8 Config.serialNumber ++ pw0)) } }

/-- A laid-out NOR. -/
def nor0 (s : State) : State := { s with nor := { s.nor with noNor := false, layout := 1 } }

/-- An event record and a ledger record. -/
def evRec0 : EvRec := { seq := 5, stamp := 0, secLo := 0, epoch := 1, code := 1, source := 0xC0, commit := 0, sev := 1, todValid := false, journal := false, suppressed := 0, lseq := 3, tick := 0, payload := [] }
def led0 : LedgerRec := { packSerial := [], devSerial := 7, eIn := 1, eOut := 2, recSec := 0, epoch := 1, rseq := 1, kind := 0, todValid := false, unauth := false, index := 3, tag := 0, lseq := 9 }

/-- A Basin whose CAN controller 1 carries the safety PDUs. -/
def pdu0 : State :=
  { (fields State.reset [(F.CLK_PLLS_STAT.ON_SAFE, 0), (F.SAFE_PDU_CFG.TX_EN, 1), (F.SAFE_PDU_CFG.RX_EN, 1), (F.SAFE_PDU_CFG.UNIT, 1), (F.SAFE_PDU_CFG.TX_MS, 20), (F.SAFE_PDU_CFG.RX_WD_MAX, 100),
      (F.SAFE_PDU_RXCONN.CONN, 77), (F.CAN_CTRL.INIT 1, 0), (F.CAN_ECR.STATE 1, 0), (F.CAN_CTRL.MODE 1, 0), (F.CAN_CTRL.FDOE 1, 1)]) with
    safe := { State.reset.safe with rxSeq := some 5 } }

/-- A PDU frame with a sequence number. -/
def pduFrame0 (seq : Nat) : CanFrame := ⟨false, 0, false, true, true, false, 14, pduBytes seq 40 77 2 []⟩

/-- A PDU that says STOP, a Basin whose controller 1 sends PDUs by its buffer 3, and the PDU due then. -/
def pduStop0 (seq : Nat) : CanFrame := { pduFrame0 seq with data := pduBytes seq 40 77 2 [1] }
def pduT0 : State :=
  fields pdu0 [(F.CAN_RAMRX0.COUNT 1, 4), (F.CAN_RAMRX0.BASE 1, 0), (F.CAN_RAMTX.COUNT 1, 4), (F.CAN_RAMTX.BASE 1, 1024)]
def pduS0 : State := { fields pduT0 [(F.CAN_TXREQ.BUF 1, 8)] with can := { pduT0.can with units := pduT0.can.units.set 1 { reqAt := [(3, 0)] } } }
def pduF0 (dt : Nat) : CanFrame :=
  ⟨pduT0.flag F.SAFE_PDU_TXID.IDE, pduT0.get F.SAFE_PDU_TXID.ID, false, true, true, false, 14,
    pduBytes pduT0.safe.txSeq (2 * pduT0.get F.SAFE_PDU_CFG.TX_MS) (pduT0.get F.SAFE_PDU_TXCONN.CONN) 1 (State.advance dt pduT0).pduStatus⟩

/-- A demand entry that stands in slot 3. -/
def entry0 : Entry :=
  { slot := 3, id := 1, q := 2, tag := 77, cls := 3, kind := 0, target := 0, amount := 100, hold := 4, duration := 9, minFrac := 0, waited := 5, left := none, lastF := 0, lastTick := 0, lastR := 0 }

/-- An inserted spare that has not opened. -/
def ins0 : InsItem := { pos := some 1, gone := 0xFF, since := 0, spare := some 20, placed := some 100, opened := false }

/-- A live device whose CAN controller 1 is out of INIT, with a receive FIFO of four elements at word 0 and four transmit buffers at word 0x400. -/
def can0 (s : State) : State :=
  fields s [(F.CLK_PLLS_STAT.ON_SAFE, 0), (F.CAN_CTRL.INIT 1, 0), (F.CAN_ECR.STATE 1, 0), (F.CAN_RAMRX0.COUNT 1, 4), (F.CAN_RAMRX0.BASE 1, 0), (F.CAN_RAMTX.COUNT 1, 4), (F.CAN_RAMTX.BASE 1, 1024)]

/-- A classic data frame of two bytes. -/
def canFrame0 : CanFrame := ⟨false, 0x123, false, false, false, false, 2, [7, 9]⟩

/-- The same controller with transmit buffer 2 requested. -/
def canTx0 (s : State) : State :=
  { fields (can0 s) [(F.CAN_TXREQ.BUF 1, 4)] with can := { s.can with units := s.can.units.set 1 { reqAt := [(2, 0)] } } }

/-- The same with loop delays measured, with its event kept in an event FIFO of four entries, and at the end of a run of bit errors. -/
def tdc0 : State := State.ramStore (leBytes 4 0 ++ leBytes 4 (2 ^ 21 + 2 ^ 20)) ((canTx0 State.reset).txAddr 1 2) (fields (canTx0 State.reset) [(F.CAN_DBTP.TDC_EN 1, 1), (F.CAN_CTRL.BRSE 1, 1)])
def tef0 : State := State.ramStore (leBytes 4 5 ++ leBytes 4 (2 ^ 23)) ((canTx0 State.reset).txAddr 1 2) (fields (canTx0 State.reset) [(F.CAN_RAMTEF.COUNT 1, 4), (F.CAN_RAMTEF.BASE 1, 2048)])
def dup0 : State :=
  { fields (canTx0 State.reset) [(F.CAN_CTRL.DUP_ABORT 1, 1)] with can := { State.reset.can with units := State.reset.can.units.set 1 { reqAt := [(2, 0)], dup := [(2, 7, 3)] } } }

/-- A reference message requested, and a filter that puts identifier 0x123 into receive buffer 1. -/
def ref0 : State :=
  { fields (can0 State.reset) [(F.CAN_REF.EN 1, 1), (F.CAN_CTRL.FDOE 1, 1), (F.CAN_RAMTX.COUNT 1, 0)] with can := { State.reset.can with units := State.reset.can.units.set 1 { reqAt := [(32, 0)] } } }
def rxb0 : State :=
  State.ramStore (leBytes 4 (4 * 2 ^ 27 + 0x123 * 2 ^ 16 + 1)) 1600 (fields (can0 spring0) [(F.CAN_RAMSF.COUNT 1, 1), (F.CAN_RAMSF.BASE 1, 400), (F.CAN_RAMRXB.COUNT 1, 4), (F.CAN_RAMRXB.BASE 1, 512)])

/-- A MGMT frame from Spring 16 to Basin A. -/
def mgmt0 (op param : Nat) (payload : List Nat) : Mgmt := { relayed := false, addr := 0xC0, src := 16, op := op, mseq := 1, chain := 1, hop := 0, param := param, payload := payload }

/-- The blocks of a frame as its sender puts them out, and a state whose lanes run. -/
def heard (f : Frame) : List Block := frameBlocks (wireBytes f)
def mheard (m : Mgmt) : List Block := heard (.mgmt m)
def lit (s : State) : State := fields s [(F.CLK_PLLL_STAT.STATE, 3)]

/-- A Basin with every port UP and one frame unacknowledged by Spring 16. -/
def mout0 (w : Owner) : MOut := ⟨{ mgmt0 0x00 8 [] with addr := 16, src := 0xC0 }, w, 3⟩
def linked0 : State :=
  { (fields gathering0 [(F.LNK_MGMT_CFG.TMO, 2), (F.LNK_MGMT_CFG.RETRY, 3)]) with
    lnk := { gathering0.lnk with peers := [{ dest := 16, tx := some 1, rx := some 4, unacked := [mout0 .none] }],
                                 awaits := [{ dest := 16, op := 0, mseq := 1, param := 8, owner := .none, at' := 3 }] } }

/-- A fetched SET_DEMAND of SQ 2 for arm 0. -/
def dem0 (param : List Nat) : Infl := { infl0 0x02 [] with d := { nop0 with opcode := 0x02, target := 0, param := param } }

/-- A READY Basin without Springs, its temperature measured. -/
def cool0 : State :=
  { fields active0 [(F.CTL_STATUS.STATE, 1), (F.THM_STATUS.DIE_INVALID, 0), (F.THM_STATUS.T_DIE, 500)] with tbl := { active0.tbl with img := image1 secARM 0xFE ([1, 0, 0, 0] ++ List.replicate 128 0) } }

/-- An image of 128 bytes with one section, its checks passing: header, directory, a gap, the section, IMG_CRC. -/
def imageOk (type target : Nat) (b : List Nat) : List Nat :=
  let h := leBytes 4 0x4D495456 ++ leBytes 4 (State.reset.rd F.CMN_REV.REV.off).toNat ++ leBytes 4 7 ++ leBytes 4 128 ++ [1, 0, 0, 0] ++ List.replicate 40 0
  let l := h ++ leBytes 4 (crc32 h) ++ [type, 1] ++ leBytes 2 target ++ leBytes 4 (124 - b.length) ++ leBytes 4 b.length ++ leBytes 4 (crc32 b) ++ List.replicate (44 - b.length) 0 ++ b
  l ++ leBytes 4 (crc32 l)

/-- An image a bank may hold: one REG entry for every Basin. -/
def bankImg0 : List Nat := imageOk secREG 0xFE (leBytes 4 F.THM_THR_CFG.GRACE.off ++ leBytes 4 0x60000009)

/-- A dispatching Basin in tick 5 with a usable NOR whose bank B holds an image. -/
def bankB0 (b : List Nat) (valid : Bool) : State :=
  { nor0 (fields gathering0 [(F.TBL_STATUS.IN_FORCE, 0), (F.CTL_STATUS.TICK_RUN, 1)]) with nor := { State.reset.nor with noNor := false, layout := 1, bankB := { bytes := b, valid := valid } } }

/-- An enrolled Spring that has heard Basin A, and a frame to it. -/
def enr1 : State := { enrolled0 with lnk := { enrolled0.lnk with peers := [{ dest := 0xC0, tx := some 1, rx := some 4 }] } }
def toSpr0 (op param : Nat) (payload : List Nat) : Mgmt := { relayed := false, addr := 1, src := 0xC0, op := op, mseq := 5, chain := 0, hop := 0, param := param, payload := payload }

/-- A remote access of one word to Spring 16, its frame on the way. -/
def rem0 (oc : Nat) : Infl := { infl0 oc [8, 0, 0, 0, 1, 0] with d := { nop0 with opcode := oc, target := 16, buffer := 4096, param := [8, 0, 0, 0, 1, 0] }, phase := .mgmt 1 0 }
def remI0 : Infl := { rem0 0x19 with phase := .fetched, d := { (rem0 0x19).d with flags := 4, param := [8, 0, 0, 0, 1, 0, 0, 0, 9, 0, 0, 0] } }
def remU0 : Infl := { rem0 0x19 with phase := .fetched, d := { (rem0 0x19).d with param := leBytes 4 F.SAFE_SUNLOCK.UNLOCK.off ++ [1, 0] } }
def awaits0 (op oc : Nat) : State :=
  { holding linked0 (rem0 oc) with lnk := { linked0.lnk with awaits := [{ dest := 16, op := op, mseq := 1, param := 8, owner := .infl 1 0 1, at' := 3 }] } }

/-- A table load of one 64-byte piece, and an image header that announces 128 bytes. -/
def load0 (off flags : Nat) : Infl := { infl0 0x10 [] with d := { nop0 with opcode := 0x10, length := 64, flags := flags, param := [1, 0, 0, 0] ++ leBytes 4 off } }
def words0 (b : List Nat) : List Word := (List.range (b.length / 4)).map (fun i => BitVec.ofNat 32 (bytesAt b (4 * i) 4))
def swap0 : Infl := { infl0 0x11 [] with d := { nop0 with opcode := 0x11, param := [1] } }

/-- A run of unit 2 that samples, and calibrations of units 1 and 2. -/
def run0 : AdcRun := { entries := [0, 1], sampling := true }
def runs0 (s : State) : State := { s with adc := { s.adc with units := s.adc.units.set 2 { run := some run0 } } }
def jobAt0 (j : CalJob) : State := { active0 with adc := { active0.adc with units := active0.adc.units.set 1 { job := some j, jobAt := 5 } } }
def cal2 : State := { active0 with adc := { active0.adc with units := (active0.adc.units.set 1 { job := some (.self none), jobAt := 5 }).set 2 { job := some (.self none), jobAt := 5 } } }

/-- Calibration descriptors for this Basin. -/
def cal0 (param : List Nat) : Infl := { infl0 0x38 [] with d := { nop0 with opcode := 0x38, target := 0xC0, param := param } }
def sys0 (param : List Nat) : Infl := { infl0 0x39 [] with d := { nop0 with opcode := 0x39, target := 0xC0, param := param } }

/-- A Basin whose pair 2 has one descriptor submitted. -/
def sub0 : State := { waiting0 with host := { waiting0.host with infl := [], pairs := waiting0.host.pairs.set 2 { sqTail := 1 } } }

/-- A HEALTH payload, a Basin whose image declares a pair, and a standby of it that ticks. -/
def health0 : Health := { role := 2, side := .b, fit := 1, claim := 1, tick := 5, shadowMis := 0, rowsLeft := 0, rowsPend := 0, eccCorr := 0, prbsTested := 0, prbsFail := 0, vaon := 3, sens := 0, voteExcl := 0, chainExcl := 0, secondPath := 0, norSpare := 0, recorder := 0 }
def pair0 : State := { State.reset with tbl := { State.reset.tbl with img := (image1 secARM 0xFE (List.replicate 132 0)) } }
def stand0 : State :=
  { fields pair0 [(F.RED_CLAIM.ROLE, 2), (F.CTL_TICK_NUM.TICK, 5), (F.LNK_PSTAT.STATE 1, 2), (F.THM_STATUS.DIE_INVALID, 0)] with ctl := { pair0.ctl with bound := 3 } }

/-- A SAFETY_CFG for a target with OLD_CRC and NEW_CRC, the unlocked Basin that holds it, its entries, and what writing them gives. -/
def cfgX (target n old new : Nat) : Infl := { infl0 0x41 [] with d := { nop0 with opcode := 0x41, target := target, length := 8 * n, param := leBytes 4 old ++ leBytes 4 new } }
def cfgS (x : Infl) : State := holding (fields linked0 [(F.SAFE_STAT.UNLOCKED, 1)]) x
def cfgW (o v : Nat) : List Word := [BitVec.ofNat 32 o, BitVec.ofNat 32 v]
def cfgU (s : State) (ws : List Word) : State :=
  (cfgPairs ws).foldl (fun (y : State) (e : Nat × Nat) => y.cfgWrite true {} e.1 e.2) { State.advance 5 s with safe := { s.safe with lastAct := s.time.cyc + 5 } }
def cfgV (s : State) (ws : List Word) : State := (cfgU s ws).safetyChange (s.get F.SAFE_CRC.CRC) ((cfgU s ws).get F.SAFE_CRC.CRC) 0 (cfgU s ws).basinId
def cfgR (s : State) (ws : List Word) : State :=
  ((cfgPairs ws).map (fun e => (e.1, (s.rd e.1).toNat))).foldl (fun (y : State) (e : Nat × Nat) => y.writeFields false e.1 e.2) (cfgU s ws)

/-- The same Basin with another hash stored and two failures counted. -/
def pwBad0 : State :=
  let s := nor0 (holding active0 (infl0 0x40 (pw0 ++ [7, 0, 0, 0])))
  { s with nor := { s.nor with pwHash := some (1 :: sha256 (leBytes 8 Config.serialNumber ++ pw0)) }, safe := { s.safe with fails := 2 } }

/-- Unit 1 with self-calibration factors that change nothing, the codes of a quiet 256 conversions, and a calibration asked of Spring 16. -/
def plain0 (s : State) : State :=
  { s with regs := s.regs.filter (fun x => decide (x.1 < (F.ADC_CAL.LO 1 0).off)) ++ (List.range 8).map (fun i => ((F.ADC_CAL.LO 1 i).off, if 1 ≤ i ∧ i ≤ 4 then 0x4000#32 else 0#32)) ++
      s.regs.filter (fun x => decide ((F.ADC_CAL.LO 1 7).off < x.1)) }
def quiet0 (v : Int) : List Conv := List.replicate 256 (v, 0)
def far0 (x : Infl) : Infl := { x with d := { x.d with target := 16 } }

/-- A Spring in PSC whose carrier's period is 40,000 steps, every high side on, and a commissioning programme of channel 2. -/
def psc0 : State :=
  { running0 with spr := { running0.spr with slot := some { slot0 with mode := 1 }, carrier := true, hbPer := 40000 },
                  gate := { running0.gate with bypCmd := true, bypFb := false, hbs := List.replicate 6 hbOn } }
def test0 : State := { running0 with spr := { running0.spr with slot := some slot0 }, gate := { running0.gate with test := some ⟨2, 4000, 50, 100, 50⟩ } }

/-- The blocks of a TICK frame, and a Spring between ticks that has taken a header. -/
def tickBs (f : TickFrame) : List Block := heard (.tick f)
def spring5 : State := { (fields enrolled0 [(F.TIME_STATUS.LOADED, 1)]) with spr := { enrolled0.spr with hdr := some hdr0 } }

/-- The blocks of a telemetry frame and what they spell. -/
def telBs (x : Telem) : List Block := heard (.telem x)
def tel (x : Telem) : Telem := telemOf (hear (telBs x)).bytes

/-- A standby that follows headers, in tick 4. -/
def shadow0 : State := { (fields gathering0 [(F.RED_CLAIM.ROLE, 2), (F.CTL_TICK_NUM.TICK, 4)]) with red := { gathering0.red with hdr := some hdr0 } }

/-- Well-formed frames and records. -/
def descOk : Desc := { nop0 with param := List.replicate 40 0 }
def mgmtOk : Mgmt := { relayed := false, addr := 0xC0, src := 16, op := 1, mseq := 1, chain := 1, hop := 0, param := 8, payload := [1, 0] }
def syncOk : SyncFrame := ⟨1, 7, false, 6, 0, 0, 0, 0⟩
def replyOk : EnrolReply := ⟨17, 2, 3, 4, 0, 99, 0⟩


/-! ### Well-formedness -/

/-- One ill-formed descriptor for each check (R326). -/
theorem smoke_desc : (descOk).wf = true ∧ ([{ descOk with opcode := 2 ^ 8 }, { descOk with flags := 2 ^ 8 }, { descOk with tag := 2 ^ 16 }, { descOk with target := 2 ^ 16 }, { descOk with applyTick := 2 ^ 32 }, { descOk with length := 2 ^ 32 }, { descOk with buffer := 2 ^ 64 }, { descOk with param := [] }, { descOk with param := List.replicate 40 256 }] : List Desc).all (fun x => !x.wf) = true := by decide +kernel

/-- One ill-formed slot for each check (R72). -/
theorem smoke_slot : (slot0).wf = true ∧ ([{ slot0 with mode := 2 ^ 8 }, { slot0 with level := 2 ^ 7 }, { slot0 with level := -129 }, { slot0 with seq := 2 ^ 16 }, { slot0 with m := 2 ^ 15 }, { slot0 with phase := 2 ^ 24 }, { slot0 with pDab := 2 ^ 15 }, { slot0 with cmdSrc := 2 ^ 8 }, { slot0 with cmdOp := 2 ^ 8 }, { slot0 with cmdParam := [] }, { slot0 with cmdParam := List.replicate 14 256 }] : List Slot).all (fun x => !x.wf) = true := by decide +kernel

/-- One ill-formed header for each check (R39, R242). -/
theorem smoke_tick_header : (hdr0).wf = true ∧ ([{ hdr0 with tick := 0 }, { hdr0 with tick := 2 ^ 32 }, { hdr0 with bound := 2 ^ 32 }, { hdr0 with period := 2 ^ 16 }, { hdr0 with claim := 2 ^ 16 }, { hdr0 with nslot := 0 }, { hdr0 with nslot := 17 }, { hdr0 with state := 2 ^ 5 }, { hdr0 with weirHold := 2 ^ 12 }, { hdr0 with epoch := 2 ^ 16 }, { hdr0 with weirRstamp := 2 ^ 32 }, { hdr0 with todSec := 2 ^ 48 }, { hdr0 with todNs := 2 ^ 30 }] : List TickHdr).all (fun x => !x.wf) = true := by decide +kernel

/-- One ill-formed TICK frame for each check (R240, R242). -/
theorem smoke_tick_frame : (frame0).wf = true ∧ ([{ frame0 with chain := 12 }, { frame0 with hdr := { hdr0 with tick := 0 } }, { frame0 with slots := [] }, { frame0 with slots := [slot0, slot0, { slot0 with mode := 256 }] }] : List TickFrame).all (fun x => !x.wf) = true := by decide +kernel

/-- One ill-formed telemetry for each check (R74). -/
theorem smoke_telem : (telem0).wf = true ∧ ([{ telem0 with spring := 192 }, { telem0 with tick := 2 ^ 32 }, { telem0 with epoch := 2 ^ 8 }, { telem0 with slotSeq := 2 ^ 16 }, { telem0 with measStamp := 2 ^ 32 }, { telem0 with vDc := 2 ^ 16 }, { telem0 with vLv := 2 ^ 16 }, { telem0 with mode := 2 ^ 8 }, { telem0 with hbFault := 2 ^ 8 }, { telem0 with soc := 2 ^ 16 }, { telem0 with soh := 2 ^ 16 }, { telem0 with iChgLim := 2 ^ 16 }, { telem0 with iDisLim := 2 ^ 16 }, { telem0 with vPackBms := 2 ^ 16 }, { telem0 with bmsAge := 2 ^ 16 }, { telem0 with eIn := 2 ^ 32 }, { telem0 with eOut := 2 ^ 32 }, { telem0 with pLimChg := 2 ^ 16 }, { telem0 with pLimDis := 2 ^ 16 }, { telem0 with bmsFault := 2 ^ 16 }, { telem0 with cellStatus := 2 ^ 16 }, { telem0 with clipSrc := 2 ^ 16 }, { telem0 with evtCount := 2 ^ 16 }, { telem0 with adcFlags := 2 ^ 16 }, { telem0 with iStr := 2 ^ 15 }, { telem0 with iLv := 2 ^ 15 }, { telem0 with iPack := 2 ^ 15 }, { telem0 with pHb := 2 ^ 15 }, { telem0 with pDab := 2 ^ 15 }, { telem0 with mApplied := 2 ^ 15 }, { telem0 with dabY := 2 ^ 15 }, { telem0 with tHs := 2 ^ 15 }, { telem0 with tDie := 2 ^ 15 }, { telem0 with tCellMin := 2 ^ 15 }, { telem0 with tCellMax := 2 ^ 15 }, { telem0 with timeErr := 2 ^ 31 }, { telem0 with sel := [] }, { telem0 with sel := [0, 0, 0, 32768] }] : List Telem).all (fun x => !x.wf) = true := by decide +kernel

/-- One ill-formed MGMT frame for each check (R246). -/
theorem smoke_mgmt : (mgmtOk).wf = true ∧ ([{ mgmtOk with addr := 2 ^ 8 }, { mgmtOk with src := 2 ^ 8 }, { mgmtOk with op := 2 ^ 8 }, { mgmtOk with mseq := 2 ^ 16 }, { mgmtOk with chain := 2 ^ 8 }, { mgmtOk with hop := 2 ^ 8 }, { mgmtOk with param := 2 ^ 32 }, { mgmtOk with payload := List.replicate 257 0 }, { mgmtOk with payload := [256] }] : List Mgmt).all (fun x => !x.wf) = true := by decide +kernel

/-- One ill-formed SYNC frame for each check (R254). -/
theorem smoke_sync : (syncOk).wf = true ∧ ([{ syncOk with kind := 2 ^ 8 }, { syncOk with port := 2 ^ 4 }, { syncOk with sseq := 2 ^ 16 }, { syncOk with t2 := 2 ^ 48 }, { syncOk with t3 := 2 ^ 48 }, { syncOk with mhop := 2 ^ 8 }, { syncOk with terr := 2 ^ 31 }] : List SyncFrame).all (fun x => !x.wf) = true := by decide +kernel

/-- One ill-formed CAN frame for each check (R447). -/
theorem smoke_can_frame : (canFrame0).wf = true ∧ ([{ canFrame0 with id := 2048 }, { canFrame0 with ide := true, id := 2 ^ 29 }, { canFrame0 with dlc := 16 }, { canFrame0 with data := List.replicate 9 0 }, { canFrame0 with fdf := true, data := List.replicate 65 0 }, { canFrame0 with data := [256] }, { canFrame0 with fdf := true, rtr := true }] : List CanFrame).all (fun x => !x.wf) = true := by decide +kernel

/-- One ill-formed ENROL_REPLY for each check (R253). -/
theorem smoke_enrol_reply : (replyOk).wf = true ∧ ([{ replyOk with index := 192 }, { replyOk with position := 0 }, { replyOk with position := 17 }, { replyOk with ports := 2 ^ 5 }, { replyOk with epoch := 2 ^ 8 }, { replyOk with rev := 2 ^ 32 }, { replyOk with serial := 2 ^ 64 }, { replyOk with straps := 2 ^ 4 }] : List EnrolReply).all (fun x => !x.wf) = true := by decide +kernel

/-- One ill-formed set of straps and probes for each check (R490, R526). -/
theorem smoke_boot : (bootB).wf = true ∧ ([{ bootB with boot := 4 }, { bootB with cs0 := .device 0 }, { bootB with cs1 := .device 0 }] : List BootIn).all (fun x => !x.wf) = true := by decide +kernel

/-- One ill-formed set of grid inputs for each check. -/
theorem smoke_grid : (({} : GridIn)).wf = true ∧ ([{ ({} : GridIn) with err := List.replicate 17 0 }, { ({} : GridIn) with ff := List.replicate 17 0 }, { ({} : GridIn) with prot := List.replicate 13 0 }, { ({} : GridIn) with links := List.replicate 13 [] }] : List GridIn).all (fun x => !x.wf) = true := by decide +kernel

/-- One ill-formed context of a write for each check. -/
theorem smoke_write : (({} : WrIn)).wf = true ∧ ([{ ({} : WrIn) with clean := 4096 }] : List WrIn).all (fun x => !x.wf) = true := by decide +kernel

/-- One ill-formed read request for each check (R9). -/
theorem smoke_host_read : (({ off := 0x3FFFC, len := 4 } : HostRd)).wf = true ∧ ([{ ({ off := 0x3FFFC, len := 4 } : HostRd) with off := 0x40000 }] : List HostRd).all (fun x => !x.wf) = true := by decide +kernel

/-- One ill-formed block for each check (R237). -/
theorem smoke_block : (heard (.mgmt mgmtOk)).all Block.wf = true ∧ ([.data [1, 2], .data [1, 2, 3, 4, 5, 6, 7, 256], .start [1, 2], .start [1, 2, 3, 4, 5, 6, 256], .term [1, 2, 3, 4, 5, 6, 7, 8], .term [256],
    .oset (2 ^ 56)] : List Block).all (fun x => !x.wf) = true := by decide +kernel

/-- One ill-formed answer of the NOR for each check (R490). -/
theorem smoke_nor_probe : NorProbe.absent.wf = true ∧ ([.unsupported 256, .device 0] : List NorProbe).all (fun x => !x.wf) = true := by decide +kernel

/-- An ill-formed frame of each type (R240). -/
theorem smoke_frame : ([.tick { frame0 with chain := 12 }, .telem { telem0 with spring := 192 }, .mgmt { mgmtOk with op := 256 }, .sync { syncOk with kind := 256 }] : List Frame).all (fun x => !x.wf) = true := by decide +kernel

/-- Ill-formed data of a host buffer (R327, R328). -/
theorem smoke_host_buf : ([.words (List.replicate 16385 0#32), .failed 0, .failed 5] : List HostBuf).all (fun x => !x.wf) = true := by decide +kernel

/-- One ill-formed command for each check of a command's operands, part 1. -/
theorem smoke_commands_1 : ([.porstNRelease { bootB with boot := 4 }, .registerWrite 0 0x40000 4 [0#32] {}, .registerWrite 0 0 8 [0#32] {}, .registerWrite 0 0 0 [] { clean := 4096 }, .gatherDeadline 0 { prot := List.replicate 13 0 }, .telemRx 0 0 [.term [256]], .tickRx 0 0 [.term [256]], .clear ((2 ^ 12)), .desatFault 0 0 false ((2 ^ 12)) 0, .resumeTest 0 0 false ((2 ^ 12)), .weirRxSpring 0 0 ((2 ^ 56)), .weirRxBasin 0 0 ((2 ^ 56)), .adcTrigger 0 0 ((2 ^ 4)) [], .selfCalDone 0 0 0 ((List.replicate 5 0)) [], .selfCalDone 0 0 0 [] ((List.replicate 7 0)), .tableLoad 0 0 (.words (List.replicate 16385 0#32))] : List Instr).all (fun i => !i.wf) = true := by decide +kernel

/-- One ill-formed command for each check of a command's operands, part 2. -/
theorem smoke_commands_2 : ([.tableLoad 0 0 (.failed 0), .tableLoad 0 0 (.failed 5), .remoteWrite 0 0 (.words (List.replicate 16385 0#32)), .remoteWrite 0 0 (.failed 0), .remoteWrite 0 0 (.failed 5), .logRead 0 0 [(0, 65536, 0)], .syscalZero 0 0 none [256], .syscalFull 0 0 none [256], .syscalClear 0 0 none [256], .safetyCfg 0 0 (.words (List.replicate 16385 0#32)), .safetyCfg 0 0 (.failed 0), .safetyCfg 0 0 (.failed 5), .energise 0 0 ((List.replicate 13 [])), .descriptorFetch 0 [1, 2], .descriptorFetch 0 ((256 :: List.replicate 63 0)), .fetchErr 0 0] : List Instr).all (fun i => !i.wf) = true := by decide +kernel

/-- One ill-formed command for each check of a command's operands, part 3. -/
theorem smoke_commands_3 : ([.fetchErr 0 5, .pcieLinkUp 0 0 [(4096, 0#32)], .rdReq 0 0 [.term [256]], .rdResp 0 0 [.term [256]], .wrReq 0 0 [.term [256]] {}, .wrReq 0 0 [] { clean := 4096 }, .wrAck 0 0 [.term [256]], .ack 0 0 [.term [256]], .nak 0 0 [.term [256]], .mgmtTimeout 0 ((2 ^ 8)), .responseTimeout 0 ((2 ^ 8)) 0, .responseTimeout 0 0 ((2 ^ 16)), .enrolReq 0 0 [.term [256]], .enrolReply 0 0 [.term [256]], .linkReport 0 0 [.term [256]], .farReport 0 0 [.term [256]]] : List Instr).all (fun i => !i.wf) = true := by decide +kernel

/-- One ill-formed command for each check of a command's operands, part 4. -/
theorem smoke_commands_4 : ([.tableChunkBegin 0 0 [.term [256]], .tableChunkData 0 0 [.term [256]], .tableChunkEnd 0 0 [.term [256]], .tableChunkCommit 0 0 [.term [256]], .tableChunkAbandon 0 0 [.term [256]], .tableChunkResult 0 0 [.term [256]], .record 0 0 [.term [256]], .health 0 0 [.term [256]], .heartbeat 0 0 [.term [256]], .bistSegment 0 ((some (2 ^ 16))) 0 0, .bistSegment 0 none ((2 ^ 12)) 0, .bistSegment 0 none 0 ((2 ^ 12)), .eccCorrected 0 0 ((2 ^ 16)), .sramUncorr 0 0 ((2 ^ 16)), .train 0 0 ((2 ^ 56)), .eiEnter 0 0 ((2 ^ 56))] : List Instr).all (fun i => !i.wf) = true := by decide +kernel

/-- One ill-formed command for each check of a command's operands, part 5. -/
theorem smoke_commands_5 : ([.frameForward 0 0 [.term [256]], .syncRequest 0 0 [.term [256]] 0, .syncResponse 0 0 [.term [256]], .timeStampRead 0 ((some ⟨0x40000, 4, true⟩)), .pllHoldover .s 2, .pllLocked .s 3 0, .pllUnlock .s 2, .refclkBad ((2 ^ 32)), .lockaFault ((2 ^ 16)), .lockaOk ((2 ^ 16)), .safetyPduRx 0 0 { canFrame0 with dlc := 16 }, .canFrameRx 0 0 { canFrame0 with dlc := 16 } 0 false 0 0, .canTxDone 0 0 0 ((some (2 ^ 32))) 0 0, .elementLock 0 0 0 ((some ⟨0x40000, 4, true⟩)), .elementRelease 0 0 ((some ⟨0x40000, 4, true⟩)), .rateSummary 0 ((2 ^ 16))] : List Instr).all (fun i => !i.wf) = true := by decide +kernel

/-- One ill-formed command for each check of a command's operands, part 6. -/
theorem smoke_commands_6 : ([.norBlockBad 0 ((2 ^ 16)) 0 0] : List Instr).all (fun i => !i.wf) = true := by decide +kernel

/-! Worked figures of the manual and of the standards it names. -/

/-- The CRC-32 of IEEE 802.3, which R240 names, over the nine digits: its published check value. -/
theorem test_crc32 : crc32 [0x31, 0x32, 0x33, 0x34, 0x35, 0x36, 0x37, 0x38, 0x39] = 0xCBF43926 := by decide +kernel

/-- The first word of SHA-256 over "abc", as FIPS 180-4 publishes it; R424 names that hash. -/
theorem test_sha256 : (sha256 [0x61, 0x62, 0x63]).take 4 = [0xba, 0x78, 0x16, 0xbf] := by decide +kernel

/-- The carrier offsets of the example of 02_control_tick.md: 30 cells, a carrier period of 1,333,333 steps. -/
theorem test_carrier_offsets : carrierOffset 1333333 30 1 = 22222 ∧ carrierOffset 1333333 30 29 = 644444 := by decide +kernel

/-- The sum of the example of 05_conversion.md: conversions 15,729 and 15,761 with SHIFT 1 give 15,745. -/
theorem test_adc_average : adcValue 1 [15729, 15761] = 15745 := by decide +kernel

/-- The curves of the example of 03_sluice_allocation.md: F_SOC_DIS at 55 percent is 0.91667, F_SOH at 68 percent 0.63333 (in steps of 2^-15, rounded down). -/
theorem test_curves : curveAt [(100, 0), (300, 16384), (600, 32768), (1000, 32768)] 550 = 30037 ∧ curveAt [(600, 16384), (900, 32768)] 680 = 20753 := by decide +kernel

/-- Tick 0 does not exist: 0xFFFFFFFF is followed by 1 (R39). -/
theorem test_tick_skips_zero : tickSucc 0xFFFFFFFF = 1 ∧ tickPred 1 = 0xFFFFFFFF := by decide +kernel

/-- A claim of 0 lies above one of 0xFFFF, and of two equal claims side A's lies higher (R378). -/
theorem test_claim_keys : keyHigher 0 .b 0xFFFF .a = true ∧ keyHigher 0xFFFF .a 0 .b = false ∧ keyHigher 5 .a 5 .b = true ∧ keyHigher 5 .b 5 .a = false := by decide +kernel

/-- Right after reset no output is on and the safe clock stands (R306, R414, R556). -/
theorem test_reset : State.reset.get F.SAFE_STAT.OUT_ON = 0 ∧ State.reset.flag F.CLK_PLLS_STAT.ON_SAFE = true ∧ State.reset.gatesLow = true ∧ State.reset.contactorsOff = true := by decide +kernel

/-- A step from reset with HOST_OFF in front latches its cause and empties the queue (R412). -/
theorem test_step_host_off : (ran { State.reset with pending := [.hostOff] }).get F.SAFE_STAT.DEMAND = 1 ∧ (ran { State.reset with pending := [.hostOff] }).pending = [] := by decide +kernel

/-- No word spells a command: the table gives its rows no bits. -/
theorem test_no_words : decodeTableWord 8 0 = none ∧ decodeTableWord 32 0xFFFFFFFF = none := by decide +kernel

/-! ### The hypotheses of the obligations -/

/-- A condition on what an Option holds, checked on a concrete Option. -/
theorem of_some {α : Type} {o : Option α} {p : α → Prop} [DecidablePred p] (h : (match o with | none => true | some x => decide (p x)) = true) : ∀ x, o = some x → p x := by
  intro x e; subst e; simpa using h

/-- The same of the second part of a pair. -/
theorem of_pair {α β : Type} {o : Option (α × β)} {c : α} {p : β → Prop} [DecidablePred p] (h : (match o with | none => true | some x => decide (p x.2)) = true) :
    ∀ a, o = some (c, a) → p a := by
  intro x e; subst e; simpa using h

/-- Two bounded quantifiers in another order. -/
theorem ball2 {n m : Nat} {p : Nat → Nat → Prop} (h : ∀ i, i < n → ∀ j, j < m → p i j) : ∀ i j, i < n → j < m → p i j := fun i j a b => h i a j b

/-- The password of a usable NOR is the stored one. -/
theorem pwHashOf_set {s : State} {h : List Nat} (u : (s.nor.layout == 1 && !s.nor.noNor) = true) (e : s.nor.pwHash = some h) : s.pwHashOf = h := by
  unfold State.pwHashOf; rw [if_pos u, e]; rfl

theorem pw_is : (infl0 0x40 (pw0 ++ [7, 0, 0, 0])).d.param.take 8 = pw0 := rfl

theorem pwSet_hash : (pwSet0 (nor0 (holding active0 (infl0 0x40 (pw0 ++ [7, 0, 0, 0]))))).pwHashOf = sha256 (leBytes 8 Config.serialNumber ++ pw0) :=
  pwHashOf_set (by decide +kernel) (by unfold pwSet0; rfl)

theorem pwBad_hash : pwBad0.pwHashOf = 1 :: sha256 (leBytes 8 Config.serialNumber ++ pw0) := pwHashOf_set (by decide +kernel) (by unfold pwBad0; rfl)

/-- A frame is the one due from its sender, checked on a concrete state. -/
theorem inOrder_of {s : State} {m : Mgmt}
    (h : (m.addr != 0xFD && m.addr != 0xFE && (match (s.peer m.src).rx with | some r => decide (r < 65536) && m.mseq == (r + 1) % 65536 | none => false)) = true) : s.InOrder m := by
  unfold State.InOrder
  cases e : (s.peer m.src).rx with
  | none => rw [e] at h; simp at h
  | some r => rw [e] at h; simp only [Bool.and_eq_true, bne_iff_ne, ne_eq, decide_eq_true_eq, beq_iff_eq] at h; exact ⟨h.1.1, h.1.2, r, rfl, h.2.1, h.2.2⟩

/-- States that meet the hypotheses of EmptyQueueIdles, clause by clause. -/
theorem meets_EmptyQueueIdles :
    (∃ (s : State), s.pending = []) ∧
    (∃ (s : State), s.pending = []) :=
  ⟨⟨State.reset, (by decide +kernel)⟩,
   ⟨running0, (by decide +kernel)⟩⟩

/-- States that meet the hypotheses of StrapsOnlyAtRelease, clause by clause. -/
theorem meets_StrapsOnlyAtRelease :
    (∃ (s : State) (t : State) (b : BootIn) (rest : List Instr), Sys2Proof.Machine.step s = .next t ∧ s.pending = .porstNRelease b :: rest) ∧
    (∃ (s : State) (t : State), Sys2Proof.Machine.step s = .next t ∧ (∀ b : BootIn, s.pending.head? ≠ some (.porstNRelease b))) ∧
    (∃ (s : State) (t : State), Sys2Proof.Machine.step s = .next t ∧ (∀ b : BootIn, s.pending.head? ≠ some (.porstNRelease b))) :=
  ⟨⟨{ State.reset with pending := [.porstNRelease bootB] }, (ran { State.reset with pending := [.porstNRelease bootB] }), bootB, [], (rfl), (by decide +kernel)⟩,
   ⟨{ State.reset with pending := [.porstNAssert] }, (ran { State.reset with pending := [.porstNAssert] }), (rfl), (by intro b h; cases h)⟩,
   ⟨running0, (ran running0), (rfl), (by intro b h; cases h)⟩⟩

/-- States that meet the hypotheses of StepKeepsClamp, clause by clause. -/
theorem meets_StepKeepsClamp :
    (∃ (s : State) (t : State), s.ClampInv ∧ Sys2Proof.Machine.step s = .next t) ∧
    (∃ (s : State) (t : State), s.ClampInv ∧ Sys2Proof.Machine.step s = .next t) ∧
    (∃ (s : State) (t : State), s.ClampInv ∧ Sys2Proof.Machine.step s = .next t) :=
  ⟨⟨{ running0 with pending := [.porstNAssert] }, (ran { running0 with pending := [.porstNAssert] }), (by unfold State.ClampInv; decide +kernel), (rfl)⟩,
   ⟨State.reset, State.reset, (by unfold State.ClampInv; decide +kernel), (rfl)⟩,
   ⟨{ State.reset with pending := [.resetNAssert 5] }, (ran { State.reset with pending := [.resetNAssert 5] }), (by unfold State.ClampInv; decide +kernel), (rfl)⟩⟩

/-- States that meet the hypotheses of FullResetHolds, clause by clause. -/
theorem meets_FullResetHolds :
    (∃ (s : State) (c : Instr) (rest : List Instr), s.pwr.full = true ∧ s.pending = c :: rest) ∧
    (∃ (s : State) (c : Instr) (rest : List Instr), s.pwr.full = true ∧ s.pending = c :: rest) :=
  ⟨⟨{ State.reset with pwr := { full := true }, pending := [.porstNRelease bootB] }, (.porstNRelease bootB), [], (by decide +kernel), (by decide +kernel)⟩,
   ⟨{ State.reset with pwr := { full := true }, pending := [.hostOff] }, .hostOff, [], (by decide +kernel), (by decide +kernel)⟩⟩

/-- States that meet the hypotheses of SuppliesAndPorst, clause by clause. -/
theorem meets_SuppliesAndPorst :
    (∃ (s : State), s.pwr.full = false) :=
  ⟨running0, (by decide +kernel)⟩

/-- States that meet the hypotheses of WarmResets, clause by clause. -/
theorem meets_WarmResets :
    (∃ (s : State) (_dt : Nat), s.pwr.full = false ∧ s.pwr.warm = false ∧ s.pwr.rstLow = false) ∧
    (∃ (s : State) (dt : Nat), s.pwr.full = false ∧ s.pwr.warm = true ∧ s.pwr.rstLow = true ∧ s.time.cyc + dt - s.pwr.rstAt < s.tStkMax) ∧
    (∃ (s : State) (dt : Nat), s.pwr.full = false ∧ s.pwr.warm = true ∧ s.pwr.rstLow = true ∧ s.time.cyc + dt - s.pwr.rstAt < s.tStkMax) ∧
    (∃ (s : State) (dt : Nat), s.pwr.full = false ∧ s.pwr.warm = true ∧ s.pwr.rstLow = true ∧ s.tStk ≤ s.time.cyc + dt - s.pwr.rstAt) ∧
    (∃ (s : State) (dt : Nat), s.live = true ∧ s.pwr.stuck = true ∧ s.pwr.rstLow = false ∧ s.pwr.highAt + s.tRel ≤ s.time.cyc + dt) ∧
    (∃ (s : State) (v : Word), s.live = true ∧ s.pwr.rstLow = false ∧ v.toNat % 256 = 0xA5 ∧ (s.role = .basin ∧ s.energisedRange = true ∨ s.role = .spring ∧ s.anySwitch = true)) ∧
    (∃ (s : State) (v : Word), s.live = true ∧ s.pwr.rstLow = false ∧ v.toNat % 256 = 0xA5 ∧ (s.role = .basin → s.energisedRange = false) ∧ (s.role = .spring → s.anySwitch = false)) ∧
    (∃ (s : State) (v : Word), s.live = true ∧ s.pwr.rstLow = false ∧ v.toNat % 256 = 0xA5 ∧ (s.role = .basin → s.energisedRange = false) ∧ (s.role = .spring → s.anySwitch = false)) ∧
    (∃ (s : State) (v : Word), s.live = true ∧ v.toNat % 256 ≠ 0xA5) :=
  ⟨⟨running0, 5, (by decide +kernel), (by decide +kernel), (by decide +kernel)⟩,
   ⟨{ running0 with pwr := { warm := true, rstLow := true, rstAt := 3 } }, 5000, (by decide +kernel), (by decide +kernel), (by decide +kernel), (by decide +kernel)⟩,
   ⟨{ State.reset with pwr := { warm := true, rstLow := true, rstAt := 3 } }, 5000, (by decide +kernel), (by decide +kernel), (by decide +kernel), (by decide +kernel)⟩,
   ⟨{ running0 with pwr := { warm := true, rstLow := true, rstAt := 3 } }, 1000000000, (by decide +kernel), (by decide +kernel), (by decide +kernel), (by decide +kernel)⟩,
   ⟨{ State.reset with pwr := { stuck := true, highAt := 3 } }, 60000000, (by decide +kernel), (by decide +kernel), (by decide +kernel), (by decide +kernel)⟩,
   ⟨(fields State.reset [(F.CTL_STATUS.STATE, 3)]), 0xA5#32, (by decide +kernel), (by decide +kernel), (by decide +kernel), (by decide +kernel)⟩,
   ⟨State.reset, 0xA5#32, (by decide +kernel), (by decide +kernel), (by decide +kernel), (by decide +kernel), (by decide +kernel)⟩,
   ⟨spring0, 0x5A5#32, (by decide +kernel), (by decide +kernel), (by decide +kernel), (by decide +kernel), (by decide +kernel)⟩,
   ⟨State.reset, 0x3#32, (by decide +kernel), (by decide +kernel)⟩⟩

/-- States that meet the hypotheses of ClockEvents, clause by clause. -/
theorem meets_ClockEvents :
    (∃ (s : State) (p : Pll) (_cause : Nat), s.pwr.full = false ∧ (s.get (pState p) = 2 ∨ s.get (pState p) = 3 ∨ s.get (pState p) = 5)) ∧
    (∃ (s : State) (p : Pll) (_cause : Nat), s.pwr.full = false ∧ (s.get (pState p) = 2 ∨ s.get (pState p) = 3 ∨ s.get (pState p) = 5)) ∧
    (∃ (s : State) (p : Pll), s.pwr.full = false ∧ s.get (pState p) = 1) ∧
    (∃ (s : State) (p : Pll), s.pwr.full = false ∧ s.get (pState p) = 1) ∧
    (∃ (s : State) (p : Pll) (_band : Nat), s.pwr.full = false ∧ s.get (pState p) = 0 ∧ s.clk.firstSearch = true ∧ s.flag F.CLK_REF.BAD = false ∧ 3 ∈ s.pwr.steps) ∧
    (∃ (s : State) (freq : Nat), s.pwr.full = false ∧ s.flag F.CLK_REF.BAD = false ∧ refNear freq = false) ∧
    (∃ (s : State) (_freq : Bool), s.pwr.full = false ∧ s.flag F.CLK_REF.BAD = true) ∧
    (∃ (s : State) (mv : Nat), s.pwr.full = false ∧ lockIn mv = false) ∧
    (∃ (s : State) (mv : Nat), s.pwr.full = false ∧ s.flag F.CLK_LOCKA.FAULT = true ∧ lockIn mv = true) ∧
    (∃ (s : State), s.pwr.full = false) ∧
    (∃ (s : State) (_waiting : Int) (net : Int), s.pwr.full = false ∧ s.flag F.CLK_PLLS_STAT.ON_SAFE = false ∧ -2147483648 ≤ net ∧ net < 2147483648) :=
  ⟨⟨(fields State.reset [(F.CLK_PLLS_STAT.STATE, 3)]), .s, 1, (by decide +kernel), (by decide +kernel)⟩,
   ⟨(fields State.reset [(F.CLK_PLLL_STAT.STATE, 5)]), .l, 2, (by decide +kernel), (by decide +kernel)⟩,
   ⟨(fields State.reset [(F.CLK_PLLL_STAT.STATE, 1)]), .l, (by decide +kernel), (by decide +kernel)⟩,
   ⟨(fields State.reset [(F.CLK_PLLS_STAT.STATE, 1)]), .s, (by decide +kernel), (by decide +kernel)⟩,
   ⟨{ fields State.reset [(F.CLK_PLLS_STAT.STATE, 0), (F.CLK_REF.BAD, 0)] with clk := { firstSearch := true }, pwr := { steps := [1, 2, 3] } }, .s, 3, (by decide +kernel), (by decide +kernel), (by decide +kernel), (by decide +kernel), (by decide +kernel)⟩,
   ⟨(fields State.reset [(F.CLK_REF.BAD, 0)]), 1, (by decide +kernel), (by decide +kernel), (by decide +kernel)⟩,
   ⟨(fields State.reset [(F.CLK_REF.BAD, 1)]), true, (by decide +kernel), (by decide +kernel)⟩,
   ⟨State.reset, 70000, (by decide +kernel), (by decide +kernel)⟩,
   ⟨(fields State.reset [(F.CLK_LOCKA.FAULT, 1)]), 600, (by decide +kernel), (by decide +kernel), (by decide +kernel)⟩,
   ⟨State.reset, (by decide +kernel)⟩,
   ⟨(fields State.reset [(F.CLK_PLLS_STAT.ON_SAFE, 0)]), -5, 7, (by decide +kernel), (by decide +kernel), (by decide +kernel), (by decide +kernel)⟩⟩

/-- States that meet the hypotheses of ClockLocks, clause by clause. -/
theorem meets_ClockLocks :
    (∃ (s : State) (p : Pll) (src : Nat) (port : Nat) (_jump : Int), s.pwr.full = false ∧ s.get (pState p) = 4 ∧ s.selSrc p = (src, port) ∧ (match p with | .s => s.clk.waitRefS | .l => s.clk.waitRefL) = false) ∧
    (∃ (s : State) (p : Pll) (src : Nat) (port : Nat) (_jump : Int), s.pwr.full = false ∧ s.get (pState p) = 4 ∧ s.selSrc p = (src, port) ∧ (match p with | .s => s.clk.waitRefS | .l => s.clk.waitRefL) = false) ∧
    (∃ (s : State) (p : Pll) (_how : Nat) (_us : Nat), s.pwr.full = false ∧ (s.get (pState p) = 1 ∨ s.get (pState p) = 2 ∨ s.get (pState p) = 5)) ∧
    (∃ (s : State) (p : Pll) (_how : Nat) (_us : Nat), s.pwr.full = false ∧ (s.get (pState p) = 1 ∨ s.get (pState p) = 2 ∨ s.get (pState p) = 5)) ∧
    (∃ (s : State) (dt : Nat) (p : Pll) (_band : Nat) (_med : Nat) (_integ : Int), s.pwr.full = false ∧ s.get (pState p) = 3 ∧ s.storedAt p + 500000 ≤ s.time.cyc + dt) ∧
    (∃ (s : State), s.pwr.full = false ∧ s.flag F.CLK_PLLS_STAT.ON_SAFE = true ∧ s.get F.CLK_PLLS_STAT.STATE = 3) ∧
    (∃ (s : State), s.pwr.full = false ∧ s.flag F.CLK_PLLS_STAT.ON_SAFE = true ∧ s.get F.CLK_PLLS_STAT.STATE = 3) ∧
    (∃ (s : State) (_p : Pll), s.live = true) ∧
    (∃ (s : State) (p : Pll) (v : Word), s.live = true ∧ v.getLsbD 30 = false ∧ (s.refSrcWrite p (v ||| 0x80000000#32)).clkRefused (s.refSrcWrite p (v ||| 0x80000000#32)).anySwitch = true) ∧
    (∃ (s : State) (p : Pll) (v : Word), s.live = true ∧ v.getLsbD 30 = false ∧ (s.refSrcWrite p (v ||| 0x80000000#32)).clkRefused (s.refSrcWrite p (v ||| 0x80000000#32)).anySwitch = false) ∧
    (∃ (s : State) (p : Pll) (v : Word), s.live = true ∧ v.getLsbD 30 = false ∧ (s.refSrcWrite p (v ||| 0x80000000#32)).clkRefused (s.refSrcWrite p (v ||| 0x80000000#32)).anySwitch = false) ∧
    (∃ (s : State) (_p : Pll) (_v : Word), s.live = true) ∧
    (∃ (s : State) (_p : Pll) (_v : Word), s.live = true) :=
  ⟨⟨(fields State.reset [(F.CLK_PLLS_STAT.STATE, 4)]), .s, (State.reset.selSrc .s |>.1), ((State.reset.selSrc .s).2), 5, (by decide +kernel), (by decide +kernel), (by decide +kernel), (by decide +kernel)⟩,
   ⟨(fields State.reset [(F.CLK_PLLL_STAT.STATE, 4), (F.CLK_PLLS_CTRL.PHASE_MODE, 1)]), .l, ((State.reset.selSrc .l).1), ((State.reset.selSrc .l).2), 5, (by decide +kernel), (by decide +kernel), (by decide +kernel), (by decide +kernel)⟩,
   ⟨(fields State.reset [(F.CLK_PLLS_STAT.STATE, 2)]), .s, 1, 77, (by decide +kernel), (by decide +kernel)⟩,
   ⟨(fields State.reset [(F.CLK_PLLL_STAT.STATE, 1)]), .l, 0, 77, (by decide +kernel), (by decide +kernel)⟩,
   ⟨(fields State.reset [(F.CLK_PLLS_STAT.STATE, 3)]), 500000, .s, 9, 300, -4, (by decide +kernel), (by decide +kernel), (by decide +kernel)⟩,
   ⟨(fields State.reset [(F.CLK_PLLS_STAT.STATE, 3)]), (by decide +kernel), (by decide +kernel), (by decide +kernel)⟩,
   ⟨(fields spring0 [(F.CLK_PLLS_STAT.STATE, 3)]), (by decide +kernel), (by decide +kernel), (by decide +kernel)⟩,
   ⟨running0, .s, (by decide +kernel)⟩,
   ⟨running0, .s, 0#32, (by decide +kernel), (by decide +kernel), (by decide +kernel)⟩,
   ⟨State.reset, .l, 0#32, (by decide +kernel), (by decide +kernel), (by decide +kernel)⟩,
   ⟨State.reset, .s, 1#32, (by decide +kernel), (by decide +kernel), (by decide +kernel)⟩,
   ⟨State.reset, .s, 0x12#32, (by decide +kernel)⟩,
   ⟨State.reset, .l, 0x1#32, (by decide +kernel)⟩⟩

/-- States that meet the hypotheses of ConverterRuns, clause by clause. -/
theorem meets_ConverterRuns :
    (∃ (s : State) (n : Fin 4) (_vs : List Int), s.live = true ∧ s.flag (F.ADC_STAT.CAL_BUSY n) = false ∧ s.flag F.CLK_PLLS_STAT.ON_SAFE = false ∧ (s.unit n).run = none ∧ n.val < s.adc.units.length ∧ (s.unit n).lastCyc ≠ some (s.now 0 / adcCycle) ∧ s.runEntries n ≠ []) ∧
    (∃ (s : State) (n : Fin 4) (_vs : List Int), s.live = true ∧ s.flag (F.ADC_STAT.CAL_BUSY n) = false ∧ s.flag F.CLK_PLLS_STAT.ON_SAFE = false ∧ (s.unit n).run = none ∧ n.val < s.adc.units.length ∧ (s.unit n).lastCyc ≠ some (s.now 0 / adcCycle) ∧ s.runEntries n = []) ∧
    (∃ (s : State) (n : Fin 4) (_vs : List Int) (r : AdcRun), s.live = true ∧ s.flag (F.ADC_STAT.CAL_BUSY n) = false ∧ s.flag F.CLK_PLLS_STAT.ON_SAFE = false ∧ (s.unit n).run = some r ∧ n.val < s.adc.units.length ∧ (s.unit n).lastCyc ≠ some (s.now 0 / adcCycle) ∧ r.done ≠ r.entries.length ∧ s.adcGet (F.ADC_CTRL.POLICY n) = 0) ∧
    (∃ (s : State) (n : Fin 4) (_vs : List Int) (r : AdcRun), s.live = true ∧ s.flag (F.ADC_STAT.CAL_BUSY n) = false ∧ s.flag F.CLK_PLLS_STAT.ON_SAFE = false ∧ (s.unit n).run = some r ∧ n.val < s.adc.units.length ∧ (s.unit n).lastCyc ≠ some (s.now 0 / adcCycle) ∧ r.done ≠ r.entries.length ∧ s.adcGet (F.ADC_CTRL.POLICY n) = 0) ∧
    (∃ (s : State) (n : Fin 4) (_vs : List Int) (r : AdcRun), s.live = true ∧ s.flag (F.ADC_STAT.CAL_BUSY n) = false ∧ s.flag F.CLK_PLLS_STAT.ON_SAFE = false ∧ (s.unit n).run = some r ∧ n.val < s.adc.units.length ∧ (s.unit n).lastCyc ≠ some (s.now 0 / adcCycle) ∧ r.sampling = false ∧ s.adcGet (F.ADC_CTRL.POLICY n) = 1 ∧ s.runEntries n ≠ []) ∧
    (∃ (s : State) (u : State) (dt : Nat) (age : Nat) (src : Nat) (n : Fin 4) (_vs : List Int), u = State.advance dt s ∧ s.live = true ∧ u.flag (F.ADC_STAT.CAL_BUSY n) = false ∧ u.flag F.CLK_PLLS_STAT.ON_SAFE = false ∧ u.adcGet (F.ADC_CTRL.TRIG_SRC n) = src ∧ u.sourceAge n src = some age ∧ age < adcCycle ∧ (u.unit n).fired = none ∧ (u.unit n).run = none ∧ n.val < u.adc.units.length ∧ (u.unit n).lastCyc ≠ some ((u.now 0 - age) / adcCycle) ∧ u.runEntries n ≠ []) ∧
    (∃ (s : State) (u : State) (dt : Nat) (age : Nat) (src : Nat) (n : Fin 4) (_vs : List Int), u = State.advance dt s ∧ s.live = true ∧ u.flag (F.ADC_STAT.CAL_BUSY n) = false ∧ u.flag F.CLK_PLLS_STAT.ON_SAFE = false ∧ u.adcGet (F.ADC_CTRL.TRIG_SRC n) = src ∧ u.sourceAge n src = some age ∧ age < adcCycle ∧ (u.unit n).fired = none ∧ (u.unit n).run = none ∧ n.val < u.adc.units.length ∧ (u.unit n).lastCyc ≠ some ((u.now 0 - age) / adcCycle) ∧ u.runEntries n ≠ []) ∧
    (∃ (s : State) (dt : Nat) (src : Nat) (n : Fin 4) (_vs : List Int), s.live = true ∧ (State.advance dt s).adcGet (F.ADC_CTRL.TRIG_SRC n) ≠ src) ∧
    (∃ (s : State) (dt : Nat) (n : Fin 4) (r : AdcRun), s.live = true ∧ n.val < s.adc.units.length ∧ (s.unit n).run = some r ∧ r.sampling = false ∧ r.lo ≤ (State.advance dt s).now 8) ∧
    (∃ (s : State) (dt : Nat) (n : Fin 4) (r : AdcRun) (_vs : List (List Int)), s.live = true ∧ n.val < s.adc.units.length ∧ (s.unit n).run = some r ∧ r.done = r.entries.length ∧ (∀ m, m < 4 → (State.advance dt s).adcGet (F.ADC_CTRL.TRIG_SRC m) ≠ 7) ∧ (s.unit n).pend = none ∧ (s.unit n).after = [] ∧ (s.unit n).jobDue = false ∧ s.adc.before = none) ∧
    (∃ (s : State) (j : Fin 32) (v : Int), s.pwr.full = false ∧ idealCode 0 v ≤ 16 * s.getI (F.ADC_WIN.HIGH j) - 16 * (s.get (F.ADC_WIN.HYST j) : Int) ∧ 16 * s.getI (F.ADC_WIN.LOW j) + 16 * (s.get (F.ADC_WIN.HYST j) : Int) ≤ idealCode 0 v) :=
  ⟨⟨(fields State.reset [(F.CLK_PLLS_STAT.ON_SAFE, 0), (F.ADC_CTRL.LEN 2, 3)]), 2, [0, 1], (by decide +kernel), (by decide +kernel), (by decide +kernel), (by decide +kernel), (by decide +kernel), (by decide +kernel), (by decide +kernel)⟩,
   ⟨(fields State.reset [(F.CLK_PLLS_STAT.ON_SAFE, 0), (F.ADC_CTRL.LEN 2, 0)]), 2, [], (by decide +kernel), (by decide +kernel), (by decide +kernel), (by decide +kernel), (by decide +kernel), (by decide +kernel), (by decide +kernel)⟩,
   ⟨((fields { State.reset with adc := { State.reset.adc with units := State.reset.adc.units.set 2 { run := some { entries := [1, 2] } } } } [(F.CLK_PLLS_STAT.ON_SAFE, 0), (F.ADC_CTRL.LEN 2, 3), (F.ADC_CTRL.POLICY 2, 0), (F.ADC_STAT.RUNNING 2, 1)])), 2, [], { entries := [1, 2] }, (by decide +kernel), (by decide +kernel), (by decide +kernel), (by decide +kernel), (by decide +kernel), (by decide +kernel), (by decide +kernel), (by decide +kernel)⟩,
   ⟨((fields { State.reset with adc := { State.reset.adc with units := State.reset.adc.units.set 2 { run := some { entries := [1, 2] } } } } [(F.CLK_PLLS_STAT.ON_SAFE, 0), (F.ADC_CTRL.LEN 2, 3), (F.ADC_CTRL.POLICY 2, 0), (F.ADC_STAT.RUNNING 2, 1), (F.ADC_STAT.PENDING 2, 1)])), 2, [], { entries := [1, 2] }, (by decide +kernel), (by decide +kernel), (by decide +kernel), (by decide +kernel), (by decide +kernel), (by decide +kernel), (by decide +kernel), (by decide +kernel)⟩,
   ⟨((fields { State.reset with adc := { State.reset.adc with units := State.reset.adc.units.set 2 { run := some { entries := [1, 2] } } } } [(F.CLK_PLLS_STAT.ON_SAFE, 0), (F.ADC_CTRL.LEN 2, 3), (F.ADC_CTRL.POLICY 2, 1), (F.ADC_STAT.RUNNING 2, 1)])), 2, [], { entries := [1, 2] }, (by decide +kernel), (by decide +kernel), (by decide +kernel), (by decide +kernel), (by decide +kernel), (by decide +kernel), (by decide +kernel), (by decide +kernel), (by decide +kernel)⟩,
   ⟨((fields { State.reset with time := { State.reset.time with ext := 47990 }, ctl := { State.reset.ctl with bound := 0, per := 5000 } } [(F.CLK_PLLS_STAT.ON_SAFE, 0), (F.CTL_TICK_NUM.TICK, 5), (F.ADC_CTRL.LEN 1, 3), (F.ADC_CTRL.TRIG_SRC 1, 1)])), (State.advance 5 (fields { State.reset with time := { State.reset.time with ext := 47990 }, ctl := { State.reset.ctl with bound := 0, per := 5000 } } [(F.CLK_PLLS_STAT.ON_SAFE, 0), (F.CTL_TICK_NUM.TICK, 5), (F.ADC_CTRL.LEN 1, 3), (F.ADC_CTRL.TRIG_SRC 1, 1)])), 5, 0, 1, 1, [], (by decide +kernel), (by decide +kernel), (by decide +kernel), (by decide +kernel), (by decide +kernel), (by decide +kernel), (by decide +kernel), (by decide +kernel), (by decide +kernel), (by decide +kernel), (by decide +kernel), (by decide +kernel)⟩,
   ⟨{ (fields { State.reset with time := { State.reset.time with ext := 47990 }, ctl := { State.reset.ctl with bound := 0, per := 5000 } } [(F.CLK_PLLS_STAT.ON_SAFE, 0), (F.CTL_TICK_NUM.TICK, 5), (F.ADC_CTRL.LEN 1, 3), (F.ADC_CTRL.TRIG_SRC 1, 4)]) with role := .spring, spr := { State.reset.spr with carrier := true, hbPer := 40000, carrierAt := 192000, phase := 0 } }, (State.advance 5 { (fields { State.reset with time := { State.reset.time with ext := 47990 }, ctl := { State.reset.ctl with bound := 0, per := 5000 } } [(F.CLK_PLLS_STAT.ON_SAFE, 0), (F.CTL_TICK_NUM.TICK, 5), (F.ADC_CTRL.LEN 1, 3), (F.ADC_CTRL.TRIG_SRC 1, 4)]) with role := .spring, spr := { State.reset.spr with carrier := true, hbPer := 40000, carrierAt := 192000, phase := 0 } }), 5, 0, 4, 1, [], (by decide +kernel), (by decide +kernel), (by decide +kernel), (by decide +kernel), (by decide +kernel), (by decide +kernel), (by decide +kernel), (by decide +kernel), (by decide +kernel), (by decide +kernel), (by decide +kernel), (by decide +kernel)⟩,
   ⟨(fields State.reset [(F.CLK_PLLS_STAT.ON_SAFE, 0), (F.ADC_CTRL.LEN 1, 3), (F.ADC_CTRL.TRIG_SRC 1, 1)]), 4, 3, 1, [], (by decide +kernel), (by decide +kernel)⟩,
   ⟨((fields { State.reset with adc := { State.reset.adc with units := State.reset.adc.units.set 2 { run := some { entries := [1, 2], lo := 50, hi := 70 } } } } [(F.CLK_PLLS_STAT.ON_SAFE, 0), (F.ADC_CTRL.LEN 2, 3)])), 9, 2, { entries := [1, 2], lo := 50, hi := 70 }, (by decide +kernel), (by decide +kernel), (by decide +kernel), (by decide +kernel), (by decide +kernel)⟩,
   ⟨((fields { State.reset with adc := { State.reset.adc with units := State.reset.adc.units.set 2 { run := some { entries := [1, 2], done := 2, sampling := true } } } } [(F.CLK_PLLS_STAT.ON_SAFE, 0), (F.ADC_CTRL.LEN 2, 3), (F.ADC_STAT.RUNNING 2, 1)])), 9, 2, { entries := [1, 2], done := 2, sampling := true }, [], (by decide +kernel), (by decide +kernel), (by decide +kernel), (by decide +kernel), (by decide +kernel), (by decide +kernel), (by decide +kernel), (by decide +kernel), (by decide +kernel)⟩,
   ⟨(fields State.reset [(F.ADC_WIN_STAT.OUT, 0xF0), (F.ADC_WIN.HIGH 5, 100), (F.ADC_WIN.HYST 5, 3), (F.ADC_WIN.LOW 5, 0x800)]), 5, 0, (by decide +kernel), (by decide +kernel), (by decide +kernel)⟩⟩

/-- States that meet the hypotheses of DescriptorsAtOnce, clause by clause. -/
theorem meets_DescriptorsAtOnce :
    (∃ (s : State) (_dt : Nat) (q : Fin 16) (x : Infl), s.Ready q 0x00 x) ∧
    (∃ (s : State) (dt : Nat) (q : Fin 16) (x : Infl) (m : Nat) (hit : Fence → Bool), s.Ready q 0x20 x ∧ m = (if bytesAt x.d.param 0 2 = 0 then 2 ^ x.sq else bytesAt x.d.param 0 2) ∧ (∀ f : Fence, hit f = (m.testBit f.q && decide (f.fetched ≤ x.id) && decide (f.cyc < s.time.cyc + dt) && (x.d.target == 0xFFFFFFFF || f.spring == x.d.target)))) ∧
    (∃ (s : State) (dt : Nat) (q : Fin 16) (x : Infl) (m : Nat) (hit : Fence → Bool), s.Ready q 0x20 x ∧ m = (if bytesAt x.d.param 0 2 = 0 then 2 ^ x.sq else bytesAt x.d.param 0 2) ∧ (∀ f : Fence, hit f = (m.testBit f.q && decide (f.fetched ≤ x.id) && decide (f.cyc < s.time.cyc + dt) && (x.d.target == 0xFFFFFFFF || f.spring == x.d.target)))) ∧
    (∃ (s : State) (_dt : Nat) (q : Fin 16) (x : Infl), s.Ready q 0x28 x ∧ s.recStopped = false) ∧
    (∃ (s : State) (_dt : Nat) (q : Fin 16) (x : Infl), s.Ready q 0x28 x ∧ s.recStopped = true) ∧
    (∃ (s : State) (_dt : Nat) (q : Fin 16) (x : Infl), s.Ready q 0x2A x ∧ s.recd.frozen = true ∧ s.recd.erasePending = false) ∧
    (∃ (s : State) (_dt : Nat) (q : Fin 16) (x : Infl), s.Ready q 0x2A x ∧ s.recd.frozen = true ∧ s.recd.erasePending = true) ∧
    (∃ (s : State) (_dt : Nat) (q : Fin 16) (x : Infl), s.Ready q 0x2A x ∧ s.recd.frozen = false) ∧
    (∃ (s : State) (_dt : Nat) (q : Fin 16) (_bad : List (Nat × Nat × Nat)) (x : Infl), s.Ready q 0x29 x ∧ s.norUsable = false) ∧
    (∃ (s : State) (_dt : Nat) (q : Fin 16) (bad : List (Nat × Nat × Nat)) (x : Infl) (start : Nat) (skip : Nat) (all : List EvRec) (good : List EvRec) (failed : List (Nat × Nat)) (early : Bool), s.Ready q 0x29 x ∧ s.norUsable = true ∧ all = s.areaRecs (bytesAt x.d.param 0 1) ∧ start = bytesAt x.d.param 4 4 ∧ skip = (if start = 0xFFFFFFFF then 0 else (all.takeWhile (fun r => decide (r.seq < start))).length) ∧ (early = true ↔ start ≠ 0xFFFFFFFF ∧ ∃ r, all.head? = some r ∧ start < r.seq) ∧ readRecs bad skip (x.d.length / 64) (all.drop skip) = (good, failed)) ∧
    (∃ (s : State) (_dt : Nat) (q : Fin 16) (bad : List (Nat × Nat × Nat)) (x : Infl) (start : Nat) (skip : Nat) (all : List EvRec) (good : List EvRec) (failed : List (Nat × Nat)) (early : Bool), s.Ready q 0x29 x ∧ s.norUsable = true ∧ all = s.areaRecs (bytesAt x.d.param 0 1) ∧ start = bytesAt x.d.param 4 4 ∧ skip = (if start = 0xFFFFFFFF then 0 else (all.takeWhile (fun r => decide (r.seq < start))).length) ∧ (early = true ↔ start ≠ 0xFFFFFFFF ∧ ∃ r, all.head? = some r ∧ start < r.seq) ∧ readRecs bad skip (x.d.length / 64) (all.drop skip) = (good, failed)) ∧
    (∃ (s : State) (_dt : Nat) (q : Fin 16) (bad : List (Nat × Nat × Nat)) (x : Infl) (start : Nat) (skip : Nat) (all : List EvRec) (good : List EvRec) (failed : List (Nat × Nat)) (early : Bool), s.Ready q 0x29 x ∧ s.norUsable = true ∧ all = s.areaRecs (bytesAt x.d.param 0 1) ∧ start = bytesAt x.d.param 4 4 ∧ skip = (if start = 0xFFFFFFFF then 0 else (all.takeWhile (fun r => decide (r.seq < start))).length) ∧ (early = true ↔ start ≠ 0xFFFFFFFF ∧ ∃ r, all.head? = some r ∧ start < r.seq) ∧ readRecs bad skip (x.d.length / 64) (all.drop skip) = (good, failed)) ∧
    (∃ (s : State) (_dt : Nat) (q : Fin 16) (bad : List (Nat × Nat × Nat)) (x : Infl) (start : Nat) (skip : Nat) (all : List EvRec) (good : List EvRec) (failed : List (Nat × Nat)) (early : Bool), s.Ready q 0x29 x ∧ s.norUsable = true ∧ all = s.areaRecs (bytesAt x.d.param 0 1) ∧ start = bytesAt x.d.param 4 4 ∧ skip = (if start = 0xFFFFFFFF then 0 else (all.takeWhile (fun r => decide (r.seq < start))).length) ∧ (early = true ↔ start ≠ 0xFFFFFFFF ∧ ∃ r, all.head? = some r ∧ start < r.seq) ∧ readRecs bad skip (x.d.length / 64) (all.drop skip) = (good, failed)) ∧
    (∃ (s : State) (_dt : Nat) (q : Fin 16) (x : Infl), s.Ready q 0x2B x ∧ s.norUsable = false) ∧
    (∃ (s : State) (_dt : Nat) (q : Fin 16) (x : Infl) (start : Nat) (all : List LedgerRec) (good : List LedgerRec) (early : Bool), s.Ready q 0x2B x ∧ s.norUsable = true ∧ start = bytesAt x.d.param 4 4 ∧ all = s.nor.ledger.flatten ∧ good = (if start = 0xFFFFFFFF then all else all.filter (fun r => decide (start ≤ r.lseq))).take (x.d.length / 64) ∧ (early = true ↔ start ≠ 0xFFFFFFFF ∧ ∃ r, all.head? = some r ∧ start < r.lseq)) ∧
    (∃ (s : State) (_dt : Nat) (q : Fin 16) (x : Infl) (start : Nat) (all : List LedgerRec) (good : List LedgerRec) (early : Bool), s.Ready q 0x2B x ∧ s.norUsable = true ∧ start = bytesAt x.d.param 4 4 ∧ all = s.nor.ledger.flatten ∧ good = (if start = 0xFFFFFFFF then all else all.filter (fun r => decide (start ≤ r.lseq))).take (x.d.length / 64) ∧ (early = true ↔ start ≠ 0xFFFFFFFF ∧ ∃ r, all.head? = some r ∧ start < r.lseq)) ∧
    (∃ (s : State) (_dt : Nat) (q : Fin 16) (x : Infl) (start : Nat) (all : List LedgerRec) (good : List LedgerRec) (early : Bool), s.Ready q 0x2B x ∧ s.norUsable = true ∧ start = bytesAt x.d.param 4 4 ∧ all = s.nor.ledger.flatten ∧ good = (if start = 0xFFFFFFFF then all else all.filter (fun r => decide (start ≤ r.lseq))).take (x.d.length / 64) ∧ (early = true ↔ start ≠ 0xFFFFFFFF ∧ ∃ r, all.head? = some r ∧ start < r.lseq)) :=
  ⟨⟨(holding State.reset (infl0 0x00 [])), 5, 2, (infl0 0x00 []), (by unfold State.Ready; decide +kernel)⟩,
   ⟨{ holding State.reset { infl0 0x20 [0, 0] with d := { nop0 with opcode := 0x20, target := 3 } } with host := { (holding State.reset { infl0 0x20 [0, 0] with d := { nop0 with opcode := 0x20, target := 3 } }).host with fences := [⟨3, 2, 0x30, 7, 0, 2⟩, ⟨4, 2, 0x30, 7, 0, 2⟩, ⟨3, 2, 0x30, 7, 9, 2⟩] } }, 5, 2, { infl0 0x20 [0, 0] with d := { nop0 with opcode := 0x20, target := 3 } }, 4, (fun f => (4 : Nat).testBit f.q && decide (f.fetched ≤ 1) && decide (f.cyc < ({ holding State.reset { infl0 0x20 [0, 0] with d := { nop0 with opcode := 0x20, target := 3 } } with host := { (holding State.reset { infl0 0x20 [0, 0] with d := { nop0 with opcode := 0x20, target := 3 } }).host with fences := [⟨3, 2, 0x30, 7, 0, 2⟩, ⟨4, 2, 0x30, 7, 0, 2⟩, ⟨3, 2, 0x30, 7, 9, 2⟩] } }).time.cyc + 5) && ((3 : Nat) == 0xFFFFFFFF || f.spring == 3)), (by unfold State.Ready; decide +kernel), (by decide +kernel), (fun _ => rfl)⟩,
   ⟨{ holding State.reset { infl0 0x20 [0, 0] with d := { nop0 with opcode := 0x20, target := 0xFFFFFFFF } } with host := { (holding State.reset { infl0 0x20 [0, 0] with d := { nop0 with opcode := 0x20, target := 0xFFFFFFFF } }).host with fences := [⟨3, 2, 0x30, 7, 0, 2⟩, ⟨4, 2, 0x30, 7, 0, 2⟩, ⟨3, 2, 0x30, 7, 9, 2⟩] } }, 5, 2, { infl0 0x20 [0, 0] with d := { nop0 with opcode := 0x20, target := 0xFFFFFFFF } }, 4, (fun f => (4 : Nat).testBit f.q && decide (f.fetched ≤ 1) && decide (f.cyc < ({ holding State.reset { infl0 0x20 [0, 0] with d := { nop0 with opcode := 0x20, target := 0xFFFFFFFF } } with host := { (holding State.reset { infl0 0x20 [0, 0] with d := { nop0 with opcode := 0x20, target := 0xFFFFFFFF } }).host with fences := [⟨3, 2, 0x30, 7, 0, 2⟩, ⟨4, 2, 0x30, 7, 0, 2⟩, ⟨3, 2, 0x30, 7, 9, 2⟩] } }).time.cyc + 5) && ((0xFFFFFFFF : Nat) == 0xFFFFFFFF || f.spring == 0xFFFFFFFF)), (by unfold State.Ready; decide +kernel), (by decide +kernel), (fun _ => rfl)⟩,
   ⟨(nor0 (holding State.reset (infl0 0x28 []))), 5, 2, (infl0 0x28 []), (by unfold State.Ready; decide +kernel), (by decide +kernel)⟩,
   ⟨(holding State.reset (infl0 0x28 [])), 5, 2, (infl0 0x28 []), (by unfold State.Ready; decide +kernel), (by decide +kernel)⟩,
   ⟨(nor0 { holding State.reset (infl0 0x2A []) with recd := { frozen := true, lostInFreeze := 6 } }), 5, 2, (infl0 0x2A []), (by unfold State.Ready; decide +kernel), (by decide +kernel), (by decide +kernel)⟩,
   ⟨(nor0 { holding State.reset (infl0 0x2A []) with recd := { frozen := true, lostInFreeze := 6, erasePending := true } }), 5, 2, (infl0 0x2A []), (by unfold State.Ready; decide +kernel), (by decide +kernel), (by decide +kernel)⟩,
   ⟨(nor0 (holding State.reset (infl0 0x2A []))), 5, 2, (infl0 0x2A []), (by unfold State.Ready; decide +kernel), (by decide +kernel)⟩,
   ⟨(holding State.reset ({ infl0 0x29 [] with d := { nop0 with opcode := 0x29, length := 128, param := [1, 0, 0, 0, 255, 255, 255, 255] } })), 5, 2, [], { infl0 0x29 [] with d := { nop0 with opcode := 0x29, length := 128, param := [1, 0, 0, 0, 255, 255, 255, 255] } }, (by unfold State.Ready; decide +kernel), (by decide +kernel)⟩,
   ⟨((fun s => { nor0 s with nor := { (nor0 s).nor with last := [[evRec0]] } }) (holding State.reset { infl0 0x29 [] with d := { nop0 with opcode := 0x29, length := 128, param := [1, 0, 0, 0, 255, 255, 255, 255] } })), 5, 2, [], { infl0 0x29 [] with d := { nop0 with opcode := 0x29, length := 128, param := [1, 0, 0, 0, 255, 255, 255, 255] } }, 0xFFFFFFFF, 0, [evRec0], [evRec0], [], false, (by unfold State.Ready; decide +kernel), (by decide +kernel), (by decide +kernel), (by decide +kernel), (by decide +kernel), (by decide +kernel), (by decide +kernel)⟩,
   ⟨((fun s => { nor0 s with nor := { (nor0 s).nor with last := [[evRec0]] } }) (holding State.reset { infl0 0x29 [] with d := { nop0 with opcode := 0x29, length := 128, param := [1, 0, 0, 0, 255, 255, 255, 255] } })), 5, 2, [(0, 4, 9)], { infl0 0x29 [] with d := { nop0 with opcode := 0x29, length := 128, param := [1, 0, 0, 0, 255, 255, 255, 255] } }, 0xFFFFFFFF, 0, [evRec0], [], [(4, 9)], false, (by unfold State.Ready; decide +kernel), (by decide +kernel), (by decide +kernel), (by decide +kernel), (by decide +kernel), (by decide +kernel), (by decide +kernel)⟩,
   ⟨((fun s => { nor0 s with nor := { (nor0 s).nor with last := [[evRec0]] } }) (holding State.reset { infl0 0x29 [] with d := { nop0 with opcode := 0x29, length := 128, param := [1, 0, 0, 0, 2, 0, 0, 0] } })), 5, 2, [], { infl0 0x29 [] with d := { nop0 with opcode := 0x29, length := 128, param := [1, 0, 0, 0, 2, 0, 0, 0] } }, 2, 0, [evRec0], [evRec0], [], true, (by unfold State.Ready; decide +kernel), (by decide +kernel), (by decide +kernel), (by decide +kernel), (by decide +kernel), (by decide +kernel), (by decide +kernel)⟩,
   ⟨((fun s => { nor0 s with nor := { (nor0 s).nor with last := [[evRec0]] } }) (holding State.reset { infl0 0x29 [] with d := { nop0 with opcode := 0x29, length := 128, param := [1, 0, 0, 0, 6, 0, 0, 0] } })), 5, 2, [], { infl0 0x29 [] with d := { nop0 with opcode := 0x29, length := 128, param := [1, 0, 0, 0, 6, 0, 0, 0] } }, 6, 1, [evRec0], [], [], false, (by unfold State.Ready; decide +kernel), (by decide +kernel), (by decide +kernel), (by decide +kernel), (by decide +kernel), (by decide +kernel), (by decide +kernel)⟩,
   ⟨(holding State.reset ({ infl0 0x2B [] with d := { nop0 with opcode := 0x2B, length := 128, param := [1, 0, 0, 0, 255, 255, 255, 255] } })), 5, 2, { infl0 0x2B [] with d := { nop0 with opcode := 0x2B, length := 128, param := [1, 0, 0, 0, 255, 255, 255, 255] } }, (by unfold State.Ready; decide +kernel), (by decide +kernel)⟩,
   ⟨((fun s => { nor0 s with nor := { (nor0 s).nor with ledger := [[led0]], ledgerRd := 4 } }) (holding State.reset { infl0 0x2B [] with d := { nop0 with opcode := 0x2B, length := 128, param := [1, 0, 0, 0, 255, 255, 255, 255] } })), 5, 2, { infl0 0x2B [] with d := { nop0 with opcode := 0x2B, length := 128, param := [1, 0, 0, 0, 255, 255, 255, 255] } }, 0xFFFFFFFF, [led0], [led0], false, (by unfold State.Ready; decide +kernel), (by decide +kernel), (by decide +kernel), (by decide +kernel), (by decide +kernel), (by decide +kernel)⟩,
   ⟨((fun s => { nor0 s with nor := { (nor0 s).nor with ledger := [[led0]], ledgerRd := 4 } }) (holding State.reset { infl0 0x2B [] with d := { nop0 with opcode := 0x2B, length := 128, param := [1, 0, 0, 0, 2, 0, 0, 0] } })), 5, 2, { infl0 0x2B [] with d := { nop0 with opcode := 0x2B, length := 128, param := [1, 0, 0, 0, 2, 0, 0, 0] } }, 2, [led0], [led0], true, (by unfold State.Ready; decide +kernel), (by decide +kernel), (by decide +kernel), (by decide +kernel), (by decide +kernel), (by decide +kernel)⟩,
   ⟨((fun s => { nor0 s with nor := { (nor0 s).nor with ledger := [[led0]], ledgerRd := 4 } }) (holding State.reset { infl0 0x2B [] with d := { nop0 with opcode := 0x2B, length := 128, param := [1, 0, 0, 0, 20, 0, 0, 0] } })), 5, 2, { infl0 0x2B [] with d := { nop0 with opcode := 0x2B, length := 128, param := [1, 0, 0, 0, 20, 0, 0, 0] } }, 20, [led0], [], false, (by unfold State.Ready; decide +kernel), (by decide +kernel), (by decide +kernel), (by decide +kernel), (by decide +kernel), (by decide +kernel)⟩⟩

/-- States that meet the hypotheses of DescriptorsQueued, clause by clause. -/
theorem meets_DescriptorsQueued :
    (∃ (s : State) (_dt : Nat) (q : Fin 16) (x : Infl) (a : Nat), s.Ready q 0x01 x ∧ refIds.contains (bytesAt x.d.param 0 1) = true ∧ applyTick s.nextTick x.d.applyTick = some a) ∧
    (∃ (s : State) (_dt : Nat) (q : Fin 16) (x : Infl), s.Ready q 0x01 x ∧ refIds.contains (bytesAt x.d.param 0 1) = false) ∧
    (∃ (s : State) (_dt : Nat) (q : Fin 16) (x : Infl) (a : Nat), s.Ready q 0x03 x ∧ bytesAt x.d.param 0 1 ≠ 0 ∧ applyTick s.nextTick x.d.applyTick = some a) ∧
    (∃ (s : State) (_dt : Nat) (q : Fin 16) (x : Infl) (a : Nat), s.Ready q 0x51 x ∧ applyTick s.nextTick x.d.applyTick = some a) ∧
    (∃ (s : State) (_dt : Nat) (q : Fin 16) (x : Infl) (a : Nat), s.Ready q 0x52 x ∧ applyTick s.nextTick x.d.applyTick = some a) ∧
    (∃ (s : State) (_dt : Nat) (q : Fin 16) (x : Infl), s.Ready q 0x52 x ∧ applyTick s.nextTick x.d.applyTick = none) ∧
    (∃ (s : State) (dt : Nat) (q : Fin 16) (x : Infl) (a : Nat), s.Ready q 0x30 x ∧ s.isMaster = true ∧ bytesAt x.d.param 8 4 < 1000000000 ∧ applyTick s.nextTick x.d.applyTick = some a ∧ ((State.advance dt s).todAt a ≤ (timeSetVal x.d : Int) ∨ bitOf x.d.flags 1 = true)) ∧
    (∃ (s : State) (_dt : Nat) (q : Fin 16) (x : Infl), s.Ready q 0x30 x ∧ s.isMaster = false) ∧
    (∃ (s : State) (u : State) (v : State) (dt : Nat) (q : Fin 16) (x : Infl) (links : List (List Nat)) (a : Nat), s.Ready q 0x50 x ∧ (State.advance dt s).energiseBad = none ∧ (State.advance dt s).tickBudget links = (u, none) ∧ u.weirBudget links 0 = (v, none) ∧ applyTick v.nextTick x.d.applyTick = some a) ∧
    (∃ (s : State) (dt : Nat) (q : Fin 16) (x : Infl) (_links : List (List Nat)) (st : Nat) (r : Nat), s.Ready q 0x50 x ∧ (State.advance dt s).energiseBad = some (st, r)) :=
  ⟨⟨(holding active0 (infl0 0x01 [8])), 5, 2, (infl0 0x01 [8]), 2, (by unfold State.Ready; decide +kernel), (by decide +kernel), (by decide +kernel)⟩,
   ⟨(holding active0 (infl0 0x01 [6])), 5, 2, (infl0 0x01 [6]), (by unfold State.Ready; decide +kernel), (by decide +kernel)⟩,
   ⟨(holding active0 (infl0 0x03 [3])), 5, 2, (infl0 0x03 [3]), 2, (by unfold State.Ready; decide +kernel), (by decide +kernel), (by decide +kernel)⟩,
   ⟨(holding active0 (infl0 0x51 [])), 5, 2, (infl0 0x51 []), 2, (by unfold State.Ready; decide +kernel), (by decide +kernel)⟩,
   ⟨(holding active0 (infl0 0x52 [])), 5, 2, (infl0 0x52 []), 2, (by unfold State.Ready; decide +kernel), (by decide +kernel)⟩,
   ⟨(holding (fields active0 [(F.CTL_TICK_NUM.TICK, 100)]) { infl0 0x52 [] with d := { nop0 with opcode := 0x52, applyTick := 9 } }), 5, 2, { infl0 0x52 [] with d := { nop0 with opcode := 0x52, applyTick := 9 } }, (by unfold State.Ready; decide +kernel), (by decide +kernel)⟩,
   ⟨(holding active0 (infl0 0x30 [1, 0, 0, 0, 0, 0, 0, 0, 5, 0, 0, 0])), 5, 2, (infl0 0x30 [1, 0, 0, 0, 0, 0, 0, 0, 5, 0, 0, 0]), 2, (by unfold State.Ready; decide +kernel), (by decide +kernel), (by decide +kernel), (by decide +kernel), (by decide +kernel)⟩,
   ⟨(holding State.reset (infl0 0x30 [])), 5, 2, (infl0 0x30 []), (by unfold State.Ready; decide +kernel), (by decide +kernel)⟩,
   ⟨(holding (cool0) (infl0 0x50 [])), (((State.advance 5 (holding (cool0) (infl0 0x50 []))).tickBudget []).1), ((((State.advance 5 (holding (cool0) (infl0 0x50 []))).tickBudget []).1.weirBudget [] 0).1), 5, 2, (infl0 0x50 []), [], 2, (by unfold State.Ready; decide +kernel), (by decide +kernel), (by decide +kernel), (by decide +kernel), (by decide +kernel)⟩,
   ⟨(holding active0 (infl0 0x50 [])), 5, 2, (infl0 0x50 []), [], 0x11, (((State.advance 5 (holding active0 (infl0 0x50 []))).energiseBad.getD (0, 0)).2), (by unfold State.Ready; decide +kernel), (by decide +kernel)⟩⟩

/-- States that meet the hypotheses of DemandEntries, clause by clause. -/
theorem meets_DemandEntries :
    (∃ (s : State) (_dt : Nat) (q : Fin 16) (x : Infl) (a : Nat), s.Ready q 0x02 x ∧ bytesAt x.d.param 1 1 ≠ 2 ∧ s.demandBad x.d = none ∧ applyTick s.nextTick x.d.applyTick = some a) ∧
    (∃ (s : State) (_dt : Nat) (q : Fin 16) (x : Infl) (a : Nat), s.Ready q 0x02 x ∧ bytesAt x.d.param 1 1 = 2 ∧ s.demandBad x.d = none ∧ applyTick s.nextTick x.d.applyTick = some a) ∧
    (∃ (s : State) (_dt : Nat) (q : Fin 16) (x : Infl) (st : Nat), s.Ready q 0x02 x ∧ s.demandBad x.d = some st ∧ bytesAt x.d.param 1 1 ≠ 2) ∧
    (∃ (s : State) (_dt : Nat) (q : Fin 16) (x : Infl) (st : Nat), s.Ready q 0x02 x ∧ s.demandBad x.d = some st ∧ bytesAt x.d.param 1 1 = 2) ∧
    (∃ (s : State) (_dt : Nat) (slot : Fin 64) (e : Entry) (x : Infl), s.live = true ∧ s.role = .basin ∧ s.entryAt slot = some e ∧ e.left = none ∧ e.hold < e.waited ∧ s.inflAt e.id = some x ∧ x.phase = .demand ∧ x.q < 16) ∧
    (∃ (s : State) (_dt : Nat) (slot : Fin 64) (e : Entry), s.live = true ∧ s.role = .basin ∧ s.entryAt slot = some e ∧ e.left = some 0) ∧
    (∃ (s : State) (dt : Nat) (arm : Fin 12) (spare : Fin 192) (i : InsItem) (at_ : Nat), s.live = true ∧ s.role = .basin ∧ (s.slArm arm).items.find? (fun i => i.spare == some spare.val) = some i ∧ i.placed = some at_ ∧ i.opened = false ∧ at_ + 10000 * s.cg F.SLU_INS_CFG.TMO ≤ (State.advance dt s).time.ext) :=
  ⟨⟨(holding active0 (dem0 [3, 0, 1, 0, 5, 0, 0, 0, 4, 0, 0, 0, 9, 0, 0, 0])), 5, 2, (dem0 [3, 0, 1, 0, 5, 0, 0, 0, 4, 0, 0, 0, 9, 0, 0, 0]), 2, (by unfold State.Ready; decide +kernel), (by decide +kernel), (by decide +kernel), (by decide +kernel)⟩,
   ⟨(holding active0 (dem0 [3, 2, 1, 0, 5, 0, 0, 0, 4, 0, 0, 0, 9, 0, 0, 0])), 5, 2, (dem0 [3, 2, 1, 0, 5, 0, 0, 0, 4, 0, 0, 0, 9, 0, 0, 0]), 2, (by unfold State.Ready; decide +kernel), (by decide +kernel), (by decide +kernel), (by decide +kernel)⟩,
   ⟨(holding active0 (infl0 0x02 [4, 0])), 5, 2, (infl0 0x02 [4, 0]), 0x32, (by unfold State.Ready; decide +kernel), (by decide +kernel), (by decide +kernel)⟩,
   ⟨(holding active0 (infl0 0x02 [3, 2, 1])), 5, 2, (infl0 0x02 [3, 2, 1]), 0x32, (by unfold State.Ready; decide +kernel), (by decide +kernel), (by decide +kernel)⟩,
   ⟨{ holding active0 { infl0 0x02 [] with phase := .demand } with slu := { State.reset.slu with entries := [entry0, { entry0 with slot := 4 }] } }, 5, 3, entry0, { infl0 0x02 [] with phase := .demand }, (by decide +kernel), (by decide +kernel), (by decide +kernel), (by decide +kernel), (by decide +kernel), (by decide +kernel), (by decide +kernel), (by decide +kernel)⟩,
   ⟨{ active0 with slu := { State.reset.slu with entries := [{ entry0 with left := some 0 }, { entry0 with slot := 4 }] } }, 5, 3, { entry0 with left := some 0 }, (by decide +kernel), (by decide +kernel), (by decide +kernel), (by decide +kernel)⟩,
   ⟨{ active0 with slu := { State.reset.slu with arms := State.reset.slu.arms.set 2 { items := [ins0] } } }, 1000000000, 2, 20, ins0, 100, (by decide +kernel), (by decide +kernel), (by decide +kernel), (by decide +kernel), (by decide +kernel), (by decide +kernel)⟩⟩

/-- States that meet the hypotheses of SafetyOutputs, clause by clause. -/
theorem meets_SafetyOutputs :
    (∃ (s : State), s.live = true ∧ s.role = .basin ∧ s.get F.SAFE_STAT.CAUSE = 0) ∧
    (∃ (s : State), s.live = true ∧ s.role = .basin ∧ s.get F.SAFE_STAT.CAUSE = 0) ∧
    (∃ (s : State) (dt : Nat) (at_ : Nat), s.live = true ∧ s.role = .basin ∧ s.safe.offAt = some at_ ∧ at_ ≤ s.time.cyc + dt) ∧
    (∃ (s : State), s.live = true ∧ s.role = .basin ∧ s.outBad ≠ 0) ∧
    (∃ (s : State), s.live = true ∧ s.role = .basin ∧ s.outBad = 0 ∧ s.guardOpen = false) ∧
    (∃ (s : State) (_dt : Nat) (_filt : Fin 8) (_raw : Fin 8), s.live = true ∧ s.role = .basin) ∧
    (∃ (s : State) (_dt : Nat) (_filt : Fin 8) (_raw : Fin 8), s.live = true ∧ s.role = .basin) ∧
    (∃ (s : State) (_dt : Nat) (_g : Fin 4), s.live = true ∧ s.role = .basin ∧ s.flag F.SAFE_STAT.OUT_ON = false) ∧
    (∃ (s : State) (_dt : Nat) (_g : Fin 4), s.live = true ∧ s.role = .basin ∧ s.flag F.SAFE_STAT.OUT_ON = false) ∧
    (∃ (s : State) (_dt : Nat) (_g : Fin 4), s.live = true ∧ s.role = .basin ∧ s.flag F.SAFE_STAT.OUT_ON = false) ∧
    (∃ (s : State) (dt : Nat) (at_ : Nat), s.live = true ∧ s.role = .basin ∧ s.safe.gDiff = some at_ ∧ s.safe.gBad = false ∧ at_ + 50000000 < s.time.cyc + dt ∧ s.flag F.SAFE_STAT.OUT_ON = false) :=
  ⟨⟨State.reset, (by decide +kernel), (by decide +kernel), (by decide +kernel)⟩,
   ⟨(fields State.reset [(F.SAFE_STAT.OUT_ON, 1), (F.SAFE_STAT.HS, 1), (F.SAFE_STAT.LS, 1)]), (by decide +kernel), (by decide +kernel), (by decide +kernel)⟩,
   ⟨{ fields State.reset [(F.SAFE_STAT.HS, 1), (F.SAFE_STAT.LS, 1)] with safe := { State.reset.safe with offAt := some 3 } }, 5, 3, (by decide +kernel), (by decide +kernel), (by decide +kernel), (by decide +kernel)⟩,
   ⟨State.reset, (by decide +kernel), (by decide +kernel), (by decide +kernel)⟩,
   ⟨(fields State.reset [(F.SAFE_STAT.GUARD_TESTED, 1), (F.SAFE_STAT.DEMAND, 0), (F.SAFE_IN_STAT.GUARD, 3), (F.CTL_STATUS.STATE, 1), (F.SAFE_STAT.FB_HS, 0), (F.SAFE_STAT.FB_LS, 0)]), (by decide +kernel), (by decide +kernel), (by decide +kernel), (by decide +kernel)⟩,
   ⟨State.reset, 5, 3, 7, (by decide +kernel), (by decide +kernel)⟩,
   ⟨State.reset, 5, 7, 7, (by decide +kernel), (by decide +kernel)⟩,
   ⟨State.reset, 5, 0, (by decide +kernel), (by decide +kernel), (by decide +kernel)⟩,
   ⟨State.reset, 5, 1, (by decide +kernel), (by decide +kernel), (by decide +kernel)⟩,
   ⟨{ State.reset with safe := { State.reset.safe with gOpen := true } }, 5, 3, (by decide +kernel), (by decide +kernel), (by decide +kernel)⟩,
   ⟨{ State.reset with safe := { State.reset.safe with gDiff := some 2 } }, 60000000, 2, (by decide +kernel), (by decide +kernel), (by decide +kernel), (by decide +kernel), (by decide +kernel), (by decide +kernel)⟩⟩

/-- States that meet the hypotheses of SafetyFeedback, clause by clause. -/
theorem meets_SafetyFeedback :
    (∃ (s : State) (_dt : Nat) (_hs : Bool) (_ls : Bool), s.live = true ∧ s.role = .basin ∧ s.safe.pulse = none ∧ s.safe.onDue = false) ∧
    (∃ (s : State) (dt : Nat) (k : Fin 2) (at_ : Nat), s.live = true ∧ s.role = .basin ∧ s.safe.fbDiff.getD k none = some at_ ∧ at_ + 500000 * s.get F.SAFE_CFG.FB_TMO < s.time.cyc + dt ∧ (s.get F.SAFE_STAT.CAUSE).testBit 4 = true) ∧
    (∃ (s : State) (dt : Nat), s.live = true ∧ s.role = .basin ∧ s.flag F.SAFE_STAT.OUT_ON = true ∧ s.flag F.SAFE_STAT.HS = true ∧ s.flag F.SAFE_STAT.LS = true ∧ s.flag F.SAFE_CTRL.TEST_EN = true ∧ s.safe.pulse = none ∧ s.safe.pulseDue ≤ s.time.cyc + dt ∧ s.safe.fbDiff = [none, none] ∧ s.flag F.CLK_PLLS_STAT.ON_SAFE = false) ∧
    (∃ (s : State) (dt : Nat), s.live = true ∧ s.role = .basin ∧ s.flag F.SAFE_STAT.OUT_ON = true ∧ s.flag F.SAFE_STAT.HS = true ∧ s.flag F.SAFE_STAT.LS = true ∧ s.flag F.SAFE_CTRL.TEST_EN = true ∧ s.safe.pulse = none ∧ s.safe.pulseDue ≤ s.time.cyc + dt ∧ s.safe.fbDiff.any Option.isSome = true) ∧
    (∃ (s : State) (dt : Nat) (p : PulseSt), s.live = true ∧ s.role = .basin ∧ s.safe.pulse = some p ∧ p.out < 2 ∧ p.ended = false ∧ p.at' + 100000 ≤ s.time.cyc + dt ∧ p.sawOff = true ∧ p.lost = false ∧ s.flag (fbFld p.out) = false) ∧
    (∃ (s : State) (dt : Nat) (p : PulseSt), s.live = true ∧ s.role = .basin ∧ s.safe.pulse = some p ∧ p.out < 2 ∧ p.ended = false ∧ p.at' + 100000 ≤ s.time.cyc + dt ∧ p.sawOff = true ∧ p.lost = true) ∧
    (∃ (s : State) (dt : Nat) (p : PulseSt), s.live = true ∧ s.role = .basin ∧ s.safe.pulse = some p ∧ p.ended = false ∧ p.at' + 100000 ≤ s.time.cyc + dt ∧ p.sawOff = false) ∧
    (∃ (s : State) (dt : Nat) (hs : Bool) (ls : Bool) (p : PulseSt), s.live = true ∧ s.role = .basin ∧ s.safe.pulse = some p ∧ p.out < 2 ∧ p.ended = true ∧ p.lost = false ∧ s.time.cyc + dt ≤ p.at' + 500000 ∧ (if p.out = 0 then hs else ls) = true ∧ s.safe.onDue = false) ∧
    (∃ (s : State) (dt : Nat) (k : Fin 2), s.live = true ∧ s.role = .basin ∧ s.flag F.SAFE_STAT.OUT_ON = true ∧ s.safe.degraded.getD k false = false ∧ s.safe.pulseDone.getD k 0 + 5000000000 ≤ s.time.cyc + dt) :=
  ⟨⟨State.reset, 5, true, false, (by decide +kernel), (by decide +kernel), (by decide +kernel), (by decide +kernel)⟩,
   ⟨{ fields State.reset [(F.SAFE_STAT.CAUSE, 16)] with safe := { State.reset.safe with fbDiff := [some 3, none] } }, 5000000000, 0, 3, (by decide +kernel), (by decide +kernel), (by decide +kernel), (by decide +kernel), (by decide +kernel)⟩,
   ⟨(fields State.reset [(F.SAFE_STAT.OUT_ON, 1), (F.SAFE_STAT.HS, 1), (F.SAFE_STAT.LS, 1), (F.SAFE_CTRL.TEST_EN, 1), (F.CLK_PLLS_STAT.ON_SAFE, 0)]), 5, (by decide +kernel), (by decide +kernel), (by decide +kernel), (by decide +kernel), (by decide +kernel), (by decide +kernel), (by decide +kernel), (by decide +kernel), (by decide +kernel), (by decide +kernel)⟩,
   ⟨{ fields State.reset [(F.SAFE_STAT.OUT_ON, 1), (F.SAFE_STAT.HS, 1), (F.SAFE_STAT.LS, 1), (F.SAFE_CTRL.TEST_EN, 1), (F.CLK_PLLS_STAT.ON_SAFE, 0)] with safe := { State.reset.safe with fbDiff := [some 1, none] } }, 5, (by decide +kernel), (by decide +kernel), (by decide +kernel), (by decide +kernel), (by decide +kernel), (by decide +kernel), (by decide +kernel), (by decide +kernel), (by decide +kernel)⟩,
   ⟨{ fields State.reset [(F.SAFE_STAT.OUT_ON, 1), (F.SAFE_STAT.LS, 1), (F.CLK_PLLS_STAT.ON_SAFE, 0)] with safe := { State.reset.safe with pulse := some { out := 0, at' := 5, sawOff := true } } }, 200000, { out := 0, at' := 5, sawOff := true }, (by decide +kernel), (by decide +kernel), (by decide +kernel), (by decide +kernel), (by decide +kernel), (by decide +kernel), (by decide +kernel), (by decide +kernel), (by decide +kernel)⟩,
   ⟨{ fields State.reset [(F.SAFE_STAT.OUT_ON, 1), (F.SAFE_STAT.LS, 1), (F.CLK_PLLS_STAT.ON_SAFE, 0)] with safe := { State.reset.safe with pulse := some { out := 0, at' := 5, sawOff := true, lost := true } } }, 200000, { out := 0, at' := 5, sawOff := true, lost := true }, (by decide +kernel), (by decide +kernel), (by decide +kernel), (by decide +kernel), (by decide +kernel), (by decide +kernel), (by decide +kernel), (by decide +kernel)⟩,
   ⟨{ fields State.reset [(F.SAFE_STAT.OUT_ON, 1), (F.SAFE_STAT.LS, 1), (F.CLK_PLLS_STAT.ON_SAFE, 0)] with safe := { State.reset.safe with pulse := some { out := 0, at' := 5 } } }, 200000, { out := 0, at' := 5 }, (by decide +kernel), (by decide +kernel), (by decide +kernel), (by decide +kernel), (by decide +kernel), (by decide +kernel)⟩,
   ⟨{ fields State.reset [(F.SAFE_STAT.OUT_ON, 1), (F.SAFE_STAT.LS, 1), (F.CLK_PLLS_STAT.ON_SAFE, 0)] with safe := { State.reset.safe with pulse := some { out := 0, at' := 5, sawOff := true, ended := true } } }, 500000, true, true, { out := 0, at' := 5, sawOff := true, ended := true }, (by decide +kernel), (by decide +kernel), (by decide +kernel), (by decide +kernel), (by decide +kernel), (by decide +kernel), (by decide +kernel), (by decide +kernel), (by decide +kernel)⟩,
   ⟨(fields State.reset [(F.SAFE_STAT.OUT_ON, 1)]), 6000000000, 0, (by decide +kernel), (by decide +kernel), (by decide +kernel), (by decide +kernel), (by decide +kernel)⟩⟩

/-- States that meet the hypotheses of SafetyLock, clause by clause. -/
theorem meets_SafetyLock :
    (∃ (s : State) (_dt : Nat) (q : Fin 16) (x : Infl), s.Ready q 0x40 x ∧ s.energisedRange = false ∧ s.safe.lockoutAt = none ∧ (x.d.param.take 8).any (fun c => decide (c < 0x21) || decide (0x7E < c)) = false ∧ sha256 (leBytes 8 Config.serialNumber ++ x.d.param.take 8) = s.pwHashOf) ∧
    (∃ (s : State) (_dt : Nat) (q : Fin 16) (x : Infl), s.Ready q 0x40 x ∧ s.energisedRange = false ∧ s.safe.lockoutAt = none ∧ ((x.d.param.take 8).any (fun c => decide (c < 0x21) || decide (0x7E < c)) = true ∨ sha256 (leBytes 8 Config.serialNumber ++ x.d.param.take 8) ≠ s.pwHashOf)) ∧
    (∃ (s : State) (_dt : Nat) (q : Fin 16) (x : Infl), s.Ready q 0x40 x ∧ s.energisedRange = false ∧ s.safe.lockoutAt ≠ none) ∧
    (∃ (s : State) (_dt : Nat) (q : Fin 16) (x : Infl), s.Ready q 0x40 x ∧ s.energisedRange = true) ∧
    (∃ (s : State) (dt : Nat) (at_ : Nat), s.live = true ∧ s.role = .basin ∧ s.safe.lockoutAt = some at_ ∧ at_ + 30000000000 ≤ s.time.cyc + dt) ∧
    (∃ (s : State) (u : State), s.live = true ∧ s.role = .basin ∧ s.flag F.SAFE_STAT.UNLOCKED = true ∧ s.host.infl.any (fun x => x.d.opcode == 0x41) = false ∧ u = { s with safe := { s.safe with relockDue := false } }.set F.SAFE_STAT.UNLOCKED 0) ∧
    (∃ (s : State) (u : State), s.live = true ∧ s.role = .basin ∧ s.flag F.SAFE_STAT.UNLOCKED = true ∧ s.host.infl.any (fun x => x.d.opcode == 0x41) = false ∧ u = { s with safe := { s.safe with relockDue := false } }.set F.SAFE_STAT.UNLOCKED 0) ∧
    (∃ (s : State), s.live = true ∧ s.role = .basin ∧ s.flag F.SAFE_STAT.UNLOCKED = true ∧ s.host.infl.any (fun x => x.d.opcode == 0x41) = true) ∧
    (∃ (s : State) (dt : Nat), s.live = true ∧ s.role = .basin ∧ s.safe.lastAct + 300000000000 ≤ s.time.cyc + dt) ∧
    (∃ (s : State) (dt : Nat), s.live = true ∧ s.role = .basin ∧ s.safe.lastAct + 300000000000 ≤ s.time.cyc + dt ∧ s.flag F.SAFE_STAT.UNLOCKED = true ∧ s.host.infl.any (fun x => x.d.opcode == 0x41) = false) ∧
    (∃ (s : State) (_dt : Nat) (q : Fin 16) (_buf : HostBuf) (x : Infl), s.Ready q 0x41 x ∧ s.flag F.SAFE_STAT.UNLOCKED = false) ∧
    (∃ (s : State) (_dt : Nat) (q : Fin 16) (ws : List Word) (x : Infl), s.Ready q 0x41 x ∧ s.flag F.SAFE_STAT.UNLOCKED = true ∧ x.d.length / 4 ≤ ws.length ∧ ¬ x.d.target < 192 ∧ cfgTargets .basin (cfgPairs (ws.take (x.d.length / 4))) = true ∧ s.get F.SAFE_CRC.CRC ≠ cfgOldCrc x.d) ∧
    (∃ (s : State) (u : State) (v : State) (r : State) (dt : Nat) (q : Fin 16) (ws : List Word) (x : Infl) (l : List (Nat × Nat)), s.Ready q 0x41 x ∧ s.flag F.SAFE_STAT.UNLOCKED = true ∧ x.d.length / 4 ≤ ws.length ∧ ¬ x.d.target < 192 ∧ l = cfgPairs (ws.take (x.d.length / 4)) ∧ l ≠ [] ∧ cfgTargets .basin l = true ∧ (∀ e ∈ l, isPwOff e.1 = false) ∧ s.get F.SAFE_CRC.CRC = cfgOldCrc x.d ∧ u = l.foldl (fun (y : State) (e : Nat × Nat) => y.cfgWrite true {} e.1 e.2) { State.advance dt s with safe := { s.safe with lastAct := s.time.cyc + dt } } ∧ v = u.safetyChange (s.get F.SAFE_CRC.CRC) (u.get F.SAFE_CRC.CRC) 0 u.basinId ∧ r = (l.map (fun e => (e.1, (s.rd e.1).toNat))).foldl (fun (y : State) (e : Nat × Nat) => y.writeFields false e.1 e.2) u ∧ (∀ e ∈ l, cfgInRange e = true) ∧ u.get F.SAFE_CRC.CRC = cfgNewCrc x.d) ∧
    (∃ (s : State) (u : State) (v : State) (r : State) (dt : Nat) (q : Fin 16) (ws : List Word) (x : Infl) (l : List (Nat × Nat)), s.Ready q 0x41 x ∧ s.flag F.SAFE_STAT.UNLOCKED = true ∧ x.d.length / 4 ≤ ws.length ∧ ¬ x.d.target < 192 ∧ l = cfgPairs (ws.take (x.d.length / 4)) ∧ l ≠ [] ∧ cfgTargets .basin l = true ∧ (∀ e ∈ l, isPwOff e.1 = false) ∧ s.get F.SAFE_CRC.CRC = cfgOldCrc x.d ∧ u = l.foldl (fun (y : State) (e : Nat × Nat) => y.cfgWrite true {} e.1 e.2) { State.advance dt s with safe := { s.safe with lastAct := s.time.cyc + dt } } ∧ v = u.safetyChange (s.get F.SAFE_CRC.CRC) (u.get F.SAFE_CRC.CRC) 0 u.basinId ∧ r = (l.map (fun e => (e.1, (s.rd e.1).toNat))).foldl (fun (y : State) (e : Nat × Nat) => y.writeFields false e.1 e.2) u ∧ (∃ e ∈ l, cfgInRange e = false)) ∧
    (∃ (s : State) (u : State) (v : State) (r : State) (dt : Nat) (q : Fin 16) (ws : List Word) (x : Infl) (l : List (Nat × Nat)), s.Ready q 0x41 x ∧ s.flag F.SAFE_STAT.UNLOCKED = true ∧ x.d.length / 4 ≤ ws.length ∧ ¬ x.d.target < 192 ∧ l = cfgPairs (ws.take (x.d.length / 4)) ∧ l ≠ [] ∧ cfgTargets .basin l = true ∧ (∀ e ∈ l, isPwOff e.1 = false) ∧ s.get F.SAFE_CRC.CRC = cfgOldCrc x.d ∧ u = l.foldl (fun (y : State) (e : Nat × Nat) => y.cfgWrite true {} e.1 e.2) { State.advance dt s with safe := { s.safe with lastAct := s.time.cyc + dt } } ∧ v = u.safetyChange (s.get F.SAFE_CRC.CRC) (u.get F.SAFE_CRC.CRC) 0 u.basinId ∧ r = (l.map (fun e => (e.1, (s.rd e.1).toNat))).foldl (fun (y : State) (e : Nat × Nat) => y.writeFields false e.1 e.2) u ∧ (∀ e ∈ l, cfgInRange e = true) ∧ u.get F.SAFE_CRC.CRC ≠ cfgNewCrc x.d) ∧
    (∃ (s : State) (_dt : Nat) (q : Fin 16) (ws : List Word) (x : Infl) (a : Nat) (b : Nat), s.Ready q 0x41 x ∧ s.flag F.SAFE_STAT.UNLOCKED = true ∧ x.d.length = 16 ∧ 4 ≤ ws.length ∧ ¬ x.d.target < 192 ∧ cfgPairs (ws.take 4) = [(pwOff0, a), (pwOff1, b)] ∧ cfgInRange (pwOff0, a) = true ∧ cfgInRange (pwOff1, b) = true ∧ s.get F.SAFE_CRC.CRC = cfgOldCrc x.d ∧ s.get F.SAFE_CRC.CRC = cfgNewCrc x.d ∧ s.norUsable = true) ∧
    (∃ (s : State) (_dt : Nat) (q : Fin 16) (ws : List Word) (x : Infl), s.Ready q 0x41 x ∧ s.flag F.SAFE_STAT.UNLOCKED = true ∧ x.d.length / 4 ≤ ws.length ∧ x.d.target < 192 ∧ cfgTargets .spring (cfgPairs (ws.take (x.d.length / 4))) = true ∧ s.mgmtMay x = true ∧ s.unreachable x.d.target = false) :=
  ⟨⟨(pwSet0 (nor0 (holding active0 (infl0 0x40 (pw0 ++ [7, 0, 0, 0]))))), 5, 2, (infl0 0x40 (pw0 ++ [7, 0, 0, 0])), (by unfold State.Ready; decide +kernel), (by decide +kernel), (by decide +kernel), (by decide +kernel), (by rw [pw_is, pwSet_hash])⟩,
   ⟨pwBad0, 5, 2, (infl0 0x40 (pw0 ++ [7, 0, 0, 0])), (by unfold State.Ready; decide +kernel), (by decide +kernel), (by decide +kernel), (by right; rw [pw_is, pwBad_hash]; exact fun h => List.cons_ne_self _ _ h.symm)⟩,
   ⟨{ holding active0 (infl0 0x40 (pw0 ++ [7, 0, 0, 0])) with safe := { State.reset.safe with lockoutAt := some 3 } }, 5, 2, (infl0 0x40 (pw0 ++ [7, 0, 0, 0])), (by unfold State.Ready; decide +kernel), (by decide +kernel), (by decide +kernel)⟩,
   ⟨(fields (holding active0 (infl0 0x40 (pw0 ++ [7, 0, 0, 0]))) [(F.CTL_STATUS.STATE, 3)]), 5, 2, (infl0 0x40 (pw0 ++ [7, 0, 0, 0])), (by unfold State.Ready; decide +kernel), (by decide +kernel)⟩,
   ⟨{ fields active0 [(F.SAFE_STAT.LOCKOUT, 1)] with safe := { State.reset.safe with fails := 3, lockoutAt := some 3 } }, 30000000005, 3, (by decide +kernel), (by decide +kernel), (by decide +kernel), (by decide +kernel)⟩,
   ⟨(fields active0 [(F.SAFE_STAT.UNLOCKED, 1)]), { fields active0 [(F.SAFE_STAT.UNLOCKED, 1)] with safe := { (fields active0 [(F.SAFE_STAT.UNLOCKED, 1)]).safe with relockDue := false } }.set F.SAFE_STAT.UNLOCKED 0, (by decide +kernel), (by decide +kernel), (by decide +kernel), (by decide +kernel), (by decide +kernel)⟩,
   ⟨{ fields active0 [(F.SAFE_STAT.UNLOCKED, 1)] with safe := { State.reset.safe with unlockCrc := 5 } }, { { fields active0 [(F.SAFE_STAT.UNLOCKED, 1)] with safe := { State.reset.safe with unlockCrc := 5 } } with safe := { ({ fields active0 [(F.SAFE_STAT.UNLOCKED, 1)] with safe := { State.reset.safe with unlockCrc := 5 } }).safe with relockDue := false } }.set F.SAFE_STAT.UNLOCKED 0, (by decide +kernel), (by decide +kernel), (by decide +kernel), (by decide +kernel), (by decide +kernel)⟩,
   ⟨(cfgS (cfgX 0xC0 1 0 0)), (by decide +kernel), (by decide +kernel), (by decide +kernel), (by decide +kernel)⟩,
   ⟨(fields active0 [(F.SAFE_STAT.UNLOCKED, 1)]), 300000000000, (by decide +kernel), (by decide +kernel), (by decide +kernel)⟩,
   ⟨(fields active0 [(F.SAFE_STAT.UNLOCKED, 1)]), 300000000000, (by decide +kernel), (by decide +kernel), (by decide +kernel), (by decide +kernel), (by decide +kernel)⟩,
   ⟨(holding active0 (infl0 0x41 [])), 5, 2, (.words []), (infl0 0x41 []), (by unfold State.Ready; decide +kernel), (by decide +kernel)⟩,
   ⟨(holding (fields active0 [(F.SAFE_STAT.UNLOCKED, 1)]) { infl0 0x41 [] with d := { nop0 with opcode := 0x41, target := 0xC0, length := 8, param := [1, 2, 3, 4] } }), 5, 2, [BitVec.ofNat 32 F.SAFE_PDU_RXCONN.CONN.off, 9#32], { infl0 0x41 [] with d := { nop0 with opcode := 0x41, target := 0xC0, length := 8, param := [1, 2, 3, 4] } }, (by unfold State.Ready; decide +kernel), (by decide +kernel), (by decide +kernel), (by decide +kernel), (by decide +kernel), (by decide +kernel)⟩,
   ⟨(cfgS (cfgX 0xC0 1 0 500388370)), (cfgU (cfgS (cfgX 0xC0 1 0 500388370)) (cfgW F.SAFE_PDU_RXCONN.CONN.off 9)), (cfgV (cfgS (cfgX 0xC0 1 0 500388370)) (cfgW F.SAFE_PDU_RXCONN.CONN.off 9)), (cfgR (cfgS (cfgX 0xC0 1 0 500388370)) (cfgW F.SAFE_PDU_RXCONN.CONN.off 9)), 5, 2, (cfgW F.SAFE_PDU_RXCONN.CONN.off 9), (cfgX 0xC0 1 0 500388370), (cfgPairs (cfgW F.SAFE_PDU_RXCONN.CONN.off 9)), (by unfold State.Ready; decide +kernel), (by decide +kernel), (by decide +kernel), (by decide +kernel), (by decide +kernel), (by decide +kernel), (by decide +kernel), (by decide +kernel), (by decide +kernel), (by decide +kernel), (by decide +kernel), (by decide +kernel), (by decide +kernel), (by decide +kernel)⟩,
   ⟨(cfgS (cfgX 0xC0 1 0 0)), (cfgU (cfgS (cfgX 0xC0 1 0 0)) (cfgW F.SAFE_CFG.FB_TMO.off 0xFFFFFFFF)), (cfgV (cfgS (cfgX 0xC0 1 0 0)) (cfgW F.SAFE_CFG.FB_TMO.off 0xFFFFFFFF)), (cfgR (cfgS (cfgX 0xC0 1 0 0)) (cfgW F.SAFE_CFG.FB_TMO.off 0xFFFFFFFF)), 5, 2, (cfgW F.SAFE_CFG.FB_TMO.off 0xFFFFFFFF), (cfgX 0xC0 1 0 0), (cfgPairs (cfgW F.SAFE_CFG.FB_TMO.off 0xFFFFFFFF)), (by unfold State.Ready; decide +kernel), (by decide +kernel), (by decide +kernel), (by decide +kernel), (by decide +kernel), (by decide +kernel), (by decide +kernel), (by decide +kernel), (by decide +kernel), (by decide +kernel), (by decide +kernel), (by decide +kernel), (by decide +kernel)⟩,
   ⟨(cfgS (cfgX 0xC0 1 0 1)), (cfgU (cfgS (cfgX 0xC0 1 0 1)) (cfgW F.SAFE_PDU_RXCONN.CONN.off 9)), (cfgV (cfgS (cfgX 0xC0 1 0 1)) (cfgW F.SAFE_PDU_RXCONN.CONN.off 9)), (cfgR (cfgS (cfgX 0xC0 1 0 1)) (cfgW F.SAFE_PDU_RXCONN.CONN.off 9)), 5, 2, (cfgW F.SAFE_PDU_RXCONN.CONN.off 9), (cfgX 0xC0 1 0 1), (cfgPairs (cfgW F.SAFE_PDU_RXCONN.CONN.off 9)), (by unfold State.Ready; decide +kernel), (by decide +kernel), (by decide +kernel), (by decide +kernel), (by decide +kernel), (by decide +kernel), (by decide +kernel), (by decide +kernel), (by decide +kernel), (by decide +kernel), (by decide +kernel), (by decide +kernel), (by decide +kernel), (by decide +kernel)⟩,
   ⟨(nor0 (cfgS (cfgX 0xC0 2 0 0))), 5, 2, (cfgW 0xFFFFFFF0 0x41424344 ++ cfgW 0xFFFFFFF4 0x41424344), (cfgX 0xC0 2 0 0), 0x41424344, 0x41424344, (by unfold State.Ready; decide +kernel), (by decide +kernel), (by decide +kernel), (by decide +kernel), (by decide +kernel), (by decide +kernel), (by decide +kernel), (by decide +kernel), (by decide +kernel), (by decide +kernel), (by decide +kernel)⟩,
   ⟨(cfgS (cfgX 16 1 0 0)), 5, 2, (cfgW F.GATE_CTRL.HB_EN.off 9), (cfgX 16 1 0 0), (by unfold State.Ready; decide +kernel), (by decide +kernel), (by decide +kernel), (by decide +kernel), (by decide +kernel), (by decide +kernel), (by decide +kernel)⟩⟩

/-- States that meet the hypotheses of SafetyPdus, clause by clause. -/
theorem meets_SafetyPdus :
    (∃ (s : State) (dt : Nat) (n : Nat) (b : Nat) (f : CanFrame), s.live = true ∧ s.role = .basin ∧ s.flag F.SAFE_PDU_CFG.TX_EN = true ∧ n = s.get F.SAFE_PDU_CFG.UNIT ∧ n < s.can.units.length ∧ b + 1 = s.get (F.CAN_RAMTX.COUNT n) ∧ b < 32 ∧ s.canSends n = true ∧ s.txReqd n b = false ∧ s.flag (F.CAN_CTRL.FDOE n) = true ∧ s.get (F.CAN_CTRL.MODE n) = 0 ∧ s.txAddr n b + 80 ≤ 65536 ∧ s.safe.lastTx + 500000 * s.get F.SAFE_PDU_CFG.TX_MS ≤ s.time.cyc + dt ∧ f = ⟨s.flag F.SAFE_PDU_TXID.IDE, s.get F.SAFE_PDU_TXID.ID, false, true, true, false, 14, pduBytes s.safe.txSeq (2 * s.get F.SAFE_PDU_CFG.TX_MS) (s.get F.SAFE_PDU_TXCONN.CONN) 1 (State.advance dt s).pduStatus⟩) ∧
    (∃ (s : State) (dt : Nat) (n : Nat) (b : Nat), s.live = true ∧ s.role = .basin ∧ s.flag F.SAFE_PDU_CFG.TX_EN = true ∧ n = s.get F.SAFE_PDU_CFG.UNIT ∧ b + 1 = s.get (F.CAN_RAMTX.COUNT n) ∧ (s.canSends n = false ∨ s.txReqd n b = true) ∧ s.safe.lastTx + 500000 * s.get F.SAFE_PDU_CFG.TX_MS ≤ s.time.cyc + dt) ∧
    (∃ (s : State) (dt : Nat) (n : Nat) (b : Nat), s.live = true ∧ s.role = .basin ∧ s.flag F.SAFE_PDU_CFG.TX_EN = true ∧ n = s.get F.SAFE_PDU_CFG.UNIT ∧ b + 1 = s.get (F.CAN_RAMTX.COUNT n) ∧ (s.canSends n = false ∨ s.txReqd n b = true) ∧ s.safe.lastTx + 500000 * s.get F.SAFE_PDU_CFG.TX_MS ≤ s.time.cyc + dt) ∧
    (∃ (s : State) (dt : Nat) (n : Fin 4) (ago : Nat) (b : Nat) (_tec : Fin 256) (_rec_ : Fin 256), s.live = true ∧ s.canSends n = true ∧ s.get (F.CAN_CTRL.MODE n) = 0 ∧ (State.advance dt s).txPick n ago = some b ∧ b < 32 ∧ s.pduBuffer n b = true) ∧
    (∃ (s : State) (_dt : Nat) (unit : Fin 4) (f : CanFrame), s.live = true ∧ s.role = .basin ∧ s.isPdu unit f = true ∧ s.pduValid f.data = false) ∧
    (∃ (s : State) (_dt : Nat) (unit : Fin 4) (f : CanFrame), s.live = true ∧ s.role = .basin ∧ s.isPdu unit f = true ∧ s.pduValid f.data = true ∧ s.safe.rxSeq = some (bytesAt f.data 0 2)) ∧
    (∃ (s : State) (_dt : Nat) (unit : Fin 4) (f : CanFrame) (stop : _), s.live = true ∧ s.role = .basin ∧ s.isPdu unit f = true ∧ s.pduValid f.data = true ∧ s.safe.rxSeq ≠ some (bytesAt f.data 0 2) ∧ (∀ last, s.safe.rxSeq = some last → bytesAt f.data 0 2 = (last + 1) % 65536) ∧ stop = (bytesAt f.data 8 1 != 0 && bitOf (bytesAt f.data 10 1) 0)) ∧
    (∃ (s : State) (_dt : Nat) (unit : Fin 4) (f : CanFrame) (stop : _), s.live = true ∧ s.role = .basin ∧ s.isPdu unit f = true ∧ s.pduValid f.data = true ∧ s.safe.rxSeq ≠ some (bytesAt f.data 0 2) ∧ (∀ last, s.safe.rxSeq = some last → bytesAt f.data 0 2 = (last + 1) % 65536) ∧ stop = (bytesAt f.data 8 1 != 0 && bitOf (bytesAt f.data 10 1) 0)) ∧
    (∃ (s : State) (_dt : Nat) (unit : Fin 4) (f : CanFrame) (stop : _), s.live = true ∧ s.role = .basin ∧ s.isPdu unit f = true ∧ s.pduValid f.data = true ∧ s.safe.rxSeq ≠ some (bytesAt f.data 0 2) ∧ (∀ last, s.safe.rxSeq = some last → bytesAt f.data 0 2 = (last + 1) % 65536) ∧ stop = (bytesAt f.data 8 1 != 0 && bitOf (bytesAt f.data 10 1) 0)) ∧
    (∃ (s : State) (_dt : Nat) (unit : Fin 4) (f : CanFrame) (last : _), s.live = true ∧ s.role = .basin ∧ s.isPdu unit f = true ∧ s.pduValid f.data = true ∧ s.safe.rxSeq = some last ∧ bytesAt f.data 0 2 ≠ last ∧ bytesAt f.data 0 2 ≠ (last + 1) % 65536) ∧
    (∃ (s : State) (dt : Nat) (at_ : Nat), s.live = true ∧ s.role = .basin ∧ s.safe.rxAt = some at_ ∧ s.flag F.SAFE_PDU_CFG.RX_EN = true ∧ at_ + 500000 * s.safe.rxWd < s.time.cyc + dt) ∧
    (∃ (s : State) (_kind : Nat) (_seq : Nat), s.outputsLit = false) :=
  ⟨⟨pduT0, 50000000, 1, 3, (pduF0 50000000), (by decide +kernel), (by decide +kernel), (by decide +kernel), (by decide +kernel), (by decide +kernel), (by decide +kernel), (by decide +kernel), (by decide +kernel), (by decide +kernel), (by decide +kernel), (by decide +kernel), (by decide +kernel), (by decide +kernel), (by decide +kernel)⟩,
   ⟨pduS0, 50000000, 1, 3, (by decide +kernel), (by decide +kernel), (by decide +kernel), (by decide +kernel), (by decide +kernel), (by decide +kernel), (by decide +kernel)⟩,
   ⟨(fields pduT0 [(F.CAN_CTRL.INIT 1, 1)]), 50000000, 1, 3, (by decide +kernel), (by decide +kernel), (by decide +kernel), (by decide +kernel), (by decide +kernel), (by decide +kernel), (by decide +kernel)⟩,
   ⟨pduS0, 5, 1, 0, 3, 1, 2, (by decide +kernel), (by decide +kernel), (by decide +kernel), (by decide +kernel), (by decide +kernel), (by decide +kernel)⟩,
   ⟨pdu0, 5, 1, { pduFrame0 6 with data := [1] }, (by decide +kernel), (by decide +kernel), (by decide +kernel), (by decide +kernel)⟩,
   ⟨pdu0, 5, 1, (pduFrame0 5), (by decide +kernel), (by decide +kernel), (by decide +kernel), (by decide +kernel), (by decide +kernel)⟩,
   ⟨pdu0, 5, 1, (pduFrame0 6), false, (by decide +kernel), (by decide +kernel), (by decide +kernel), (by decide +kernel), (by decide +kernel), (of_some (by decide +kernel)), (by decide +kernel)⟩,
   ⟨pdu0, 5, 1, (pduStop0 6), true, (by decide +kernel), (by decide +kernel), (by decide +kernel), (by decide +kernel), (by decide +kernel), (of_some (by decide +kernel)), (by decide +kernel)⟩,
   ⟨{ pdu0 with safe := { pdu0.safe with rxSeq := none, pduBad := true } }, 5, 1, (pduFrame0 9), false, (by decide +kernel), (by decide +kernel), (by decide +kernel), (by decide +kernel), (by decide +kernel), (of_some (by decide +kernel)), (by decide +kernel)⟩,
   ⟨pdu0, 5, 1, (pduFrame0 9), 5, (by decide +kernel), (by decide +kernel), (by decide +kernel), (by decide +kernel), (by decide +kernel), (by decide +kernel), (by decide +kernel)⟩,
   ⟨{ pdu0 with safe := { pdu0.safe with rxAt := some 3, rxWd := 40 } }, 50000000, 3, (by decide +kernel), (by decide +kernel), (by decide +kernel), (by decide +kernel), (by decide +kernel)⟩,
   ⟨pdu0, 1, 9, (by decide +kernel)⟩⟩

/-- States that meet the hypotheses of CanControllers, clause by clause. -/
theorem meets_CanControllers :
    (∃ (s : State) (_dt : Nat) (n : Fin 4) (st : Fin 3) (_tec : Fin 256) (_rec_ : Fin 256), s.live = true ∧ s.get (F.CAN_ECR.STATE n) < 2 ∧ s.get (F.CAN_CTRL.MODE n) ≠ 1 ∧ s.get (F.CAN_ECR.STATE n) ≠ st.val) ∧
    (∃ (s : State) (_dt : Nat) (n : Fin 4) (st : Fin 3) (_tec : Fin 256) (_rec_ : Fin 256), s.live = true ∧ s.get (F.CAN_ECR.STATE n) < 2 ∧ s.get (F.CAN_CTRL.MODE n) ≠ 1 ∧ s.get (F.CAN_ECR.STATE n) ≠ st.val) ∧
    (∃ (s : State) (n : Fin 4), s.live = true ∧ s.get (F.CAN_ECR.STATE n) = 2 ∧ n.val < s.can.units.length) ∧
    (∃ (s : State) (_dt : Nat) (n : Fin 4), s.live = true ∧ s.get (F.CAN_ECR.STATE n) = 2 ∧ (s.flag (F.CAN_CTRL.AUTO_REC n) || (s.canUnit n).recovering) = true ∧ n.val < s.can.units.length) ∧
    (∃ (s : State) (n : Fin 4), s.live = true ∧ s.flag (F.CAN_CTRL.INIT n) = true ∧ canRegionsBad s.canRegions = none) ∧
    (∃ (s : State) (n : Fin 4), s.live = true ∧ s.flag (F.CAN_CTRL.INIT n) = true ∧ canRegionsBad s.canRegions = none) ∧
    (∃ (s : State) (n : Fin 4) (i : Nat), s.live = true ∧ s.flag (F.CAN_CTRL.INIT n) = true ∧ canRegionsBad s.canRegions = some i) ∧
    (∃ (s : State) (_dt : Nat) (n : Fin 4) (w : Fin 4) (rq : Option HostRd), s.live = true ∧ s.ReadsOne (winOff n w 0) rq ∧ (s.winElem n w).isSome = true ∧ s.lockedAt n w = none ∧ n.val < s.can.units.length) ∧
    (∃ (s : State) (_dt : Nat) (n : Fin 4) (w : Fin 4) (rq : Option HostRd), s.live = true ∧ s.ReadsOne (winOff n w 0) rq ∧ (s.winElem n w).isSome = true ∧ s.lockedAt n w = none ∧ n.val < s.can.units.length) ∧
    (∃ (s : State) (dt : Nat) (at_ : Nat) (n : Fin 4) (w : Fin 4), s.live = true ∧ s.lockedAt n w = some at_ ∧ at_ + 500000 * s.get (F.CAN_CTRL.LOCK_TMO n) ≤ s.time.cyc + dt ∧ n.val < s.can.units.length) ∧
    (∃ (s : State) (n : Fin 4) (w : Fin 4) (at_ : Nat) (rq : Option HostRd), s.live = true ∧ s.ReadsOne (winOff n w (winSize w / 4 - 1)) rq ∧ w.val ≠ 2 ∧ s.lockedAt n w = some at_ ∧ 0 < s.get (fillFld n w) ∧ n.val < s.can.units.length) ∧
    (∃ (s : State) (n : Fin 4) (w : Fin 4) (at_ : Nat) (rq : Option HostRd), s.live = true ∧ s.ReadsOne (winOff n w (winSize w / 4 - 1)) rq ∧ w.val ≠ 2 ∧ s.lockedAt n w = some at_ ∧ 0 < s.get (fillFld n w) ∧ n.val < s.can.units.length) ∧
    (∃ (s : State) (n : Fin 4) (w : Fin 4) (at_ : Nat) (rq : Option HostRd), s.live = true ∧ s.ReadsOne (winOff n w (winSize w / 4 - 1)) rq ∧ w.val = 2 ∧ s.lockedAt n w = some at_ ∧ s.rxbShown n < s.winCount n 2 ∧ s.rxbShown n < 64 ∧ n.val < s.can.units.length) ∧
    (∃ (s : State) (n : Fin 4) (w : Fin 4) (rq : Option HostRd), s.live = true ∧ s.ReadsOne (winOff n w (winSize w / 4 - 1)) rq ∧ s.lockedAt n w = none) :=
  ⟨⟨(fields State.reset [(F.CAN_ECR.STATE 1, 0)]), 5, 1, 2, 255, 7, (by decide +kernel), (by decide +kernel), (by decide +kernel), (by decide +kernel)⟩,
   ⟨(fields State.reset [(F.CAN_ECR.STATE 1, 1)]), 5, 1, 0, 255, 7, (by decide +kernel), (by decide +kernel), (by decide +kernel), (by decide +kernel)⟩,
   ⟨(fields State.reset [(F.CAN_ECR.STATE 1, 2)]), 1, (by decide +kernel), (by decide +kernel), (by decide +kernel)⟩,
   ⟨{ fields State.reset [(F.CAN_ECR.STATE 1, 2)] with can := { State.reset.can with units := State.reset.can.units.set 1 { recovering := true } } }, 5, 1, (by decide +kernel), (by decide +kernel), (by decide +kernel), (by decide +kernel)⟩,
   ⟨(fields State.reset [(F.CAN_CTRL.INIT 1, 1)]), 1, (by decide +kernel), (by decide +kernel), (by decide +kernel)⟩,
   ⟨{ fields State.reset [(F.CAN_CTRL.INIT 1, 1)] with can := { State.reset.can with units := State.reset.can.units.set 1 { off := true } } }, 1, (by decide +kernel), (by decide +kernel), (by decide +kernel)⟩,
   ⟨(fields State.reset [(F.CAN_CTRL.INIT 1, 1), (F.CAN_RAMSF.COUNT 0, 255)]), 1, 0, (by decide +kernel), (by decide +kernel), (by decide +kernel)⟩,
   ⟨(fields (can0 State.reset) [(F.CAN_FIFO.RXF0_FILL 1, 2)]), 5, 1, 0, none, (by decide +kernel), (by first | exact .inl rfl | exact .inr ⟨rfl, _, rfl, by decide +kernel⟩), (by decide +kernel), (by decide +kernel), (by decide +kernel)⟩,
   ⟨(fields (can0 State.reset) [(F.CAN_FIFO.RXF0_FILL 1, 2)]), 5, 1, 0, (some { off := winOff 1 0 0 + 2, len := 2 }), (by decide +kernel), (by first | exact .inl rfl | exact .inr ⟨rfl, _, rfl, by decide +kernel⟩), (by decide +kernel), (by decide +kernel), (by decide +kernel)⟩,
   ⟨{ fields (can0 State.reset) [(F.CAN_FIFO.RXF0_FILL 1, 2), (F.CAN_CTRL.LOCK_TMO 1, 3)] with can := { State.reset.can with units := State.reset.can.units.set 1 { rx0 := { lockAt := some 4 } } } }, 5000000, 4, 1, 0, (by decide +kernel), (by decide +kernel), (by decide +kernel), (by decide +kernel)⟩,
   ⟨{ fields (can0 State.reset) [(F.CAN_FIFO.RXF0_FILL 1, 2), (F.CAN_CTRL.LOCK_TMO 1, 3)] with can := { State.reset.can with units := State.reset.can.units.set 1 { rx0 := { lockAt := some 4 } } } }, 1, 0, 4, none, (by decide +kernel), (by first | exact .inl rfl | exact .inr ⟨rfl, _, rfl, by decide +kernel⟩), (by decide +kernel), (by decide +kernel), (by decide +kernel), (by decide +kernel)⟩,
   ⟨{ fields (can0 State.reset) [(F.CAN_FIFO.RXF0_FILL 1, 2), (F.CAN_CTRL.LOCK_TMO 1, 3)] with can := { State.reset.can with units := State.reset.can.units.set 1 { rx0 := { lockAt := some 4 } } } }, 1, 0, 4, (some { off := winOff 1 0 19, len := 4 }), (by decide +kernel), (by first | exact .inl rfl | exact .inr ⟨rfl, _, rfl, by decide +kernel⟩), (by decide +kernel), (by decide +kernel), (by decide +kernel), (by decide +kernel)⟩,
   ⟨{ fields (can0 State.reset) [(F.CAN_RAMRXB.COUNT 1, 4), (F.CAN_RXB_NEW0.BUF 1, 3)] with can := { State.reset.can with units := State.reset.can.units.set 1 { rxbLock := some (0, 4) } } }, 1, 2, 4, none, (by decide +kernel), (by first | exact .inl rfl | exact .inr ⟨rfl, _, rfl, by decide +kernel⟩), (by decide +kernel), (by decide +kernel), (by decide +kernel), (by decide +kernel), (by decide +kernel)⟩,
   ⟨(fields (can0 State.reset) [(F.CAN_FIFO.RXF0_FILL 1, 2)]), 1, 0, none, (by decide +kernel), (by first | exact .inl rfl | exact .inr ⟨rfl, _, rfl, by decide +kernel⟩), (by decide +kernel)⟩⟩

/-- States that meet the hypotheses of CanTransmission, clause by clause. -/
theorem meets_CanTransmission :
    (∃ (s : State) (dt : Nat) (n : Fin 4) (v : Word), s.live = true ∧ n.val < s.can.units.length ∧ (∀ b, b < 32 → v.toNat.testBit b = true → s.txUsable n b = true ∧ s.txReqd n b = false ∧ s.txCause n (s.txFrame n b) = none ∧ (s.canUnit n).canAt.contains (b, (State.advance dt s).canCycle) = false)) ∧
    (∃ (s : State) (dt : Nat) (n : Fin 4) (v : Word), s.live = true ∧ n.val < s.can.units.length ∧ (∀ b, b < 32 → v.toNat.testBit b = true → s.txUsable n b = true ∧ s.txReqd n b = false ∧ s.txCause n (s.txFrame n b) = none ∧ (s.canUnit n).canAt.contains (b, (State.advance dt s).canCycle) = false)) ∧
    (∃ (s : State) (_dt : Nat) (n : Fin 4) (v : Word), s.live = true ∧ (∀ b, b < 32 → v.toNat.testBit b = true → s.txUsable n b = false ∨ s.txReqd n b = true)) ∧
    (∃ (s : State) (dt : Nat) (n : Fin 4) (v : Word) (b : Nat) (c : Nat), s.live = true ∧ maskBits 32 v.toNat = [b] ∧ s.txUsable n b = true ∧ s.txReqd n b = false ∧ s.txCause n (s.txFrame n b) = some c ∧ (s.canUnit n).canAt.contains (b, (State.advance dt s).canCycle) = false) ∧
    (∃ (s : State) (_dt : Nat) (n : Fin 4) (v : Word) (_sof : Option Nat) (b : Nat), s.live = true ∧ maskBits 32 v.toNat = [b] ∧ s.txUsable n b = true ∧ s.txReqd n b = true ∧ n.val < s.can.units.length) ∧
    (∃ (s : State) (_dt : Nat) (n : Fin 4) (v : Word) (_sof : Option Nat) (b : Nat), s.live = true ∧ maskBits 32 v.toNat = [b] ∧ s.txUsable n b = true ∧ s.txReqd n b = true ∧ n.val < s.can.units.length) ∧
    (∃ (s : State) (dt : Nat) (n : Fin 4) (ago : Nat) (tdcv : Option Nat) (_tec : Fin 256) (_rec_ : Fin 256) (b : Nat), s.live = true ∧ s.canSends n = true ∧ (State.advance dt s).txPick n ago = some b ∧ b < 32 ∧ s.get (F.CAN_CTRL.MODE n) = 0 ∧ (s.tdcOn n (s.txFrame n b) = true → ∀ c, tdcv = some c → c ≤ 127) ∧ (bitOf (s.ramWord (s.txAddr n b + 4)) 23 = false ∨ s.winCount n 3 ≤ s.get (fillFld n 3))) ∧
    (∃ (s : State) (dt : Nat) (n : Fin 4) (ago : Nat) (tdcv : Option Nat) (_tec : Fin 256) (_rec_ : Fin 256) (b : Nat), s.live = true ∧ s.canSends n = true ∧ (State.advance dt s).txPick n ago = some b ∧ b < 32 ∧ s.get (F.CAN_CTRL.MODE n) = 0 ∧ (s.tdcOn n (s.txFrame n b) = true → ∀ c, tdcv = some c → c ≤ 127) ∧ (bitOf (s.ramWord (s.txAddr n b + 4)) 23 = false ∨ s.winCount n 3 ≤ s.get (fillFld n 3))) ∧
    (∃ (s : State) (dt : Nat) (n : Fin 4) (ago : Nat) (_tec : Fin 256) (_rec_ : Fin 256) (b : Nat) (e : Nat) (fill : Nat), s.live = true ∧ s.canSends n = true ∧ (State.advance dt s).txPick n ago = some b ∧ b < 32 ∧ s.get (F.CAN_CTRL.MODE n) = 0 ∧ bitOf (s.ramWord (s.txAddr n b + 4)) 23 = true ∧ fill = s.get (fillFld n 3) ∧ fill < s.winCount n 3 ∧ e = s.winBase n 3 + 12 * (((s.canUnit n).tef.get + fill) % s.winCount n 3) ∧ e + 12 ≤ 65536) ∧
    (∃ (s : State) (dt : Nat) (n : Fin 4) (ago : Nat) (_tec : Fin 256) (_rec_ : Fin 256) (b : Nat), s.live = true ∧ s.canSends n = true ∧ (State.advance dt s).txPick n ago = some b ∧ b < 32 ∧ s.get (F.CAN_CTRL.MODE n) = 3) ∧
    (∃ (s : State) (dt : Nat) (n : Fin 4) (ago : Nat) (c : Nat) (_tec : Fin 256) (_rec_ : Fin 256) (b : Nat), s.live = true ∧ s.canSends n = true ∧ (State.advance dt s).txPick n ago = some b ∧ s.tdcOn n (s.txOut n b) = true ∧ 127 < c) ∧
    (∃ (s : State) (dt : Nat) (n : Fin 4) (ago : Nat) (_lec : Fin 8) (_dlec : Fin 8) (_tec : Fin 256) (_rec_ : Fin 256) (b : Nat), s.live = true ∧ s.canSends n = true ∧ (State.advance dt s).txPick n ago = some b ∧ s.get (F.CAN_CTRL.MODE n) = 0 ∧ b < 32 ∧ n.val < s.can.units.length) ∧
    (∃ (s : State) (dt : Nat) (n : Fin 4) (ago : Nat) (_lec : Fin 8) (_dlec : Fin 8) (_tec : Fin 256) (_rec_ : Fin 256) (b : Nat), s.live = true ∧ s.canSends n = true ∧ (State.advance dt s).txPick n ago = some b ∧ s.get (F.CAN_CTRL.MODE n) = 0 ∧ b < 32 ∧ n.val < s.can.units.length) ∧
    (∃ (s : State) (dt : Nat) (n : Fin 4) (ago : Nat) (t0 : Nat) (_lec : Fin 8) (_dlec : Fin 8) (_tec : Fin 256) (_rec_ : Fin 256) (b : Nat), s.live = true ∧ s.canSends n = true ∧ (State.advance dt s).txPick n ago = some b ∧ b < 32 ∧ (s.canUnit n).dup.find? (fun x => x.1 == b) = some (b, 7, t0) ∧ s.time.cyc + dt ≤ t0 + 500000000) ∧
    (∃ (s : State) (dt : Nat) (n : Fin 4), s.live = true ∧ s.flag (F.CAN_REF.EN n) = true ∧ (s.canUnit n).refAt + 500000 * s.get (F.CAN_REF_CFG.PERIOD n) ≤ s.time.cyc + dt ∧ s.refMay = false) ∧
    (∃ (s : State) (dt : Nat) (n : Fin 4), s.live = true ∧ s.flag (F.CAN_REF.EN n) = true ∧ (s.canUnit n).refAt + 500000 * s.get (F.CAN_REF_CFG.PERIOD n) ≤ s.time.cyc + dt ∧ s.refMay = true ∧ s.txCause n (s.refFrame n) = none ∧ n.val < s.can.units.length) ∧
    (∃ (s : State) (dt : Nat) (ago : Nat) (n : Fin 4) (_tec : Fin 256) (_rec_ : Fin 256), s.live = true ∧ s.canSends n = true ∧ (State.advance dt s).txPick n ago = some 32 ∧ s.get (F.CAN_CTRL.MODE n) = 0 ∧ s.flag (F.CAN_DBTP.TDC_EN n) = false ∧ n.val < s.can.units.length) :=
  ⟨⟨(can0 State.reset), 5, 1, 5#32, (by decide +kernel), (by decide +kernel), (by decide +kernel)⟩,
   ⟨(can0 State.reset), 5, 1, 4#32, (by decide +kernel), (by decide +kernel), (by decide +kernel)⟩,
   ⟨(canTx0 State.reset), 5, 1, 0x84#32, (by decide +kernel), (by decide +kernel)⟩,
   ⟨(fields (can0 State.reset) [(F.CAN_CTRL.MODE 1, 1)]), 5, 1, 4#32, 2, 2, (by decide +kernel), (by decide +kernel), (by decide +kernel), (by decide +kernel), (by decide +kernel), (by decide +kernel)⟩,
   ⟨(canTx0 spring0), 5, 1, 4#32, none, 2, (by decide +kernel), (by decide +kernel), (by decide +kernel), (by decide +kernel), (by decide +kernel)⟩,
   ⟨(canTx0 spring0), 500, 1, 4#32, (some 3), 2, (by decide +kernel), (by decide +kernel), (by decide +kernel), (by decide +kernel), (by decide +kernel)⟩,
   ⟨(canTx0 State.reset), 500, 1, 0, none, 3, 4, 2, (by decide +kernel), (by decide +kernel), (by decide +kernel), (by decide +kernel), (by decide +kernel), (by decide +kernel), (by decide +kernel)⟩,
   ⟨tdc0, 500, 1, 0, (some 9), 3, 4, 2, (by decide +kernel), (by decide +kernel), (by decide +kernel), (by decide +kernel), (by decide +kernel), (by decide +kernel), (by decide +kernel)⟩,
   ⟨tef0, 500, 1, 0, 3, 4, 2, 8192, 0, (by decide +kernel), (by decide +kernel), (by decide +kernel), (by decide +kernel), (by decide +kernel), (by decide +kernel), (by decide +kernel), (by decide +kernel), (by decide +kernel), (by decide +kernel)⟩,
   ⟨(fields (canTx0 State.reset) [(F.CAN_CTRL.MODE 1, 3)]), 500, 1, 0, 3, 4, 2, (by decide +kernel), (by decide +kernel), (by decide +kernel), (by decide +kernel), (by decide +kernel)⟩,
   ⟨tdc0, 500, 1, 0, 128, 3, 4, 2, (by decide +kernel), (by decide +kernel), (by decide +kernel), (by decide +kernel), (by decide +kernel)⟩,
   ⟨(canTx0 State.reset), 500, 1, 0, 3, 4, 9, 8, 2, (by decide +kernel), (by decide +kernel), (by decide +kernel), (by decide +kernel), (by decide +kernel), (by decide +kernel)⟩,
   ⟨(fields (canTx0 State.reset) [(F.CAN_CTRL.DAR 1, 1)]), 500, 1, 0, 3, 4, 9, 8, 2, (by decide +kernel), (by decide +kernel), (by decide +kernel), (by decide +kernel), (by decide +kernel), (by decide +kernel)⟩,
   ⟨dup0, 500, 1, 0, 3, 3, 4, 9, 8, 2, (by decide +kernel), (by decide +kernel), (by decide +kernel), (by decide +kernel), (by decide +kernel), (by decide +kernel)⟩,
   ⟨(fields (can0 State.reset) [(F.CAN_REF.EN 1, 1), (F.CTL_STATUS.STATE, 3)]), 50000000000, 1, (by decide +kernel), (by decide +kernel), (by decide +kernel), (by decide +kernel)⟩,
   ⟨(fields (can0 State.reset) [(F.CAN_REF.EN 1, 1), (F.CAN_CTRL.FDOE 1, 1)]), 50000000000, 1, (by decide +kernel), (by decide +kernel), (by decide +kernel), (by decide +kernel), (by decide +kernel), (by decide +kernel)⟩,
   ⟨ref0, 500, 0, 1, 3, 4, (by decide +kernel), (by decide +kernel), (by decide +kernel), (by decide +kernel), (by decide +kernel), (by decide +kernel)⟩⟩

/-- States that meet the hypotheses of CanReception, clause by clause. -/
theorem meets_CanReception :
    (∃ (s : State) (u : State) (dt : Nat) (n : Fin 4) (f : CanFrame) (_ago : Nat) (tec : Fin 256) (rec_ : Fin 256) (r : FiltRes), s.live = true ∧ s.canTakes n f = true ∧ (s.role = .basin → s.isPdu n f = false) ∧ u = (State.advance dt s).canCounters n tec rec_ ∧ u.filter n f = r ∧ (s.role = .basin ∨ r.dec = false) ∧ r.act = 3) ∧
    (∃ (s : State) (u : State) (dt : Nat) (n : Fin 4) (f : CanFrame) (_ago : Nat) (tec : Fin 256) (rec_ : Fin 256) (r : FiltRes) (w : Nat) (base : Nat) (fill : Nat) (c : Nat) (k : Nat), s.live = true ∧ s.canTakes n f = true ∧ (s.role = .basin → s.isPdu n f = false) ∧ u = (State.advance dt s).canCounters n tec rec_ ∧ u.filter n f = r ∧ (s.role = .basin ∨ r.dec = false) ∧ r.act = w + 1 ∧ w < 2 ∧ fill = s.get (fillFld n w) ∧ c = s.winCount n w ∧ base = s.winBase n w + 80 * ((((s.canUnit n).fifo w).get + fill) % c) ∧ fill < c ∧ k = ((s.canUnit n).rseq + 1) % 65536 ∧ base + 80 ≤ 65536 ∧ n.val < s.can.units.length) ∧
    (∃ (s : State) (u : State) (dt : Nat) (n : Fin 4) (f : CanFrame) (_ago : Nat) (tec : Fin 256) (rec_ : Fin 256) (r : FiltRes) (w : Nat), s.live = true ∧ s.canTakes n f = true ∧ (s.role = .basin → s.isPdu n f = false) ∧ u = (State.advance dt s).canCounters n tec rec_ ∧ u.filter n f = r ∧ (s.role = .basin ∨ r.dec = false) ∧ r.act = w + 1 ∧ w < 2 ∧ s.winCount n w ≤ s.get (fillFld n w) ∧ s.flag (if w = 0 then F.CAN_CTRL.RXF0_OW n else F.CAN_CTRL.RXF1_OW n) = false) ∧
    (∃ (s : State) (u : State) (dt : Nat) (n : Fin 4) (f : CanFrame) (_ago : Nat) (tec : Fin 256) (rec_ : Fin 256) (r : FiltRes) (w : Nat) (base : Nat) (c : Nat) (k : Nat), s.live = true ∧ s.canTakes n f = true ∧ (s.role = .basin → s.isPdu n f = false) ∧ u = (State.advance dt s).canCounters n tec rec_ ∧ u.filter n f = r ∧ (s.role = .basin ∨ r.dec = false) ∧ r.act = w + 1 ∧ w < 2 ∧ c = s.winCount n w ∧ 0 < c ∧ c ≤ s.get (fillFld n w) ∧ s.flag (if w = 0 then F.CAN_CTRL.RXF0_OW n else F.CAN_CTRL.RXF1_OW n) = true ∧ ((s.canUnit n).fifo w).lockAt = none ∧ base = s.winBase n w + 80 * (((s.canUnit n).fifo w).get % c) ∧ k = ((s.canUnit n).rseq + 1) % 65536 ∧ base + 80 ≤ 65536 ∧ n.val < s.can.units.length) ∧
    (∃ (s : State) (u : State) (dt : Nat) (n : Fin 4) (f : CanFrame) (_ago : Nat) (tec : Fin 256) (rec_ : Fin 256) (r : FiltRes) (base : Nat) (k : Nat), s.live = true ∧ s.canTakes n f = true ∧ (s.role = .basin → s.isPdu n f = false) ∧ u = (State.advance dt s).canCounters n tec rec_ ∧ u.filter n f = r ∧ (s.role = .basin ∨ r.dec = false) ∧ r.act = 4 ∧ r.buf < 64 ∧ r.buf < s.winCount n 2 ∧ (s.canUnit n).rxbLock = none ∧ base = s.winBase n 2 + 80 * r.buf ∧ k = ((s.canUnit n).rseq + 1) % 65536 ∧ base + 80 ≤ 65536 ∧ n.val < s.can.units.length) ∧
    (∃ (s : State) (_dt : Nat) (n : Fin 4) (_f : CanFrame) (_ago : Nat) (exc : Bool) (_tec : Fin 256) (_rec_ : Fin 256), s.live = true ∧ s.canHears n = true ∧ exc = true) ∧
    (∃ (s : State) (_dt : Nat) (n : Fin 4) (f : CanFrame) (_ago : Nat) (exc : Bool) (_tec : Fin 256) (_rec_ : Fin 256), s.live = true ∧ (s.canHears n = false ∨ exc = false ∧ s.canTakes n f = false)) ∧
    (∃ (s : State) (_dt : Nat) (n : Fin 4) (f : CanFrame) (_ago : Nat) (exc : Bool) (_tec : Fin 256) (_rec_ : Fin 256), s.live = true ∧ (s.canHears n = false ∨ exc = false ∧ s.canTakes n f = false)) ∧
    (∃ (s : State) (dt : Nat), s.live = true ∧ s.role = .spring ∧ s.can.pack.doneAt.isSome = true ∧ s.flag F.CAN_PACK_STAT.STALE = false ∧ s.staleMs < (State.advance dt s).bmsAge) ∧
    (∃ (s : State), s.live = true ∧ s.role = .spring) :=
  ⟨⟨(fields (can0 spring0) [(F.CAN_GFC.ANFS 1, 2), (F.CAN_FIFO.RXF0_FILL 1, 0)]), ((State.advance 5 (fields (can0 spring0) [(F.CAN_GFC.ANFS 1, 2), (F.CAN_FIFO.RXF0_FILL 1, 0)])).canCounters 1 3 9), 5, 1, canFrame0, 4, 3, 9, ⟨3, 0x7F, true, false, 0⟩, (by decide +kernel), (by decide +kernel), (by decide +kernel), (by decide +kernel), (by decide +kernel), (by decide +kernel), (by decide +kernel)⟩,
   ⟨(fields (can0 spring0) [(F.CAN_GFC.ANFS 1, 0), (F.CAN_FIFO.RXF0_FILL 1, 3)]), ((State.advance 5 (fields (can0 spring0) [(F.CAN_GFC.ANFS 1, 0), (F.CAN_FIFO.RXF0_FILL 1, 3)])).canCounters 1 3 9), 5, 1, canFrame0, 4, 3, 9, ⟨1, 0x7F, true, false, 0⟩, 0, 240, 3, 4, 1, (by decide +kernel), (by decide +kernel), (by decide +kernel), (by decide +kernel), (by decide +kernel), (by decide +kernel), (by decide +kernel), (by decide +kernel), (by decide +kernel), (by decide +kernel), (by decide +kernel), (by decide +kernel), (by decide +kernel), (by decide +kernel), (by decide +kernel)⟩,
   ⟨(fields (can0 spring0) [(F.CAN_GFC.ANFS 1, 0), (F.CAN_FIFO.RXF0_FILL 1, 4)]), ((State.advance 5 (fields (can0 spring0) [(F.CAN_GFC.ANFS 1, 0), (F.CAN_FIFO.RXF0_FILL 1, 4)])).canCounters 1 3 9), 5, 1, canFrame0, 4, 3, 9, ⟨1, 0x7F, true, false, 0⟩, 0, (by decide +kernel), (by decide +kernel), (by decide +kernel), (by decide +kernel), (by decide +kernel), (by decide +kernel), (by decide +kernel), (by decide +kernel), (by decide +kernel), (by decide +kernel)⟩,
   ⟨(fields (can0 spring0) [(F.CAN_GFC.ANFS 1, 0), (F.CAN_FIFO.RXF0_FILL 1, 4), (F.CAN_CTRL.RXF0_OW 1, 1)]), ((State.advance 5 (fields (can0 spring0) [(F.CAN_GFC.ANFS 1, 0), (F.CAN_FIFO.RXF0_FILL 1, 4), (F.CAN_CTRL.RXF0_OW 1, 1)])).canCounters 1 3 9), 5, 1, canFrame0, 4, 3, 9, ⟨1, 0x7F, true, false, 0⟩, 0, 0, 4, 1, (by decide +kernel), (by decide +kernel), (by decide +kernel), (by decide +kernel), (by decide +kernel), (by decide +kernel), (by decide +kernel), (by decide +kernel), (by decide +kernel), (by decide +kernel), (by decide +kernel), (by decide +kernel), (by decide +kernel), (by decide +kernel), (by decide +kernel), (by decide +kernel), (by decide +kernel)⟩,
   ⟨rxb0, ((State.advance 5 (rxb0)).canCounters 1 3 9), 5, 1, canFrame0, 4, 3, 9, ⟨4, 0, false, false, 1⟩, 2128, 1, (by decide +kernel), (by decide +kernel), (by decide +kernel), (by decide +kernel), (by decide +kernel), (by decide +kernel), (by decide +kernel), (by decide +kernel), (by decide +kernel), (by decide +kernel), (by decide +kernel), (by decide +kernel), (by decide +kernel), (by decide +kernel)⟩,
   ⟨(can0 spring0), 5, 1, canFrame0, 4, true, 3, 9, (by decide +kernel), (by decide +kernel), (by decide +kernel)⟩,
   ⟨(fields (can0 spring0) [(F.CAN_CTRL.INIT 1, 1)]), 5, 1, canFrame0, 4, false, 3, 9, (by decide +kernel), (by decide +kernel)⟩,
   ⟨(can0 spring0), 5, 1, { canFrame0 with fdf := true }, 4, false, 3, 9, (by decide +kernel), (by decide +kernel)⟩,
   ⟨(packed spring0 5), 5000000, (by decide +kernel), (by decide +kernel), (by decide +kernel), (by decide +kernel), (by decide +kernel)⟩,
   ⟨(packed spring0 5), (by decide +kernel), (by decide +kernel)⟩⟩

/-- States that meet the hypotheses of PortEvents, clause by clause. -/
theorem meets_PortEvents :
    (∃ (s : State) (_dt : Nat) (v : Nat) (p : Fin 12), s.live = true ∧ s.hasPort p = true ∧ osetCode v = 1 ∧ osetOk v = true ∧ (s.portSt p = 1 ∨ s.portSt p = 3) ∧ (bitOf v 4 = false ∨ s.flag (F.LNK_PSTAT.LOCK p) = false)) ∧
    (∃ (s : State) (_dt : Nat) (v : Nat) (p : Fin 12), s.live = true ∧ s.hasPort p = true ∧ osetCode v = 1 ∧ osetOk v = true ∧ (s.portSt p = 1 ∨ s.portSt p = 3) ∧ (bitOf v 4 = false ∨ s.flag (F.LNK_PSTAT.LOCK p) = false)) ∧
    (∃ (s : State) (_dt : Nat) (v : Nat) (p : Fin 12), s.live = true ∧ s.hasPort p = true ∧ osetCode v = 1 ∧ osetOk v = true ∧ (s.portSt p = 1 ∨ s.portSt p = 3) ∧ bitOf v 4 = true ∧ s.flag (F.LNK_PSTAT.LOCK p) = true) ∧
    (∃ (s : State) (_dt : Nat) (v : Nat) (p : Fin 12), s.live = true ∧ s.hasPort p = true ∧ osetCode v = 1 ∧ osetOk v = true ∧ s.portSt p = 2) ∧
    (∃ (s : State) (_dt : Nat) (v : Nat) (p : Fin 12), s.live = true ∧ s.hasPort p = true ∧ ((osetCode v = 1 ∧ osetOk v = false) ∨ osetCode v ∉ [1, 2, 0xA])) ∧
    (∃ (s : State) (_dt : Nat) (v : Nat) (p : Fin 12), s.live = true ∧ s.hasPort p = true ∧ ((osetCode v = 1 ∧ osetOk v = false) ∨ osetCode v ∉ [1, 2, 0xA])) ∧
    (∃ (s : State) (_dt : Nat) (v : Nat) (p : Fin 12), s.live = true ∧ s.hasPort p = true ∧ ((osetCode v = 2 ∧ osetOk v = false) ∨ osetCode v ∉ [1, 2, 0xA])) ∧
    (∃ (s : State) (_dt : Nat) (v : Nat) (p : Fin 12), s.live = true ∧ s.hasPort p = true ∧ ((osetCode v = 2 ∧ osetOk v = false) ∨ osetCode v ∉ [1, 2, 0xA])) ∧
    (∃ (s : State) (dt : Nat) (p : Fin 12), s.live = true ∧ s.hasPort p = true ∧ (s.portSt p = 1 ∨ s.portSt p = 3) ∧ (s.lport p).burstAt + 5000 ≤ s.time.cyc + dt) ∧
    (∃ (s : State) (_dt : Nat) (p : Fin 12), s.live = true ∧ s.hasPort p = true ∧ (s.portSt p = 1 ∨ s.portSt p = 3) ∧ s.flag (F.LNK_PSTAT.PEER_LOCKED p) = false) ∧
    (∃ (s : State) (_dt : Nat) (p : Fin 12), s.live = true ∧ s.hasPort p = true ∧ (s.portSt p = 1 ∨ s.portSt p = 3) ∧ s.flag (F.LNK_PSTAT.PEER_LOCKED p) = true) ∧
    (∃ (s : State) (_dt : Nat) (p : Fin 12) (_cause : Fin 2) (_hdrs : Nat), s.live = true ∧ s.hasPort p = true ∧ s.portSt p = 2) ∧
    (∃ (s : State) (_dt : Nat) (p : Fin 12) (_cause : Fin 2) (_hdrs : Nat), s.live = true ∧ s.hasPort p = true ∧ s.portSt p = 2) ∧
    (∃ (s : State) (_dt : Nat) (v : Nat) (p : Fin 12), s.live = true ∧ s.hasPort p = true ∧ s.portSt p ≠ 0 ∧ osetCode v = 2 ∧ osetOk v = true) ∧
    (∃ (s : State) (_dt : Nat) (v : Nat) (p : Fin 12), s.live = true ∧ s.hasPort p = true ∧ s.portSt p ≠ 0 ∧ osetCode v = 2 ∧ osetOk v = true) ∧
    (∃ (s : State) (_dt : Nat) (p : Fin 12), s.live = true ∧ s.hasPort p = true ∧ s.portSt p ≠ 0 ∧ s.flag (F.LNK_PSTAT.CDR p) = false) ∧
    (∃ (s : State) (p : Fin 12), s.live = true ∧ s.hasPort p = true ∧ s.flag (F.LNK_PSTAT.CDR p) = true) ∧
    (∃ (s : State) (_p : Fin 12), s.live = true) ∧
    (∃ (s : State) (p : Fin 12), s.live = true ∧ s.hasPort p = true ∧ s.portSt p ≠ 0 ∧ s.portSt p ≠ 4) ∧
    (∃ (s : State) (p : Fin 12), s.live = true ∧ s.hasPort p = true ∧ s.portSt p ≠ 0 ∧ s.portSt p ≠ 4) ∧
    (∃ (s : State) (p : Fin 12), s.live = true ∧ s.hasPort p = true ∧ s.portSt p = 0) ∧
    (∃ (s : State) (p : Fin 12) (_errs : Nat) (enr : Bool), s.live = true ∧ s.hasPort p = true ∧ enr = (match s.role with | .spring => s.flag F.LNK_SPOS.ENROLLED | .basin => s.chainEnrolled (s.chainOfPort p)) ∧ (s.portSt p = 0 ∨ s.portSt p = 2 ∧ enr = false) ∧ s.flag (F.LNK_PRBS_CTRL.GEN p) = false) ∧
    (∃ (s : State) (p : Fin 12) (_errs : Nat) (enr : Bool), s.live = true ∧ s.hasPort p = true ∧ enr = (match s.role with | .spring => s.flag F.LNK_SPOS.ENROLLED | .basin => s.chainEnrolled (s.chainOfPort p)) ∧ (s.portSt p = 0 ∨ s.portSt p = 2 ∧ enr = false) ∧ s.flag (F.LNK_PRBS_CTRL.GEN p) = false) ∧
    (∃ (s : State) (p : Fin 12) (_errs : Nat) (enr : Bool), s.live = true ∧ s.hasPort p = true ∧ enr = (match s.role with | .spring => s.flag F.LNK_SPOS.ENROLLED | .basin => s.chainEnrolled (s.chainOfPort p)) ∧ (¬ (s.portSt p = 0 ∨ s.portSt p = 2 ∧ enr = false)) ∧ s.flag (F.LNK_PRBS_CTRL.GEN p) = false) ∧
    (∃ (s : State) (p : Fin 12) (_errs : Nat) (enr : Bool), s.live = true ∧ s.hasPort p = true ∧ enr = (match s.role with | .spring => s.flag F.LNK_SPOS.ENROLLED | .basin => s.chainEnrolled (s.chainOfPort p)) ∧ s.flag (F.LNK_PRBS_CTRL.GEN p) = true) ∧
    (∃ (s : State) (p : Fin 12) (_errs : Nat) (enr : Bool) (_g : Bool), s.live = true ∧ s.hasPort p = true ∧ enr = (match s.role with | .spring => s.flag F.LNK_SPOS.ENROLLED | .basin => s.chainEnrolled (s.chainOfPort p)) ∧ (s.lport p).chkAt.isSome = true) ∧
    (∃ (s : State) (p : Fin 12) (_errs : Nat) (enr : Bool), s.live = true ∧ s.hasPort p = true ∧ enr = (match s.role with | .spring => s.flag F.LNK_SPOS.ENROLLED | .basin => s.chainEnrolled (s.chainOfPort p))) :=
  ⟨⟨(fields active0 [(F.CLK_PLLL_STAT.STATE, 3), (F.LNK_PSTAT.STATE 3, 1), (F.LNK_PSTAT.LOCK 3, 1)]), 5, (trainSet false .spring 5 0), 3, (by decide +kernel), (by decide +kernel), (by decide +kernel), (by decide +kernel), (by decide +kernel), (by decide +kernel)⟩,
   ⟨(fields active0 [(F.CLK_PLLL_STAT.STATE, 3), (F.LNK_PSTAT.STATE 3, 3)]), 5, (trainSet true .spring 5 0), 3, (by decide +kernel), (by decide +kernel), (by decide +kernel), (by decide +kernel), (by decide +kernel), (by decide +kernel)⟩,
   ⟨(fields active0 [(F.CLK_PLLL_STAT.STATE, 3), (F.LNK_PSTAT.STATE 3, 3), (F.LNK_PSTAT.LOCK 3, 1)]), 5, (trainSet true .spring 5 0), 3, (by decide +kernel), (by decide +kernel), (by decide +kernel), (by decide +kernel), (by decide +kernel), (by decide +kernel), (by decide +kernel)⟩,
   ⟨(fields active0 [(F.CLK_PLLL_STAT.STATE, 3), (F.LNK_PSTAT.STATE 3, 2), (F.LNK_PSTAT.LOCK 3, 1)]), 5, (trainSet true .spring 5 0), 3, (by decide +kernel), (by decide +kernel), (by decide +kernel), (by decide +kernel), (by decide +kernel)⟩,
   ⟨(fields active0 [(F.LNK_PSTAT.STATE 3, 2)]), 5, 1, 3, (by decide +kernel), (by decide +kernel), (by decide +kernel)⟩,
   ⟨(fields active0 [(F.LNK_PSTAT.STATE 3, 2)]), 5, (oset 3), 3, (by decide +kernel), (by decide +kernel), (by decide +kernel)⟩,
   ⟨(fields active0 [(F.LNK_PSTAT.STATE 3, 2)]), 5, 2, 3, (by decide +kernel), (by decide +kernel), (by decide +kernel)⟩,
   ⟨(fields active0 [(F.LNK_PSTAT.STATE 3, 2)]), 5, (oset 3), 3, (by decide +kernel), (by decide +kernel), (by decide +kernel)⟩,
   ⟨(fields active0 [(F.CLK_PLLL_STAT.STATE, 3), (F.LNK_PSTAT.STATE 3, 3)]), 5000, 3, (by decide +kernel), (by decide +kernel), (by decide +kernel), (by decide +kernel)⟩,
   ⟨(fields active0 [(F.LNK_PSTAT.STATE 3, 1)]), 5, 3, (by decide +kernel), (by decide +kernel), (by decide +kernel), (by decide +kernel)⟩,
   ⟨(fields active0 [(F.LNK_PSTAT.STATE 3, 1), (F.LNK_PSTAT.PEER_LOCKED 3, 1)]), 5, 3, (by decide +kernel), (by decide +kernel), (by decide +kernel), (by decide +kernel)⟩,
   ⟨(fields active0 [(F.LNK_PSTAT.STATE 1, 2)]), 5, 1, 1, 3, (by decide +kernel), (by decide +kernel), (by decide +kernel)⟩,
   ⟨(fields active0 [(F.LNK_PSTAT.STATE 7, 2), (F.RED_CLAIM.ROLE, roleLone)]), 5, 7, 1, 3, (by decide +kernel), (by decide +kernel), (by decide +kernel)⟩,
   ⟨(fields active0 [(F.LNK_PSTAT.STATE 1, 2)]), 5, eiSet, 1, (by decide +kernel), (by decide +kernel), (by decide +kernel), (by decide +kernel), (by decide +kernel)⟩,
   ⟨(fields active0 [(F.LNK_PSTAT.STATE 1, 4)]), 5, eiSet, 1, (by decide +kernel), (by decide +kernel), (by decide +kernel), (by decide +kernel), (by decide +kernel)⟩,
   ⟨(fields active0 [(F.LNK_PSTAT.STATE 1, 2)]), 5, 1, (by decide +kernel), (by decide +kernel), (by decide +kernel), (by decide +kernel)⟩,
   ⟨(fields active0 [(F.LNK_PSTAT.STATE 1, 2), (F.LNK_PSTAT.CDR 1, 1)]), 1, (by decide +kernel), (by decide +kernel), (by decide +kernel)⟩,
   ⟨active0, 1, (by decide +kernel)⟩,
   ⟨(fields active0 [(F.CLK_PLLL_STAT.STATE, 3), (F.LNK_PSTAT.STATE 1, 2), (F.LNK_PSTAT.CDR 1, 1)]), 1, (by decide +kernel), (by decide +kernel), (by decide +kernel), (by decide +kernel)⟩,
   ⟨(fields active0 [(F.LNK_PSTAT.STATE 1, 3)]), 1, (by decide +kernel), (by decide +kernel), (by decide +kernel), (by decide +kernel)⟩,
   ⟨(fields active0 [(F.CLK_PLLL_STAT.STATE, 3), (F.LNK_PSTAT.STATE 1, 0)]), 1, (by decide +kernel), (by decide +kernel), (by decide +kernel)⟩,
   ⟨(fields active0 [(F.LNK_PSTAT.STATE 1, 0)]), 1, 2, false, (by decide +kernel), (by decide +kernel), (by decide +kernel), (by decide +kernel), (by decide +kernel)⟩,
   ⟨(fields active0 [(F.LNK_PSTAT.STATE 1, 2)]), 1, 2, false, (by decide +kernel), (by decide +kernel), (by decide +kernel), (by decide +kernel), (by decide +kernel)⟩,
   ⟨(fields active0 [(F.LNK_PSTAT.STATE 1, 1)]), 1, 2, false, (by decide +kernel), (by decide +kernel), (by decide +kernel), (by decide +kernel), (by decide +kernel)⟩,
   ⟨(fields active0 [(F.CLK_PLLL_STAT.STATE, 3), (F.LNK_PSTAT.STATE 1, 4), (F.LNK_PRBS_CTRL.GEN 1, 1)]), 1, 2, false, (by decide +kernel), (by decide +kernel), (by decide +kernel), (by decide +kernel)⟩,
   ⟨{ active0 with lnk := { active0.lnk with ports := active0.lnk.ports.set 1 { chkAt := some 0 } } }, 1, 7, false, true, (by decide +kernel), (by decide +kernel), (by decide +kernel), (by decide +kernel)⟩,
   ⟨active0, 1, 2, false, (by decide +kernel), (by decide +kernel), (by decide +kernel)⟩⟩

/-- States that meet the hypotheses of MgmtTransport, clause by clause. -/
theorem meets_MgmtTransport :
    (∃ (s : State) (_dt : Nat) (q : Nat) (n : Nat) (port : Fin 2) (bs : List Block), s.live = true ∧ s.role = .spring ∧ s.portUp port = true ∧ q = 1 - port.val ∧ s.forwards (hear bs).bytes = true ∧ n = (hear bs).bytes.length ∧ s.portUp q = false) ∧
    (∃ (s : State) (dt : Nat) (q : Nat) (n : Nat) (port : Fin 2) (bs : List Block), s.live = true ∧ s.role = .spring ∧ s.portUp port = true ∧ q = 1 - port.val ∧ s.forwards (hear bs).bytes = true ∧ n = (hear bs).bytes.length ∧ s.portUp q = true ∧ ¬ (ftypeOf (hear bs).bytes = ftMGMT ∧ ((State.advance dt s).lane q).jobs ≠ [] ∧ 8192 < ((State.advance dt s).lane q).stored + n)) ∧
    (∃ (s : State) (dt : Nat) (q : Nat) (n : Nat) (port : Fin 2) (bs : List Block), s.live = true ∧ s.role = .spring ∧ s.portUp port = true ∧ q = 1 - port.val ∧ s.forwards (hear bs).bytes = true ∧ n = (hear bs).bytes.length ∧ s.portUp q = true ∧ ¬ (ftypeOf (hear bs).bytes = ftMGMT ∧ ((State.advance dt s).lane q).jobs ≠ [] ∧ 8192 < ((State.advance dt s).lane q).stored + n)) ∧
    (∃ (s : State) (dt : Nat) (q : Nat) (n : Nat) (port : Fin 2) (bs : List Block), s.live = true ∧ s.role = .spring ∧ s.portUp port = true ∧ q = 1 - port.val ∧ s.forwards (hear bs).bytes = true ∧ n = (hear bs).bytes.length ∧ s.portUp q = true ∧ ftypeOf (hear bs).bytes = ftMGMT ∧ ((State.advance dt s).lane q).jobs ≠ [] ∧ 8192 < ((State.advance dt s).lane q).stored + n) ∧
    (∃ (s : State) (_dt : Nat) (port : Fin 12) (bs : List Block), s.live = true ∧ s.hasPort port = true ∧ s.portUp port = true ∧ (hear bs).good = false) ∧
    (∃ (s : State) (_dt : Nat) (port : Fin 12) (bs : List Block), s.live = true ∧ s.hasPort port = true ∧ s.portUp port = true ∧ (hear bs).good = false) ∧
    (∃ (s : State) (_dt : Nat) (port : Fin 12) (bs : List Block) (m : Mgmt) (x : MOut), s.Hears port bs m ∧ m.op = 0x05 ∧ (s.peer m.src).unacked.find? (fun x => x.m.mseq == m.param) = some x ∧ (s.peer m.src).waiting = [] ∧ ¬ (x.m.op = 0x20 ∧ chunkKind x.m.param = 3)) ∧
    (∃ (s : State) (_dt : Nat) (port : Fin 12) (bs : List Block) (m : Mgmt) (x : MOut) (id : Nat) (w : Nat) (c : Nat), s.Hears port bs m ∧ m.op = 0x06 ∧ (s.peer m.src).unacked.find? (fun x => x.m.mseq == m.param) = some x ∧ (s.peer m.src).waiting = [] ∧ x.owner = .infl id w c) ∧
    (∃ (s : State) (dt : Nat) (dest : Nat), s.live = true ∧ (∃ x ∈ (s.peer dest).unacked, x.at' + 5000 * s.get F.LNK_MGMT_CFG.TMO ≤ s.time.cyc + dt) ∧ (s.peer dest).resends < s.get F.LNK_MGMT_CFG.RETRY) ∧
    (∃ (s : State) (dt : Nat) (dest : Nat), s.live = true ∧ (∃ x ∈ (s.peer dest).unacked, x.at' + 5000 * s.get F.LNK_MGMT_CFG.TMO ≤ s.time.cyc + dt) ∧ s.get F.LNK_MGMT_CFG.RETRY ≤ (s.peer dest).resends) ∧
    (∃ (s : State) (dt : Nat) (dest : Nat) (mseq : Nat) (a : Await), s.live = true ∧ s.lnk.awaits.find? (fun a => a.dest == dest && a.mseq == mseq) = some a ∧ a.at' + (s.get F.LNK_MGMT_CFG.RETRY + 2) * (5000 * s.get F.LNK_MGMT_CFG.TMO) ≤ s.time.cyc + dt) ∧
    (∃ (s : State) (_dt : Nat) (port : Fin 12) (bs : List Block) (m : Mgmt), s.HearsFrame port bs ftMGMT ∧ s.role = .basin ∧ mgmtOf (hear bs).bytes = some m ∧ m.relayed = false ∧ m.addr < 192 ∧ m.addr / 16 ≠ port.val ∧ s.portUp (m.addr / 16) = true) :=
  ⟨⟨(lit (fields enrolled0 [(F.LNK_PSTAT.STATE 1, 3)])), 5, 1, ((wireBytes (.tick frame0)).length), 0, (heard (.tick frame0)), (by decide +kernel), (by decide +kernel), (by decide +kernel), (by decide +kernel), (by decide +kernel), (by decide +kernel), (by decide +kernel)⟩,
   ⟨(lit enrolled0), 5, 1, ((wireBytes (.tick frame0)).length), 0, (heard (.tick frame0)), (by decide +kernel), (by decide +kernel), (by decide +kernel), (by decide +kernel), (by decide +kernel), (by decide +kernel), (by decide +kernel), (by decide +kernel)⟩,
   ⟨(lit enrolled0), 5, 0, ((wireBytes (.mgmt (mgmt0 0 8 []))).length), 1, (mheard (mgmt0 0 8 [])), (by decide +kernel), (by decide +kernel), (by decide +kernel), (by decide +kernel), (by decide +kernel), (by decide +kernel), (by decide +kernel), (by decide +kernel)⟩,
   ⟨{ lit enrolled0 with lanes := enrolled0.lanes.set 0 { jobs := [{ cls := 2, left := 1000, fwd := true, bytes := 8190 }] } }, 5, 0, ((wireBytes (.mgmt (mgmt0 0 8 []))).length), 1, (mheard (mgmt0 0 8 [])), (by decide +kernel), (by decide +kernel), (by decide +kernel), (by decide +kernel), (by decide +kernel), (by decide +kernel), (by decide +kernel), (by decide +kernel), (by decide +kernel), (by decide +kernel)⟩,
   ⟨linked0, 5, 1, ((mheard (mgmt0 0x05 1 [])).dropLast ++ [.other]), (by decide +kernel), (by decide +kernel), (by decide +kernel), (by decide +kernel)⟩,
   ⟨linked0, 5, 1, (frameBlocks ((wireBytes (.mgmt (mgmt0 0x05 1 []))).set 3 99)), (by decide +kernel), (by decide +kernel), (by decide +kernel), (by decide +kernel)⟩,
   ⟨linked0, 5, 1, (mheard (mgmt0 0x05 1 [])), (mgmt0 0x05 1 []), (mout0 .none), (by unfold State.Hears State.HearsFrame; decide +kernel), (by decide +kernel), (by decide +kernel), (by decide +kernel), (by decide +kernel)⟩,
   ⟨{ linked0 with lnk := { linked0.lnk with peers := [{ dest := 16, tx := some 1, rx := some 4, unacked := [mout0 (.infl 1 0 1)] }] } }, 5, 1, (mheard (mgmt0 0x06 1 [1])), (mgmt0 0x06 1 [1]), (mout0 (.infl 1 0 1)), 1, 0, 1, (by unfold State.Hears State.HearsFrame; decide +kernel), (by decide +kernel), (by decide +kernel), (by decide +kernel), (by decide +kernel)⟩,
   ⟨(lit linked0), 50000, 16, (by decide +kernel), (by decide +kernel), (by decide +kernel)⟩,
   ⟨{ linked0 with lnk := { linked0.lnk with peers := [{ dest := 16, tx := some 1, rx := some 4, unacked := [mout0 .none], resends := 3 }] } }, 50000, 16, (by decide +kernel), (by decide +kernel), (by decide +kernel)⟩,
   ⟨linked0, 500000, 16, 1, { dest := 16, op := 0, mseq := 1, param := 8, owner := .none, at' := 3 }, (by decide +kernel), (by decide +kernel), (by decide +kernel)⟩,
   ⟨(lit linked0), 5, 2, (mheard { mgmt0 0x05 1 [] with addr := 17 }), { mgmt0 0x05 1 [] with addr := 17 }, (by unfold State.HearsFrame; decide +kernel), (by decide +kernel), (by decide +kernel), (by decide +kernel), (by decide +kernel), (by decide +kernel), (by decide +kernel)⟩⟩

/-- States that meet the hypotheses of EnrolmentAndReports, clause by clause. -/
theorem meets_EnrolmentAndReports :
    (∃ (s : State) (_dt : Nat) (port : Fin 2) (bs : List Block) (m : Mgmt) (pos : Nat), s.HearsFrame port bs ftMGMT ∧ mgmtOf (hear bs).bytes = some m ∧ s.role = .spring ∧ m.op = 0x10 ∧ m.addr = 0xFF ∧ s.get F.LNK_SPOS.ENROLLED = 0 ∧ (pos : Int) = (if bitOf m.param 0 then (bytesAt m.payload 2 1 : Int) - m.hop else m.hop + 1) ∧ 1 ≤ pos ∧ pos ≤ bytesAt m.payload 2 1 ∧ pos < 32 ∧ 16 * m.chain + pos ≤ 256) ∧
    (∃ (s : State) (_dt : Nat) (port : Fin 2) (bs : List Block) (m : Mgmt) (pos : Nat), s.HearsFrame port bs ftMGMT ∧ mgmtOf (hear bs).bytes = some m ∧ s.role = .spring ∧ m.op = 0x10 ∧ m.addr = 0xFF ∧ s.get F.LNK_SPOS.ENROLLED = 0 ∧ (pos : Int) = (if bitOf m.param 0 then (bytesAt m.payload 2 1 : Int) - m.hop else m.hop + 1) ∧ 1 ≤ pos ∧ pos ≤ bytesAt m.payload 2 1 ∧ pos < 32 ∧ 16 * m.chain + pos ≤ 256) ∧
    (∃ (s : State) (_dt : Nat) (port : Fin 2) (bs : List Block) (m : Mgmt) (pos : Int), s.HearsFrame port bs ftMGMT ∧ mgmtOf (hear bs).bytes = some m ∧ s.role = .spring ∧ m.op = 0x10 ∧ m.addr = 0xFF ∧ s.get F.LNK_SPOS.ENROLLED = 0 ∧ pos = (if bitOf m.param 0 then (bytesAt m.payload 2 1 : Int) - m.hop else m.hop + 1) ∧ (pos < 1 ∨ (bytesAt m.payload 2 1 : Int) < pos)) ∧
    (∃ (s : State) (_dt : Nat) (port : Fin 2) (bs : List Block) (m : Mgmt), s.HearsFrame port bs ftMGMT ∧ mgmtOf (hear bs).bytes = some m ∧ s.role = .spring ∧ m.op = 0x10 ∧ m.addr = 0xFF ∧ s.get F.LNK_SPOS.ENROLLED = 1) ∧
    (∃ (s : State) (_dt : Nat) (port : Fin 12) (bs : List Block) (m : Mgmt) (r : EnrolReply), s.Hears port bs m ∧ s.role = .basin ∧ m.op = 0x11 ∧ r = replyOf m.payload ∧ s.dispatches = true ∧ m.chain < 12 ∧ r.index / 16 = m.chain ∧ bitOf m.param 2 = false) ∧
    (∃ (s : State) (_dt : Nat) (port : Fin 12) (bs : List Block) (m : Mgmt) (r : EnrolReply), s.Hears port bs m ∧ s.role = .basin ∧ m.op = 0x11 ∧ r = replyOf m.payload ∧ s.dispatches = true ∧ m.chain < 12 ∧ r.index / 16 = m.chain ∧ bitOf m.param 2 = true) ∧
    (∃ (s : State) (dt : Nat) (chain : Fin 12) (at_ : Nat), s.live = true ∧ s.role = .basin ∧ (s.chain chain).startedAt = some at_ ∧ at_ + 500000 ≤ s.time.cyc + dt) ∧
    (∃ (s : State) (_dt : Nat) (c : Nat) (port : Fin 12) (bs : List Block) (m : Mgmt), s.Hears port bs m ∧ s.role = .basin ∧ m.op = 0x13 ∧ ((m.src < 192 ∧ c = m.src / 16) ∨ ((m.src = 0xC0 ∨ m.src = 0xC1) ∧ c = m.chain)) ∧ c < 12 ∧ c < s.lnk.chains.length ∧ m.payload.getD 1 0 ≠ 0) ∧
    (∃ (s : State) (_dt : Nat) (c : Nat) (port : Fin 12) (bs : List Block) (m : Mgmt), s.Hears port bs m ∧ s.role = .basin ∧ m.op = 0x13 ∧ ((m.src < 192 ∧ c = m.src / 16) ∨ ((m.src = 0xC0 ∨ m.src = 0xC1) ∧ c = m.chain)) ∧ c < 12 ∧ c < s.lnk.chains.length ∧ m.payload.getD 1 0 = 0) ∧
    (∃ (s : State) (_dt : Nat) (port : Fin 12) (bs : List Block) (m : Mgmt), s.Hears port bs m ∧ s.role = .basin ∧ m.op = 0x14) :=
  ⟨⟨(fields enrolled0 [(F.LNK_SPOS.ENROLLED, 0)]), 5, 0, (mheard { mgmt0 0x10 0 [0, 0, 3] with addr := 0xFF, hop := 1, chain := 2, src := 0xC0 }), { mgmt0 0x10 0 [0, 0, 3] with addr := 0xFF, hop := 1, chain := 2, src := 0xC0 }, 2, (by unfold State.HearsFrame; decide +kernel), (by decide +kernel), (by decide +kernel), (by decide +kernel), (by decide +kernel), (by decide +kernel), (by decide +kernel), (by decide +kernel), (by decide +kernel), (by decide +kernel), (by decide +kernel)⟩,
   ⟨(lit (fields enrolled0 [(F.LNK_SPOS.ENROLLED, 0)])), 5, 1, (mheard { mgmt0 0x10 1 [0, 0, 3] with addr := 0xFF, hop := 0, chain := 2, src := 0xC0 }), { mgmt0 0x10 1 [0, 0, 3] with addr := 0xFF, hop := 0, chain := 2, src := 0xC0 }, 3, (by unfold State.HearsFrame; decide +kernel), (by decide +kernel), (by decide +kernel), (by decide +kernel), (by decide +kernel), (by decide +kernel), (by decide +kernel), (by decide +kernel), (by decide +kernel), (by decide +kernel), (by decide +kernel)⟩,
   ⟨(fields enrolled0 [(F.LNK_SPOS.ENROLLED, 0)]), 5, 0, (mheard { mgmt0 0x10 0 [0, 0, 3] with addr := 0xFF, hop := 3, chain := 2, src := 0xC0 }), { mgmt0 0x10 0 [0, 0, 3] with addr := 0xFF, hop := 3, chain := 2, src := 0xC0 }, 4, (by unfold State.HearsFrame; decide +kernel), (by decide +kernel), (by decide +kernel), (by decide +kernel), (by decide +kernel), (by decide +kernel), (by decide +kernel), (by decide +kernel)⟩,
   ⟨enrolled0, 5, 0, (mheard { mgmt0 0x10 0 [0, 0, 3] with addr := 0xFF, hop := 1, chain := 2, src := 0xC0 }), { mgmt0 0x10 0 [0, 0, 3] with addr := 0xFF, hop := 1, chain := 2, src := 0xC0 }, (by unfold State.HearsFrame; decide +kernel), (by decide +kernel), (by decide +kernel), (by decide +kernel), (by decide +kernel), (by decide +kernel)⟩,
   ⟨linked0, 5, 1, (mheard { mgmt0 0x11 0 (replyBytes ⟨17, 2, 3, 4, 0, 99, 0⟩) with chain := 1 }), { mgmt0 0x11 0 (replyBytes ⟨17, 2, 3, 4, 0, 99, 0⟩) with chain := 1 }, ⟨17, 2, 3, 4, 0, 99, 0⟩, (by unfold State.Hears State.HearsFrame; decide +kernel), (by decide +kernel), (by decide +kernel), (by decide +kernel), (by decide +kernel), (by decide +kernel), (by decide +kernel), (by decide +kernel)⟩,
   ⟨linked0, 5, 1, (mheard { mgmt0 0x11 4 (replyBytes ⟨17, 2, 3, 4, 0, 99, 0⟩) with chain := 1 }), { mgmt0 0x11 4 (replyBytes ⟨17, 2, 3, 4, 0, 99, 0⟩) with chain := 1 }, ⟨17, 2, 3, 4, 0, 99, 0⟩, (by unfold State.Hears State.HearsFrame; decide +kernel), (by decide +kernel), (by decide +kernel), (by decide +kernel), (by decide +kernel), (by decide +kernel), (by decide +kernel), (by decide +kernel)⟩,
   ⟨{ linked0 with lnk := { linked0.lnk with chains := linked0.lnk.chains.set 1 { startedAt := some 3, replied := [1] } } }, 600000, 1, 3, (by decide +kernel), (by decide +kernel), (by decide +kernel), (by decide +kernel)⟩,
   ⟨linked0, 5, 1, 1, (mheard (mgmt0 0x13 0 [1, 1])), ((mgmt0 0x13 0 [1, 1])), (by unfold State.Hears State.HearsFrame; decide +kernel), (by decide +kernel), (by decide +kernel), (by decide +kernel), (by decide +kernel), (by decide +kernel), (by decide +kernel)⟩,
   ⟨linked0, 5, 1, 1, (mheard (mgmt0 0x13 0 [1, 0])), ((mgmt0 0x13 0 [1, 0])), (by unfold State.Hears State.HearsFrame; decide +kernel), (by decide +kernel), (by decide +kernel), (by decide +kernel), (by decide +kernel), (by decide +kernel), (by decide +kernel)⟩,
   ⟨linked0, 5, 1, (mheard (mgmt0 0x14 0 (List.replicate 24 3))), ((mgmt0 0x14 0 (List.replicate 24 3))), (by unfold State.Hears State.HearsFrame; decide +kernel), (by decide +kernel), (by decide +kernel)⟩⟩

/-- States that meet the hypotheses of RegisterAccess, clause by clause. -/
theorem meets_RegisterAccess :
    (∃ (s : State) (_dt : Nat) (o : Nat) (_v : Word) (_w : WrIn) (r : RegRow), s.live = true ∧ s.role = .basin ∧ (0xC00C ≤ o ∧ o < 0x10000 ∨ 0x10020 ≤ o ∧ o < 0x14000 ∨ 0x1A000 ≤ o ∧ o < 0x1C000 ∧ o ≠ F.THM_HS_MAP.SRC.off) ∧ o % 4 = 0 ∧ rowAt o = some r ∧ rowLive s.role r o = true) ∧
    (∃ (s : State) (_dt : Nat) (off : Nat) (len : Nat) (_ws : List Word) (_w : WrIn), s.live = true ∧ s.role = .basin ∧ (off % 4 ≠ 0 ∨ len % 4 ≠ 0 ∨ len < 4)) ∧
    (∃ (s : State) (_dt : Nat) (_off : Nat) (_len : Nat) (_ws : List Word) (_w : WrIn), s.live = true ∧ s.role = .spring) ∧
    (∃ (s : State) (_dt : Nat) (port : Fin 12) (bs : List Block) (m : Mgmt), s.Hears port bs m ∧ s.InOrder m ∧ m.op = 0x01 ∧ m.payload.length = 2 ∧ 1 ≤ bytesAt m.payload 0 2 ∧ bytesAt m.payload 0 2 ≤ 64 ∧ inBlock m.param = true ∧ s.updating = false) ∧
    (∃ (s : State) (_dt : Nat) (port : Fin 12) (bs : List Block) (m : Mgmt) (reason : Nat), s.Hears port bs m ∧ s.InOrder m ∧ ((opKnown m.op = false ∧ reason = 1) ∨ (m.op = 0x01 ∧ (m.payload.length ≠ 2 ∨ bytesAt m.payload 0 2 = 0 ∨ 64 < bytesAt m.payload 0 2) ∧ reason = 2) ∨ (m.op = 0x01 ∧ m.payload.length = 2 ∧ 1 ≤ bytesAt m.payload 0 2 ∧ bytesAt m.payload 0 2 ≤ 64 ∧ ((inBlock m.param = false ∧ reason = 3) ∨ (inBlock m.param = true ∧ s.updating = true ∧ reason = 4))))) ∧
    (∃ (s : State) (_dt : Nat) (port : Fin 12) (bs : List Block) (m : Mgmt) (reason : Nat), s.Hears port bs m ∧ s.InOrder m ∧ ((opKnown m.op = false ∧ reason = 1) ∨ (m.op = 0x01 ∧ (m.payload.length ≠ 2 ∨ bytesAt m.payload 0 2 = 0 ∨ 64 < bytesAt m.payload 0 2) ∧ reason = 2) ∨ (m.op = 0x01 ∧ m.payload.length = 2 ∧ 1 ≤ bytesAt m.payload 0 2 ∧ bytesAt m.payload 0 2 ≤ 64 ∧ ((inBlock m.param = false ∧ reason = 3) ∨ (inBlock m.param = true ∧ s.updating = true ∧ reason = 4))))) ∧
    (∃ (s : State) (_dt : Nat) (port : Fin 12) (bs : List Block) (m : Mgmt) (reason : Nat), s.Hears port bs m ∧ s.InOrder m ∧ ((opKnown m.op = false ∧ reason = 1) ∨ (m.op = 0x01 ∧ (m.payload.length ≠ 2 ∨ bytesAt m.payload 0 2 = 0 ∨ 64 < bytesAt m.payload 0 2) ∧ reason = 2) ∨ (m.op = 0x01 ∧ m.payload.length = 2 ∧ 1 ≤ bytesAt m.payload 0 2 ∧ bytesAt m.payload 0 2 ≤ 64 ∧ ((inBlock m.param = false ∧ reason = 3) ∨ (inBlock m.param = true ∧ s.updating = true ∧ reason = 4))))) ∧
    (∃ (s : State) (_dt : Nat) (port : Fin 12) (bs : List Block) (m : Mgmt) (reason : Nat), s.Hears port bs m ∧ s.InOrder m ∧ ((opKnown m.op = false ∧ reason = 1) ∨ (m.op = 0x01 ∧ (m.payload.length ≠ 2 ∨ bytesAt m.payload 0 2 = 0 ∨ 64 < bytesAt m.payload 0 2) ∧ reason = 2) ∨ (m.op = 0x01 ∧ m.payload.length = 2 ∧ 1 ≤ bytesAt m.payload 0 2 ∧ bytesAt m.payload 0 2 ≤ 64 ∧ ((inBlock m.param = false ∧ reason = 3) ∨ (inBlock m.param = true ∧ s.updating = true ∧ reason = 4))))) ∧
    (∃ (s : State) (_dt : Nat) (port : Fin 12) (bs : List Block) (m : Mgmt) (_w : WrIn) (n : Nat) (k : Nat), s.Hears port bs m ∧ s.InOrder m ∧ m.op = 0x03 ∧ n = m.payload.length / 4 ∧ m.payload.length % 4 = 0 ∧ 1 ≤ n ∧ n ≤ 64 ∧ inBlock m.param = true ∧ s.updating = false ∧ k = wordsIn n m.param ∧ s.resets m.param (payloadWords m.payload) = false) ∧
    (∃ (s : State) (_dt : Nat) (port : Fin 12) (bs : List Block) (m : Mgmt) (_w : WrIn) (n : Nat) (k : Nat), s.Hears port bs m ∧ s.InOrder m ∧ m.op = 0x03 ∧ n = m.payload.length / 4 ∧ m.payload.length % 4 = 0 ∧ 1 ≤ n ∧ n ≤ 64 ∧ inBlock m.param = true ∧ s.updating = false ∧ k = wordsIn n m.param ∧ s.resets m.param (payloadWords m.payload) = false) ∧
    (∃ (s : State) (_dt : Nat) (port : Fin 12) (bs : List Block) (m : Mgmt) (_w : WrIn) (n : Nat) (reason : Nat), s.Hears port bs m ∧ s.InOrder m ∧ m.op = 0x03 ∧ n = m.payload.length / 4 ∧ (((m.payload.length % 4 ≠ 0 ∨ n = 0 ∨ 64 < n) ∧ reason = 2) ∨ (m.payload.length % 4 = 0 ∧ 1 ≤ n ∧ n ≤ 64 ∧ ((inBlock m.param = false ∧ reason = 3) ∨ (inBlock m.param = true ∧ s.updating = true ∧ reason = 4))))) ∧
    (∃ (s : State) (_dt : Nat) (port : Fin 12) (bs : List Block) (m : Mgmt) (_w : WrIn) (n : Nat) (reason : Nat), s.Hears port bs m ∧ s.InOrder m ∧ m.op = 0x03 ∧ n = m.payload.length / 4 ∧ (((m.payload.length % 4 ≠ 0 ∨ n = 0 ∨ 64 < n) ∧ reason = 2) ∨ (m.payload.length % 4 = 0 ∧ 1 ≤ n ∧ n ≤ 64 ∧ ((inBlock m.param = false ∧ reason = 3) ∨ (inBlock m.param = true ∧ s.updating = true ∧ reason = 4))))) ∧
    (∃ (s : State) (_dt : Nat) (port : Fin 12) (bs : List Block) (m : Mgmt) (_w : WrIn), s.Hears port bs m ∧ s.InOrder m ∧ m.op = 0x03 ∧ m.payload.length % 4 = 0 ∧ 4 ≤ m.payload.length ∧ m.payload.length ≤ 256 ∧ inBlock m.param = true ∧ s.updating = false ∧ s.resets m.param (payloadWords m.payload) = true) ∧
    (∃ (s : State) (_dt : Nat) (port : Fin 12) (bs : List Block) (m : Mgmt) (a : Await) (id : Nat) (w : Nat) (c : Nat) (sent : Nat) (acked : Nat) (x : Infl), s.Hears port bs m ∧ s.InOrder m ∧ m.op = 0x02 ∧ s.lnk.awaits.find? (fun a => a.dest == m.src && a.op == 0x01 && a.param == m.param) = some a ∧ a.owner = .infl id w c ∧ s.inflAt id = some x ∧ x.q < 16 ∧ x.phase = .mgmt sent acked ∧ x.d.opcode = 0x18 ∧ remCount x.d ≤ w + c) ∧
    (∃ (s : State) (_dt : Nat) (port : Fin 12) (bs : List Block) (m : Mgmt) (a : Await) (id : Nat) (w : Nat) (c : Nat) (sent : Nat) (acked : Nat) (x : Infl), s.Hears port bs m ∧ s.InOrder m ∧ m.op = 0x04 ∧ (s.lnk.awaits.find? (fun a => a.dest == m.src && a.op == 0x03 && a.param == m.param) = some a ∨ (∀ b ∈ s.lnk.awaits, ¬ (b.dest = m.src ∧ b.op = 0x03 ∧ b.param = m.param)) ∧ s.lnk.awaits.find? (fun a => a.dest == m.src && a.op == 0x03 && a.param % 65536 == m.param % 65536) = some a) ∧ a.owner = .infl id w c ∧ s.inflAt id = some x ∧ x.q < 16 ∧ x.phase = .mgmt sent acked ∧ x.d.opcode = 0x19 ∧ remCount x.d ≤ w + c) ∧
    (∃ (s : State) (_dt : Nat) (port : Fin 12) (bs : List Block) (m : Mgmt) (a : Await) (id : Nat) (w : Nat) (c : Nat) (sent : Nat) (acked : Nat) (x : Infl), s.Hears port bs m ∧ s.InOrder m ∧ m.op = 0x04 ∧ (s.lnk.awaits.find? (fun a => a.dest == m.src && a.op == 0x03 && a.param == m.param) = some a ∨ (∀ b ∈ s.lnk.awaits, ¬ (b.dest = m.src ∧ b.op = 0x03 ∧ b.param = m.param)) ∧ s.lnk.awaits.find? (fun a => a.dest == m.src && a.op == 0x03 && a.param % 65536 == m.param % 65536) = some a) ∧ a.owner = .infl id w c ∧ s.inflAt id = some x ∧ x.q < 16 ∧ x.phase = .mgmt sent acked ∧ x.d.opcode = 0x19 ∧ remCount x.d ≤ w + c) ∧
    (∃ (s : State) (_dt : Nat) (q : Fin 16) (x : Infl), s.Ready q 0x18 x ∧ s.mgmtMay x = true ∧ (x.d.target < 192 → s.unreachable x.d.target = false) ∧ 1 ≤ remCount x.d) ∧
    (∃ (s : State) (_dt : Nat) (q : Fin 16) (x : Infl) (buf : HostBuf) (ws : List Word), s.Ready q 0x19 x ∧ coversUnlock x.d = false ∧ s.mgmtMay x = true ∧ (x.d.target < 192 → s.unreachable x.d.target = false) ∧ (if bitOf x.d.flags 2 then HostBuf.words (payloadWords (x.d.param.drop 8)) else buf) = .words ws ∧ 1 ≤ remCount x.d ∧ remCount x.d ≤ ws.length) ∧
    (∃ (s : State) (_dt : Nat) (q : Fin 16) (x : Infl) (buf : HostBuf) (ws : List Word), s.Ready q 0x19 x ∧ coversUnlock x.d = false ∧ s.mgmtMay x = true ∧ (x.d.target < 192 → s.unreachable x.d.target = false) ∧ (if bitOf x.d.flags 2 then HostBuf.words (payloadWords (x.d.param.drop 8)) else buf) = .words ws ∧ 1 ≤ remCount x.d ∧ remCount x.d ≤ ws.length) ∧
    (∃ (s : State) (_dt : Nat) (_e : Nat) (q : Fin 16) (x : Infl) (_buf : HostBuf), s.Ready q 0x19 x ∧ coversUnlock x.d = true) ∧
    (∃ (s : State) (_dt : Nat) (e : Nat) (q : Fin 16) (x : Infl) (buf : HostBuf), s.Ready q 0x19 x ∧ coversUnlock x.d = false ∧ s.mgmtMay x = true ∧ (x.d.target < 192 → s.unreachable x.d.target = false) ∧ bitOf x.d.flags 2 = false ∧ buf = .failed e) ∧
    (∃ (s : State) (_dt : Nat) (_e : Nat) (q : Fin 16) (x : Infl) (_buf : HostBuf), s.Ready q 0x19 x ∧ coversUnlock x.d = false ∧ s.mgmtMay x = false) ∧
    (∃ (s : State) (_dt : Nat) (q : Fin 16) (x : Infl), s.Ready q 0x48 x ∧ (s.pair x.q).noBuf = none ∧ x.q < s.host.pairs.length) :=
  ⟨⟨State.reset, 5, F.THM_THR_CFG.GRACE.off, 0x60000009#32, {}, ((rowAt F.THM_THR_CFG.GRACE.off).get (by decide +kernel)), (by decide +kernel), (by decide +kernel), (by decide +kernel), (by decide +kernel), (by decide +kernel), (by decide +kernel)⟩,
   ⟨State.reset, 5, 0x1002, 4, [1#32], {}, (by decide +kernel), (by decide +kernel), (by decide +kernel)⟩,
   ⟨spring0, 5, 0x1000, 4, [1#32], {}, (by decide +kernel), (by decide +kernel)⟩,
   ⟨enr1, 5, 0, (mheard (toSpr0 0x01 0x0 [2, 0])), (toSpr0 0x01 0x0 [2, 0]), (by unfold State.Hears State.HearsFrame; decide +kernel), (inOrder_of (by decide +kernel)), (by decide +kernel), (by decide +kernel), (by decide +kernel), (by decide +kernel), (by decide +kernel), (by decide +kernel)⟩,
   ⟨enr1, 5, 0, (mheard (toSpr0 0x33 0x0 [2, 0])), (toSpr0 0x33 0x0 [2, 0]), 1, (by unfold State.Hears State.HearsFrame; decide +kernel), (inOrder_of (by decide +kernel)), (by decide +kernel)⟩,
   ⟨enr1, 5, 0, (mheard (toSpr0 0x01 0x0 [65, 0])), (toSpr0 0x01 0x0 [65, 0]), 2, (by unfold State.Hears State.HearsFrame; decide +kernel), (inOrder_of (by decide +kernel)), (by decide +kernel)⟩,
   ⟨enr1, 5, 0, (mheard (toSpr0 0x01 0x40000 [2, 0])), (toSpr0 0x01 0x40000 [2, 0]), 3, (by unfold State.Hears State.HearsFrame; decide +kernel), (inOrder_of (by decide +kernel)), (by decide +kernel)⟩,
   ⟨(fields enr1 [(F.TBL_STATUS.PUSHING, 1)]), 5, 0, (mheard (toSpr0 0x01 0x0 [2, 0])), (toSpr0 0x01 0x0 [2, 0]), 4, (by unfold State.Hears State.HearsFrame; decide +kernel), (inOrder_of (by decide +kernel)), (by decide +kernel)⟩,
   ⟨enr1, 5, 0, (mheard (toSpr0 0x03 F.THM_THR_CFG.GRACE.off [7, 0, 0, 0])), (toSpr0 0x03 F.THM_THR_CFG.GRACE.off [7, 0, 0, 0]), {}, 1, 1, (by unfold State.Hears State.HearsFrame; decide +kernel), (inOrder_of (by decide +kernel)), (by decide +kernel), (by decide +kernel), (by decide +kernel), (by decide +kernel), (by decide +kernel), (by decide +kernel), (by decide +kernel), (by decide +kernel), (by decide +kernel)⟩,
   ⟨enr1, 5, 0, (mheard (toSpr0 0x03 0x3FFFC [7, 0, 0, 0, 7, 0, 0, 0])), (toSpr0 0x03 0x3FFFC [7, 0, 0, 0, 7, 0, 0, 0]), {}, 2, 1, (by unfold State.Hears State.HearsFrame; decide +kernel), (inOrder_of (by decide +kernel)), (by decide +kernel), (by decide +kernel), (by decide +kernel), (by decide +kernel), (by decide +kernel), (by decide +kernel), (by decide +kernel), (by decide +kernel), (by decide +kernel)⟩,
   ⟨enr1, 5, 0, (mheard (toSpr0 0x03 0x0 [2, 0])), (toSpr0 0x03 0x0 [2, 0]), {}, 0, 2, (by unfold State.Hears State.HearsFrame; decide +kernel), (inOrder_of (by decide +kernel)), (by decide +kernel), (by decide +kernel), (by decide +kernel)⟩,
   ⟨(fields enr1 [(F.TBL_STATUS.PUSHING, 1)]), 5, 0, (mheard (toSpr0 0x03 0x0 [2, 0, 0, 0])), (toSpr0 0x03 0x0 [2, 0, 0, 0]), {}, 1, 4, (by unfold State.Hears State.HearsFrame; decide +kernel), (inOrder_of (by decide +kernel)), (by decide +kernel), (by decide +kernel), (by decide +kernel)⟩,
   ⟨enr1, 5, 0, (mheard (toSpr0 0x03 F.CMN_SWRST.KEY.off [0xA5, 0, 0, 0])), (toSpr0 0x03 F.CMN_SWRST.KEY.off [0xA5, 0, 0, 0]), {}, (by unfold State.Hears State.HearsFrame; decide +kernel), (inOrder_of (by decide +kernel)), (by decide +kernel), (by decide +kernel), (by decide +kernel), (by decide +kernel), (by decide +kernel), (by decide +kernel), (by decide +kernel)⟩,
   ⟨(awaits0 0x01 0x18), 5, 1, (mheard ({ mgmt0 0x02 8 [7, 0, 0, 0] with mseq := 5 })), { mgmt0 0x02 8 [7, 0, 0, 0] with mseq := 5 }, { dest := 16, op := 0x01, mseq := 1, param := 8, owner := .infl 1 0 1, at' := 3 }, 1, 0, 1, 1, 0, (rem0 0x18), (by unfold State.Hears State.HearsFrame; decide +kernel), (inOrder_of (by decide +kernel)), (by decide +kernel), (by decide +kernel), (by decide +kernel), (by decide +kernel), (by decide +kernel), (by decide +kernel), (by decide +kernel), (by decide +kernel)⟩,
   ⟨(awaits0 0x03 0x19), 5, 1, (mheard ({ mgmt0 0x04 8 [] with mseq := 5 })), { mgmt0 0x04 8 [] with mseq := 5 }, { dest := 16, op := 0x03, mseq := 1, param := 8, owner := .infl 1 0 1, at' := 3 }, 1, 0, 1, 1, 0, (rem0 0x19), (by unfold State.Hears State.HearsFrame; decide +kernel), (inOrder_of (by decide +kernel)), (by decide +kernel), (by decide +kernel), (by decide +kernel), (by decide +kernel), (by decide +kernel), (by decide +kernel), (by decide +kernel), (by decide +kernel)⟩,
   ⟨(awaits0 0x03 0x19), 5, 1, (mheard ({ mgmt0 0x04 (65536 + 8) [] with mseq := 5 })), { mgmt0 0x04 (65536 + 8) [] with mseq := 5 }, { dest := 16, op := 0x03, mseq := 1, param := 8, owner := .infl 1 0 1, at' := 3 }, 1, 0, 1, 1, 0, (rem0 0x19), (by unfold State.Hears State.HearsFrame; decide +kernel), (inOrder_of (by decide +kernel)), (by decide +kernel), (by decide +kernel), (by decide +kernel), (by decide +kernel), (by decide +kernel), (by decide +kernel), (by decide +kernel), (by decide +kernel)⟩,
   ⟨(holding linked0 { rem0 0x18 with phase := .fetched }), 5, 2, { rem0 0x18 with phase := .fetched }, (by unfold State.Ready; decide +kernel), (by decide +kernel), (by decide +kernel), (by decide +kernel)⟩,
   ⟨(holding linked0 { rem0 0x19 with phase := .fetched }), 5, 2, { rem0 0x19 with phase := .fetched }, (.words [9#32]), [9#32], (by unfold State.Ready; decide +kernel), (by decide +kernel), (by decide +kernel), (by decide +kernel), (by decide +kernel), (by decide +kernel), (by decide +kernel)⟩,
   ⟨(holding linked0 remI0), 5, 2, remI0, (.failed 3), [9#32], (by unfold State.Ready; decide +kernel), (by decide +kernel), (by decide +kernel), (by decide +kernel), (by decide +kernel), (by decide +kernel), (by decide +kernel)⟩,
   ⟨(holding linked0 remU0), 5, 3, 2, remU0, (.failed 3), (by unfold State.Ready; decide +kernel), (by decide +kernel)⟩,
   ⟨(holding linked0 { rem0 0x19 with phase := .fetched }), 5, 3, 2, { rem0 0x19 with phase := .fetched }, (.failed 3), (by unfold State.Ready; decide +kernel), (by decide +kernel), (by decide +kernel), (by decide +kernel), (by decide +kernel), (by decide +kernel)⟩,
   ⟨{ holding linked0 { rem0 0x19 with phase := .fetched } with host := { (holding linked0 { rem0 0x19 with phase := .fetched }).host with recon := [16] } }, 5, 3, 2, { rem0 0x19 with phase := .fetched }, (.failed 3), (by unfold State.Ready; decide +kernel), (by decide +kernel), (by decide +kernel)⟩,
   ⟨(holding active0 { infl0 0x48 [] with d := { nop0 with opcode := 0x48, length := 4096 } }), 5, 2, { infl0 0x48 [] with d := { nop0 with opcode := 0x48, length := 4096 } }, (by unfold State.Ready; decide +kernel), (by decide +kernel), (by decide +kernel)⟩⟩

/-- States that meet the hypotheses of TableImages, clause by clause. -/
theorem meets_TableImages :
    (∃ (s : State) (_dt : Nat) (q : Fin 16) (x : Infl) (ws : List Word), s.Ready q 0x10 x ∧ s.norUsable = true ∧ bytesAt x.d.param 0 1 ≤ 1 ∧ s.get F.TBL_STATUS.IN_FORCE ≠ bytesAt x.d.param 0 1 ∧ x.d.length ≤ ws.length * 4 ∧ bytesAt x.d.param 4 4 = 0 ∧ imgLen (wordBytes ((ws.take (x.d.length / 4)).take 16)) ≤ 65536 * (s.bank (bytesAt x.d.param 0 1)).blocks ∧ (if bitOf x.d.flags 3 then x.d.length = imgLen (wordBytes ((ws.take (x.d.length / 4)).take 16)) else x.d.length < imgLen (wordBytes ((ws.take (x.d.length / 4)).take 16)))) ∧
    (∃ (s : State) (_dt : Nat) (q : Fin 16) (x : Infl) (ws : List Word) (l : LoadSt), s.Ready q 0x10 x ∧ s.norUsable = true ∧ bytesAt x.d.param 0 1 ≤ 1 ∧ s.get F.TBL_STATUS.IN_FORCE ≠ bytesAt x.d.param 0 1 ∧ x.d.length ≤ ws.length * 4 ∧ bytesAt x.d.param 4 4 ≠ 0 ∧ s.tbl.load = some l ∧ l.bank = bytesAt x.d.param 0 1 ∧ l.next = bytesAt x.d.param 4 4 ∧ (if bitOf x.d.flags 3 then l.next + x.d.length = l.len else l.next + x.d.length < l.len)) ∧
    (∃ (s : State) (_dt : Nat) (q : Fin 16) (x : Infl) (l : LoadSt), s.live = true ∧ s.role = .basin ∧ s.host.infl.find? (fun y => y.sq == q.val && y.d.opcode == 0x10 && y.phase == .working) = some x ∧ s.inflAt x.id = some x ∧ x.q < 16 ∧ s.nor.sag = false ∧ s.tbl.load = some l ∧ l.bank = bytesAt x.d.param 0 1 ∧ bitOf x.d.flags 3 = false) ∧
    (∃ (s : State) (_dt : Nat) (q : Fin 16) (x : Infl) (l : LoadSt), s.live = true ∧ s.role = .basin ∧ s.host.infl.find? (fun y => y.sq == q.val && y.d.opcode == 0x10 && y.phase == .working) = some x ∧ s.inflAt x.id = some x ∧ x.q < 16 ∧ s.nor.sag = false ∧ s.tbl.load = some l ∧ l.bank = bytesAt x.d.param 0 1 ∧ bitOf x.d.flags 3 = true ∧ imgCheck .bank (s.rd F.CMN_REV.REV.off).toNat ((s.bank l.bank).bytes ++ wordBytes x.data) = none) ∧
    (∃ (s : State) (_dt : Nat) (q : Fin 16) (x : Infl) (a : Nat), s.Ready q 0x11 x ∧ bytesAt x.d.param 0 1 ≤ 1 ∧ s.get F.TBL_STATUS.IN_FORCE ≠ bytesAt x.d.param 0 1 ∧ (s.bank (bytesAt x.d.param 0 1)).valid = true ∧ (s.tbl.img = [] ∨ 0 < toSigned 32 (imgGen (s.bank (bytesAt x.d.param 0 1)).bytes + 2 ^ 32 - imgGen s.tbl.img)) ∧ (s.cfgLocked = false ∨ s.swapRwl (s.bank (bytesAt x.d.param 0 1)).bytes = false) ∧ s.swapState (s.bank (bytesAt x.d.param 0 1)).bytes = false ∧ s.tbl.swap = none ∧ s.dispatches = true ∧ s.ticking = true ∧ applyTick s.nextTick x.d.applyTick = some a) ∧
    (∃ (s : State) (_dt : Nat) (q : Fin 16) (x : Infl) (st : Nat) (reason : Nat), s.Ready q 0x11 x ∧ (1 < bytesAt x.d.param 0 1 ∧ st = 0x32 ∧ reason = 0 ∨ bytesAt x.d.param 0 1 ≤ 1 ∧ s.get F.TBL_STATUS.IN_FORCE = bytesAt x.d.param 0 1 ∧ st = 0x11 ∧ reason = rsBANK ∨ bytesAt x.d.param 0 1 ≤ 1 ∧ s.get F.TBL_STATUS.IN_FORCE ≠ bytesAt x.d.param 0 1 ∧ st = 0x11 ∧ ((s.bank (bytesAt x.d.param 0 1)).valid = false ∧ reason = rsNOTVALID ∨ (s.bank (bytesAt x.d.param 0 1)).valid = true ∧ s.tbl.img ≠ [] ∧ toSigned 32 (imgGen (s.bank (bytesAt x.d.param 0 1)).bytes + 2 ^ 32 - imgGen s.tbl.img) ≤ 0 ∧ reason = rsNOTNEWER))) ∧
    (∃ (s : State) (_dt : Nat) (q : Fin 16) (x : Infl) (st : Nat) (reason : Nat), s.Ready q 0x11 x ∧ (1 < bytesAt x.d.param 0 1 ∧ st = 0x32 ∧ reason = 0 ∨ bytesAt x.d.param 0 1 ≤ 1 ∧ s.get F.TBL_STATUS.IN_FORCE = bytesAt x.d.param 0 1 ∧ st = 0x11 ∧ reason = rsBANK ∨ bytesAt x.d.param 0 1 ≤ 1 ∧ s.get F.TBL_STATUS.IN_FORCE ≠ bytesAt x.d.param 0 1 ∧ st = 0x11 ∧ ((s.bank (bytesAt x.d.param 0 1)).valid = false ∧ reason = rsNOTVALID ∨ (s.bank (bytesAt x.d.param 0 1)).valid = true ∧ s.tbl.img ≠ [] ∧ toSigned 32 (imgGen (s.bank (bytesAt x.d.param 0 1)).bytes + 2 ^ 32 - imgGen s.tbl.img) ≤ 0 ∧ reason = rsNOTNEWER))) ∧
    (∃ (s : State) (_dt : Nat) (q : Fin 16) (x : Infl) (st : Nat) (reason : Nat), s.Ready q 0x11 x ∧ (1 < bytesAt x.d.param 0 1 ∧ st = 0x32 ∧ reason = 0 ∨ bytesAt x.d.param 0 1 ≤ 1 ∧ s.get F.TBL_STATUS.IN_FORCE = bytesAt x.d.param 0 1 ∧ st = 0x11 ∧ reason = rsBANK ∨ bytesAt x.d.param 0 1 ≤ 1 ∧ s.get F.TBL_STATUS.IN_FORCE ≠ bytesAt x.d.param 0 1 ∧ st = 0x11 ∧ ((s.bank (bytesAt x.d.param 0 1)).valid = false ∧ reason = rsNOTVALID ∨ (s.bank (bytesAt x.d.param 0 1)).valid = true ∧ s.tbl.img ≠ [] ∧ toSigned 32 (imgGen (s.bank (bytesAt x.d.param 0 1)).bytes + 2 ^ 32 - imgGen s.tbl.img) ≤ 0 ∧ reason = rsNOTNEWER))) ∧
    (∃ (s : State) (_dt : Nat) (q : Fin 16) (x : Infl) (st : Nat) (reason : Nat), s.Ready q 0x11 x ∧ (1 < bytesAt x.d.param 0 1 ∧ st = 0x32 ∧ reason = 0 ∨ bytesAt x.d.param 0 1 ≤ 1 ∧ s.get F.TBL_STATUS.IN_FORCE = bytesAt x.d.param 0 1 ∧ st = 0x11 ∧ reason = rsBANK ∨ bytesAt x.d.param 0 1 ≤ 1 ∧ s.get F.TBL_STATUS.IN_FORCE ≠ bytesAt x.d.param 0 1 ∧ st = 0x11 ∧ ((s.bank (bytesAt x.d.param 0 1)).valid = false ∧ reason = rsNOTVALID ∨ (s.bank (bytesAt x.d.param 0 1)).valid = true ∧ s.tbl.img ≠ [] ∧ toSigned 32 (imgGen (s.bank (bytesAt x.d.param 0 1)).bytes + 2 ^ 32 - imgGen s.tbl.img) ≤ 0 ∧ reason = rsNOTNEWER))) ∧
    (∃ (s : State) (_dt : Nat) (q : Fin 16) (x : Infl) (_buf : HostBuf), s.Ready q 0x10 x ∧ bytesAt x.d.param 0 1 ≤ 1 ∧ s.norUsable = false) ∧
    (∃ (s : State) (_dt : Nat) (q : Fin 16) (x : Infl) (_buf : HostBuf), s.Ready q 0x10 x ∧ bytesAt x.d.param 0 1 ≤ 1 ∧ s.norUsable = true ∧ s.get F.TBL_STATUS.IN_FORCE = bytesAt x.d.param 0 1) ∧
    (∃ (s : State) (_dt : Nat) (q : Fin 16) (x : Infl) (buf : HostBuf) (ws : _), s.Ready q 0x10 x ∧ bytesAt x.d.param 0 1 ≤ 1 ∧ s.norUsable = true ∧ s.get F.TBL_STATUS.IN_FORCE ≠ bytesAt x.d.param 0 1 ∧ buf = .words ws ∧ x.d.length ≤ ws.length * 4 ∧ bytesAt x.d.param 4 4 ≠ 0 ∧ (s.tbl.load = none ∨ ∃ l, s.tbl.load = some l ∧ (l.bank ≠ bytesAt x.d.param 0 1 ∨ l.next ≠ bytesAt x.d.param 4 4))) ∧
    (∃ (s : State) (_dt : Nat) (q : Fin 16) (x : Infl) (buf : HostBuf) (ws : _), s.Ready q 0x10 x ∧ bytesAt x.d.param 0 1 ≤ 1 ∧ s.norUsable = true ∧ s.get F.TBL_STATUS.IN_FORCE ≠ bytesAt x.d.param 0 1 ∧ buf = .words ws ∧ x.d.length ≤ ws.length * 4 ∧ bytesAt x.d.param 4 4 ≠ 0 ∧ (s.tbl.load = none ∨ ∃ l, s.tbl.load = some l ∧ (l.bank ≠ bytesAt x.d.param 0 1 ∨ l.next ≠ bytesAt x.d.param 4 4))) ∧
    (∃ (s : State) (_dt : Nat) (port : Fin 2) (bs : List Block) (m : Mgmt), s.Hears port bs m ∧ s.role = .spring ∧ s.InOrder m ∧ m.op = 0x20 ∧ chunkKind m.param = 0) ∧
    (∃ (s : State) (_dt : Nat) (port : Fin 2) (bs : List Block) (m : Mgmt), s.Hears port bs m ∧ s.role = .spring ∧ s.InOrder m ∧ m.op = 0x20 ∧ chunkKind m.param = 1) ∧
    (∃ (s : State) (_dt : Nat) (port : Fin 2) (bs : List Block) (m : Mgmt), s.Hears port bs m ∧ s.role = .spring ∧ s.InOrder m ∧ m.op = 0x20 ∧ chunkKind m.param = 2 ∧ imgCheck (.push s.selfId) (s.rd F.CMN_REV.REV.off).toNat s.tbl.pushed = none) ∧
    (∃ (s : State) (_dt : Nat) (port : Fin 2) (bs : List Block) (m : Mgmt) (r : _), s.Hears port bs m ∧ s.role = .spring ∧ s.InOrder m ∧ m.op = 0x20 ∧ chunkKind m.param = 2 ∧ imgCheck (.push s.selfId) (s.rd F.CMN_REV.REV.off).toNat s.tbl.pushed = some r) ∧
    (∃ (s : State) (_dt : Nat) (port : Fin 2) (bs : List Block) (m : Mgmt), s.Hears port bs m ∧ s.role = .spring ∧ s.InOrder m ∧ m.op = 0x20 ∧ chunkKind m.param = 3 ∧ s.tbl.staged.isSome = true ∧ bytesAt m.payload 0 4 ≠ 0) ∧
    (∃ (s : State) (_dt : Nat) (port : Fin 2) (bs : List Block) (m : Mgmt), s.Hears port bs m ∧ s.role = .spring ∧ s.InOrder m ∧ m.op = 0x20 ∧ chunkKind m.param = 3 ∧ s.tbl.staged.isSome = true ∧ bytesAt m.payload 0 4 = 0) ∧
    (∃ (s : State) (_dt : Nat) (port : Fin 2) (bs : List Block) (m : Mgmt), s.Hears port bs m ∧ s.role = .spring ∧ s.InOrder m ∧ m.op = 0x20 ∧ chunkKind m.param = 3 ∧ s.tbl.staged = none) ∧
    (∃ (s : State) (_dt : Nat) (port : Fin 2) (bs : List Block) (m : Mgmt), s.Hears port bs m ∧ s.role = .spring ∧ s.InOrder m ∧ m.op = 0x20 ∧ chunkKind m.param = 4) ∧
    (∃ (s : State) (_dt : Nat) (port : Fin 12) (bs : List Block) (m : Mgmt) (g : Nat) (tick : Nat), s.Hears port bs m ∧ s.role = .basin ∧ s.InOrder m ∧ m.op = 0x20 ∧ chunkKind m.param = 5 ∧ s.tbl.pushes.find? (fun x => x.1 == m.src) = some (m.src, g, tick) ∧ bytesAt m.payload 0 4 = 0) ∧
    (∃ (s : State) (_dt : Nat) (port : Fin 12) (bs : List Block) (m : Mgmt) (g : Nat) (tick : Nat), s.Hears port bs m ∧ s.role = .basin ∧ s.InOrder m ∧ m.op = 0x20 ∧ chunkKind m.param = 5 ∧ s.tbl.pushes.find? (fun x => x.1 == m.src) = some (m.src, g, tick) ∧ bytesAt m.payload 0 4 ≠ 0) :=
  ⟨⟨(bankB0 [] false |> (holding · (load0 0 0))), 5, 2, (load0 0 0), (words0 (bankImg0.take 64)), (by unfold State.Ready; decide +kernel), (by decide +kernel), (by decide +kernel), (by decide +kernel), (by decide +kernel), (by decide +kernel), (by decide +kernel), (by decide +kernel)⟩,
   ⟨((fun s => { holding s (load0 64 8) with tbl := { s.tbl with load := some ⟨1, 64, 128⟩ } }) (bankB0 (bankImg0.take 64) false)), 5, 2, (load0 64 8), (words0 (bankImg0.drop 64)), ⟨1, 64, 128⟩, (by unfold State.Ready; decide +kernel), (by decide +kernel), (by decide +kernel), (by decide +kernel), (by decide +kernel), (by decide +kernel), (by decide +kernel), (by decide +kernel), (by decide +kernel), (by decide +kernel)⟩,
   ⟨((fun s => { holding s { load0 0 0 with phase := .working, data := words0 (bankImg0.take 64) } with tbl := { s.tbl with load := some ⟨1, 64, 128⟩ } }) (bankB0 [] false)), 5, 2, { load0 0 0 with phase := .working, data := words0 (bankImg0.take 64) }, ⟨1, 64, 128⟩, (by decide +kernel), (by decide +kernel), (by decide +kernel), (by decide +kernel), (by decide +kernel), (by decide +kernel), (by decide +kernel), (by decide +kernel), (by decide +kernel)⟩,
   ⟨((fun s => { holding s { load0 64 8 with phase := .working, data := words0 (bankImg0.drop 64) } with tbl := { s.tbl with load := some ⟨1, 128, 128⟩ } }) (bankB0 (bankImg0.take 64) false)), 5, 2, { load0 64 8 with phase := .working, data := words0 (bankImg0.drop 64) }, ⟨1, 128, 128⟩, (by decide +kernel), (by decide +kernel), (by decide +kernel), (by decide +kernel), (by decide +kernel), (by decide +kernel), (by decide +kernel), (by decide +kernel), (by decide +kernel), (by decide +kernel)⟩,
   ⟨((fun s => { holding s swap0 with tbl := { s.tbl with img := [] } }) (bankB0 bankImg0 true)), 5, 2, swap0, 7, (by unfold State.Ready; decide +kernel), (by decide +kernel), (by decide +kernel), (by decide +kernel), (by decide +kernel), (by decide +kernel), (by decide +kernel), (by decide +kernel), (by decide +kernel), (by decide +kernel), (by decide +kernel)⟩,
   ⟨(holding (bankB0 bankImg0 false) { swap0 with d := { swap0.d with param := [2] } }), 5, 2, { swap0 with d := { swap0.d with param := [2] } }, 0x32, 0, (by unfold State.Ready; decide +kernel), (by decide +kernel)⟩,
   ⟨(holding (bankB0 bankImg0 false) { swap0 with d := { swap0.d with param := [0] } }), 5, 2, { swap0 with d := { swap0.d with param := [0] } }, 0x11, rsBANK, (by unfold State.Ready; decide +kernel), (by decide +kernel)⟩,
   ⟨(holding (bankB0 bankImg0 false) swap0), 5, 2, swap0, 0x11, rsNOTVALID, (by unfold State.Ready; decide +kernel), (by decide +kernel)⟩,
   ⟨((fun s => { holding s swap0 with tbl := { s.tbl with img := bankImg0 } }) (bankB0 bankImg0 true)), 5, 2, swap0, 0x11, rsNOTNEWER, (by unfold State.Ready; decide +kernel), (by decide +kernel)⟩,
   ⟨(holding { gathering0 with nor := { gathering0.nor with noNor := true } } (load0 0 0)), 5, 2, (load0 0 0), (.failed 3), (by unfold State.Ready; decide +kernel), (by decide +kernel), (by decide +kernel)⟩,
   ⟨((fun s => holding (fields s [(F.TBL_STATUS.IN_FORCE, 1)]) (load0 0 0)) (bankB0 bankImg0 false)), 5, 2, (load0 0 0), (.failed 3), (by unfold State.Ready; decide +kernel), (by decide +kernel), (by decide +kernel), (by decide +kernel)⟩,
   ⟨(holding (bankB0 bankImg0 false) (load0 64 8)), 5, 2, (load0 64 8), (.words (words0 (bankImg0.drop 64))), (words0 (bankImg0.drop 64)), (by unfold State.Ready; decide +kernel), (by decide +kernel), (by decide +kernel), (by decide +kernel), (by decide +kernel), (by decide +kernel), (by decide +kernel), (by decide +kernel)⟩,
   ⟨((fun s => { holding s (load0 64 8) with tbl := { s.tbl with load := some ⟨1, 32, 128⟩ } }) (bankB0 (bankImg0.take 64) false)), 5, 2, (load0 64 8), (.words (words0 (bankImg0.drop 64))), (words0 (bankImg0.drop 64)), (by unfold State.Ready; decide +kernel), (by decide +kernel), (by decide +kernel), (by decide +kernel), (by decide +kernel), (by decide +kernel), (by decide +kernel), (by decide +kernel)⟩,
   ⟨enr1, 5, 0, (mheard (toSpr0 0x20 0 [128, 0, 0, 0, 7, 0, 0, 0])), (toSpr0 0x20 0 [128, 0, 0, 0, 7, 0, 0, 0]), (by unfold State.Hears State.HearsFrame; decide +kernel), (by decide +kernel), (inOrder_of (by decide +kernel)), (by decide +kernel), (by decide +kernel)⟩,
   ⟨enr1, 5, 0, (mheard (toSpr0 0x20 0x1000010 [1, 2, 3, 4])), (toSpr0 0x20 0x1000010 [1, 2, 3, 4]), (by unfold State.Hears State.HearsFrame; decide +kernel), (by decide +kernel), (inOrder_of (by decide +kernel)), (by decide +kernel), (by decide +kernel)⟩,
   ⟨{ enr1 with tbl := { enr1.tbl with rxLen := 128, rxGen := 7, rx := [(0, imageOk secDERIVED 1 (List.replicate 16 1))] } }, 5, 0, (mheard (toSpr0 0x20 0x2000000 [])), (toSpr0 0x20 0x2000000 []), (by unfold State.Hears State.HearsFrame; decide +kernel), (by decide +kernel), (inOrder_of (by decide +kernel)), (by decide +kernel), (by decide +kernel), (by decide +kernel)⟩,
   ⟨enr1, 5, 0, (mheard (toSpr0 0x20 0x2000000 [])), (toSpr0 0x20 0x2000000 []), ((imgCheck (.push enr1.selfId) (enr1.rd F.CMN_REV.REV.off).toNat enr1.tbl.pushed).getD 0), (by unfold State.Hears State.HearsFrame; decide +kernel), (by decide +kernel), (inOrder_of (by decide +kernel)), (by decide +kernel), (by decide +kernel), (by decide +kernel)⟩,
   ⟨{ enr1 with tbl := { enr1.tbl with staged := some [] } }, 5, 0, (mheard (toSpr0 0x20 0x3000000 [9, 0, 0, 0])), (toSpr0 0x20 0x3000000 [9, 0, 0, 0]), (by unfold State.Hears State.HearsFrame; decide +kernel), (by decide +kernel), (inOrder_of (by decide +kernel)), (by decide +kernel), (by decide +kernel), (by decide +kernel), (by decide +kernel)⟩,
   ⟨{ enr1 with tbl := { enr1.tbl with staged := some [] } }, 5, 0, (mheard (toSpr0 0x20 0x3000000 [0, 0, 0, 0])), (toSpr0 0x20 0x3000000 [0, 0, 0, 0]), (by unfold State.Hears State.HearsFrame; decide +kernel), (by decide +kernel), (inOrder_of (by decide +kernel)), (by decide +kernel), (by decide +kernel), (by decide +kernel), (by decide +kernel)⟩,
   ⟨enr1, 5, 0, (mheard (toSpr0 0x20 0x3000000 [9, 0, 0, 0])), (toSpr0 0x20 0x3000000 [9, 0, 0, 0]), (by unfold State.Hears State.HearsFrame; decide +kernel), (by decide +kernel), (inOrder_of (by decide +kernel)), (by decide +kernel), (by decide +kernel), (by decide +kernel)⟩,
   ⟨{ enr1 with tbl := { enr1.tbl with staged := some [] } }, 5, 0, (mheard (toSpr0 0x20 0x4000000 [])), (toSpr0 0x20 0x4000000 []), (by unfold State.Hears State.HearsFrame; decide +kernel), (by decide +kernel), (inOrder_of (by decide +kernel)), (by decide +kernel), (by decide +kernel)⟩,
   ⟨{ linked0 with tbl := { linked0.tbl with pushes := [(16, 7, 0)] } }, 5, 1, (mheard ({ mgmt0 0x20 0x5000000 [0, 0, 0, 0] with mseq := 5 })), { mgmt0 0x20 0x5000000 [0, 0, 0, 0] with mseq := 5 }, 7, 0, (by unfold State.Hears State.HearsFrame; decide +kernel), (by decide +kernel), (inOrder_of (by decide +kernel)), (by decide +kernel), (by decide +kernel), (by decide +kernel), (by decide +kernel)⟩,
   ⟨{ linked0 with tbl := { linked0.tbl with pushes := [(16, 7, 0)] } }, 5, 1, (mheard ({ mgmt0 0x20 0x5000000 [1, 0, 0, 0] with mseq := 5 })), { mgmt0 0x20 0x5000000 [1, 0, 0, 0] with mseq := 5 }, 7, 0, (by unfold State.Hears State.HearsFrame; decide +kernel), (by decide +kernel), (inOrder_of (by decide +kernel)), (by decide +kernel), (by decide +kernel), (by decide +kernel), (by decide +kernel)⟩⟩

/-- States that meet the hypotheses of ResultsAndCalibration, clause by clause. -/
theorem meets_ResultsAndCalibration :
    (∃ (s : State) (dt : Nat) (w : Nat) (j : Nat) (gain : Nat) (n : Fin 4) (convs : List Conv) (r : AdcRun) (sys : Bool), s.live = true ∧ n.val < s.adc.units.length ∧ (s.unit n).run = some r ∧ r.sampling = true ∧ r.done < r.entries.length ∧ r.entries.length ≤ 16 ∧ w = r.entries.getD r.done 0 ∧ j = 8 * n + bitsOf w 0 3 ∧ gain = bitsOf w 10 2 ∧ convs.length = 2 ^ bitsOf w 20 4 ∧ r.at' + entryTime w ≤ (State.advance dt s).now 8 ∧ (s.unit n).after = [] ∧ sys = (bitOf w 9 && s.flag (F.ADC_SYS_CFG.VALID j) && s.get (F.ADC_SYS_CFG.GAIN_SEL j) == gain)) ∧
    (∃ (s : State) (dt : Nat) (w : Nat) (j : Nat) (gain : Nat) (n : Fin 4) (convs : List Conv) (r : AdcRun) (sys : Bool), s.live = true ∧ n.val < s.adc.units.length ∧ (s.unit n).run = some r ∧ r.sampling = true ∧ r.done < r.entries.length ∧ r.entries.length ≤ 16 ∧ w = r.entries.getD r.done 0 ∧ j = 8 * n + bitsOf w 0 3 ∧ gain = bitsOf w 10 2 ∧ convs.length = 2 ^ bitsOf w 20 4 ∧ r.at' + entryTime w ≤ (State.advance dt s).now 8 ∧ (s.unit n).after = [] ∧ sys = (bitOf w 9 && s.flag (F.ADC_SYS_CFG.VALID j) && s.get (F.ADC_SYS_CFG.GAIN_SEL j) == gain)) ∧
    (∃ (s : State) (dt : Nat) (n : Fin 4) (_convs : List Conv) (r : AdcRun), s.live = true ∧ (s.unit n).run = some r ∧ (State.advance dt s).now 8 < r.at' + entryTime (r.entries.getD r.done 0)) ∧
    (∃ (s : State) (dt : Nat) (n : Fin 4) (m : Fin 4) (offset : Int) (gains : List Nat) (lins : List Int) (own : Option Nat) (o2 : Option Nat), s.live = true ∧ n ≠ m ∧ n.val < s.adc.units.length ∧ m.val < s.adc.units.length ∧ (s.unit n).job = some (.self own) ∧ (s.unit m).job = some (.self o2) ∧ (s.unit n).jobDue = false ∧ (s.unit n).jobAt + 1600000 ≤ s.time.cyc + dt ∧ calBad offset gains lins = none) ∧
    (∃ (s : State) (dt : Nat) (n : Fin 4) (m : Fin 4) (offset : Int) (gains : List Nat) (lins : List Int) (own : Option Nat) (o2 : Option Nat) (step : _) (v : _), s.live = true ∧ n ≠ m ∧ n.val < s.adc.units.length ∧ m.val < s.adc.units.length ∧ (s.unit n).job = some (.self own) ∧ (s.unit m).job = some (.self o2) ∧ (s.unit n).jobDue = false ∧ (s.unit n).jobAt + 1600000 ≤ s.time.cyc + dt ∧ calBad offset gains lins = some (step, v)) ∧
    (∃ (s : State) (dt : Nat) (n : Fin 4) (offset : Int) (gains : List Nat) (lins : List Int) (id : Nat) (x : Infl), s.live = true ∧ s.role = .basin ∧ n.val < s.adc.units.length ∧ (s.unit n).job = some (.self (some id)) ∧ (∀ m, m < 4 → m ≠ n.val → (s.unit m).job = none) ∧ s.adc.units.length = 4 ∧ (s.unit n).jobDue = false ∧ (s.unit n).jobAt + 1600000 ≤ s.time.cyc + dt ∧ calBad offset gains lins = none ∧ s.inflAt id = some x ∧ x.phase = .working ∧ x.q < 16) ∧
    (∃ (s : State) (dt : Nat) (n : Fin 4) (offset : Int) (gains : List Nat) (lins : List Int) (id : Nat) (x : Infl), s.live = true ∧ s.role = .basin ∧ n.val < s.adc.units.length ∧ (s.unit n).job = some (.self (some id)) ∧ (∀ m, m < 4 → m ≠ n.val → (s.unit m).job = none) ∧ s.adc.units.length = 4 ∧ (s.unit n).jobDue = false ∧ (s.unit n).jobAt + 1600000 ≤ s.time.cyc + dt ∧ calBad offset gains lins = none ∧ s.inflAt id = some x ∧ x.phase = .working ∧ x.q < 16) ∧
    (∃ (s : State) (_dt : Nat) (_q : Fin 16) (_ans : Option RemoteAns) (mask : Fin 16), s.live = true ∧ s.role = .spring ∧ mask.val ≠ 0 ∧ s.calRefused = false ∧ (∀ u ∈ s.adc.units, u.job = none)) ∧
    (∃ (s : State) (_dt : Nat) (_q : Fin 16) (_ans : Option RemoteAns) (mask : Fin 16), s.live = true ∧ s.role = .spring ∧ mask.val = 0) ∧
    (∃ (s : State) (_dt : Nat) (_q : Fin 16) (_ans : Option RemoteAns) (mask : Fin 16), s.live = true ∧ s.role = .spring ∧ mask.val ≠ 0 ∧ s.calRefused = true) ∧
    (∃ (s : State) (_dt : Nat) (q : Fin 16) (_ans : Option RemoteAns) (_mask : Fin 16) (x : Infl), s.Ready q 0x38 x ∧ bytesAt x.d.param 0 1 % 16 = 0) ∧
    (∃ (s : State) (_dt : Nat) (q : Fin 16) (_ans : Option RemoteAns) (_mask : Fin 16) (x : Infl), s.Ready q 0x38 x ∧ 192 ≤ x.d.target ∧ bytesAt x.d.param 0 1 % 16 ≠ 0 ∧ s.calRefused = true) ∧
    (∃ (s : State) (_dt : Nat) (q : Fin 16) (_ans : Option RemoteAns) (_mask : Fin 16) (x : Infl), s.Ready q 0x38 x ∧ 192 ≤ x.d.target ∧ bytesAt x.d.param 0 1 % 16 ≠ 0 ∧ s.calRefused = false ∧ (∀ u ∈ s.adc.units, u.job = none)) ∧
    (∃ (s : State) (_dt : Nat) (q : Fin 16) (ans : Option RemoteAns) (_mask : Fin 16) (x : Infl) (f : Fin 16), s.Ready q 0x38 x ∧ x.d.target < 192 ∧ bytesAt x.d.param 0 1 % 16 ≠ 0 ∧ s.mgmtMay x = true ∧ s.unreachable x.d.target = false ∧ x.due = 0 ∧ ans = some (.done f)) ∧
    (∃ (s : State) (_dt : Nat) (q : Fin 16) (ans : Option RemoteAns) (_mask : Fin 16) (x : Infl) (f : Fin 16), s.Ready q 0x38 x ∧ x.d.target < 192 ∧ bytesAt x.d.param 0 1 % 16 ≠ 0 ∧ s.mgmtMay x = true ∧ s.unreachable x.d.target = false ∧ x.due = 0 ∧ ans = some (.done f)) ∧
    (∃ (s : State) (_dt : Nat) (q : Fin 16) (_ans : Option RemoteAns) (_p : List Nat) (x : Infl) (j : Nat), s.Ready q 0x39 x ∧ 192 ≤ x.d.target ∧ bytesAt x.d.param 1 1 = j ∧ j ≤ 31 ∧ s.calRefused = false ∧ j / 8 < s.adc.units.length ∧ (s.unit (j / 8)).job = none ∧ (s.unit (j / 8)).run = none ∧ bytesAt x.d.param 0 1 = 0) ∧
    (∃ (s : State) (_dt : Nat) (q : Fin 16) (_ans : Option RemoteAns) (_p : List Nat) (x : Infl) (j : Nat) (z : _), s.Ready q 0x39 x ∧ 192 ≤ x.d.target ∧ bytesAt x.d.param 1 1 = j ∧ j ≤ 31 ∧ s.calRefused = false ∧ j / 8 < s.adc.units.length ∧ (s.unit (j / 8)).job = none ∧ (s.unit (j / 8)).run = none ∧ bytesAt x.d.param 0 1 = 1 ∧ s.zeroOf j = some (z, bytesAt x.d.param 2 1 % 4)) ∧
    (∃ (s : State) (_dt : Nat) (q : Fin 16) (_ans : Option RemoteAns) (_p : List Nat) (x : Infl) (j : Nat), s.Ready q 0x39 x ∧ 192 ≤ x.d.target ∧ bytesAt x.d.param 1 1 = j ∧ j ≤ 31 ∧ s.calRefused = false ∧ j / 8 < s.adc.units.length ∧ (s.unit (j / 8)).job = none ∧ (s.unit (j / 8)).run = none ∧ bytesAt x.d.param 0 1 = 1 ∧ (s.zeroOf j).map (fun z => z.2) ≠ some (bytesAt x.d.param 2 1 % 4)) ∧
    (∃ (s : State) (_dt : Nat) (q : Fin 16) (_ans : Option RemoteAns) (_p : List Nat) (x : Infl) (j : Nat), s.Ready q 0x39 x ∧ 192 ≤ x.d.target ∧ bytesAt x.d.param 1 1 = j ∧ j ≤ 31 ∧ s.calRefused = false ∧ j / 8 < s.adc.units.length ∧ (s.unit (j / 8)).job = none ∧ (s.unit (j / 8)).run = none ∧ bytesAt x.d.param 0 1 = 2) ∧
    (∃ (s : State) (_dt : Nat) (q : Fin 16) (_ans : Option RemoteAns) (_p : List Nat) (x : Infl), s.Ready q 0x39 x ∧ bytesAt x.d.param 0 1 = 0 ∧ 31 < bytesAt x.d.param 1 1) ∧
    (∃ (s : State) (_dt : Nat) (q : Fin 16) (_ans : Option RemoteAns) (_p : List Nat) (x : Infl), s.Ready q 0x39 x ∧ bytesAt x.d.param 0 1 = 0 ∧ bytesAt x.d.param 1 1 ≤ 31 ∧ 192 ≤ x.d.target ∧ s.calRefused = true) ∧
    (∃ (s : State) (_dt : Nat) (q : Fin 16) (ans : Option RemoteAns) (_p : List Nat) (x : Infl) (f : _), s.Ready q 0x39 x ∧ bytesAt x.d.param 0 1 = 0 ∧ bytesAt x.d.param 1 1 ≤ 31 ∧ x.d.target < 192 ∧ s.mgmtMay x = true ∧ s.unreachable x.d.target = false ∧ x.due = 0 ∧ ans = some (.done f)) ∧
    (∃ (s : State) (_dt : Nat) (q : Fin 16) (ans : Option RemoteAns) (_p : List Nat) (x : Infl) (f : Fin 5), s.Ready q 0x39 x ∧ bytesAt x.d.param 0 1 = 0 ∧ bytesAt x.d.param 1 1 ≤ 31 ∧ x.d.target < 192 ∧ s.mgmtMay x = true ∧ s.unreachable x.d.target = false ∧ x.due = 0 ∧ (f.val = 0 ∨ f.val = 4) ∧ ans = some (.refused f)) ∧
    (∃ (s : State) (_dt : Nat) (j : Nat) (_q : Fin 16) (_ans : Option RemoteAns) (p : List Nat), s.live = true ∧ s.role = .spring ∧ j = bytesAt p 1 1 ∧ j ≤ 31 ∧ s.calRefused = false ∧ j / 8 < s.adc.units.length ∧ (s.unit (j / 8)).job = none ∧ (s.unit (j / 8)).run = none) ∧
    (∃ (s : State) (_dt : Nat) (j : Nat) (_q : Fin 16) (_ans : Option RemoteAns) (p : List Nat) (z : _), s.live = true ∧ s.role = .spring ∧ j = bytesAt p 1 1 ∧ j ≤ 31 ∧ s.calRefused = false ∧ j / 8 < s.adc.units.length ∧ (s.unit (j / 8)).job = none ∧ (s.unit (j / 8)).run = none ∧ s.zeroOf j = some (z, bytesAt p 2 1 % 4)) ∧
    (∃ (s : State) (_dt : Nat) (j : Nat) (_q : Fin 16) (_ans : Option RemoteAns) (p : List Nat), s.live = true ∧ s.role = .spring ∧ j = bytesAt p 1 1 ∧ j ≤ 31 ∧ s.calRefused = false ∧ j / 8 < s.adc.units.length ∧ (s.unit (j / 8)).job = none ∧ (s.unit (j / 8)).run = none) ∧
    (∃ (s : State) (dt : Nat) (n : Fin 4) (convs : List Conv) (sum : Int) (own : Nat) (j : Nat) (gain : Nat) (smp : Nat) (target : Int) (x : Infl), s.live = true ∧ s.role = .basin ∧ n.val < s.adc.units.length ∧ (s.unit n).job = some (.sys own false j gain smp target) ∧ (s.unit n).jobDue = false ∧ (s.unit n).jobAt + 256 * ((smp + 1) * 5 + 80) ≤ s.time.cyc + dt ∧ j ≤ 31 ∧ convs.length = 256 ∧ sum = (convs.map (s.convCode n gain)).foldl (· + ·) 0 ∧ s.inflAt own = some x ∧ x.phase = .working ∧ x.q < 16 ∧ (∀ c ∈ convs, rangeMark gain c.1 = none)) ∧
    (∃ (s : State) (dt : Nat) (n : Fin 4) (convs : List Conv) (sum : Int) (own : Nat) (j : Nat) (gain : Nat) (smp : Nat) (target : Int) (x : Infl), s.live = true ∧ s.role = .basin ∧ n.val < s.adc.units.length ∧ (s.unit n).job = some (.sys own false j gain smp target) ∧ (s.unit n).jobDue = false ∧ (s.unit n).jobAt + 256 * ((smp + 1) * 5 + 80) ≤ s.time.cyc + dt ∧ j ≤ 31 ∧ convs.length = 256 ∧ sum = (convs.map (s.convCode n gain)).foldl (· + ·) 0 ∧ s.inflAt own = some x ∧ x.phase = .working ∧ x.q < 16 ∧ (∃ c ∈ convs, rangeMark gain c.1 ≠ none)) ∧
    (∃ (s : State) (dt : Nat) (n : Fin 4) (convs : List Conv) (sum : Int) (z : Int) (own : Nat) (j : Nat) (gain : Nat) (smp : Nat) (target : Int) (x : Infl), s.live = true ∧ s.role = .basin ∧ n.val < s.adc.units.length ∧ (s.unit n).job = some (.sys own true j gain smp target) ∧ (s.unit n).jobDue = false ∧ (s.unit n).jobAt + 256 * ((smp + 1) * 5 + 80) ≤ s.time.cyc + dt ∧ j ≤ 31 ∧ s.zeroOf j = some (z, gain) ∧ convs.length = 256 ∧ sum = (convs.map (s.convCode n gain)).foldl (· + ·) 0 ∧ (∀ c ∈ convs, rangeMark gain c.1 = none) ∧ s.inflAt own = some x ∧ x.phase = .working ∧ x.q < 16 ∧ 65536 ≤ (sum - z).natAbs ∧ -(2 ^ 31) ≤ nearest (target * 2 ^ 30) (sum - z) ∧ nearest (target * 2 ^ 30) (sum - z) ≤ 2 ^ 31 - 1) ∧
    (∃ (s : State) (dt : Nat) (n : Fin 4) (convs : List Conv) (sum : Int) (z : Int) (own : Nat) (j : Nat) (gain : Nat) (smp : Nat) (target : Int) (x : Infl), s.live = true ∧ s.role = .basin ∧ n.val < s.adc.units.length ∧ (s.unit n).job = some (.sys own true j gain smp target) ∧ (s.unit n).jobDue = false ∧ (s.unit n).jobAt + 256 * ((smp + 1) * 5 + 80) ≤ s.time.cyc + dt ∧ j ≤ 31 ∧ s.zeroOf j = some (z, gain) ∧ convs.length = 256 ∧ sum = (convs.map (s.convCode n gain)).foldl (· + ·) 0 ∧ (∀ c ∈ convs, rangeMark gain c.1 = none) ∧ s.inflAt own = some x ∧ x.phase = .working ∧ x.q < 16 ∧ (sum - z).natAbs < 65536) ∧
    (∃ (s : State) (dt : Nat) (n : Fin 4) (convs : List Conv) (sum : Int) (z : Int) (own : Nat) (j : Nat) (gain : Nat) (smp : Nat) (target : Int) (x : Infl), s.live = true ∧ s.role = .basin ∧ n.val < s.adc.units.length ∧ (s.unit n).job = some (.sys own true j gain smp target) ∧ (s.unit n).jobDue = false ∧ (s.unit n).jobAt + 256 * ((smp + 1) * 5 + 80) ≤ s.time.cyc + dt ∧ j ≤ 31 ∧ s.zeroOf j = some (z, gain) ∧ convs.length = 256 ∧ sum = (convs.map (s.convCode n gain)).foldl (· + ·) 0 ∧ (∀ c ∈ convs, rangeMark gain c.1 = none) ∧ s.inflAt own = some x ∧ x.phase = .working ∧ x.q < 16 ∧ 65536 ≤ (sum - z).natAbs ∧ (nearest (target * 2 ^ 30) (sum - z) < -(2 ^ 31) ∨ 2 ^ 31 - 1 < nearest (target * 2 ^ 30) (sum - z))) ∧
    (∃ (s : State) (dt : Nat), s.live = true ∧ s.role = .spring ∧ s.spr.pre = true ∧ 50000000 * s.get F.CMN_PRECHG.TMO ≤ s.time.cyc + dt - s.spr.preAt) :=
  ⟨⟨(runs0 spring0), 200, 0, 16, 0, 2, [(5, 3)], run0, false, (by decide +kernel), (by decide +kernel), (by decide +kernel), (by decide +kernel), (by decide +kernel), (by decide +kernel), (by decide +kernel), (by decide +kernel), (by decide +kernel), (by decide +kernel), (by decide +kernel), (by decide +kernel), (by decide +kernel)⟩,
   ⟨((fun s => { s with adc := { s.adc with units := s.adc.units.set 1 { run := some { entries := [0xA04], sampling := true } } } }) (plain0 (fields spring0 [(F.ADC_SYS_CFG.VALID 12, 1), (F.ADC_SYS_CFG.GAIN_SEL 12, 2), (F.ADC_SYS_GAIN.GAIN 12, 2 ^ 30)]))), 200, 0xA04, 12, 2, 1, [(3000000000, 3)], { entries := [0xA04], sampling := true }, true, (by decide +kernel), (by decide +kernel), (by decide +kernel), (by decide +kernel), (by decide +kernel), (by decide +kernel), (by decide +kernel), (by decide +kernel), (by decide +kernel), (by decide +kernel), (by decide +kernel), (by decide +kernel), (by decide +kernel)⟩,
   ⟨(runs0 spring0), 2, 2, [(5, 3)], run0, (by decide +kernel), (by decide +kernel), (by decide +kernel)⟩,
   ⟨cal2, 2000000, 1, 2, -5, [16384, 16384, 16384, 16384], [0, 0, 0, 0, 0, 0], none, none, (by decide +kernel), (by decide +kernel), (by decide +kernel), (by decide +kernel), (by decide +kernel), (by decide +kernel), (by decide +kernel), (by decide +kernel), (by decide +kernel)⟩,
   ⟨cal2, 2000000, 1, 2, 9000, [16384, 16384, 16384, 16384], [0, 0, 0, 0, 0, 0], none, none, 1, 9000, (by decide +kernel), (by decide +kernel), (by decide +kernel), (by decide +kernel), (by decide +kernel), (by decide +kernel), (by decide +kernel), (by decide +kernel), (by decide +kernel)⟩,
   ⟨(holding (jobAt0 (.self (some 1))) { infl0 0x38 [] with phase := .working }), 2000000, 1, -5, [16384, 16384, 16384, 16384], [0, 0, 0, 0, 0, 0], 1, { infl0 0x38 [] with phase := .working }, (by decide +kernel), (by decide +kernel), (by decide +kernel), (by decide +kernel), (by decide +kernel), (by decide +kernel), (by decide +kernel), (by decide +kernel), (by decide +kernel), (by decide +kernel), (by decide +kernel), (by decide +kernel)⟩,
   ⟨(holding { jobAt0 (.self (some 1)) with adc := { (jobAt0 (.self (some 1))).adc with calFail := 4 } } { infl0 0x38 [] with phase := .working }), 2000000, 1, -5, [16384, 16384, 16384, 16384], [0, 0, 0, 0, 0, 0], 1, { infl0 0x38 [] with phase := .working }, (by decide +kernel), (by decide +kernel), (by decide +kernel), (by decide +kernel), (by decide +kernel), (by decide +kernel), (by decide +kernel), (by decide +kernel), (by decide +kernel), (by decide +kernel), (by decide +kernel), (by decide +kernel)⟩,
   ⟨spring0, 5, 0, none, 5, (by decide +kernel), (by decide +kernel), (by decide +kernel), (by decide +kernel), (by decide +kernel)⟩,
   ⟨spring0, 5, 0, none, 0, (by decide +kernel), (by decide +kernel), (by decide +kernel)⟩,
   ⟨running0, 5, 0, none, 5, (by decide +kernel), (by decide +kernel), (by decide +kernel), (by decide +kernel)⟩,
   ⟨(holding active0 (cal0 [0])), 5, 2, none, 0, (cal0 [0]), (by unfold State.Ready; decide +kernel), (by decide +kernel)⟩,
   ⟨(holding (fields active0 [(F.CTL_STATUS.STATE, 3)]) (cal0 [5])), 5, 2, none, 0, (cal0 [5]), (by unfold State.Ready; decide +kernel), (by decide +kernel), (by decide +kernel), (by decide +kernel)⟩,
   ⟨(holding active0 (cal0 [5])), 5, 2, none, 0, (cal0 [5]), (by unfold State.Ready; decide +kernel), (by decide +kernel), (by decide +kernel), (by decide +kernel), (by decide +kernel)⟩,
   ⟨(holding linked0 (far0 (cal0 [5]))), 5, 2, (some (.done 2)), 0, (far0 (cal0 [5])), 2, (by unfold State.Ready; decide +kernel), (by decide +kernel), (by decide +kernel), (by decide +kernel), (by decide +kernel), (by decide +kernel), (by decide +kernel)⟩,
   ⟨(holding linked0 (far0 (cal0 [5]))), 5, 2, (some (.done 4)), 0, (far0 (cal0 [5])), 4, (by unfold State.Ready; decide +kernel), (by decide +kernel), (by decide +kernel), (by decide +kernel), (by decide +kernel), (by decide +kernel), (by decide +kernel)⟩,
   ⟨(holding active0 (sys0 [0, 9, 1, 200])), 5, 2, none, [], (sys0 [0, 9, 1, 200]), 9, (by unfold State.Ready; decide +kernel), (by decide +kernel), (by decide +kernel), (by decide +kernel), (by decide +kernel), (by decide +kernel), (by decide +kernel), (by decide +kernel), (by decide +kernel)⟩,
   ⟨(holding { active0 with adc := { active0.adc with zeros := [(9, 77, 1)] } } (sys0 [1, 9, 1, 4])), 5, 2, none, [], (sys0 [1, 9, 1, 4]), 9, 77, (by unfold State.Ready; decide +kernel), (by decide +kernel), (by decide +kernel), (by decide +kernel), (by decide +kernel), (by decide +kernel), (by decide +kernel), (by decide +kernel), (by decide +kernel), (by decide +kernel)⟩,
   ⟨(holding { active0 with adc := { active0.adc with zeros := [(9, 77, 2)] } } (sys0 [1, 9, 1, 4])), 5, 2, none, [], (sys0 [1, 9, 1, 4]), 9, (by unfold State.Ready; decide +kernel), (by decide +kernel), (by decide +kernel), (by decide +kernel), (by decide +kernel), (by decide +kernel), (by decide +kernel), (by decide +kernel), (by decide +kernel), (by decide +kernel)⟩,
   ⟨(holding (fields active0 [(F.ADC_SYS_CFG.VALID 9, 1)]) (sys0 [2, 9, 1, 4])), 5, 2, none, [], (sys0 [2, 9, 1, 4]), 9, (by unfold State.Ready; decide +kernel), (by decide +kernel), (by decide +kernel), (by decide +kernel), (by decide +kernel), (by decide +kernel), (by decide +kernel), (by decide +kernel), (by decide +kernel)⟩,
   ⟨(holding active0 (sys0 [0, 32, 1, 4])), 5, 2, none, [], (sys0 [0, 32, 1, 4]), (by unfold State.Ready; decide +kernel), (by decide +kernel), (by decide +kernel)⟩,
   ⟨(holding (fields active0 [(F.CTL_STATUS.STATE, 3)]) (sys0 [0, 31, 1, 4])), 5, 2, none, [], (sys0 [0, 31, 1, 4]), (by unfold State.Ready; decide +kernel), (by decide +kernel), (by decide +kernel), (by decide +kernel), (by decide +kernel)⟩,
   ⟨(holding linked0 (far0 (sys0 [0, 9, 1, 4]))), 5, 2, (some (.done 0)), [], (far0 (sys0 [0, 9, 1, 4])), 0, (by unfold State.Ready; decide +kernel), (by decide +kernel), (by decide +kernel), (by decide +kernel), (by decide +kernel), (by decide +kernel), (by decide +kernel), (by decide +kernel)⟩,
   ⟨(holding linked0 (far0 (sys0 [0, 9, 1, 4]))), 5, 2, (some (.refused 4)), [], (far0 (sys0 [0, 9, 1, 4])), 4, (by unfold State.Ready; decide +kernel), (by decide +kernel), (by decide +kernel), (by decide +kernel), (by decide +kernel), (by decide +kernel), (by decide +kernel), (by decide +kernel), (by decide +kernel)⟩,
   ⟨spring0, 5, 9, 2, none, [0, 9, 1, 4], (by decide +kernel), (by decide +kernel), (by decide +kernel), (by decide +kernel), (by decide +kernel), (by decide +kernel), (by decide +kernel), (by decide +kernel)⟩,
   ⟨{ spring0 with adc := { spring0.adc with zeros := [(9, 77, 1)] } }, 5, 9, 2, none, [1, 9, 1, 4], 77, (by decide +kernel), (by decide +kernel), (by decide +kernel), (by decide +kernel), (by decide +kernel), (by decide +kernel), (by decide +kernel), (by decide +kernel), (by decide +kernel)⟩,
   ⟨spring0, 5, 9, 2, none, [2, 9, 1, 4], (by decide +kernel), (by decide +kernel), (by decide +kernel), (by decide +kernel), (by decide +kernel), (by decide +kernel), (by decide +kernel), (by decide +kernel)⟩,
   ⟨(holding (plain0 (jobAt0 (.sys 1 false 9 1 4 0))) { sys0 [] with phase := .working }), 2000000, 1, (quiet0 100000000), 670976, 1, 9, 1, 4, 0, { sys0 [] with phase := .working }, (by decide +kernel), (by decide +kernel), (by decide +kernel), (by decide +kernel), (by decide +kernel), (by decide +kernel), (by decide +kernel), (by decide +kernel), (by decide +kernel), (by decide +kernel), (by decide +kernel), (by decide +kernel), (by decide +kernel)⟩,
   ⟨(holding (plain0 (jobAt0 (.sys 1 false 9 1 4 0))) { sys0 [] with phase := .working }), 2000000, 1, (quiet0 1300000000), 8388352, 1, 9, 1, 4, 0, { sys0 [] with phase := .working }, (by decide +kernel), (by decide +kernel), (by decide +kernel), (by decide +kernel), (by decide +kernel), (by decide +kernel), (by decide +kernel), (by decide +kernel), (by decide +kernel), (by decide +kernel), (by decide +kernel), (by decide +kernel), (by decide +kernel)⟩,
   ⟨(holding { plain0 (jobAt0 (.sys 1 true 9 1 4 3000)) with adc := { (jobAt0 (.sys 1 true 9 1 4 3000)).adc with zeros := [(9, 77, 1)] } } { sys0 [] with phase := .working }), 2000000, 1, (quiet0 100000000), 670976, 77, 1, 9, 1, 4, 3000, { sys0 [] with phase := .working }, (by decide +kernel), (by decide +kernel), (by decide +kernel), (by decide +kernel), (by decide +kernel), (by decide +kernel), (by decide +kernel), (by decide +kernel), (by decide +kernel), (by decide +kernel), (by decide +kernel), (by decide +kernel), (by decide +kernel), (by decide +kernel), (by decide +kernel), (by decide +kernel), (by decide +kernel)⟩,
   ⟨(holding { plain0 (jobAt0 (.sys 1 true 9 1 4 3000)) with adc := { (jobAt0 (.sys 1 true 9 1 4 3000)).adc with zeros := [(9, 77, 1)] } } { sys0 [] with phase := .working }), 2000000, 1, (quiet0 0), 0, 77, 1, 9, 1, 4, 3000, { sys0 [] with phase := .working }, (by decide +kernel), (by decide +kernel), (by decide +kernel), (by decide +kernel), (by decide +kernel), (by decide +kernel), (by decide +kernel), (by decide +kernel), (by decide +kernel), (by decide +kernel), (by decide +kernel), (by decide +kernel), (by decide +kernel), (by decide +kernel), (by decide +kernel)⟩,
   ⟨(holding { plain0 (jobAt0 (.sys 1 true 9 1 4 1000000000)) with adc := { (jobAt0 (.sys 1 true 9 1 4 1000000000)).adc with zeros := [(9, 77, 1)] } } { sys0 [] with phase := .working }), 2000000, 1, (quiet0 100000000), 670976, 77, 1, 9, 1, 4, 1000000000, { sys0 [] with phase := .working }, (by decide +kernel), (by decide +kernel), (by decide +kernel), (by decide +kernel), (by decide +kernel), (by decide +kernel), (by decide +kernel), (by decide +kernel), (by decide +kernel), (by decide +kernel), (by decide +kernel), (by decide +kernel), (by decide +kernel), (by decide +kernel), (by decide +kernel), (by decide +kernel)⟩,
   ⟨{ spring0 with spr := { spring0.spr with pre := true } }, 1000000000000, (by decide +kernel), (by decide +kernel), (by decide +kernel), (by decide +kernel)⟩⟩

/-- States that meet the hypotheses of DieTemperature, clause by clause. -/
theorem meets_DieTemperature :
    (∃ (s : State) (_dt : Nat) (t0 : Int) (t1 : Int) (t2 : Int) (t3 : Int) (t4 : Int), s.live = true ∧ (∀ i, i < 5 → -350 ≤ [t0, t1, t2, t3, t4].getD i 0 ∧ [t0, t1, t2, t3, t4].getD i 0 < 1150) ∧ (∀ i j, i < 5 → j < 5 → ([t0, t1, t2, t3, t4].getD i 0 - [t0, t1, t2, t3, t4].getD j 0).natAbs ≤ 80) ∧ 2 ≤ s.inService.length) ∧
    (∃ (s : State) (_dt : Nat) (t0 : Int) (t1 : Int) (t2 : Int) (t3 : Int) (t4 : Int), s.live = true ∧ s.role = .spring ∧ (∀ i, i < 5 → -350 ≤ [t0, t1, t2, t3, t4].getD i 0 ∧ [t0, t1, t2, t3, t4].getD i 0 < 1150) ∧ (∀ i j, i < 5 → j < 5 → ([t0, t1, t2, t3, t4].getD i 0 - [t0, t1, t2, t3, t4].getD j 0).natAbs ≤ 80) ∧ 2 ≤ s.inService.length ∧ (∀ x ∈ thresholds, s.get x.2.2 = 0)) ∧
    (∃ (s : State) (_dt : Nat) (t0 : Int) (t1 : Int) (t2 : Int) (t3 : Int) (t4 : Int) (n : Fin 5), s.live = true ∧ (s.get F.THM_SENS.INVALID).testBit n = false ∧ ([t0, t1, t2, t3, t4].getD n 0 < -550 ∨ 1500 < [t0, t1, t2, t3, t4].getD n 0)) ∧
    (∃ (s : State) (_dt : Nat) (t0 : Int) (t1 : Int) (t2 : Int) (t3 : Int) (t4 : Int), s.live = true ∧ (∀ i, i < 5 → 1300 ≤ [t0, t1, t2, t3, t4].getD i 0 ∧ [t0, t1, t2, t3, t4].getD i 0 ≤ 1380) ∧ 2 ≤ s.inService.length ∧ s.thm.beyond.length = 5 ∧ (∀ i, i < 3 → s.thm.beyond.getD i 0 = 1)) ∧
    (∃ (s : State) (_dt : Nat) (t0 : Int) (t1 : Int) (t2 : Int) (t3 : Int) (t4 : Int), s.live = true ∧ (∀ i, i < 5 → 1300 ≤ [t0, t1, t2, t3, t4].getD i 0 ∧ [t0, t1, t2, t3, t4].getD i 0 ≤ 1380) ∧ 2 ≤ s.inService.length ∧ s.thm.beyond.length = 5 ∧ (∀ i, i < 3 → s.thm.beyond.getD i 0 = 1)) ∧
    (∃ (s : State) (dt : Nat) (g : Nat), s.live = true ∧ s.role = .basin ∧ s.thm.graceAt = some g ∧ s.get F.THM_STATUS.THR_CAUSE = 1 ∧ g + 50000000 * s.get F.THM_THR_CFG.GRACE ≤ s.time.cyc + dt) ∧
    (∃ (s : State) (dt : Nat) (g : Nat), s.live = true ∧ s.role = .basin ∧ s.thm.graceAt = some g ∧ s.time.cyc + dt < g + 50000000 * s.get F.THM_THR_CFG.GRACE) :=
  ⟨⟨State.reset, 5, 400, 410, 420, 405, 415, (by decide +kernel), (by decide +kernel), (ball2 (by decide +kernel)), (by decide +kernel)⟩,
   ⟨spring0, 5, 400, 410, 420, 405, 415, (by decide +kernel), (by decide +kernel), (by decide +kernel), (ball2 (by decide +kernel)), (by decide +kernel), (by decide +kernel)⟩,
   ⟨State.reset, 5, 400, 1600, 420, 405, 415, 1, (by decide +kernel), (by decide +kernel), (by decide +kernel)⟩,
   ⟨{ fields active0 [(F.CTL_STATUS.TICK_RUN, 1)] with thm := { active0.thm with beyond := [1, 1, 1, 0, 0] } }, 5, 1300, 1310, 1320, 1305, 1315, (by decide +kernel), (by decide +kernel), (by decide +kernel), (by decide +kernel), (by decide +kernel)⟩,
   ⟨{ spring0 with thm := { spring0.thm with beyond := [1, 1, 1, 0, 0] } }, 5, 1300, 1310, 1320, 1305, 1315, (by decide +kernel), (by decide +kernel), (by decide +kernel), (by decide +kernel), (by decide +kernel)⟩,
   ⟨{ fields active0 [(F.THM_STATUS.THR_CAUSE, 1)] with thm := { active0.thm with graceAt := some 3 } }, 60000000000, 3, (by decide +kernel), (by decide +kernel), (by decide +kernel), (by decide +kernel), (by decide +kernel)⟩,
   ⟨{ fields active0 [(F.THM_STATUS.THR_CAUSE, 1)] with thm := { active0.thm with graceAt := some 3 } }, 60, 3, (by decide +kernel), (by decide +kernel), (by decide +kernel), (by decide +kernel)⟩⟩

/-- States that meet the hypotheses of QueuePairs, clause by clause. -/
theorem meets_QueuePairs :
    (∃ (s : State) (q : Fin 16) (v : Word), s.live = true ∧ s.role = .basin ∧ s.qpState q = 1 ∧ v.toNat % 2 ^ 13 < s.get (F.HIF_QP_SIZE.SQ_SIZE q) ∧ q.val < s.host.pairs.length) ∧
    (∃ (s : State) (q : Fin 16) (v : Word), s.live = true ∧ s.role = .basin ∧ (s.get (F.HIF_QP_SIZE.SQ_SIZE q) ≤ v.toNat % 2 ^ 13 ∨ s.qpState q ≠ 1)) ∧
    (∃ (s : State) (q : Fin 16) (v : Word), s.live = true ∧ s.role = .basin ∧ (s.get (F.HIF_QP_SIZE.SQ_SIZE q) ≤ v.toNat % 2 ^ 13 ∨ s.qpState q ≠ 1)) ∧
    (∃ (s : State) (q : Fin 16) (v : Word), s.live = true ∧ s.role = .basin ∧ s.qpState q ≠ 0 ∧ v.toNat % 2 ^ 13 < s.get (F.HIF_QP_SIZE.CQ_SIZE q) ∧ q.val < s.host.pairs.length ∧ (v.toNat % 2 ^ 13 + s.get (F.HIF_QP_SIZE.CQ_SIZE q) - (s.pair q).cqHead) % s.get (F.HIF_QP_SIZE.CQ_SIZE q) ≤ (s.get (F.HIF_QP_STAT.CQ_TAIL q) + s.get (F.HIF_QP_SIZE.CQ_SIZE q) - (s.pair q).cqHead) % s.get (F.HIF_QP_SIZE.CQ_SIZE q)) ∧
    (∃ (s : State) (q : Fin 16) (v : Word), s.live = true ∧ s.role = .basin ∧ (s.get (F.HIF_QP_SIZE.CQ_SIZE q) ≤ v.toNat % 2 ^ 13 ∨ s.qpState q = 0 ∨ (s.get (F.HIF_QP_STAT.CQ_TAIL q) + s.get (F.HIF_QP_SIZE.CQ_SIZE q) - (s.pair q).cqHead) % s.get (F.HIF_QP_SIZE.CQ_SIZE q) < (v.toNat % 2 ^ 13 + s.get (F.HIF_QP_SIZE.CQ_SIZE q) - (s.pair q).cqHead) % s.get (F.HIF_QP_SIZE.CQ_SIZE q))) ∧
    (∃ (s : State) (q : Fin 16) (v : Word), s.live = true ∧ s.role = .basin ∧ (s.get (F.HIF_QP_SIZE.CQ_SIZE q) ≤ v.toNat % 2 ^ 13 ∨ s.qpState q = 0 ∨ (s.get (F.HIF_QP_STAT.CQ_TAIL q) + s.get (F.HIF_QP_SIZE.CQ_SIZE q) - (s.pair q).cqHead) % s.get (F.HIF_QP_SIZE.CQ_SIZE q) < (v.toNat % 2 ^ 13 + s.get (F.HIF_QP_SIZE.CQ_SIZE q) - (s.pair q).cqHead) % s.get (F.HIF_QP_SIZE.CQ_SIZE q))) ∧
    (∃ (s : State) (q : Fin 16) (v : Word), s.live = true ∧ s.role = .basin ∧ (s.get (F.HIF_QP_SIZE.CQ_SIZE q) ≤ v.toNat % 2 ^ 13 ∨ s.qpState q = 0 ∨ (s.get (F.HIF_QP_STAT.CQ_TAIL q) + s.get (F.HIF_QP_SIZE.CQ_SIZE q) - (s.pair q).cqHead) % s.get (F.HIF_QP_SIZE.CQ_SIZE q) < (v.toNat % 2 ^ 13 + s.get (F.HIF_QP_SIZE.CQ_SIZE q) - (s.pair q).cqHead) % s.get (F.HIF_QP_SIZE.CQ_SIZE q))) ∧
    (∃ (s : State) (_dt : Nat) (q : Nat) (b : List Nat), s.live = true ∧ s.role = .basin ∧ s.fetchPair = some q ∧ q < 16 ∧ 2 ≤ s.get (F.HIF_QP_SIZE.SQ_SIZE q) ∧ b.length = 64) ∧
    (∃ (s : State) (_dt : Nat) (q : Nat) (b : List Nat), s.live = true ∧ s.role = .basin ∧ s.fetchPair = some q ∧ q < 16 ∧ 2 ≤ s.get (F.HIF_QP_SIZE.SQ_SIZE q) ∧ b.length = 64) ∧
    (∃ (s : State) (_dt : Nat) (q : Nat) (st : Nat) (b : List Nat), s.live = true ∧ s.role = .basin ∧ s.fetchPair = some q ∧ q < 16 ∧ 2 ≤ s.get (F.HIF_QP_SIZE.SQ_SIZE q) ∧ b.length = 64 ∧ (∀ x ∈ s.host.infl, x.id < s.host.nextId) ∧ ((opcodeOk (s.isStream q) q (descOf b).opcode = false ∨ flagsOk (descOf b) = false) ∧ st = 0x30 ∨ opcodeOk (s.isStream q) q (descOf b).opcode = true ∧ flagsOk (descOf b) = true ∧ ((descOf b).length = 0 ∧ ((descOf b).opcode = 0x01 ∨ (descOf b).opcode = 0x02) ∧ st = 0x01 ∨ ¬ ((descOf b).length = 0 ∧ ((descOf b).opcode = 0x01 ∨ (descOf b).opcode = 0x02)) ∧ (lengthOk (descOf b) = false ∧ st = 0x31 ∨ lengthOk (descOf b) = true ∧ s.targetOk (descOf b) = false ∧ st = 0x32)))) ∧
    (∃ (s : State) (_dt : Nat) (q : Nat) (st : Nat) (b : List Nat), s.live = true ∧ s.role = .basin ∧ s.fetchPair = some q ∧ q < 16 ∧ 2 ≤ s.get (F.HIF_QP_SIZE.SQ_SIZE q) ∧ b.length = 64 ∧ (∀ x ∈ s.host.infl, x.id < s.host.nextId) ∧ ((opcodeOk (s.isStream q) q (descOf b).opcode = false ∨ flagsOk (descOf b) = false) ∧ st = 0x30 ∨ opcodeOk (s.isStream q) q (descOf b).opcode = true ∧ flagsOk (descOf b) = true ∧ ((descOf b).length = 0 ∧ ((descOf b).opcode = 0x01 ∨ (descOf b).opcode = 0x02) ∧ st = 0x01 ∨ ¬ ((descOf b).length = 0 ∧ ((descOf b).opcode = 0x01 ∨ (descOf b).opcode = 0x02)) ∧ (lengthOk (descOf b) = false ∧ st = 0x31 ∨ lengthOk (descOf b) = true ∧ s.targetOk (descOf b) = false ∧ st = 0x32)))) ∧
    (∃ (s : State) (_dt : Nat) (q : Nat) (st : Nat) (b : List Nat), s.live = true ∧ s.role = .basin ∧ s.fetchPair = some q ∧ q < 16 ∧ 2 ≤ s.get (F.HIF_QP_SIZE.SQ_SIZE q) ∧ b.length = 64 ∧ (∀ x ∈ s.host.infl, x.id < s.host.nextId) ∧ ((opcodeOk (s.isStream q) q (descOf b).opcode = false ∨ flagsOk (descOf b) = false) ∧ st = 0x30 ∨ opcodeOk (s.isStream q) q (descOf b).opcode = true ∧ flagsOk (descOf b) = true ∧ ((descOf b).length = 0 ∧ ((descOf b).opcode = 0x01 ∨ (descOf b).opcode = 0x02) ∧ st = 0x01 ∨ ¬ ((descOf b).length = 0 ∧ ((descOf b).opcode = 0x01 ∨ (descOf b).opcode = 0x02)) ∧ (lengthOk (descOf b) = false ∧ st = 0x31 ∨ lengthOk (descOf b) = true ∧ s.targetOk (descOf b) = false ∧ st = 0x32)))) ∧
    (∃ (s : State) (_dt : Nat) (q : Nat) (st : Nat) (b : List Nat), s.live = true ∧ s.role = .basin ∧ s.fetchPair = some q ∧ q < 16 ∧ 2 ≤ s.get (F.HIF_QP_SIZE.SQ_SIZE q) ∧ b.length = 64 ∧ (∀ x ∈ s.host.infl, x.id < s.host.nextId) ∧ ((opcodeOk (s.isStream q) q (descOf b).opcode = false ∨ flagsOk (descOf b) = false) ∧ st = 0x30 ∨ opcodeOk (s.isStream q) q (descOf b).opcode = true ∧ flagsOk (descOf b) = true ∧ ((descOf b).length = 0 ∧ ((descOf b).opcode = 0x01 ∨ (descOf b).opcode = 0x02) ∧ st = 0x01 ∨ ¬ ((descOf b).length = 0 ∧ ((descOf b).opcode = 0x01 ∨ (descOf b).opcode = 0x02)) ∧ (lengthOk (descOf b) = false ∧ st = 0x31 ∨ lengthOk (descOf b) = true ∧ s.targetOk (descOf b) = false ∧ st = 0x32)))) ∧
    (∃ (s : State) (_dt : Nat) (q : Nat) (_code : Nat), s.live = true ∧ s.role = .basin ∧ s.fetchPair = some q ∧ q < 16 ∧ (∀ x ∈ s.host.infl, x.id < s.host.nextId)) ∧
    (∃ (s : State) (_dt : Nat) (q : Fin 16) (x : Infl) (c : Cpl), s.live = true ∧ s.role = .basin ∧ (s.inflOf q).head? = some x ∧ x.phase = .done c ∧ s.cqRoom q = true ∧ q.val < s.host.pairs.length ∧ s.get (F.HIF_QP_SIZE.CQ_SIZE q) < 2 ^ 13) ∧
    (∃ (s : State) (_dt : Nat) (q : Fin 16) (x : Infl) (c : Cpl), s.live = true ∧ s.role = .basin ∧ (s.inflOf q).head? = some x ∧ x.phase = .done c ∧ s.cqRoom q = false) ∧
    (∃ (s : State) (dt : Nat) (a : Nat) (q : Fin 16), s.live = true ∧ s.role = .basin ∧ (s.pair q).firstAt = some a ∧ s.get (F.HIF_QP_COAL.TIME q) ≠ 0 ∧ a + 500 * s.get (F.HIF_QP_COAL.TIME q) ≤ s.time.cyc + dt ∧ q.val < s.host.pairs.length) ∧
    (∃ (s : State) (dt : Nat) (q : Fin 16) (b : StreamBuf) (l : List StreamBuf) (x : Infl), s.live = true ∧ s.role = .basin ∧ (s.pair q).bufs = b :: l ∧ s.get (F.HIF_QP_COAL.FLUSH q) ≠ 0 ∧ b.count ≠ 0 ∧ b.firstAt + 500 * s.get (F.HIF_QP_COAL.FLUSH q) ≤ s.time.cyc + dt ∧ q.val < s.host.pairs.length ∧ s.inflAt b.id = some x ∧ x.phase = .posted ∧ x.q < 16) ∧
    (∃ (s : State) (q : Fin 16), s.live = true ∧ s.role = .basin ∧ s.qpState q = 0 ∧ 2 ≤ s.get (F.HIF_QP_SIZE.SQ_SIZE q) ∧ 2 ≤ s.get (F.HIF_QP_SIZE.CQ_SIZE q) ∧ q.val < s.host.pairs.length) ∧
    (∃ (s : State) (q : Fin 16), s.live = true ∧ s.role = .basin ∧ s.qpState q = 0 ∧ 2 ≤ s.get (F.HIF_QP_SIZE.SQ_SIZE q) ∧ 2 ≤ s.get (F.HIF_QP_SIZE.CQ_SIZE q) ∧ q.val < s.host.pairs.length) ∧
    (∃ (s : State) (q : Fin 16), s.live = true ∧ s.role = .basin ∧ (s.qpState q = 1 ∨ s.qpState q = 3) ∧ q.val < s.host.pairs.length) ∧
    (∃ (s : State) (q : Fin 16), s.live = true ∧ s.role = .basin ∧ (s.qpState q = 1 ∨ s.qpState q = 3) ∧ q.val < s.host.pairs.length) ∧
    (∃ (s : State) (q : Fin 16), s.live = true ∧ s.role = .basin ∧ s.qpState q = 2 ∧ s.inflOf q = []) :=
  ⟨⟨waiting0, 2, 5#32, (by decide +kernel), (by decide +kernel), (by decide +kernel), (by decide +kernel), (by decide +kernel)⟩,
   ⟨waiting0, 2, 16#32, (by decide +kernel), (by decide +kernel), (by decide +kernel)⟩,
   ⟨waiting0, 3, 0#32, (by decide +kernel), (by decide +kernel), (by decide +kernel)⟩,
   ⟨(fields waiting0 [(F.HIF_QP_STAT.CQ_TAIL 2, 4)]), 2, 3#32, (by decide +kernel), (by decide +kernel), (by decide +kernel), (by decide +kernel), (by decide +kernel), (by decide +kernel)⟩,
   ⟨(fields waiting0 [(F.HIF_QP_STAT.CQ_TAIL 2, 4)]), 2, 5#32, (by decide +kernel), (by decide +kernel), (by decide +kernel)⟩,
   ⟨waiting0, 2, 16#32, (by decide +kernel), (by decide +kernel), (by decide +kernel)⟩,
   ⟨waiting0, 3, 0#32, (by decide +kernel), (by decide +kernel), (by decide +kernel)⟩,
   ⟨sub0, 5, 2, (descBytes nop0), (by decide +kernel), (by decide +kernel), (by decide +kernel), (by decide +kernel), (by decide +kernel), (by decide +kernel)⟩,
   ⟨sub0, 5, 2, (descBytes { nop0 with opcode := 0x7F }), (by decide +kernel), (by decide +kernel), (by decide +kernel), (by decide +kernel), (by decide +kernel), (by decide +kernel)⟩,
   ⟨sub0, 5, 2, 0x30, (descBytes { nop0 with opcode := 0x7F }), (by decide +kernel), (by decide +kernel), (by decide +kernel), (by decide +kernel), (by decide +kernel), (by decide +kernel), (by decide +kernel), (by decide +kernel)⟩,
   ⟨sub0, 5, 2, 0x01, (descBytes { nop0 with opcode := 0x02 }), (by decide +kernel), (by decide +kernel), (by decide +kernel), (by decide +kernel), (by decide +kernel), (by decide +kernel), (by decide +kernel), (by decide +kernel)⟩,
   ⟨sub0, 5, 2, 0x31, (descBytes { nop0 with length := 4 }), (by decide +kernel), (by decide +kernel), (by decide +kernel), (by decide +kernel), (by decide +kernel), (by decide +kernel), (by decide +kernel), (by decide +kernel)⟩,
   ⟨sub0, 5, 2, 0x32, (descBytes { nop0 with opcode := 0x38, length := 4, target := 5 }), (by decide +kernel), (by decide +kernel), (by decide +kernel), (by decide +kernel), (by decide +kernel), (by decide +kernel), (by decide +kernel), (by decide +kernel)⟩,
   ⟨sub0, 5, 2, 4, (by decide +kernel), (by decide +kernel), (by decide +kernel), (by decide +kernel), (by decide +kernel)⟩,
   ⟨waiting0, 5, 2, ⟨1, 2, nop0, 0, .done ⟨0, 0, 5, 0, 0, 9⟩, []⟩, ⟨0, 0, 5, 0, 0, 9⟩, (by decide +kernel), (by decide +kernel), (by decide +kernel), (by decide +kernel), (by decide +kernel), (by decide +kernel), (by decide +kernel)⟩,
   ⟨(fields waiting0 [(F.HIF_QP_STAT.CQ_TAIL 2, 15)]), 5, 2, ⟨1, 2, nop0, 0, .done ⟨0, 0, 5, 0, 0, 9⟩, []⟩, ⟨0, 0, 5, 0, 0, 9⟩, (by decide +kernel), (by decide +kernel), (by decide +kernel), (by decide +kernel), (by decide +kernel)⟩,
   ⟨{ fields waiting0 [(F.HIF_QP_COAL.TIME 2, 3)] with host := { waiting0.host with pairs := waiting0.host.pairs.set 2 { firstAt := some 4, sinceAssert := 1 } } }, 5000, 4, 2, (by decide +kernel), (by decide +kernel), (by decide +kernel), (by decide +kernel), (by decide +kernel), (by decide +kernel)⟩,
   ⟨{ fields waiting0 [(F.HIF_QP_COAL.FLUSH 2, 3)] with host := { waiting0.host with infl := [⟨1, 2, nop0, 0, .posted, []⟩], pairs := waiting0.host.pairs.set 2 { bufs := [⟨1, 4096, 512, 64, 1, 4⟩] } } }, 5000, 2, ⟨1, 4096, 512, 64, 1, 4⟩, [], ⟨1, 2, nop0, 0, .posted, []⟩, (by decide +kernel), (by decide +kernel), (by decide +kernel), (by decide +kernel), (by decide +kernel), (by decide +kernel), (by decide +kernel), (by decide +kernel), (by decide +kernel), (by decide +kernel)⟩,
   ⟨(fields waiting0 [(F.HIF_QP_STAT.STATE 2, 0)]), 2, (by decide +kernel), (by decide +kernel), (by decide +kernel), (by decide +kernel), (by decide +kernel), (by decide +kernel)⟩,
   ⟨(fields waiting0 [(F.HIF_QP_SIZE.CQ_SIZE 0, 16), (F.HIF_QP_SIZE.SQ_SIZE 0, 16), (F.HIF_QP_STAT.STATE 0, 0)]), 0, (by decide +kernel), (by decide +kernel), (by decide +kernel), (by decide +kernel), (by decide +kernel), (by decide +kernel)⟩,
   ⟨waiting0, 2, (by decide +kernel), (by decide +kernel), (by decide +kernel), (by decide +kernel)⟩,
   ⟨(fields waiting0 [(F.HIF_QP_STAT.STATE 2, 3)]), 2, (by decide +kernel), (by decide +kernel), (by decide +kernel), (by decide +kernel)⟩,
   ⟨{ fields waiting0 [(F.HIF_QP_STAT.STATE 2, 2)] with host := { waiting0.host with infl := [] } }, 2, (by decide +kernel), (by decide +kernel), (by decide +kernel), (by decide +kernel)⟩⟩

/-- States that meet the hypotheses of HostLinkAndWaits, clause by clause. -/
theorem meets_HostLinkAndWaits :
    (∃ (s : State) (dt : Nat) (v : Fin 64), s.live = true ∧ s.role = .basin ∧ v.val ∈ s.host.vecDue ∧ (∀ a, s.host.vecLast.find? (fun x => x.1 == v.val) = some (v.val, a) → a + 500 * s.get (F.HIF_VEC_HOLD.HOLD v) ≤ s.time.cyc + dt) ∧ v.val ∉ s.host.msixMask) ∧
    (∃ (s : State) (dt : Nat) (v : Fin 64) (fmask : _), s.live = true ∧ s.role = .basin ∧ v.val ∈ s.host.vecDue ∧ (∀ a, s.host.vecLast.find? (fun x => x.1 == v.val) = some (v.val, a) → a + 500 * s.get (F.HIF_VEC_HOLD.HOLD v) ≤ s.time.cyc + dt) ∧ (v.val ∈ s.host.msixMask ∨ fmask = true)) ∧
    (∃ (s : State) (dt : Nat) (v : Fin 64) (fmask : _), s.live = true ∧ s.role = .basin ∧ v.val ∈ s.host.vecDue ∧ (∀ a, s.host.vecLast.find? (fun x => x.1 == v.val) = some (v.val, a) → a + 500 * s.get (F.HIF_VEC_HOLD.HOLD v) ≤ s.time.cyc + dt) ∧ (v.val ∈ s.host.msixMask ∨ fmask = true)) ∧
    (∃ (s : State) (v : Fin 64), s.live = true ∧ s.role = .basin ∧ v.val ∈ s.host.msixPba) ∧
    (∃ (s : State) (v : Fin 64) (fmask : _), s.live = true ∧ s.role = .basin ∧ (v.val ∉ s.host.msixPba ∨ fmask = true)) ∧
    (∃ (s : State) (v : Fin 64) (fmask : _), s.live = true ∧ s.role = .basin ∧ (v.val ∉ s.host.msixPba ∨ fmask = true)) ∧
    (∃ (s : State) (_v : Word), s.live = true ∧ s.role = .basin) ∧
    (∃ (s : State) (dt : Nat), s.live = true ∧ s.role = .basin ∧ s.get F.HIF_WD.TMO ≠ 0 ∧ s.host.wdFired = false ∧ s.host.wdAt + 500000 * s.get F.HIF_WD.TMO ≤ s.time.cyc + dt) ∧
    (∃ (s : State), s.live = true ∧ s.role = .basin) ∧
    (∃ (s : State) (speed : Fin 4) (width : Fin 5) (_cfg : List (Nat × Word)), s.live = true ∧ s.role = .basin ∧ speed.val ≠ 0 ∧ (width.val = 1 ∨ width.val = 2 ∨ width.val = 4)) ∧
    (∃ (s : State) (speed : Fin 4) (width : Fin 5) (_cfg : List (Nat × Word)), s.live = true ∧ s.role = .basin ∧ (speed.val = 0 ∨ width.val = 0 ∨ width.val = 3)) ∧
    (∃ (s : State) (speed : Fin 4) (width : Fin 5) (_cfg : List (Nat × Word)), s.live = true ∧ s.role = .basin ∧ (speed.val = 0 ∨ width.val = 0 ∨ width.val = 3)) ∧
    (∃ (s : State) (_dt : Nat) (id : Nat) (n : Nat) (x : Infl), s.live = true ∧ s.role = .basin ∧ s.inflAt id = some x ∧ x.q < 16 ∧ s.heldTicks x = some n ∧ s.cg F.HIF_ORD_CFG.UPD_HOLD ≤ n ∧ x.d.target ∈ s.ctl.busy) ∧
    (∃ (s : State) (_dt : Nat) (id : Nat) (n : Nat) (x : Infl), s.live = true ∧ s.role = .basin ∧ s.inflAt id = some x ∧ x.q < 16 ∧ s.heldTicks x = some n ∧ (n < s.cg F.HIF_ORD_CFG.UPD_HOLD ∨ x.d.target ∉ s.ctl.busy)) ∧
    (∃ (s : State) (dt : Nat), s.live = true ∧ s.role = .basin ∧ 6 ∈ s.pwr.steps ∧ s.get F.CMN_START_CFG.HOST_WAIT ≠ 0 ∧ s.pwr.step8 = false ∧ s.pwr.step6At + 500000000 * s.get F.CMN_START_CFG.HOST_WAIT ≤ s.time.cyc + dt) :=
  ⟨⟨{ active0 with host := { active0.host with vecDue := [5], msixMask := [6], vecLast := [(5, 0)] } }, 50000000, 5, (by decide +kernel), (by decide +kernel), (by decide +kernel), (of_pair (by decide +kernel)), (by decide +kernel)⟩,
   ⟨{ active0 with host := { active0.host with vecDue := [5] } }, 50000000, 5, false, (by decide +kernel), (by decide +kernel), (by decide +kernel), (of_pair (by decide +kernel)), (by decide +kernel)⟩,
   ⟨{ active0 with host := { active0.host with vecDue := [5], msixMask := [] } }, 50000000, 5, true, (by decide +kernel), (by decide +kernel), (by decide +kernel), (of_pair (by decide +kernel)), (by decide +kernel)⟩,
   ⟨{ active0 with host := { active0.host with msixPba := [5] } }, 5, (by decide +kernel), (by decide +kernel), (by decide +kernel)⟩,
   ⟨active0, 5, false, (by decide +kernel), (by decide +kernel), (by decide +kernel)⟩,
   ⟨{ active0 with host := { active0.host with msixPba := [5] } }, 5, true, (by decide +kernel), (by decide +kernel), (by decide +kernel)⟩,
   ⟨active0, 0x10005#32, (by decide +kernel), (by decide +kernel)⟩,
   ⟨(fields active0 [(F.HIF_WD.TMO, 3)]), 5000000, (by decide +kernel), (by decide +kernel), (by decide +kernel), (by decide +kernel), (by decide +kernel)⟩,
   ⟨waiting0, (by decide +kernel), (by decide +kernel)⟩,
   ⟨waiting0, 3, 2, [(16, 7#32)], (by decide +kernel), (by decide +kernel), (by decide +kernel), (by decide +kernel)⟩,
   ⟨waiting0, 3, 3, [], (by decide +kernel), (by decide +kernel), (by decide +kernel)⟩,
   ⟨waiting0, 0, 4, [], (by decide +kernel), (by decide +kernel), (by decide +kernel)⟩,
   ⟨{ (fields gathering0 [(F.HIF_ORD_CFG.UPD_HOLD, 4)]).sampleCfg with ctl := { (fields gathering0 [(F.HIF_ORD_CFG.UPD_HOLD, 4)]).sampleCfg.ctl with busy := [0xC2] }, host := { gathering0.host with nextId := 5, infl := [{ infl0 0x03 [] with phase := .held 1 4 1 }] } }, 5, 1, 4, { infl0 0x03 [] with phase := .held 1 4 1 }, (by decide +kernel), (by decide +kernel), (by decide +kernel), (by decide +kernel), (by decide +kernel), (by decide +kernel), (by decide +kernel)⟩,
   ⟨{ fields gathering0 [(F.HIF_ORD_CFG.UPD_HOLD, 4)] with host := { gathering0.host with nextId := 5, infl := [{ infl0 0x03 [] with phase := .held 1 4 1 }] } }, 5, 1, 4, { infl0 0x03 [] with phase := .held 1 4 1 }, (by decide +kernel), (by decide +kernel), (by decide +kernel), (by decide +kernel), (by decide +kernel), (by decide +kernel)⟩,
   ⟨{ fields active0 [(F.CMN_START_CFG.HOST_WAIT, 3)] with pwr := { steps := [1, 2, 3, 4, 5, 6] } }, 5000000000, (by decide +kernel), (by decide +kernel), (by decide +kernel), (by decide +kernel), (by decide +kernel), (by decide +kernel)⟩⟩

/-- States that meet the hypotheses of TimeCommands, clause by clause. -/
theorem meets_TimeCommands :
    (∃ (s : State) (dt : Nat) (q : Fin 16) (x : Infl) (e : Int), s.Ready q 0x31 x ∧ s.get F.TIME_CTRL.SRC = 2 ∧ stampDiff (State.advance dt s).stamp (bytesAt x.d.param 0 4) ≤ 2000000000 ∧ e = toSigned 64 (bytesAt x.d.param 8 8) ∧ s.isMaster = true ∧ (∀ y ∈ s.host.infl, y.d.opcode = 0x30 → y.phase.isDone = true ∨ y.phase = .fetched)) ∧
    (∃ (s : State) (dt : Nat) (q : Fin 16) (x : Infl) (e : Int), s.Ready q 0x31 x ∧ s.get F.TIME_CTRL.SRC = 2 ∧ stampDiff (State.advance dt s).stamp (bytesAt x.d.param 0 4) ≤ 2000000000 ∧ e = toSigned 64 (bytesAt x.d.param 8 8) ∧ s.isMaster = true ∧ (∀ y ∈ s.host.infl, y.d.opcode = 0x30 → y.phase.isDone = true ∨ y.phase = .fetched)) ∧
    (∃ (s : State) (_dt : Nat) (q : Fin 16) (x : Infl), s.Ready q 0x31 x ∧ s.get F.TIME_CTRL.SRC ≠ 2) ∧
    (∃ (s : State) (dt : Nat) (ns : Int), s.live = true ∧ s.role = .basin ∧ s.isMaster = true ∧ s.get F.TIME_CTRL.SRC = 1 ∧ (∀ y ∈ s.host.infl, y.d.opcode = 0x30 → y.phase.isDone = true ∨ y.phase = .fetched) ∧ ns = ((State.advance dt s).todNs : Int) - s.getI F.TIME_PPS.ICOMP) ∧
    (∃ (s : State) (dt : Nat) (port : Fin 12), s.live = true ∧ s.hasPort port = true ∧ s.portUp port = true ∧ s.get (F.LNK_SYNC_CFG.INT port) ≠ 0 ∧ (s.lport port).syncAt + 50000 * s.get (F.LNK_SYNC_CFG.INT port) ≤ s.time.cyc + dt) ∧
    (∃ (s : State) (_dt : Nat) (_ago : Nat) (port : Fin 12) (bs : List Block) (f : SyncFrame), s.HearsFrame port bs ftSYNC ∧ f = syncOf (hear bs).bytes ∧ f.kind = 1) ∧
    (∃ (s : State) (_dt : Nat) (t1 : Nat) (port : Fin 12) (bs : List Block) (f : SyncFrame), s.HearsFrame port bs ftSYNC ∧ f = syncOf (hear bs).bytes ∧ f.kind = 2 ∧ (s.lport port).syncT1 = some t1 ∧ f.sseq = (s.lport port).syncSeq ∧ t1 < 2 ^ 48) ∧
    (∃ (s : State) (dt : Nat), s.live = true ∧ s.isMaster = true ∧ s.get F.TIME_CTRL.SRC = 1 ∧ 1250000000 ≤ s.time.cyc + dt - s.time.sampleAt ∧ s.get F.TIME_STATUS.STATE ≠ 3) ∧
    (∃ (s : State) (dt : Nat), s.live = true ∧ s.isMaster = false ∧ s.get F.TIME_STATUS.LOADED = 1 ∧ s.get F.TIME_STATUS.UPPORT < 12 ∧ 10 * 50000 * s.get (F.LNK_SYNC_CFG.INT (s.get F.TIME_STATUS.UPPORT)) ≤ s.time.cyc + dt - s.time.sampleAt ∧ s.get F.TIME_STATUS.STATE ≠ 3) ∧
    (∃ (s : State) (dt : Nat), s.live = true ∧ s.isMaster = true ∧ s.time.anchorAt + 100000000 * s.get F.TIME_CTRL.ANCHOR_INT ≤ (State.advance dt s).time.ext) ∧
    (∃ (s : State) (dt : Nat), s.live = true ∧ s.get F.TIME_CTRL.PPS_EN = 1 ∧ s.time.todValid = true ∧ ((State.advance dt s).todNs * 65536 + (State.advance dt s).time.frac) * 9990 < s.period10 * 1000 ∧ (∀ p, s.time.ppsPass = some p → p + 1 < s.time.cyc + dt) ∧ (∀ l, s.time.ppsLast = some l → l + 250000000 ≤ s.time.cyc + dt)) ∧
    (∃ (s : State) (dt : Nat) (l : _), s.live = true ∧ s.get F.TIME_CTRL.PPS_EN = 1 ∧ s.time.todValid = true ∧ ((State.advance dt s).todNs * 65536 + (State.advance dt s).time.frac) * 9990 < s.period10 * 1000 ∧ (∀ p, s.time.ppsPass = some p → p + 1 < s.time.cyc + dt) ∧ s.time.ppsLast = some l ∧ s.time.cyc + dt < l + 250000000) ∧
    (∃ (s : State) (dt : Nat) (l : Nat), s.live = true ∧ s.time.ppsHigh = true ∧ s.time.ppsLast = some l ∧ l + 500000 * s.get F.TIME_PPS.WIDTH ≤ s.time.cyc + dt) ∧
    (∃ (s : State) (_dt : Nat) (rq : Option HostRd), s.live = true ∧ s.ReadsOne F.TIME_STAMP.VALUE.off rq) ∧
    (∃ (s : State) (_dt : Nat) (rq : Option HostRd), s.live = true ∧ s.ReadsOne F.TIME_STAMP.VALUE.off rq) ∧
    (∃ (s : State) (_dt : Nat) (rq : Option HostRd), s.live = true ∧ s.ReadsOne F.TIME_STAMP.VALUE.off rq) :=
  ⟨⟨(holding (fields active0 [(F.TIME_CTRL.SRC, 2)]) { infl0 0x31 [] with d := { nop0 with opcode := 0x31, param := [0, 0, 0, 0, 0, 0, 0, 0, 100, 0, 0, 0, 0, 0, 0, 0] } }), 5, 2, { infl0 0x31 [] with d := { nop0 with opcode := 0x31, param := [0, 0, 0, 0, 0, 0, 0, 0, 100, 0, 0, 0, 0, 0, 0, 0] } }, 100, (by unfold State.Ready; decide +kernel), (by decide +kernel), (by decide +kernel), (by decide +kernel), (by decide +kernel), (by decide +kernel)⟩,
   ⟨(holding (fields active0 [(F.TIME_CTRL.SRC, 2), (F.TIME_CTRL.STEP_EN, 1), (F.TIME_CTRL.BACKSTEP_EN, 1), (F.TIME_SERVO.STEP_THR, 1)]) { infl0 0x31 [] with d := { nop0 with opcode := 0x31, param := [0, 0, 0, 0, 0, 0, 0, 0, 0, 0, 0, 1, 0, 0, 0, 0] } }), 5, 2, { infl0 0x31 [] with d := { nop0 with opcode := 0x31, param := [0, 0, 0, 0, 0, 0, 0, 0, 0, 0, 0, 1, 0, 0, 0, 0] } }, 16777216, (by unfold State.Ready; decide +kernel), (by decide +kernel), (by decide +kernel), (by decide +kernel), (by decide +kernel), (by decide +kernel)⟩,
   ⟨(holding active0 (infl0 0x31 [])), 5, 2, (infl0 0x31 []), (by unfold State.Ready; decide +kernel), (by decide +kernel)⟩,
   ⟨(fields active0 [(F.TIME_CTRL.SRC, 1)]), 5, (((State.advance 5 (fields active0 [(F.TIME_CTRL.SRC, 1)])).todNs : Int) - (fields active0 [(F.TIME_CTRL.SRC, 1)]).getI F.TIME_PPS.ICOMP), (by decide +kernel), (by decide +kernel), (by decide +kernel), (by decide +kernel), (by decide +kernel), (by decide +kernel)⟩,
   ⟨(lit gathering0), 500000000, 1, (by decide +kernel), (by decide +kernel), (by decide +kernel), (by decide +kernel), (by decide +kernel)⟩,
   ⟨(lit gathering0), 5, 3, 1, (heard (.sync ⟨1, 7, false, 6, 0, 0, 4, -9⟩)), ⟨1, 7, false, 6, 0, 0, 4, -9⟩, (by unfold State.HearsFrame; decide +kernel), (by decide +kernel), (by decide +kernel)⟩,
   ⟨{ gathering0 with lnk := { gathering0.lnk with ports := gathering0.lnk.ports.set 1 { syncSeq := 6, syncT1 := some 100 } } }, 5, 100, 1, (heard (.sync ⟨2, 7, false, 6, 200, 300, 0, 0⟩)), ⟨2, 7, false, 6, 200, 300, 0, 0⟩, (by unfold State.HearsFrame; decide +kernel), (by decide +kernel), (by decide +kernel), (by decide +kernel), (by decide +kernel), (by decide +kernel)⟩,
   ⟨(fields active0 [(F.TIME_CTRL.SRC, 1), (F.TIME_STATUS.STATE, 2)]), 2000000000, (by decide +kernel), (by decide +kernel), (by decide +kernel), (by decide +kernel), (by decide +kernel)⟩,
   ⟨(fields spring0 [(F.TIME_STATUS.LOADED, 1), (F.TIME_STATUS.UPPORT, 1), (F.TIME_STATUS.STATE, 2)]), 2000000000, (by decide +kernel), (by decide +kernel), (by decide +kernel), (by decide +kernel), (by decide +kernel), (by decide +kernel)⟩,
   ⟨active0, 2000000000, (by decide +kernel), (by decide +kernel), (by decide +kernel)⟩,
   ⟨{ fields active0 [(F.TIME_CTRL.PPS_EN, 1)] with time := { active0.time with todValid := true, todOff := 2000000000 } }, 0, (by decide +kernel), (by decide +kernel), (by decide +kernel), (by decide +kernel), (of_some (by decide +kernel)), (of_some (by decide +kernel))⟩,
   ⟨{ fields active0 [(F.TIME_CTRL.PPS_EN, 1)] with time := { active0.time with todValid := true, todOff := 2000000000, ppsLast := some 0 } }, 0, 0, (by decide +kernel), (by decide +kernel), (by decide +kernel), (by decide +kernel), (of_some (by decide +kernel)), (by decide +kernel), (by decide +kernel)⟩,
   ⟨{ active0 with time := { active0.time with ppsHigh := true, ppsLast := some 0 } }, 2000000000, 0, (by decide +kernel), (by decide +kernel), (by decide +kernel), (by decide +kernel)⟩,
   ⟨active0, 77, none, (by decide +kernel), (by first | exact .inl rfl | exact .inr ⟨rfl, _, rfl, by decide +kernel⟩)⟩,
   ⟨active0, 77, (some { off := F.TIME_STAMP.VALUE.off, len := 4 }), (by decide +kernel), (by first | exact .inl rfl | exact .inr ⟨rfl, _, rfl, by decide +kernel⟩)⟩,
   ⟨spring0, 77, none, (by decide +kernel), (by first | exact .inl rfl | exact .inr ⟨rfl, _, rfl, by decide +kernel⟩)⟩⟩

/-- States that meet the hypotheses of RecorderCommands, clause by clause. -/
theorem meets_RecorderCommands :
    (∃ (s : State) (_dt : Nat) (_port : Fin 12) (_bs : List Block) (h : TickHdr), s.live = true ∧ s.role = .spring ∧ s.spr.hdr = some h ∧ s.get F.LNK_SPOS.ENROLLED = 1 ∧ s.aon.ledger ≠ []) ∧
    (∃ (s : State) (_dt : Nat) (_port : Fin 12) (_bs : List Block) (h : TickHdr), s.live = true ∧ s.role = .spring ∧ s.spr.hdr = some h ∧ s.get F.LNK_SPOS.ENROLLED = 1 ∧ s.aon.ledger = [] ∧ s.recd.staging ≠ []) ∧
    (∃ (s : State) (_dt : Nat) (port : Fin 12) (bs : List Block) (m : Mgmt) (r : EvRec), s.Hears port bs m ∧ s.InOrder m ∧ s.role = .basin ∧ m.op = 0x21 ∧ recFrameEvents m = [r] ∧ recFrameLedger m = [] ∧ (∀ x ∈ s.recd.seenLseq, x.1 = m.src → x.2.2 ≠ r.lseq) ∧ (r.code ∉ [Ev.DEGRADED_EXPIRED, Ev.VOTE_RESTORED, Ev.RESET_STUCK, Ev.PUSH_DONE] ∨ r.source ≠ m.src) ∧ s.recd.lost = none ∧ s.evStaged < 256) ∧
    (∃ (s : State) (_dt : Nat) (port : Fin 12) (bs : List Block) (m : Mgmt) (r : LedgerRec), s.Hears port bs m ∧ s.InOrder m ∧ s.role = .basin ∧ m.op = 0x21 ∧ recFrameEvents m = [] ∧ recFrameLedger m = [r] ∧ (∀ x ∈ s.recd.restarted, x.1 ≠ m.src)) ∧
    (∃ (s : State) (_dt : Nat) (i : Nat) (r : EvRec), s.live = true ∧ s.role = .basin ∧ s.recHeld = false ∧ pickRec s.recd.staging = some i ∧ s.recd.staging[i]? = some r ∧ s.nor.sag = false ∧ r.commit = 0xFF ∧ s.norUsable = true ∧ s.nor.stopped = none ∧ s.get F.REC_SEQ.VALUE ≠ 0xFFFFFFFF ∧ s.nor.first.length ≠ 16383) ∧
    (∃ (s : State) (dt : Nat) (code : Nat), s.live = true ∧ ((State.advance dt s).bucketOf code).pend ≠ 0 ∧ (s.attrOf code).rate ≠ 0 ∧ (s.attrOf code).burst * tokenUnit ≤ ((State.advance dt s).bucketOf code).level) ∧
    (∃ (s : State) (dt : Nat), s.live = true ∧ s.role = .basin ∧ s.recd.frozen = true ∧ s.recd.frozenAt + 50000000 * s.get F.REC_CFG.FREEZE_MAX ≤ s.time.cyc + dt) ∧
    (∃ (s : State) (dt : Nat), s.live = true ∧ s.role = .spring ∧ s.aon.tenureOpen = true ∧ s.aon.ledger.length + s.ledInTransit < 16 ∧ (if s.time.todValid then s.aon.lastTod / s.get F.REC_LEDGER_CFG.INT ≠ (State.advance dt s).todSec / s.get F.REC_LEDGER_CFG.INT else s.aon.lastLedger + s.get F.REC_LEDGER_CFG.INT * 1000000000 ≤ (State.advance dt s).time.ext)) ∧
    (∃ (s : State), s.live = true ∧ s.role = .spring) :=
  ⟨⟨{ enrolled0 with spr := { enrolled0.spr with hdr := some hdr0 }, aon := { enrolled0.aon with ledger := [led0] } }, 5, 0, [], hdr0, (by decide +kernel), (by decide +kernel), (by decide +kernel), (by decide +kernel), (by decide +kernel)⟩,
   ⟨{ enrolled0 with spr := { enrolled0.spr with hdr := some hdr0 }, recd := { enrolled0.recd with staging := [evRec0] } }, 5, 0, [], hdr0, (by decide +kernel), (by decide +kernel), (by decide +kernel), (by decide +kernel), (by decide +kernel), (by decide +kernel)⟩,
   ⟨linked0, 5, 1, (mheard ({ mgmt0 0x21 257 (evBytes evRec0) with mseq := 5 })), { mgmt0 0x21 257 (evBytes evRec0) with mseq := 5 }, (evOf (evBytes evRec0)), (by unfold State.Hears State.HearsFrame; decide +kernel), (inOrder_of (by decide +kernel)), (by decide +kernel), (by decide +kernel), (by decide +kernel), (by decide +kernel), (by decide +kernel), (by decide +kernel), (by decide +kernel), (by decide +kernel)⟩,
   ⟨linked0, 5, 1, (mheard ({ mgmt0 0x21 258 (ledgerFull led0) with mseq := 5 })), { mgmt0 0x21 258 (ledgerFull led0) with mseq := 5 }, (ledgerOf (ledgerFull led0)), (by unfold State.Hears State.HearsFrame; decide +kernel), (inOrder_of (by decide +kernel)), (by decide +kernel), (by decide +kernel), (by decide +kernel), (by decide +kernel), (by decide +kernel)⟩,
   ⟨(nor0 { fields State.reset [(F.REC_SEQ.VALUE, 3)] with recd := { State.reset.recd with staging := [{ evRec0 with commit := 0xFF }] } }), 5, 0, { evRec0 with commit := 0xFF }, (by decide +kernel), (by decide +kernel), (by decide +kernel), (by decide +kernel), (by decide +kernel), (by decide +kernel), (by decide +kernel), (by decide +kernel), (by decide +kernel), (by decide +kernel), (by decide +kernel)⟩,
   ⟨{ State.reset with recd := { State.reset.recd with attrs := [⟨7, 1, false, 2, 3⟩], buckets := [⟨7, 3000000000, 0, 4, 9⟩] } }, 5, 7, (by decide +kernel), (by decide +kernel), (by decide +kernel), (by decide +kernel)⟩,
   ⟨{ State.reset with recd := { State.reset.recd with frozen := true } }, 500000000000000, (by decide +kernel), (by decide +kernel), (by decide +kernel), (by decide +kernel)⟩,
   ⟨{ spring0 with aon := { spring0.aon with tenureOpen := true } }, 500000000000000, (by decide +kernel), (by decide +kernel), (by decide +kernel), (by decide +kernel), (by decide +kernel)⟩,
   ⟨{ spring0 with aon := { spring0.aon with eIn := 0x500000003 } }, (by decide +kernel), (by decide +kernel)⟩⟩

/-- States that meet the hypotheses of NorCommands, clause by clause. -/
theorem meets_NorCommands :
    (∃ (s : State), s.live = true ∧ s.role = .basin ∧ s.cfgLocked = false ∧ s.station ≤ 1 ∧ s.norUsable = true ∧ s.recHeld = false ∧ s.nor.sag = false) ∧
    (∃ (s : State), s.live = true ∧ s.role = .basin ∧ s.cfgLocked = false ∧ s.station ≤ 1 ∧ s.norUsable = true ∧ (s.recHeld = true ∨ s.nor.sag = true)) ∧
    (∃ (s : State), s.live = true ∧ s.role = .basin ∧ s.cfgLocked = false ∧ s.station ≤ 1 ∧ s.nor.noNor = false ∧ s.nor.sag = false) ∧
    (∃ (s : State), s.live = true ∧ s.role = .basin ∧ s.cfgLocked = false ∧ s.station ≤ 1 ∧ s.nor.noNor = false ∧ s.nor.sag = true) ∧
    (∃ (s : State), s.live = true ∧ s.role = .basin ∧ s.cfgLocked = true) ∧
    (∃ (s : State), s.live = true ∧ s.role = .basin ∧ s.cfgLocked = false ∧ 1 < s.station) ∧
    (∃ (s : State) (_dt : Nat) (_lb : Nat) (_k : Nat) (_cause : Fin 3), s.live = true ∧ s.role = .basin ∧ s.norUsable = true ∧ s.nor.sag = true) ∧
    (∃ (s : State) (_dt : Nat) (lb : Nat) (_k : Nat) (_cause : Fin 3), s.live = true ∧ s.role = .basin ∧ s.norUsable = true ∧ s.nor.sag = false ∧ areaOf s.nor lb ≠ 0 ∧ s.nor.used < s.nor.reserve) ∧
    (∃ (s : State) (_dt : Nat) (lb : Nat) (_k : Nat) (_cause : Fin 3), s.live = true ∧ s.role = .basin ∧ s.norUsable = true ∧ s.nor.sag = false ∧ areaOf s.nor lb = 6 ∧ s.nor.reserve ≤ s.nor.used ∧ s.nor.stopped = none) ∧
    (∃ (s : State) (_dt : Nat), s.live = true ∧ s.nor.sag = false) ∧
    (∃ (s : State) (_dt : Nat), s.live = true ∧ s.nor.sag = true) ∧
    (∃ (s : State) (_dt : Nat), s.live = true ∧ s.nor.sag = true) :=
  ⟨⟨(nor0 (fields State.reset [(F.SAFE_STAT.UNLOCKED, 1)])), (by decide +kernel), (by decide +kernel), (by decide +kernel), (by decide +kernel), (by decide +kernel), (by decide +kernel), (by decide +kernel)⟩,
   ⟨((fun s => { s with nor := { s.nor with sag := true } }) (nor0 (fields State.reset [(F.SAFE_STAT.UNLOCKED, 1)]))), (by decide +kernel), (by decide +kernel), (by decide +kernel), (by decide +kernel), (by decide +kernel), (by decide +kernel)⟩,
   ⟨(nor0 (fields State.reset [(F.SAFE_STAT.UNLOCKED, 1)])), (by decide +kernel), (by decide +kernel), (by decide +kernel), (by decide +kernel), (by decide +kernel), (by decide +kernel)⟩,
   ⟨((fun s => { s with nor := { s.nor with sag := true } }) (nor0 (fields State.reset [(F.SAFE_STAT.UNLOCKED, 1)]))), (by decide +kernel), (by decide +kernel), (by decide +kernel), (by decide +kernel), (by decide +kernel), (by decide +kernel)⟩,
   ⟨(nor0 State.reset), (by decide +kernel), (by decide +kernel), (by decide +kernel)⟩,
   ⟨(nor0 (fields State.reset [(F.SAFE_STAT.UNLOCKED, 1), (F.CTL_STATUS.STATE, 3)])), (by decide +kernel), (by decide +kernel), (by decide +kernel), (by decide +kernel)⟩,
   ⟨((fun s => { s with nor := { s.nor with sag := true } }) (nor0 State.reset)), 5, 20, 1, 0, (by decide +kernel), (by decide +kernel), (by decide +kernel), (by decide +kernel)⟩,
   ⟨((fun s => { s with nor := { s.nor with total := 1024, reserve := 16, ptGen := 3 } }) (nor0 State.reset)), 5, 20, 1, 0, (by decide +kernel), (by decide +kernel), (by decide +kernel), (by decide +kernel), (by decide +kernel), (by decide +kernel)⟩,
   ⟨((fun s => { s with nor := { s.nor with total := 1024 } }) (nor0 State.reset)), 5, 200, 1, 0, (by decide +kernel), (by decide +kernel), (by decide +kernel), (by decide +kernel), (by decide +kernel), (by decide +kernel), (by decide +kernel)⟩,
   ⟨State.reset, 5, (by decide +kernel), (by decide +kernel)⟩,
   ⟨{ spring0 with nor := { spring0.nor with sag := true } }, 5, (by decide +kernel), (by decide +kernel)⟩,
   ⟨{ State.reset with nor := { State.reset.nor with sag := true } }, 5, (by decide +kernel), (by decide +kernel)⟩⟩

/-- States that meet the hypotheses of BasinPair, clause by clause. -/
theorem meets_BasinPair :
    (∃ (s : State) (_dt : Nat) (port : Fin 12) (bs : List Block) (m : Mgmt) (h : Health), s.Hears port bs m ∧ s.role = .basin ∧ m.op = 0x22 ∧ m.payload.length = 64 ∧ healthOf m.payload = h ∧ m.src = s.otherId ∧ (s.get F.RED_CLAIM.ROLE ≠ 0 ∨ h.role ≠ 0)) ∧
    (∃ (s : State) (dt : Nat), s.live = true ∧ s.role = .basin ∧ s.get F.RED_CTRL.HEALTH_EN = 1 ∧ s.get F.RED_CLAIM.ROLE ≠ 3 ∧ (s.get F.RED_CLAIM.ROLE = 0 → s.paired = true) ∧ s.upPorts ≠ [] ∧ (∀ a, s.red.healthTx = some a → a + (if s.get F.RED_CLAIM.ROLE = 0 then 500000 else 50000000) ≤ s.time.cyc + dt)) ∧
    (∃ (s : State) (dt : Nat) (a : Nat), s.live = true ∧ s.role = .basin ∧ s.red.healthAt = some a ∧ s.get F.RED_PEER.PEER_OK = 1 ∧ a + 150000000 ≤ s.time.cyc + dt) ∧
    (∃ (s : State) (dt : Nat) (a : Nat), s.live = true ∧ s.role = .basin ∧ s.red.electAt = some a ∧ s.get F.RED_CLAIM.ROLE = 0 ∧ s.pwr.step8 = true ∧ s.paired = true ∧ a + 500000 * s.get F.RED_HB_CFG.ELECT_TMO ≤ s.time.cyc + dt) ∧
    (∃ (s : State) (dt : Nat) (port : Fin 12) (bs : List Block) (f : TickFrame), s.HearsFrame port bs ftTICK ∧ s.role = .basin ∧ hdrOk (hear bs).bytes = true ∧ f = tickOf (hear bs).bytes ∧ f.chain < 12 ∧ f.hdr.side ≠ s.side ∧ s.get F.RED_CLAIM.ROLE = 2 ∧ s.claimOk f.hdr = true ∧ s.tickNow ≠ 0 ∧ s.red.hbGot = false ∧ f.hdr.tick = tickSucc s.tickNow ∧ (State.advance dt s).time.ext ≤ s.ctl.bound + 10 * s.get F.RED_HB_CFG.WAIT) ∧
    (∃ (s : State) (_dt : Nat) (port : Fin 12) (bs : List Block) (f : TickFrame), s.HearsFrame port bs ftTICK ∧ s.role = .basin ∧ hdrOk (hear bs).bytes = true ∧ f = tickOf (hear bs).bytes ∧ f.chain < 12 ∧ f.hdr.side ≠ s.side ∧ s.get F.RED_CLAIM.ROLE = 1 ∧ keyHigher f.hdr.claim f.hdr.side (s.get F.RED_CLAIM.CLAIM) s.side = true) ∧
    (∃ (s : State) (_dt : Nat) (port : Fin 12) (bs : List Block) (f : TickFrame), s.HearsFrame port bs ftTICK ∧ s.role = .basin ∧ hdrOk (hear bs).bytes = true ∧ f = tickOf (hear bs).bytes ∧ f.chain < 12 ∧ f.hdr.side ≠ s.side ∧ s.get F.RED_CLAIM.ROLE = 1 ∧ keyHigher f.hdr.claim f.hdr.side (s.get F.RED_CLAIM.CLAIM) s.side = false) ∧
    (∃ (s : State) (_dt : Nat) (port : Fin 12) (bs : List Block) (f : TickFrame), s.HearsFrame port bs ftTICK ∧ s.role = .basin ∧ hdrOk (hear bs).bytes = true ∧ f = tickOf (hear bs).bytes ∧ f.chain < 12 ∧ f.hdr.side ≠ s.side ∧ s.get F.RED_CLAIM.ROLE = 0 ∧ s.pwr.step8 = true ∧ s.paired = true) ∧
    (∃ (s : State) (dt : Nat), s.live = true ∧ s.role = .basin ∧ s.get F.RED_CLAIM.ROLE = 2 ∧ s.red.hbEver = true ∧ s.red.hbGot = false ∧ s.tickNow ≠ 0 ∧ s.ctl.bound + 10 * s.get F.RED_HB_CFG.WAIT ≤ (State.advance dt s).time.ext ∧ s.get F.RED_HB_STAT.MISS ≠ 2) ∧
    (∃ (s : State) (dt : Nat), s.live = true ∧ s.role = .basin ∧ s.get F.RED_CLAIM.ROLE = 2 ∧ s.red.hbEver = true ∧ s.red.hbGot = false ∧ s.tickNow ≠ 0 ∧ s.ctl.bound + 10 * s.get F.RED_HB_CFG.WAIT ≤ (State.advance dt s).time.ext ∧ s.get F.RED_HB_STAT.MISS = 2 ∧ s.upPorts ≠ [] ∧ s.get F.RED_CTRL.AUTO = 1 ∧ s.mayTake = true) ∧
    (∃ (s : State), s.live = true ∧ s.role = .basin ∧ s.get F.RED_CLAIM.ROLE = 2 ∧ s.mayTake = true) ∧
    (∃ (s : State), s.live = true ∧ s.role = .basin ∧ s.get F.RED_CLAIM.ROLE = 2 ∧ s.mayTake = false) :=
  ⟨⟨linked0, 5, 1, (mheard ({ mgmt0 0x22 0 (healthBytes health0) with src := 0xC1 })), { mgmt0 0x22 0 (healthBytes health0) with src := 0xC1 }, health0, (by unfold State.Hears State.HearsFrame; decide +kernel), (by decide +kernel), (by decide +kernel), (by decide +kernel), (by decide +kernel), (by decide +kernel), (by decide +kernel)⟩,
   ⟨(lit (fields gathering0 [(F.RED_CTRL.HEALTH_EN, 1)])), 500, (by decide +kernel), (by decide +kernel), (by decide +kernel), (by decide +kernel), (by decide +kernel), (by decide +kernel), (of_some (by decide +kernel))⟩,
   ⟨{ fields active0 [(F.RED_PEER.PEER_OK, 1)] with red := { active0.red with healthAt := some 3 } }, 200000000, 3, (by decide +kernel), (by decide +kernel), (by decide +kernel), (by decide +kernel), (by decide +kernel)⟩,
   ⟨{ pair0 with red := { pair0.red with electAt := some 3 }, pwr := { pair0.pwr with step8 := true } }, 500000000000, 3, (by decide +kernel), (by decide +kernel), (by decide +kernel), (by decide +kernel), (by decide +kernel), (by decide +kernel), (by decide +kernel)⟩,
   ⟨stand0, 5, 1, (heard (.tick { frame0 with hdr := { hdr0 with side := .b, tick := 6 } })), (tickOf (hear (heard (.tick { frame0 with hdr := { hdr0 with side := .b, tick := 6 } }))).bytes), (by unfold State.HearsFrame; decide +kernel), (by decide +kernel), (by decide +kernel), (rfl), (by decide +kernel), (by decide +kernel), (by decide +kernel), (by decide +kernel), (by decide +kernel), (by decide +kernel), (by decide +kernel), (by decide +kernel)⟩,
   ⟨gathering0, 5, 1, (heard (.tick { frame0 with hdr := { hdr0 with side := .b, claim := 2 } })), (tickOf (hear (heard (.tick { frame0 with hdr := { hdr0 with side := .b, claim := 2 } }))).bytes), (by unfold State.HearsFrame; decide +kernel), (by decide +kernel), (by decide +kernel), (rfl), (by decide +kernel), (by decide +kernel), (by decide +kernel), (by decide +kernel)⟩,
   ⟨gathering0, 5, 1, (heard (.tick { frame0 with hdr := { hdr0 with side := .b, claim := 65535 } })), (tickOf (hear (heard (.tick { frame0 with hdr := { hdr0 with side := .b, claim := 65535 } }))).bytes), (by unfold State.HearsFrame; decide +kernel), (by decide +kernel), (by decide +kernel), (rfl), (by decide +kernel), (by decide +kernel), (by decide +kernel), (by decide +kernel)⟩,
   ⟨{ fields pair0 [(F.LNK_PSTAT.STATE 1, 2)] with pwr := { pair0.pwr with step8 := true } }, 5, 1, (heard (.tick { frame0 with hdr := { hdr0 with side := .b, claim := 65535 } })), (tickOf (hear (heard (.tick { frame0 with hdr := { hdr0 with side := .b, claim := 65535 } }))).bytes), (by unfold State.HearsFrame; decide +kernel), (by decide +kernel), (by decide +kernel), (rfl), (by decide +kernel), (by decide +kernel), (by decide +kernel), (by decide +kernel), (by decide +kernel)⟩,
   ⟨{ stand0 with red := { stand0.red with hbEver := true } }, 500000000, (by decide +kernel), (by decide +kernel), (by decide +kernel), (by decide +kernel), (by decide +kernel), (by decide +kernel), (by decide +kernel), (by decide +kernel)⟩,
   ⟨{ fields stand0 [(F.CLK_PLLS_STAT.ON_SAFE, 0), (F.RED_HB_STAT.MISS, 2), (F.RED_CTRL.AUTO, 1)] with red := { stand0.red with hbEver := true, fit := 1, seenClaim := 65535 } }, 500000000, (by decide +kernel), (by decide +kernel), (by decide +kernel), (by decide +kernel), (by decide +kernel), (by decide +kernel), (by decide +kernel), (by decide +kernel), (by decide +kernel), (by decide +kernel), (by decide +kernel)⟩,
   ⟨{ fields stand0 [(F.CLK_PLLS_STAT.ON_SAFE, 0)] with red := { stand0.red with fit := 1 } }, (by decide +kernel), (by decide +kernel), (by decide +kernel), (by decide +kernel)⟩,
   ⟨stand0, (by decide +kernel), (by decide +kernel), (by decide +kernel), (by decide +kernel)⟩⟩

/-- States that meet the hypotheses of SparesAndVotes, clause by clause. -/
theorem meets_SparesAndVotes :
    (∃ (s : State) (dt : Nat) (c : Nat) (a : Nat) (g : Fin 14), s.live = true ∧ (s.vote g).diss = some (c, a) ∧ s.hasGroup g = true ∧ s.exclOf g = 0 ∧ a + 50000000 ≤ s.time.cyc + dt ∧ g.val < s.red.votes.length) ∧
    (∃ (s : State) (dt : Nat) (g : Fin 15), s.live = true ∧ g.val < 14 ∧ s.exclOf g ≠ 0 ∧ (s.vote g).warned = false ∧ g.val < s.red.votes.length ∧ (s.vote g).exclAt + s.get F.RED_VOTE_CFG.DEGRADED_MAX * hourCyc ≤ s.time.cyc + dt + hourCyc) ∧
    (∃ (s : State) (dt : Nat) (g : Fin 15), s.live = true ∧ g.val < 14 ∧ s.exclOf g ≠ 0 ∧ s.get (F.RED_VOTE.EXPIRED g) = 0 ∧ (s.vote g).exclAt + s.get F.RED_VOTE_CFG.DEGRADED_MAX * hourCyc ≤ s.time.cyc + dt) ∧
    (∃ (s : State) (dt : Nat) (a : Nat), s.live = true ∧ s.safe.degFrom = some a ∧ s.safe.degWarned = false ∧ a + s.get F.RED_VOTE_CFG.DEGRADED_MAX * hourCyc ≤ s.time.cyc + dt + hourCyc) ∧
    (∃ (s : State) (dt : Nat) (a : Nat), s.live = true ∧ s.safe.degFrom = some a ∧ s.safe.degExpired = false ∧ a + s.get F.RED_VOTE_CFG.DEGRADED_MAX * hourCyc ≤ s.time.cyc + dt) ∧
    (∃ (s : State) (dt : Nat) (g : Fin 14) (a : _), s.live = true ∧ g.val < s.red.votes.length ∧ (s.vote g).agree = some a ∧ s.exclOf g ≠ 0 ∧ a + 500000000 ≤ s.time.cyc + dt) ∧
    (∃ (s : State) (dt : Nat) (g : Fin 14), s.live = true ∧ g.val < s.red.votes.length ∧ (∀ a, (s.vote g).agree = some a → s.exclOf g = 0 ∨ s.time.cyc + dt < a + 500000000)) ∧
    (∃ (s : State) (dt : Nat) (g : Fin 14), s.live = true ∧ g.val < s.red.votes.length ∧ (∀ a, (s.vote g).agree = some a → s.exclOf g = 0 ∨ s.time.cyc + dt < a + 500000000)) ∧
    (∃ (s : State) (_dt : Nat) (row : Nat) (n : Nat) (bank : Fin 6), s.live = true ∧ ((s.red.rows.find? (fun x => x.1 == bank.val * 65536 + row)).map (fun x => x.2)).getD 0 = n) ∧
    (∃ (s : State) (_dt : Nat) (row : Nat) (n : Nat) (bank : Fin 6), s.live = true ∧ ((s.red.rows.find? (fun x => x.1 == bank.val * 65536 + row)).map (fun x => x.2)).getD 0 = n) ∧
    (∃ (s : State) (_dt : Nat) (_row : Nat) (_bank : Fin 6), s.live = true ∧ s.role = .basin) ∧
    (∃ (s : State) (_dt : Nat) (_row : Nat) (_bank : Fin 6), s.live = true ∧ s.role = .spring) ∧
    (∃ (s : State) (dt : Nat) (_tested : Nat) (_failing : Nat) (_bad : Option Nat), s.live = true ∧ s.role = .basin ∧ s.get F.RED_CLAIM.ROLE = 2 ∧ s.get F.RED_BIST_CFG.EN = 1 ∧ s.red.bistAt + 500000 * s.get F.RED_BIST_CFG.INT ≤ s.time.cyc + dt) ∧
    (∃ (s : State) (dt : Nat) (_tested : Nat) (_failing : Nat) (_bad : Option Nat), s.live = true ∧ s.role = .basin ∧ s.get F.RED_CLAIM.ROLE = 2 ∧ s.get F.RED_BIST_CFG.EN = 1 ∧ s.red.bistAt + 500000 * s.get F.RED_BIST_CFG.INT ≤ s.time.cyc + dt) ∧
    (∃ (s : State) (_dt : Nat) (feed : Fin 2), s.live = true ∧ s.get (vaonBit feed) = 1) ∧
    (∃ (s : State) (_dt : Nat) (feed : Fin 2), s.live = true ∧ s.get (vaonBit feed) = 0) :=
  ⟨⟨{ State.reset with red := { State.reset.red with votes := State.reset.red.votes.set 3 { diss := some (1, 5) } } }, 60000000, 1, 5, 3, (by decide +kernel), (by decide +kernel), (by decide +kernel), (by decide +kernel), (by decide +kernel), (by decide +kernel)⟩,
   ⟨(fields State.reset [(F.RED_VOTE.EXCL 3, 2)]), 2000000000000000, 3, (by decide +kernel), (by decide +kernel), (by decide +kernel), (by decide +kernel), (by decide +kernel), (by decide +kernel)⟩,
   ⟨(fields State.reset [(F.RED_VOTE.EXCL 3, 2)]), 2000000000000000, 3, (by decide +kernel), (by decide +kernel), (by decide +kernel), (by decide +kernel), (by decide +kernel)⟩,
   ⟨{ active0 with safe := { active0.safe with degFrom := some 5 } }, 2000000000000000, 5, (by decide +kernel), (by decide +kernel), (by decide +kernel), (by decide +kernel)⟩,
   ⟨{ active0 with safe := { active0.safe with degFrom := some 5 } }, 2000000000000000, 5, (by decide +kernel), (by decide +kernel), (by decide +kernel), (by decide +kernel)⟩,
   ⟨{ fields State.reset [(F.RED_VOTE.EXCL 3, 2), (F.RED_VOTE.EXPIRED 3, 1)] with red := { State.reset.red with votes := State.reset.red.votes.set 3 { agree := some 5 } } }, 600000000, 3, 5, (by decide +kernel), (by decide +kernel), (by decide +kernel), (by decide +kernel), (by decide +kernel)⟩,
   ⟨(fields State.reset [(F.RED_VOTE.EXCL 3, 2)]), 600000000, 3, (by decide +kernel), (by decide +kernel), (of_some (by decide +kernel))⟩,
   ⟨{ fields State.reset [(F.RED_VOTE.EXCL 3, 2)] with red := { State.reset.red with votes := State.reset.red.votes.set 3 { agree := some 500 } } }, 600, 3, (by decide +kernel), (by decide +kernel), (of_some (by decide +kernel))⟩,
   ⟨State.reset, 5, 100, 0, 2, (by decide +kernel), (by decide +kernel)⟩,
   ⟨{ State.reset with red := { State.reset.red with rows := [(131172, 3)] } }, 5, 100, 3, 2, (by decide +kernel), (by decide +kernel)⟩,
   ⟨active0, 5, 100, 2, (by decide +kernel), (by decide +kernel)⟩,
   ⟨running0, 5, 100, 2, (by decide +kernel), (by decide +kernel)⟩,
   ⟨(fields active0 [(F.RED_CLAIM.ROLE, 2), (F.RED_BIST_CFG.EN, 1)]), 60000000000000, 3, 0, none, (by decide +kernel), (by decide +kernel), (by decide +kernel), (by decide +kernel), (by decide +kernel)⟩,
   ⟨{ fields active0 [(F.RED_CLAIM.ROLE, 2), (F.RED_BIST_CFG.EN, 1)] with red := { active0.red with bist := 1535 } }, 60000000000000, 3, 1, (some 4), (by decide +kernel), (by decide +kernel), (by decide +kernel), (by decide +kernel), (by decide +kernel)⟩,
   ⟨(fields active0 [(F.RED_VAON.A_OK, 1)]), 5, 0, (by decide +kernel), (by decide +kernel)⟩,
   ⟨(fields active0 [(F.RED_VAON.B_OK, 0)]), 5, 1, (by decide +kernel), (by decide +kernel)⟩⟩

/-- States that meet the hypotheses of Contactors, clause by clause. -/
theorem meets_Contactors :
    (∃ (s : State) (c : DueCmd) (x : Slot), s.live = true ∧ s.role = .spring ∧ s.spr.cmd = some c ∧ (c.src ≤ 15 ∨ c.src = 0xFE) ∧ c.op = 2 ∧ s.blocked = false ∧ s.spr.slot = some x ∧ x.mode = 2 ∧ x.level = 0 ∧ s.get F.CMN_RESET.SAFE_HOLD = 0 ∧ s.gate.bypCmd = false ∧ (∀ n < 2, s.isTripped n = false ∧ s.isLatched n = false ∧ (s.hb n).hi.rdy = true ∧ (s.hb n).lo.rdy = true)) ∧
    (∃ (s : State) (c : DueCmd) (x : Slot), s.live = true ∧ s.role = .spring ∧ s.spr.cmd = some c ∧ (c.src ≤ 15 ∨ c.src = 0xFE) ∧ c.op = 2 ∧ (s.blocked = true ∨ s.spr.slot = none ∨ s.get F.CMN_RESET.SAFE_HOLD = 1 ∨ (s.spr.slot = some x ∧ (x.mode ≠ 2 ∨ x.level ≠ 0)))) ∧
    (∃ (s : State) (c : DueCmd) (x : Slot), s.live = true ∧ s.role = .spring ∧ s.spr.cmd = some c ∧ (c.src ≤ 15 ∨ c.src = 0xFE) ∧ c.op = 2 ∧ (s.blocked = true ∨ s.spr.slot = none ∨ s.get F.CMN_RESET.SAFE_HOLD = 1 ∨ (s.spr.slot = some x ∧ (x.mode ≠ 2 ∨ x.level ≠ 0)))) ∧
    (∃ (s : State) (c : DueCmd) (x : Slot), s.live = true ∧ s.role = .spring ∧ s.spr.cmd = some c ∧ (c.src ≤ 15 ∨ c.src = 0xFE) ∧ c.op = 2 ∧ (s.blocked = true ∨ s.spr.slot = none ∨ s.get F.CMN_RESET.SAFE_HOLD = 1 ∨ (s.spr.slot = some x ∧ (x.mode ≠ 2 ∨ x.level ≠ 0)))) ∧
    (∃ (s : State) (c : DueCmd) (x : Slot), s.live = true ∧ s.role = .spring ∧ s.spr.cmd = some c ∧ (c.src ≤ 15 ∨ c.src = 0xFE) ∧ c.op = 2 ∧ s.blocked = false ∧ s.spr.slot = some x ∧ x.mode = 2 ∧ x.level = 0 ∧ s.get F.CMN_RESET.SAFE_HOLD = 0 ∧ (∃ n < 2, s.isTripped n = true ∨ s.isLatched n = true ∨ (s.hb n).hi.rdy = false ∨ (s.hb n).lo.rdy = false)) ∧
    (∃ (s : State) (c : DueCmd) (_x : Slot), s.live = true ∧ s.role = .spring ∧ s.spr.cmd = some c ∧ (c.src ≤ 15 ∨ c.src = 0xFE) ∧ c.op = 3 ∧ s.gate.bypCmd = false) ∧
    (∃ (s : State) (c : DueCmd) (_x : Slot), s.live = true ∧ s.role = .spring ∧ s.spr.cmd = some c ∧ (c.src ≤ 15 ∨ c.src = 0xFE) ∧ c.op = 5 ∧ s.gate.packCmd = false ∧ s.iPack.natAbs ≤ 2 * s.get F.CELL_PACK_LIM.PACK_I_OPEN) ∧
    (∃ (s : State) (c : DueCmd) (_x : Slot), s.live = true ∧ s.role = .spring ∧ s.spr.cmd = some c ∧ (c.src ≤ 15 ∨ c.src = 0xFE) ∧ c.op = 3 ∧ s.gate.bypCmd = true) ∧
    (∃ (s : State) (c : DueCmd) (_x : Slot), s.live = true ∧ s.role = .spring ∧ s.spr.cmd = some c ∧ (c.src ≤ 15 ∨ c.src = 0xFE) ∧ c.op = 3 ∧ s.gate.bypCmd = true) ∧
    (∃ (s : State) (c : DueCmd) (_x : Slot), s.live = true ∧ s.role = .spring ∧ s.spr.cmd = some c ∧ (c.src ≤ 15 ∨ c.src = 0xFE) ∧ c.op = 4 ∧ s.blocked = false ∧ s.bmsAge ≠ 0xFFFF ∧ (s.vDc - 2 * s.vPackBms).natAbs ≤ 2 * s.get F.CELL_PACK_LIM.PACK_DV) ∧
    (∃ (s : State) (c : DueCmd) (_x : Slot), s.live = true ∧ s.role = .spring ∧ s.spr.cmd = some c ∧ (c.src ≤ 15 ∨ c.src = 0xFE) ∧ c.op = 4 ∧ s.blocked = false ∧ s.bmsAge ≠ 0xFFFF ∧ (s.vDc - 2 * s.vPackBms).natAbs ≤ 2 * s.get F.CELL_PACK_LIM.PACK_DV) ∧
    (∃ (s : State) (c : DueCmd) (_x : Slot), s.live = true ∧ s.role = .spring ∧ s.spr.cmd = some c ∧ (c.src ≤ 15 ∨ c.src = 0xFE) ∧ c.op = 4 ∧ (s.blocked = true ∨ s.bmsAge = 0xFFFF ∨ 2 * s.get F.CELL_PACK_LIM.PACK_DV < (s.vDc - 2 * s.vPackBms).natAbs)) ∧
    (∃ (s : State) (c : DueCmd) (_x : Slot), s.live = true ∧ s.role = .spring ∧ s.spr.cmd = some c ∧ (c.src ≤ 15 ∨ c.src = 0xFE) ∧ c.op = 4 ∧ (s.blocked = true ∨ s.bmsAge = 0xFFFF ∨ 2 * s.get F.CELL_PACK_LIM.PACK_DV < (s.vDc - 2 * s.vPackBms).natAbs)) ∧
    (∃ (s : State) (c : DueCmd) (_x : Slot), s.live = true ∧ s.role = .spring ∧ s.spr.cmd = some c ∧ (c.src ≤ 15 ∨ c.src = 0xFE) ∧ c.op = 4 ∧ (s.blocked = true ∨ s.bmsAge = 0xFFFF ∨ 2 * s.get F.CELL_PACK_LIM.PACK_DV < (s.vDc - 2 * s.vPackBms).natAbs)) ∧
    (∃ (s : State) (c : DueCmd) (_x : Slot), s.live = true ∧ s.role = .spring ∧ s.spr.cmd = some c ∧ (c.src ≤ 15 ∨ c.src = 0xFE) ∧ c.op = 5 ∧ s.gate.packCmd = true ∧ (2 * s.get F.CELL_PACK_LIM.PACK_I_OPEN < s.iPack.natAbs → bitOf (c.param.headD 0) 0 = true)) ∧
    (∃ (s : State) (c : DueCmd) (_x : Slot), s.live = true ∧ s.role = .spring ∧ s.spr.cmd = some c ∧ (c.src ≤ 15 ∨ c.src = 0xFE) ∧ c.op = 5 ∧ 2 * s.get F.CELL_PACK_LIM.PACK_I_OPEN < s.iPack.natAbs ∧ bitOf (c.param.headD 0) 0 = false) ∧
    (∃ (s : State) (_dt : Nat) (_level : Bool), s.live = true ∧ s.role = .spring) ∧
    (∃ (s : State) (_dt : Nat) (_level : Bool), s.live = true ∧ s.role = .spring) ∧
    (∃ (s : State) (_dt : Nat) (_level : Bool), s.live = true ∧ s.role = .spring) ∧
    (∃ (s : State) (dt : Nat) (a : Nat), s.live = true ∧ s.role = .spring ∧ s.gate.bypOpening = some a ∧ s.gate.bypCmd = true ∧ a + 500000 * s.get F.CELL_TMO.BYP_OPEN_TMO ≤ s.time.cyc + dt) ∧
    (∃ (s : State) (dt : Nat) (a : Nat), s.live = true ∧ s.role = .spring ∧ s.gate.bypClosing = some a ∧ a + 500000 * s.get F.CELL_TMO.BYP_CLOSE_TMO ≤ s.time.cyc + dt ∧ s.actBypOk = true) ∧
    (∃ (s : State) (dt : Nat) (a : Nat), s.live = true ∧ s.role = .spring ∧ s.gate.bypClosing = some a ∧ a + 500000 * s.get F.CELL_TMO.BYP_CLOSE_TMO ≤ s.time.cyc + dt ∧ s.actBypOk = false ∧ s.blocked = false) ∧
    (∃ (s : State) (dt : Nat) (a : Nat), s.live = true ∧ s.role = .spring ∧ s.gate.bypClosing = some a ∧ a + 500000 * s.get F.CELL_TMO.BYP_CLOSE_TMO ≤ s.time.cyc + dt ∧ s.blocked = true ∧ s.get F.LNK_SPOS.ENROLLED = 1 ∧ s.get F.WEIR_SCFG.ARM_ID ≠ 0xF) ∧
    (∃ (s : State) (dt : Nat) (a : Nat) (k : _), s.live = true ∧ s.role = .spring ∧ s.gate.packOp = some (k, a) ∧ a + 500000 * s.get F.CELL_TMO.PACK_TMO ≤ s.time.cyc + dt) ∧
    (∃ (s : State) (dt : Nat) (a : Nat) (k : _), s.live = true ∧ s.role = .spring ∧ s.gate.packOp = some (k, a) ∧ a + 500000 * s.get F.CELL_TMO.PACK_TMO ≤ s.time.cyc + dt) :=
  ⟨⟨{ (due ready0 2 []) with spr := { (due ready0 2 []).spr with slot := some { slot0 with mode := 2 } } }, ⟨3, 2, [], 7⟩, { slot0 with mode := 2 }, (by decide +kernel), (by decide +kernel), (by decide +kernel), (by decide +kernel), (by decide +kernel), (by decide +kernel), (by decide +kernel), (by decide +kernel), (by decide +kernel), (by decide +kernel), (by decide +kernel), (by decide +kernel)⟩,
   ⟨((due spring0 2 []).set F.GATE_STATUS.BLOCK 1), ⟨3, 2, [], 7⟩, slot0, (by decide +kernel), (by decide +kernel), (by decide +kernel), (by decide +kernel), (by decide +kernel), (by decide +kernel)⟩,
   ⟨(due spring0 2 []), ⟨3, 2, [], 7⟩, slot0, (by decide +kernel), (by decide +kernel), (by decide +kernel), (by decide +kernel), (by decide +kernel), (by decide +kernel)⟩,
   ⟨{ (due ready0 2 []) with spr := { (due ready0 2 []).spr with slot := some { slot0 with mode := 2, level := 1 } } }, ⟨3, 2, [], 7⟩, { slot0 with mode := 2, level := 1 }, (by decide +kernel), (by decide +kernel), (by decide +kernel), (by decide +kernel), (by decide +kernel), (by decide +kernel)⟩,
   ⟨((fun s => { s.set F.GATE_STATUS.TRIPPED 2 with spr := { s.spr with slot := some { slot0 with mode := 2 } } }) (due ready0 2 [])), ⟨3, 2, [], 7⟩, { slot0 with mode := 2 }, (by decide +kernel), (by decide +kernel), (by decide +kernel), (by decide +kernel), (by decide +kernel), (by decide +kernel), (by decide +kernel), (by decide +kernel), (by decide +kernel), (by decide +kernel), (by decide +kernel)⟩,
   ⟨(due spring0 3 []), ⟨3, 3, [], 7⟩, slot0, (by decide +kernel), (by decide +kernel), (by decide +kernel), (by decide +kernel), (by decide +kernel)⟩,
   ⟨(due spring0 5 []), ⟨3, 5, [], 7⟩, slot0, (by decide +kernel), (by decide +kernel), (by decide +kernel), (by decide +kernel), (by decide +kernel)⟩,
   ⟨{ (due spring0 3 []) with gate := { spring0.gate with bypCmd := true, bypFb := false } }, ⟨3, 3, [], 7⟩, slot0, (by decide +kernel), (by decide +kernel), (by decide +kernel), (by decide +kernel), (by decide +kernel), (by decide +kernel)⟩,
   ⟨{ (due spring0 3 []) with gate := { spring0.gate with bypCmd := true, bypOpening := some 5 } }, ⟨3, 3, [], 7⟩, slot0, (by decide +kernel), (by decide +kernel), (by decide +kernel), (by decide +kernel), (by decide +kernel), (by decide +kernel)⟩,
   ⟨(packed (due spring0 4 []) 0), ⟨3, 4, [], 7⟩, slot0, (by decide +kernel), (by decide +kernel), (by decide +kernel), (by decide +kernel), (by decide +kernel), (by decide +kernel), (by decide +kernel), (by decide +kernel)⟩,
   ⟨((fun s => { s with gate := { s.gate with packCmd := true } }) (packed (due spring0 4 []) 0)), ⟨3, 4, [], 7⟩, slot0, (by decide +kernel), (by decide +kernel), (by decide +kernel), (by decide +kernel), (by decide +kernel), (by decide +kernel), (by decide +kernel), (by decide +kernel)⟩,
   ⟨(due spring0 4 []), ⟨3, 4, [], 7⟩, slot0, (by decide +kernel), (by decide +kernel), (by decide +kernel), (by decide +kernel), (by decide +kernel), (by decide +kernel)⟩,
   ⟨(packed ((due spring0 4 []).set F.GATE_STATUS.BLOCK 1) 0), ⟨3, 4, [], 7⟩, slot0, (by decide +kernel), (by decide +kernel), (by decide +kernel), (by decide +kernel), (by decide +kernel), (by decide +kernel)⟩,
   ⟨(packed (due spring0 4 []) 4000), ⟨3, 4, [], 7⟩, slot0, (by decide +kernel), (by decide +kernel), (by decide +kernel), (by decide +kernel), (by decide +kernel), (by decide +kernel)⟩,
   ⟨{ (due spring0 5 [0]) with gate := { spring0.gate with packCmd := true, packFb := true } }, ⟨3, 5, [0], 7⟩, slot0, (by decide +kernel), (by decide +kernel), (by decide +kernel), (by decide +kernel), (by decide +kernel), (by decide +kernel), (by decide +kernel)⟩,
   ⟨(fields (due spring0 5 [0]) [(F.ADC_MAP.SRC 4, 0), (F.ADC_MAP.OFST 4, 100), (F.CELL_PACK_LIM.PACK_I_OPEN, 10)]), ⟨3, 5, [0], 7⟩, slot0, (by decide +kernel), (by decide +kernel), (by decide +kernel), (by decide +kernel), (by decide +kernel), (by decide +kernel), (by decide +kernel)⟩,
   ⟨spring0, 3, false, (by decide +kernel), (by decide +kernel)⟩,
   ⟨{ spring0 with gate := { spring0.gate with bypFb := false, bypClosing := some 0, actByp := true } }, 500000, true, (by decide +kernel), (by decide +kernel)⟩,
   ⟨{ spring0 with gate := { spring0.gate with bypOpening := some 0, bypCmd := true } }, 500000, false, (by decide +kernel), (by decide +kernel)⟩,
   ⟨{ spring0 with gate := { spring0.gate with bypOpening := some 0, bypCmd := true } }, 7500000, 0, (by decide +kernel), (by decide +kernel), (by decide +kernel), (by decide +kernel), (by decide +kernel)⟩,
   ⟨{ spring0 with gate := { spring0.gate with bypClosing := some 0, bypFb := false } }, 7500000, 0, (by decide +kernel), (by decide +kernel), (by decide +kernel), (by decide +kernel), (by decide +kernel)⟩,
   ⟨((({ spring0 with gate := { spring0.gate with bypClosing := some 0, bypFb := false } }).set F.CELL_CTRL.ACT_BYP_EN 0)), 7500000, 0, (by decide +kernel), (by decide +kernel), (by decide +kernel), (by decide +kernel), (by decide +kernel), (by decide +kernel)⟩,
   ⟨((fields { spring0 with gate := { spring0.gate with bypClosing := some 0, bypFb := false } } [(F.GATE_STATUS.BLOCK, 1), (F.LNK_SPOS.ENROLLED, 1), (F.WEIR_SCFG.ARM_ID, 2)])), 7500000, 0, (by decide +kernel), (by decide +kernel), (by decide +kernel), (by decide +kernel), (by decide +kernel), (by decide +kernel), (by decide +kernel)⟩,
   ⟨{ spring0 with gate := { spring0.gate with packOp := some (0, 0), packCmd := true } }, 10000000, 0, 0, (by decide +kernel), (by decide +kernel), (by decide +kernel), (by decide +kernel)⟩,
   ⟨{ spring0 with gate := { spring0.gate with packOp := some (1, 0), packFb := true } }, 10000000, 0, 1, (by decide +kernel), (by decide +kernel), (by decide +kernel), (by decide +kernel)⟩⟩

/-- States that meet the hypotheses of TripsAndResumes, clause by clause. -/
theorem meets_TripsAndResumes :
    (∃ (s : State) (dt : Nat) (_desat : Nat) (n : Fin 6) (hi : Bool) (sub : Fin 8), s.live = true ∧ s.role = .spring ∧ s.gate.hbs.length = 6 ∧ s.hbEn n = true ∧ s.Untripped n ∧ s.gate.actByp = false ∧ (s.hb n).conducting (8 * (s.time.cyc + dt) + sub) = some hi ∧ ((s.hb n).ch hi).onAt + 80 * s.gate.blank.getD n (s.get (F.GATE_PROT.BLANK n)) ≤ 8 * (s.time.cyc + dt) + sub ∧ (∀ e ∈ s.gate.window.head?, e.at' + 400 < 8 * (s.time.cyc + dt) + sub)) ∧
    (∃ (s : State) (dt : Nat) (_desat : Nat) (n : Fin 6) (hi : Bool) (sub : Fin 8), s.live = true ∧ s.role = .spring ∧ s.gate.hbs.length = 6 ∧ s.hbEn n = true ∧ s.Untripped n ∧ s.gate.actByp = false ∧ (s.hb n).conducting (8 * (s.time.cyc + dt) + sub) = some hi ∧ ((s.hb n).ch hi).onAt + 80 * s.gate.blank.getD n (s.get (F.GATE_PROT.BLANK n)) ≤ 8 * (s.time.cyc + dt) + sub ∧ (∀ e ∈ s.gate.window.head?, e.at' + 400 < 8 * (s.time.cyc + dt) + sub)) ∧
    (∃ (s : State) (dt : Nat) (_desat : Nat) (n : Fin 6) (hi : Bool) (sub : Fin 8) (e : _) (w : _), s.live = true ∧ s.role = .spring ∧ s.gate.hbs.length = 6 ∧ s.hbEn n = true ∧ s.Untripped n ∧ s.gate.actByp = false ∧ (s.hb n).conducting (8 * (s.time.cyc + dt) + sub) = some hi ∧ ((s.hb n).ch hi).onAt + 80 * s.gate.blank.getD n (s.get (F.GATE_PROT.BLANK n)) ≤ 8 * (s.time.cyc + dt) + sub ∧ s.gate.window = e :: w ∧ 8 * (s.time.cyc + dt) + sub ≤ e.at' + 400 ∧ e.hb < 6) ∧
    (∃ (s : State) (_dt : Nat) (n : Fin 6) (_hi : Bool) (_sub : Fin 8), s.live = true ∧ s.role = .spring ∧ s.gate.hbs.length = 6 ∧ (s.hbEn n = false ∨ s.cmdSwitch n = false ∧ (s.hb n).soft = none)) ∧
    (∃ (s : State) (_dt : Nat) (n : Fin 6) (_hi : Bool) (_sub : Fin 8), s.live = true ∧ s.role = .spring ∧ s.gate.hbs.length = 6 ∧ (s.hbEn n = false ∨ s.cmdSwitch n = false ∧ (s.hb n).soft = none)) ∧
    (∃ (s : State) (dt : Nat) (n : Fin 6) (_hi : Bool) (sub : Fin 8), s.live = true ∧ s.role = .spring ∧ s.gate.hbs.length = 6 ∧ s.hbEn n = true ∧ s.cmdSwitch n = true ∧ s.Untripped n ∧ s.gate.actByp = false ∧ (∀ e ∈ s.gate.window.head?, e.at' + 400 < 8 * (s.time.cyc + dt) + sub) ∧ (s.hb n).hi.ssd = false ∧ (s.hb n).lo.ssd = false) ∧
    (∃ (s : State) (dt : Nat) (n : Fin 6) (_hi : Bool) (sub : Fin 8), s.live = true ∧ s.role = .spring ∧ s.gate.hbs.length = 6 ∧ s.hbEn n = true ∧ s.cmdSwitch n = true ∧ s.Untripped n ∧ s.gate.actByp = false ∧ (∀ e ∈ s.gate.window.head?, e.at' + 400 < 8 * (s.time.cyc + dt) + sub) ∧ (s.hb n).hi.ssd = false ∧ (s.hb n).lo.ssd = false) ∧
    (∃ (s : State) (_dt : Nat) (_n : Fin 6) (_hi : Bool) (_sub : Fin 8), s.live = true ∧ s.role = .spring ∧ s.gate.hbs.length = 6) ∧
    (∃ (s : State) (dt : Nat) (n : Fin 6) (_hi : Bool) (_sub : Fin 8), s.live = true ∧ s.role = .spring ∧ s.gate.hbs.length = 6 ∧ s.isTripped n = true ∧ s.isLatched n = false ∧ (s.hb n).cause = tripREADY ∧ (s.hb n).tripAt / 8 + 500000 * s.get F.GATE_FAULT_CFG.RDY_TMO < s.time.cyc + dt) ∧
    (∃ (s : State) (dt : Nat) (_desat : Nat) (n : Fin 6) (hi : Bool) (sub : Fin 8), s.live = true ∧ s.role = .spring ∧ (s.hbEn n = false ∨ (s.hb n).conducting (8 * (s.time.cyc + dt) + sub) ≠ some hi ∨ 8 * (s.time.cyc + dt) + sub < ((s.hb n).ch hi).onAt + 80 * s.gate.blank.getD n (s.get (F.GATE_PROT.BLANK n)))) ∧
    (∃ (s : State) (dt : Nat) (_desat : Nat) (n : Fin 6) (hi : Bool) (sub : Fin 8), s.live = true ∧ s.role = .spring ∧ (s.hbEn n = false ∨ (s.hb n).conducting (8 * (s.time.cyc + dt) + sub) ≠ some hi ∨ 8 * (s.time.cyc + dt) + sub < ((s.hb n).ch hi).onAt + 80 * s.gate.blank.getD n (s.get (F.GATE_PROT.BLANK n)))) ∧
    (∃ (s : State) (dt : Nat) (_desat : Nat) (n : Fin 6) (hi : Bool) (sub : Fin 8), s.live = true ∧ s.role = .spring ∧ (s.hbEn n = false ∨ (s.hb n).conducting (8 * (s.time.cyc + dt) + sub) ≠ some hi ∨ 8 * (s.time.cyc + dt) + sub < ((s.hb n).ch hi).onAt + 80 * s.gate.blank.getD n (s.get (F.GATE_PROT.BLANK n)))) ∧
    (∃ (s : State) (_dt : Nat) (n : Fin 6) (_sub : Fin 8), s.live = true ∧ s.role = .spring ∧ s.gate.hbs.length = 6 ∧ s.hbEn n = true ∧ s.isTripped n = true ∧ (s.hb n).soft = some 0 ∧ (s.hb n).hi.ssd = true) ∧
    (∃ (s : State) (_dt : Nat) (j : Fin 32) (v : Int) (_sub : Fin 8), s.live = true ∧ s.get (F.ADC_WIN.EN j) = 1 ∧ (s.get F.ADC_WIN_STAT.OUT).testBit j = false ∧ (16 * s.getI (F.ADC_WIN.HIGH j) < idealCode 0 v ∨ idealCode 0 v < 16 * s.getI (F.ADC_WIN.LOW j)) ∧ s.role = .basin) ∧
    (∃ (s : State) (_dt : Nat) (j : Fin 32) (v : Int) (_sub : Fin 8), s.live = true ∧ s.get (F.ADC_WIN.EN j) = 1 ∧ (s.get F.ADC_WIN_STAT.OUT).testBit j = false ∧ (16 * s.getI (F.ADC_WIN.HIGH j) < idealCode 0 v ∨ idealCode 0 v < 16 * s.getI (F.ADC_WIN.LOW j)) ∧ s.role = .basin) ∧
    (∃ (s : State) (_dt : Nat) (j : Fin 32) (v : Int) (_sub : Fin 8), s.live = true ∧ s.get (F.ADC_WIN.EN j) = 1 ∧ (s.get F.ADC_WIN_STAT.OUT).testBit j = false ∧ (16 * s.getI (F.ADC_WIN.HIGH j) < idealCode 0 v ∨ idealCode 0 v < 16 * s.getI (F.ADC_WIN.LOW j)) ∧ s.role = .spring) ∧
    (∃ (s : State) (_dt : Nat) (j : Fin 32) (v : Int) (_sub : Fin 8), s.live = true ∧ s.get (F.ADC_WIN.EN j) = 1 ∧ (s.get F.ADC_WIN_STAT.OUT).testBit j = false ∧ (16 * s.getI (F.ADC_WIN.HIGH j) < idealCode 0 v ∨ idealCode 0 v < 16 * s.getI (F.ADC_WIN.LOW j)) ∧ s.role = .spring) ∧
    (∃ (s : State) (_dt : Nat) (j : Fin 32) (v : Int) (_sub : Fin 8), s.live = true ∧ (s.get (F.ADC_WIN.EN j) = 0 ∨ (16 * s.getI (F.ADC_WIN.LOW j) ≤ idealCode 0 v ∧ idealCode 0 v ≤ 16 * s.getI (F.ADC_WIN.HIGH j)))) ∧
    (∃ (s : State) (_dt : Nat) (j : Fin 32) (v : Int) (_sub : Fin 8), s.live = true ∧ (s.get (F.ADC_WIN.EN j) = 0 ∨ (16 * s.getI (F.ADC_WIN.LOW j) ≤ idealCode 0 v ∧ idealCode 0 v ≤ 16 * s.getI (F.ADC_WIN.HIGH j)))) ∧
    (∃ (s : State) (dt : Nat) (e : TripEnt) (w : List TripEnt), s.live = true ∧ s.role = .spring ∧ s.gate.window = e :: w ∧ e.at' + 400 ≤ 8 * (s.time.cyc + dt)) ∧
    (∃ (s : State) (dt : Nat) (n : Fin 6), s.pwr.full = false ∧ n.val < s.gate.hbs.length ∧ (s.hb n).soft = some 0 ∧ (s.hb n).softAt + (if s.flag F.CLK_PLLS_STAT.ON_SAFE then 6000 else (s.hb n).softFor) < (State.advance dt s).now 8) ∧
    (∃ (s : State) (dt : Nat) (n : Fin 6), s.pwr.full = false ∧ n.val < s.gate.hbs.length ∧ (s.hb n).soft = some 1 ∧ (s.hb n).softAt + 1960 < (State.advance dt s).now 8) ∧
    (∃ (s : State) (dt : Nat) (_desat : Nat) (n : Fin 6) (hi : Bool), s.live = true ∧ s.role = .spring ∧ s.gate.hbs.length = 6 ∧ s.isTripped n = true ∧ s.isLatched n = false ∧ s.blocked = false ∧ (s.hb n).soft = none ∧ ((s.hb n).tripCh = none ∨ (s.hb n).tripCh = some hi) ∧ ((s.hb n).ch hi).cmd = true ∧ ((s.hb n).ch hi).cmdAt / 8 = s.time.cyc + dt ∧ s.get F.GATE_FAULT_CFG.RETRY_MAX ≤ ((State.advance dt s).liveRetries n).length) ∧
    (∃ (s : State) (dt : Nat) (desat : Nat) (n : Fin 6) (hi : Bool), s.live = true ∧ s.role = .spring ∧ s.gate.hbs.length = 6 ∧ s.isTripped n = true ∧ s.isLatched n = false ∧ s.blocked = false ∧ (s.hb n).soft = none ∧ ((s.hb n).tripCh = none ∨ (s.hb n).tripCh = some hi) ∧ ((s.hb n).ch hi).cmd = true ∧ ((s.hb n).ch hi).cmdAt / 8 = s.time.cyc + dt ∧ ((State.advance dt s).liveRetries n).length < s.get F.GATE_FAULT_CFG.RETRY_MAX ∧ ((State.advance dt s).setDesat desat).quiet n = 0) ∧
    (∃ (s : State) (dt : Nat) (desat : Nat) (n : Fin 6) (hi : Bool), s.live = true ∧ s.role = .spring ∧ s.gate.hbs.length = 6 ∧ s.isTripped n = true ∧ s.isLatched n = false ∧ s.blocked = false ∧ (s.hb n).soft = none ∧ ((s.hb n).tripCh = none ∨ (s.hb n).tripCh = some hi) ∧ ((s.hb n).ch hi).cmd = true ∧ ((s.hb n).ch hi).cmdAt / 8 = s.time.cyc + dt ∧ ((State.advance dt s).liveRetries n).length < s.get F.GATE_FAULT_CFG.RETRY_MAX ∧ ((State.advance dt s).setDesat desat).quiet n = 0) ∧
    (∃ (s : State) (dt : Nat) (desat : Nat) (n : Fin 6) (hi : Bool), s.live = true ∧ s.role = .spring ∧ s.gate.hbs.length = 6 ∧ s.isTripped n = true ∧ s.isLatched n = false ∧ s.blocked = false ∧ (s.hb n).soft = none ∧ ((s.hb n).tripCh = none ∨ (s.hb n).tripCh = some hi) ∧ ((s.hb n).ch hi).cmd = true ∧ ((s.hb n).ch hi).cmdAt / 8 = s.time.cyc + dt ∧ ((State.advance dt s).liveRetries n).length < s.get F.GATE_FAULT_CFG.RETRY_MAX ∧ ((State.advance dt s).setDesat desat).quiet n ≠ 0) ∧
    (∃ (s : State) (_dt : Nat) (_n : Fin 6) (_sub : Fin 8), s.live = true ∧ s.role = .spring ∧ s.gate.hbs.length = 6) ∧
    (∃ (s : State) (_dt : Nat) (n : Fin 6) (_sub : Fin 8), s.live = true ∧ s.role = .spring ∧ s.gate.hbs.length = 6 ∧ s.hbEn n = true ∧ s.blocked = false ∧ s.inConflict n = false ∧ (s.hb n).hi.ssd = false ∧ (s.hb n).lo.ssd = false) ∧
    (∃ (s : State) (_dt : Nat) (n : Fin 6) (_sub : Fin 8), s.live = true ∧ s.role = .spring ∧ s.gate.hbs.length = 6 ∧ s.hbEn n = true ∧ s.blocked = false ∧ s.inConflict n = false ∧ (s.hb n).hi.ssd = false ∧ (s.hb n).lo.ssd = false) :=
  ⟨⟨running0, 500, 4, 1, true, 3, (by decide +kernel), (by decide +kernel), (by decide +kernel), (by decide +kernel), (by unfold State.Untripped; decide +kernel), (by decide +kernel), (by decide +kernel), (by decide +kernel), (by decide +kernel)⟩,
   ⟨{ running0 with gate := { running0.gate with window := [⟨5, 0, 0xFF, 10⟩] } }, 500, 4, 1, true, 3, (by decide +kernel), (by decide +kernel), (by decide +kernel), (by decide +kernel), (by unfold State.Untripped; decide +kernel), (by decide +kernel), (by decide +kernel), (by decide +kernel), (by decide +kernel)⟩,
   ⟨{ running0 with gate := { running0.gate with window := [⟨0, 0, 0xFF, 3903⟩] } }, 500, 4, 1, true, 7, ⟨0, 0, 0xFF, 3903⟩, [], (by decide +kernel), (by decide +kernel), (by decide +kernel), (by decide +kernel), (by unfold State.Untripped; decide +kernel), (by decide +kernel), (by decide +kernel), (by decide +kernel), (by decide +kernel), (by decide +kernel), (by decide +kernel)⟩,
   ⟨running0, 500, 5, true, 3, (by decide +kernel), (by decide +kernel), (by decide +kernel), (by decide +kernel)⟩,
   ⟨{ ready0 with spr := { ready0.spr with mode := 1 } }, 500, 0, true, 3, (by decide +kernel), (by decide +kernel), (by decide +kernel), (by decide +kernel)⟩,
   ⟨running0, 500, 1, false, 3, (by decide +kernel), (by decide +kernel), (by decide +kernel), (by decide +kernel), (by decide +kernel), (by unfold State.Untripped; decide +kernel), (by decide +kernel), (by decide +kernel), (by decide +kernel), (by decide +kernel)⟩,
   ⟨running0, 500, 0, true, 3, (by decide +kernel), (by decide +kernel), (by decide +kernel), (by decide +kernel), (by decide +kernel), (by unfold State.Untripped; decide +kernel), (by decide +kernel), (by decide +kernel), (by decide +kernel), (by decide +kernel)⟩,
   ⟨spring0, 500, 5, true, 3, (by decide +kernel), (by decide +kernel), (by decide +kernel)⟩,
   ⟨{ (running0.set F.GATE_STATUS.TRIPPED 2) with gate := { running0.gate with hbs := running0.gate.hbs.set 1 { hb0 with cause := 2 } } }, 500000000, 1, true, 0, (by decide +kernel), (by decide +kernel), (by decide +kernel), (by decide +kernel), (by decide +kernel), (by decide +kernel), (by decide +kernel)⟩,
   ⟨{ running0 with gate := { running0.gate with hbEn := 0 } }, 500, 4, 1, true, 3, (by decide +kernel), (by decide +kernel), (by decide +kernel)⟩,
   ⟨running0, 500, 4, 1, false, 3, (by decide +kernel), (by decide +kernel), (by decide +kernel)⟩,
   ⟨running0, 0, 4, 1, true, 3, (by decide +kernel), (by decide +kernel), (by decide +kernel)⟩,
   ⟨{ (running0.set F.GATE_STATUS.TRIPPED 2) with gate := { running0.gate with hbs := running0.gate.hbs.set 1 { hbOn with hi := { hbOn.hi with ssd := true }, soft := some 0, cause := 1 } } }, 50, 1, 3, (by decide +kernel), (by decide +kernel), (by decide +kernel), (by decide +kernel), (by decide +kernel), (by decide +kernel), (by decide +kernel)⟩,
   ⟨(fields State.reset [(F.ADC_WIN.EN 31, 1), (F.ADC_WIN.HIGH 31, 10), (F.ADC_WIN.LOW 31, 0)]), 5, 31, 100000000, 7, (by decide +kernel), (by decide +kernel), (by decide +kernel), (by decide +kernel), (by decide +kernel)⟩,
   ⟨(fields State.reset [(F.ADC_WIN.EN 0, 1), (F.ADC_WIN.HIGH 0, 10), (F.ADC_WIN.LOW 0, 4096 - 9)]), 5, 0, -100000000, 0, (by decide +kernel), (by decide +kernel), (by decide +kernel), (by decide +kernel), (by decide +kernel)⟩,
   ⟨(fields running0 [(F.ADC_WIN.EN 4, 1), (F.GATE_PROT.OC_SEL 1, 4), (F.GATE_PROT.OC_SEL 3, 4)]), 500, 4, 100000000, 7, (by decide +kernel), (by decide +kernel), (by decide +kernel), (by decide +kernel), (by decide +kernel)⟩,
   ⟨(fields running0 [(F.ADC_WIN.EN 4, 1), (F.GATE_PROT.OC_SEL 1, 4)]), 5, 4, 100000000, 0, (by decide +kernel), (by decide +kernel), (by decide +kernel), (by decide +kernel), (by decide +kernel)⟩,
   ⟨State.reset, 5, 4, 100000000, 7, (by decide +kernel), (by decide +kernel)⟩,
   ⟨(fields State.reset [(F.ADC_WIN.EN 4, 1), (F.ADC_WIN.HIGH 4, 100)]), 5, 4, 1000000, 7, (by decide +kernel), (by decide +kernel)⟩,
   ⟨{ spring0 with gate := { spring0.gate with window := [⟨0, 0, 0xFF, 0⟩, ⟨1, 1, 2, 100⟩], multi := true } }, 50, ⟨0, 0, 0xFF, 0⟩, [⟨1, 1, 2, 100⟩], (by decide +kernel), (by decide +kernel), (by decide +kernel), (by decide +kernel)⟩,
   ⟨{ spring0 with gate := { spring0.gate with hbs := List.replicate 6 { hbOn with hi := { hbOn.hi with ssd := true }, soft := some 0 } } }, 5000, 5, (by decide +kernel), (by decide +kernel), (by decide +kernel), (by decide +kernel)⟩,
   ⟨{ spring0 with gate := { spring0.gate with hbs := List.replicate 6 { hbOn with hi := { hbOn.hi with ssd := true }, soft := some 1 } } }, 5000, 0, (by decide +kernel), (by decide +kernel), (by decide +kernel), (by decide +kernel)⟩,
   ⟨{ (fields running0 [(F.GATE_STATUS.TRIPPED, 8), (F.GATE_FAULT_CFG.RETRY_MAX, 0)]) with gate := { running0.gate with hbs := List.replicate 6 { hb0 with tripCh := none, retries := [], stopped := true, hi := { hb0.hi with cmd := true, cmdAt := 400 }, lo := { hb0.lo with cmd := true, cmdAt := 407 } } } }, 50, 0, 3, true, (by decide +kernel), (by decide +kernel), (by decide +kernel), (by decide +kernel), (by decide +kernel), (by decide +kernel), (by decide +kernel), (by decide +kernel), (by decide +kernel), (by decide +kernel), (by decide +kernel)⟩,
   ⟨{ (fields running0 [(F.GATE_STATUS.TRIPPED, 8), (F.GATE_PROT.OC_SEL 3, 63)]) with gate := { running0.gate with hbs := List.replicate 6 { hb0 with tripCh := none, retries := [], stopped := true, hi := { hb0.hi with cmd := true, cmdAt := 400 }, lo := { hb0.lo with cmd := true, cmdAt := 407 } } } }, 50, 0, 3, true, (by decide +kernel), (by decide +kernel), (by decide +kernel), (by decide +kernel), (by decide +kernel), (by decide +kernel), (by decide +kernel), (by decide +kernel), (by decide +kernel), (by decide +kernel), (by decide +kernel), (by decide +kernel)⟩,
   ⟨{ (fields running0 [(F.GATE_STATUS.TRIPPED, 2), (F.GATE_PROT.OC_SEL 1, 63)]) with gate := { running0.gate with hbs := List.replicate 6 { hb0 with tripCh := some false, retries := [0], stopped := true, hi := { hb0.hi with cmd := true, cmdAt := 400 }, lo := { hb0.lo with cmd := true, cmdAt := 407 } } } }, 50, 0, 1, false, (by decide +kernel), (by decide +kernel), (by decide +kernel), (by decide +kernel), (by decide +kernel), (by decide +kernel), (by decide +kernel), (by decide +kernel), (by decide +kernel), (by decide +kernel), (by decide +kernel), (by decide +kernel)⟩,
   ⟨{ (fields running0 [(F.GATE_STATUS.TRIPPED, 8)]) with gate := { running0.gate with hbs := List.replicate 6 { hb0 with tripCh := none, retries := [], stopped := true, hi := { hb0.hi with cmd := true, cmdAt := 400 }, lo := { hb0.lo with cmd := true, cmdAt := 407 } } } }, 50, 64, 3, true, (by decide +kernel), (by decide +kernel), (by decide +kernel), (by decide +kernel), (by decide +kernel), (by decide +kernel), (by decide +kernel), (by decide +kernel), (by decide +kernel), (by decide +kernel), (by decide +kernel), (by decide +kernel)⟩,
   ⟨{ spring0 with gate := { spring0.gate with hbs := List.replicate 6 { hb0 with retries := [0, 5000000] } } }, 5000000, 2, 0, (by decide +kernel), (by decide +kernel), (by decide +kernel)⟩,
   ⟨running0, 50, 1, 7, (by decide +kernel), (by decide +kernel), (by decide +kernel), (by decide +kernel), (by decide +kernel), (by decide +kernel), (by decide +kernel), (by decide +kernel)⟩,
   ⟨(running0.set F.GATE_CTRL.CONF_LATCH 1), 50, 1, 7, (by decide +kernel), (by decide +kernel), (by decide +kernel), (by decide +kernel), (by decide +kernel), (by decide +kernel), (by decide +kernel), (by decide +kernel)⟩⟩

/-- States that meet the hypotheses of EdgesAndClear, clause by clause. -/
theorem meets_EdgesAndClear :
    (∃ (s : State) (dt : Nat) (c : Fin 12) (sub : Fin 8) (w : Wave), s.live = true ∧ s.role = .spring ∧ s.gate.hbs.length = 6 ∧ (∀ p, s.gate.test = some p → p.ch ≠ c.val) ∧ (State.advance dt s).wave (c.val / 2) sub = some w ∧ w.since < 2 ∧ s.tooShort w.left = false ∧ ((s.hb (c.val / 2)).ch w.hi).cmd = false) ∧
    (∃ (s : State) (dt : Nat) (c : Fin 12) (sub : Fin 8) (w : Wave), s.live = true ∧ s.role = .spring ∧ s.gate.hbs.length = 6 ∧ (∀ p, s.gate.test = some p → p.ch ≠ c.val) ∧ (State.advance dt s).wave (c.val / 2) sub = some w ∧ w.since < 2 ∧ s.tooShort w.left = false ∧ ((s.hb (c.val / 2)).ch w.hi).cmd = false) ∧
    (∃ (s : State) (dt : Nat) (c : Fin 12) (sub : Fin 8) (w : Wave), s.live = true ∧ s.role = .spring ∧ s.gate.hbs.length = 6 ∧ (∀ p, s.gate.test = some p → p.ch ≠ c.val) ∧ (State.advance dt s).wave (c.val / 2) sub = some w ∧ w.since < 2 ∧ s.tooShort w.left = false ∧ ((s.hb (c.val / 2)).ch w.hi).cmd = false ∧ s.mayDrive (c.val / 2) = true ∧ (s.hb (c.val / 2)).stopping = false ∧ ((s.hb (c.val / 2)).ch w.hi).on = false) ∧
    (∃ (s : State) (dt : Nat) (c : Fin 12) (sub : Fin 8) (w : Wave), s.live = true ∧ s.role = .spring ∧ s.gate.hbs.length = 6 ∧ (∀ p, s.gate.test = some p → p.ch ≠ c.val) ∧ (State.advance dt s).wave (c.val / 2) sub = some w ∧ w.since < 2 ∧ s.tooShort w.left = false ∧ ((s.hb (c.val / 2)).ch w.hi).cmd = false ∧ s.mayDrive (c.val / 2) = true ∧ (s.hb (c.val / 2)).stopping = false ∧ ((s.hb (c.val / 2)).ch w.hi).on = false) ∧
    (∃ (s : State) (dt : Nat) (c : Fin 12) (sub : Fin 8) (w : Wave), s.live = true ∧ s.role = .spring ∧ s.gate.hbs.length = 6 ∧ (∀ p, s.gate.test = some p → p.ch ≠ c.val) ∧ (State.advance dt s).wave (c.val / 2) sub = some w ∧ w.since < 2 ∧ s.tooShort w.left = false ∧ ((s.hb (c.val / 2)).ch w.hi).cmd = false ∧ s.mayDrive (c.val / 2) = false) ∧
    (∃ (s : State) (dt : Nat) (c : Fin 12) (sub : Fin 8), s.live = true ∧ s.role = .spring ∧ s.gate.hbs.length = 6 ∧ (∀ p, s.gate.test = some p → p.ch ≠ c.val) ∧ (∀ w : Wave, (State.advance dt s).wave (c.val / 2) sub = some w → 2 ≤ w.since ∨ s.tooShort w.left = true ∨ ((s.hb (c.val / 2)).ch w.hi).cmd = true)) ∧
    (∃ (s : State) (dt : Nat) (c : Fin 12) (sub : Fin 8), s.live = true ∧ s.role = .spring ∧ s.gate.hbs.length = 6 ∧ (∀ p, s.gate.test = some p → p.ch ≠ c.val) ∧ (∀ w : Wave, (State.advance dt s).wave (c.val / 2) sub = some w → 2 ≤ w.since ∨ s.tooShort w.left = true ∨ ((s.hb (c.val / 2)).ch w.hi).cmd = true)) ∧
    (∃ (s : State) (dt : Nat) (c : Fin 12) (sub : Fin 8) (p : TestSt), s.live = true ∧ s.role = .spring ∧ s.gate.hbs.length = 6 ∧ s.gate.test = some p ∧ p.ch = c.val ∧ s.get F.CLK_PLLS_STAT.ON_SAFE = 0 ∧ p.level (8 * (s.time.cyc + dt) + sub) = false ∧ p.level (8 * (s.time.cyc + dt) + sub - 1) = true) ∧
    (∃ (s : State) (dt : Nat) (c : Fin 12) (sub : Fin 8) (p : TestSt), s.live = true ∧ s.role = .spring ∧ s.gate.hbs.length = 6 ∧ s.gate.test = some p ∧ p.ch = c.val ∧ s.get F.CLK_PLLS_STAT.ON_SAFE = 0 ∧ p.level (8 * (s.time.cyc + dt) + sub) = false ∧ p.level (8 * (s.time.cyc + dt) + sub - 1) = true) ∧
    (∃ (s : State) (dt : Nat) (c : Fin 12) (sub : Fin 8) (p : TestSt), s.live = true ∧ s.role = .spring ∧ s.gate.hbs.length = 6 ∧ s.gate.test = some p ∧ p.ch = c.val ∧ s.get F.CLK_PLLS_STAT.ON_SAFE = 0 ∧ p.level (8 * (s.time.cyc + dt) + sub) = true ∧ p.level (8 * (s.time.cyc + dt) + sub - 1) = false ∧ (((s.hb (c.val / 2)).ch (c.val % 2 != 0)).cmd = false ∨ s.hbEn (c.val / 2) = false)) ∧
    (∃ (s : State) (dt : Nat) (c : Fin 12) (sub : Fin 8) (p : TestSt), s.live = true ∧ s.role = .spring ∧ s.gate.hbs.length = 6 ∧ s.gate.test = some p ∧ p.ch = c.val ∧ s.get F.CLK_PLLS_STAT.ON_SAFE = 0 ∧ p.level (8 * (s.time.cyc + dt) + sub) = true ∧ p.level (8 * (s.time.cyc + dt) + sub - 1) = false ∧ (((s.hb (c.val / 2)).ch (c.val % 2 != 0)).cmd = false ∨ s.hbEn (c.val / 2) = false)) ∧
    (∃ (s : State) (dt : Nat) (c : Fin 12) (sub : Fin 8) (p : TestSt), s.live = true ∧ s.role = .spring ∧ s.gate.hbs.length = 6 ∧ s.gate.test = some p ∧ p.ch = c.val ∧ s.get F.CLK_PLLS_STAT.ON_SAFE = 0 ∧ p.level (8 * (s.time.cyc + dt) + sub) = true ∧ p.level (8 * (s.time.cyc + dt) + sub - 1) = false ∧ ((s.hb (c.val / 2)).ch (c.val % 2 != 0)).cmd = true ∧ s.hbEn (c.val / 2) = true ∧ s.inConflict (c.val / 2) = false) ∧
    (∃ (s : State) (dt : Nat) (c : Fin 12) (sub : Fin 8) (p : TestSt), s.live = true ∧ s.role = .spring ∧ s.gate.hbs.length = 6 ∧ s.gate.test = some p ∧ p.ch = c.val ∧ s.get F.CLK_PLLS_STAT.ON_SAFE = 0 ∧ p.level (8 * (s.time.cyc + dt) + sub) = p.level (8 * (s.time.cyc + dt) + sub - 1)) ∧
    (∃ (s : State) (v : Word) (c : Nat), s.live = true ∧ s.role = .spring ∧ s.gate.hbs.length = 6 ∧ c = (if bitsOf v.toNat 24 4 ≤ 11 then bitsOf v.toNat 24 4 else s.get F.GATE_TEST.CH) ∧ c ≤ 11 ∧ bitOf v.toNat 31 = true ∧ s.get F.GATE_CTRL.TEST_EN = 1 ∧ s.get F.GATE_TEST_T.T_ON1 ≠ 0 ∧ (s.slotMode.1 = mOFF ∧ s.gate.actByp = false ∧ (∀ x, s.spr.slot = some x → x.dabEn = false) ∧ s.blocked = false ∧ s.get F.GATE_STATUS.TRIPPED = 0 ∧ s.get F.GATE_STATUS.LATCHED = 0 ∧ (s.hb (c / 2)).hi.rdy = true ∧ (s.hb (c / 2)).lo.rdy = true ∧ s.gate.test = none)) ∧
    (∃ (s : State) (v : Word) (c : Nat), s.live = true ∧ s.role = .spring ∧ s.gate.hbs.length = 6 ∧ c = (if bitsOf v.toNat 24 4 ≤ 11 then bitsOf v.toNat 24 4 else s.get F.GATE_TEST.CH) ∧ c ≤ 11 ∧ bitOf v.toNat 31 = true ∧ s.get F.GATE_CTRL.TEST_EN = 1 ∧ s.get F.GATE_TEST_T.T_ON1 ≠ 0 ∧ (s.slotMode.1 = mOFF ∧ s.gate.actByp = false ∧ (∀ x, s.spr.slot = some x → x.dabEn = false) ∧ s.blocked = false ∧ s.get F.GATE_STATUS.TRIPPED = 0 ∧ s.get F.GATE_STATUS.LATCHED = 0 ∧ (s.hb (c / 2)).hi.rdy = true ∧ (s.hb (c / 2)).lo.rdy = true ∧ s.gate.test = none)) ∧
    (∃ (s : State) (v : Word) (c : Nat), s.live = true ∧ s.role = .spring ∧ s.gate.hbs.length = 6 ∧ c = (if bitsOf v.toNat 24 4 ≤ 11 then bitsOf v.toNat 24 4 else s.get F.GATE_TEST.CH) ∧ c ≤ 11 ∧ bitOf v.toNat 31 = true ∧ s.get F.GATE_CTRL.TEST_EN = 1 ∧ s.get F.GATE_TEST_T.T_ON1 ≠ 0 ∧ (s.slotMode.1 ≠ mOFF ∨ s.gate.actByp = true ∨ (∃ x, s.spr.slot = some x ∧ x.dabEn = true) ∨ s.blocked = true ∨ s.get F.GATE_STATUS.TRIPPED ≠ 0 ∨ s.get F.GATE_STATUS.LATCHED ≠ 0 ∨ (s.hb (c / 2)).hi.rdy = false ∨ (s.hb (c / 2)).lo.rdy = false ∨ s.gate.test ≠ none)) ∧
    (∃ (s : State) (v : Word) (c : Nat), s.live = true ∧ s.role = .spring ∧ s.gate.hbs.length = 6 ∧ c = (if bitsOf v.toNat 24 4 ≤ 11 then bitsOf v.toNat 24 4 else s.get F.GATE_TEST.CH) ∧ c ≤ 11 ∧ bitOf v.toNat 31 = true ∧ s.get F.GATE_CTRL.TEST_EN = 1 ∧ s.get F.GATE_TEST_T.T_ON1 ≠ 0 ∧ (s.slotMode.1 ≠ mOFF ∨ s.gate.actByp = true ∨ (∃ x, s.spr.slot = some x ∧ x.dabEn = true) ∨ s.blocked = true ∨ s.get F.GATE_STATUS.TRIPPED ≠ 0 ∨ s.get F.GATE_STATUS.LATCHED ≠ 0 ∨ (s.hb (c / 2)).hi.rdy = false ∨ (s.hb (c / 2)).lo.rdy = false ∨ s.gate.test ≠ none)) ∧
    (∃ (s : State) (v : Word) (c : Nat), s.live = true ∧ s.role = .spring ∧ s.gate.hbs.length = 6 ∧ c = (if bitsOf v.toNat 24 4 ≤ 11 then bitsOf v.toNat 24 4 else s.get F.GATE_TEST.CH) ∧ c ≤ 11 ∧ (bitOf v.toNat 31 = false ∨ s.get F.GATE_CTRL.TEST_EN = 0 ∨ s.get F.GATE_TEST_T.T_ON1 = 0)) ∧
    (∃ (s : State) (v : Word) (c : Nat), s.live = true ∧ s.role = .spring ∧ s.gate.hbs.length = 6 ∧ c = (if bitsOf v.toNat 24 4 ≤ 11 then bitsOf v.toNat 24 4 else s.get F.GATE_TEST.CH) ∧ c ≤ 11 ∧ (bitOf v.toNat 31 = false ∨ s.get F.GATE_CTRL.TEST_EN = 0 ∨ s.get F.GATE_TEST_T.T_ON1 = 0)) ∧
    (∃ (s : State) (dt : Nat) (p : TestSt), s.live = true ∧ s.role = .spring ∧ s.gate.test = some p ∧ p.ch / 2 < s.gate.hbs.length ∧ p.at' + p.length < 8 * (s.time.cyc + dt) + 8) ∧
    (∃ (s : State) (dt : Nat) (p : TestSt), s.live = true ∧ s.role = .spring ∧ s.gate.test = some p ∧ p.ch / 2 < s.gate.hbs.length ∧ p.at' + p.length < 8 * (s.time.cyc + dt) + 8) ∧
    (∃ (s : State) (dt : Nat) (p : TestSt), s.live = true ∧ s.role = .spring ∧ s.gate.test = some p ∧ p.ch / 2 < s.gate.hbs.length ∧ 8 * (s.time.cyc + dt) + 8 ≤ p.at' + p.length) ∧
    (∃ (s : State) (desat : Nat) (c : DueCmd), s.live = true ∧ s.role = .spring ∧ s.spr.cmd = some c ∧ c.op = 1 ∧ (c.src ≤ 15 ∨ c.src = 0xFE) ∧ (∀ n < 6, s.hbEn n = true → (s.setDesat desat).quiet n = 0)) ∧
    (∃ (s : State) (desat : Nat) (c : DueCmd) (n : _), s.live = true ∧ s.role = .spring ∧ s.spr.cmd = some c ∧ c.op = 1 ∧ (c.src ≤ 15 ∨ c.src = 0xFE) ∧ n < 6 ∧ s.hbEn n = true ∧ (s.setDesat desat).quiet n ≠ 0) :=
  ⟨⟨psc0, 1250, 0, 0, ⟨false, 0, 20000⟩, (by decide +kernel), (by decide +kernel), (by decide +kernel), (of_some (by decide +kernel)), (by decide +kernel), (by decide +kernel), (by decide +kernel), (by decide +kernel)⟩,
   ⟨{ psc0 with gate := { psc0.gate with hbs := List.replicate 6 { hbOn with hi := { hbOn.hi with ssd := true } } } }, 1250, 3, 1, ⟨false, 1, 19999⟩, (by decide +kernel), (by decide +kernel), (by decide +kernel), (of_some (by decide +kernel)), (by decide +kernel), (by decide +kernel), (by decide +kernel), (by decide +kernel)⟩,
   ⟨psc0, 1250, 0, 0, ⟨false, 0, 20000⟩, (by decide +kernel), (by decide +kernel), (by decide +kernel), (of_some (by decide +kernel)), (by decide +kernel), (by decide +kernel), (by decide +kernel), (by decide +kernel), (by decide +kernel), (by decide +kernel), (by decide +kernel)⟩,
   ⟨{ psc0 with gate := { psc0.gate with dt := List.replicate 6 50000 } }, 1250, 0, 0, ⟨false, 0, 20000⟩, (by decide +kernel), (by decide +kernel), (by decide +kernel), (of_some (by decide +kernel)), (by decide +kernel), (by decide +kernel), (by decide +kernel), (by decide +kernel), (by decide +kernel), (by decide +kernel), (by decide +kernel)⟩,
   ⟨(fields psc0 [(F.GATE_STATUS.LATCHED, 1)]), 1250, 1, 0, ⟨false, 0, 20000⟩, (by decide +kernel), (by decide +kernel), (by decide +kernel), (of_some (by decide +kernel)), (by decide +kernel), (by decide +kernel), (by decide +kernel), (by decide +kernel), (by decide +kernel)⟩,
   ⟨psc0, 1000, 1, 0, (by decide +kernel), (by decide +kernel), (by decide +kernel), (of_some (by decide +kernel)), (by decide +kernel)⟩,
   ⟨psc0, 1250, 5, 0, (by decide +kernel), (by decide +kernel), (by decide +kernel), (of_some (by decide +kernel)), (by decide +kernel)⟩,
   ⟨{ test0 with gate := { test0.gate with hbs := List.replicate 6 hbOn } }, 1000, 2, 0, ⟨2, 4000, 50, 100, 50⟩, (by decide +kernel), (by decide +kernel), (by decide +kernel), (by decide +kernel), (by decide +kernel), (by decide +kernel), (by decide +kernel), (by decide +kernel)⟩,
   ⟨{ test0 with gate := { test0.gate with hbs := List.replicate 6 hbOn } }, 2500, 2, 0, ⟨2, 4000, 50, 100, 50⟩, (by decide +kernel), (by decide +kernel), (by decide +kernel), (by decide +kernel), (by decide +kernel), (by decide +kernel), (by decide +kernel), (by decide +kernel)⟩,
   ⟨{ test0 with gate := { test0.gate with hbs := ready0.gate.hbs } }, 2000, 2, 0, ⟨2, 4000, 50, 100, 50⟩, (by decide +kernel), (by decide +kernel), (by decide +kernel), (by decide +kernel), (by decide +kernel), (by decide +kernel), (by decide +kernel), (by decide +kernel), (by decide +kernel)⟩,
   ⟨(fields { test0 with gate := { test0.gate with hbs := ready0.gate.hbs } } [(F.GATE_STATUS.BLOCK, 1)]), 2000, 2, 0, ⟨2, 4000, 50, 100, 50⟩, (by decide +kernel), (by decide +kernel), (by decide +kernel), (by decide +kernel), (by decide +kernel), (by decide +kernel), (by decide +kernel), (by decide +kernel), (by decide +kernel)⟩,
   ⟨{ test0 with gate := { test0.gate with hbs := List.replicate 6 { hb0 with lo := { hb0.lo with on := true, cmd := true } } } }, 2000, 2, 0, ⟨2, 4000, 50, 100, 50⟩, (by decide +kernel), (by decide +kernel), (by decide +kernel), (by decide +kernel), (by decide +kernel), (by decide +kernel), (by decide +kernel), (by decide +kernel), (by decide +kernel), (by decide +kernel), (by decide +kernel)⟩,
   ⟨test0, 2000, 2, 1, ⟨2, 4000, 50, 100, 50⟩, (by decide +kernel), (by decide +kernel), (by decide +kernel), (by decide +kernel), (by decide +kernel), (by decide +kernel), (by decide +kernel)⟩,
   ⟨(fields ready0 [(F.GATE_CTRL.TEST_EN, 1), (F.GATE_TEST_T.T_ON1, 9)]), 0x8B123456#32, 11, (by decide +kernel), (by decide +kernel), (by decide +kernel), (by decide +kernel), (by decide +kernel), (by decide +kernel), (by decide +kernel), (by decide +kernel), (by decide +kernel)⟩,
   ⟨{ (fields running0 [(F.GATE_CTRL.TEST_EN, 1), (F.GATE_TEST_T.T_ON1, 9), (F.GATE_TEST.CH, 5)]) with spr := { ready0.spr with slot := some slot0 } }, 0x8F123456#32, 5, (by decide +kernel), (by decide +kernel), (by decide +kernel), (by decide +kernel), (by decide +kernel), (by decide +kernel), (by decide +kernel), (by decide +kernel), (by decide +kernel)⟩,
   ⟨(fields ready0 [(F.GATE_CTRL.TEST_EN, 1), (F.GATE_TEST_T.T_ON1, 9), (F.GATE_STATUS.BLOCK, 1)]), 0x80123456#32, 0, (by decide +kernel), (by decide +kernel), (by decide +kernel), (by decide +kernel), (by decide +kernel), (by decide +kernel), (by decide +kernel), (by decide +kernel), (by decide +kernel)⟩,
   ⟨(fields test0 [(F.GATE_CTRL.TEST_EN, 1), (F.GATE_TEST_T.T_ON1, 9)]), 0x80123456#32, 0, (by decide +kernel), (by decide +kernel), (by decide +kernel), (by decide +kernel), (by decide +kernel), (by decide +kernel), (by decide +kernel), (by decide +kernel), (by decide +kernel)⟩,
   ⟨ready0, 0x80123456#32, 0, (by decide +kernel), (by decide +kernel), (by decide +kernel), (by decide +kernel), (by decide +kernel), (by decide +kernel)⟩,
   ⟨(fields ready0 [(F.GATE_CTRL.TEST_EN, 1), (F.GATE_TEST_T.T_ON1, 9)]), 0x03123456#32, 3, (by decide +kernel), (by decide +kernel), (by decide +kernel), (by decide +kernel), (by decide +kernel), (by decide +kernel)⟩,
   ⟨test0, 2500, ⟨2, 4000, 50, 100, 50⟩, (by decide +kernel), (by decide +kernel), (by decide +kernel), (by decide +kernel), (by decide +kernel)⟩,
   ⟨{ test0 with gate := { test0.gate with test := some ⟨2, 4000, 50, 100, 0⟩ } }, 1000, ⟨2, 4000, 50, 100, 0⟩, (by decide +kernel), (by decide +kernel), (by decide +kernel), (by decide +kernel), (by decide +kernel)⟩,
   ⟨test0, 2499, ⟨2, 4000, 50, 100, 50⟩, (by decide +kernel), (by decide +kernel), (by decide +kernel), (by decide +kernel), (by decide +kernel)⟩,
   ⟨(fields (due ready0 1 []) [(F.GATE_CTRL.HB_EN, 1), (F.GATE_PROT.OC_SEL 0, 63), (F.GATE_STATUS.BLOCK, 1), (F.GATE_STATUS.TRIPPED, 5)]), 0, ⟨3, 1, [], 7⟩, (by decide +kernel), (by decide +kernel), (by decide +kernel), (by decide +kernel), (by decide +kernel), (by decide +kernel)⟩,
   ⟨{ (fields (due ready0 1 []) [(F.GATE_PROT.OC_SEL 0, 63), (F.GATE_STATUS.BLOCK, 1), (F.GATE_STATUS.TRIPPED, 5)]) with gate := { ready0.gate with hbEn := 32 } }, 1024, ⟨3, 1, [], 7⟩, 5, (by decide +kernel), (by decide +kernel), (by decide +kernel), (by decide +kernel), (by decide +kernel), (by decide +kernel), (by decide +kernel), (by decide +kernel)⟩⟩

/-- States that meet the hypotheses of WeirAndVotes, clause by clause. -/
theorem meets_WeirAndVotes :
    (∃ (s : State) (_dt : Nat) (v : Nat) (_port : Fin 2), s.live = true ∧ s.role = .spring ∧ weirRx v = .notWeir ∧ osetCode v ≠ ocTRAIN ∧ osetCode v ≠ ocEI) ∧
    (∃ (s : State) (_dt : Nat) (v : Nat) (_port : Fin 2), s.live = true ∧ s.role = .spring ∧ (osetCode v = ocTRAIN ∨ osetCode v = ocEI)) ∧
    (∃ (s : State) (_dt : Nat) (v : Nat) (_port : Fin 2), s.live = true ∧ s.role = .spring ∧ (osetCode v = ocTRAIN ∨ osetCode v = ocEI)) ∧
    (∃ (s : State) (_dt : Nat) (v : Nat) (_port : Fin 2), s.live = true ∧ s.role = .spring ∧ (weirRx v = .badCrc ∨ weirRx v = .badFields)) ∧
    (∃ (s : State) (_dt : Nat) (v : Nat) (_port : Fin 2), s.live = true ∧ s.role = .spring ∧ (weirRx v = .badCrc ∨ weirRx v = .badFields)) ∧
    (∃ (s : State) (_dt : Nat) (v : Nat) (_port : Fin 2) (x : _), s.live = true ∧ s.role = .spring ∧ weirRx v = .valid x) ∧
    (∃ (s : State) (_dt : Nat) (v : Nat) (_port : Fin 2) (x : _), s.live = true ∧ s.role = .spring ∧ weirRx v = .valid x) ∧
    (∃ (s : State) (_dt : Nat) (v : Nat) (_port : Fin 2) (x : _), s.live = true ∧ s.role = .spring ∧ weirRx v = .valid x) ∧
    (∃ (s : State) (_dt : Nat) (v : Nat) (_port : Fin 12), s.live = true ∧ s.role = .basin ∧ weirRx v = .notWeir ∧ osetCode v ≠ ocTRAIN ∧ osetCode v ≠ ocEI) ∧
    (∃ (s : State) (_dt : Nat) (v : Nat) (_port : Fin 12), s.live = true ∧ s.role = .basin ∧ (osetCode v = ocTRAIN ∨ osetCode v = ocEI)) ∧
    (∃ (s : State) (_dt : Nat) (v : Nat) (_port : Fin 12), s.live = true ∧ s.role = .basin ∧ (weirRx v = .badCrc ∨ weirRx v = .badFields)) ∧
    (∃ (s : State) (_dt : Nat) (v : Nat) (_port : Fin 12), s.live = true ∧ s.role = .basin ∧ (weirRx v = .badCrc ∨ weirRx v = .badFields)) ∧
    (∃ (s : State) (dt : Nat) (v : Nat) (_port : Fin 12) (x : _), s.live = true ∧ s.role = .basin ∧ weirRx v = .valid x ∧ (State.advance dt s).pairKnown x.origin x.seq = true) ∧
    (∃ (s : State) (dt : Nat) (v : Nat) (_port : Fin 12) (x : _), s.live = true ∧ s.role = .basin ∧ weirRx v = .valid x ∧ (State.advance dt s).pairKnown x.origin x.seq = false ∧ x.scope = 1 ∧ s.armSprings x.arm = []) ∧
    (∃ (s : State) (dt : Nat) (v : Nat) (_port : Fin 12) (x : _), s.live = true ∧ s.role = .basin ∧ weirRx v = .valid x ∧ (State.advance dt s).pairKnown x.origin x.seq = false ∧ x.scope = 1 ∧ s.armSprings x.arm ≠ [] ∧ (s.isMaster = false ∨ s.armIsHeld x.arm = true ∨ s.get F.WEIR_ARM_STAT.STN_HOLD = 1 ∨ (s.get F.WEIR_CFG.ESC_ARMS = 0 ∧ s.get F.WEIR_CFG.ESC_MAX = 0))) ∧
    (∃ (s : State) (dt : Nat) (v : Nat) (_port : Fin 12) (x : _), s.live = true ∧ s.role = .basin ∧ weirRx v = .valid x ∧ (State.advance dt s).pairKnown x.origin x.seq = false ∧ x.scope = 1 ∧ s.armSprings x.arm ≠ [] ∧ (s.isMaster = false ∨ s.armIsHeld x.arm = true ∨ s.get F.WEIR_ARM_STAT.STN_HOLD = 1 ∨ (s.get F.WEIR_CFG.ESC_ARMS = 0 ∧ s.get F.WEIR_CFG.ESC_MAX = 0))) ∧
    (∃ (s : State) (dt : Nat) (v : Nat) (_port : Fin 12) (x : _), s.live = true ∧ s.role = .basin ∧ weirRx v = .valid x ∧ (State.advance dt s).pairKnown x.origin x.seq = false ∧ x.scope = 1 ∧ s.armSprings x.arm ≠ [] ∧ (s.isMaster = false ∨ s.armIsHeld x.arm = true ∨ s.get F.WEIR_ARM_STAT.STN_HOLD = 1 ∨ (s.get F.WEIR_CFG.ESC_ARMS = 0 ∧ s.get F.WEIR_CFG.ESC_MAX = 0))) ∧
    (∃ (s : State) (dt : Nat) (v : Nat) (_port : Fin 12) (x : _), s.live = true ∧ s.role = .basin ∧ weirRx v = .valid x ∧ (State.advance dt s).pairKnown x.origin x.seq = false ∧ x.scope = 1 ∧ s.armSprings x.arm ≠ [] ∧ s.isMaster = true ∧ s.armIsHeld x.arm = false ∧ s.get F.WEIR_ARM_STAT.STN_HOLD = 0 ∧ s.get F.WEIR_CFG.ESC_ARMS ≠ 0 ∧ s.get F.WEIR_CFG.ESC_ARMS ≤ ((List.range 12).filter s.armIsHeld).length + 1) ∧
    (∃ (s : State) (dt : Nat) (v : Nat) (_port : Fin 12) (x : _), s.live = true ∧ s.role = .basin ∧ weirRx v = .valid x ∧ (State.advance dt s).pairKnown x.origin x.seq = false ∧ x.scope = 1 ∧ s.armSprings x.arm ≠ [] ∧ s.isMaster = true ∧ s.armIsHeld x.arm = false ∧ s.get F.WEIR_ARM_STAT.STN_HOLD = 0 ∧ s.get F.WEIR_CFG.ESC_ARMS ≠ 0 ∧ s.get F.WEIR_CFG.ESC_ARMS ≤ ((List.range 12).filter s.armIsHeld).length + 1) ∧
    (∃ (s : State) (dt : Nat) (v : Nat) (_port : Fin 12) (x : _), s.live = true ∧ s.role = .basin ∧ weirRx v = .valid x ∧ (State.advance dt s).pairKnown x.origin x.seq = false ∧ x.scope = 2) ∧
    (∃ (s : State) (dt : Nat) (a : Fin 3) (b : Fin 3) (c : Fin 3) (i : Instr), s.live = true ∧ (i = .ocpTrip dt a b c ∨ i = .ocpChannelChange dt a b c) ∧ (s.get F.WEIR_OCP_CFG.EN = 0 ∨ s.get F.WEIR_OCP_STAT.VOTE = 1 ∨ s.voteTrips 0 [a.val != 0, b.val != 0, c.val != 0] = false)) ∧
    (∃ (s : State) (dt : Nat) (a : Fin 3) (b : Fin 3) (c : Fin 3) (i : Instr), s.live = true ∧ (i = .ocpTrip dt a b c ∨ i = .ocpChannelChange dt a b c) ∧ (s.get F.WEIR_OCP_CFG.EN = 0 ∨ s.get F.WEIR_OCP_STAT.VOTE = 1 ∨ s.voteTrips 0 [a.val != 0, b.val != 0, c.val != 0] = false)) ∧
    (∃ (s : State) (dt : Nat) (a : Fin 3) (b : Fin 3) (c : Fin 3) (i : Instr), s.live = true ∧ (i = .ocpTrip dt a b c ∨ i = .ocpChannelChange dt a b c) ∧ (s.get F.WEIR_OCP_CFG.EN = 0 ∨ s.get F.WEIR_OCP_STAT.VOTE = 1 ∨ s.voteTrips 0 [a.val != 0, b.val != 0, c.val != 0] = false)) ∧
    (∃ (s : State) (dt : Nat) (a : Fin 3) (b : Fin 3) (c : Fin 3) (i : Instr), s.live = true ∧ (i = .ocpTrip dt a b c ∨ i = .ocpChannelChange dt a b c) ∧ s.get F.WEIR_OCP_CFG.EN = 1 ∧ s.get F.WEIR_OCP_STAT.VOTE = 0 ∧ s.voteTrips 0 [a.val != 0, b.val != 0, c.val != 0] = true ∧ s.role = .spring) ∧
    (∃ (s : State) (dt : Nat) (a : Fin 3) (b : Fin 3) (c : Fin 3) (i : Instr), s.live = true ∧ (i = .ocpTrip dt a b c ∨ i = .ocpChannelChange dt a b c) ∧ s.get F.WEIR_OCP_CFG.EN = 1 ∧ s.get F.WEIR_OCP_STAT.VOTE = 0 ∧ s.voteTrips 0 [a.val != 0, b.val != 0, c.val != 0] = true ∧ s.role = .spring) ∧
    (∃ (s : State) (dt : Nat) (a : Fin 3) (b : Fin 3) (c : Fin 3) (i : Instr), s.live = true ∧ (i = .ocpTrip dt a b c ∨ i = .ocpChannelChange dt a b c) ∧ s.get F.WEIR_OCP_CFG.EN = 1 ∧ s.get F.WEIR_OCP_STAT.VOTE = 0 ∧ s.voteTrips 0 [a.val != 0, b.val != 0, c.val != 0] = true ∧ s.role = .basin) ∧
    (∃ (s : State) (_dt : Nat) (arm : Fin 12), s.live = true ∧ s.role = .basin ∧ s.isMaster = true ∧ s.armIsHeld arm = true ∧ s.get F.WEIR_HOLD_MAX.TICKS ≠ 0 ∧ s.get F.WEIR_HOLD_MAX.TICKS < tickDist (s.armHold arm).since s.tickNow ∧ s.get F.WEIR_ARM_STAT.STN_HOLD = 0) ∧
    (∃ (s : State) (_dt : Nat) (arm : Fin 12), s.live = true ∧ s.role = .basin ∧ (s.isMaster = false ∨ s.armIsHeld arm = false ∨ s.get F.WEIR_HOLD_MAX.TICKS = 0 ∨ tickDist (s.armHold arm).since s.tickNow ≤ s.get F.WEIR_HOLD_MAX.TICKS ∨ s.get F.WEIR_ARM_STAT.STN_HOLD = 1)) ∧
    (∃ (s : State) (_dt : Nat) (arm : Fin 12), s.live = true ∧ s.role = .basin ∧ (s.isMaster = false ∨ s.armIsHeld arm = false ∨ s.get F.WEIR_HOLD_MAX.TICKS = 0 ∨ tickDist (s.armHold arm).since s.tickNow ≤ s.get F.WEIR_HOLD_MAX.TICKS ∨ s.get F.WEIR_ARM_STAT.STN_HOLD = 1)) ∧
    (∃ (s : State) (_dt : Nat), s.live = true ∧ s.role = .basin) ∧
    (∃ (s : State) (_v : Word), s.live = true ∧ s.role = .basin) ∧
    (∃ (s : State) (_dt : Nat) (v : Word) (_w : WrIn), s.live = true ∧ s.role = .basin ∧ s.cfgLocked = false ∧ s.get F.WEIR_OCP_STAT.VOTE = 1 ∧ s.get F.WEIR_OCP_CFG.EN = 0 ∧ v.getLsbD 0 = true) :=
  ⟨⟨spring0, 5, 7, 1, (by decide +kernel), (by decide +kernel), (by decide +kernel), (by decide +kernel), (by decide +kernel)⟩,
   ⟨spring0, 5, 0x201, 1, (by decide +kernel), (by decide +kernel), (by decide +kernel)⟩,
   ⟨spring0, 5, 2, 0, (by decide +kernel), (by decide +kernel), (by decide +kernel)⟩,
   ⟨spring0, 5, (weirSet ⟨1, 2, 2, 3, 4, 0⟩ + 2 ^ 48), 1, (by decide +kernel), (by decide +kernel), (by decide +kernel)⟩,
   ⟨spring0, 5, (weirSet ⟨1, 2, 7, 3, 4, 0⟩), 1, (by decide +kernel), (by decide +kernel), (by decide +kernel)⟩,
   ⟨(lit (fields spring0 [(F.WEIR_SCFG.ARM_ID, 2)])), 5, (weirSet ⟨1, 2, 2, 3, 4, 9⟩), 1, ⟨1, 2, 2, 3, 4, 9⟩, (by decide +kernel), (by decide +kernel), (by decide +kernel)⟩,
   ⟨(fields running0 [(F.WEIR_SCFG.ARM_ID, 3)]), 5, (weirSet ⟨2, 15, 2, 3, 4, 0⟩), 0, ⟨2, 15, 2, 3, 4, 0⟩, (by decide +kernel), (by decide +kernel), (by decide +kernel)⟩,
   ⟨(lit (fields running0 [(F.WEIR_SCFG.ARM_ID, 3), (F.LNK_SPOS.ENROLLED, 1), (F.LNK_SPOS.INDEX, 3)])), 5, (weirSet ⟨1, 2, 2, 3, 4, 0⟩), 0, ⟨1, 2, 2, 3, 4, 0⟩, (by decide +kernel), (by decide +kernel), (by decide +kernel)⟩,
   ⟨State.reset, 5, 7, 11, (by decide +kernel), (by decide +kernel), (by decide +kernel), (by decide +kernel), (by decide +kernel)⟩,
   ⟨State.reset, 5, 0x201, 11, (by decide +kernel), (by decide +kernel), (by decide +kernel)⟩,
   ⟨State.reset, 5, 10, 11, (by decide +kernel), (by decide +kernel), (by decide +kernel)⟩,
   ⟨State.reset, 5, (weirSet ⟨1, 2, 7, 3, 4, 0⟩), 11, (by decide +kernel), (by decide +kernel), (by decide +kernel)⟩,
   ⟨{ State.reset with weir := { State.reset.weir with relayed := [(3, 4, 0)] } }, 499999, (weirSet ⟨1, 2, 2, 3, 4, 0⟩), 1, ⟨1, 2, 2, 3, 4, 0⟩, (by decide +kernel), (by decide +kernel), (by decide +kernel), (by decide +kernel)⟩,
   ⟨{ State.reset with weir := { State.reset.weir with relayed := [(3, 4, 0)] } }, 500000, (weirSet ⟨1, 2, 2, 3, 4, 0⟩), 1, ⟨1, 2, 2, 3, 4, 0⟩, (by decide +kernel), (by decide +kernel), (by decide +kernel), (by decide +kernel), (by decide +kernel), (by decide +kernel)⟩,
   ⟨(lit (fields armed0 [(F.WEIR_CFG.ESC_ARMS, 0), (F.WEIR_CFG.ESC_MAX, 0)])), 5, (weirSet ⟨1, 0, 4, 3, 4, 0⟩), 1, ⟨1, 0, 4, 3, 4, 0⟩, (by decide +kernel), (by decide +kernel), (by decide +kernel), (by decide +kernel), (by decide +kernel), (by decide +kernel), (by decide +kernel)⟩,
   ⟨(lit (fields armed0 [(F.WEIR_ARM_STAT.HELD, 1)])), 5, (weirSet ⟨1, 0, 2, 3, 4, 0⟩), 0, ⟨1, 0, 2, 3, 4, 0⟩, (by decide +kernel), (by decide +kernel), (by decide +kernel), (by decide +kernel), (by decide +kernel), (by decide +kernel), (by decide +kernel)⟩,
   ⟨(lit (fields armed0 [(F.RED_CLAIM.ROLE, 2)])), 5, (weirSet ⟨1, 0, 2, 3, 4, 0⟩), 0, ⟨1, 0, 2, 3, 4, 0⟩, (by decide +kernel), (by decide +kernel), (by decide +kernel), (by decide +kernel), (by decide +kernel), (by decide +kernel), (by decide +kernel)⟩,
   ⟨(fields armed0 [(F.WEIR_CFG.ESC_ARMS, 1)]), 5, (weirSet ⟨1, 0, 2, 3, 4, 0⟩), 0, ⟨1, 0, 2, 3, 4, 0⟩, (by decide +kernel), (by decide +kernel), (by decide +kernel), (by decide +kernel), (by decide +kernel), (by decide +kernel), (by decide +kernel), (by decide +kernel), (by decide +kernel), (by decide +kernel), (by decide +kernel)⟩,
   ⟨(fields armed0 [(F.WEIR_CFG.ESC_ARMS, 2), (F.WEIR_ARM_STAT.HELD, 2048)]), 5, (weirSet ⟨1, 0, 2, 3, 4, 0⟩), 0, ⟨1, 0, 2, 3, 4, 0⟩, (by decide +kernel), (by decide +kernel), (by decide +kernel), (by decide +kernel), (by decide +kernel), (by decide +kernel), (by decide +kernel), (by decide +kernel), (by decide +kernel), (by decide +kernel), (by decide +kernel)⟩,
   ⟨(lit (fields { armed0 with lnk := { armed0.lnk with enrolled := [⟨0, none, 0, 0⟩, ⟨16, none, 0, 0⟩] } } [(F.CTL_STATUS.TICK_RUN, 1)])), 5, (weirSet ⟨2, 15, 4, 3, 4, 0⟩), 1, ⟨2, 15, 4, 3, 4, 0⟩, (by decide +kernel), (by decide +kernel), (by decide +kernel), (by decide +kernel), (by decide +kernel)⟩,
   ⟨State.reset, 5, 2, 1, 0, (.ocpTrip 5 2 1 0), (by decide +kernel), (by decide +kernel), (by decide +kernel)⟩,
   ⟨spring0, 5, 2, 0, 0, (.ocpChannelChange 5 2 0 0), (by decide +kernel), (by decide +kernel), (by decide +kernel)⟩,
   ⟨(fields spring0 [(F.WEIR_OCP_CFG.EN, 1), (F.WEIR_OCP_STAT.VOTE, 1)]), 5, 2, 1, 0, (.ocpChannelChange 5 2 1 0), (by decide +kernel), (by decide +kernel), (by decide +kernel)⟩,
   ⟨(spring0.set F.WEIR_OCP_CFG.EN 1), 5, 2, 1, 0, (.ocpTrip 5 2 1 0), (by decide +kernel), (by decide +kernel), (by decide +kernel), (by decide +kernel), (by decide +kernel), (by decide +kernel)⟩,
   ⟨(spring0.set F.WEIR_OCP_CFG.EN 1), 5, 2, 1, 0, (.ocpChannelChange 5 2 1 0), (by decide +kernel), (by decide +kernel), (by decide +kernel), (by decide +kernel), (by decide +kernel), (by decide +kernel)⟩,
   ⟨(State.reset.set F.WEIR_OCP_CFG.EN 1), 5, 2, 0, 1, (.ocpTrip 5 2 0 1), (by decide +kernel), (by decide +kernel), (by decide +kernel), (by decide +kernel), (by decide +kernel), (by decide +kernel)⟩,
   ⟨{ fields active0 [(F.WEIR_ARM_STAT.HELD, 2048), (F.WEIR_HOLD_MAX.TICKS, 5), (F.CTL_TICK_NUM.TICK, 10)] with weir := { active0.weir with arms := List.replicate 12 { since := 4 } } }, 5, 11, (by decide +kernel), (by decide +kernel), (by decide +kernel), (by decide +kernel), (by decide +kernel), (by decide +kernel), (by decide +kernel)⟩,
   ⟨{ fields active0 [(F.WEIR_ARM_STAT.HELD, 2048), (F.WEIR_HOLD_MAX.TICKS, 6), (F.CTL_TICK_NUM.TICK, 10)] with weir := { active0.weir with arms := List.replicate 12 { since := 4 } } }, 5, 11, (by decide +kernel), (by decide +kernel), (by decide +kernel)⟩,
   ⟨State.reset, 5, 0, (by decide +kernel), (by decide +kernel), (by decide +kernel)⟩,
   ⟨{ State.reset with weir := { State.reset.weir with relayed := [(3, 4, 0), (5, 6, 1)] } }, 500000, (by decide +kernel), (by decide +kernel)⟩,
   ⟨(fields State.reset [(F.WEIR_ARM_STAT.HELD, 3)]), 0x801#32, (by decide +kernel), (by decide +kernel)⟩,
   ⟨(fields State.reset [(F.SAFE_STAT.UNLOCKED, 1), (F.CLK_PLLS_STAT.ON_SAFE, 0), (F.WEIR_OCP_STAT.VOTE, 1)]), 5, 0x3#32, {}, (by decide +kernel), (by decide +kernel), (by decide +kernel), (by decide +kernel), (by decide +kernel), (by decide +kernel)⟩⟩

/-- States that meet the hypotheses of SpringTicks, clause by clause. -/
theorem meets_SpringTicks :
    (∃ (s : State) (dt : Nat) (port : Fin 2) (bs : List Block) (f : TickFrame) (x : _), s.HearsFrame port bs ftTICK ∧ s.role = .spring ∧ s.get F.LNK_SPOS.ENROLLED = 1 ∧ hdrOk (hear bs).bytes = true ∧ f = tickOf (hear bs).bytes ∧ f.chain = s.get F.LNK_SPOS.INDEX / 16 ∧ (∀ k ∈ s.spr.keys, keyHigher k.1 k.2.1 f.hdr.claim f.hdr.side = false ∨ k.2.2 + fourTicks (if s.sprPeriod = 0 then f.hdr.period else s.sprPeriod) < s.time.cyc + dt) ∧ s.get F.LNK_SPOS.POSITION ≠ 0 ∧ (s.spr.tick = 0 ∨ 0 < stampDiff f.hdr.bound s.spr.bound) ∧ (∀ n, s.spr.next = some n → n.slot = none ∨ n.hdr.tick ≠ f.hdr.tick ∨ keyHigher f.hdr.claim f.hdr.side n.hdr.claim n.hdr.side = true) ∧ 1000 ≤ stampDiff f.hdr.bound (State.advance dt s).stamp ∧ s.get F.LNK_SPOS.POSITION ≤ f.hdr.nslot ∧ f.slots[s.get F.LNK_SPOS.POSITION - 1]? = some x) ∧
    (∃ (s : State) (dt : Nat) (port : Fin 2) (bs : List Block) (f : TickFrame) (x : _), s.HearsFrame port bs ftTICK ∧ s.role = .spring ∧ s.get F.LNK_SPOS.ENROLLED = 1 ∧ hdrOk (hear bs).bytes = true ∧ f = tickOf (hear bs).bytes ∧ f.chain = s.get F.LNK_SPOS.INDEX / 16 ∧ (∀ k ∈ s.spr.keys, keyHigher k.1 k.2.1 f.hdr.claim f.hdr.side = false ∨ k.2.2 + fourTicks (if s.sprPeriod = 0 then f.hdr.period else s.sprPeriod) < s.time.cyc + dt) ∧ s.get F.LNK_SPOS.POSITION ≠ 0 ∧ (s.spr.tick = 0 ∨ 0 < stampDiff f.hdr.bound s.spr.bound) ∧ (∀ n, s.spr.next = some n → n.slot = none ∨ n.hdr.tick ≠ f.hdr.tick ∨ keyHigher f.hdr.claim f.hdr.side n.hdr.claim n.hdr.side = true) ∧ 1000 ≤ stampDiff f.hdr.bound (State.advance dt s).stamp ∧ s.get F.LNK_SPOS.POSITION ≤ f.hdr.nslot ∧ f.slots[s.get F.LNK_SPOS.POSITION - 1]? = some x) ∧
    (∃ (s : State) (dt : Nat) (port : Fin 2) (bs : List Block) (f : TickFrame) (x : _), s.HearsFrame port bs ftTICK ∧ s.role = .spring ∧ s.get F.LNK_SPOS.ENROLLED = 1 ∧ hdrOk (hear bs).bytes = true ∧ f = tickOf (hear bs).bytes ∧ f.chain = s.get F.LNK_SPOS.INDEX / 16 ∧ (∀ k ∈ s.spr.keys, keyHigher k.1 k.2.1 f.hdr.claim f.hdr.side = false ∨ k.2.2 + fourTicks (if s.sprPeriod = 0 then f.hdr.period else s.sprPeriod) < s.time.cyc + dt) ∧ s.get F.LNK_SPOS.POSITION ≠ 0 ∧ (s.spr.tick = 0 ∨ 0 < stampDiff f.hdr.bound s.spr.bound) ∧ (∀ n, s.spr.next = some n → n.slot = none ∨ n.hdr.tick ≠ f.hdr.tick ∨ keyHigher f.hdr.claim f.hdr.side n.hdr.claim n.hdr.side = true) ∧ 1000 ≤ stampDiff f.hdr.bound (State.advance dt s).stamp ∧ s.get F.LNK_SPOS.POSITION ≤ f.hdr.nslot ∧ f.slots[s.get F.LNK_SPOS.POSITION - 1]? = some x) ∧
    (∃ (s : State) (dt : Nat) (port : Fin 2) (bs : List Block) (f : TickFrame), s.HearsFrame port bs ftTICK ∧ s.role = .spring ∧ s.get F.LNK_SPOS.ENROLLED = 1 ∧ hdrOk (hear bs).bytes = true ∧ f = tickOf (hear bs).bytes ∧ f.chain = s.get F.LNK_SPOS.INDEX / 16 ∧ (∀ k ∈ s.spr.keys, keyHigher k.1 k.2.1 f.hdr.claim f.hdr.side = false ∨ k.2.2 + fourTicks (if s.sprPeriod = 0 then f.hdr.period else s.sprPeriod) < s.time.cyc + dt) ∧ s.get F.LNK_SPOS.POSITION ≠ 0 ∧ (s.spr.tick = 0 ∨ 0 < stampDiff f.hdr.bound s.spr.bound) ∧ (∀ n, s.spr.next = some n → n.slot = none ∨ n.hdr.tick ≠ f.hdr.tick ∨ keyHigher f.hdr.claim f.hdr.side n.hdr.claim n.hdr.side = true) ∧ 1000 ≤ stampDiff f.hdr.bound (State.advance dt s).stamp ∧ f.hdr.nslot < s.get F.LNK_SPOS.POSITION) ∧
    (∃ (s : State) (dt : Nat) (port : Fin 2) (bs : List Block) (f : TickFrame), s.HearsFrame port bs ftTICK ∧ s.role = .spring ∧ s.get F.LNK_SPOS.ENROLLED = 1 ∧ hdrOk (hear bs).bytes = true ∧ f = tickOf (hear bs).bytes ∧ f.chain = s.get F.LNK_SPOS.INDEX / 16 ∧ (∀ k ∈ s.spr.keys, keyHigher k.1 k.2.1 f.hdr.claim f.hdr.side = false ∨ k.2.2 + fourTicks (if s.sprPeriod = 0 then f.hdr.period else s.sprPeriod) < s.time.cyc + dt) ∧ s.get F.LNK_SPOS.POSITION ≠ 0 ∧ (s.spr.tick = 0 ∨ 0 < stampDiff f.hdr.bound s.spr.bound) ∧ (∀ n, s.spr.next = some n → n.slot = none ∨ n.hdr.tick ≠ f.hdr.tick ∨ keyHigher f.hdr.claim f.hdr.side n.hdr.claim n.hdr.side = true) ∧ stampDiff f.hdr.bound (State.advance dt s).stamp < 1000 ∧ s.spr.late = false) ∧
    (∃ (s : State) (dt : Nat) (port : Fin 2) (bs : List Block) (f : TickFrame) (n : _) (y : _), s.HearsFrame port bs ftTICK ∧ s.role = .spring ∧ s.get F.LNK_SPOS.ENROLLED = 1 ∧ hdrOk (hear bs).bytes = true ∧ f = tickOf (hear bs).bytes ∧ f.chain = s.get F.LNK_SPOS.INDEX / 16 ∧ (∀ k ∈ s.spr.keys, keyHigher k.1 k.2.1 f.hdr.claim f.hdr.side = false ∨ k.2.2 + fourTicks (if s.sprPeriod = 0 then f.hdr.period else s.sprPeriod) < s.time.cyc + dt) ∧ s.get F.LNK_SPOS.POSITION ≠ 0 ∧ (s.spr.tick = 0 ∨ 0 < stampDiff f.hdr.bound s.spr.bound) ∧ s.spr.next = some ⟨n, some y⟩ ∧ n.tick = f.hdr.tick ∧ keyHigher f.hdr.claim f.hdr.side n.claim n.side = false) ∧
    (∃ (s : State) (_dt : Nat) (_port : Fin 2) (bs : List Block), s.live = true ∧ s.role = .spring ∧ (ftypeOf (hear bs).bytes ≠ ftTICK ∨ hdrOk (hear bs).bytes = false ∨ s.get F.LNK_SPOS.ENROLLED = 0 ∨ (tickOf (hear bs).bytes).chain ≠ s.get F.LNK_SPOS.INDEX / 16)) ∧
    (∃ (s : State) (_dt : Nat) (_port : Fin 2) (bs : List Block), s.live = true ∧ s.role = .spring ∧ (ftypeOf (hear bs).bytes ≠ ftTICK ∨ hdrOk (hear bs).bytes = false ∨ s.get F.LNK_SPOS.ENROLLED = 0 ∨ (tickOf (hear bs).bytes).chain ≠ s.get F.LNK_SPOS.INDEX / 16)) ∧
    (∃ (s : State) (_dt : Nat) (_port : Fin 2) (bs : List Block), s.live = true ∧ s.role = .spring ∧ (ftypeOf (hear bs).bytes ≠ ftTICK ∨ hdrOk (hear bs).bytes = false ∨ s.get F.LNK_SPOS.ENROLLED = 0 ∨ (tickOf (hear bs).bytes).chain ≠ s.get F.LNK_SPOS.INDEX / 16)) ∧
    (∃ (s : State) (_dt : Nat) (_port : Fin 2) (bs : List Block), s.live = true ∧ s.role = .spring ∧ (ftypeOf (hear bs).bytes ≠ ftTICK ∨ hdrOk (hear bs).bytes = false ∨ s.get F.LNK_SPOS.ENROLLED = 0 ∨ (tickOf (hear bs).bytes).chain ≠ s.get F.LNK_SPOS.INDEX / 16)) ∧
    (∃ (s : State) (dt : Nat), s.live = true ∧ s.role = .spring ∧ s.spr.hdr.isSome = true ∧ s.get F.LNK_SPOS.ENROLLED = 1 ∧ s.haveSlot = false ∧ s.spr.late = false ∧ stampDiff s.nextBound (State.advance dt s).stamp ≤ 1000) ∧
    (∃ (s : State) (dt : Nat), s.live = true ∧ s.role = .spring ∧ (s.haveSlot = true ∨ s.spr.late = true ∨ s.spr.hdr = none ∨ s.get F.LNK_SPOS.ENROLLED = 0 ∨ 1000 < stampDiff s.nextBound (State.advance dt s).stamp)) ∧
    (∃ (s : State) (dt : Nat), s.live = true ∧ s.role = .spring ∧ (s.haveSlot = true ∨ s.spr.late = true ∨ s.spr.hdr = none ∨ s.get F.LNK_SPOS.ENROLLED = 0 ∨ 1000 < stampDiff s.nextBound (State.advance dt s).stamp)) ∧
    (∃ (s : State) (dt : Nat), s.live = true ∧ s.role = .spring ∧ (s.spr.hdr = none ∨ s.get F.LNK_SPOS.ENROLLED = 0 ∨ 0 < stampDiff s.nextBound (State.advance dt s).stamp)) ∧
    (∃ (s : State) (dt : Nat), s.live = true ∧ s.role = .spring ∧ (s.spr.hdr = none ∨ s.get F.LNK_SPOS.ENROLLED = 0 ∨ 0 < stampDiff s.nextBound (State.advance dt s).stamp)) ∧
    (∃ (s : State) (dt : Nat) (h : _) (x : _), s.live = true ∧ s.role = .spring ∧ s.spr.hdr.isSome = true ∧ s.get F.LNK_SPOS.ENROLLED = 1 ∧ s.gate.actByp = false ∧ (∀ a, s.tbl.commitAt = some a → 2 ^ 31 ≤ tickDist a s.coming) ∧ stampDiff s.nextBound (State.advance dt s).stamp ≤ 0 ∧ s.spr.next = some ⟨h, some x⟩ ∧ s.get F.CLK_PLLS_STAT.ON_SAFE = 0 ∧ s.pwr.steps.contains 7 = true ∧ s.spr.slot.map (fun (y : Slot) => y.seq) ≠ some x.seq) ∧
    (∃ (s : State) (dt : Nat) (h : _) (x : _), s.live = true ∧ s.role = .spring ∧ s.spr.hdr.isSome = true ∧ s.get F.LNK_SPOS.ENROLLED = 1 ∧ s.gate.actByp = false ∧ (∀ a, s.tbl.commitAt = some a → 2 ^ 31 ≤ tickDist a s.coming) ∧ stampDiff s.nextBound (State.advance dt s).stamp ≤ 0 ∧ s.spr.next = some ⟨h, some x⟩ ∧ s.get F.CLK_PLLS_STAT.ON_SAFE = 0 ∧ s.pwr.steps.contains 7 = true ∧ s.spr.slot.map (fun (y : Slot) => y.seq) ≠ some x.seq) ∧
    (∃ (s : State) (dt : Nat) (h : _) (x : _), s.live = true ∧ s.role = .spring ∧ s.spr.hdr.isSome = true ∧ s.get F.LNK_SPOS.ENROLLED = 1 ∧ s.gate.actByp = false ∧ (∀ a, s.tbl.commitAt = some a → 2 ^ 31 ≤ tickDist a s.coming) ∧ stampDiff s.nextBound (State.advance dt s).stamp ≤ 0 ∧ s.spr.next = some ⟨h, some x⟩ ∧ s.get F.CLK_PLLS_STAT.ON_SAFE = 0 ∧ s.pwr.steps.contains 7 = true ∧ s.spr.slot.map (fun (y : Slot) => y.seq) ≠ some x.seq) ∧
    (∃ (s : State) (dt : Nat) (h : _) (x : _), s.live = true ∧ s.role = .spring ∧ s.spr.hdr.isSome = true ∧ s.get F.LNK_SPOS.ENROLLED = 1 ∧ s.gate.actByp = false ∧ (∀ a, s.tbl.commitAt = some a → 2 ^ 31 ≤ tickDist a s.coming) ∧ stampDiff s.nextBound (State.advance dt s).stamp ≤ 0 ∧ s.spr.next = some ⟨h, some x⟩ ∧ s.get F.CLK_PLLS_STAT.ON_SAFE = 0 ∧ (s.pwr.steps.contains 7 = false ∨ s.spr.slot.map (fun (y : Slot) => y.seq) = some x.seq)) ∧
    (∃ (s : State) (dt : Nat) (h : _) (x : _), s.live = true ∧ s.role = .spring ∧ s.spr.hdr.isSome = true ∧ s.get F.LNK_SPOS.ENROLLED = 1 ∧ s.gate.actByp = false ∧ (∀ a, s.tbl.commitAt = some a → 2 ^ 31 ≤ tickDist a s.coming) ∧ stampDiff s.nextBound (State.advance dt s).stamp ≤ 0 ∧ s.spr.next = some ⟨h, some x⟩ ∧ s.get F.CLK_PLLS_STAT.ON_SAFE = 0 ∧ (s.pwr.steps.contains 7 = false ∨ s.spr.slot.map (fun (y : Slot) => y.seq) = some x.seq)) ∧
    (∃ (s : State) (dt : Nat) (h : _) (x : _), s.live = true ∧ s.role = .spring ∧ s.spr.hdr.isSome = true ∧ s.get F.LNK_SPOS.ENROLLED = 1 ∧ s.gate.actByp = false ∧ (∀ a, s.tbl.commitAt = some a → 2 ^ 31 ≤ tickDist a s.coming) ∧ stampDiff s.nextBound (State.advance dt s).stamp ≤ 0 ∧ s.spr.next = some ⟨h, some x⟩ ∧ s.get F.CLK_PLLS_STAT.ON_SAFE = 1) ∧
    (∃ (s : State) (dt : Nat), s.live = true ∧ s.role = .spring ∧ s.spr.hdr.isSome = true ∧ s.get F.LNK_SPOS.ENROLLED = 1 ∧ s.gate.actByp = false ∧ (∀ a, s.tbl.commitAt = some a → 2 ^ 31 ≤ tickDist a s.coming) ∧ stampDiff s.nextBound (State.advance dt s).stamp ≤ 0 ∧ s.haveSlot = false) ∧
    (∃ (s : State) (dt : Nat), s.live = true ∧ s.role = .spring ∧ s.spr.hdr.isSome = true ∧ s.get F.LNK_SPOS.ENROLLED = 1 ∧ s.gate.actByp = false ∧ (∀ a, s.tbl.commitAt = some a → 2 ^ 31 ≤ tickDist a s.coming) ∧ stampDiff s.nextBound (State.advance dt s).stamp ≤ 0 ∧ s.haveSlot = false) ∧
    (∃ (s : State) (_dt : Nat), s.live = true ∧ s.role = .spring ∧ 3 ≤ s.spr.missed ∧ s.blocked = false) ∧
    (∃ (s : State) (_dt : Nat), s.live = true ∧ s.role = .spring ∧ (s.spr.missed < 3 ∨ s.blocked = true)) ∧
    (∃ (s : State) (_dt : Nat), s.live = true ∧ s.role = .spring ∧ (s.spr.missed < 3 ∨ s.blocked = true)) ∧
    (∃ (s : State) (dt : Nat), s.live = true ∧ s.role = .spring ∧ s.spr.dab.on = true ∧ s.get F.CLK_PLLS_STAT.ON_SAFE = 0 ∧ s.spr.dab.at' + s.spr.dab.per < 8 * (s.time.cyc + dt) + 8) ∧
    (∃ (s : State) (dt : Nat), s.live = true ∧ s.role = .spring ∧ (s.spr.dab.on = false ∨ s.get F.CLK_PLLS_STAT.ON_SAFE = 1 ∨ 8 * (s.time.cyc + dt) + 8 ≤ s.spr.dab.at' + s.spr.dab.per)) ∧
    (∃ (s : State) (dt : Nat), s.live = true ∧ s.role = .spring ∧ (s.spr.dab.on = false ∨ s.get F.CLK_PLLS_STAT.ON_SAFE = 1 ∨ 8 * (s.time.cyc + dt) + 8 ≤ s.spr.dab.at' + s.spr.dab.per)) ∧
    (∃ (s : State) (dt : Nat), s.live = true ∧ s.role = .spring ∧ s.spr.tick ≠ 0 ∧ s.spr.latched ≠ s.spr.tick ∧ 400 ≤ stampDiff (State.advance dt s).stamp s.spr.bound) ∧
    (∃ (s : State) (dt : Nat), s.live = true ∧ s.role = .spring ∧ (s.spr.tick = 0 ∨ s.spr.latched = s.spr.tick ∨ stampDiff (State.advance dt s).stamp s.spr.bound < 400)) ∧
    (∃ (s : State) (dt : Nat), s.live = true ∧ s.role = .spring ∧ (s.spr.tick = 0 ∨ s.spr.latched = s.spr.tick ∨ stampDiff (State.advance dt s).stamp s.spr.bound < 400)) ∧
    (∃ (s : State) (dt : Nat) (x : _), s.live = true ∧ s.role = .spring ∧ s.spr.telem = some x ∧ 500 ≤ stampDiff (State.advance dt s).stamp s.spr.bound) ∧
    (∃ (s : State) (dt : Nat) (x : _), s.live = true ∧ s.role = .spring ∧ s.spr.telem = some x ∧ 500 ≤ stampDiff (State.advance dt s).stamp s.spr.bound) ∧
    (∃ (s : State) (dt : Nat), s.live = true ∧ s.role = .spring ∧ (s.spr.telem = none ∨ stampDiff (State.advance dt s).stamp s.spr.bound < 500)) ∧
    (∃ (s : State) (dt : Nat), s.live = true ∧ s.role = .spring ∧ (s.spr.telem = none ∨ stampDiff (State.advance dt s).stamp s.spr.bound < 500)) :=
  ⟨⟨enrolled0, 100, 1, (tickBs frame0), (tickOf (hear (tickBs frame0)).bytes), { slot0 with seq := 4, mode := 2 }, (by unfold State.HearsFrame; decide +kernel), (by decide +kernel), (by decide +kernel), (by decide +kernel), (rfl), (by decide +kernel), (by decide +kernel), (by decide +kernel), (by decide +kernel), (of_some (by decide +kernel)), (by decide +kernel), (by decide +kernel), (by decide +kernel)⟩,
   ⟨{ (fields spring5 [(F.WEIR_SCFG.ARM_ID, 11)]) with spr := { spring5.spr with keys := [(9, .b, 0)], next := some ⟨{ hdr0 with claim := 1 }, some slot0⟩ } }, 200001, 0, (tickBs { frame0 with hdr := { hdr0 with weirHold := 2048, weirStn := true, bound := 500000 } }), (tickOf (hear (tickBs { frame0 with hdr := { hdr0 with weirHold := 2048, weirStn := true, bound := 500000 } })).bytes), { slot0 with seq := 4, mode := 2 }, (by unfold State.HearsFrame; decide +kernel), (by decide +kernel), (by decide +kernel), (by decide +kernel), (rfl), (by decide +kernel), (by decide +kernel), (by decide +kernel), (by decide +kernel), (of_some (by decide +kernel)), (by decide +kernel), (by decide +kernel), (by decide +kernel)⟩,
   ⟨{ spring5 with spr := { spring5.spr with next := some ⟨{ hdr0 with claim := 1 }, some slot0⟩ } }, 100, 0, (tickBs frame0), (tickOf (hear (tickBs frame0)).bytes), { slot0 with seq := 4, mode := 2 }, (by unfold State.HearsFrame; decide +kernel), (by decide +kernel), (by decide +kernel), (by decide +kernel), (rfl), (by decide +kernel), (by decide +kernel), (by decide +kernel), (by decide +kernel), (of_some (by decide +kernel)), (by decide +kernel), (by decide +kernel), (by decide +kernel)⟩,
   ⟨enrolled0, 100, 1, (tickBs { frame0 with hdr := { hdr0 with nslot := 1 }, slots := [slot0] }), (tickOf (hear (tickBs { frame0 with hdr := { hdr0 with nslot := 1 }, slots := [slot0] })).bytes), (by unfold State.HearsFrame; decide +kernel), (by decide +kernel), (by decide +kernel), (by decide +kernel), (rfl), (by decide +kernel), (by decide +kernel), (by decide +kernel), (by decide +kernel), (of_some (by decide +kernel)), (by decide +kernel), (by decide +kernel)⟩,
   ⟨enrolled0, 2001, 1, (tickBs frame0), (tickOf (hear (tickBs frame0)).bytes), (by unfold State.HearsFrame; decide +kernel), (by decide +kernel), (by decide +kernel), (by decide +kernel), (rfl), (by decide +kernel), (by decide +kernel), (by decide +kernel), (by decide +kernel), (of_some (by decide +kernel)), (by decide +kernel), (by decide +kernel)⟩,
   ⟨{ spring5 with spr := { spring5.spr with next := some ⟨hdr0, some slot0⟩ } }, 100, 1, (tickBs frame0), (tickOf (hear (tickBs frame0)).bytes), hdr0, slot0, (by unfold State.HearsFrame; decide +kernel), (by decide +kernel), (by decide +kernel), (by decide +kernel), (rfl), (by decide +kernel), (by decide +kernel), (by decide +kernel), (by decide +kernel), (by decide +kernel), (by decide +kernel), (by decide +kernel)⟩,
   ⟨enrolled0, 100, 1, (tickBs { frame0 with chain := 3 }), (by decide +kernel), (by decide +kernel), (by decide +kernel)⟩,
   ⟨enrolled0, 100, 0, (heard (.telem telem0)), (by decide +kernel), (by decide +kernel), (by decide +kernel)⟩,
   ⟨ready0, 100, 0, (tickBs frame0), (by decide +kernel), (by decide +kernel), (by decide +kernel)⟩,
   ⟨enrolled0, 100, 0, (frameBlocks ((wireBytes (.tick frame0)).set 5 9)), (by decide +kernel), (by decide +kernel), (by decide +kernel)⟩,
   ⟨{ enrolled0 with spr := { enrolled0.spr with hdr := some hdr0, next := some ⟨hdr0, none⟩ } }, 2000, (by decide +kernel), (by decide +kernel), (by decide +kernel), (by decide +kernel), (by decide +kernel), (by decide +kernel), (by decide +kernel)⟩,
   ⟨enrolled0, 5, (by decide +kernel), (by decide +kernel), (by decide +kernel)⟩,
   ⟨spring5, 5, (by decide +kernel), (by decide +kernel), (by decide +kernel)⟩,
   ⟨enrolled0, 5, (by decide +kernel), (by decide +kernel), (by decide +kernel)⟩,
   ⟨spring5, 5, (by decide +kernel), (by decide +kernel), (by decide +kernel)⟩,
   ⟨{ enrolled0 with spr := { enrolled0.spr with hdr := some hdr0, next := some ⟨hdr0, some slot0⟩, missed := 2 } }, 2500, hdr0, slot0, (by decide +kernel), (by decide +kernel), (by decide +kernel), (by decide +kernel), (by decide +kernel), (of_some (by decide +kernel)), (by decide +kernel), (by decide +kernel), (by decide +kernel), (by decide +kernel), (by decide +kernel)⟩,
   ⟨{ enrolled0 with tbl := { enrolled0.tbl with commitAt := some 6 }, spr := { enrolled0.spr with hdr := some hdr0, next := some ⟨hdr0, some { slot0 with mode := 1, restart := true, dabEn := true, seq := 4, cmdSrc := 3, cmdOp := 2 }⟩, missed := 2 } }, 2500, hdr0, { slot0 with mode := 1, restart := true, dabEn := true, seq := 4, cmdSrc := 3, cmdOp := 2 }, (by decide +kernel), (by decide +kernel), (by decide +kernel), (by decide +kernel), (by decide +kernel), (of_some (by decide +kernel)), (by decide +kernel), (by decide +kernel), (by decide +kernel), (by decide +kernel), (by decide +kernel)⟩,
   ⟨(fields { enrolled0 with spr := { enrolled0.spr with hdr := some hdr0, next := some ⟨hdr0, some { slot0 with mode := 2 }⟩, missed := 2 } } [(F.GATE_STATUS.BLOCK, 1)]), 2500, hdr0, { slot0 with mode := 2 }, (by decide +kernel), (by decide +kernel), (by decide +kernel), (by decide +kernel), (by decide +kernel), (of_some (by decide +kernel)), (by decide +kernel), (by decide +kernel), (by decide +kernel), (by decide +kernel), (by decide +kernel)⟩,
   ⟨{ enrolled0 with spr := { enrolled0.spr with hdr := some hdr0, next := some ⟨hdr0, some { slot0 with seq := 4 }⟩, missed := 2, slot := some { slot0 with seq := 4, mode := 2 } } }, 2500, hdr0, { slot0 with seq := 4 }, (by decide +kernel), (by decide +kernel), (by decide +kernel), (by decide +kernel), (by decide +kernel), (of_some (by decide +kernel)), (by decide +kernel), (by decide +kernel), (by decide +kernel), (by decide +kernel)⟩,
   ⟨{ enrolled0 with pwr := { enrolled0.pwr with steps := [1] }, spr := { enrolled0.spr with hdr := some hdr0, next := some ⟨hdr0, some { slot0 with seq := 4 }⟩, missed := 2 } }, 2500, hdr0, { slot0 with seq := 4 }, (by decide +kernel), (by decide +kernel), (by decide +kernel), (by decide +kernel), (by decide +kernel), (of_some (by decide +kernel)), (by decide +kernel), (by decide +kernel), (by decide +kernel), (by decide +kernel)⟩,
   ⟨(fields { enrolled0 with spr := { enrolled0.spr with hdr := some hdr0, next := some ⟨hdr0, some { slot0 with seq := 4 }⟩, missed := 2 } } [(F.CLK_PLLS_STAT.ON_SAFE, 1)]), 2500, hdr0, { slot0 with seq := 4 }, (by decide +kernel), (by decide +kernel), (by decide +kernel), (by decide +kernel), (by decide +kernel), (of_some (by decide +kernel)), (by decide +kernel), (by decide +kernel), (by decide +kernel)⟩,
   ⟨{ enrolled0 with spr := { enrolled0.spr with hdr := some hdr0, next := some ⟨hdr0, none⟩, missed := 1, slot := some { slot0 with mode := 2 } } }, 2500, (by decide +kernel), (by decide +kernel), (by decide +kernel), (by decide +kernel), (by decide +kernel), (of_some (by decide +kernel)), (by decide +kernel), (by decide +kernel)⟩,
   ⟨{ enrolled0 with spr := { enrolled0.spr with hdr := some hdr0, missed := 1, late := true, tick := 4, slot := some { slot0 with mode := 1, dabEn := true }, bound := 100 } }, 50000, (by decide +kernel), (by decide +kernel), (by decide +kernel), (by decide +kernel), (by decide +kernel), (of_some (by decide +kernel)), (by decide +kernel), (by decide +kernel)⟩,
   ⟨{ running0 with spr := { running0.spr with missed := 3 } }, 5, (by decide +kernel), (by decide +kernel), (by decide +kernel), (by decide +kernel)⟩,
   ⟨running0, 5, (by decide +kernel), (by decide +kernel), (by decide +kernel)⟩,
   ⟨{ (fields running0 [(F.GATE_STATUS.BLOCK, 1)]) with spr := { running0.spr with missed := 3 } }, 5, (by decide +kernel), (by decide +kernel), (by decide +kernel)⟩,
   ⟨{ enrolled0 with spr := { enrolled0.spr with dab := { on := true, p := 5, yNext := 7, per := 39 }, pDabRef := 900, perNext := 44 } }, 5, (by decide +kernel), (by decide +kernel), (by decide +kernel), (by decide +kernel), (by decide +kernel)⟩,
   ⟨{ enrolled0 with spr := { enrolled0.spr with dab := { on := true, p := 5, yNext := 7, per := 48 }, pDabRef := 900, perNext := 44 } }, 5, (by decide +kernel), (by decide +kernel), (by decide +kernel)⟩,
   ⟨enrolled0, 5, (by decide +kernel), (by decide +kernel), (by decide +kernel)⟩,
   ⟨{ running0 with spr := { running0.spr with tick := 5, slot := some slot0 } }, 200, (by decide +kernel), (by decide +kernel), (by decide +kernel), (by decide +kernel), (by decide +kernel)⟩,
   ⟨running0, 200, (by decide +kernel), (by decide +kernel), (by decide +kernel)⟩,
   ⟨{ running0 with spr := { running0.spr with tick := 5, slot := some slot0 } }, 199, (by decide +kernel), (by decide +kernel), (by decide +kernel)⟩,
   ⟨(lit { enrolled0 with spr := { enrolled0.spr with telem := some telem0 } }), 250, telem0, (by decide +kernel), (by decide +kernel), (by decide +kernel), (by decide +kernel)⟩,
   ⟨(lit { ready0 with spr := { enrolled0.spr with telem := some telem0 } }), 250, telem0, (by decide +kernel), (by decide +kernel), (by decide +kernel), (by decide +kernel)⟩,
   ⟨{ enrolled0 with spr := { enrolled0.spr with telem := some telem0 } }, 249, (by decide +kernel), (by decide +kernel), (by decide +kernel)⟩,
   ⟨enrolled0, 250, (by decide +kernel), (by decide +kernel), (by decide +kernel)⟩⟩

/-- States that meet the hypotheses of BasinTicks, clause by clause. -/
theorem meets_BasinTicks :
    (∃ (s : State) (dt : Nat) (n : TickNext), s.live = true ∧ s.role = .basin ∧ s.get F.CLK_PLLS_STAT.ON_SAFE = 0 ∧ ((s.dispatches = true ∧ n = (if s.tickNow = 0 then ⟨1, (State.advance dt s).time.ext, s.get F.CTL_TICK_PERIOD.PERIOD⟩ else ⟨tickSucc s.tickNow, s.ctl.bound + 10 * s.ctl.per, s.get F.CTL_TICK_PERIOD.PERIOD⟩)) ∨ (s.dispatches = false ∧ s.get F.RED_CLAIM.ROLE = 2 ∧ s.pipeFit = true ∧ ∃ h, s.red.hdr = some h ∧ n = (if s.hdrAhead h then ⟨h.tick, (State.advance dt s).extOf h.bound, h.period⟩ else ⟨tickSucc s.tickNow, s.ctl.bound + 10 * s.ctl.per, s.ctl.per⟩))) ∧ n.bound ≤ (State.advance dt s).time.ext) ∧
    (∃ (s : State) (dt : Nat) (n : TickNext), s.live = true ∧ s.role = .basin ∧ s.get F.CLK_PLLS_STAT.ON_SAFE = 0 ∧ ((s.dispatches = true ∧ n = (if s.tickNow = 0 then ⟨1, (State.advance dt s).time.ext, s.get F.CTL_TICK_PERIOD.PERIOD⟩ else ⟨tickSucc s.tickNow, s.ctl.bound + 10 * s.ctl.per, s.get F.CTL_TICK_PERIOD.PERIOD⟩)) ∨ (s.dispatches = false ∧ s.get F.RED_CLAIM.ROLE = 2 ∧ s.pipeFit = true ∧ ∃ h, s.red.hdr = some h ∧ n = (if s.hdrAhead h then ⟨h.tick, (State.advance dt s).extOf h.bound, h.period⟩ else ⟨tickSucc s.tickNow, s.ctl.bound + 10 * s.ctl.per, s.ctl.per⟩))) ∧ n.bound ≤ (State.advance dt s).time.ext) ∧
    (∃ (s : State) (dt : Nat) (n : TickNext), s.live = true ∧ s.role = .basin ∧ s.get F.CLK_PLLS_STAT.ON_SAFE = 0 ∧ ((s.dispatches = true ∧ n = (if s.tickNow = 0 then ⟨1, (State.advance dt s).time.ext, s.get F.CTL_TICK_PERIOD.PERIOD⟩ else ⟨tickSucc s.tickNow, s.ctl.bound + 10 * s.ctl.per, s.get F.CTL_TICK_PERIOD.PERIOD⟩)) ∨ (s.dispatches = false ∧ s.get F.RED_CLAIM.ROLE = 2 ∧ s.pipeFit = true ∧ ∃ h, s.red.hdr = some h ∧ n = (if s.hdrAhead h then ⟨h.tick, (State.advance dt s).extOf h.bound, h.period⟩ else ⟨tickSucc s.tickNow, s.ctl.bound + 10 * s.ctl.per, s.ctl.per⟩))) ∧ n.bound ≤ (State.advance dt s).time.ext) ∧
    (∃ (s : State) (dt : Nat) (n : TickNext), s.live = true ∧ s.role = .basin ∧ s.get F.CLK_PLLS_STAT.ON_SAFE = 0 ∧ ((s.dispatches = true ∧ n = (if s.tickNow = 0 then ⟨1, (State.advance dt s).time.ext, s.get F.CTL_TICK_PERIOD.PERIOD⟩ else ⟨tickSucc s.tickNow, s.ctl.bound + 10 * s.ctl.per, s.get F.CTL_TICK_PERIOD.PERIOD⟩)) ∨ (s.dispatches = false ∧ s.get F.RED_CLAIM.ROLE = 2 ∧ s.pipeFit = true ∧ ∃ h, s.red.hdr = some h ∧ n = (if s.hdrAhead h then ⟨h.tick, (State.advance dt s).extOf h.bound, h.period⟩ else ⟨tickSucc s.tickNow, s.ctl.bound + 10 * s.ctl.per, s.ctl.per⟩))) ∧ n.bound ≤ (State.advance dt s).time.ext) ∧
    (∃ (s : State) (dt : Nat) (n : TickNext), s.live = true ∧ s.role = .basin ∧ s.get F.CLK_PLLS_STAT.ON_SAFE = 0 ∧ ((s.dispatches = true ∧ n = (if s.tickNow = 0 then ⟨1, (State.advance dt s).time.ext, s.get F.CTL_TICK_PERIOD.PERIOD⟩ else ⟨tickSucc s.tickNow, s.ctl.bound + 10 * s.ctl.per, s.get F.CTL_TICK_PERIOD.PERIOD⟩)) ∨ (s.dispatches = false ∧ s.get F.RED_CLAIM.ROLE = 2 ∧ s.pipeFit = true ∧ ∃ h, s.red.hdr = some h ∧ n = (if s.hdrAhead h then ⟨h.tick, (State.advance dt s).extOf h.bound, h.period⟩ else ⟨tickSucc s.tickNow, s.ctl.bound + 10 * s.ctl.per, s.ctl.per⟩))) ∧ n.bound ≤ (State.advance dt s).time.ext) ∧
    (∃ (s : State) (dt : Nat) (n : TickNext), s.live = true ∧ s.role = .basin ∧ s.get F.CLK_PLLS_STAT.ON_SAFE = 0 ∧ ((s.dispatches = true ∧ n = (if s.tickNow = 0 then ⟨1, (State.advance dt s).time.ext, s.get F.CTL_TICK_PERIOD.PERIOD⟩ else ⟨tickSucc s.tickNow, s.ctl.bound + 10 * s.ctl.per, s.get F.CTL_TICK_PERIOD.PERIOD⟩)) ∨ (s.dispatches = false ∧ s.get F.RED_CLAIM.ROLE = 2 ∧ s.pipeFit = true ∧ ∃ h, s.red.hdr = some h ∧ n = (if s.hdrAhead h then ⟨h.tick, (State.advance dt s).extOf h.bound, h.period⟩ else ⟨tickSucc s.tickNow, s.ctl.bound + 10 * s.ctl.per, s.ctl.per⟩))) ∧ (State.advance dt s).time.ext < n.bound) ∧
    (∃ (s : State) (dt : Nat) (n : TickNext), s.live = true ∧ s.role = .basin ∧ s.get F.CLK_PLLS_STAT.ON_SAFE = 0 ∧ ((s.dispatches = true ∧ n = (if s.tickNow = 0 then ⟨1, (State.advance dt s).time.ext, s.get F.CTL_TICK_PERIOD.PERIOD⟩ else ⟨tickSucc s.tickNow, s.ctl.bound + 10 * s.ctl.per, s.get F.CTL_TICK_PERIOD.PERIOD⟩)) ∨ (s.dispatches = false ∧ s.get F.RED_CLAIM.ROLE = 2 ∧ s.pipeFit = true ∧ ∃ h, s.red.hdr = some h ∧ n = (if s.hdrAhead h then ⟨h.tick, (State.advance dt s).extOf h.bound, h.period⟩ else ⟨tickSucc s.tickNow, s.ctl.bound + 10 * s.ctl.per, s.ctl.per⟩))) ∧ (State.advance dt s).time.ext < n.bound) ∧
    (∃ (s : State) (dt : Nat) (port : Fin 12) (bs : List Block) (x : Telem) (e : _), s.HearsFrame port bs ftTELEM ∧ s.role = .basin ∧ (hear bs).bytes.length = 102 ∧ x = telemOf (hear bs).bytes ∧ s.tickNow ≠ 0 ∧ s.enrOf x.spring = some e ∧ e.epoch = some x.epoch ∧ x.tick = s.tickNow ∧ s.heard x.spring = false ∧ x.spring ∉ s.ctl.late ∧ s.ctl.gathering = true ∧ (State.advance dt s).time.ext ≤ s.deadline) ∧
    (∃ (s : State) (dt : Nat) (port : Fin 12) (bs : List Block) (x : Telem) (e : _), s.HearsFrame port bs ftTELEM ∧ s.role = .basin ∧ (hear bs).bytes.length = 102 ∧ x = telemOf (hear bs).bytes ∧ s.tickNow ≠ 0 ∧ s.enrOf x.spring = some e ∧ e.epoch = some x.epoch ∧ x.tick = s.tickNow ∧ s.heard x.spring = false ∧ x.spring ∉ s.ctl.late ∧ s.ctl.gathering = true ∧ (State.advance dt s).time.ext ≤ s.deadline) ∧
    (∃ (s : State) (dt : Nat) (port : Fin 12) (bs : List Block) (x : Telem) (e : _), s.HearsFrame port bs ftTELEM ∧ s.role = .basin ∧ (hear bs).bytes.length = 102 ∧ x = telemOf (hear bs).bytes ∧ s.tickNow ≠ 0 ∧ s.enrOf x.spring = some e ∧ e.epoch = some x.epoch ∧ x.tick = s.tickNow ∧ s.heard x.spring = false ∧ x.spring ∉ s.ctl.late ∧ (s.ctl.gathering = false ∨ s.deadline < (State.advance dt s).time.ext)) ∧
    (∃ (s : State) (dt : Nat) (port : Fin 12) (bs : List Block) (x : Telem) (e : _), s.HearsFrame port bs ftTELEM ∧ s.role = .basin ∧ (hear bs).bytes.length = 102 ∧ x = telemOf (hear bs).bytes ∧ s.tickNow ≠ 0 ∧ s.enrOf x.spring = some e ∧ e.epoch = some x.epoch ∧ x.tick = s.tickNow ∧ s.heard x.spring = false ∧ x.spring ∉ s.ctl.late ∧ (s.ctl.gathering = false ∨ s.deadline < (State.advance dt s).time.ext)) ∧
    (∃ (s : State) (_dt : Nat) (port : Fin 12) (bs : List Block) (x : Telem) (e : _), s.HearsFrame port bs ftTELEM ∧ s.role = .basin ∧ (hear bs).bytes.length = 102 ∧ x = telemOf (hear bs).bytes ∧ s.tickNow ≠ 0 ∧ s.enrOf x.spring = some e ∧ e.epoch = some x.epoch ∧ x.tick = s.tickNow ∧ s.heard x.spring = true) ∧
    (∃ (s : State) (_dt : Nat) (port : Fin 12) (bs : List Block) (x : Telem) (e : _), s.HearsFrame port bs ftTELEM ∧ s.role = .basin ∧ (hear bs).bytes.length = 102 ∧ x = telemOf (hear bs).bytes ∧ s.tickNow ≠ 0 ∧ s.enrOf x.spring = some e ∧ e.epoch = some x.epoch ∧ x.tick ≠ s.tickNow ∧ (x.spring, x.tick, x.epoch) ∉ s.ctl.disc) ∧
    (∃ (s : State) (_dt : Nat) (port : Fin 12) (bs : List Block) (x : Telem) (e : _) (o : _), s.HearsFrame port bs ftTELEM ∧ s.role = .basin ∧ (hear bs).bytes.length = 102 ∧ x = telemOf (hear bs).bytes ∧ s.tickNow ≠ 0 ∧ s.enrOf x.spring = some e ∧ e.epoch = some o ∧ o ≠ x.epoch ∧ s.dispatches = true) ∧
    (∃ (s : State) (_dt : Nat) (port : Fin 12) (bs : List Block) (x : Telem), s.HearsFrame port bs ftTELEM ∧ s.role = .basin ∧ (hear bs).bytes.length = 102 ∧ x = telemOf (hear bs).bytes ∧ s.tickNow ≠ 0 ∧ s.enrOf x.spring = none ∧ s.dispatches = true ∧ (x.relayed = true ∨ port.val ≠ x.spring / 16 ∨ s.relaying (x.spring / 16) = false)) ∧
    (∃ (s : State) (_dt : Nat) (port : Fin 12) (bs : List Block) (x : Telem), s.HearsFrame port bs ftTELEM ∧ s.role = .basin ∧ (hear bs).bytes.length = 102 ∧ x = telemOf (hear bs).bytes ∧ s.tickNow ≠ 0 ∧ x.relayed = false ∧ port.val = x.spring / 16 ∧ s.relaying (x.spring / 16) = true ∧ s.wholeChains ≠ [] ∧ s.lanesOff = false) ∧
    (∃ (s : State) (_dt : Nat) (port : Fin 12) (bs : List Block), s.live = true ∧ s.role = .basin ∧ s.portUp port = true ∧ ((hear bs).good = false ∨ ftypeOf (hear bs).bytes ≠ ftTELEM ∨ (hear bs).bytes.length ≠ 102)) ∧
    (∃ (s : State) (_dt : Nat) (port : Fin 12) (bs : List Block), s.live = true ∧ s.role = .basin ∧ s.portUp port = true ∧ ((hear bs).good = false ∨ ftypeOf (hear bs).bytes ≠ ftTELEM ∨ (hear bs).bytes.length ≠ 102)) ∧
    (∃ (s : State) (_dt : Nat) (port : Fin 12) (bs : List Block), s.live = true ∧ s.role = .basin ∧ s.portUp port = true ∧ ((hear bs).good = false ∨ ftypeOf (hear bs).bytes ≠ ftTELEM ∨ (hear bs).bytes.length ≠ 102)) ∧
    (∃ (s : State) (dt : Nat) (_grid : GridIn), s.live = true ∧ s.role = .basin ∧ s.get F.CLK_PLLS_STAT.ON_SAFE = 0 ∧ s.ctl.gathering = true ∧ s.deadline ≤ (State.advance dt s).time.ext ∧ s.dispatches = true) ∧
    (∃ (s : State) (dt : Nat) (_grid : GridIn), s.live = true ∧ s.role = .basin ∧ s.get F.CLK_PLLS_STAT.ON_SAFE = 0 ∧ s.ctl.gathering = true ∧ s.deadline ≤ (State.advance dt s).time.ext ∧ s.get F.RED_CLAIM.ROLE = 2 ∧ s.pipeFit = true) ∧
    (∃ (s : State) (dt : Nat) (_grid : GridIn), s.live = true ∧ s.role = .basin ∧ s.get F.CLK_PLLS_STAT.ON_SAFE = 0 ∧ s.ctl.gathering = true ∧ s.deadline ≤ (State.advance dt s).time.ext ∧ s.dispatches = false ∧ (s.get F.RED_CLAIM.ROLE ≠ 2 ∨ s.pipeFit = false)) ∧
    (∃ (s : State) (dt : Nat) (_grid : GridIn), s.live = true ∧ s.role = .basin ∧ (s.get F.CLK_PLLS_STAT.ON_SAFE = 1 ∨ s.ctl.gathering = false ∨ (State.advance dt s).time.ext < s.deadline)) ∧
    (∃ (s : State) (dt : Nat) (_grid : GridIn), s.live = true ∧ s.role = .basin ∧ (s.get F.CLK_PLLS_STAT.ON_SAFE = 1 ∨ s.ctl.gathering = false ∨ (State.advance dt s).time.ext < s.deadline)) ∧
    (∃ (s : State) (dt : Nat) (sp : Fin 192), s.live = true ∧ s.role = .basin ∧ s.ctl.gathering = true ∧ s.deadline ≤ (State.advance dt s).time.ext ∧ (s.enrOf sp).isSome = true ∧ s.heard sp = false ∧ s.cg F.CTL_CTRL.STALE_MAX < countOf s.ctl.runs sp + 1 ∧ sp.val ∉ s.ctl.lost) ∧
    (∃ (s : State) (dt : Nat) (sp : Fin 192), s.live = true ∧ s.role = .basin ∧ s.ctl.gathering = true ∧ s.deadline ≤ (State.advance dt s).time.ext ∧ sp.val ∈ s.ctl.lost ∧ s.heard sp = true ∧ 16 ≤ countOf s.ctl.back sp + 1 ∧ (sp.val ∉ s.tbl.lostPush ∨ s.dispatches = false ∨ s.tbl.img = [])) ∧
    (∃ (s : State) (dt : Nat) (sp : Fin 192), s.live = true ∧ s.role = .basin ∧ s.ctl.gathering = true ∧ s.deadline ≤ (State.advance dt s).time.ext ∧ sp.val ∈ s.ctl.lost ∧ s.heard sp = true ∧ 16 ≤ countOf s.ctl.back sp + 1 ∧ sp.val ∈ s.tbl.lostPush ∧ s.dispatches = true ∧ s.tbl.img ≠ [] ∧ (s.springImage s.tbl.img sp).length ≤ 65536) ∧
    (∃ (s : State) (dt : Nat) (sp : Fin 192), s.live = true ∧ s.role = .basin ∧ (s.ctl.gathering = false ∨ (State.advance dt s).time.ext < s.deadline ∨ s.heard sp = true ∨ sp.val ∈ s.ctl.lost ∨ countOf s.ctl.runs sp + 1 ≤ s.cg F.CTL_CTRL.STALE_MAX)) ∧
    (∃ (s : State) (dt : Nat) (sp : Fin 192), s.live = true ∧ s.role = .basin ∧ (s.ctl.gathering = false ∨ (State.advance dt s).time.ext < s.deadline ∨ s.heard sp = true ∨ sp.val ∈ s.ctl.lost ∨ countOf s.ctl.runs sp + 1 ≤ s.cg F.CTL_CTRL.STALE_MAX)) ∧
    (∃ (s : State) (dt : Nat) (sp : Fin 192), s.live = true ∧ s.role = .basin ∧ (s.ctl.gathering = false ∨ (State.advance dt s).time.ext < s.deadline ∨ s.heard sp = false ∨ sp.val ∉ s.ctl.lost ∨ countOf s.ctl.back sp + 1 < 16)) ∧
    (∃ (s : State) (dt : Nat) (sp : Fin 192), s.live = true ∧ s.role = .basin ∧ (s.ctl.gathering = false ∨ (State.advance dt s).time.ext < s.deadline ∨ s.heard sp = false ∨ sp.val ∉ s.ctl.lost ∨ countOf s.ctl.back sp + 1 < 16)) :=
  ⟨⟨{ active0 with regs := (active0.set F.CLK_PLLS_STAT.ON_SAFE 0).regs }, 5, ⟨1, (State.advance 5 { active0 with regs := (active0.set F.CLK_PLLS_STAT.ON_SAFE 0).regs }).time.ext, 5000⟩, (by decide +kernel), (by decide +kernel), (by decide +kernel), (by decide +kernel), (by decide +kernel)⟩,
   ⟨gathering0, 25000, ⟨6, 50000, 5000⟩, (by decide +kernel), (by decide +kernel), (by decide +kernel), (by decide +kernel), (by decide +kernel)⟩,
   ⟨shadow0, 2500, ⟨5, 5000, 5000⟩, (by decide +kernel), (by decide +kernel), (by decide +kernel), (by decide +kernel), (by decide +kernel)⟩,
   ⟨{ shadow0 with red := { shadow0.red with hdr := some { hdr0 with tick := 7 } } }, 2600, ⟨7, 5000, 5000⟩, (by decide +kernel), (by decide +kernel), (by decide +kernel), (by decide +kernel), (by decide +kernel)⟩,
   ⟨{ shadow0 with red := { shadow0.red with hdr := some { hdr0 with tick := 4 } } }, 25000, ⟨5, 50000, 5000⟩, (by decide +kernel), (by decide +kernel), (by decide +kernel), (by decide +kernel), (by decide +kernel)⟩,
   ⟨gathering0, 24999, ⟨6, 50000, 5000⟩, (by decide +kernel), (by decide +kernel), (by decide +kernel), (by decide +kernel), (by decide +kernel)⟩,
   ⟨shadow0, 2400, ⟨5, 5000, 5000⟩, (by decide +kernel), (by decide +kernel), (by decide +kernel), (by decide +kernel), (by decide +kernel)⟩,
   ⟨gathering0, 5, 1, (telBs telem0), (tel telem0), ⟨16, some 3, 0, 0⟩, (by unfold State.HearsFrame; decide +kernel), (by decide +kernel), (by decide +kernel), (rfl), (by decide +kernel), (by decide +kernel), (by decide +kernel), (by decide +kernel), (by decide +kernel), (by decide +kernel), (by decide +kernel), (by decide +kernel)⟩,
   ⟨gathering0, 5, 2, (telBs { telem0 with relayed := true }), (tel { telem0 with relayed := true }), ⟨16, some 3, 0, 0⟩, (by unfold State.HearsFrame; decide +kernel), (by decide +kernel), (by decide +kernel), (rfl), (by decide +kernel), (by decide +kernel), (by decide +kernel), (by decide +kernel), (by decide +kernel), (by decide +kernel), (by decide +kernel), (by decide +kernel)⟩,
   ⟨gathering0, 25000, 1, (telBs telem0), (tel telem0), ⟨16, some 3, 0, 0⟩, (by unfold State.HearsFrame; decide +kernel), (by decide +kernel), (by decide +kernel), (rfl), (by decide +kernel), (by decide +kernel), (by decide +kernel), (by decide +kernel), (by decide +kernel), (by decide +kernel), (by decide +kernel)⟩,
   ⟨{ gathering0 with ctl := { gathering0.ctl with gathering := false } }, 5, 1, (telBs telem0), (tel telem0), ⟨16, some 3, 0, 0⟩, (by unfold State.HearsFrame; decide +kernel), (by decide +kernel), (by decide +kernel), (rfl), (by decide +kernel), (by decide +kernel), (by decide +kernel), (by decide +kernel), (by decide +kernel), (by decide +kernel), (by decide +kernel)⟩,
   ⟨{ gathering0 with ctl := { gathering0.ctl with got := [telem0] } }, 5, 1, (telBs telem0), (tel telem0), ⟨16, some 3, 0, 0⟩, (by unfold State.HearsFrame; decide +kernel), (by decide +kernel), (by decide +kernel), (rfl), (by decide +kernel), (by decide +kernel), (by decide +kernel), (by decide +kernel), (by decide +kernel)⟩,
   ⟨gathering0, 5, 1, (telBs { telem0 with tick := 4 }), (tel { telem0 with tick := 4 }), ⟨16, some 3, 0, 0⟩, (by unfold State.HearsFrame; decide +kernel), (by decide +kernel), (by decide +kernel), (rfl), (by decide +kernel), (by decide +kernel), (by decide +kernel), (by decide +kernel), (by decide +kernel)⟩,
   ⟨gathering0, 5, 1, (telBs { telem0 with epoch := 4 }), (tel { telem0 with epoch := 4 }), ⟨16, some 3, 0, 0⟩, 3, (by unfold State.HearsFrame; decide +kernel), (by decide +kernel), (by decide +kernel), (rfl), (by decide +kernel), (by decide +kernel), (by decide +kernel), (by decide +kernel), (by decide +kernel)⟩,
   ⟨gathering0, 5, 1, (telBs { telem0 with spring := 17 }), (tel { telem0 with spring := 17 }), (by unfold State.HearsFrame; decide +kernel), (by decide +kernel), (by decide +kernel), (rfl), (by decide +kernel), (by decide +kernel), (by decide +kernel), (by decide +kernel)⟩,
   ⟨(lit { gathering0 with lnk := { gathering0.lnk with enrolled := [⟨16, some 3, 0, 0⟩, ⟨33, some 3, 0, 0⟩], relayed := [(1, 5)] } }), 5, 1, (telBs telem0), (tel telem0), (by unfold State.HearsFrame; decide +kernel), (by decide +kernel), (by decide +kernel), (rfl), (by decide +kernel), (by decide +kernel), (by decide +kernel), (by decide +kernel), (by decide +kernel), (by decide +kernel)⟩,
   ⟨gathering0, 5, 1, [.start [2, 16, 0, 0, 0, 0, 0], .other], (by decide +kernel), (by decide +kernel), (by decide +kernel), (by decide +kernel)⟩,
   ⟨gathering0, 5, 1, (frameBlocks ((wireBytes (.telem telem0)).set 5 9)), (by decide +kernel), (by decide +kernel), (by decide +kernel), (by decide +kernel)⟩,
   ⟨gathering0, 5, 1, (heard (.sync ⟨0, 0, false, 0, 0, 0, 0, 0⟩)), (by decide +kernel), (by decide +kernel), (by decide +kernel), (by decide +kernel)⟩,
   ⟨gathering0, 25000, {}, (by decide +kernel), (by decide +kernel), (by decide +kernel), (by decide +kernel), (by decide +kernel), (by decide +kernel)⟩,
   ⟨(gathering0.set F.RED_CLAIM.ROLE 2), 25000, {}, (by decide +kernel), (by decide +kernel), (by decide +kernel), (by decide +kernel), (by decide +kernel), (by decide +kernel), (by decide +kernel)⟩,
   ⟨(gathering0.set F.RED_CLAIM.ROLE 4), 25000, {}, (by decide +kernel), (by decide +kernel), (by decide +kernel), (by decide +kernel), (by decide +kernel), (by decide +kernel), (by decide +kernel)⟩,
   ⟨gathering0, 5, {}, (by decide +kernel), (by decide +kernel), (by decide +kernel)⟩,
   ⟨State.reset, 5, {}, (by decide +kernel), (by decide +kernel), (by decide +kernel)⟩,
   ⟨{ gathering0 with ctl := { gathering0.ctl with runs := [(16, 3)] } }, 25000, 16, (by decide +kernel), (by decide +kernel), (by decide +kernel), (by decide +kernel), (by decide +kernel), (by decide +kernel), (by decide +kernel), (by decide +kernel)⟩,
   ⟨{ gathering0 with ctl := { gathering0.ctl with lost := [16, 17], got := [telem0], back := [(16, 15)] } }, 25000, 16, (by decide +kernel), (by decide +kernel), (by decide +kernel), (by decide +kernel), (by decide +kernel), (by decide +kernel), (by decide +kernel), (by decide +kernel)⟩,
   ⟨{ gathering0 with tbl := { gathering0.tbl with lostPush := [16, 18] }, ctl := { gathering0.ctl with lost := [16, 17], got := [telem0], back := [(16, 15)] } }, 25000, 16, (by decide +kernel), (by decide +kernel), (by decide +kernel), (by decide +kernel), (by decide +kernel), (by decide +kernel), (by decide +kernel), (by decide +kernel), (by decide +kernel), (by decide +kernel), (by decide +kernel)⟩,
   ⟨gathering0, 25000, 16, (by decide +kernel), (by decide +kernel), (by decide +kernel)⟩,
   ⟨State.reset, 25000, 16, (by decide +kernel), (by decide +kernel), (by decide +kernel)⟩,
   ⟨{ gathering0 with ctl := { gathering0.ctl with lost := [16, 17], got := [telem0], back := [(16, 14)] } }, 25000, 16, (by decide +kernel), (by decide +kernel), (by decide +kernel)⟩,
   ⟨State.reset, 25000, 16, (by decide +kernel), (by decide +kernel), (by decide +kernel)⟩⟩

/-- States that meet the hypotheses of StationStateMachine, clause by clause. -/
theorem meets_StationStateMachine :
    (∃ (s : State), s.pwr.stuck = false ∧ (∀ x ∈ s.dueBy (tickSucc s.tickNow), x.d.opcode ≠ ocRESUME) ∧ s.ctl.moved = false ∧ s.station < s.ctl.hw ∧ s.ctl.hw ≤ 31) ∧
    (∃ (s : State), s.pwr.stuck = false ∧ (∀ x ∈ s.dueBy (tickSucc s.tickNow), x.d.opcode ≠ ocRESUME) ∧ s.ctl.moved = false ∧ 28 ≤ s.station ∧ s.ctl.hw ≤ s.station) ∧
    (∃ (s : State), s.pwr.stuck = false ∧ (∀ x ∈ s.dueBy (tickSucc s.tickNow), x.d.opcode ≠ ocRESUME) ∧ s.ctl.moved = false ∧ 28 ≤ s.station ∧ s.ctl.hw ≤ s.station) ∧
    (∃ (s : State), s.pwr.stuck = false ∧ (∀ x ∈ s.dueBy (tickSucc s.tickNow), x.d.opcode ≠ ocRESUME) ∧ s.ctl.moved = false ∧ s.ctl.hw = 0 ∧ s.station = 0) ∧
    (∃ (s : State), s.pwr.stuck = false ∧ (∀ x ∈ s.dueBy (tickSucc s.tickNow), x.d.opcode ≠ ocRESUME) ∧ s.ctl.moved = false ∧ s.ctl.hw = 0 ∧ s.station = 0) ∧
    (∃ (s : State), s.pwr.stuck = false ∧ (∀ x ∈ s.dueBy (tickSucc s.tickNow), x.d.opcode ≠ ocRESUME) ∧ s.ctl.moved = false ∧ s.ctl.hw = 0 ∧ 1 ≤ s.station ∧ s.station ≤ 27) ∧
    (∃ (s : State), s.pwr.stuck = false ∧ (∀ x ∈ s.dueBy (tickSucc s.tickNow), x.d.opcode ≠ ocRESUME) ∧ s.ctl.moved = false ∧ s.ctl.hw = 0 ∧ 1 ≤ s.station ∧ s.station ≤ 27) ∧
    (∃ (s : State) (i : _) (r : _), s.pwr.stuck = false ∧ (∀ x ∈ s.dueBy (tickSucc s.tickNow), x.d.opcode ≠ ocRESUME) ∧ s.ctl.moved = false ∧ s.smPick = some (i, r)) ∧
    (∃ (s : State) (i : _) (r : _) (j : _) (y : _), s.pwr.stuck = false ∧ (∀ x ∈ s.dueBy (tickSucc s.tickNow), x.d.opcode ≠ ocRESUME) ∧ s.ctl.moved = false ∧ s.smPick = some (i, r) ∧ j < i ∧ (smRows (s.tbl8 secSTATE))[j]? = some y) :=
  ⟨⟨{ gathering0 with ctl := { gathering0.ctl with hw := 31 } }, (by decide +kernel), (by decide +kernel), (by decide +kernel), (by decide +kernel), (by decide +kernel)⟩,
   ⟨(gathering0.set F.CTL_STATUS.STATE 31), (by decide +kernel), (by decide +kernel), (by decide +kernel), (by decide +kernel), (by decide +kernel)⟩,
   ⟨{ (gathering0.set F.CTL_STATUS.STATE 28) with ctl := { gathering0.ctl with hw := 28 } }, (by decide +kernel), (by decide +kernel), (by decide +kernel), (by decide +kernel), (by decide +kernel)⟩,
   ⟨gathering0, (by decide +kernel), (by decide +kernel), (by decide +kernel), (by decide +kernel), (by decide +kernel)⟩,
   ⟨{ (fields gathering0 [(F.SAFE_STAT.GUARD_TESTED, 1), (F.SAFE_STAT.OUT_ON, 1)]) with pwr := { gathering0.pwr with steps := [8, 9] } }, (by decide +kernel), (by decide +kernel), (by decide +kernel), (by decide +kernel), (by decide +kernel)⟩,
   ⟨(gathering0.set F.CTL_STATUS.STATE 27), (by decide +kernel), (by decide +kernel), (by decide +kernel), (by decide +kernel), (by decide +kernel), (by decide +kernel)⟩,
   ⟨((stated0 [2, 3, 6, 1, 0, 0, 0, 0]).set F.CTL_STATUS.STATE 2), (by decide +kernel), (by decide +kernel), (by decide +kernel), (by decide +kernel), (by decide +kernel), (by decide +kernel)⟩,
   ⟨((stated0 [2, 3, 6, 1, 0, 0, 0, 0]).set F.CTL_STATUS.STATE 2), 0, ⟨2, 3, 6, 1, 0⟩, (by decide +kernel), (by decide +kernel), (by decide +kernel), (by decide +kernel)⟩,
   ⟨((stated0 [2, 3, 1, 0, 0, 0, 0, 0, 2, 3, 6, 1, 0, 0, 0, 0]).set F.CTL_STATUS.STATE 2), 1, ⟨2, 3, 6, 1, 0⟩, 0, ⟨2, 3, 1, 0, 0⟩, (by decide +kernel), (by decide +kernel), (by decide +kernel), (by decide +kernel), (by decide +kernel), (by decide +kernel)⟩⟩

/-- States that meet the hypotheses of CompletionsInFetchOrder, clause by clause. -/
theorem meets_CompletionsInFetchOrder :
    (∃ (s : State) (t : State) (dt : Nat) (q : Fin 16), exec (.completionWrite dt q) s = .next t) ∧
    (∃ (s : State) (t : State) (dt : Nat) (p : Nat) (_q : Nat) (b : List Nat), s.live = true ∧ s.role = .basin ∧ s.fetchPair = some p ∧ exec (.descriptorFetch dt b) s = .next t) :=
  ⟨⟨waiting0, (after (.completionWrite 5 2) waiting0), 5, 2, (rfl)⟩,
   ⟨{ waiting0 with host := { waiting0.host with pairs := waiting0.host.pairs.set 2 { sqTail := 3 } } }, (after (.descriptorFetch 5 (descBytes nop0)) { waiting0 with host := { waiting0.host with pairs := waiting0.host.pairs.set 2 { sqTail := 3 } } }), 5, 2, 2, (descBytes nop0), (by decide +kernel), (by decide +kernel), (by decide +kernel), (rfl)⟩⟩

/-- States that meet the hypotheses of BlocksOfTheOtherRole, clause by clause. -/
theorem meets_BlocksOfTheOtherRole :
    (∃ (s : State) (o : Nat), s.role = .basin ∧ 0x28000 ≤ o ∧ o < 0x30000) ∧
    (∃ (s : State) (o : Nat), s.role = .basin ∧ 0x28000 ≤ o ∧ o < 0x30000) ∧
    (∃ (s : State) (o : Nat), s.role = .basin ∧ 0x28000 ≤ o ∧ o < 0x30000) ∧
    (∃ (s : State) (o : Nat), s.role = .spring ∧ 0x4000 ≤ o ∧ o < 0x8000) ∧
    (∃ (s : State) (o : Nat), s.role = .spring ∧ 0x4000 ≤ o ∧ o < 0x8000) ∧
    (∃ (s : State) (o : Nat), s.role = .spring ∧ 0x4000 ≤ o ∧ o < 0x8000) ∧
    (∃ (s : State) (_dt : Nat) (off : Nat) (ws : List Word) (_w : WrIn), s.live = true ∧ s.role = .basin ∧ 0x28000 ≤ off ∧ off + 4 * ws.length ≤ 0x30000) ∧
    (∃ (s : State) (_dt : Nat) (off : Nat) (ws : List Word) (_w : WrIn), s.live = true ∧ s.role = .basin ∧ 0x28000 ≤ off ∧ off + 4 * ws.length ≤ 0x30000) ∧
    (∃ (s : State) (o : Nat) (_v : Nat) (_w : WrIn), s.role = .spring ∧ 0x4000 ≤ o ∧ o < 0x8000) ∧
    (∃ (s : State) (o : Nat) (_v : Nat) (_w : WrIn), s.role = .spring ∧ 0x4000 ≤ o ∧ o < 0x8000) ∧
    (∃ (s : State) (o : Nat) (_v : Nat) (_w : WrIn), s.role = .spring ∧ 0x4000 ≤ o ∧ o < 0x8000) ∧
    (∃ (s : State) (_o : Nat), s.role = .spring) ∧
    (∃ (s : State) (_q : Fin 16) (_v : Word), s.live = true ∧ s.role = .basin ∧ s.host.dbSq.length = 16) ∧
    (∃ (s : State) (_q : Fin 16) (_v : Word), s.live = true ∧ s.role = .basin ∧ s.host.dbCq.length = 16) ∧
    (∃ (_s : State) (o : Nat), (0x80 ≤ o ∨ o % 4 ≠ 0)) ∧
    (∃ (_s : State) (o : Nat), (0x80 ≤ o ∨ o % 4 ≠ 0)) ∧
    (∃ (_s : State) (o : Nat) (i : Nat) (n : Nat), o % 4 = 0 ∧ (n = 1 ∧ i < 4 ∨ n = 2 ∧ (i = 0 ∨ i = 2))) ∧
    (∃ (_s : State) (o : Nat) (i : Nat) (n : Nat), o % 4 = 0 ∧ (n = 1 ∧ i < 4 ∨ n = 2 ∧ (i = 0 ∨ i = 2))) ∧
    (∃ (_s : State) (r : HostRd), (r.whole = false ∨ (r.len = 2 ∧ r.off % 2 = 1) ∨ r.len = 3 ∨ r.len = 0 ∨ (4 ≤ r.len ∧ (r.len % 4 ≠ 0 ∨ r.off % 4 ≠ 0)))) ∧
    (∃ (_s : State) (r : HostRd), (r.whole = false ∨ (r.len = 2 ∧ r.off % 2 = 1) ∨ r.len = 3 ∨ r.len = 0 ∨ (4 ≤ r.len ∧ (r.len % 4 ≠ 0 ∨ r.off % 4 ≠ 0)))) ∧
    (∃ (_s : State) (r : HostRd), (r.whole = false ∨ (r.len = 2 ∧ r.off % 2 = 1) ∨ r.len = 3 ∨ r.len = 0 ∨ (4 ≤ r.len ∧ (r.len % 4 ≠ 0 ∨ r.off % 4 ≠ 0)))) ∧
    (∃ (_s : State) (r : HostRd), (r.whole = false ∨ (r.len = 2 ∧ r.off % 2 = 1) ∨ r.len = 3 ∨ r.len = 0 ∨ (4 ≤ r.len ∧ (r.len % 4 ≠ 0 ∨ r.off % 4 ≠ 0)))) ∧
    (∃ (_s : State) (r : HostRd), (r.whole = false ∨ (r.len = 2 ∧ r.off % 2 = 1) ∨ r.len = 3 ∨ r.len = 0 ∨ (4 ≤ r.len ∧ (r.len % 4 ≠ 0 ∨ r.off % 4 ≠ 0)))) ∧
    (∃ (s : State) (q : Fin 16) (v : Word) (n : Fin 64) (dt : Nat) (off : Nat) (len : Nat) (m : Bool) (sp : Fin 4) (wd : Fin 5) (c : List (Nat × Word)) (ws : List Word) (w : WrIn) (i : _), s.role = .spring ∧ i ∈ [Instr.sqTailDoorbell q v, .cqHeadDoorbell q v, .hifWdWrite v, .qpEnable q, .qpDisable q, .pcieLinkDown, .pcieFlr, .pcieLinkUp sp wd c, .msixSend dt n m, .msixUnmask n m, .registerWrite dt off len ws w]) ∧
    (∃ (s : State) (q : Fin 16) (v : Word) (n : Fin 64) (dt : Nat) (off : Nat) (len : Nat) (m : Bool) (sp : Fin 4) (wd : Fin 5) (c : List (Nat × Word)) (ws : List Word) (w : WrIn) (i : _), s.role = .spring ∧ i ∈ [Instr.sqTailDoorbell q v, .cqHeadDoorbell q v, .hifWdWrite v, .qpEnable q, .qpDisable q, .pcieLinkDown, .pcieFlr, .pcieLinkUp sp wd c, .msixSend dt n m, .msixUnmask n m, .registerWrite dt off len ws w]) :=
  ⟨⟨State.reset, 0x28000, (by decide +kernel), (by decide +kernel), (by decide +kernel)⟩,
   ⟨State.reset, 0x2C000, (by decide +kernel), (by decide +kernel), (by decide +kernel)⟩,
   ⟨State.reset, 0x2FFFC, (by decide +kernel), (by decide +kernel), (by decide +kernel)⟩,
   ⟨spring0, 0x4000, (by decide +kernel), (by decide +kernel), (by decide +kernel)⟩,
   ⟨spring0, 0x7FFC, (by decide +kernel), (by decide +kernel), (by decide +kernel)⟩,
   ⟨spring0, 0x7000, (by decide +kernel), (by decide +kernel), (by decide +kernel)⟩,
   ⟨State.reset, 5, 0x28000, [0#32, 5#32], {}, (by decide +kernel), (by decide +kernel), (by decide +kernel), (by decide +kernel)⟩,
   ⟨State.reset, 5, 0x2FFFC, [7#32], {}, (by decide +kernel), (by decide +kernel), (by decide +kernel), (by decide +kernel)⟩,
   ⟨spring0, 0x4000, 5, {}, (by decide +kernel), (by decide +kernel), (by decide +kernel)⟩,
   ⟨spring0, 0x7FFC, 7, {}, (by decide +kernel), (by decide +kernel), (by decide +kernel)⟩,
   ⟨spring0, 0x7008, 7, {}, (by decide +kernel), (by decide +kernel), (by decide +kernel)⟩,
   ⟨spring0, 8, (by decide +kernel)⟩,
   ⟨sub0, 2, 5#32, (by decide +kernel), (by decide +kernel), (by decide +kernel)⟩,
   ⟨sub0, 15, 5#32, (by decide +kernel), (by decide +kernel), (by decide +kernel)⟩,
   ⟨State.reset, 0x80, (by decide +kernel)⟩,
   ⟨State.reset, 0x7E, (by decide +kernel)⟩,
   ⟨State.reset, 0, 3, 1, (by decide +kernel), (by decide +kernel)⟩,
   ⟨State.reset, F.TIME_STAMP.VALUE.off, 2, 2, (by decide +kernel), (by decide +kernel)⟩,
   ⟨State.reset, ⟨0, 4, false⟩, (by decide +kernel)⟩,
   ⟨State.reset, ⟨1, 2, true⟩, (by decide +kernel)⟩,
   ⟨State.reset, ⟨0, 3, true⟩, (by decide +kernel)⟩,
   ⟨State.reset, ⟨2, 4, true⟩, (by decide +kernel)⟩,
   ⟨State.reset, ⟨0, 6, true⟩, (by decide +kernel)⟩,
   ⟨spring0, 3, 7#32, 3, 5, 0, 4, true, 1, 2, [], [0#32], {}, .pcieLinkDown, (by decide +kernel), (by decide +kernel)⟩,
   ⟨spring0, 3, 7#32, 3, 5, 0, 4, true, 1, 2, [], [0#32], {}, (.registerWrite 5 0 4 [0#32] {}), (by decide +kernel), (by decide +kernel)⟩⟩

/-- States that meet the hypotheses of CellCommands, clause by clause. -/
theorem meets_CellCommands :
    (∃ (s : State) (sp : Fin 256), s.live = true ∧ s.role = .basin ∧ (191 < sp.val ∨ armOf (s.tbl8 secARM) sp = none)) ∧
    (∃ (s : State) (sp : Fin 256), s.live = true ∧ s.role = .basin ∧ (191 < sp.val ∨ armOf (s.tbl8 secARM) sp = none)) ∧
    (∃ (s : State) (sp : Fin 256) (a : _), s.live = true ∧ s.role = .basin ∧ sp.val ≤ 191 ∧ armOf (s.tbl8 secARM) sp = some a) ∧
    (∃ (s : State) (sp : Fin 256) (a : _), s.live = true ∧ s.role = .basin ∧ sp.val ≤ 191 ∧ armOf (s.tbl8 secARM) sp = some a ∧ (s.slArm a).items ≠ []) ∧
    (∃ (s : State) (sp : Fin 256) (a : _), s.live = true ∧ s.role = .basin ∧ sp.val ≤ 191 ∧ armOf (s.tbl8 secARM) sp = some a ∧ (s.slArm a).items = [] ∧ s.roleOf sp = roWITHDRAWN ∧ s.spareReady sp = true ∧ (∀ x, s.thm.sprs.find? (fun x => x.spring == sp.val) = some x → x.shut = false) ∧ sp.val ∉ s.slu.expired ∧ (sp.val ∉ s.slu.fresh ∨ sp.val ∈ s.tbl.loaded)) ∧
    (∃ (s : State) (sp : Fin 256) (a : _), s.live = true ∧ s.role = .basin ∧ sp.val ≤ 191 ∧ armOf (s.tbl8 secARM) sp = some a ∧ (s.slArm a).items = [] ∧ s.roleOf sp = roWITHDRAWN ∧ s.spareReady sp = true ∧ (∀ x, s.thm.sprs.find? (fun x => x.spring == sp.val) = some x → x.shut = false) ∧ sp.val ∉ s.slu.expired ∧ (sp.val ∉ s.slu.fresh ∨ sp.val ∈ s.tbl.loaded)) ∧
    (∃ (s : State) (sp : Fin 256) (a : _), s.live = true ∧ s.role = .basin ∧ sp.val ≤ 191 ∧ armOf (s.tbl8 secARM) sp = some a ∧ (s.slArm a).items = [] ∧ (s.roleOf sp ≠ roWITHDRAWN ∨ s.spareReady sp = false ∨ (∃ x, s.thm.sprs.find? (fun x => x.spring == sp.val) = some x ∧ x.shut = true) ∨ sp.val ∈ s.slu.expired ∨ (sp.val ∈ s.slu.fresh ∧ sp.val ∉ s.tbl.loaded))) ∧
    (∃ (s : State) (sp : Fin 256) (a : _), s.live = true ∧ s.role = .basin ∧ sp.val ≤ 191 ∧ armOf (s.tbl8 secARM) sp = some a ∧ (s.slArm a).items = [] ∧ (s.roleOf sp ≠ roWITHDRAWN ∨ s.spareReady sp = false ∨ (∃ x, s.thm.sprs.find? (fun x => x.spring == sp.val) = some x ∧ x.shut = true) ∨ sp.val ∈ s.slu.expired ∨ (sp.val ∈ s.slu.fresh ∧ sp.val ∉ s.tbl.loaded))) ∧
    (∃ (s : State) (sp : Fin 256) (a : _), s.live = true ∧ s.role = .basin ∧ sp.val ≤ 191 ∧ armOf (s.tbl8 secARM) sp = some a ∧ (s.slArm a).items = [] ∧ (s.roleOf sp ≠ roWITHDRAWN ∨ s.spareReady sp = false ∨ (∃ x, s.thm.sprs.find? (fun x => x.spring == sp.val) = some x ∧ x.shut = true) ∨ sp.val ∈ s.slu.expired ∨ (sp.val ∈ s.slu.fresh ∧ sp.val ∉ s.tbl.loaded))) :=
  ⟨⟨armed0, 192, (by decide +kernel), (by decide +kernel), (by decide +kernel)⟩,
   ⟨armed0, 191, (by decide +kernel), (by decide +kernel), (by decide +kernel)⟩,
   ⟨armed0, 16, 0, (by decide +kernel), (by decide +kernel), (by decide +kernel), (by decide +kernel)⟩,
   ⟨{ armed0 with slu := { armed0.slu with arms := armed0.slu.arms.set 0 { armed0.slu.arms.getD 0 {} with items := [⟨some 0, 4, 0, some 16, none, false⟩] } } }, 0, 0, (by decide +kernel), (by decide +kernel), (by decide +kernel), (by decide +kernel), (by decide +kernel)⟩,
   ⟨{ (fields gathering0 [(F.SLU_ROLE.ROLE 1, 3)]) with ctl := { gathering0.ctl with used := [{ telem0 with bypClosed := true }], got := [telem0] } }, 16, 0, (by decide +kernel), (by decide +kernel), (by decide +kernel), (by decide +kernel), (by decide +kernel), (by decide +kernel), (by decide +kernel), (of_some (by decide +kernel)), (by decide +kernel), (by decide +kernel)⟩,
   ⟨{ ({ (fields gathering0 [(F.SLU_ROLE.ROLE 1, 3)]) with ctl := { gathering0.ctl with used := [{ telem0 with bypClosed := true }], got := [telem0] } }) with slu := { armed0.slu with fresh := [16] }, tbl := { armed0.tbl with loaded := [16] } }, 16, 0, (by decide +kernel), (by decide +kernel), (by decide +kernel), (by decide +kernel), (by decide +kernel), (by decide +kernel), (by decide +kernel), (of_some (by decide +kernel)), (by decide +kernel), (by decide +kernel)⟩,
   ⟨armed0, 16, 0, (by decide +kernel), (by decide +kernel), (by decide +kernel), (by decide +kernel), (by decide +kernel), (by decide +kernel)⟩,
   ⟨{ ({ (fields gathering0 [(F.SLU_ROLE.ROLE 1, 3)]) with ctl := { gathering0.ctl with used := [{ telem0 with bypClosed := true }], got := [telem0] } }) with slu := { armed0.slu with fresh := [16] } }, 16, 0, (by decide +kernel), (by decide +kernel), (by decide +kernel), (by decide +kernel), (by decide +kernel), (by decide +kernel)⟩,
   ⟨{ ({ (fields gathering0 [(F.SLU_ROLE.ROLE 1, 3)]) with ctl := { gathering0.ctl with used := [{ telem0 with bypClosed := true }], got := [telem0] } }) with slu := { armed0.slu with expired := [16] } }, 16, 0, (by decide +kernel), (by decide +kernel), (by decide +kernel), (by decide +kernel), (by decide +kernel), (by decide +kernel)⟩⟩

/-- States that meet the hypotheses of FramesReadBack, clause by clause. -/
theorem meets_FramesReadBack :
    (∃ (f : Frame), f.wf = true) ∧
    (∃ (f : Frame), f.wf = true) ∧
    (∃ (f : TickFrame), f.wf = true ∧ f.hdr.todValid = Config.todShown f.hdr.todSec f.hdr.todNs) ∧
    (∃ (x : Telem), x.wf = true) ∧
    (∃ (m : Mgmt), m.wf = true) ∧
    (∃ (m : Mgmt), m.wf = true) ∧
    (∃ (f : SyncFrame), f.wf = true) ∧
    (∃ (f : Frame) (g : Frame) (n : Nat), f.wf = true ∧ g.wf = true ∧ 0 < n ∧ n < (frameBlocks (wireBytes f)).length ∧ (ftypeOf (wireBytes f) = ftMGMT ∨ ftypeOf (wireBytes f) = ftSYNC)) ∧
    (∃ (f : Frame) (g : Frame) (n : Nat), f.wf = true ∧ g.wf = true ∧ 0 < n ∧ n < (frameBlocks (wireBytes f)).length ∧ (ftypeOf (wireBytes f) = ftMGMT ∨ ftypeOf (wireBytes f) = ftSYNC)) ∧
    (∃ (f : Frame) (g : Frame) (n : Nat), f.wf = true ∧ g.wf = true ∧ 0 < n ∧ n < (frameBlocks (wireBytes f)).length ∧ (ftypeOf (wireBytes f) = ftTICK ∨ ftypeOf (wireBytes f) = ftTELEM)) ∧
    (∃ (f : Frame) (v : Nat) (_n : Nat), f.wf = true ∧ osetCode v = ocWEIR) ∧
    (∃ (f : Frame) (v : Nat) (_n : Nat), f.wf = true ∧ osetCode v = ocWEIR) :=
  ⟨⟨(.tick frame0), (by decide +kernel)⟩,
   ⟨(.mgmt (mgmt0 1 8 [1, 0])), (by decide +kernel)⟩,
   ⟨{ frame0 with hdr := { hdr0 with todValid := Config.todShown hdr0.todSec hdr0.todNs } }, (by decide +kernel), (rfl)⟩,
   ⟨{ telem0 with sel := [-3, 4, 5, 6], timeErr := -7 }, (by decide +kernel)⟩,
   ⟨(mgmt0 1 8 [1, 0]), (by decide +kernel)⟩,
   ⟨(mgmt0 1 8 (List.replicate 256 7)), (by decide +kernel)⟩,
   ⟨⟨1, 7, false, 6, 5, 4, 3, -2⟩, (by decide +kernel)⟩,
   ⟨(.mgmt (mgmt0 1 8 [1, 0])), (.telem telem0), 1, (by decide +kernel), (by decide +kernel), (by decide +kernel), (by decide +kernel), (by decide +kernel)⟩,
   ⟨(.sync ⟨1, 7, false, 6, 0, 0, 0, 0⟩), (.tick frame0), 4, (by decide +kernel), (by decide +kernel), (by decide +kernel), (by decide +kernel), (by decide +kernel)⟩,
   ⟨(.telem telem0), (.sync ⟨1, 7, false, 6, 0, 0, 0, 0⟩), 3, (by decide +kernel), (by decide +kernel), (by decide +kernel), (by decide +kernel), (by decide +kernel)⟩,
   ⟨(.telem telem0), (weirSet ⟨1, 3, 2, 16, 7, 99⟩), 4, (by decide +kernel), (by decide +kernel)⟩,
   ⟨(.tick frame0), 0xA, 0, (by decide +kernel), (by decide +kernel)⟩⟩

/-- States that meet the hypotheses of RecordsReadBack, clause by clause. -/
theorem meets_RecordsReadBack :
    (∃ (x : WeirSet), x.scope < 4 ∧ x.arm < 16 ∧ x.cause < 16 ∧ x.origin < 256 ∧ x.seq < 256 ∧ x.stamp < 2 ^ 18) ∧
    (∃ (x : WeirSet), x.scope < 4 ∧ x.arm < 16 ∧ x.cause < 16 ∧ x.origin < 256 ∧ x.seq < 256 ∧ x.stamp < 2 ^ 18) ∧
    (∃ (_locked : Bool) (_role : Role) (count : Nat) (port : Nat), count < 256 ∧ port < 16) ∧
    (∃ (r : EvRec), r.seq < 2 ^ 32 ∧ r.stamp < 2 ^ 32 ∧ r.secLo < 2 ^ 32 ∧ r.epoch < 2 ^ 16 ∧ r.code < 2 ^ 16 ∧ r.source < 256 ∧ r.commit < 256 ∧ r.sev < 16 ∧ r.suppressed < 2 ^ 16 ∧ r.lseq < 2 ^ 16 ∧ r.tick < 2 ^ 32 ∧ r.payload.length = 32 ∧ (∀ x ∈ r.payload, x < 256)) ∧
    (∃ (r : EvRec), r.seq < 2 ^ 32 ∧ r.stamp < 2 ^ 32 ∧ r.secLo < 2 ^ 32 ∧ r.epoch < 2 ^ 16 ∧ r.code < 2 ^ 16 ∧ r.source < 256 ∧ r.commit < 256 ∧ r.sev < 16 ∧ r.suppressed < 2 ^ 16 ∧ r.lseq < 2 ^ 16 ∧ r.tick < 2 ^ 32 ∧ r.payload.length = 32 ∧ (∀ x ∈ r.payload, x < 256)) ∧
    (∃ (r : EvRec), r.seq < 2 ^ 32 ∧ r.stamp < 2 ^ 32 ∧ r.secLo < 2 ^ 32 ∧ r.epoch < 2 ^ 16 ∧ r.code < 2 ^ 16 ∧ r.source < 256 ∧ r.commit < 256 ∧ r.sev < 16 ∧ r.suppressed < 2 ^ 16 ∧ r.lseq < 2 ^ 16 ∧ r.tick < 2 ^ 32 ∧ r.payload.length = 32 ∧ (∀ x ∈ r.payload, x < 256) ∧ r.commit ≠ 0xFF) ∧
    (∃ (r : EvRec), r.seq < 2 ^ 32 ∧ r.stamp < 2 ^ 32 ∧ r.secLo < 2 ^ 32 ∧ r.epoch < 2 ^ 16 ∧ r.code < 2 ^ 16 ∧ r.source < 256 ∧ r.commit < 256 ∧ r.sev < 16 ∧ r.suppressed < 2 ^ 16 ∧ r.lseq < 2 ^ 16 ∧ r.tick < 2 ^ 32 ∧ r.payload.length = 32 ∧ (∀ x ∈ r.payload, x < 256) ∧ r.commit = 0xFF) ∧
    (∃ (r : LedgerRec), r.packSerial.length = 16 ∧ (∀ x ∈ r.packSerial, x < 256) ∧ r.devSerial < 2 ^ 64 ∧ r.eIn < 2 ^ 64 ∧ r.eOut < 2 ^ 64 ∧ r.recSec < 2 ^ 32 ∧ r.epoch < 2 ^ 16 ∧ r.rseq < 2 ^ 16 ∧ r.kind < 256 ∧ r.index < 256 ∧ r.tag < 2 ^ 64 ∧ r.lseq < 2 ^ 32) ∧
    (∃ (r : EnrolReply), r.wf = true) ∧
    (∃ (h : Health), h.role < 8 ∧ h.fit < 128 ∧ h.claim < 2 ^ 16 ∧ h.tick < 2 ^ 32 ∧ h.shadowMis < 2 ^ 32 ∧ h.rowsLeft < 2 ^ 16 ∧ h.rowsPend < 2 ^ 16 ∧ h.eccCorr < 2 ^ 32 ∧ h.prbsTested < 2 ^ 16 ∧ h.prbsFail < 2 ^ 16 ∧ h.vaon < 256 ∧ h.sens < 256 ∧ h.voteExcl < 2 ^ 16 ∧ h.chainExcl < 2 ^ 16 ∧ h.secondPath < 2 ^ 16 ∧ h.norSpare < 2 ^ 16 ∧ h.recorder < 256) ∧
    (∃ (h : Health), h.role < 8 ∧ h.fit < 128 ∧ h.claim < 2 ^ 16 ∧ h.tick < 2 ^ 32 ∧ h.shadowMis < 2 ^ 32 ∧ h.rowsLeft < 2 ^ 16 ∧ h.rowsPend < 2 ^ 16 ∧ h.eccCorr < 2 ^ 32 ∧ h.prbsTested < 2 ^ 16 ∧ h.prbsFail < 2 ^ 16 ∧ h.vaon < 256 ∧ h.sens < 256 ∧ h.voteExcl < 2 ^ 16 ∧ h.chainExcl < 2 ^ 16 ∧ h.secondPath < 2 ^ 16 ∧ h.norSpare < 2 ^ 16 ∧ h.recorder < 256) ∧
    (∃ (d : Desc), d.wf = true ∧ d.target < 2 ^ 16) :=
  ⟨⟨⟨1, 3, 2, 16, 7, 99⟩, (by decide +kernel), (by decide +kernel), (by decide +kernel), (by decide +kernel), (by decide +kernel), (by decide +kernel)⟩,
   ⟨⟨3, 15, 15, 255, 255, 262143⟩, (by decide +kernel), (by decide +kernel), (by decide +kernel), (by decide +kernel), (by decide +kernel), (by decide +kernel)⟩,
   ⟨true, .spring, 255, 15, (by decide +kernel), (by decide +kernel)⟩,
   ⟨{ evRec0 with payload := List.replicate 32 255, journal := true, sev := 15 }, (by decide +kernel), (by decide +kernel), (by decide +kernel), (by decide +kernel), (by decide +kernel), (by decide +kernel), (by decide +kernel), (by decide +kernel), (by decide +kernel), (by decide +kernel), (by decide +kernel), (by decide +kernel), (by decide +kernel)⟩,
   ⟨{ evRec0 with payload := List.replicate 32 3, commit := 0xFF }, (by decide +kernel), (by decide +kernel), (by decide +kernel), (by decide +kernel), (by decide +kernel), (by decide +kernel), (by decide +kernel), (by decide +kernel), (by decide +kernel), (by decide +kernel), (by decide +kernel), (by decide +kernel), (by decide +kernel)⟩,
   ⟨{ evRec0 with payload := List.replicate 32 255, journal := true, sev := 15 }, (by decide +kernel), (by decide +kernel), (by decide +kernel), (by decide +kernel), (by decide +kernel), (by decide +kernel), (by decide +kernel), (by decide +kernel), (by decide +kernel), (by decide +kernel), (by decide +kernel), (by decide +kernel), (by decide +kernel), (by decide +kernel)⟩,
   ⟨{ evRec0 with payload := List.replicate 32 3, commit := 0xFF }, (by decide +kernel), (by decide +kernel), (by decide +kernel), (by decide +kernel), (by decide +kernel), (by decide +kernel), (by decide +kernel), (by decide +kernel), (by decide +kernel), (by decide +kernel), (by decide +kernel), (by decide +kernel), (by decide +kernel), (by decide +kernel)⟩,
   ⟨{ led0 with packSerial := List.replicate 16 9, unauth := true }, (by decide +kernel), (by decide +kernel), (by decide +kernel), (by decide +kernel), (by decide +kernel), (by decide +kernel), (by decide +kernel), (by decide +kernel), (by decide +kernel), (by decide +kernel), (by decide +kernel), (by decide +kernel)⟩,
   ⟨⟨17, 2, 3, 4, 0, 99, 1⟩, (by decide +kernel)⟩,
   ⟨{ health0 with role := 7, side := .a, fit := 127 }, (by decide +kernel), (by decide +kernel), (by decide +kernel), (by decide +kernel), (by decide +kernel), (by decide +kernel), (by decide +kernel), (by decide +kernel), (by decide +kernel), (by decide +kernel), (by decide +kernel), (by decide +kernel), (by decide +kernel), (by decide +kernel), (by decide +kernel), (by decide +kernel), (by decide +kernel)⟩,
   ⟨health0, (by decide +kernel), (by decide +kernel), (by decide +kernel), (by decide +kernel), (by decide +kernel), (by decide +kernel), (by decide +kernel), (by decide +kernel), (by decide +kernel), (by decide +kernel), (by decide +kernel), (by decide +kernel), (by decide +kernel), (by decide +kernel), (by decide +kernel), (by decide +kernel), (by decide +kernel)⟩,
   ⟨{ nop0 with param := List.replicate 40 5, buffer := 2 ^ 63, target := 65535 }, (by decide +kernel), (by decide +kernel)⟩⟩

/-- States that meet the hypotheses of LaneOrder, clause by clause. -/
theorem meets_LaneOrder :
    (∃ (l : List LaneJob), l ≠ []) ∧
    (∃ (l : List LaneJob) (i : Nat), lanePick l = some i) ∧
    (∃ (l : List LaneJob) (i : Nat), lanePick l = some i) ∧
    (∃ (l : List LaneJob) (i : Nat), lanePick l = some i) ∧
    (∃ (l : List LaneJob) (i : Nat), lanePick l = some i) ∧
    (∃ (a : List LaneJob) (b : List LaneJob) (x : LaneJob), x.cls = 1 ∧ 1 ≤ x.left ∧ (∀ j ∈ a, j.cls = 2) ∧ (∀ j ∈ b, j.cls = 2)) ∧
    (∃ (l : List LaneJob) (_n : Nat), (l.filter (fun j => j.cls == 2 && j.opened)).length ≤ 1) ∧
    (∃ (s : State) (p : Nat) (_f : Frame), p < s.lanes.length ∧ s.lanesOff = false) ∧
    (∃ (s : State) (_p : Nat) (_f : Frame), s.lanesOff = true) :=
  ⟨⟨[{ cls := 2, left := 1 }], (by decide +kernel)⟩,
   ⟨[{ cls := 2, left := 4, opened := true }, { cls := 1, left := 3 }, { cls := 3, left := 2 }], 1, (by decide +kernel)⟩,
   ⟨[{ cls := 2, left := 4, opened := true }, { cls := 1, left := 3 }, { cls := 0, left := 2 }], 2, (by decide +kernel)⟩,
   ⟨[{ cls := 2, left := 4 }, { cls := 2, left := 3, opened := true }], 1, (by decide +kernel)⟩,
   ⟨[{ cls := 2, left := 4, opened := true }, { cls := 1, left := 3 }, { cls := 1, left := 2, opened := true }, { cls := 3, left := 2 }], 2, (by decide +kernel)⟩,
   ⟨[{ cls := 2, left := 4, opened := true }], [{ cls := 2, left := 9 }], { cls := 1, left := 3 }, (by decide +kernel), (by decide +kernel), (by decide +kernel), (by decide +kernel)⟩,
   ⟨[{ cls := 2, left := 4, opened := true }, { cls := 2, left := 3 }], 5, (by decide +kernel)⟩,
   ⟨(lit State.reset), 3, (.mgmt (mgmt0 1 8 [1, 0])), (by decide +kernel), (by decide +kernel)⟩,
   ⟨State.reset, 3, (.mgmt (mgmt0 1 8 [1, 0])), (by decide +kernel)⟩⟩

/-- States that meet the hypotheses of OutputBalls, clause by clause. -/
theorem meets_OutputBalls :
    (∃ (s : State) (_n : Nat) (_hi : Bool), s.pwr.full = true) ∧
    (∃ (s : State) (_n : Nat) (_hi : Bool), s.pwr.full = false) ∧
    (∃ (s : State), s.role = .spring) ∧
    (∃ (s : State) (_n : Nat) (_hi : Bool), s.role = .basin) ∧
    (∃ (s : State) (_dt : Nat) (_n : Nat) (_hi : Bool), s.pwr.full = false ∧ s.pwr.warm = false ∧ s.pwr.rstLow = false) ∧
    (∃ (s : State), s.pwr.full = false ∧ s.role = .basin) ∧
    (∃ (s : State), s.pwr.full = false ∧ s.role = .basin) :=
  ⟨⟨{ running0 with pwr := { full := true } }, 1, true, (by decide +kernel)⟩,
   ⟨running0, 1, true, (by decide +kernel)⟩,
   ⟨(fields spring0 [(F.SAFE_STAT.HS, 1)]), (by decide +kernel)⟩,
   ⟨{ running0 with role := .basin }, 1, true, (by decide +kernel)⟩,
   ⟨running0, 4, 1, true, (by decide +kernel), (by decide +kernel), (by decide +kernel)⟩,
   ⟨{ State.reset with pwr := { xspiAt := some 0 } }, (by decide +kernel), (by decide +kernel)⟩,
   ⟨{ State.reset with pwr := { xspiAt := some 0 }, time := { State.reset.time with cyc := 5000 } }, (by decide +kernel), (by decide +kernel)⟩⟩

end Sys2Proof.Tests
end

section
/-! PROOFS. Straps, full resets and the release of PORST_N (R1, R12, R152, R523 to R526). -/
namespace Sys2Proof.Machine

/-- Every command but the release of PORST_N keeps the straps: the three that make a full reset carry them over, the others run under a guard. -/
theorem exec_keeps_straps {i : Instr} {s t : State} (hi : ∀ b, i ≠ .porstNRelease b) (e : exec i s = .next t) :
    t.role = s.role ∧ t.side = s.side ∧ t.boot = s.boot := by
  cases hr : Instr.resets i with
  | false =>
    obtain ⟨hrole, hside, hboot, -, -⟩ := exec_outlives hr e
    exact ⟨hrole, hside, hboot⟩
  | true =>
    cases i with
    | porstNRelease b => exact absurd rfl (hi b)
    | porstNAssert =>
      obtain rfl := Host.Outcome.next.inj e
      split <;> exact ⟨rfl, rfl, rfl⟩
    | brownOut rail =>
      obtain rfl := Host.Outcome.next.inj e
      exact ⟨rfl, rfl, rfl⟩
    | aonPowerOn =>
      obtain rfl := Host.Outcome.next.inj e
      exact ⟨rfl, rfl, rfl⟩
    | _ => simp [Instr.resets] at hr

theorem release_straps (s : State) (b : BootIn) : (s.release b).role = b.role ∧ (s.release b).side = b.side ∧ (s.release b).boot = b.boot % 4 := by
  unfold State.release
  split <;> exact ⟨rfl, rfl, rfl⟩

/-- Settles O4: a queue without a command idles, the release of PORST_N samples, and every other command keeps the straps. -/
theorem strapsOnlyAtRelease : Obligations.StrapsOnlyAtRelease := by
  intro s t e
  unfold step at e
  split at e
  case h_1 hp =>
    obtain rfl := Host.Outcome.next.inj e
    refine ⟨fun b rest h => ?_, fun _ => ⟨rfl, rfl, rfl⟩⟩
    rw [hp] at h
    cases h
  case h_2 i rest hp =>
    refine ⟨fun b rest' h => ?_, fun h => ?_⟩
    · rw [hp] at h
      cases h
      obtain rfl := Host.Outcome.next.inj e
      exact release_straps _ b
    · exact exec_keeps_straps (s := { s with pending := rest }) (fun b hb => h b (by rw [hp, hb]; rfl)) e

/-! ### The device in full reset, and after the release of PORST_N -/

@[simp] theorem State.nextEpoch_get (s : State) (f : Fld) : s.nextEpoch.get f = s.get f := rfl

/-- Of the fields a Spring's start leaves alone after its epoch: those outside training and the tenure. -/
theorem springStart_get (s : State) (f : Fld) (h0 : f.off ∉ trainRegs 0) (h1 : f.off ∉ trainRegs 1) (ho : F.REC_TENURE.OPEN.apart f = true)
    (hr : F.REC_TENURE.RSEQ.apart f = true) (hf : f.ok = true) :
    s.springStart.get f = (s.nextEpoch.set F.CTL_SPR_STATUS.EPOCH s.nextEpoch.aon.epoch).get f := by
  unfold State.springStart
  rw [leaveIdle_get _ _ _ h1, leaveIdle_get _ _ _ h0, State.get_set_apart _ _ _ _ hf hr, State.setFlag, State.get_set_apart _ _ _ _ hf ho]

/-- The start of a Spring's step 3 shows its new epoch. -/
theorem springStart_shows_epoch (s : State) : s.springStart.get F.CTL_SPR_STATUS.EPOCH = s.nextEpoch.aon.epoch := by
  have hlt : s.nextEpoch.aon.epoch % 2 ^ 8 = s.nextEpoch.aon.epoch := Nat.mod_mod _ 256
  rw [springStart_get _ _ (by decide) (by decide) rfl rfl rfl, State.get_set_same _ _ _ rfl]
  exact hlt

theorem springStart_strap (s : State) : s.springStart.get F.CMN_STRAP.ROLE = s.get F.CMN_STRAP.ROLE := by
  rw [springStart_get _ _ (by decide) (by decide) rfl rfl rfl, State.get_set_apart _ _ _ _ rfl rfl, State.nextEpoch_get]

theorem springStart_epoch (s : State) : s.springStart.aon.epoch = s.nextEpoch.aon.epoch := by
  unfold State.springStart
  simp [leaveIdle_aon, State.setFlag]

theorem springStart_role (s : State) : s.springStart.role = s.role := by
  unfold State.springStart State.nextEpoch
  simp [leaveIdle_role, State.setFlag]

/-- The two steps that the release completes leave every field but STEP and the recorder's counters. -/
theorem firstSteps_get (s : State) (f : Fld) (hq : f.quiet = true) (hs : F.CMN_PROG.STEP.apart f = true) (hf : f.ok = true) :
    ((s.startStep 1).startStep 2).mapFused.get f = s.get f := by
  rw [mapFused_get _ _ hq, State.startStep_get _ _ _ hq hs hf, State.startStep_get _ _ _ hq hs hf]

theorem firstSteps_STEP (s : State) (h : s.pwr.steps = []) : ((s.startStep 1).startStep 2).mapFused.get F.CMN_PROG.STEP = 2 := by
  have h1 : (s.startStep 1).pwr.steps = [1] := by rw [startStep_steps _ _ (by rw [h]; rfl), h]; rfl
  rw [mapFused_get _ _ rfl, startStep_STEP _ _ (by rw [h1]; rfl), h1]
  rfl

/-- What the release of PORST_N shows first: the straps, the reset cause and its rail (R525, R526). -/
def State.strapsShown (s : State) (b : BootIn) : State :=
  let straps := b2n (b.role == .spring) + 2 * b2n (b.side == .b) + 4 * (b.boot % 4)
  ((s.wr F.CMN_STRAP.ROLE.off (BitVec.ofNat 32 (straps + 16 * straps))).set F.CMN_RESET.CAUSE s.aon.cause).set F.CMN_RESET.BO_RAIL s.aon.boRail

theorem strapsShown_cause (s : State) (b : BootIn) : (s.strapsShown b).get F.CMN_RESET.CAUSE = s.aon.cause % 16 := by
  unfold State.strapsShown
  rw [State.get_set_apart _ _ _ _ rfl rfl, State.get_set_same _ _ _ rfl]
  rfl

theorem strapsShown_strap (s : State) (b : BootIn) (hb : b.role = .spring) : (s.strapsShown b).get F.CMN_STRAP.ROLE = 1 := by
  unfold State.strapsShown
  rw [State.get_set_apart _ _ _ _ rfl rfl, State.get_set_apart _ _ _ _ rfl rfl, State.get_wr_same _ _ _ _ rfl, hb]
  have h : ∀ (side : Side) (k : Fin 4), bitsOf (BitVec.ofNat 32 ((1 + 2 * b2n (side == .b) + 4 * k.val) + 16 * (1 + 2 * b2n (side == .b) + 4 * k.val))).toNat 0 1 = 1 := by
    intro side k
    cases side <;> revert k <;> decide
  exact h b.side ⟨b.boot % 4, Nat.mod_lt _ (by decide)⟩

/-- A Spring brought up: its straps and reset cause shown, its epoch raised, step 3 begun, STARTED raised and steps 1 and 2 completed. -/
theorem bringUp_spring (s : State) (b : BootIn) (h : s.role = .spring) : ∃ p, s.bringUp b =
    ((((s.strapsShown b).springStart.raise Ev.STARTED p).startStep 1).startStep 2).mapFused := by
  simp only [State.bringUp, State.wr_role, State.set_role, h, springStart_role, State.raise_role, startStep_role, mapFused_role]
  exact ⟨_, rfl⟩

/-- What a Spring brought up shows (R524 to R526, R534). -/
theorem bringUp_spring_shows (s : State) (b : BootIn) (h : s.role = .spring) (hb : b.role = .spring) (hp : s.pwr.steps = []) :
    (s.bringUp b).aon.epoch = s.nextEpoch.aon.epoch ∧ (s.bringUp b).get F.CTL_SPR_STATUS.EPOCH = s.nextEpoch.aon.epoch ∧
      (s.bringUp b).get F.CMN_RESET.CAUSE = s.aon.cause % 16 ∧ (s.bringUp b).gate = s.gate ∧ (s.bringUp b).get F.CMN_PROG.STEP = 2 ∧
      (s.bringUp b).get F.CMN_STRAP.ROLE = 1 := by
  obtain ⟨p, e⟩ := bringUp_spring s b h
  rw [e]
  obtain ⟨hpwr, hcause, -, -, -, hgate, -⟩ := springStart_keeps (s.strapsShown b)
  refine ⟨?_, ?_, ?_, ?_, ?_, ?_⟩
  · rw [mapFused_aon, startStep_aon, startStep_aon, State.raise_aon]
    exact springStart_epoch _
  · rw [firstSteps_get _ _ rfl rfl rfl, State.raise_get _ _ _ _ rfl, springStart_shows_epoch]
    rfl
  · rw [firstSteps_get _ _ rfl rfl rfl, State.raise_get _ _ _ _ rfl, hcause, strapsShown_cause]
  · rw [mapFused_gate, startStep_gate, startStep_gate, State.raise_gate, hgate]
    rfl
  · exact firstSteps_STEP _ (by rw [State.raise_pwr, hpwr]; exact hp)
  · rw [firstSteps_get _ _ rfl rfl rfl, State.raise_get _ _ _ _ rfl, springStart_strap, strapsShown_strap _ _ hb]

theorem bringUp_spring_hull (s : State) (b : BootIn) (h : s.role = .spring) : (s.bringUp b).hull = s.hull := by
  obtain ⟨p, e⟩ := bringUp_spring s b h
  simp [e, State.strapsShown]

/-- With TESTMODE high the release only samples the straps (R559). -/
theorem release_test (s : State) (b : BootIn) (h : b.test = true) : s.release b = { s.sampled b with pwr := { full := true } } := by
  unfold State.release
  simp only [h, if_true]

/-- Otherwise the programme begins, on straps and queue that it does not touch. -/
theorem release_run (s : State) (b : BootIn) (h : b.test = false) : s.release b = (s.sampled b).confine ((s.sampled b).bringUp b) := by
  unfold State.release
  simp only [h, Bool.false_eq_true, if_false]

theorem release_full (s : State) (b : BootIn) : (s.release b).pwr.full = b.test ∧ (s.release b).pending = s.pending := by
  cases h : b.test with
  | true => rw [release_test s b h]; exact ⟨rfl, rfl⟩
  | false => rw [release_run s b h]; exact ⟨rfl, rfl⟩

/-- Settles O8: the supplies' commands answer the full reset, and the release of PORST_N the straps with what the start-up programme begins with. -/
theorem suppliesAndPorst : Obligations.SuppliesAndPorst := by
  refine ⟨fun s h => ?_, fun s rail => ?_, fun s => ?_, fun s b => ?_⟩
  · have e : exec .porstNAssert s = .next { s.fullReset with aon := { s.fullReset.aon with cause := 1 } } := by
      simp only [exec, execPorstNAssert, h, Bool.false_eq_true, if_false]
    exact ⟨_, e, rfl, rfl, rfl, rfl, rfl, rfl, rfl, rfl, rfl, rfl, rfl, rfl⟩
  · exact ⟨_, rfl, rfl, rfl, rfl, rfl, fun h => by simp [h], rfl, rfl, rfl, rfl, rfl⟩
  · exact ⟨_, rfl, rfl, rfl, rfl, rfl, rfl, rfl⟩
  · obtain ⟨hrole, hside, hboot⟩ := release_straps s b
    obtain ⟨hfull, hpend⟩ := release_full s b
    refine ⟨_, rfl, hrole, hside, hboot, hfull, hpend, fun ht => ?_, fun ht hb hseed => ?_⟩
    · rw [release_test s b ht]
      exact ⟨rfl, rfl, rfl, rfl, rfl⟩
    · obtain ⟨hepoch, hshown, hcause, hgate, hstep, hstrap⟩ := bringUp_spring_shows (s.sampled b) b hb hb rfl
      have hnext : (s.sampled b).nextEpoch.aon.epoch = (s.aon.epoch + 1) % 256 := by
        show ((if s.aon.seeded then s.aon.epoch else Config.epochSeed) + 1) % 256 = _
        rw [if_pos hseed]
      rw [release_run s b ht, confine_hull (bringUp_spring_hull _ b hb)]
      exact ⟨hepoch.trans hnext, hshown.trans hnext, hcause, hgate, hstep, hstrap⟩

/-- Settles O6: each register reads its reset word, and nothing of the power stage is driven. -/
theorem resetState : Obligations.ResetState :=
  ⟨fun h => absurd h (by decide), rfl, rfl, rfl, State.reset_ram_wf, rfl, rfl, rfl, rfl, rfl⟩

end Sys2Proof.Machine
end

section
/-! PROOFS. Ordered sets, records, payloads and descriptors read back (R8, R191, R192, R238, R253, R326, R393, R469, R486). -/
namespace Sys2Proof.Machine

/-! ### Bytes laid out one after another (R8) -/

@[simp] theorem leBytes_length (n v : Nat) : (leBytes n v).length = n := by
  induction n generalizing v with
  | zero => rfl
  | succ n ih => simp [leBytes, ih]

theorem leVal_leBytes (n v : Nat) : leVal (leBytes n v) = v % 256 ^ n := by
  induction n generalizing v with
  | zero => simp [leBytes, leVal, Nat.mod_one]
  | succ n ih => rw [leBytes, leVal, ih, Nat.mod_mod, Nat.pow_succ', Nat.mod_mul]

/-- What stands after a part that ends before the position is read there. -/
@[simp] theorem bytesAt_append (a b : List Nat) (i n : Nat) (h : a.length ≤ i) : bytesAt (a ++ b) i n = bytesAt b (i - a.length) n := by
  simp [bytesAt, List.drop_append, List.drop_eq_nil_of_le h]

@[simp] theorem bytesAt_cons (x : Nat) (l : List Nat) (i n : Nat) : bytesAt (x :: l) (i + 1) n = bytesAt l i n := rfl

@[simp] theorem bytesAt_byte (x : Nat) (l : List Nat) : bytesAt (x :: l) 0 1 = x % 256 := by simp [bytesAt, leVal]

@[simp] theorem bytesAt_leBytes (n v : Nat) (l : List Nat) : bytesAt (leBytes n v ++ l) 0 n = v % 256 ^ n := by
  simp [bytesAt, leVal_leBytes]

@[simp] theorem bytesAt_leBytes_last (n v : Nat) : bytesAt (leBytes n v) 0 n = v % 256 ^ n := by
  simpa using bytesAt_leBytes n v []

@[simp] theorem padTo_length (n : Nat) (l : List Nat) : (padTo n l).length = n := by simp [padTo]

theorem drop_append_past (a b : List Nat) (i : Nat) (h : a.length ≤ i) : (a ++ b).drop i = b.drop (i - a.length) := by
  simp [List.drop_append, List.drop_eq_nil_of_le h]

theorem padTo_eq {n : Nat} {l : List Nat} (h : l.length = n) : padTo n l = l := by simp [padTo, ← h]

/-! ### The event record (R469, R470) -/

theorem crcBit_lt {c : Nat} (h : c < 2 ^ 32) : crcBit c < 2 ^ 32 := by
  have hc : c / 2 < 2 ^ 32 := by omega
  unfold crcBit
  split
  · exact Nat.xor_lt_two_pow hc (by decide)
  · exact hc

theorem crcByte_lt {c : Nat} (b : Nat) (h : c < 2 ^ 32) : crcByte c b < 2 ^ 32 := by
  have hb : b % 256 < 2 ^ 32 := by omega
  exact crcBit_lt (crcBit_lt (crcBit_lt (crcBit_lt (crcBit_lt (crcBit_lt (crcBit_lt (crcBit_lt (Nat.xor_lt_two_pow h hb))))))))

theorem crc32_lt (l : List Nat) : crc32 l < 2 ^ 32 := by
  have hf : ∀ c, c < 2 ^ 32 → l.foldl crcByte c < 2 ^ 32 := by
    induction l with
    | nil => exact fun c h => h
    | cons b t ih => exact fun c h => ih _ (crcByte_lt b h)
  exact Nat.xor_lt_two_pow (hf _ (by decide)) (by decide)

theorem evHead_length (r : EvRec) : (evHead r).length = 60 := by simp [evHead]

theorem evBytes_length (r : EvRec) : (evBytes r).length = 64 := by simp [evBytes, evHead_length]

theorem evBytes_take (r : EvRec) : (evBytes r).take 60 = evHead r := by simp [evBytes, evHead_length]

theorem evBytes_crc (r : EvRec) : bytesAt (evBytes r) 60 4 = if r.commit = 0xFF then 0 else crc32 (evHead r) := by
  have h : (if r.commit = 0xFF then 0 else crc32 (evHead r)) < 2 ^ 32 := by
    split
    · decide
    · exact crc32_lt _
  simpa [evBytes, evHead_length] using Nat.mod_eq_of_lt h

theorem bitOf_eq (v i : Nat) : bitOf v i = decide (v / 2 ^ i % 2 = 1) := Nat.testBit_eq_decide_div_mod_eq

/-- Byte 18 of an event record: its severity and two flags (R469). -/
theorem evFlags_read (sev : Nat) (tod journal : Bool) (h : sev < 16) :
    (sev % 16 + 16 * b2n tod + 32 * b2n journal) % 16 = sev ∧ bitOf ((sev % 16 + 16 * b2n tod + 32 * b2n journal) % 256) 4 = tod ∧
      bitOf ((sev % 16 + 16 * b2n tod + 32 * b2n journal) % 256) 5 = journal := by
  cases tod <;> cases journal <;> simp [bitOf_eq, b2n] <;> omega

theorem evOf_evBytes (r : EvRec) (hseq : r.seq < 2 ^ 32) (hstamp : r.stamp < 2 ^ 32) (hsec : r.secLo < 2 ^ 32) (hep : r.epoch < 2 ^ 16) (hcode : r.code < 2 ^ 16)
    (hsrc : r.source < 256) (hcom : r.commit < 256) (hsev : r.sev < 16) (hsup : r.suppressed < 2 ^ 16) (hlseq : r.lseq < 2 ^ 16) (htick : r.tick < 2 ^ 32)
    (hp : r.payload.length = 32) : evOf (evBytes r) = r := by
  obtain ⟨hsevF, htod, hjournal⟩ := evFlags_read r.sev r.todValid r.journal hsev
  cases r
  dsimp only at *
  simp [evOf, evBytes, evHead, drop_append_past, padTo_eq hp, hsevF, htod, hjournal, hp]
  omega

/-! ### The ledger record (R486) -/

theorem ledgerFull_length (r : LedgerRec) : (ledgerFull r).length = 64 := by simp [ledgerFull, ledgerBytes]

theorem ledgerOf_ledgerFull (r : LedgerRec) (hp : r.packSerial.length = 16) (hdev : r.devSerial < 2 ^ 64) (hin : r.eIn < 2 ^ 64) (hout : r.eOut < 2 ^ 64)
    (hsec : r.recSec < 2 ^ 32) (hep : r.epoch < 2 ^ 16) (hrseq : r.rseq < 2 ^ 16) (hkind : r.kind < 256) (hidx : r.index < 256) (htag : r.tag < 2 ^ 64)
    (hlseq : r.lseq < 2 ^ 32) : ledgerOf (ledgerFull r) = r := by
  have hflags : bitOf ((b2n r.todValid + 2 * b2n r.unauth) % 256) 0 = r.todValid ∧ bitOf ((b2n r.todValid + 2 * b2n r.unauth) % 256) 1 = r.unauth := by
    cases r.todValid <;> cases r.unauth <;> decide
  cases r
  dsimp only at *
  simp [ledgerOf, ledgerFull, ledgerBytes, padTo_eq hp, hp, hflags]
  omega

/-! ### ENROL_REPLY and HEALTH payloads (R253, R393) -/

theorem replyBytes_length (r : EnrolReply) : (replyBytes r).length = 24 := by simp [replyBytes]

theorem replyOf_replyBytes (r : EnrolReply) (h : r.wf = true) : replyOf (replyBytes r) = r := by
  cases r
  simp [EnrolReply.wf, Sys2Proof.fits] at h
  simp [replyOf, replyBytes]
  omega

theorem healthBytes_length (h : Health) : (healthBytes h).length = 64 := by simp [healthBytes]

/-- Byte 0 of a HEALTH payload: the role and the side (R393). -/
theorem healthRole_read (role : Nat) (side : Side) (h : role < 8) :
    (role + 128 * b2n (side == .b)) % 8 = role ∧ (if bitOf ((role % 8 + 128 * b2n (side == .b)) % 256) 7 then Side.b else Side.a) = side := by
  cases side <;> simp [bitOf_eq, b2n] <;> omega

theorem healthOf_healthBytes (h : Health) (hrole : h.role < 8) (hfit : h.fit < 128) (hclaim : h.claim < 2 ^ 16) (htick : h.tick < 2 ^ 32)
    (hmis : h.shadowMis < 2 ^ 32) (hleft : h.rowsLeft < 2 ^ 16) (hpend : h.rowsPend < 2 ^ 16) (hecc : h.eccCorr < 2 ^ 32) (htested : h.prbsTested < 2 ^ 16)
    (hfail : h.prbsFail < 2 ^ 16) (hvaon : h.vaon < 256) (hsens : h.sens < 256) (hvote : h.voteExcl < 2 ^ 16) (hchain : h.chainExcl < 2 ^ 16)
    (hsecond : h.secondPath < 2 ^ 16) (hspare : h.norSpare < 2 ^ 16) (hrec : h.recorder < 256) : healthOf (healthBytes h) = h := by
  obtain ⟨hroleF, hside⟩ := healthRole_read h.role h.side hrole
  cases h
  dsimp only at *
  simp [healthOf, healthBytes, hroleF, hside]
  omega

/-! ### The descriptor (R326) -/

theorem descBytes_length (d : Desc) : (descBytes d).length = 64 := by simp [descBytes]

theorem descOf_descBytes (d : Desc) (h : d.wf = true) : descOf (descBytes d) = d := by
  cases d
  simp [Desc.wf, Sys2Proof.fits] at h
  obtain ⟨hfields, -⟩ := h
  have hp := hfields.2
  simp [descOf, descBytes, drop_append_past, padTo_eq hp]
  omega

/-! ### Ordered sets (R191, R192, R238) -/

theorem crc8_lt (w : Nat) : crc8 w < 256 := by
  have hstep : ∀ c b, c < 256 → crc8Step c b < 256 := by
    intro c b _
    have hd : 2 * c % 256 < 2 ^ 8 := by omega
    unfold crc8Step
    dsimp only
    split
    · exact Nat.xor_lt_two_pow hd (by decide)
    · exact hd
  have hfold : ∀ (l : List Nat) c, c < 256 → l.foldl (fun c i => crc8Step c (w.testBit i)) c < 256 := by
    intro l
    induction l with
    | nil => exact fun c h => h
    | cons i t ih => exact fun c h => ih _ (hstep c _ h)
  exact hfold _ _ (by decide)

/-- The check covers bits 0 to 47 alone (R192). -/
theorem crc8_mod (w : Nat) : crc8 (w % 2 ^ 48) = crc8 w := by
  unfold crc8
  refine List.foldl_ext _ _ _ fun c i hi => ?_
  rw [Nat.testBit_mod_two_pow, decide_eq_true (List.mem_range.mp hi), Bool.true_and]

theorem bitsOf_eq (v lo w : Nat) : bitsOf v lo w = v / 2 ^ lo % 2 ^ w := by rw [bitsOf, Nat.shiftRight_eq_div_pow]

theorem oset_mod (w : Nat) : oset w % 2 ^ 48 = w % 2 ^ 48 := by
  unfold oset
  omega

theorem oset_lt (w : Nat) : oset w < 2 ^ 56 := by
  have h := crc8_lt w
  unfold oset
  omega

/-- Every ordered set laid out passes its check (R192). -/
theorem oset_ok (w : Nat) : osetOk (oset w) = true := by
  have h := crc8_lt w
  have htop : bitsOf (oset w) 48 8 = crc8 w := by
    rw [bitsOf_eq]
    unfold oset
    omega
  rw [osetOk, oset_mod, crc8_mod, htop, beq_self_eq_true]

/-- Below its check an ordered set holds what was laid out. -/
theorem testBit_oset (w i : Nat) (h : i < 48) : (oset w).testBit i = w.testBit i := by
  have ho := Nat.testBit_mod_two_pow (oset w) 48 i
  rw [oset_mod, Nat.testBit_mod_two_pow] at ho
  simpa only [h, decide_true, Bool.true_and] using ho.symm

theorem bitsOf_oset (w lo n : Nat) (h : lo + n ≤ 48) : bitsOf (oset w) lo n = bitsOf w lo n := by
  apply Nat.eq_of_testBit_eq
  intro i
  rw [bitsOf_testBit, bitsOf_testBit]
  by_cases hi : i < n
  · rw [testBit_oset _ _ (by omega)]
  · simp [hi]

theorem osetCode_oset (w : Nat) : osetCode (oset w) = w % 16 := by
  have := oset_mod w
  unfold osetCode
  omega

theorem weirSet_code (x : WeirSet) : osetCode (weirSet x) = 0xA := by
  rw [weirSet, osetCode_oset, ocWEIR]
  omega

theorem weirFields_weirSet (x : WeirSet) (hscope : x.scope < 4) (harm : x.arm < 16) (hcause : x.cause < 16) (horigin : x.origin < 256) (hseq : x.seq < 256)
    (hstamp : x.stamp < 2 ^ 18) : weirFields (weirSet x) = x := by
  cases x
  dsimp only at *
  rw [weirFields, weirSet, bitsOf_oset _ 4 2 (by decide), bitsOf_oset _ 6 4 (by decide), bitsOf_oset _ 10 4 (by decide), bitsOf_oset _ 14 8 (by decide),
    bitsOf_oset _ 22 8 (by decide), bitsOf_oset _ 30 18 (by decide)]
  simp only [bitsOf_eq, ocWEIR, WeirSet.mk.injEq]
  omega

/-- A TRAIN block: its code, its two flags, COUNT and the port (R249). -/
theorem trainSet_fields (locked : Bool) (role : Role) (count port : Nat) (hcount : count < 256) (hport : port < 16) :
    osetCode (trainSet locked role count port) = 1 ∧ (trainSet locked role count port).testBit 4 = locked ∧
      (trainSet locked role count port).testBit 5 = (role == .spring) ∧ bitsOf (trainSet locked role count port) 8 8 = count ∧
      bitsOf (trainSet locked role count port) 16 4 = port := by
  unfold trainSet
  rw [osetCode_oset, testBit_oset _ _ (by decide), testBit_oset _ _ (by decide), bitsOf_oset _ _ _ (by decide), bitsOf_oset _ _ _ (by decide)]
  generalize (role == .spring) = spring
  cases locked <;> cases spring <;> simp [bitsOf_eq, b2n, ocTRAIN, Nat.testBit_eq_decide_div_mod_eq] <;> omega

theorem trainBurst_last (locked : Bool) (role : Role) (port : Nat) :
    (trainBurst locked role port).length = 128 ∧ (trainBurst locked role port)[127]? = some (trainSet locked role 0 port) := by
  simp [trainBurst]

/-- Settles O48: each layout is read back by the lemma of its own. -/
theorem recordsReadBack : Obligations.RecordsReadBack := by
  refine ⟨fun x hscope harm hcause horigin hseq hstamp => ?_, fun locked role count port hcount hport => ?_, ?_, ?_, ?_, ?_, ?_, ?_⟩
  · exact ⟨oset_ok _, weirSet_code x, weirFields_weirSet x hscope harm hcause horigin hseq hstamp, oset_lt _⟩
  · obtain ⟨hcode, hlock, hrole, hcnt, hprt⟩ := trainSet_fields locked role count port hcount hport
    exact ⟨oset_ok _, hcode, hlock, hrole, hcnt, hprt, trainBurst_last locked role port⟩
  · exact ⟨oset_ok _, osetCode_oset _⟩
  · intro r hseq hstamp hsec hep hcode hsrc hcom hsev hsup hlseq htick hp _
    refine ⟨evOf_evBytes r hseq hstamp hsec hep hcode hsrc hcom hsev hsup hlseq htick hp, evBytes_length r, fun h => ?_, fun h => ?_⟩
    · rw [evBytes_crc, if_neg h, evBytes_take]
    · rw [evBytes_crc, if_pos h]
  · intro r hp _ hdev hin hout hsec hep hrseq hkind hidx htag hlseq
    exact ⟨ledgerOf_ledgerFull r hp hdev hin hout hsec hep hrseq hkind hidx htag hlseq, ledgerFull_length r⟩
  · exact fun r h => ⟨replyOf_replyBytes r h, replyBytes_length r⟩
  · intro h hrole hfit hclaim htick hmis hleft hpend hecc htested hfail hvaon hsens hvote hchain hsecond hspare hrec
    exact ⟨healthOf_healthBytes h hrole hfit hclaim htick hmis hleft hpend hecc htested hfail hvaon hsens hvote hchain hsecond hspare hrec,
      healthBytes_length h⟩
  · exact fun d h _ => ⟨descOf_descBytes d h, descBytes_length d⟩

end Sys2Proof.Machine
end

section
/-! PROOFS. MGMT frames between devices: what a frame received in sequence leaves, and what one handed to the transport becomes (R237, R240, R246, R247, R589). -/
namespace Sys2Proof.Machine

/-! ### What leaves by the lanes -/

/-- The second state differs from the first in its lanes and in what it has put out. -/
def State.Wired (s t : State) : Prop := t = { s with lanes := t.lanes, out := t.out }

theorem wired_same (s : State) : s.Wired s := by cases s; rfl

theorem wired_trans {s t u : State} (h : s.Wired t) (k : t.Wired u) : s.Wired u := by
  unfold State.Wired at *
  rw [k, h]

theorem State.Wired.role {s t : State} (h : s.Wired t) : t.role = s.role := (congrArg State.role h).trans rfl
theorem State.Wired.side {s t : State} (h : s.Wired t) : t.side = s.side := (congrArg State.side h).trans rfl
theorem State.Wired.regs {s t : State} (h : s.Wired t) : t.regs = s.regs := (congrArg State.regs h).trans rfl
theorem State.Wired.host {s t : State} (h : s.Wired t) : t.host = s.host := (congrArg State.host h).trans rfl
theorem State.Wired.lnk {s t : State} (h : s.Wired t) : t.lnk = s.lnk := (congrArg State.lnk h).trans rfl

theorem laneOut_wired (s : State) (p : Nat) (j : LaneJob) (o : OutMsg) : s.Wired (s.laneOut p j o) := by
  unfold State.laneOut
  split
  · exact wired_same s
  · exact rfl

theorem emitFrame_wired (s : State) (ports : List Nat) (f : Frame) : s.Wired (s.emitFrame ports f) := by
  unfold State.emitFrame
  induction ports generalizing s with
  | nil => exact wired_same s
  | cons p t ih => exact wired_trans (laneOut_wired s p _ _) (ih _)

/-- An acknowledgement goes out by the lanes alone (R247). -/
theorem ackFrame_wired (s : State) (m : Mgmt) : s.Wired (s.ackFrame m) := by
  unfold State.ackFrame
  split
  · exact wired_same s
  · exact emitFrame_wired s _ _

/-! ### Peers -/

theorem peer_dest (s : State) (d : Nat) : (s.peer d).dest = d := by
  unfold State.peer
  cases h : s.lnk.peers.find? (fun p => p.dest == d) with
  | none => rfl
  | some p => simpa using List.find?_some h

theorem peer_setPeer {s : State} {p : Peer} {d : Nat} (h : p.dest = d) : (s.setPeer p).peer d = p := by
  have hnone : (s.lnk.peers.filter (fun x => x.dest != p.dest)).find? (fun x => x.dest == d) = none := by
    simp [List.find?_eq_none, h]
  unfold State.peer State.setPeer
  rw [List.find?_append, hnone]
  simp [h]

theorem peer_congr {s t : State} (h : t.lnk = s.lnk) (d : Nat) : t.peer d = s.peer d := by unfold State.peer; rw [h]

/-! ### A frame handed to the transport (R247) -/

/-- The second state differs from the first in its peers' frames, its lanes and in what it has put out. -/
def State.Sends (s t : State) : Prop := t = { s with lnk := { s.lnk with peers := t.lnk.peers }, lanes := t.lanes, out := t.out }

theorem sends_trans {s t u : State} (h : s.Sends t) (k : t.Sends u) : s.Sends u := by
  unfold State.Sends at *
  rw [k, h]

theorem sends_wired {s t : State} (h : s.Wired t) : s.Sends t := by
  unfold State.Sends
  rw [h]

theorem sends_setPeer (s : State) (p : Peer) : s.Sends (s.setPeer p) := rfl

theorem State.Sends.host {s t : State} (h : s.Sends t) : t.host = s.host := (congrArg State.host h).trans rfl
theorem State.Sends.regs {s t : State} (h : s.Sends t) : t.regs = s.regs := (congrArg State.regs h).trans rfl

/-- The first of a peer's waiting frames as it is sent: the next MSEQ, and RESTART where it is due. -/
def State.sentFrame (s : State) (w : MOut) (p : Peer) : Mgmt := { w.m with src := s.selfId, mseq := p.tx.getD 0, hop := b2n (p.tx.isNone || p.restart) }

/-- The peer once that frame is sent. -/
def State.sentPeer (s : State) (w : MOut) (t : List MOut) (p : Peer) : Peer :=
  { p with waiting := t, unacked := p.unacked ++ [{ w with m := s.sentFrame w p, at' := s.time.cyc }], tx := some ((p.tx.getD 0 + 1) % 65536), restart := false }

/-- A turn of the pump: nothing leaves, or the first waiting frame does. -/
theorem pump_succ (d n : Nat) (s : State) : State.pump d (n + 1) s = s ∨ ∃ w t, (s.peer d).waiting = w :: t ∧
    State.pump d (n + 1) s = State.pump d n ((s.setPeer (s.sentPeer w t (s.peer d))).emitFrame ((s.setPeer (s.sentPeer w t (s.peer d))).mgmtPorts d) (.mgmt (s.sentFrame w (s.peer d)))) := by
  rw [State.pump]
  dsimp only
  split
  · exact .inl rfl
  · next w t hw =>
    split
    · exact .inr ⟨w, t, hw, rfl⟩
    · exact .inl rfl

theorem pump_sends (d n : Nat) (s : State) : s.Sends (State.pump d n s) := by
  induction n generalizing s with
  | zero => exact sends_wired (wired_same s)
  | succ n ih =>
    rcases pump_succ d n s with h | ⟨w, t, -, h⟩
    · rw [h]
      exact sends_wired (wired_same s)
    · rw [h]
      exact sends_trans (sends_trans (sends_setPeer s _) (sends_wired (emitFrame_wired _ _ _))) (ih _)

/-- A frame that is sent or waits goes on being so: the pump only moves it forward. -/
theorem pump_underway {d n op param : Nat} {o : Owner} {s : State} (h : s.Underway d op param o) : (State.pump d n s).Underway d op param o := by
  induction n generalizing s with
  | zero => exact h
  | succ n ih =>
    rcases pump_succ d n s with e | ⟨w, t, hw, e⟩
    · rw [e]
      exact h
    · rw [e]
      apply ih
      unfold State.Underway
      have hp : ((s.setPeer (s.sentPeer w t (s.peer d))).emitFrame ((s.setPeer (s.sentPeer w t (s.peer d))).mgmtPorts d) (.mgmt (s.sentFrame w (s.peer d)))).peer d =
          s.sentPeer w t (s.peer d) := by
        rw [peer_congr (emitFrame_wired _ _ _).lnk]
        exact peer_setPeer (peer_dest s d)
      rw [hp]
      obtain ⟨y, hy, hop, hparam, ho⟩ := h
      rw [hw] at hy
      simp only [List.mem_append, List.mem_cons] at hy
      rcases hy with hy | rfl | hy
      · exact ⟨y, by simp [State.sentPeer, hy], hop, hparam, ho⟩
      · exact ⟨{ y with m := s.sentFrame y (s.peer d), at' := s.time.cyc }, by simp [State.sentPeer], hop, hparam, ho⟩
      · exact ⟨y, by simp [State.sentPeer, hy], hop, hparam, ho⟩

/-- The peer with one more frame waiting. -/
def Peer.push (p : Peer) (x : MOut) : Peer := { p with waiting := p.waiting ++ [x] }

theorem sendSeq_eq (s : State) (d op param : Nat) (payload : List Nat) (o : Owner) :
    s.sendSeq d op param payload o = State.pump d 8 (s.setPeer ((s.peer d).push { m := s.mkMgmt d op 0 param false payload, owner := o })) := rfl

theorem sendSeq_sends (s : State) (d op param : Nat) (payload : List Nat) (o : Owner) : s.Sends (s.sendSeq d op param payload o) :=
  sends_trans (sends_setPeer s _) (pump_sends d 8 _)

theorem peer_push (s : State) (d : Nat) (x : MOut) : (s.setPeer ((s.peer d).push x)).peer d = (s.peer d).push x := peer_setPeer (peer_dest s d)

/-- A frame handed to the transport is on its way. -/
theorem sendSeq_underway (s : State) (d op param : Nat) (payload : List Nat) (o : Owner) : (s.sendSeq d op param payload o).Underway d op param o := by
  rw [sendSeq_eq]
  apply pump_underway
  unfold State.Underway
  rw [peer_push]
  exact ⟨{ m := s.mkMgmt d op 0 param false payload, owner := o }, by simp [Peer.push], rfl, rfl, rfl⟩

/-- And one that was stays so. -/
theorem sendSeq_keeps_underway {s : State} {d op param : Nat} {o : Owner} (h : s.Underway d op param o) (op' param' : Nat) (payload : List Nat) (o' : Owner) :
    (s.sendSeq d op' param' payload o').Underway d op param o := by
  rw [sendSeq_eq]
  apply pump_underway
  obtain ⟨y, hy, hy'⟩ := h
  unfold State.Underway
  rw [peer_push]
  refine ⟨y, ?_, hy'⟩
  simp only [Peer.push, List.mem_append] at hy ⊢
  tauto

/-! ### A frame received (R237, R240, R244 to R247) -/

/-- What the reception of a frame may leave beside the frame's own effect: the port's error counters, the sender's state, time, and an election's wait (R237, R239, R383, R589). -/
def State.Took (s : State) (p : Nat) (u : State) : Prop :=
  u = { s with regs := u.regs, time := u.time, red := u.red, lnk := { s.lnk with peers := u.lnk.peers } } ∧ s.RegsBut (hearRegs p) u

theorem State.Took.role {s u : State} {p : Nat} (h : s.Took p u) : u.role = s.role := (congrArg State.role h.1).trans rfl
theorem State.Took.side {s u : State} {p : Nat} (h : s.Took p u) : u.side = s.side := (congrArg State.side h.1).trans rfl
theorem State.Took.pwr {s u : State} {p : Nat} (h : s.Took p u) : u.pwr = s.pwr := (congrArg State.pwr h.1).trans rfl
theorem State.Took.host {s u : State} {p : Nat} (h : s.Took p u) : u.host = s.host := (congrArg State.host h.1).trans rfl
theorem State.Took.gate {s u : State} {p : Nat} (h : s.Took p u) : u.gate = s.gate := (congrArg State.gate h.1).trans rfl
theorem State.Took.spr {s u : State} {p : Nat} (h : s.Took p u) : u.spr = s.spr := (congrArg State.spr h.1).trans rfl
theorem State.Took.tbl {s u : State} {p : Nat} (h : s.Took p u) : u.tbl = s.tbl := (congrArg State.tbl h.1).trans rfl
theorem State.Took.out {s u : State} {p : Nat} (h : s.Took p u) : u.out = s.out := (congrArg State.out h.1).trans rfl
theorem State.Took.awaits {s u : State} {p : Nat} (h : s.Took p u) : u.lnk.awaits = s.lnk.awaits := (congrArg (fun t => t.lnk.awaits) h.1).trans rfl
theorem State.Took.regsBut {s u : State} {p : Nat} (h : s.Took p u) : s.RegsBut (hearRegs p) u := h.2

/-- The error counters stand among the ports' registers (R265). -/
theorem notMem_hearRegs {o p : Nat} (hp : p < 12) (ho : 0xB000 ≤ o) : o ∉ hearRegs p := by
  simp only [hearRegs, F.LNK_CRC_ERR.COUNT, F.LNK_HDR_ERR.COUNT, List.mem_cons, List.not_mem_nil, or_false]
  omega

/-- A field beyond the ports' registers reads as before. -/
theorem State.Took.get {s u : State} {p : Nat} (h : s.Took p u) (hp : p < 12) (f : Fld) (hf : 0xB000 ≤ f.off) : u.get f = s.get f := by
  unfold State.get
  rw [h.2 _ (notMem_hearRegs hp hf)]

theorem State.Took.flag {s u : State} {p : Nat} (h : s.Took p u) (hp : p < 12) (f : Fld) (hf : 0xB000 ≤ f.off) : u.flag f = s.flag f := by
  unfold State.flag
  rw [h.get hp f hf]

theorem took_trans {s t u : State} {p : Nat} (h : s.Took p t) (k : t.Took p u) : s.Took p u := by
  refine ⟨?_, regsBut_trans h.2 k.2⟩
  have hk := k.1
  rw [h.1] at hk
  exact hk

theorem took_advance (s : State) (dt p : Nat) : s.Took p (State.advance dt s) := ⟨rfl, advance_regs s dt _⟩
theorem took_heardPeer (s : State) (src p : Nat) : s.Took p (s.heardPeer src) := by
  unfold State.heardPeer
  split <;> exact ⟨rfl, regsBut_hidden _ rfl rfl rfl⟩

theorem took_addSat (s : State) (f : Fld) (n p : Nat) (h : f.off ∈ hearRegs p) : s.Took p (s.addSat f n) := ⟨rfl, regsBut_set s f _ _ h⟩

theorem heardPeer_lnk (s : State) (src : Nat) : (s.heardPeer src).lnk = s.lnk := by
  unfold State.heardPeer
  split <;> rfl

/-- On a port that is UP a frame's blocks only count (R237, R239, R249). -/
theorem hearFrame_up {s : State} {p : Nat} (r : Heard) (h : s.portUp p = true) :
    s.hearFrame p r = (s.addSat (F.LNK_CRC_ERR.COUNT p) r.count).addSat (F.LNK_HDR_ERR.COUNT p) r.hdrs := by
  have hst : s.portSt p = psUP := by simpa [State.portUp] using h
  have hup : s.upIfReady p r.isOpen = s := by simp [State.upIfReady, hst, psUP, psTRAINING, psDOWN]
  rw [State.hearFrame, hup]

theorem took_hearFrame {s : State} {p : Nat} (r : Heard) (h : s.portUp p = true) : s.Took p (s.hearFrame p r) := by
  rw [hearFrame_up r h]
  exact took_trans (took_addSat _ _ _ _ (by simp [hearRegs])) (took_addSat _ _ _ _ (by simp [hearRegs]))

/-- Whom the device answers to does not depend on what reception leaves (R246). -/
theorem took_mgmtMine {s u : State} {p : Nat} (h : s.Took p u) (hp : p < 12) (a : Nat) : u.mgmtMine a = s.mgmtMine a := by
  have hclaim := h.get hp F.RED_CLAIM.ROLE (by decide)
  have hlone : u.loneImg = s.loneImg := by rw [State.loneImg, h.tbl, State.loneImg]
  have hbasin : u.basinId = s.basinId := by rw [State.basinId, h.side, hclaim, hlone, State.basinId]
  have hdisp : u.dispatches = s.dispatches := by simp only [State.dispatches, hclaim]
  have hself : u.selfId = s.selfId := by simp only [State.selfId, h.role, hbasin, h.get hp F.LNK_SPOS.INDEX (by decide)]
  simp only [State.mgmtMine, h.role, hbasin, hdisp, hself, h.flag hp F.LNK_SPOS.ENROLLED (by decide)]

/-- A frame of this device's own of the kind a command takes reaches its effect. -/
theorem mgmtRx_heard {s : State} {p : Nat} {bs : List Block} {m : Mgmt} (h : s.Hears p bs m) (dt : Nat) (ok : Mgmt → Bool) (hok : ok m = true)
    (f : Mgmt → State → State) : ∃ u, (State.advance dt s).mgmtRx p bs ok f = f m u ∧ s.Took p u ∧ u.lnk = s.lnk := by
  obtain ⟨⟨hlive, hport, hup, hgood, hft⟩, hm, hmine⟩ := h
  have hp : p < 12 := by
    simp only [State.hasPort, Bool.and_eq_true, decide_eq_true_eq] at hport
    exact hport.1
  have hup' : (State.advance dt s).portUp p = true := hup
  have hport' : (State.advance dt s).hasPort p = true := hport
  have htook := took_trans (took_trans (took_advance s dt p) (took_hearFrame (hear bs) hup')) (took_heardPeer _ m.src p)
  have hmine' := (took_mgmtMine htook hp m.addr).trans hmine
  refine ⟨_, ?_, htook, ?_⟩
  · simp only [State.mgmtRx, State.onFrame, hport', hgood, hft, State.mgmtIn, hm, hmine', hok, Bool.not_true, Bool.false_eq_true, if_false, Bool.true_and,
      beq_self_eq_true, if_true]
  · rw [heardPeer_lnk, hearFrame_up _ hup']
    rfl

theorem took_setPeer (s : State) (q : Peer) (p : Nat) : s.Took p (s.setPeer q) := ⟨rfl, regsBut_hidden _ rfl rfl rfl⟩

/-- The frame next in its sender's sequence is new, and its number is the sender's receiving state (R247, R589). -/
theorem acceptSeq_inOrder {s u : State} {m : Mgmt} (h : s.InOrder m) (hu : u.lnk = s.lnk) :
    u.acceptSeq m = (u.setPeer { u.peer m.src with rx := some m.mseq }, true) := by
  obtain ⟨hfd, hfe, r, hrx, hr, hseq⟩ := h
  have hrx' : (u.peer m.src).rx = some r := by rw [peer_congr hu, hrx]
  have hahead : (m.mseq + 65536 - r) % 65536 = 1 := by omega
  simp [State.acceptSeq, hfd, hfe, hrx', hahead]

/-- An effect of a sequenced frame that is new here; the others end with what acceptSeq does. -/
def State.ifFresh (g : Mgmt → State → State) (m : Mgmt) (s : State) : State := if (s.acceptSeq m).2 then g m (s.acceptSeq m).1 else (s.acceptSeq m).1

/-- A frame of this device's own, next in its sender's sequence and of the kind a command takes, reaches its effect, with its number as the sender's receiving state. -/
theorem mgmtRx_inOrder {s : State} {p : Nat} {bs : List Block} {m : Mgmt} (h : s.Hears p bs m) (ho : s.InOrder m) (dt : Nat) (ok : Mgmt → Bool)
    (hok : ok m = true) (g : Mgmt → State → State) :
    ∃ u, (State.advance dt s).mgmtRx p bs ok (State.ifFresh g) = g m u ∧ (u.peer m.src).rx = some m.mseq ∧ s.Took p u := by
  obtain ⟨u, e, hu, hlnk⟩ := mgmtRx_heard h dt ok hok (State.ifFresh g)
  refine ⟨u.setPeer { u.peer m.src with rx := some m.mseq }, ?_, ?_, took_trans hu (took_setPeer _ _ _)⟩
  · simp only [e, State.ifFresh, acceptSeq_inOrder ho hlnk, if_true]
  · exact congrArg Peer.rx (peer_setPeer (p := { u.peer m.src with rx := some m.mseq }) (peer_dest u m.src))

/-- What a command that takes a sequenced MGMT frame does with the next one of its sender. -/
theorem goesTo_inOrder {s : State} {p : Nat} {bs : List Block} {m : Mgmt} (h : s.Hears p bs m) (ho : s.InOrder m) {dt : Nat} {ok : Mgmt → Bool}
    (hok : ok m = true) {g : Mgmt → State → State} {P : State → Prop} (hP : ∀ u, (u.peer m.src).rx = some m.mseq → s.Took p u → P (s.confine (g m u))) :
    GoesTo (whenLive s fun s => (State.advance dt s).mgmtRx p bs ok (State.ifFresh g)) P := by
  obtain ⟨u, e, hrx, hu⟩ := mgmtRx_inOrder h ho dt ok hok g
  obtain ⟨⟨hlive, -⟩, -⟩ := h
  refine goesTo_live hlive ?_
  rw [e]
  exact hP u hrx hu

theorem mgmtSeq_eq (s : State) (p : Nat) (bs : List Block) (ok : Mgmt → Bool) (f : Mgmt → State → State) :
    s.mgmtSeq p bs ok f = s.mgmtRx p bs ok (State.ifFresh fun m s => f m (s.ackFrame m)) := rfl

/-- The same for a command that acknowledges its frame first. -/
theorem goesTo_acked {s : State} {p : Nat} {bs : List Block} {m : Mgmt} (h : s.Hears p bs m) (ho : s.InOrder m) {dt : Nat} {ok : Mgmt → Bool}
    (hok : ok m = true) {f : Mgmt → State → State} {P : State → Prop} (hP : ∀ u, s.Took p u → P (s.confine (f m (u.ackFrame m)))) :
    GoesTo (whenLive s fun s => (State.advance dt s).mgmtSeq p bs ok f) P := by
  simp only [mgmtSeq_eq]
  exact goesTo_inOrder h ho hok fun u _ hu => hP u hu

end Sys2Proof.Machine
end

section
/-! PROOFS. Register access by the host and over the chain (R9 to R11, R246, R329, R335, R428). -/
namespace Sys2Proof.Machine

/-! ### Requests over the chain (R246) -/

theorem took_hull {s u : State} {p : Nat} (h : s.Took p u) : u.hull = s.hull := by rw [h.1]; rfl

theorem updating_took {s u : State} {p : Nat} (h : s.Took p u) (hp : p < 12) : u.updating = s.updating := by
  rw [State.updating, h.role, h.flag hp F.TBL_STATUS.PUSHING (by decide), State.updating]

theorem resets_took {s u : State} {p : Nat} (h : s.Took p u) (hp : p < 12) (o : Nat) (ws : List Word) : u.resets o ws = s.resets o ws := by
  have hstation : u.station = s.station := h.get hp F.CTL_STATUS.STATE (by decide)
  have hrange : u.energisedRange = s.energisedRange := by rw [State.energisedRange, hstation, State.energisedRange]
  have hswitch : u.anySwitch = s.anySwitch := by
    simp only [State.anySwitch, State.cmdSwitch, State.testOn, State.blocked, h.gate, h.spr, h.flag hp F.GATE_STATUS.BLOCK (by decide)]
  rw [State.resets, hrange, hswitch, h.pwr, h.role, State.resets]

/-- An RD_REQ that passes its checks is acknowledged and answered with its words. -/
theorem rdReq_reads {s v : State} {m : Mgmt} {l : List Nat} (hop : m.op = 0x01) (hlen : m.payload.length = 2) (h1 : 1 ≤ bytesAt m.payload 0 2)
    (h64 : bytesAt m.payload 0 2 ≤ 64) (hblk : inBlock m.param = true) (hupd : s.updating = false)
    (hread : State.readWords (bytesAt m.payload 0 2) m.param (s.ackFrame m) = (v, l)) : s.rdReq m = v.sendSeq m.src 0x02 m.param (l.flatMap (leBytes 4)) .none := by
  have h0 : bytesAt m.payload 0 2 ≠ 0 := by omega
  have h64' : ¬ 64 < bytesAt m.payload 0 2 := by omega
  simp only [State.rdReq, hop, hlen, h0, h64', hblk, hupd, hread]
  rfl

/-- An RD_REQ that fails a check, or a frame of an operation that is none, is refused with the first reason that holds. -/
theorem rdReq_naks {s : State} {m : Mgmt} {reason : Nat}
    (h : (opKnown m.op = false ∧ reason = 1) ∨ (m.op = 0x01 ∧ (m.payload.length ≠ 2 ∨ bytesAt m.payload 0 2 = 0 ∨ 64 < bytesAt m.payload 0 2) ∧ reason = 2) ∨
      (m.op = 0x01 ∧ m.payload.length = 2 ∧ 1 ≤ bytesAt m.payload 0 2 ∧ bytesAt m.payload 0 2 ≤ 64 ∧
        ((inBlock m.param = false ∧ reason = 3) ∨ (inBlock m.param = true ∧ s.updating = true ∧ reason = 4)))) : s.rdReq m = s.sendNak m reason := by
  have hknown : opKnown 0x01 = true := rfl
  unfold State.rdReq
  rcases h with ⟨hop, rfl⟩ | ⟨hop, hlen, rfl⟩ | ⟨hop, hlen, h1, h64, h⟩
  · simp [hop]
  · rw [hop, hknown]
    rcases hlen with hlen | hlen | hlen <;> simp [hlen]
  · have h0 : bytesAt m.payload 0 2 ≠ 0 := by omega
    have h64' : ¬ 64 < bytesAt m.payload 0 2 := by omega
    rcases h with ⟨hblk, rfl⟩ | ⟨hblk, hupd, rfl⟩
    · simp [hop, hknown, hlen, h0, h64', hblk]
    · simp [hop, hknown, hlen, h0, h64', hblk, hupd]

/-- A WR_REQ that fails a check is refused with the first reason that holds. -/
theorem wrReq_naks {s : State} {m : Mgmt} {w : WrIn} {n reason : Nat} (hn : n = m.payload.length / 4)
    (h : ((m.payload.length % 4 ≠ 0 ∨ n = 0 ∨ 64 < n) ∧ reason = 2) ∨ (m.payload.length % 4 = 0 ∧ 1 ≤ n ∧ n ≤ 64 ∧
      ((inBlock m.param = false ∧ reason = 3) ∨ (inBlock m.param = true ∧ s.updating = true ∧ reason = 4)))) : s.wrReq m w = s.sendNak m reason := by
  unfold State.wrReq
  rw [← hn]
  rcases h with ⟨hlen, rfl⟩ | ⟨hlen, h1, h64, h⟩
  · rcases hlen with hlen | hlen | hlen <;> simp [hlen]
  · have h0 : n ≠ 0 := by omega
    have h64' : ¬ 64 < n := by omega
    rcases h with ⟨hblk, rfl⟩ | ⟨hblk, hupd, rfl⟩
    · simp [hlen, h0, h64', hblk]
    · simp [hlen, h0, h64', hblk, hupd]

/-- One that passes them writes up to the end of the map, acknowledged unless it resets the device (R533). -/
theorem wrReq_writes {s : State} {m : Mgmt} (w : WrIn) {n : Nat} (hn : n = m.payload.length / 4) (hlen : m.payload.length % 4 = 0) (h1 : 1 ≤ n) (h64 : n ≤ 64)
    (hblk : inBlock m.param = true) (hupd : s.updating = false) : s.wrReq m w =
      if s.resets m.param (payloadWords m.payload) then
        State.writeWords w m.param ((payloadWords m.payload).take ((F.CMN_SWRST.KEY.off - m.param) / 4 + 1)) s
      else (State.writeWords w m.param ((payloadWords m.payload).take (wordsIn n m.param)) (s.beforeWrite.ackFrame m)).sendSeq m.src 0x04
        (if wordsIn n m.param = n then m.param else wordsIn n m.param * 2 ^ 16 + m.param % 2 ^ 16) [] .none := by
  have h0 : n ≠ 0 := by omega
  have h64' : ¬ 64 < n := by omega
  unfold State.wrReq
  rw [← hn]
  simp only [hlen, h0, h64', hblk, hupd]
  rfl

/-! ### Answers to a REMOTE access (R246, R329) -/

theorem takeAwait_found {s : State} {d op : Nat} {ok : Nat → Bool} {a : Await}
    (h : s.lnk.awaits.find? (fun a => a.dest == d && a.op == op && ok a.param) = some a) :
    ∃ v, s.takeAwait d op ok = (v, some a) ∧ v.host = s.host ∧ v.role = s.role ∧ v.side = s.side ∧ v.regs = s.regs := by
  refine ⟨{ s with lnk := { s.lnk with awaits := s.lnk.awaits.filter (fun b => !(b.dest == d && b.mseq == a.mseq)) } }, ?_, rfl, rfl, rfl, rfl⟩
  simp only [State.takeAwait, h]

/-- The words of a REMOTE_READ go to its buffer; a REMOTE_WRITE has none (R329). -/
def State.wordsOut (s : State) (x : Infl) (w : Nat) (ws : List Word) : State :=
  if x.d.opcode == ocREAD then s.emit (.hostWrite (x.d.buffer + 4 * w) (wordBytes ws)) else s

theorem wordsOut_keeps (s : State) (x : Infl) (w : Nat) (ws : List Word) :
    (s.wordsOut x w ws).host = s.host ∧ (s.wordsOut x w ws).role = s.role ∧ (s.wordsOut x w ws).side = s.side ∧ (s.wordsOut x w ws).regs = s.regs := by
  unfold State.wordsOut
  split <;> exact ⟨rfl, rfl, rfl, rfl⟩

theorem wordsOut_read (s : State) {x : Infl} (w : Nat) (ws : List Word) (h : x.d.opcode = 0x18) :
    .hostWrite (x.d.buffer + 4 * w) (wordBytes ws) ∈ (s.wordsOut x w ws).out := by
  simp [State.wordsOut, h, ocREAD, State.emit]

/-- The answer to the last frame of a REMOTE access decides it: OK, or DELAYED where a busy Spring held it (R329, R357). -/
theorem remoteWords_settles {s : State} {x : Infl} {id w c sent acked : Nat} (n : Nat) (ws : List Word) (h : s.inflAt id = some x)
    (hph : x.phase = .mgmt sent acked) (hlast : remCount x.d ≤ w + c) : ∃ fr tk, s.remoteWords id w c n ws =
      ((s.wordsOut x w ws).setPhase id (.mgmt sent (acked + n))).settle id (if x.due = 0 then 0x00 else 0x03) 0 (acked + n) fr tk := by
  simp only [State.remoteWords, h, hph, hlast, if_true]
  split
  · exact ⟨_, _, rfl⟩
  · exact ⟨_, _, rfl⟩

/-- So it completes with the words answered as its result, and leaves the registers but those of its completion queue. -/
theorem remoteWords_last {s : State} {x : Infl} {id w c sent acked : Nat} (n : Nat) (ws : List Word) (h : s.inflAt id = some x) (hq : x.q < 16)
    (hph : x.phase = .mgmt sent acked) (hlast : remCount x.d ≤ w + c) :
    (s.remoteWords id w c n ws).Ended id (if x.due = 0 then 0x00 else 0x03) 0 (acked + n) ∧ s.RegsBut (cplRegs x.q) (s.remoteWords id w c n ws) ∧
      (x.d.opcode = 0x18 → .hostWrite (x.d.buffer + 4 * w) (wordBytes ws) ∈ (s.remoteWords id w c n ws).out) := by
  obtain ⟨fr, tk, e⟩ := remoteWords_settles n ws h hph hlast
  obtain ⟨hhost, hrole, hside, hregs⟩ := wordsOut_keeps s x w ws
  have hin : ((s.wordsOut x w ws).setPhase id (.mgmt sent (acked + n))).inflAt id = some { x with phase := .mgmt sent (acked + n) } :=
    State.inflAt_modInfl (f := fun y => { y with phase := .mgmt sent (acked + n) }) ((State.inflAt_congr (by rw [hhost]) id).trans h) (fun _ => rfl)
  obtain ⟨hend, hbut⟩ := settle_ended (if x.due = 0 then 0x00 else 0x03) 0 (acked + n) fr tk hin rfl hq
  rw [e]
  refine ⟨hend, regsBut_trans (regsBut_hidden _ hrole hside hregs) (regsBut_trans (regsBut_hidden _ rfl rfl rfl) hbut), fun hop => ?_⟩
  obtain ⟨hout, -⟩ := settle_out ((s.wordsOut x w ws).setPhase id (.mgmt sent (acked + n))) id (if x.due = 0 then 0x00 else 0x03) 0 (acked + n) fr tk
  rw [hout]
  exact wordsOut_read s w ws hop

/-! ### A REMOTE access on its way (R246, R348) -/

theorem sendRemote_succ (x : Infl) (n w : Nat) (s : State) (h : w < remCount x.d) : ∃ op payload, op = (if x.d.opcode = 0x18 then 0x01 else 0x03) ∧
    State.sendRemote x (n + 1) w s = State.sendRemote x n (w + min 64 (remCount x.d - w))
      (s.sendSeq x.d.target op (remOffset x.d + 4 * w) payload (.infl x.id w (min 64 (remCount x.d - w)))) := by
  have h0 : min 64 (remCount x.d - w) ≠ 0 := by omega
  by_cases hop : x.d.opcode = 0x18
  · refine ⟨_, leBytes 2 (min 64 (remCount x.d - w)), rfl, ?_⟩
    simp only [State.sendRemote, h0, hop, if_false, if_true]
    rfl
  · refine ⟨_, wordBytes ((x.data.drop w).take (min 64 (remCount x.d - w))), rfl, ?_⟩
    have hop' : (x.d.opcode == ocREAD) = false := by simpa [ocREAD] using hop
    simp only [State.sendRemote, h0, hop, hop', if_false, Bool.false_eq_true]
    rfl

theorem sendRemote_end (x : Infl) (n w : Nat) (s : State) (h : remCount x.d ≤ w) : State.sendRemote x n w s = s := by
  have h0 : min 64 (remCount x.d - w) = 0 := by omega
  cases n with
  | zero => rfl
  | succ n => simp only [State.sendRemote, h0, if_true]

/-- The frames of a REMOTE access change the transport alone, and leave behind what was on its way there. -/
theorem sendRemote_keeps (x : Infl) (n w : Nat) (s : State) : s.Sends (State.sendRemote x n w s) ∧
    ∀ op param o, s.Underway x.d.target op param o → (State.sendRemote x n w s).Underway x.d.target op param o := by
  induction n generalizing w s with
  | zero => exact ⟨sends_wired (wired_same s), fun _ _ _ h => h⟩
  | succ n ih =>
    rcases Nat.lt_or_ge w (remCount x.d) with h | h
    · obtain ⟨op, payload, -, e⟩ := sendRemote_succ x n w s h
      rw [e]
      obtain ⟨hs, hu⟩ := ih (w + min 64 (remCount x.d - w)) (s.sendSeq x.d.target op (remOffset x.d + 4 * w) payload (.infl x.id w (min 64 (remCount x.d - w))))
      exact ⟨sends_trans (sendSeq_sends _ _ _ _ _ _) hs, fun _ _ _ hw => hu _ _ _ (sendSeq_keeps_underway hw _ _ _ _)⟩
    · rw [sendRemote_end x _ w s h]
      exact ⟨sends_wired (wired_same s), fun _ _ _ h => h⟩

/-- A REMOTE access whose turn has come: its phase names its words, and its first frame is on its way. -/
theorem goRemote_underway {s : State} {x y : Infl} {op : Nat} (h : s.inflAt x.id = some y) (h1 : 1 ≤ remCount x.d) (hop : op = if x.d.opcode = 0x18 then 0x01 else 0x03) :
    (s.goRemote x 0).inflAt x.id = some { y with phase := .mgmt (remCount x.d) 0 } ∧ (s.goRemote x 0).regs = s.regs ∧
      (s.goRemote x 0).Underway x.d.target op (remOffset x.d) (.infl x.id 0 (min 64 (remCount x.d))) := by
  unfold State.goRemote
  generalize hu : s.setPhase x.id (.mgmt (remCount x.d) 0) = u
  have hin : u.inflAt x.id = some { y with phase := .mgmt (remCount x.d) 0 } := by
    rw [← hu]
    exact State.inflAt_modInfl (f := fun z => { z with phase := .mgmt (remCount x.d) 0 }) h (fun _ => rfl)
  have hregs : u.regs = s.regs := by
    rw [← hu]
    rfl
  obtain ⟨op', payload, rfl, e⟩ := sendRemote_succ x 16 0 u h1
  obtain ⟨hs, -⟩ := sendRemote_keeps x 17 0 u
  refine ⟨?_, hs.regs.trans hregs, ?_⟩
  · exact (State.inflAt_congr (by rw [hs.host]) _).trans hin
  · rw [e, hop]
    exact (sendRemote_keeps x 16 _ _).2 _ _ _ (sendSeq_underway _ _ _ _ _ _)

/-! ### A word written by the host (R9 to R11, R423, R430) -/

/-- Registers of the CTL, SLU and THM blocks without an action of their own. -/
def plainOff (o : Nat) : Prop := 0xC00C ≤ o ∧ o < 0x10000 ∨ 0x10020 ≤ o ∧ o < 0x14000 ∨ 0x1A000 ≤ o ∧ o < 0x1C000 ∧ o ≠ F.THM_HS_MAP.SRC.off

/-- Registers whose write does more than write fields, or other than that, at a Basin. -/
def actedOffs : List Nat := [F.CMN_SWRST.KEY.off, pllCtrl .s, pllCtrl .l, F.TIME_CTRL.SRC.off, F.TIME_ALIGN.LIM.off, F.HIF_WD.TMO.off, F.CTL_TICK_PERIOD.PERIOD.off,
  F.CTL_GATHER_DL.DEADLINE.off, F.SLU_CELL_CMD.OP.off, F.THM_HS_MAP.SRC.off, F.WEIR_OCP_CFG.EN.off, F.WEIR_REL.ARM.off, F.SAFE_CTRL.OFF.off, F.SAFE_PDU_CFG.RX_EN.off,
  F.SAFE_PDU_TXID.ID.off, F.SAFE_PDU_RXID.ID.off, F.REC_CTRL.FORMAT.off, F.REC_ATTR.SEV.off, F.RED_CTRL.TAKEOVER.off, F.RED_VOTE_RST.GROUP.off, F.GATE_TEST.GO.off]

theorem plainOff_unacted {o : Nat} (h : plainOff o) : o ∉ actedOffs := by
  have he : actedOffs = [0x20, 0x1000, 0x1008, 0x2000, 0x2030, 0x4000, 0xC004, 0xC008, 0x1001C, 0x1A040, 0x18014, 0x18010, 0x1C000, 0x1C020, 0x1C024, 0x1C028, 0x20000,
    0x20028, 0x24000, 0x24034, 0x2800C] := rfl
  have hmap : F.THM_HS_MAP.SRC.off = 0x1A040 := rfl
  unfold plainOff at h
  rw [hmap] at h
  simp only [he, List.mem_cons, List.not_mem_nil, or_false]
  omega

/-- A write of one of them at a Basin only writes its fields. -/
theorem busWrite_plain {s : State} {o : Nat} {r : RegRow} (w : WrIn) (v : Nat) (hrole : s.role = .basin) (ho : plainOff o) (hr : rowAt o = some r)
    (hl : rowLive s.role r o = true) : s.busWrite w o v = s.writeFields s.cfgLocked o v := by
  have hlive : s.liveReg o = true := by simp only [State.liveReg, hr, hl]
  have hne := plainOff_unacted ho
  simp only [actedOffs, List.mem_cons, List.not_mem_nil, or_false, not_or] at hne
  unfold plainOff at ho
  have hadc : ¬ (o = (F.ADC_SWTRIG.GO ((o - 0x14000) / 0x100)).off ∧ o < 0x14400) := by
    show ¬ (o = 0x14008 + 256 * ((o - 0x14000) / 0x100) ∧ o < 0x14400)
    clear hne
    omega
  unfold State.busWrite State.cfgWrite
  simp only [hlive, hrole, hne, hadc, Bool.and_eq_true, Bool.or_eq_true, decide_eq_true_eq, Bool.not_true, Bool.not_false, Bool.true_and, Bool.false_eq_true, if_false,
    or_false]
  clear hne
  simp (disch := omega) only [if_neg]
  split <;> rfl

/-- Written under its fields' codes, a register changes itself, SAFE_CRC and the recorder's counters alone (R10, R423, R430). -/
theorem writeFields_leaves {s : State} {o v : Nat} {r : RegRow} (locked : Bool) (hr : rowAt o = some r) (hl : rowLive s.role r o = true)
    (ho : o ∉ F.SAFE_CRC.CRC.off :: recCounters) :
    (s.writeFields locked o v).rd o = r.fields.foldl (fieldWrite locked (s.freshBits o) v) (s.rd o) ∧
      s.RegsBut (o :: F.SAFE_CRC.CRC.off :: recCounters) (s.writeFields locked o v) ∧ (s.writeFields locked o v).out = s.out := by
  obtain ⟨hcrc, hrec⟩ := not_or.mp (fun h => ho (List.mem_cons.mpr h))
  unfold State.writeFields
  simp only [hr, hl, if_true]
  generalize r.fields.foldl (fieldWrite locked (s.freshBits o) v) (s.rd o) = w
  have hwr : s.RegsBut (o :: F.SAFE_CRC.CRC.off :: recCounters) (s.wr o w) := regsBut_wr s o w _ (by simp)
  split
  · refine ⟨?_, regsBut_trans hwr (regsBut_raise _ _ _ _ (fun _ h => by simp [h])), State.raise_out _ _ _⟩
    rw [regsBut_raise _ _ _ recCounters (fun _ h => h) o hrec, State.rd_wr_same]
  · split
    · refine ⟨?_, regsBut_trans hwr (regsBut_set _ _ _ _ (by simp)), rfl⟩
      rw [State.rd_set_other _ _ _ _ hcrc, State.rd_wr_same]
    · exact ⟨State.rd_wr_same s o w, hwr, rfl⟩

theorem sampleLate_keeps (s : State) : (∀ o, s.sampleLate.rd o = s.rd o) ∧ s.sampleLate.out = s.out := by
  unfold State.sampleLate
  split <;> exact ⟨fun _ => rfl, rfl⟩

theorem plainOff_bounds {o : Nat} (h : plainOff o) : o + 4 ≤ 0x40000 ∧ o ∉ F.SAFE_CRC.CRC.off :: recCounters := by
  have he : F.SAFE_CRC.CRC.off :: recCounters = [0x1C014, 0x2001C, 0x20020] := rfl
  unfold plainOff at h
  rw [he]
  simp only [List.mem_cons, List.not_mem_nil, or_false]
  omega

/-- A request of the host is performed when it is of whole words below the end of BAR0 (R9). -/
theorem exec_registerWrite (dt off len : Nat) (ws : List Word) (w : WrIn) (s : State) : exec (.registerWrite dt off len ws w) s = onBasin s fun s =>
    if off % 4 = 0 && len % 4 = 0 && decide (4 ≤ len) && ws.length == len / 4 && decide (off + len ≤ 0x40000) then State.writeWords w off ws (State.advance dt s)
    else State.advance dt s := rfl

/-- A whole word written by the host to a register without an action of its own (R9, R10). -/
theorem registerWrite_word {s : State} {o : Nat} {r : RegRow} (dt : Nat) (v : Word) (w : WrIn) (hlive : s.live = true) (hrole : s.role = .basin) (ho : plainOff o)
    (h4 : o % 4 = 0) (hr : rowAt o = some r) (hl : rowLive s.role r o = true) : GoesTo (exec (.registerWrite dt o 4 [v] w) s) fun t =>
      t.rd o = r.fields.foldl (fieldWrite s.cfgLocked ((State.advance dt s).freshBits o) v.toNat) (s.rd o) ∧
        s.RegsBut (o :: F.SAFE_CRC.CRC.off :: recCounters) t ∧ t.out = s.out := by
  obtain ⟨hend, hoff⟩ := plainOff_bounds ho
  obtain ⟨hrd, hbut, hout⟩ := writeFields_leaves (s := State.advance dt s) (v := v.toNat) (State.advance dt s).cfgLocked hr hl hoff
  obtain ⟨hlate, hlout⟩ := sampleLate_keeps ((State.advance dt s).writeFields (State.advance dt s).cfgLocked o v.toNat)
  have hdone : (o % 4 = 0 && 4 % 4 = 0 && decide (4 ≤ 4) && [v].length == 4 / 4 && decide (o + 4 ≤ 0x40000)) = true := by simp [h4, hend]
  rw [exec_registerWrite]
  refine goesTo_basin hlive hrole ?_
  rw [if_pos hdone, State.writeWords, State.writeWords, busWrite_plain (s := State.advance dt s) w v.toNat hrole ho hr hl, confine_hull (by simp)]
  exact ⟨(hlate o).trans hrd, fun k hk => (hlate k).trans (hbut k hk), hlout.trans hout⟩

/-- A request that is not of whole words is not performed. -/
theorem registerWrite_ragged {s : State} (dt : Nat) {off len : Nat} (ws : List Word) (w : WrIn) (hlive : s.live = true) (hrole : s.role = .basin)
    (h : off % 4 ≠ 0 ∨ len % 4 ≠ 0 ∨ len < 4) : GoesTo (exec (.registerWrite dt off len ws w) s) fun t => t = State.advance dt s := by
  have hnot : ¬ (off % 4 = 0 && len % 4 = 0 && decide (4 ≤ len) && ws.length == len / 4 && decide (off + len ≤ 0x40000)) = true := by
    simp only [Bool.and_eq_true, decide_eq_true_eq]
    omega
  rw [exec_registerWrite]
  refine goesTo_basin hlive hrole ?_
  rw [if_neg hnot]
  exact confine_hull (hull_advance dt s)

/-- A Spring has no host (R2, R19). -/
theorem registerWrite_spring {s : State} (dt off len : Nat) (ws : List Word) (w : WrIn) (hrole : s.role = .spring) :
    GoesTo (exec (.registerWrite dt off len ws w) s) fun t => t = s := by
  rw [exec_registerWrite]
  exact ⟨_, guarded_off _ (by simp [hrole]), rfl⟩

/-! ### The commands of register access -/

theorem exec_rdReq (dt : Nat) (port : Fin 12) (bs : List Block) (s : State) : exec (.rdReq dt port bs) s =
    whenLive s fun s => (State.advance dt s).mgmtRx port bs (fun m => m.op == opRDREQ || !opKnown m.op) (State.ifFresh fun m s => s.rdReq m) := rfl

theorem exec_wrReq (dt : Nat) (port : Fin 12) (bs : List Block) (w : WrIn) (s : State) : exec (.wrReq dt port bs w) s =
    whenLive s fun s => (State.advance dt s).mgmtRx port bs (·.op == opWRREQ) (State.ifFresh fun m s => s.wrReq m w) := rfl

/-- An RD_REQ of 1 to 64 words in the map, at a device that is not being updated (R246). -/
theorem exec_rdReq_reads {s : State} (dt : Nat) {port : Fin 12} {bs : List Block} {m : Mgmt} (h : s.Hears port bs m) (ho : s.InOrder m) (hop : m.op = 0x01)
    (hlen : m.payload.length = 2) (h1 : 1 ≤ bytesAt m.payload 0 2) (h64 : bytesAt m.payload 0 2 ≤ 64) (hblk : inBlock m.param = true) (hupd : s.updating = false) :
    GoesTo (exec (.rdReq dt port bs) s) fun t => ∃ (u v : State) (l : List Nat), State.readWords (bytesAt m.payload 0 2) m.param (u.ackFrame m) = (v, l) ∧
      t = s.confine (v.sendSeq m.src 0x02 m.param (l.flatMap (leBytes 4)) .none) ∧ (u.peer m.src).rx = some m.mseq ∧ s.RegsBut (hearRegs port) u ∧ u.out = s.out := by
  rw [exec_rdReq]
  refine goesTo_inOrder h ho (by simp [hop, opRDREQ]) fun u hrx hu => ?_
  have hupd' := (updating_took hu port.isLt).trans hupd
  exact ⟨u, _, _, rfl, by rw [rdReq_reads hop hlen h1 h64 hblk hupd' rfl], hrx, hu.regsBut, hu.out⟩

/-- An RD_REQ refused, or a frame of an unknown operation (R246, R352). -/
theorem exec_rdReq_naks {s : State} (dt : Nat) {port : Fin 12} {bs : List Block} {m : Mgmt} {reason : Nat} (h : s.Hears port bs m) (ho : s.InOrder m)
    (hc : (opKnown m.op = false ∧ reason = 1) ∨ (m.op = 0x01 ∧ (m.payload.length ≠ 2 ∨ bytesAt m.payload 0 2 = 0 ∨ 64 < bytesAt m.payload 0 2) ∧ reason = 2) ∨
      (m.op = 0x01 ∧ m.payload.length = 2 ∧ 1 ≤ bytesAt m.payload 0 2 ∧ bytesAt m.payload 0 2 ≤ 64 ∧
        ((inBlock m.param = false ∧ reason = 3) ∨ (inBlock m.param = true ∧ s.updating = true ∧ reason = 4)))) :
    GoesTo (exec (.rdReq dt port bs) s) fun t =>
      ∃ u : State, t = s.confine (u.sendNak m reason) ∧ (u.peer m.src).rx = some m.mseq ∧ s.RegsBut (hearRegs port) u ∧ u.out = s.out := by
  have hok : (m.op == opRDREQ || !opKnown m.op) = true := by
    rcases hc with ⟨hop, -⟩ | ⟨hop, -⟩ | ⟨hop, -⟩ <;> simp [hop, opRDREQ]
  rw [exec_rdReq]
  refine goesTo_inOrder h ho hok fun u hrx hu => ?_
  rw [← updating_took hu port.isLt] at hc
  exact ⟨u, by rw [rdReq_naks hc], hrx, hu.regsBut, hu.out⟩

/-- A WR_REQ refused (R246, R352). -/
theorem exec_wrReq_naks {s : State} (dt : Nat) {port : Fin 12} {bs : List Block} {m : Mgmt} (w : WrIn) {n reason : Nat} (h : s.Hears port bs m) (ho : s.InOrder m)
    (hop : m.op = 0x03) (hn : n = m.payload.length / 4)
    (hc : ((m.payload.length % 4 ≠ 0 ∨ n = 0 ∨ 64 < n) ∧ reason = 2) ∨ (m.payload.length % 4 = 0 ∧ 1 ≤ n ∧ n ≤ 64 ∧
      ((inBlock m.param = false ∧ reason = 3) ∨ (inBlock m.param = true ∧ s.updating = true ∧ reason = 4)))) :
    GoesTo (exec (.wrReq dt port bs w) s) fun t =>
      ∃ u : State, t = s.confine (u.sendNak m reason) ∧ (u.peer m.src).rx = some m.mseq ∧ s.RegsBut (hearRegs port) u ∧ u.out = s.out := by
  rw [exec_wrReq]
  refine goesTo_inOrder h ho (by simp [hop, opWRREQ]) fun u hrx hu => ?_
  rw [← updating_took hu port.isLt] at hc
  exact ⟨u, by rw [wrReq_naks hn hc], hrx, hu.regsBut, hu.out⟩

/-- A WR_REQ performed: its effect on the state that took the frame (R246, R533). -/
theorem exec_wrReq_writes {s : State} (dt : Nat) {port : Fin 12} {bs : List Block} {m : Mgmt} (w : WrIn) {n : Nat} {P : State → Prop} (h : s.Hears port bs m)
    (ho : s.InOrder m) (hop : m.op = 0x03) (hn : n = m.payload.length / 4) (hlen : m.payload.length % 4 = 0) (h1 : 1 ≤ n) (h64 : n ≤ 64)
    (hblk : inBlock m.param = true) (hupd : s.updating = false)
    (hP : ∀ u : State, (u.peer m.src).rx = some m.mseq → s.Took port u → P (s.confine (if s.resets m.param (payloadWords m.payload) then
        State.writeWords w m.param ((payloadWords m.payload).take ((F.CMN_SWRST.KEY.off - m.param) / 4 + 1)) u
      else (State.writeWords w m.param ((payloadWords m.payload).take (wordsIn n m.param)) (u.beforeWrite.ackFrame m)).sendSeq m.src 0x04
        (if wordsIn n m.param = n then m.param else wordsIn n m.param * 2 ^ 16 + m.param % 2 ^ 16) [] .none))) :
    GoesTo (exec (.wrReq dt port bs w) s) P := by
  rw [exec_wrReq]
  refine goesTo_inOrder h ho (by simp [hop, opWRREQ]) fun u hrx hu => ?_
  rw [wrReq_writes w hn hlen h1 h64 hblk ((updating_took hu port.isLt).trans hupd), resets_took hu port.isLt]
  exact hP u hrx hu

/-- What an answer to the last frame of a REMOTE access leaves of the state that took it. -/
theorem answered_last {s u : State} {port : Fin 12} {m : Mgmt} {x : Infl} {id w c sent acked d op : Nat} {ok : Nat → Bool} {a : Await} (n : Nat) (ws : List Word)
    (hu : s.Took port u) (ha : s.lnk.awaits.find? (fun a => a.dest == d && a.op == op && ok a.param) = some a) (hx : s.inflAt id = some x) (hq : x.q < 16)
    (hph : x.phase = .mgmt sent acked) (hlast : remCount x.d ≤ w + c) :
    ∃ v : State, (u.ackFrame m).takeAwait d op ok = (v, some a) ∧ (v.remoteWords id w c n ws).hull = s.hull ∧
      (v.remoteWords id w c n ws).Ended id (if x.due = 0 then 0x00 else 0x03) 0 (acked + n) ∧ s.RegsBut (hearRegs port ++ cplRegs x.q) (v.remoteWords id w c n ws) ∧
      (x.d.opcode = 0x18 → .hostWrite (x.d.buffer + 4 * w) (wordBytes ws) ∈ (v.remoteWords id w c n ws).out) := by
  have hack := ackFrame_wired u m
  have hawaits : (u.ackFrame m).lnk.awaits = s.lnk.awaits := by rw [hack.lnk, hu.awaits]
  rw [← hawaits] at ha
  obtain ⟨v, e, hhost, hrole, hside, hregs⟩ := takeAwait_found ha
  have hx' : v.inflAt id = some x := (State.inflAt_congr (by rw [hhost, hack.host, hu.host]) id).trans hx
  obtain ⟨hend, hbut, hout⟩ := remoteWords_last n ws hx' hq hph hlast
  have hv : s.RegsBut (hearRegs port) v := regsBut_trans hu.regsBut (regsBut_trans (regsBut_hidden _ hack.role hack.side hack.regs) (regsBut_hidden _ hrole hside hregs))
  refine ⟨v, e, ?_, hend, ?_, hout⟩
  · have hvh := hull_takeAwait (u.ackFrame m) d op ok
    rw [e] at hvh
    rw [hull_remoteWords, hvh, hull_ackFrame, took_hull hu]
  · exact regsBut_trans (regsBut_wider hv (fun _ h => List.mem_append_left _ h)) (regsBut_wider hbut (fun _ h => List.mem_append_right _ h))

/-- An RD_RESP to the last frame of a REMOTE_READ (R246, R329). -/
theorem exec_rdResp_last {s : State} (dt : Nat) {port : Fin 12} {bs : List Block} {m : Mgmt} {a : Await} {id w c sent acked : Nat} {x : Infl} (h : s.Hears port bs m)
    (ho : s.InOrder m) (hop : m.op = 0x02) (ha : s.lnk.awaits.find? (fun a => a.dest == m.src && a.op == 0x01 && a.param == m.param) = some a)
    (hown : a.owner = .infl id w c) (hx : s.inflAt id = some x) (hq : x.q < 16) (hph : x.phase = .mgmt sent acked) (hread : x.d.opcode = 0x18)
    (hlast : remCount x.d ≤ w + c) : GoesTo (exec (.rdResp dt port bs) s) fun t =>
      t.Ended id (if x.due = 0 then 0x00 else 0x03) 0 (acked + (payloadWords m.payload).length) ∧
        .hostWrite (x.d.buffer + 4 * w) (wordBytes (payloadWords m.payload)) ∈ t.out ∧ s.RegsBut (hearRegs port ++ cplRegs x.q) t := by
  change GoesTo (execRdResp dt port bs s) _
  unfold execRdResp
  refine goesTo_acked h ho (by simp [hop, opRDRESP]) fun u hu => ?_
  obtain ⟨v, e, hhull, hend, hbut, hout⟩ := answered_last (m := m) (w := w) (payloadWords m.payload).length (payloadWords m.payload) (op := opRDREQ)
    (ok := fun o => o == m.param) hu ha hx hq hph hlast
  simp only [e, Option.map_some, hown]
  rw [confine_hull hhull]
  exact ⟨hend, hout hread, hbut⟩

/-- Which request a WR_ACK answers: the one of its offset, else the one that agrees in the low 16 bits (log entry 60). -/
theorem wrAck_awaits {l : List Await} {m : Mgmt} {a : Await}
    (h : l.find? (fun a => a.dest == m.src && a.op == 0x03 && a.param == m.param) = some a ∨
      (∀ b ∈ l, ¬ (b.dest = m.src ∧ b.op = 0x03 ∧ b.param = m.param)) ∧ l.find? (fun a => a.dest == m.src && a.op == 0x03 && a.param % 65536 == m.param % 65536) = some a) :
    l.find? (fun b => b.dest == m.src && b.op == opWRREQ &&
      (fun o => if l.any (fun a => a.dest == m.src && a.op == opWRREQ && a.param == m.param) then o == m.param else o % 65536 == m.param % 65536) b.param) = some a := by
  rcases h with h | ⟨hnone, h⟩
  · have hany : l.any (fun a => a.dest == m.src && a.op == opWRREQ && a.param == m.param) = true := by
      rw [List.any_eq_true]
      exact ⟨a, List.mem_of_find?_eq_some h, by simpa [opWRREQ] using List.find?_some h⟩
    simp only [hany, if_true]
    exact h
  · have hany : l.any (fun a => a.dest == m.src && a.op == opWRREQ && a.param == m.param) = false := by
      rw [List.any_eq_false]
      intro b hb
      simpa [opWRREQ, and_assoc] using hnone b hb
    simp only [hany, Bool.false_eq_true, if_false]
    exact h

/-- A WR_ACK of the last frame of a REMOTE_WRITE (R246, R329). -/
theorem exec_wrAck_last {s : State} (dt : Nat) {port : Fin 12} {bs : List Block} {m : Mgmt} {a : Await} {id w c sent acked : Nat} {x : Infl} (h : s.Hears port bs m)
    (ho : s.InOrder m) (hop : m.op = 0x04)
    (ha : s.lnk.awaits.find? (fun a => a.dest == m.src && a.op == 0x03 && a.param == m.param) = some a ∨
      (∀ b ∈ s.lnk.awaits, ¬ (b.dest = m.src ∧ b.op = 0x03 ∧ b.param = m.param)) ∧
        s.lnk.awaits.find? (fun a => a.dest == m.src && a.op == 0x03 && a.param % 65536 == m.param % 65536) = some a)
    (hown : a.owner = .infl id w c) (hx : s.inflAt id = some x) (hq : x.q < 16) (hph : x.phase = .mgmt sent acked) (hlast : remCount x.d ≤ w + c) :
    GoesTo (exec (.wrAck dt port bs) s) fun t =>
      t.Ended id (if x.due = 0 then 0x00 else 0x03) 0 (acked + (if m.param = a.param then c else bitsOf m.param 16 16)) ∧
        s.RegsBut (hearRegs port ++ cplRegs x.q) t := by
  change GoesTo (execWrAck dt port bs s) _
  unfold execWrAck
  refine goesTo_acked h ho (by simp [hop, opWRACK]) fun u hu => ?_
  have hawaits : (u.ackFrame m).lnk.awaits = s.lnk.awaits := by rw [(ackFrame_wired u m).lnk, hu.awaits]
  obtain ⟨v, e, hhull, hend, hbut, -⟩ := answered_last (m := m) (w := w) (if m.param = a.param then c else bitsOf m.param 16 16) [] (d := m.src) (op := opWRREQ)
    (ok := fun o => if s.lnk.awaits.any (fun a => a.dest == m.src && a.op == opWRREQ && a.param == m.param) then o == m.param else o % 65536 == m.param % 65536)
    hu (wrAck_awaits ha) hx hq hph hlast
  simp only [hawaits, e, hown, beq_iff_eq]
  rw [confine_hull hhull]
  exact ⟨hend, hbut⟩

theorem notUnreachable_advance {s : State} {n : Nat} (dt : Nat) (h : n < 192 → s.unreachable n = false) :
    (decide (n < 192) && (State.advance dt s).unreachable n) = false := by
  rw [Bool.and_eq_false_imp, decide_eq_true_eq]
  exact h

theorem ready_inflAt {s : State} {q oc : Nat} {x : Infl} (h : s.Ready q oc x) : s.inflAt x.id = some x ∧ x.q < 16 := by
  obtain ⟨-, -, -, hin, hq⟩ := h
  exact ⟨hin, hq⟩

theorem ready_opcode {s : State} {q oc : Nat} {x : Infl} (h : s.Ready q oc x) : x.d.opcode = oc := by
  obtain ⟨-, -, hop⟩ := ready_fetched h
  exact hop

/-- A descriptor refused completes so, and puts nothing out (R333). -/
theorem refused_ended {s : State} {q oc : Nat} {x : Infl} (h : s.Ready q oc x) (dt st rs : Nat) :
    (s.confine ((State.advance dt s).refuse x.id st rs)).Ended x.id st rs 0 ∧ (s.confine ((State.advance dt s).refuse x.id st rs)).out = s.out := by
  obtain ⟨hin, hq⟩ := ready_inflAt h
  obtain ⟨hph, -, -⟩ := ready_fetched h
  obtain ⟨hend, -⟩ := settle_ended (s := State.advance dt s) st rs 0 0 0 hin (Phase.fetched_open hph) hq
  obtain ⟨hout, -⟩ := settle_out (State.advance dt s) x.id st rs 0 0 0
  rw [confine_hull (by simp)]
  exact ⟨hend, hout⟩

/-- A REMOTE_READ whose turn has come (R246, R348). -/
theorem exec_remoteRead_goes {s : State} (dt : Nat) {q : Fin 16} {x : Infl} (h : s.Ready q 0x18 x) (hmay : s.mgmtMay x = true)
    (hreach : x.d.target < 192 → s.unreachable x.d.target = false) (h1 : 1 ≤ remCount x.d) : GoesTo (exec (.remoteRead dt q) s) fun t =>
      t.inflAt x.id = some { x with phase := .mgmt (remCount x.d) 0 } ∧ t.regs = s.regs ∧
        t.Underway x.d.target 0x01 (remOffset x.d) (.infl x.id 0 (min 64 (remCount x.d))) := by
  obtain ⟨hin, -⟩ := ready_inflAt h
  have hmay' : (State.advance dt s).mgmtMay x = true := hmay
  have hreach' := notUnreachable_advance dt hreach
  change GoesTo (execRemoteRead dt q s) _
  unfold execRemoteRead
  refine goesTo_op h ?_
  simp only [hmay', hreach', if_true, Bool.false_eq_true, if_false]
  rw [confine_hull (by simp)]
  exact goRemote_underway (s := State.advance dt s) hin h1 (by rw [if_pos (ready_opcode h)])

/-- A REMOTE_WRITE off SAFE_SUNLOCK whose turn has come, with its words in the descriptor or read from its buffer (R246, R328). -/
theorem exec_remoteWrite_goes {s : State} (dt : Nat) {q : Fin 16} {x : Infl} {buf : HostBuf} {ws : List Word} (h : s.Ready q 0x19 x)
    (hlock : coversUnlock x.d = false) (hmay : s.mgmtMay x = true) (hreach : x.d.target < 192 → s.unreachable x.d.target = false)
    (hws : (if bitOf x.d.flags 2 then HostBuf.words (payloadWords (x.d.param.drop 8)) else buf) = .words ws) (h1 : 1 ≤ remCount x.d)
    (hlen : remCount x.d ≤ ws.length) : GoesTo (exec (.remoteWrite dt q buf) s) fun t =>
      t.inflAt x.id = some { x with phase := .mgmt (remCount x.d) 0, data := ws } ∧ t.regs = s.regs ∧
        t.Underway x.d.target 0x03 (remOffset x.d) (.infl x.id 0 (min 64 (remCount x.d))) := by
  have hop : x.d.opcode ≠ 0x18 := by
    rw [ready_opcode h]
    decide
  have hmay' : (State.advance dt s).mgmtMay x = true := hmay
  have hreach' := notUnreachable_advance dt hreach
  have hin : ((State.advance dt s).modInfl x.id (fun y => { y with data := ws })).inflAt x.id = some { x with data := ws } :=
    State.inflAt_modInfl (f := fun y => { y with data := ws }) (ready_inflAt h).1 (fun _ => rfl)
  change GoesTo (execRemoteWrite dt q buf s) _
  unfold execRemoteWrite
  refine goesTo_op h ?_
  simp only [hlock, hmay', hreach', hws, Bool.not_true, Bool.false_eq_true, if_false, if_neg (not_lt.mpr hlen)]
  rw [confine_hull (by simp)]
  exact goRemote_underway (x := { x with data := ws }) hin h1 (by rw [if_neg hop])

/-- A REMOTE_WRITE that fails a check, or whose turn has not come (R329, R348, R428). -/
theorem exec_remoteWrite_refused {s : State} (dt e : Nat) {q : Fin 16} {x : Infl} {buf : HostBuf} (h : s.Ready q 0x19 x) :
    (coversUnlock x.d = true → GoesTo (exec (.remoteWrite dt q buf) s) fun t => t.Ended x.id 0x32 0 0 ∧ t.out = s.out) ∧
    (coversUnlock x.d = false → s.mgmtMay x = true → (x.d.target < 192 → s.unreachable x.d.target = false) → bitOf x.d.flags 2 = false → buf = .failed e →
      GoesTo (exec (.remoteWrite dt q buf) s) fun t => t.Ended x.id 0x40 e 0 ∧ t.out = s.out) ∧
    (coversUnlock x.d = false → s.mgmtMay x = false → GoesTo (exec (.remoteWrite dt q buf) s) fun t => t = State.advance dt s) := by
  change (_ → GoesTo (execRemoteWrite dt q buf s) _) ∧ (_ → _ → _ → _ → _ → GoesTo (execRemoteWrite dt q buf s) _) ∧ (_ → _ → GoesTo (execRemoteWrite dt q buf s) _)
  unfold execRemoteWrite
  refine ⟨fun hlock => goesTo_op h ?_, fun hlock hmay hreach hinl hbuf => goesTo_op h ?_, fun hlock hmay => goesTo_op h ?_⟩
  · simp only [hlock, if_true]
    exact refused_ended h dt stTARGET 0
  · have hmay' : (State.advance dt s).mgmtMay x = true := hmay
    simp only [hlock, hmay', notUnreachable_advance dt hreach, hinl, hbuf, Bool.not_true, Bool.false_eq_true, if_false]
    exact refused_ended h dt stDEVICE e
  · have hmay' : (State.advance dt s).mgmtMay x = false := hmay
    simp only [hlock, hmay', Bool.not_false, Bool.false_eq_true, if_false, if_true]
    exact confine_hull (hull_advance dt s)

theorem pair_modPair {s : State} {q : Nat} (h : q < s.host.pairs.length) (f : PairSt → PairSt) : (s.modPair q f).pair q = f (s.pair q) := by
  simp [State.modPair, State.setPair, State.pair, h]

/-- A STREAM_BUF posts its buffer (R335). -/
theorem exec_streamBuf_posts {s : State} (dt : Nat) {q : Fin 16} {x : Infl} (h : s.Ready q 0x48 x) (hnb : (s.pair x.q).noBuf = none)
    (hq : x.q < s.host.pairs.length) : GoesTo (exec (.streamBuf dt q) s) fun t =>
      t.inflAt x.id = some { x with phase := .posted } ∧ (t.pair x.q).bufs = (s.pair x.q).bufs ++ [⟨x.id, x.d.buffer, x.d.length, 0, 0, 0⟩] ∧
        t.regs = s.regs ∧ t.out = s.out := by
  have hsq : (q : Nat) = x.q := by
    obtain ⟨-, hsq, -⟩ := ready_fetched h
    obtain ⟨-, hlt⟩ := ready_inflAt h
    unfold Infl.sq at hsq
    omega
  change GoesTo (execStreamBuf dt q s) _
  unfold execStreamBuf
  refine goesTo_op h ?_
  rw [hsq]
  generalize hu : State.modPair _ x.q _ = u
  have hpair : u.pair x.q = { s.pair x.q with bufs := (s.pair x.q).bufs ++ [⟨x.id, x.d.buffer, x.d.length, 0, 0, 0⟩] } := by
    rw [← hu]
    exact pair_modPair (s := (State.advance dt s).setPhase x.id .posted) hq _
  have hgap : u.putNoBufGap x.q = u := by simp only [State.putNoBufGap, hpair, hnb]
  rw [confine_hull (by rw [hull_putNoBufGap, ← hu]; simp [State.setPhase]), hgap, hpair]
  have hin := State.inflAt_modInfl (s := State.advance dt s) (f := fun y => { y with phase := .posted }) (ready_inflAt h).1 (fun _ => rfl)
  subst hu
  exact ⟨hin, rfl, rfl, rfl⟩

/-- Settles O26: each clause is the lemma of its command. -/
theorem registerAccess : Obligations.RegisterAccess := by
  refine ⟨?_, ?_, ?_, ?_, ?_, ?_, ?_, ?_, ?_, ?_, ?_, ?_, ?_, ?_⟩
  · exact fun s dt o v w r hlive hrole ho h4 hr hl => registerWrite_word dt v w hlive hrole ho h4 hr hl
  · exact fun s dt off len ws w hlive hrole h => registerWrite_ragged dt ws w hlive hrole h
  · exact fun s dt off len ws w _ hrole => registerWrite_spring dt off len ws w hrole
  · exact fun s dt port bs m h ho hop hlen h1 h64 hblk hupd => exec_rdReq_reads dt h ho hop hlen h1 h64 hblk hupd
  · exact fun s dt port bs m reason h ho hc => exec_rdReq_naks dt h ho hc
  · intro s dt port bs m w n k h ho hop hn hlen h1 h64 hblk hupd hk hres
    refine exec_wrReq_writes dt w h ho hop hn hlen h1 h64 hblk hupd fun u hrx hu => ⟨u, ?_, hrx, hu.regsBut, hu.out⟩
    rw [if_neg (by rw [hres]; decide), hk]
  · exact fun s dt port bs m w n reason h ho hop hn hc => exec_wrReq_naks dt w h ho hop hn hc
  · intro s dt port bs m w h ho hop hlen h4 h256 hblk hupd hres
    refine exec_wrReq_writes dt w h ho hop rfl hlen (by omega) (by omega) hblk hupd fun u hrx hu => ⟨u, ?_, hrx, hu.regsBut, hu.out⟩
    rw [if_pos hres]
  · exact fun s dt port bs m a id w c sent acked x h ho hop ha hown hx hq hph hread hlast => exec_rdResp_last dt h ho hop ha hown hx hq hph hread hlast
  · exact fun s dt port bs m a id w c sent acked x h ho hop ha hown hx hq hph _ hlast => exec_wrAck_last dt h ho hop ha hown hx hq hph hlast
  · exact fun s dt q x h hmay hreach h1 => exec_remoteRead_goes dt h hmay hreach h1
  · exact fun s dt q x buf ws h hlock hmay hreach hws h1 hlen => exec_remoteWrite_goes dt h hlock hmay hreach hws h1 hlen
  · exact fun s dt e q x buf h => exec_remoteWrite_refused dt e h
  · exact fun s dt q x h hnb hq => exec_streamBuf_posts dt h hnb hq

end Sys2Proof.Machine
end

section
/-! PROOFS. The clamp of a full reset, and the levels of the output balls (R33, R152, R406, R557, R565). -/
namespace Sys2Proof.Machine

/-! ### The clamp (R33, R152) -/

/-- With its gate block at the reset values, every ball of the power stage is at its reset level. -/
theorem clamped_of_gate {s : State} (h : s.gate = {}) : s.clamped = true := by
  rw [State.clamped, State.gatesLow, State.contactorsOff, h]
  decide

theorem clampInv_of_gate {s : State} (h : s.gate = {}) : s.ClampInv := fun _ => clamped_of_gate h

/-- The release of PORST_N ends the full reset, or with TESTMODE high leaves it as PORST_N made it (R559). -/
theorem release_clampInv (s : State) (b : BootIn) : (s.release b).ClampInv := by
  obtain ⟨hfull, -⟩ := release_full s b
  intro hf
  rw [release_test s b (hfull.symm.trans hf)]
  exact clamped_of_gate rfl

/-- The four commands of the supplies and PORST_N clamp the power stage or leave it as it is; every other one does nothing in full reset and makes none. -/
theorem exec_keeps_clampInv {i : Instr} {s t : State} (h : s.ClampInv) (e : exec i s = .next t) : t.ClampInv := by
  cases hr : Instr.resets i with
  | false =>
    intro hf
    obtain ⟨-, -, -, -, hfull⟩ := exec_outlives hr e
    have hs : s.pwr.full = true := hfull.symm.trans hf
    obtain rfl := Host.Outcome.next.inj ((exec_full hr hs).symm.trans e)
    exact h hf
  | true =>
    cases i with
    | porstNAssert =>
      obtain rfl := Host.Outcome.next.inj e
      split
      · exact h
      · exact clampInv_of_gate rfl
    | porstNRelease b =>
      obtain rfl := Host.Outcome.next.inj e
      exact release_clampInv s b
    | brownOut rail =>
      obtain rfl := Host.Outcome.next.inj e
      exact clampInv_of_gate rfl
    | aonPowerOn =>
      obtain rfl := Host.Outcome.next.inj e
      exact clampInv_of_gate rfl
    | _ => simp [Instr.resets] at hr

/-- Settles O5: an empty queue idles, and the front command keeps the clamp. -/
theorem stepKeepsClamp : Obligations.StepKeepsClamp := by
  intro s t h e
  unfold step at e
  split at e
  case h_1 =>
    obtain rfl := Host.Outcome.next.inj e
    exact h
  case h_2 i rest _ => exact exec_keeps_clampInv (s := { s with pending := rest }) h e

/-! ### The output balls -/

theorem drives_full {s : State} (h : s.pwr.full = true) (r : Role) : s.drives r = false := by simp [State.drives, h]

theorem drives_other {s : State} {r q : Role} (h : s.role = r) (hq : r ≠ q) : s.drives q = false := by simp [State.drives, h, hq]

/-- Not driven by the Spring's blocks, the power stage's balls are low (R152, R565). -/
theorem springBalls_undriven {s : State} (h : s.drives .spring = false) (n : Nat) (hi : Bool) :
    s.ballGate n hi = false ∧ s.ballSsd n hi = false ∧ s.ballBypCmd = false ∧ s.ballPackCtr = false := by
  simp [State.ballGate, State.ballSsd, State.ballBypCmd, State.ballPackCtr, h]

/-- Not driven by the Basin's blocks, the safety outputs are low and the NOR is out of its reset (R406, R557). -/
theorem basinBalls_undriven {s : State} (h : s.drives .basin = false) : s.ballSafeHs = false ∧ s.ballSafeLs = false ∧ s.ballXspiRstN = true := by
  simp [State.ballSafeHs, State.ballSafeLs, State.ballXspiRstN, h]

theorem ppsOut_full {s : State} (h : s.pwr.full = true) : s.ballPpsOut = false := by simp [State.ballPpsOut, h]

theorem balls_full {s : State} (h : s.pwr.full = true) (n : Nat) (hi : Bool) :
    s.ballGate n hi = false ∧ s.ballSsd n hi = false ∧ s.ballBypCmd = false ∧ s.ballPackCtr = false ∧ s.ballSafeHs = false ∧ s.ballSafeLs = false ∧
      s.ballPpsOut = false ∧ s.ballXspiRstN = true := by
  obtain ⟨hgate, hssd, hbyp, hpack⟩ := springBalls_undriven (drives_full h .spring) n hi
  obtain ⟨hhs, hls, hrst⟩ := basinBalls_undriven (drives_full h .basin)
  exact ⟨hgate, hssd, hbyp, hpack, hhs, hls, ppsOut_full h, hrst⟩

/-- A half-bridge that a warm reset does not leave in soft turn-off is at its reset values (R136, R153). -/
theorem warmHb_of_soft_none {h : HbSt} (hs : (warmHb h).soft = none) : warmHb h = {} := by
  unfold warmHb at hs ⊢
  split
  · rename_i hsoft
    rw [if_pos hsoft] at hs
    simp only at hs
    rw [hs] at hsoft
    cases hsoft
  · rfl

/-- After a warm reset a half-bridge out of soft turn-off is at its reset values. -/
theorem warmed_hb {s t : State} (hg : t.gate = { hbs := s.gate.hbs.map warmHb }) {n : Nat} (hs : (t.hb n).soft = none) : t.hb n = {} := by
  have hb : t.hb n = ((s.gate.hbs[n]?).map warmHb).getD {} := by rw [State.hb, hg, List.getD_eq_getElem?_getD, List.getElem?_map]
  rw [hb] at hs ⊢
  cases hx : s.gate.hbs[n]? with
  | none => rfl
  | some x =>
    rw [hx] at hs
    exact warmHb_of_soft_none hs

/-- A half-bridge at its reset values drives nothing. -/
theorem balls_of_hb_reset {s : State} {n : Nat} (h : s.hb n = {}) (hi : Bool) : s.ballGate n hi = false ∧ s.ballSsd n hi = false := by
  have hch : (s.hb n).ch hi = {} := by
    rw [h]
    cases hi <;> rfl
  simp [State.ballGate, State.ballSsd, hch, ChSt.onAtBall]

/-- The balls of a device just entered into a warm reset (R33, R136, R153, R278). -/
theorem warmEnter_balls (s : State) (n : Nat) (hi : Bool) :
    s.warmEnter.ballBypCmd = false ∧ s.warmEnter.ballPackCtr = false ∧ s.warmEnter.ballPpsOut = false ∧
      ((s.warmEnter.hb n).soft = none → s.warmEnter.ballGate n hi = false ∧ s.warmEnter.ballSsd n hi = false) := by
  obtain ⟨v, e, -⟩ := warmEnter_eq s
  obtain ⟨hwarm, -, -, -, -, -, hgate, -⟩ := warmState_facts v
  rw [e]
  refine ⟨?_, ?_, ?_, fun hs => balls_of_hb_reset (warmed_hb hgate hs) hi⟩
  · simp [State.ballBypCmd, hgate]
  · simp [State.ballPackCtr, hgate]
  · simp [State.ballPpsOut, hwarm]

/-- XSPI_RST_N is low in the 10 microseconds from the start of step 4's pulse (R557). -/
theorem xspiRstLow_iff (s : State) : s.xspiRstLow = true ↔ ∃ a, s.pwr.xspiAt = some a ∧ s.time.cyc < a + 5000 := by
  unfold State.xspiRstLow cycXspi
  cases s.pwr.xspiAt <;> simp

theorem ballXspiRstN_iff {s : State} (hf : s.pwr.full = false) (hr : s.role = .basin) :
    s.ballXspiRstN = false ↔ ∃ a, s.pwr.xspiAt = some a ∧ s.time.cyc < a + 5000 := by
  rw [← xspiRstLow_iff]
  simp [State.ballXspiRstN, State.drives, hf, hr]

theorem exec_porstNAssert_full {s : State} (h : s.pwr.full = false) : ∃ t, exec .porstNAssert s = .next t ∧ t.pwr.full = true := by
  refine ⟨_, rfl, ?_⟩
  rw [if_neg (by simp [h])]
  rfl

/-- RESET_N_ASSERT enters the warm reset (R527, R528). -/
theorem exec_resetNAssert_enters {s : State} (dt : Nat) (hf : s.pwr.full = false) (hw : s.pwr.warm = false) (hl : s.pwr.rstLow = false) :
    GoesTo (exec (.resetNAssert dt) s) fun t => ∃ u : State, t = u.warmEnter := by
  change GoesTo (execResetNAssert dt s) _
  unfold execResetNAssert
  refine goesTo_powered hf ?_
  simp only [State.advance_pwr, hw, hl, Bool.false_eq_true, if_false]
  exact ⟨_, confine_hull (by simp)⟩

/-- Settles O50: full reset, the release of the blocks of the other role, the warm reset and the NOR's reset pulse. -/
theorem outputBalls : Obligations.OutputBalls := by
  refine ⟨fun s n hi h => balls_full h n hi, fun s n hi h => ?_, fun s hr => basinBalls_undriven (drives_other hr (by decide)),
    fun s n hi hr => springBalls_undriven (drives_other hr (by decide)) n hi, fun s dt n hi hf hw hl => ?_, fun s hf hr => ballXspiRstN_iff hf hr⟩
  · obtain ⟨t, e, hfull⟩ := exec_porstNAssert_full h
    exact ⟨t, e, balls_full hfull n hi⟩
  · obtain ⟨_, e, u, rfl⟩ := exec_resetNAssert_enters dt hf hw hl
    exact ⟨_, e, warmEnter_balls u n hi⟩

end Sys2Proof.Machine
end

section
/-! PROOFS. The order in which a port's lane empties (R29, R238, R241, R245, R307). -/
namespace Sys2Proof.Machine

/-- A block of a MGMT or SYNC frame that has begun to leave (R241). -/
def LaneJob.inside (j : LaneJob) : Bool := j.cls == 2 && j.opened

/-- What a choice between a first and a second way chose. -/
theorem orElse_eq_some {α : Type} {a : Option α} {f : Unit → Option α} {x : α} (h : a.orElse f = some x) : a = some x ∨ a = none ∧ f () = some x := by
  cases a with
  | none => exact .inr ⟨rfl, h⟩
  | some y => exact .inl h

/-- The job at the first place with a property has it. -/
theorem findIdx?_getElem? {α : Type} {l : List α} {p : α → Bool} {i : Nat} (h : l.findIdx? p = some i) : ∃ x, l[i]? = some x ∧ p x = true := by
  obtain ⟨hi, hp, -⟩ := List.findIdx?_eq_some_iff_getElem.mp h
  exact ⟨l[i], List.getElem?_eq_getElem hi, hp⟩

/-- What leaves next, by the order of R29, R238 and R241: a WEIR set; else a TICK or TELEM frame that is open; else another ordered set between frames; else a
TICK or TELEM frame; else the MGMT or SYNC frame that is open; else the first that waits. -/
theorem lanePick_order {l : List LaneJob} {i : Nat} (h : lanePick l = some i) : ∃ x, l[i]? = some x ∧
    (x.cls = 0 ∨ (∀ j ∈ l, j.cls ≠ 0) ∧
      (x.cls = 1 ∧ x.opened = true ∨ (∀ j ∈ l, j.cls = 1 → j.opened = false) ∧
        (x.cls = 3 ∧ (∀ j ∈ l, j.inside = false) ∨ x.cls = 1 ∨ (∀ j ∈ l, j.cls ≠ 1) ∧
          (x.cls = 2 ∧ x.opened = true ∨ (∀ j ∈ l, j.inside = false))))) := by
  unfold lanePick at h
  rcases orElse_eq_some h with h0 | ⟨n0, h⟩
  · obtain ⟨x, hx, hp⟩ := findIdx?_getElem? h0
    exact ⟨x, hx, .inl (by simpa using hp)⟩
  have n0' : ∀ j ∈ l, j.cls ≠ 0 := by simpa using n0
  rcases orElse_eq_some h with h1 | ⟨n1, h⟩
  · obtain ⟨x, hx, hp⟩ := findIdx?_getElem? h1
    exact ⟨x, hx, .inr ⟨n0', .inl (by simpa using hp)⟩⟩
  have n1' : ∀ j ∈ l, j.cls = 1 → j.opened = false := by simpa using n1
  rcases orElse_eq_some h with h3 | ⟨-, h⟩
  · split at h3
    · cases h3
    · rename_i hin
      obtain ⟨x, hx, hp⟩ := findIdx?_getElem? h3
      exact ⟨x, hx, .inr ⟨n0', .inr ⟨n1', .inl ⟨by simpa using hp, by simpa [LaneJob.inside] using hin⟩⟩⟩⟩
  rcases orElse_eq_some h with h1 | ⟨m1, h⟩
  · obtain ⟨x, hx, hp⟩ := findIdx?_getElem? h1
    exact ⟨x, hx, .inr ⟨n0', .inr ⟨n1', .inr (.inl (by simpa using hp))⟩⟩⟩
  have m1' : ∀ j ∈ l, j.cls ≠ 1 := by simpa using m1
  rcases orElse_eq_some h with h2 | ⟨n2, h⟩
  · obtain ⟨x, hx, hp⟩ := findIdx?_getElem? h2
    exact ⟨x, hx, .inr ⟨n0', .inr ⟨n1', .inr (.inr ⟨m1', .inl (by simpa using hp)⟩)⟩⟩⟩
  · obtain ⟨x, hx, -⟩ := findIdx?_getElem? h
    exact ⟨x, hx, .inr ⟨n0', .inr ⟨n1', .inr (.inr ⟨m1', .inr (by simpa [LaneJob.inside] using n2)⟩)⟩⟩⟩

/-- Where anything waits, something leaves. -/
theorem lanePick_isSome {l : List LaneJob} (h : l ≠ []) : (lanePick l).isSome = true := by
  obtain ⟨x, t, rfl⟩ := List.exists_cons_of_ne_nil h
  have hlast : (x :: t).findIdx? (fun _ => true) = some 0 := by simp [List.findIdx?_cons]
  simp [lanePick, hlast]

/-- The job chosen, against what else waits (R29, R238, R241). -/
theorem lanePick_precedence {l : List LaneJob} {i : Nat} (h : lanePick l = some i) : ∃ x, l[i]? = some x ∧ ((∃ j ∈ l, j.cls = 0) → x.cls = 0) ∧
    ((∃ j ∈ l, j.cls = 1) → x.cls ≠ 2) ∧ ((∀ j ∈ l, j.cls ≠ 0) → (∃ j ∈ l, j.cls = 1 ∧ j.opened = true) → x.cls = 1 ∧ x.opened = true) ∧
    ((∀ j ∈ l, j.cls = 2) → (∃ j ∈ l, j.opened = true) → x.opened = true) := by
  obtain ⟨x, hx, hord⟩ := lanePick_order h
  have hmem : x ∈ l := List.mem_of_getElem? hx
  refine ⟨x, hx, ?_, ?_, ?_, ?_⟩
  · rintro ⟨j, hj, hj0⟩
    rcases hord with h0 | ⟨n0, -⟩
    · exact h0
    · exact absurd hj0 (n0 j hj)
  · rintro ⟨j, hj, hj1⟩
    rcases hord with h0 | ⟨-, ⟨h1, -⟩ | ⟨-, ⟨h3, -⟩ | h1 | ⟨n1, -⟩⟩⟩
    · omega
    · omega
    · omega
    · omega
    · exact absurd hj1 (n1 j hj)
  · rintro hno0 ⟨j, hj, hj1, hopen⟩
    rcases hord with h0 | ⟨-, h1 | ⟨n1, -⟩⟩
    · exact absurd h0 (hno0 x hmem)
    · exact h1
    · rw [n1 j hj hj1] at hopen
      cases hopen
  · rintro hall ⟨j, hj, hopen⟩
    have hx2 := hall x hmem
    have hin : j.inside = true := by simp [LaneJob.inside, hall j hj, hopen]
    rcases hord with h0 | ⟨-, ⟨-, ho⟩ | ⟨-, ⟨h3, -⟩ | h1 | ⟨-, ⟨-, ho⟩ | n2⟩⟩⟩
    · omega
    · exact ho
    · omega
    · omega
    · exact ho
    · rw [n2 j hj] at hin
      cases hin

/-! ### A TICK or TELEM frame among MGMT and SYNC frames (R29, R241) -/

theorem findIdx?_none_of_cls {l : List LaneJob} (hl : ∀ j ∈ l, j.cls = 2) (p : LaneJob → Bool) (hp : ∀ j : LaneJob, j.cls = 2 → p j = false) :
    l.findIdx? p = none := List.findIdx?_eq_none_iff.mpr fun j hj => hp j (hl j hj)

theorem lanePick_only_tick {a b : List LaneJob} {x : LaneJob} (hx : x.cls = 1) (ha : ∀ j ∈ a, j.cls = 2) (hb : ∀ j ∈ b, j.cls = 2) :
    lanePick (a ++ x :: b) = some a.length := by
  have hfind : ∀ p : LaneJob → Bool, (∀ j : LaneJob, j.cls = 2 → p j = false) → (a ++ x :: b).findIdx? p = if p x then some a.length else none := by
    intro p hp
    rw [List.findIdx?_append, findIdx?_none_of_cls ha p hp, List.findIdx?_cons, findIdx?_none_of_cls hb p hp]
    cases p x <;> simp
  unfold lanePick
  simp only
  rw [hfind (fun j => j.cls == 0) (fun j hj => by simp [hj]), hfind (fun j => j.cls == 1 && j.opened) (fun j hj => by simp [hj]),
    hfind (fun j => j.cls == 3) (fun j hj => by simp [hj]), hfind (fun j => j.cls == 1) (fun j hj => by simp [hj])]
  cases x.opened <;> simp [hx]

theorem laneSend_only_tick {a b : List LaneJob} {x : LaneJob} (hx : x.cls = 1) (ha : ∀ j ∈ a, j.cls = 2) (hb : ∀ j ∈ b, j.cls = 2) :
    laneSend (a ++ x :: b) = if x.left ≤ 1 then a ++ b else a ++ { x with left := x.left - 1, opened := true } :: b := by
  simp [laneSend, lanePick_only_tick hx ha hb, List.eraseIdx_append_of_length_le]

/-- The frame leaves whole, in as many block times as it has blocks. -/
theorem laneRun_only_tick (n : Nat) {a b : List LaneJob} {x : LaneJob} (hn : x.left = n + 1) (hx : x.cls = 1) (ha : ∀ j ∈ a, j.cls = 2)
    (hb : ∀ j ∈ b, j.cls = 2) : laneRun (n + 1) (a ++ x :: b) = a ++ b := by
  induction n generalizing x with
  | zero => rw [laneRun, laneRun, laneSend_only_tick hx ha hb, if_pos (by omega)]
  | succ n ih =>
    rw [laneRun, laneSend_only_tick hx ha hb, if_neg (by omega)]
    exact ih (x := { x with left := x.left - 1, opened := true }) (by simp [hn]) hx

/-! ### One MGMT or SYNC frame at a time (R241) -/

theorem laneSend_inside {l : List LaneJob} (h : l.countP LaneJob.inside ≤ 1) : (laneSend l).countP LaneJob.inside ≤ 1 := by
  unfold laneSend
  split
  · exact h
  · rename_i i hi
    obtain ⟨x, hx, hord⟩ := lanePick_order hi
    obtain ⟨hlt, hget⟩ := List.getElem?_eq_some_iff.mp hx
    rw [hx]
    simp only
    split
    · exact (List.Sublist.countP_le (List.eraseIdx_sublist l i)).trans h
    · rw [List.countP_set hlt, hget]
      by_cases h2 : x.cls = 2
      · rcases hord with h0 | ⟨-, ⟨h1, -⟩ | ⟨-, ⟨h3, -⟩ | h1 | ⟨-, ⟨-, ho⟩ | n2⟩⟩⟩
        · omega
        · omega
        · omega
        · omega
        · have hin : x.inside = true := by simp [LaneJob.inside, h2, ho]
          have hpos : 0 < l.countP LaneJob.inside := List.countP_pos_iff.mpr ⟨x, List.mem_of_getElem? hx, hin⟩
          have hnew : LaneJob.inside { x with left := x.left - 1, opened := true } = true := by simp [LaneJob.inside, h2]
          simp only [hin, hnew, if_true]
          omega
        · rw [List.countP_eq_zero.mpr (by simpa using n2)]
          simp [LaneJob.inside, h2]
      · simpa [LaneJob.inside, h2] using h

theorem laneRun_inside (n : Nat) {l : List LaneJob} (h : l.countP LaneJob.inside ≤ 1) : (laneRun n l).countP LaneJob.inside ≤ 1 := by
  induction n generalizing l with
  | zero => exact h
  | succ n ih => exact ih (laneSend_inside h)

/-! ### Frames handed to a lane (R29, R307) -/

theorem sendFrame_on {s : State} {p : Nat} (f : Frame) (hp : p < s.lanes.length) (h : s.lanesOff = false) : (s.sendFrame p f).out = s.out ++ [.frame p (wireBytes f)] ∧
    ((s.sendFrame p f).lanes.getD p {}).jobs =
      (s.lane p).jobs ++ [{ cls := laneClass (ftypeOf (wireBytes f)), left := blockCount (wireBytes f).length, bytes := (wireBytes f).length }] := by
  simp [State.sendFrame, State.laneOut, h, State.emit, hp]

theorem sendFrame_off {s : State} (p : Nat) (f : Frame) (h : s.lanesOff = true) : s.sendFrame p f = s := by simp [State.sendFrame, State.laneOut, h]

/-- Settles O49: the order of what leaves, a TICK or TELEM frame on its way, one open MGMT or SYNC frame, and what a frame sent adds. -/
theorem laneOrder : Obligations.LaneOrder := by
  refine ⟨fun l h => lanePick_isSome h, fun l i h => lanePick_precedence h, fun a b x hx hleft ha hb => ?_, fun l n h => ?_,
    fun s p f hp h => sendFrame_on f hp h, fun s p f h => sendFrame_off p f h⟩
  · obtain ⟨n, hn⟩ : ∃ n, x.left = n + 1 := ⟨x.left - 1, by omega⟩
    rw [hn]
    exact laneRun_only_tick n hn hx ha hb
  · have hcount : ∀ k : List LaneJob, (k.filter (fun j => j.cls == 2 && j.opened)).length = k.countP LaneJob.inside := fun k => List.countP_eq_length_filter.symm
    rw [hcount] at h ⊢
    exact laneRun_inside n h

end Sys2Proof.Machine
end

section
/-! PROOFS. Frames as the blocks of a lane: what a receiver makes of them, whole, around another frame and around a WEIR set (R237, R240, R241). -/
namespace Sys2Proof.Machine

/-! ### The blocks of a frame (R237, R240) -/

theorem bytesWf_take {l : List Nat} (h : bytesWf l = true) (n : Nat) : bytesWf (l.take n) = true := by
  simp only [bytesWf, List.all_eq_true] at *
  exact fun x hx => h x (List.mem_of_mem_take hx)

theorem bytesWf_drop {l : List Nat} (h : bytesWf l = true) (n : Nat) : bytesWf (l.drop n) = true := by
  simp only [bytesWf, List.all_eq_true] at *
  exact fun x hx => h x (List.mem_of_mem_drop hx)

theorem tailBlocks_length (n : Nat) {l : List Nat} (h : l.length ≤ n) : (tailBlocks n l).length = l.length / 8 + 1 := by
  induction n generalizing l with
  | zero => simp [tailBlocks, Nat.le_zero.mp h]
  | succ n ih =>
    unfold tailBlocks
    split
    · rename_i hlt
      simp [Nat.div_eq_of_lt hlt]
    · have hl := ih (l := l.drop 8) (by rw [List.length_drop]; omega)
      rw [List.length_cons, hl, List.length_drop]
      omega

theorem frameBlocks_length {l : List Nat} : (frameBlocks l).length = blockCount l.length := by
  rw [frameBlocks, List.length_cons, tailBlocks_length _ (by simp), List.length_drop, blockCount]

theorem tailBlocks_wf (n : Nat) {l : List Nat} (h : l.length ≤ n) (hb : bytesWf l = true) : (tailBlocks n l).all Block.wf = true := by
  induction n generalizing l with
  | zero =>
    have hl : l = [] := List.length_eq_zero_iff.mp (Nat.le_zero.mp h)
    subst hl
    rfl
  | succ n ih =>
    unfold tailBlocks
    split
    · simp [Block.wf, hb]
      omega
    · have ht := ih (l := l.drop 8) (by rw [List.length_drop]; omega) (bytesWf_drop hb 8)
      simp [Block.wf, ht, bytesWf_take hb 8]
      omega

theorem frameBlocks_wf {l : List Nat} (h : 7 ≤ l.length) (hb : bytesWf l = true) : (frameBlocks l).all Block.wf = true := by
  rw [frameBlocks, List.all_cons, tailBlocks_wf _ (by simp) (bytesWf_drop hb 7)]
  simp [Block.wf, bytesWf_take hb 7, h]

/-! ### What a receiver makes of them (R237, R241) -/

/-- The receiver is inside a frame of its own: open, neither ended nor dropped, no frame nested in it. -/
def Heard.taking (r : Heard) : Prop := r.isOpen = true ∧ r.inner = false ∧ r.done = false ∧ r.bad = false

/-- The receiver is inside a frame that is nested in its own. -/
def Heard.nested (r : Heard) : Prop := r.isOpen = true ∧ r.inner = true ∧ r.done = false ∧ r.bad = false

theorem step_data_taking {r : Heard} (h : r.taking) (x : List Nat) : r.step (.data x) = { r with bytes := r.bytes ++ x } := by
  obtain ⟨hopen, hinner, hdone, hbad⟩ := h
  simp [Heard.step, hopen, hinner, hdone, hbad]

theorem step_term_taking {r : Heard} (h : r.taking) (x : List Nat) : r.step (.term x) = { r with bytes := r.bytes ++ x, done := true } := by
  obtain ⟨hopen, hinner, hdone, hbad⟩ := h
  simp [Heard.step, hopen, hinner, hdone, hbad]

theorem step_data_nested {r : Heard} (h : r.nested) (x : List Nat) : r.step (.data x) = r := by
  obtain ⟨hopen, hinner, hdone, hbad⟩ := h
  simp [Heard.step, hinner, hdone, hbad]

theorem step_term_nested {r : Heard} (h : r.nested) (x : List Nat) : r.step (.term x) = { r with inner := false } := by
  obtain ⟨hopen, hinner, hdone, hbad⟩ := h
  simp [Heard.step, hopen, hinner, hdone, hbad]

theorem step_bad {r : Heard} (h : r.bad = true) (b : Block) : r.step b = r := by simp [Heard.step, h]

theorem fold_bad {r : Heard} (h : r.bad = true) (bs : List Block) : bs.foldl Heard.step r = r := by
  induction bs with
  | nil => rfl
  | cons b t ih => rw [List.foldl_cons, step_bad h, ih]

theorem fold_tail_taking (n : Nat) (l : List Nat) {r : Heard} (h : r.taking) :
    (tailBlocks n l).foldl Heard.step r = { r with bytes := r.bytes ++ l, done := true } := by
  induction n generalizing l r with
  | zero => exact step_term_taking h l
  | succ n ih =>
    unfold tailBlocks
    split
    · exact step_term_taking h l
    · rw [List.foldl_cons, step_data_taking h, ih]
      · simp
      · exact h

theorem fold_tail_nested (n : Nat) (l : List Nat) {r : Heard} (h : r.nested) : (tailBlocks n l).foldl Heard.step r = { r with inner := false } := by
  induction n generalizing l with
  | zero => exact step_term_nested h l
  | succ n ih =>
    unfold tailBlocks
    split
    · exact step_term_nested h l
    · rw [List.foldl_cons, step_data_nested h, ih]

/-- Before its terminate block a frame is being taken, with what its data blocks added. -/
theorem fold_tail_part (n k : Nat) (l : List Nat) {r : Heard} (h : r.taking) (hk : k < (tailBlocks n l).length) :
    ∃ x, ((tailBlocks n l).take k).foldl Heard.step r = { r with bytes := r.bytes ++ x } := by
  induction n generalizing k l r with
  | zero =>
    obtain rfl : k = 0 := by simpa [tailBlocks] using hk
    exact ⟨[], by simp⟩
  | succ n ih =>
    unfold tailBlocks at hk ⊢
    split at hk
    · rename_i hlt
      obtain rfl : k = 0 := by simpa using hk
      exact ⟨[], by simp⟩
    · rename_i hge
      rw [if_neg hge]
      cases k with
      | zero => exact ⟨[], by simp⟩
      | succ k =>
        obtain ⟨x, hx⟩ := ih k (l.drop 8) (r := { r with bytes := r.bytes ++ l.take 8 }) h (by simpa using hk)
        exact ⟨l.take 8 ++ x, by rw [List.take_succ_cons, List.foldl_cons, step_data_taking h, hx, List.append_assoc]⟩

/-- A frame heard alone is whole (R240). -/
theorem hear_frameBlocks (l : List Nat) : hear (frameBlocks l) = { bytes := l, isOpen := true, done := true } := by
  rw [hear, frameBlocks, List.foldl_cons]
  refine (fold_tail_taking l.length (l.drop 7) (r := { bytes := l.take 7, isOpen := true }) ⟨rfl, rfl, rfl, rfl⟩).trans ?_
  rw [List.take_append_drop]

/-- At any block boundary inside a frame the receiver is taking it, and has what its FTYPE stands in. -/
theorem fold_frame_part {l : List Nat} {n : Nat} (h0 : 0 < n) (hn : n < (frameBlocks l).length) :
    ∃ x, ((frameBlocks l).take n).foldl Heard.step {} = { bytes := l.take 7 ++ x, isOpen := true } := by
  obtain ⟨k, rfl⟩ : ∃ k, n = k + 1 := ⟨n - 1, by omega⟩
  exact fold_tail_part l.length k (l.drop 7) (r := { bytes := l.take 7, isOpen := true }) ⟨rfl, rfl, rfl, rfl⟩ (by simpa [frameBlocks] using hn)

theorem ftypeOf_part {l : List Nat} (h : l ≠ []) (x : List Nat) : ftypeOf (l.take 7 ++ x) = ftypeOf l := by
  obtain ⟨a, t, rfl⟩ := List.exists_cons_of_ne_nil h
  rfl

/-- A frame inside an open MGMT or SYNC frame leaves the receiver where it was (R241). -/
theorem fold_nested {r : Heard} (h : r.taking) (hft : ftypeOf r.bytes = ftMGMT ∨ ftypeOf r.bytes = ftSYNC) (g : List Nat) :
    (frameBlocks g).foldl Heard.step r = r := by
  obtain ⟨hopen, hinner, hdone, hbad⟩ := h
  have hstart : r.step (.start (g.take 7)) = { r with inner := true } := by
    rcases hft with hft | hft <;> simp [Heard.step, hopen, hinner, hdone, hbad, hft]
  rw [frameBlocks, List.foldl_cons, hstart, fold_tail_nested _ _ (r := { r with inner := true }) ⟨hopen, rfl, hdone, hbad⟩]
  cases r
  simp only at hinner
  rw [hinner]

/-- A start block inside an open TICK or TELEM frame drops both and counts (R237). -/
theorem fold_dropped {r : Heard} (h : r.taking) (hft : ftypeOf r.bytes = ftTICK ∨ ftypeOf r.bytes = ftTELEM) (g : List Nat) :
    (frameBlocks g).foldl Heard.step r = { r with bad := true, errs := r.errs + 1 } := by
  obtain ⟨hopen, hinner, hdone, hbad⟩ := h
  have hstart : r.step (.start (g.take 7)) = { r with bad := true, errs := r.errs + 1 } := by
    rcases hft with hft | hft <;> simp [Heard.step, hopen, hinner, hdone, hbad, hft, ftTICK, ftTELEM, ftMGMT, ftSYNC]
  rw [frameBlocks, List.foldl_cons, hstart, fold_bad rfl]

theorem hear_split (a g b : List Block) : hear (a ++ g ++ b) = b.foldl Heard.step (g.foldl Heard.step (a.foldl Heard.step {})) := by
  rw [hear, List.foldl_append, List.foldl_append]

/-- The outer MGMT or SYNC frame is heard as if nothing had come between (R241). -/
theorem hear_around {l : List Nat} (hl : l ≠ []) (g : List Nat) {n : Nat} (h0 : 0 < n) (hn : n < (frameBlocks l).length)
    (hft : ftypeOf l = ftMGMT ∨ ftypeOf l = ftSYNC) :
    hear ((frameBlocks l).take n ++ frameBlocks g ++ (frameBlocks l).drop n) = hear (frameBlocks l) := by
  obtain ⟨x, hx⟩ := fold_frame_part h0 hn
  rw [hear_split, hx, fold_nested ⟨rfl, rfl, rfl, rfl⟩ (by rwa [ftypeOf_part hl]), ← hx, ← List.foldl_append, List.take_append_drop, hear]

/-- The outer TICK or TELEM frame is lost, and counts once (R237, R241). -/
theorem hear_broken {l : List Nat} (hl : l ≠ []) (g : List Nat) {n : Nat} (h0 : 0 < n) (hn : n < (frameBlocks l).length)
    (hft : ftypeOf l = ftTICK ∨ ftypeOf l = ftTELEM) :
    (hear ((frameBlocks l).take n ++ frameBlocks g ++ (frameBlocks l).drop n)).good = false ∧
      (hear ((frameBlocks l).take n ++ frameBlocks g ++ (frameBlocks l).drop n)).count = 1 := by
  obtain ⟨x, hx⟩ := fold_frame_part h0 hn
  rw [hear_split, hx, fold_dropped ⟨rfl, rfl, rfl, rfl⟩ (by rwa [ftypeOf_part hl]), fold_bad rfl]
  simp [Heard.good, Heard.count, b2n]

/-- A WEIR set changes nothing of a frame's reception (R238). -/
theorem step_weir (r : Heard) {v : Nat} (h : osetCode v = ocWEIR) : r.step (.oset v) = r := by simp [Heard.step, h]

theorem hear_weir (bs : List Block) (n : Nat) {v : Nat} (h : osetCode v = ocWEIR) : hear (bs.take n ++ [.oset v] ++ bs.drop n) = hear bs := by
  rw [hear_split, List.foldl_cons, List.foldl_nil, step_weir _ h, ← List.foldl_append, List.take_append_drop, hear]

/-! ### The blocks of the frame alone -/

theorem ownBlocks_append (a b : List Block) (r : Heard) : ownBlocks r (a ++ b) = ownBlocks r a ++ ownBlocks (a.foldl Heard.step r) b := by
  induction a generalizing r with
  | nil => rfl
  | cons x t ih =>
    simp only [List.cons_append, ownBlocks, List.foldl_cons, ih]
    split <;> split <;> simp

/-- A data or a terminate block: what follows a frame's start block. -/
def blockFollows : Block → Bool
  | .data _ => true
  | .term _ => true
  | _ => false

theorem tailBlocks_follow (n : Nat) (l : List Nat) : ∀ b ∈ tailBlocks n l, blockFollows b = true := by
  induction n generalizing l with
  | zero => simp [tailBlocks, blockFollows]
  | succ n ih =>
    unfold tailBlocks
    split
    · simp [blockFollows]
    · rintro b (_ | ⟨_, hb⟩)
      · rfl
      · exact ih _ b hb

/-- With no frame nested in it, a frame's data and terminate blocks are its own. -/
theorem ownBlocks_follow {bs : List Block} (h : ∀ b ∈ bs, blockFollows b = true) {r : Heard} (hr : r.inner = false) : ownBlocks r bs = bs := by
  induction bs generalizing r with
  | nil => rfl
  | cons b t ih =>
    have hb := h b List.mem_cons_self
    have hstep : (r.step b).inner = false := by
      cases b <;> simp [blockFollows] at hb <;> simp only [Heard.step] <;> split_ifs <;> simp [hr]
    have ht := ih (fun c hc => h c (List.mem_cons_of_mem _ hc)) hstep
    cases b <;> simp [blockFollows] at hb <;> simp [ownBlocks, hr, ht]

/-- None of a nested frame's data and terminate blocks are. -/
theorem ownBlocks_tail_nested (n : Nat) (l : List Nat) {r : Heard} (h : r.nested) : ownBlocks r (tailBlocks n l) = [] := by
  obtain ⟨hopen, hinner, hdone, hbad⟩ := h
  induction n generalizing l with
  | zero => simp [tailBlocks, ownBlocks, hinner]
  | succ n ih =>
    unfold tailBlocks
    split
    · simp [ownBlocks, hinner]
    · simp only [ownBlocks, hinner, step_data_nested ⟨hopen, hinner, hdone, hbad⟩, Bool.not_true, Bool.false_eq_true, if_false]
      exact ih _

theorem ownBlocks_nested {r : Heard} (h : r.taking) (hft : ftypeOf r.bytes = ftMGMT ∨ ftypeOf r.bytes = ftSYNC) (g : List Nat) :
    ownBlocks r (frameBlocks g) = [] := by
  obtain ⟨hopen, hinner, hdone, hbad⟩ := h
  have hstart : r.step (.start (g.take 7)) = { r with inner := true } := by
    rcases hft with hft | hft <;> simp [Heard.step, hopen, hinner, hdone, hbad, hft]
  rw [frameBlocks, ownBlocks, hstart, ownBlocks_tail_nested _ _ (r := { r with inner := true }) ⟨hopen, rfl, hdone, hbad⟩]
  rfl

theorem ownBlocks_part (l : List Nat) {n : Nat} (h0 : 0 < n) : ownBlocks {} ((frameBlocks l).take n) = (frameBlocks l).take n := by
  obtain ⟨k, rfl⟩ : ∃ k, n = k + 1 := ⟨n - 1, by omega⟩
  have htail := ownBlocks_follow (bs := (tailBlocks l.length (l.drop 7)).take k) (r := { bytes := l.take 7, isOpen := true })
    (fun b hb => tailBlocks_follow _ _ b (List.mem_of_mem_take hb)) rfl
  rw [frameBlocks, List.take_succ_cons]
  exact congrArg (Block.start (l.take 7) :: ·) htail

/-- What a receiver takes as the outer frame's own blocks are that frame's (R241). -/
theorem ownBlocks_around {l : List Nat} (hl : l ≠ []) (g : List Nat) {n : Nat} (h0 : 0 < n) (hn : n < (frameBlocks l).length)
    (hft : ftypeOf l = ftMGMT ∨ ftypeOf l = ftSYNC) :
    ownBlocks {} ((frameBlocks l).take n ++ frameBlocks g ++ (frameBlocks l).drop n) = frameBlocks l := by
  obtain ⟨x, hx⟩ := fold_frame_part h0 hn
  have hft' : ftypeOf (l.take 7 ++ x) = ftMGMT ∨ ftypeOf (l.take 7 ++ x) = ftSYNC := by rwa [ftypeOf_part hl]
  have hrest : ∀ b ∈ (frameBlocks l).drop n, blockFollows b = true := by
    obtain ⟨k, rfl⟩ : ∃ k, n = k + 1 := ⟨n - 1, by omega⟩
    exact fun b hb => tailBlocks_follow _ _ b (List.mem_of_mem_drop hb)
  rw [ownBlocks_append, ownBlocks_append, List.foldl_append, hx, fold_nested ⟨rfl, rfl, rfl, rfl⟩ hft', ownBlocks_nested ⟨rfl, rfl, rfl, rfl⟩ hft',
    ownBlocks_part l h0, ownBlocks_follow hrest rfl, List.append_nil, List.take_append_drop]

end Sys2Proof.Machine
end

section
/-! PROOFS. TICK, TELEM, MGMT and SYNC frames: their bytes and what is read from them (R72, R74, R240, R242, R246, R254). -/
namespace Sys2Proof.Machine

/-! ### Signed values (R8) -/

theorem toSigned_ofSigned {w : Nat} (hw : 0 < w) {v : Int} (h : sfits w v = true) : toSigned w (ofSigned w v % 2 ^ w) = v := by
  simp only [sfits, Bool.and_eq_true, decide_eq_true_eq] at h
  obtain ⟨k, rfl⟩ : ∃ k, w = k + 1 := ⟨w - 1, by omega⟩
  have hp : (2 : Int) ^ (k + 1) = 2 * 2 ^ k := by ring
  have hn : (2 : Nat) ^ (k + 1) = 2 * 2 ^ k := by ring
  have hc : ((2 ^ k : Nat) : Int) = 2 ^ k := by push_cast; rfl
  simp only [Nat.add_sub_cancel] at h
  simp only [toSigned, ofSigned, Nat.mod_mod, hp, hn, ← hc] at h ⊢
  have hpos : 0 < 2 ^ k := Nat.two_pow_pos k
  generalize 2 ^ k = m at *
  obtain ⟨hlo, hhi⟩ := h
  rcases Int.lt_or_le v 0 with hv | hv
  · have hu : v % (2 * (m : Int)) = v + 2 * m := by
      rw [← Int.add_emod_right, Int.emod_eq_of_lt (by omega) (by omega)]
    have hm : (v + 2 * (m : Int)).toNat % (2 * m) = (v + 2 * (m : Int)).toNat := Nat.mod_eq_of_lt (by omega)
    rw [hu, hm, if_neg (by omega)]
    omega
  · rw [Int.emod_eq_of_lt hv (by omega), Nat.mod_eq_of_lt (a := v.toNat) (by omega), if_pos (by omega)]
    omega

@[simp] theorem sBytes_length (n : Nat) (v : Int) : (sBytes n v).length = n := leBytes_length _ _

@[simp] theorem sAt_append (a b : List Nat) (i n : Nat) (h : a.length ≤ i) : sAt (a ++ b) i n = sAt b (i - a.length) n := by
  rw [sAt, bytesAt_append a b i n h, sAt]

@[simp] theorem sAt_cons (x : Nat) (l : List Nat) (i n : Nat) : sAt (x :: l) (i + 1) n = sAt l i n := rfl

@[simp] theorem sAt_sBytes {n : Nat} (hn : 0 < n) {v : Int} (h : sfits (8 * n) v = true) (l : List Nat) : sAt (sBytes n v ++ l) 0 n = v := by
  have hp : (256 : Nat) ^ n = 2 ^ (8 * n) := by rw [Nat.pow_mul]
  rw [sAt, sBytes, bytesAt_leBytes, hp, toSigned_ofSigned (by omega) h]

/-! ### Bytes below 256 -/

@[simp] theorem bytesWf_nil : bytesWf [] = true := rfl

@[simp] theorem bytesWf_cons (x : Nat) (l : List Nat) : bytesWf (x :: l) = (decide (x < 256) && bytesWf l) := rfl

@[simp] theorem bytesWf_append (a b : List Nat) : bytesWf (a ++ b) = (bytesWf a && bytesWf b) := List.all_append

@[simp] theorem bytesWf_leBytes (n v : Nat) : bytesWf (leBytes n v) = true := by
  induction n generalizing v with
  | zero => rfl
  | succ n ih => simp [leBytes, ih, Nat.mod_lt]

@[simp] theorem bytesWf_sBytes (n : Nat) (v : Int) : bytesWf (sBytes n v) = true := bytesWf_leBytes _ _

@[simp] theorem bytesWf_zeros (n : Nat) : bytesWf (List.replicate n 0) = true := by
  simp only [bytesWf, List.all_eq_true]
  rintro x hx
  rw [List.eq_of_mem_replicate hx]
  rfl

theorem bytesWf_padTo (n : Nat) {l : List Nat} (h : bytesWf l = true) : bytesWf (padTo n l) = true :=
  bytesWf_take (by rw [bytesWf_append, h, bytesWf_zeros]; rfl) n

theorem bytesWf_flatMap {α : Type} {l : List α} {g : α → List Nat} (h : ∀ x ∈ l, bytesWf (g x) = true) : bytesWf (l.flatMap g) = true := by
  induction l with
  | nil => rfl
  | cons x t ih => rw [List.flatMap_cons, bytesWf_append, h x List.mem_cons_self, ih fun y hy => h y (List.mem_cons_of_mem _ hy)]; rfl

theorem b2n_le (b : Bool) : b2n b ≤ 1 := by cases b <;> decide

/-! ### The envelope and the check (R240) -/

theorem frameBytes_length (ft : Nat) (rel : Bool) (addr : Nat) (body : List Nat) : (frameBytes ft rel addr body).length = body.length + 6 := by
  simp [frameBytes, envelope]

theorem frameBytes_drop (ft : Nat) (rel : Bool) (addr : Nat) (body : List Nat) :
    (frameBytes ft rel addr body).drop 2 = body ++ leBytes 4 (crc32 (envelope ft rel addr ++ body)) := rfl

theorem bodyOf_frameBytes (ft : Nat) (rel : Bool) (addr : Nat) (body : List Nat) : bodyOf (frameBytes ft rel addr body) = body := by
  rw [bodyOf, frameBytes_length, frameBytes_drop, Nat.add_sub_cancel, List.take_left]

theorem ftypeOf_frameBytes {ft : Nat} (h : ft < 16) (rel : Bool) (addr : Nat) (body : List Nat) : ftypeOf (frameBytes ft rel addr body) = ft := by
  change (ft % 16 + 16 * b2n rel) % 16 = ft
  omega

theorem relayedOf_frameBytes (ft : Nat) (rel : Bool) (addr : Nat) (body : List Nat) : relayedOf (frameBytes ft rel addr body) = rel := by
  change bitOf (ft % 16 + 16 * b2n rel) 4 = rel
  cases rel <;> simp [bitOf_eq, b2n]

theorem addrOf_frameBytes (ft : Nat) (rel : Bool) {addr : Nat} (h : addr < 256) (body : List Nat) : addrOf (frameBytes ft rel addr body) = addr :=
  Nat.mod_eq_of_lt h

theorem frameOk_frameBytes (ft : Nat) (rel : Bool) (addr : Nat) (body : List Nat) : frameOk (frameBytes ft rel addr body) = true := by
  have hcrc : crc32 (envelope ft rel addr ++ body) % 256 ^ 4 = crc32 (envelope ft rel addr ++ body) := Nat.mod_eq_of_lt (crc32_lt _)
  have hlen : (frameBytes ft rel addr body).length - 4 = (envelope ft rel addr ++ body).length := by rw [frameBytes_length]; simp [envelope]
  have hsix : 6 ≤ (frameBytes ft rel addr body).length := by rw [frameBytes_length]; omega
  rw [frameOk, hlen, decide_eq_true hsix]
  unfold frameBytes
  dsimp only
  rw [bytesAt_append _ _ _ _ (Nat.le_refl _), Nat.sub_self, bytesAt_leBytes_last, hcrc, List.take_left]
  simp

theorem frameBytes_wf (ft : Nat) (rel : Bool) (addr : Nat) {body : List Nat} (h : bytesWf body = true) : bytesWf (frameBytes ft rel addr body) = true := by
  have hrel := b2n_le rel
  simp [frameBytes, envelope, h, Nat.mod_lt]
  omega

/-! ### The slots of a TICK frame (R72) -/

theorem slotBytes_length (x : Slot) : (slotBytes x).length = 32 := by simp [slotBytes]

theorem slotBytes_wf {x : Slot} (h : x.wf = true) : bytesWf (slotBytes x) = true := by
  have hr := b2n_le x.restart
  have hd := b2n_le x.dabEn
  simp only [Slot.wf, Bool.and_eq_true] at h
  simp [slotBytes, bytesWf_padTo 14 h.2, Nat.mod_lt]
  omega

/-- Byte 9 of a slot: RESTART and DAB_EN (R72). -/
theorem slotFlags_read (r d : Bool) : bitOf ((b2n r + 2 * b2n d) % 256) 0 = r ∧ bitOf ((b2n r + 2 * b2n d) % 256) 1 = d := by
  cases r <;> cases d <;> decide

theorem slotOf_slotBytes {x : Slot} (h : x.wf = true) : slotOf (slotBytes x) = x := by
  obtain ⟨hr, hd⟩ := slotFlags_read x.restart x.dabEn
  simp only [Slot.wf, fits, Bool.and_eq_true, decide_eq_true_eq] at h
  obtain ⟨⟨⟨⟨⟨⟨⟨⟨⟨hmode, hlevel⟩, hseq⟩, hm⟩, hphase⟩, hpDab⟩, hsrc⟩, hop⟩, hlen⟩, -⟩ := h
  cases x
  dsimp only at *
  simp [slotOf, slotBytes, drop_append_past, padTo_eq hlen, hr, hd, hlevel, hm, hpDab, hlen]
  omega

/-- The parts of a list laid out one after another, each of the same length. -/
theorem flatMap_part {α : Type} {g : α → List Nat} {k : Nat} (hg : ∀ x, (g x).length = k) (l : List α) (i : Nat) (h : i < l.length) :
    ((l.flatMap g).drop (k * i)).take k = g l[i] := by
  induction l generalizing i with
  | nil => exact absurd h (Nat.not_lt_zero _)
  | cons x t ih =>
    cases i with
    | zero => simp [← hg x]
    | succ i =>
      have hx : (g x).length = k := hg x
      rw [List.flatMap_cons, drop_append_past _ _ _ (by rw [hx, Nat.mul_succ]; omega), hx, Nat.mul_succ, Nat.add_sub_cancel]
      exact ih i (by simpa using h)

theorem flatMap_length {α : Type} {g : α → List Nat} {k : Nat} (hg : ∀ x, (g x).length = k) (l : List α) : (l.flatMap g).length = k * l.length := by
  induction l with
  | nil => rfl
  | cons x t ih => rw [List.flatMap_cons, List.length_append, hg, ih, List.length_cons, Nat.mul_succ, Nat.add_comm]

/-! ### The TICK frame (R242) -/

theorem hdrBytes_length (h : TickHdr) : (hdrBytes h).length = 60 := by simp [hdrBytes]

theorem tickBody_length (f : TickFrame) : (tickBody f).length = 64 + 32 * f.slots.length := by
  simp [tickBody, hdrBytes_length, flatMap_length slotBytes_length, ← Nat.add_assoc]

/-- Header byte 14: SIDE, FAR_FED and WEIR_STN (R242). -/
theorem hdrFlags_read (side : Side) (far stn : Bool) : (if bitOf ((b2n (side == .b) + 2 * b2n far + 4 * b2n stn) % 256) 0 then Side.b else Side.a) = side ∧
    bitOf ((b2n (side == .b) + 2 * b2n far + 4 * b2n stn) % 256) 1 = far ∧ bitOf ((b2n (side == .b) + 2 * b2n far + 4 * b2n stn) % 256) 2 = stn := by
  cases side <;> cases far <;> cases stn <;> decide

theorem hdrOf_hdrBytes {h : TickHdr} (hwf : h.wf = true) (htod : h.todValid = Config.todShown h.todSec h.todNs) (l : List Nat) : hdrOf (hdrBytes h ++ l) = h := by
  obtain ⟨hside, hfar, hstn⟩ := hdrFlags_read h.side h.farFed h.weirStn
  simp only [TickHdr.wf, fits, Bool.and_eq_true, decide_eq_true_eq] at hwf
  cases h
  dsimp only at *
  have hsec := Nat.mod_eq_of_lt hwf.1.2
  have hns := Nat.mod_eq_of_lt hwf.2
  simp only [Nat.reducePow] at hsec hns
  simp [hdrOf, hdrBytes, hside, hfar, hstn, htod, hsec, hns]
  omega

theorem tickBody_wf {f : TickFrame} (h : f.wf = true) : bytesWf (tickBody f) = true := by
  have hslots : bytesWf (f.slots.flatMap slotBytes) = true := by
    simp only [TickFrame.wf, Bool.and_eq_true, List.all_eq_true] at h
    exact bytesWf_flatMap fun x hx => slotBytes_wf (h.2 x hx)
  have h0 := b2n_le (f.hdr.side == .b)
  have h1 := b2n_le f.hdr.farFed
  have h2 := b2n_le f.hdr.weirStn
  simp [tickBody, hdrBytes, hslots, Nat.mod_lt]
  omega

theorem wireBytes_tick_drop (f : TickFrame) : ∃ x, (wireBytes (.tick f)).drop 2 = hdrBytes f.hdr ++ x :=
  ⟨_, by rw [wireBytes, frameBytes_drop, tickBody, List.append_assoc, List.append_assoc]⟩

theorem hdrOk_wireBytes (f : TickFrame) : hdrOk (wireBytes (.tick f)) = true := by
  have henv : (envelope ftTICK f.relayed f.chain ++ hdrBytes f.hdr).length = 62 := by simp [hdrBytes_length, envelope]
  have hcrc : crc32 (envelope ftTICK f.relayed f.chain ++ hdrBytes f.hdr) % 256 ^ 4 = crc32 (envelope ftTICK f.relayed f.chain ++ hdrBytes f.hdr) :=
    Nat.mod_eq_of_lt (crc32_lt _)
  have hlen : 66 ≤ (wireBytes (.tick f)).length := by rw [wireBytes, frameBytes_length, tickBody_length]; omega
  obtain ⟨x, hx⟩ : ∃ x, wireBytes (.tick f) = (envelope ftTICK f.relayed f.chain ++ hdrBytes f.hdr) ++
      (leBytes 4 (crc32 (envelope ftTICK f.relayed f.chain ++ hdrBytes f.hdr)) ++ x) := ⟨_, by simp only [wireBytes, frameBytes, tickBody, List.append_assoc]; rfl⟩
  rw [hdrOk, decide_eq_true hlen, hx, bytesAt_append _ _ _ _ (Nat.le_of_eq henv), henv, Nat.sub_self, bytesAt_leBytes, hcrc,
    List.take_append_of_le_length (Nat.le_of_eq henv.symm), List.take_of_length_le (Nat.le_of_eq henv)]
  simp

/-- The slots stand in the body one after another from byte 64 (R242). -/
theorem tickBody_slot (f : TickFrame) (i : Nat) (h : i < f.slots.length) : ((tickBody f).drop (64 + 32 * i)).take 32 = slotBytes f.slots[i] := by
  have hhead : (hdrBytes f.hdr ++ leBytes 4 (crc32 (envelope ftTICK f.relayed f.chain ++ hdrBytes f.hdr))).length = 64 := by simp [hdrBytes_length]
  rw [tickBody, drop_append_past _ _ _ (by rw [hhead]; omega), hhead, Nat.add_sub_cancel_left]
  exact flatMap_part slotBytes_length _ _ h

theorem tickOf_wireBytes {f : TickFrame} (h : f.wf = true) (htod : f.hdr.todValid = Config.todShown f.hdr.todSec f.hdr.todNs) : tickOf (wireBytes (.tick f)) = f := by
  have hlen := tickBody_length f
  obtain ⟨x, hx⟩ := wireBytes_tick_drop f
  have hslot := tickBody_slot f
  simp only [TickFrame.wf, Bool.and_eq_true, decide_eq_true_eq, List.all_eq_true] at h
  obtain ⟨⟨⟨hchain, hhdr⟩, hnslot⟩, hslots⟩ := h
  have hread : ((List.range f.hdr.nslot).filter (fun i => decide (64 + 32 * (i + 1) ≤ (tickBody f).length))).map
      (fun i => slotOf (((tickBody f).drop (64 + 32 * i)).take 32)) = f.slots := by
    rw [List.filter_eq_self.mpr (by intro i hi; rw [List.mem_range] at hi; simp only [decide_eq_true_eq]; omega)]
    refine List.ext_getElem (by simp [hnslot]) fun i hi hi' => ?_
    rw [List.getElem_map, List.getElem_range, hslot i hi', slotOf_slotBytes (hslots _ (List.getElem_mem hi'))]
  unfold tickOf
  rw [hx, hdrOf_hdrBytes hhdr htod]
  simp only [wireBytes, bodyOf_frameBytes, relayedOf_frameBytes, addrOf_frameBytes _ _ (Nat.lt_trans hchain (by decide : 12 < 256)), hread]

/-! ### The TELEM frame (R74) -/

theorem telemBody_length (t : Telem) : (telemBody t).length = 96 := by
  unfold telemBody
  simp only [List.length_append, leBytes_length, sBytes_length, padTo_length, List.length_cons, List.length_nil, List.length_replicate]

/-- Byte 5 of the telemetry: its eight flags (R74). -/
theorem telemFlags_read (a b c d e f g h : Bool) : ∀ v, v = (b2n a + 2 * b2n b + 4 * b2n c + 8 * b2n d + 16 * b2n e + 32 * b2n f + 64 * b2n g + 128 * b2n h) % 256 →
    bitOf v 0 = a ∧ bitOf v 1 = b ∧ bitOf v 2 = c ∧ bitOf v 3 = d ∧ bitOf v 4 = e ∧ bitOf v 5 = f ∧ bitOf v 6 = g ∧ bitOf v 7 = h := by
  rintro _ rfl
  revert a b c d e f g h
  decide

theorem telemSel_length {l : List Int} (h : l.length = 4) : (l.flatMap (sBytes 2)).length = 8 := by
  rw [flatMap_length (sBytes_length 2), h]

theorem telemBody_wf (t : Telem) : bytesWf (telemBody t) = true := by
  have hsel : bytesWf (t.sel.flatMap (sBytes 2)) = true := bytesWf_flatMap fun x _ => bytesWf_sBytes 2 x
  have hclip := b2n_le t.clip
  have hlate := b2n_le t.seqLate
  have huncal := b2n_le t.uncal
  have hbusy := b2n_le t.busy
  have hblocked := b2n_le t.blocked
  have hbyp := b2n_le t.bypClosed
  have hheld := b2n_le t.held
  have hevt := b2n_le t.evtPending
  unfold telemBody
  simp only [bytesWf_append, bytesWf_leBytes, bytesWf_sBytes, bytesWf_padTo 8 hsel, bytesWf_zeros, bytesWf_cons, bytesWf_nil, Bool.and_true, Bool.true_and]
  simp
  omega

theorem telemSel_read {l : List Int} (hlen : l.length = 4) (h : l.all (sfits 16) = true) (rest : List Nat) :
    [sAt (padTo 8 (l.flatMap (sBytes 2)) ++ rest) 0 2, sAt (padTo 8 (l.flatMap (sBytes 2)) ++ rest) 2 2, sAt (padTo 8 (l.flatMap (sBytes 2)) ++ rest) 4 2,
      sAt (padTo 8 (l.flatMap (sBytes 2)) ++ rest) 6 2] = l := by
  rw [padTo_eq (telemSel_length hlen)]
  obtain ⟨a, b, c, d, rfl⟩ : ∃ a b c d, l = [a, b, c, d] := by
    match l, hlen with
    | [a, b, c, d], _ => exact ⟨a, b, c, d, rfl⟩
  simp only [List.all_cons, Bool.and_eq_true] at h
  simp [h]

theorem telemOf_wireBytes {t : Telem} (h : t.wf = true) : telemOf (wireBytes (.telem t)) = t := by
  have hflags := telemFlags_read t.clip t.seqLate t.uncal t.busy t.blocked t.bypClosed t.held t.evtPending _ rfl
  simp only [Telem.wf, fits, Bool.and_eq_true, decide_eq_true_eq, and_assoc, Nat.reducePow] at h
  have hsel : t.sel.length = 4 ∧ t.sel.all (sfits 16) = true := by simp only [h, and_self]
  have hsel := telemSel_read hsel.1 hsel.2
  unfold telemOf
  simp only [wireBytes, bodyOf_frameBytes, relayedOf_frameBytes, addrOf_frameBytes _ _ (Nat.lt_trans h.1 (by decide : 192 < 256))]
  unfold telemBody
  cases t
  dsimp only at *
  simp [h, hflags, hsel]

/-! ### The MGMT and the SYNC frame (R246, R254) -/

theorem mgmtBody_length (m : Mgmt) : (mgmtBody m).length = 12 + m.payload.length := by
  simp [mgmtBody]
  omega

theorem mgmtBody_wf {m : Mgmt} (h : m.wf = true) : bytesWf (mgmtBody m) = true := by
  simp only [Mgmt.wf, Bool.and_eq_true] at h
  simp [mgmtBody, h.2, Nat.mod_lt]

theorem mgmtBody_drop (m : Mgmt) : (mgmtBody m).drop 12 = m.payload := by simp [mgmtBody, drop_append_past]

theorem mgmtOf_wireBytes {m : Mgmt} (h : m.wf = true) : mgmtOf (wireBytes (.mgmt m)) = some m := by
  have hlen := mgmtBody_length m
  have hdrop := mgmtBody_drop m
  simp only [Mgmt.wf, fits, Bool.and_eq_true, decide_eq_true_eq, and_assoc] at h
  obtain ⟨haddr, hsrc, hop, hseq, hchain, hhop, hparam, hpay, -⟩ := h
  have hfields : bytesAt (mgmtBody m) 0 1 = m.src ∧ bytesAt (mgmtBody m) 1 1 = m.op ∧ bytesAt (mgmtBody m) 2 2 = m.mseq ∧ bytesAt (mgmtBody m) 4 2 = m.payload.length ∧
      bytesAt (mgmtBody m) 6 1 = m.chain ∧ bytesAt (mgmtBody m) 7 1 = m.hop ∧ bytesAt (mgmtBody m) 8 4 = m.param := by
    simp [mgmtBody]
    omega
  obtain ⟨h0, h1, h2, h4, h6, h7, h8⟩ := hfields
  unfold mgmtOf
  simp only [wireBytes, bodyOf_frameBytes, relayedOf_frameBytes, addrOf_frameBytes _ _ haddr, ftypeOf_frameBytes (by decide : ftMGMT < 16), h0, h1, h2, h4, h6, h7, h8, hdrop]
  rw [if_pos]
  simp [hlen]
  omega

theorem syncBody_length (f : SyncFrame) : (syncBody f).length = 32 := by simp [syncBody]

theorem syncBody_wf (f : SyncFrame) : bytesWf (syncBody f) = true := by
  have hface := b2n_le f.facesA
  simp [syncBody, Nat.mod_lt]
  omega

/-- Byte 1 of a SYNC body: the port and the face (R254). -/
theorem syncPort_read {port : Nat} (a : Bool) (h : port < 16) : (port % 16 + 16 * b2n a) % 256 % 16 = port ∧ bitOf ((port % 16 + 16 * b2n a) % 256) 4 = a := by
  cases a <;> simp [bitOf_eq, b2n] <;> omega

theorem syncOf_wireBytes {f : SyncFrame} (h : f.wf = true) : syncOf (wireBytes (.sync f)) = f := by
  simp only [SyncFrame.wf, fits, Bool.and_eq_true, decide_eq_true_eq, and_assoc, Nat.reducePow] at h
  have hport := syncPort_read f.facesA h.2.1
  unfold syncOf
  simp only [wireBytes, bodyOf_frameBytes]
  cases f
  dsimp only at *
  simp [syncBody, h, hport]

/-! ### Any frame -/

/-- FTYPE of a frame. -/
def frameType : Frame → Nat
  | .tick _ => ftTICK
  | .telem _ => ftTELEM
  | .mgmt _ => ftMGMT
  | .sync _ => ftSYNC

theorem ftypeOf_wireBytes (f : Frame) : ftypeOf (wireBytes f) = frameType f := by
  cases f <;> exact ftypeOf_frameBytes (by decide) _ _ _

theorem frameOk_wireBytes (f : Frame) : frameOk (wireBytes f) = true := by
  cases f <;> exact frameOk_frameBytes _ _ _ _

theorem wireBytes_wf {f : Frame} (h : f.wf = true) : bytesWf (wireBytes f) = true := by
  cases f with
  | tick f => exact frameBytes_wf _ _ _ (tickBody_wf h)
  | telem t => exact frameBytes_wf _ _ _ (telemBody_wf t)
  | mgmt m => exact frameBytes_wf _ _ _ (mgmtBody_wf h)
  | sync f => exact frameBytes_wf _ _ _ (syncBody_wf f)

theorem wireBytes_length (f : Frame) : 7 ≤ (wireBytes f).length := by
  cases f <;> rw [wireBytes, frameBytes_length]
  · rw [tickBody_length]; omega
  · rw [telemBody_length]; omega
  · rw [mgmtBody_length]; omega
  · rw [syncBody_length]; omega

theorem wireBytes_ne_nil (f : Frame) : wireBytes f ≠ [] := by
  intro h
  have hlen := wireBytes_length f
  rw [h, List.length_nil] at hlen
  omega

theorem hear_wireBytes (f : Frame) : (hear (frameBlocks (wireBytes f))).good = true ∧ (hear (frameBlocks (wireBytes f))).count = 0 := by
  have hgood : (hear (frameBlocks (wireBytes f))).good = true := by
    rw [hear_frameBlocks, Heard.good, frameOk_wireBytes, ftypeOf_wireBytes]
    cases f <;> rfl
  refine ⟨hgood, ?_⟩
  rw [Heard.count, hgood, hear_frameBlocks]
  rfl

/-- Settles O47: the blocks of a frame put its bytes together again, with another frame or a WEIR set among them too, and each layout of fixed positions gives back the
fields that were laid out at them. -/
theorem framesReadBack : Obligations.FramesReadBack := by
  unfold Obligations.FramesReadBack
  refine ⟨fun f h => ?_, fun f h htod => ?_, fun x h => ?_, fun m h => ?_, fun f h => ?_, fun f g n _ _ h0 hn => ⟨fun hft => ?_, hear_broken (wireBytes_ne_nil f) _ h0 hn⟩,
    fun f v n _ hv => hear_weir _ n hv⟩
  · obtain ⟨hgood, hcount⟩ := hear_wireBytes f
    exact ⟨hgood, by rw [hear_frameBlocks], hcount, frameBlocks_length, frameBlocks_wf (wireBytes_length f) (wireBytes_wf h)⟩
  · have hslots : f.slots.length = f.hdr.nslot := by
      simp only [TickFrame.wf, Bool.and_eq_true, decide_eq_true_eq] at h
      exact h.1.2
    refine ⟨ftypeOf_wireBytes _, hdrOk_wireBytes f, tickOf_wireBytes h htod, ?_⟩
    rw [wireBytes, frameBytes_length, tickBody_length, hslots]
    omega
  · exact ⟨ftypeOf_wireBytes _, telemOf_wireBytes h, by rw [wireBytes, frameBytes_length, telemBody_length]⟩
  · refine ⟨ftypeOf_wireBytes _, mgmtOf_wireBytes h, ?_⟩
    rw [wireBytes, frameBytes_length, mgmtBody_length]
    omega
  · exact ⟨ftypeOf_wireBytes _, syncOf_wireBytes h, by rw [wireBytes, frameBytes_length, syncBody_length]⟩
  · exact ⟨hear_around (wireBytes_ne_nil f) _ h0 hn hft, ownBlocks_around (wireBytes_ne_nil f) _ h0 hn hft⟩

end Sys2Proof.Machine
end

section
/-! PROOFS. What decisions, streams, pushes and fences leave alone: the registers beyond the host's block, and all state but theirs (R329, R338, R470, R515). -/
namespace Sys2Proof.Machine

/-- Registers those operations may change: the host interface's block, TBL_STATUS, and the recorder's counters. -/
def hostReg (o : Nat) : Bool := (decide (0x4000 ≤ o) && decide (o < 0x5000)) || o == F.TBL_STATUS.PUSHING.off || recCounters.contains o

/-- What those operations may change beside registers: queues, streams and vectors, records and ledger, tables, links and allocation, and what leaves the device; of that
nothing is taken back. -/
def State.Hosted (s t : State) : Prop :=
  t = { s with regs := t.regs, w1c := t.w1c, recd := t.recd, aon := t.aon, host := t.host, tbl := t.tbl, lnk := t.lnk, slu := t.slu, lanes := t.lanes, out := t.out } ∧
    (∀ o, hostReg o = false → t.rd o = s.rd o) ∧ ∃ l, t.out = s.out ++ l

namespace State.Hosted

theorem same (s : State) : s.Hosted s := ⟨rfl, fun _ _ => rfl, [], (List.append_nil _).symm⟩

theorem trans {s t u : State} (h : s.Hosted t) (k : t.Hosted u) : s.Hosted u := by
  obtain ⟨h1, h2, l, h3⟩ := h
  obtain ⟨k1, k2, m, k3⟩ := k
  refine ⟨?_, fun o ho => (k2 o ho).trans (h2 o ho), l ++ m, by rw [k3, h3, List.append_assoc]⟩
  rw [h1] at k1
  exact k1

theorem role {s t : State} (h : s.Hosted t) : t.role = s.role := (congrArg State.role h.1).trans rfl
theorem side {s t : State} (h : s.Hosted t) : t.side = s.side := (congrArg State.side h.1).trans rfl
theorem pwr {s t : State} (h : s.Hosted t) : t.pwr = s.pwr := (congrArg State.pwr h.1).trans rfl
theorem clk {s t : State} (h : s.Hosted t) : t.clk = s.clk := (congrArg State.clk h.1).trans rfl
theorem time {s t : State} (h : s.Hosted t) : t.time = s.time := (congrArg State.time h.1).trans rfl
theorem ctl {s t : State} (h : s.Hosted t) : t.ctl = s.ctl := (congrArg State.ctl h.1).trans rfl
theorem spr {s t : State} (h : s.Hosted t) : t.spr = s.spr := (congrArg State.spr h.1).trans rfl
theorem gate {s t : State} (h : s.Hosted t) : t.gate = s.gate := (congrArg State.gate h.1).trans rfl
theorem weir {s t : State} (h : s.Hosted t) : t.weir = s.weir := (congrArg State.weir h.1).trans rfl

theorem rd {s t : State} (h : s.Hosted t) {o : Nat} (ho : hostReg o = false) : t.rd o = s.rd o := h.2.1 o ho

theorem get {s t : State} (h : s.Hosted t) {f : Fld} (hf : hostReg f.off = false) : t.get f = s.get f := by
  unfold State.get
  rw [h.rd hf]

theorem flag {s t : State} (h : s.Hosted t) {f : Fld} (hf : hostReg f.off = false) : t.flag f = s.flag f := by
  unfold State.flag
  rw [h.get hf]

/-- What has left before is among what has left after. -/
theorem sent {s t : State} (h : s.Hosted t) {m : OutMsg} (hm : m ∈ s.out) : m ∈ t.out := by
  obtain ⟨-, -, l, e⟩ := h
  rw [e]
  exact List.mem_append_left _ hm

/-- A run of such operations is one. -/
theorem foldl {α : Type} {g : State → α → State} {l : List α} (h : ∀ (s : State), ∀ x ∈ l, s.Hosted (g s x)) (s : State) : s.Hosted (l.foldl g s) := by
  induction l generalizing s with
  | nil => exact same s
  | cons x t ih => exact (h s x List.mem_cons_self).trans (ih (fun s y hy => h s y (List.mem_cons_of_mem _ hy)) _)

end State.Hosted

/-! ### Registers and the recorder -/

theorem hosted_set (s : State) (f : Fld) (v : Nat) (h : hostReg f.off = true) : s.Hosted (s.set f v) := by
  refine ⟨rfl, fun o ho => State.rd_set_other s f v o ?_, [], (List.append_nil _).symm⟩
  rintro rfl
  rw [h] at ho
  cases ho

/-- A change of state that no register shows and that sends nothing. -/
theorem hosted_hidden {s t : State} (h : t = { s with w1c := t.w1c, recd := t.recd, aon := t.aon, host := t.host, tbl := t.tbl, lnk := t.lnk, slu := t.slu }) : s.Hosted t := by
  rw [h]
  exact ⟨rfl, fun _ _ => rfl, [], (List.append_nil _).symm⟩

theorem hosted_hwSet (s : State) (f : Fld) (n : Nat) (h : hostReg f.off = true) : s.Hosted (s.hwSet f n) :=
  (hosted_set s f _ h).trans (hosted_hidden rfl)

theorem hosted_emit (s : State) (m : OutMsg) : s.Hosted (s.emit m) := ⟨rfl, fun _ _ => rfl, [m], rfl⟩

theorem recCounters_hosted {o : Nat} (h : hostReg o = false) : o ≠ F.REC_LOST_CNT.COUNT.off ∧ o ≠ F.REC_SUPP_CNT.COUNT.off := by
  constructor <;> rintro rfl <;> revert h <;> decide

theorem hosted_recorded {s t : State} (h : s.Recorded t) (hr : ∀ o, hostReg o = false → t.rd o = s.rd o) : s.Hosted t := by
  have e : t = { s with regs := t.regs, w1c := t.w1c, recd := t.recd } := h
  exact ⟨e.trans (by rw [h.aon, h.host, h.tbl, h.lnk, h.slu, h.lanes, h.out]), hr, [], by rw [h.out, List.append_nil]⟩

theorem hosted_raise (s : State) (c : Nat) (p : List Nat) : s.Hosted (s.raise c p) :=
  hosted_recorded (s.recorded_raise c p) fun o ho => State.raise_rd s c p o (recCounters_hosted ho).1 (recCounters_hosted ho).2

theorem hosted_raiseAs (s : State) (src c : Nat) (p : List Nat) : s.Hosted (s.raiseAs src c p) := by
  unfold State.raiseAs State.stage
  have h0 : s.Hosted s.lostFirst := hosted_recorded s.recorded_lostFirst fun o _ => State.rd_congr s.recorded_lostFirst.role s.recorded_lostFirst.side s.lostFirst_regs o
  dsimp only
  split
  · exact h0.trans (hosted_hidden rfl)
  · exact (h0.trans (hosted_set _ F.REC_LOST_CNT.COUNT _ rfl)).trans (hosted_hidden rfl)

/-! ### Decisions (R329, R333) -/

theorem hosted_vectorDue (s : State) (v : Nat) : s.Hosted (s.vectorDue v) := by
  unfold State.vectorDue
  split
  · exact .same s
  · exact hosted_hidden rfl

theorem hostReg_block {o : Nat} (h : 0x4000 ≤ o) (h' : o < 0x5000) : hostReg o = true := by
  simp [hostReg, h, h']

theorem hosted_pairException (s : State) {q : Nat} (hq : q < 16) : s.Hosted (s.pairException q) := by
  have hset := hosted_hwSet s (F.HIF_EVT_STAT.PEND ((16 + q) / 32)) ((16 + q) % 32) (hostReg_block (Nat.le_add_right_of_le (by decide)) (by simp only [F.HIF_EVT_STAT.PEND]; omega))
  unfold State.pairException State.assertSrc
  dsimp only
  split
  · exact hset.trans (hosted_vectorDue _ _)
  · exact hset

/-- A register of one queue pair stands in the host interface's block. -/
theorem hostReg_pair {q base stride : Nat} (hq : q < 16) (h : 0x4000 ≤ base) (hs : stride ≤ 32) (h' : base < 0x4E00) : hostReg (base + stride * q) = true := by
  have hle : stride * q ≤ 32 * 15 := Nat.mul_le_mul hs (by omega)
  exact hostReg_block (by omega) (by omega)

theorem hosted_cqCheck (s : State) {q : Nat} (hq : q < 16) : s.Hosted (s.cqCheck q) := by
  unfold State.cqCheck
  dsimp only
  split
  · exact ((hosted_set s (F.HIF_QP_STAT.CQ_FULL q) 1 (hostReg_pair hq (by decide) (by decide) (by decide))).trans (hosted_pairException _ hq)).trans (hosted_raise _ _ _)
  · exact .same s

theorem hosted_setPhase (s : State) (id : Nat) (p : Phase) : s.Hosted (s.setPhase id p) := hosted_hidden rfl

theorem hosted_settle (s : State) (id st rs re fr tk : Nat) : s.Hosted (s.settle id st rs re fr tk) := by
  unfold State.settle
  split
  · exact .same s
  · split_ifs with hd hq
    · exact .same s
    · exact hosted_hidden rfl
    · exact (hosted_setPhase s id _).trans (hosted_cqCheck _ (by omega))

/-! ### Streams (R338, R339) -/

theorem hosted_modPair (s : State) (q : Nat) (f : PairSt → PairSt) : s.Hosted (s.modPair q f) := hosted_hidden rfl

theorem hosted_closeBuf (s : State) (q : Nat) : s.Hosted (s.closeBuf q) := by
  unfold State.closeBuf
  split
  · exact .same s
  · exact (hosted_modPair s q _).trans (hosted_settle _ _ _ _ _ _ _)

theorem hosted_putFit {q n : Nat} {r : StreamRec} {s t : State} (h : State.putFit q r n s = some t) : s.Hosted t := by
  induction n generalizing s with
  | zero => cases h
  | succ n ih =>
    unfold State.putFit at h
    split at h
    · cases h
    · split at h
      · simp only [Option.some.injEq] at h
        subst h
        split
        · exact ((hosted_emit s _).trans (hosted_modPair _ q _)).trans (hosted_closeBuf _ _)
        · exact (hosted_emit s _).trans (hosted_modPair _ q _)
      · exact (hosted_closeBuf s q).trans (ih h)

theorem hosted_putNoBufGap (s : State) {q : Nat} (hq : q < 16) : s.Hosted (s.putNoBufGap q) := by
  unfold State.putNoBufGap
  split
  · exact .same s
  · split
    · exact .same s
    · rename_i hput
      exact (((hosted_putFit hput).trans (hosted_modPair _ q _)).trans (hosted_set _ (F.HIF_QP_STAT.NO_BUF q) 0 (hostReg_pair hq (by decide) (by decide) (by decide)))).trans
        (hosted_raise _ _ _)

theorem hosted_streamLost (s : State) {q : Nat} (hq : q < 16) (n : Nat) : s.Hosted (s.streamLost q n) := by
  have hinc : s.Hosted (s.inc (F.HIF_QP_LOST.COUNT q)) := hosted_set s (F.HIF_QP_LOST.COUNT q) _ (hostReg_pair hq (by decide) (by decide) (by decide))
  unfold State.streamLost
  dsimp only
  split
  · exact hinc.trans (hosted_modPair _ q _)
  · exact (((hinc.trans (hosted_modPair _ q _)).trans (hosted_set _ (F.HIF_QP_STAT.NO_BUF q) 1 (hostReg_pair hq (by decide) (by decide) (by decide)))).trans
      (hosted_pairException _ hq)).trans (hosted_raise _ _ _)

theorem hosted_streamPut (s : State) {q : Nat} (hq : q < 16) (r : StreamRec) (n : Nat) : s.Hosted (s.streamPut q r n) := by
  have hgap := hosted_putNoBufGap s hq
  unfold State.streamPut
  dsimp only
  split
  · exact hgap.trans (hosted_streamLost _ hq _)
  · generalize hput : State.putFit q r _ _ = o
    cases o with
    | none => exact hgap.trans (hosted_streamLost _ hq _)
    | some t => exact hgap.trans (hosted_putFit hput)

theorem hosted_closeGap (s : State) {q : Nat} (hq : q < 16) (sp : Nat) : s.Hosted (s.closeGap q sp) := by
  unfold State.closeGap
  split
  · exact .same s
  · exact (hosted_modPair s q _).trans (hosted_streamPut _ hq _ _)

theorem streamPairs_lt {s : State} {src q : Nat} (h : q ∈ s.streamPairs src) : q < 16 := List.mem_range.mp (List.mem_filter.mp h).1

theorem telemPairs_lt {s : State} {sp q : Nat} (h : q ∈ s.telemPairs sp) : q < 16 := streamPairs_lt (List.mem_filter.mp h).1

theorem hosted_streamTelem (s : State) (t : Telem) (late : Bool) : s.Hosted (s.streamTelem t late) :=
  .foldl (fun s _ hq => (hosted_closeGap s (telemPairs_lt hq) _).trans (hosted_streamPut _ (telemPairs_lt hq) _ _)) s

theorem hosted_streamHole (s : State) (sp tick cause : Nat) : s.Hosted (s.streamHole sp tick cause) := by
  refine .foldl (fun s q hq => ?_) s
  dsimp only
  split
  · exact hosted_modPair s q _
  · exact (hosted_closeGap s (telemPairs_lt hq) sp).trans (hosted_modPair _ q _)

theorem hosted_recoveryGap (s : State) {q : Nat} (hq : q < 16) (first count : Nat) : s.Hosted (s.recoveryGap q first count) := by
  unfold State.recoveryGap
  split
  · exact .same s
  · exact (hosted_streamPut s hq _ _).trans (hosted_raise _ _ _)

/-! ### Frames sent (R29, R247) -/

theorem hosted_sendFrame (s : State) (p : Nat) (f : Frame) : s.Hosted (s.sendFrame p f) := by
  unfold State.sendFrame State.laneOut
  dsimp only
  split
  · exact .same s
  · exact ⟨rfl, fun _ _ => rfl, [_], rfl⟩

theorem hosted_emitFrame (s : State) (ports : List Nat) (f : Frame) : s.Hosted (s.emitFrame ports f) := .foldl (fun s p _ => hosted_sendFrame s p f) s

theorem hosted_setPeer (s : State) (p : Peer) : s.Hosted (s.setPeer p) := hosted_hidden rfl

theorem hosted_pump (d n : Nat) (s : State) : s.Hosted (State.pump d n s) := by
  induction n generalizing s with
  | zero => exact .same s
  | succ n ih =>
    unfold State.pump
    dsimp only
    split
    · exact .same s
    · split
      · exact ((hosted_setPeer s _).trans (hosted_emitFrame _ _ _)).trans (ih _)
      · exact .same s

theorem hosted_sendSeq (s : State) (d op param : Nat) (payload : List Nat) (o : Owner) : s.Hosted (s.sendSeq d op param payload o) :=
  (hosted_setPeer s _).trans (hosted_pump _ _ _)

/-! ### Pushes (R515) -/

theorem hosted_setPushes (s : State) (l : List (Nat × Nat × Nat)) : s.Hosted (s.setPushes l) :=
  (hosted_hidden (s := s) (t := { s with tbl := { s.tbl with pushes := l } }) rfl).trans (hosted_set _ F.TBL_STATUS.PUSHING _ rfl)

theorem hosted_pushFails (s : State) (sp cause : Nat) : s.Hosted (s.pushFails sp cause) := by
  unfold State.pushFails
  split
  · exact ((hosted_setPushes s _).trans (hosted_hidden rfl)).trans (hosted_raise _ _ _)
  · exact .same s

theorem hosted_startPush (s : State) (img : List Nat) (sp tick : Nat) : s.Hosted (s.startPush img sp tick) := by
  unfold State.startPush
  dsimp only
  split
  · exact (hosted_setPushes s _).trans (hosted_pushFails _ _ _)
  · exact (((hosted_setPushes s _).trans (hosted_sendSeq _ _ _ _ _ _)).trans (.foldl (fun s i _ => hosted_sendSeq s _ _ _ _ _) _)).trans (hosted_sendSeq _ _ _ _ _ _)

/-! ### Fences, aborted paths and restarts (R365, R368, R374) -/

theorem hosted_fenceOff (s : State) (x : Infl) (st tag : Nat) : s.Hosted (s.fenceOff x st tag) := by
  unfold State.fenceOff State.when
  dsimp only
  split
  · exact (hosted_setPeer s _).trans (hosted_settle _ _ _ _ _ _ _)
  · exact hosted_settle s _ _ _ _ _ _

theorem hosted_setFence (s : State) (sp : Nat) (qs : List Nat) (st tag : Nat) : s.Hosted (s.setFence sp qs st tag) := by
  unfold State.setFence
  dsimp only
  split
  · exact .same s
  · refine ((hosted_hidden rfl).trans (hosted_raise _ _ _)).trans (.foldl (fun s x _ => ?_) _)
    split
    · split
      · exact hosted_fenceOff s x st tag
      · exact hosted_fenceOff s x st tag
      · exact hosted_fenceOff s x st tag
      · unfold State.when
        split
        · exact hosted_fenceOff s x st tag
        · exact .same s
    · exact .same s

theorem hosted_abortPath (s : State) (id cause : Nat) : s.Hosted (s.abortPath id cause) := by
  unfold State.abortPath
  split
  · exact .same s
  · split
    · exact .same s
    · dsimp only
      split
      · exact ((hosted_settle s _ _ _ _ _ _).trans (hosted_raise _ _ _)).trans (hosted_setFence _ _ _ _ _)
      · exact (hosted_settle s _ _ _ _ _ _).trans (hosted_raise _ _ _)

theorem hosted_reconEnd (s : State) : s.Hosted s.reconEnd := by
  unfold State.reconEnd
  dsimp only
  split
  · refine (((State.Hosted.foldl (fun s x _ => ?_) s).trans (hosted_raise _ _ _)).trans (hosted_hidden rfl)).trans (hosted_set _ F.HIF_ORD_STAT.RECON_BUSY 0 rfl)
    split_ifs
    · exact (hosted_raiseAs s _ _ _).trans (hosted_raiseAs _ _ _ _)
    · exact hosted_raiseAs s _ _ _
    · exact hosted_raiseAs s _ _ _
    · exact .same s
  · exact .same s

theorem hosted_reconFail (s : State) (sp : Nat) : s.Hosted (s.reconFail sp) := by
  unfold State.reconFail
  split
  · exact ((hosted_hidden rfl).trans (.foldl (fun s x _ => hosted_abortPath s _ _) _)).trans (hosted_reconEnd _)
  · exact .same s

theorem hosted_restartSeen (s : State) (sp oldE newE : Nat) : s.Hosted (s.restartSeen sp oldE newE) := by
  unfold State.restartSeen
  exact ((((((State.Hosted.foldl (fun s x _ => hosted_settle s _ _ _ _ _ _) s).trans (hosted_setFence _ _ _ _ _)).trans (hosted_pushFails _ _ _)).trans (hosted_setPeer _ _)).trans
    (hosted_hidden rfl)).trans (hosted_reconFail _ _)).trans (hosted_raise _ _ _)

theorem hosted_ownersFail (s : State) (l : List MOut) : s.Hosted (s.ownersFail l) := by
  refine .foldl (fun s x _ => ?_) s
  unfold State.ownerFails
  split
  · exact .same s
  · exact hosted_abortPath s _ _
  · exact hosted_abortPath s _ _
  · exact hosted_reconFail s _
  · exact hosted_pushFails s _ _
  · exact .same s
  · exact hosted_abortPath s _ _
  · exact hosted_hidden rfl
  · exact hosted_hidden rfl

end Sys2Proof.Machine
end

section
/-! PROOFS. The number of the tick in progress stays through every stage of the shadow's pipeline (R42, R390, R391). -/
namespace Sys2Proof.Machine

/-- The register that holds the number of the tick in progress, with the straps its reset value depends on. -/
def State.paced (s : State) : Role × Side × Word := (s.role, s.side, s.rd F.CTL_TICK_NUM.TICK.off)

theorem paced_tickNum {s t : State} (h : t.paced = s.paced) : t.get F.CTL_TICK_NUM.TICK = s.get F.CTL_TICK_NUM.TICK := by
  simp only [State.paced, Prod.mk.injEq] at h
  unfold State.get
  rw [h.2.2]

theorem hosted_paced {s t : State} (h : s.Hosted t) : t.paced = s.paced := by
  unfold State.paced
  rw [h.role, h.side, h.rd rfl]

@[simp] theorem paced_mk (s : State) (x_boot : Nat) (x_w1c : W1cSt) (x_pwr : PwrSt) (x_clk : ClkSt) (x_time : TimeSt) (x_recd : RecSt) (x_aon : AonSt) (x_nor : NorSt) (x_tbl : TblSt) (x_host : HostSt) (x_pcie : List (Nat × Word)) (x_lnk : LnkSt) (x_ctl : CtlSt) (x_slu : SluSt) (x_spr : SprSt) (x_gate : GateSt) (x_adc : AdcSt) (x_weir : WeirSt) (x_thm : ThmSt) (x_can : CanSt) (x_red : RedSt) (x_safe : SafeSt) (x_lanes : List Lane) (x_out : List OutMsg) (x_free : Nat) (x_pending : List Instr) :
    State.paced { role := s.role, side := s.side, boot := x_boot, regs := s.regs, w1c := x_w1c, pwr := x_pwr, clk := x_clk, time := x_time, recd := x_recd, aon := x_aon, nor := x_nor, tbl := x_tbl, host := x_host, pcie := x_pcie, lnk := x_lnk, ctl := x_ctl, slu := x_slu, spr := x_spr, gate := x_gate, adc := x_adc, weir := x_weir, thm := x_thm, can := x_can, red := x_red, safe := x_safe, lanes := x_lanes, out := x_out, free := x_free, pending := x_pending } = s.paced := (rfl)

theorem paced_foldl {α : Type} {g : State → α → State} (h : ∀ s x, (g s x).paced = s.paced) (l : List α) (s : State) : (l.foldl g s).paced = s.paced := by
  induction l generalizing s with
  | nil => rfl
  | cons x t ih => exact (ih (g s x)).trans (h s x)

@[simp] theorem paced_ite (c : Prop) [Decidable c] (a b : State) : (if c then a else b).paced = if c then a.paced else b.paced := by split <;> rfl

theorem paced_wr (s : State) {o : Nat} (w : Word) (h : o ≠ F.CTL_TICK_NUM.TICK.off) : (s.wr o w).paced = s.paced := by
  unfold State.paced
  rw [State.rd_wr_other _ _ _ _ h.symm]
  rfl

theorem paced_set (s : State) {f : Fld} (v : Nat) (h : f.off ≠ F.CTL_TICK_NUM.TICK.off) : (s.set f v).paced = s.paced := paced_wr s _ h

theorem paced_inc (s : State) {f : Fld} (h : f.off ≠ F.CTL_TICK_NUM.TICK.off) : (s.inc f).paced = s.paced := paced_wr s _ h

@[simp] theorem paced_raise (s : State) (c : Nat) (p : List Nat) : (s.raise c p).paced = s.paced := hosted_paced (hosted_raise s c p)

@[simp] theorem paced_settle (s : State) (id st rs re fr tk : Nat) : (s.settle id st rs re fr tk).paced = s.paced := hosted_paced (hosted_settle s id st rs re fr tk)

/-- A register of the allocation's block, which begins at 0x10000. -/
theorem slu_off_ne_tick {b : Nat} (h : 0xFFFF < b) (n : Nat) : b + 4 * n ≠ F.CTL_TICK_NUM.TICK.off := by
  simp only [F.CTL_TICK_NUM.TICK]
  omega

/-! ### Telemetry measured (R47, R48, R219, R221) -/

@[simp] theorem paced_markLost (s : State) (sp : Nat) : (s.markLost sp).paced = s.paced := by
  unfold State.markLost
  split
  · rfl
  · exact (paced_raise _ _ _).trans (paced_inc _ (by decide))

@[simp] theorem paced_sprStale (s : State) (sp : Nat) : (s.sprStale sp).paced = s.paced := by
  have hcnt : ∀ c : CtlSt, ({ s with ctl := c }.inc F.CTL_STALE_CNT.COUNT).paced = s.paced := fun c => (paced_inc _ (by decide)).trans rfl
  simp [State.sprStale, hcnt]

@[simp] theorem paced_markBack (s : State) (sp : Nat) : (s.markBack sp).paced = s.paced := by
  unfold State.markBack
  dsimp only
  split
  · exact (hosted_paced (hosted_startPush _ _ sp 0)).trans ((paced_raise _ _ _).trans rfl)
  · exact (paced_raise _ _ _).trans rfl

@[simp] theorem paced_dieOf (s : State) (t : Telem) : (s.dieOf t).paced = s.paced := by
  simp [State.dieOf, State.sprDie]

@[simp] theorem paced_sprHeard (s : State) (sp : Nat) (t : Telem) : (s.sprHeard sp t).paced = s.paced := by
  have hstream : ∀ u : State, (u.streamTelem t false).paced = u.paced := fun u => hosted_paced (hosted_streamTelem u t false)
  simp [State.sprHeard, hstream]

theorem paced_hotSpr (s : State) : s.hotSpr.paced = s.paced := by
  have hoff : F.THM_HOT_SPR.COUNT.off ≠ F.CTL_TICK_NUM.TICK.off := by decide
  have hset : ∀ (u : State) (lo w v : Nat), (u.set ⟨F.THM_HOT_SPR.COUNT.off, lo, w⟩ v).paced = u.paced := fun u lo w v => paced_set u v hoff
  unfold State.hotSpr State.setI
  dsimp only
  split <;> exact ((hset _ _ _ _).trans (hset _ _ _ _)).trans (hset s _ _ _)

theorem paced_thrEval (s : State) : s.thrEval.paced = s.paced := by
  have hcause : ∀ v, (s.set F.THM_STATUS.THR_CAUSE v).paced = s.paced := fun v => paced_set s v (by decide)
  unfold State.thrEval
  dsimp only
  split
  · rfl
  · split
    · split
      · rfl
      · refine (paced_raise _ _ _).trans ?_
        split <;> exact hcause 1
    · split
      · split
        · exact hcause 0
        · exact (paced_raise _ _ _).trans (hcause 0)
      · rfl

theorem paced_measureTelem (s : State) : s.measureTelem.paced = s.paced := by
  unfold State.measureTelem
  dsimp only
  rw [paced_thrEval, paced_hotSpr]
  refine (paced_foldl (fun s x => ?_) _ _).trans rfl
  split <;> simp

theorem paced_hwStep (s : State) : s.hwStep.paced = s.paced := by
  have hstate : ∀ (u : State) (n c : Nat), (u.toState n c).paced = u.paced := by
    intro u n c
    unfold State.toState
    split
    · rfl
    · exact (paced_raise _ _ _).trans (paced_set u n (by decide))
  simp [State.hwStep, hstate]

theorem paced_syncCount (s : State) : s.syncCount.paced = s.paced := by simp [State.syncCount]

/-! ### The controllers and the cells' roles (R85 to R91, R98 to R110) -/

theorem paced_runCtrls (s : State) : s.runCtrls.paced = s.paced := (paced_foldl (fun s i => by simp [State.runCtrl]) _ _).trans rfl

@[simp] theorem paced_setRole (s : State) (sp r : Nat) : (s.setRole sp r).paced = s.paced := paced_wr s _ (slu_off_ne_tick (by decide) _)

@[simp] theorem paced_modSlArm (s : State) (a : Nat) (f : ArmSt → ArmSt) : (s.modSlArm a f).paced = s.paced := rfl

@[simp] theorem paced_insertWith (s : State) (a : Nat) (pos : Option Nat) (gone since : Nat) : (s.insertWith a pos gone since).paced = s.paced := by
  unfold State.insertWith
  split
  · rfl
  · split <;> simp

@[simp] theorem paced_fillVacant (s : State) : s.fillVacant.paced = s.paced := (paced_foldl (fun _ _ => by simp) _ _).trans rfl

@[simp] theorem paced_insertFail (s : State) (a : Nat) (i : InsItem) (cause : Nat) : (s.insertFail a i cause).paced = s.paced := by
  have hcnt : ∀ u : State, (u.inc F.SLU_INS_CNT.FAIL).paced = u.paced := fun u => paced_inc u (by decide)
  simp [State.insertFail, hcnt]

@[simp] theorem paced_insertLate (s : State) (a us : Nat) : (s.insertLate a us).paced = s.paced := by simp [State.insertLate]

@[simp] theorem paced_restartArm (s : State) (a tick : Nat) : (s.restartArm a tick).paced = s.paced := by
  have hcnt : ∀ u : State, (u.inc F.SLU_INS_CNT.DONE).paced = u.paced := fun u => paced_inc u (by decide)
  unfold State.restartArm
  dsimp only
  rw [paced_modSlArm, paced_ite, paced_foldl (fun s i => by simp [hcnt])]
  (repeat' split) <;> simp [paced_foldl, hcnt]

@[simp] theorem paced_programme (s : State) (a : Nat) : (s.programme a).paced = s.paced := by
  simp [State.programme, paced_foldl]

@[simp] theorem paced_refill (s : State) (a : Nat) : (s.refill a).paced = s.paced := by simp [State.refill]

@[simp] theorem paced_returnCell (s : State) (sp v : Nat) : (s.returnCell sp v).paced = s.paced := by simp [State.returnCell]

@[simp] theorem paced_withdraw (s : State) (sp cause : Nat) : (s.withdraw sp cause).paced = s.paced := by
  unfold State.withdraw
  dsimp only
  (repeat' split) <;> simp

theorem paced_sluRoles (s : State) : s.sluRoles.paced = s.paced := by
  unfold State.sluRoles
  dsimp only
  rw [paced_mk]
  refine (paced_foldl (fun s a => by simp) _ _).trans ((paced_foldl (fun s a => by simp) _ _).trans ((paced_fillVacant _).trans ?_))
  refine (paced_foldl (fun s sp => ?_) _ _).trans ((paced_foldl (fun s r => ?_) _ _).trans rfl)
  · split
    · split <;> simp
    · rfl
  · split <;> simp

/-! ### Entries, classes and arms (R92 to R97, R111) -/

@[simp] theorem paced_refuseEntry (s : State) (e : Entry) : (s.refuseEntry e).paced = s.paced := by simp [State.refuseEntry]

@[simp] theorem paced_evalEntry (s : State) (e : Entry) (f reason : Nat) : (s.evalEntry e f reason).paced = s.paced := by
  simp [State.evalEntry, State.putEntry]

theorem paced_evalEntries (s : State) (arms : List ArmIn) (th : Rat) (on : Bool) : (s.evalEntries arms th on).paced = s.paced := by
  unfold State.evalEntries
  dsimp only
  refine (paced_foldl (fun s e => ?_) _ _).trans ((paced_mk _ _ _ _ _ _ _ _ _ _ _ _ _ _ _ _ _ _ _ _ _ _ _ _ _ _ _).trans (paced_foldl (fun s e => paced_refuseEntry s e) _ _))
  (repeat' split) <;> simp

theorem paced_putCls (s : State) (n : Nat) (c : ClsRec) : (s.putCls n c).paced = s.paced := by
  have hset : ∀ (u : State) (f : Fld) (v : Nat), f.off = 0x100C0 + 4 * n → (u.set f v).paced = u.paced :=
    fun u f v h => paced_set u v (h ▸ slu_off_ne_tick (by decide) n)
  have hcls : (((s.set (F.SLU_CLS.FRACTION n) c.frac).set (F.SLU_CLS.REASON n) c.reason).set (F.SLU_CLS.WHERE n) c.where').paced = s.paced := by
    rw [hset _ (F.SLU_CLS.WHERE n) _ rfl, hset _ (F.SLU_CLS.REASON n) _ rfl, hset _ (F.SLU_CLS.FRACTION n) _ rfl]
  unfold State.putCls
  dsimp only
  split
  · split
    · exact hcls
    · simp only [paced_raise, paced_mk, hcls]
  · split
    · simp only [paced_raise, paced_mk, hcls]
    · exact hcls

theorem paced_idleArms (s : State) (arms : List ArmIn) : (s.idleArms arms).paced = s.paced :=
  paced_foldl (fun s a => paced_wr s _ (slu_off_ne_tick (by decide) a)) _ _

theorem paced_allocArm (s : State) (on : Bool) (arms : List ArmIn) (d : Asked) (v : Served) (es : List Entry) (i : Nat) (x : ArmIn) :
    (s.allocArm on arms d v es i x).1.paced = s.paced := by
  have hstat : ∀ (u : State) (lo w n : Nat), (u.set ⟨0x10040 + 4 * x.arm, lo, w⟩ n).paced = u.paced := fun u lo w n => paced_set u n (slu_off_ne_tick (by decide) x.arm)
  simp [State.allocArm, State.setFlag, F.SLU_ARM_STAT.ACTIVE, F.SLU_ARM_STAT.HEADROOM_LOW, F.SLU_ARM_STAT.INS_BUSY, F.SLU_ARM_STAT.SHORT, F.SLU_ARM_STAT.SPARE, hstat]

theorem paced_sluStatus (s : State) (on : Bool) (cs : List ClsRec) (ps qs : Int) : (s.sluStatus on cs ps qs).paced = s.paced := by
  have hcnt : (s.inc F.SLU_SHORT_CNT.COUNT).paced = s.paced := paced_inc s (by decide)
  have hput : ∀ (u : State) (r : StreamRec), ((u.streamPairs 1).foldl (fun s q => if s.decimTick q then s.streamPut q r s.tickNow else s) u).paced = u.paced := by
    intro u r
    refine hosted_paced (.foldl (fun s q hq => ?_) u)
    split
    · exact hosted_streamPut s (streamPairs_lt hq) r _
    · exact .same s
  unfold State.sluStatus
  dsimp only
  generalize hu : (if cs.any (fun c => c.frac != 32768) then s.inc F.SLU_SHORT_CNT.COUNT else s) = u
  have hshort : u.paced = s.paced := by rw [← hu, paced_ite, hcnt, ite_self]
  split
  · exact (hput _ _).trans hshort
  · exact hshort

theorem paced_foldl1 {α β : Type} {g : State × β → α → State × β} (h : ∀ a x, (g a x).1.paced = a.1.paced) (l : List α) (a : State × β) :
    (l.foldl g a).1.paced = a.1.paced := by
  induction l generalizing a with
  | nil => rfl
  | cons x t ih => exact (ih (g a x)).trans (h a x)

theorem paced_allocate (s : State) (on : Bool) : (s.allocate on).1.paced = s.paced := by
  unfold State.allocate
  simp only [paced_sluStatus]
  refine (paced_foldl1 (fun a i => ?_) _ _).trans ?_
  · split
    · rfl
    · simp only [paced_allocArm]
  · simp only [paced_idleArms, State.setLimits, paced_mk]
    rw [paced_foldl (fun s n => paced_putCls s n _), paced_evalEntries, paced_sluRoles]

theorem paced_buildSlots (s : State) (cmds : List CellCmd) : (s.buildSlots cmds).1.paced = s.paced := by
  unfold State.buildSlots
  simp only [paced_mk]
  exact paced_foldl (fun s a => paced_modSlArm s a _) _ _

theorem paced_afterMeasure (s : State) : s.afterMeasure.1.paced = s.paced := by
  unfold State.afterMeasure
  dsimp only
  rw [paced_buildSlots, paced_allocate, paced_runCtrls]

/-! ### The shadow (R390, R391) -/

theorem compareNow_slotsFor (s : State) (f : TickFrame) : (s.compareNow f).red.slotsFor = s.red.slotsFor := by
  unfold State.compareNow
  dsimp only
  (repeat' split) <;> simp [State.addSat]

theorem compareEarly_slotsFor (s : State) : s.compareEarly.red.slotsFor = s.red.slotsFor := by
  have hrun : ∀ (l : List TickFrame) (u : State), (l.foldl State.compareNow u).red.slotsFor = u.red.slotsFor := by
    intro l
    induction l with
    | nil => exact fun u => rfl
    | cons f t ih => exact fun u => (ih _).trans (compareNow_slotsFor u f)
  exact hrun _ _

theorem tickNow_paced {s t : State} (h : t.paced = s.paced) (hb : s.role = .basin) : t.tickNow = s.tickNow := by
  have hr : t.role = s.role := congrArg Prod.fst h
  simp only [State.tickNow, hr, hb, paced_tickNum h]

/-- The slots the shadow keeps are those of the tick after the one in progress. -/
theorem shadowPipe_slotsFor (s : State) (hb : s.role = .basin) : s.shadowPipe.red.slotsFor = tickSucc s.tickNow := by
  unfold State.shadowPipe
  simp only [compareEarly_slotsFor]
  rw [tickNow_paced _ hb]
  rw [paced_afterMeasure, paced_syncCount, paced_hwStep, paced_mk, paced_measureTelem]

end Sys2Proof.Machine
end

section
/-! PROOFS. The tick of a Basin from its boundary to its deadline (R23, R28, R39, R42 to R50, R260, R513). -/
namespace Sys2Proof.Machine

/-! ### A boundary (R23, R39, R390) -/

theorem hosted_closeTick (s : State) : ∃ u, s.Hosted u ∧ (s.closeTick = u ∨ s.closeTick = { u with ctl := { u.ctl with closed := s.get F.CTL_TICK_NUM.TICK } }) := by
  unfold State.closeTick
  dsimp only
  split
  · exact ⟨s, .same s, .inl rfl⟩
  · exact ⟨_, .foldl (fun s sp _ => hosted_streamHole s sp _ _) s, .inr rfl⟩

theorem closeTick_get (s : State) {f : Fld} (hf : hostReg f.off = false) : s.closeTick.get f = s.get f := by
  obtain ⟨u, hu, h | h⟩ := hosted_closeTick s
  · rw [h, hu.get hf]
  · rw [h]
    exact hu.get hf

theorem mem_streamPairs_append {s : State} {c : Bool} {q : Nat} (h : q ∈ s.streamPairs 0 ++ (if c then s.streamPairs 1 else [])) : q < 16 := by
  rcases List.mem_append.mp h with h | h
  · exact streamPairs_lt h
  · split at h
    · exact streamPairs_lt h
    · cases h

theorem skipTicks_get (s : State) (n : Nat) {f : Fld} (hf : hostReg f.off = false) (hok : f.ok = true) (ht : F.CTL_TICK_NUM.TICK.apart f = true) :
    (s.skipTicks n).get f = s.get f := by
  unfold State.skipTicks
  dsimp only
  refine (State.get_set_apart _ F.CTL_TICK_NUM.TICK f _ hok ht).trans (Eq.trans (State.Hosted.get ?_ hf) (closeTick_get s hf))
  exact (State.Hosted.foldl (fun s q hq => hosted_recoveryGap s (mem_streamPairs_append hq) _ _) _).trans (hosted_hidden rfl)

/-- The tick that starts is the one the Basin counts, or the one its headers name. -/
theorem comingTick_eq {s : State} {n : TickNext} (hsafe : s.get F.CLK_PLLS_STAT.ON_SAFE = 0)
    (h : (s.dispatches = true ∧ n = (if s.tickNow = 0 then ⟨1, s.time.ext, s.get F.CTL_TICK_PERIOD.PERIOD⟩ else ⟨tickSucc s.tickNow, s.ctl.bound + 10 * s.ctl.per, s.get F.CTL_TICK_PERIOD.PERIOD⟩)) ∨
      (s.dispatches = false ∧ s.get F.RED_CLAIM.ROLE = 2 ∧ s.pipeFit = true ∧ ∃ h, s.red.hdr = some h ∧
        n = (if s.hdrAhead h then ⟨h.tick, s.extOf h.bound, h.period⟩ else ⟨tickSucc s.tickNow, s.ctl.bound + 10 * s.ctl.per, s.ctl.per⟩))) : s.comingTick = some n := by
  have hflag : s.flag F.CLK_PLLS_STAT.ON_SAFE = false := by simp [State.flag, hsafe]
  unfold State.comingTick
  rcases h with ⟨hd, hn⟩ | ⟨hd, hrole, hfit, h, hh, hn⟩
  · simp [hflag, hd, hn, State.ownNext]
  · simp only [hflag, hd, hrole, hfit, hh, hn, roleStandby, State.ownNext]
    simp [apply_ite some]

theorem followState_touch (s : State) (k : Nat) : ∃ n v, s.followState k = s ∨ s.followState k = { s with ctl := { s.ctl with lasted := n } }.set F.CTL_STATUS.STATE v := by
  unfold State.followState
  split
  · split
    · exact ⟨0, 0, .inl rfl⟩
    · exact ⟨0, _, .inr rfl⟩
  · exact ⟨0, 0, .inl rfl⟩

theorem followState_facts (s : State) (k : Nat) : (s.followState k).get F.CTL_TICK_NUM.TICK = s.get F.CTL_TICK_NUM.TICK ∧
    (s.followState k).get F.CTL_STATUS.TICK_RUN = s.get F.CTL_STATUS.TICK_RUN ∧ (s.followState k).ctl = { s.ctl with lasted := (s.followState k).ctl.lasted } := by
  obtain ⟨n, v, h | h⟩ := followState_touch s k
  · rw [h]
    exact ⟨rfl, rfl, rfl⟩
  · rw [h]
    exact ⟨State.get_set_apart _ _ _ _ (by decide) (by decide), State.get_set_apart _ _ _ _ (by decide) (by decide), rfl⟩

/-- The state once the tick before is closed: what opens the next tick starts from. -/
def State.tickClosed (s : State) (n : TickNext) : State :=
  let s := s.closeTick
  let gap := tickDist s.tickNow n.tick
  let s := if s.tickNow != 0 && decide (1 < gap) then s.skipTicks (gap - 1) else s
  if s.dispatches then s.set F.CTL_STATUS.TICK_RUN 1 else s.farReport n.tick

theorem tickClosed_running (s : State) (n : TickNext) (h : s.dispatches = true) : (s.tickClosed n).get F.CTL_STATUS.TICK_RUN = 1 := by
  have hclose : s.closeTick.get F.RED_CLAIM.ROLE = s.get F.RED_CLAIM.ROLE := closeTick_get s rfl
  have hskip : ∀ k, (s.closeTick.skipTicks k).get F.RED_CLAIM.ROLE = s.get F.RED_CLAIM.ROLE := fun k => (skipTicks_get _ k rfl (by decide) (by decide)).trans hclose
  unfold State.tickClosed
  dsimp only
  rw [if_pos]
  · exact State.get_set_same _ _ _ (by decide)
  · split
    · simpa only [State.dispatches, hskip] using h
    · simpa only [State.dispatches, hclose] using h

theorem openTick_get (s : State) (n : TickNext) (f : Fld) : (s.openTick n).get f = (s.set F.CTL_TICK_NUM.TICK n.tick).get f := rfl

/-- The state in which the boundary's operations take effect. -/
def State.tickOpened (s : State) (n : TickNext) : State := ((s.tickClosed n).openTick n).followState n.tick

theorem gatherStart_eq (s : State) (n : TickNext) : s.gatherStart n = (((s.tickOpened n).boundaryOps n.tick).thrGather).sampleCfg.sampleQueue (tickSucc n.tick) := rfl

theorem tickOpened_facts (s : State) (n : TickNext) : (s.tickOpened n).get F.CTL_TICK_NUM.TICK = n.tick % 2 ^ 32 ∧ (s.tickOpened n).ctl.bound = n.bound ∧
    (s.tickOpened n).ctl.per = n.per ∧ (s.tickOpened n).ctl.gathering = true ∧ (s.tickOpened n).ctl.got = [] ∧ (s.tickOpened n).ctl.late = [] ∧
    (s.tickOpened n).ctl.gotEnergise = false ∧ (s.tickOpened n).ctl.gotDeenergise = false ∧ (s.dispatches = true → (s.tickOpened n).get F.CTL_STATUS.TICK_RUN = 1) := by
  obtain ⟨htick, hrun, hctl⟩ := followState_facts ((s.tickClosed n).openTick n) n.tick
  have hctl' : (s.tickOpened n).ctl = { ((s.tickClosed n).openTick n).ctl with lasted := (s.tickOpened n).ctl.lasted } := hctl
  refine ⟨htick.trans ((openTick_get _ n _).trans (State.get_set_same _ _ _ (by decide))), ?_, ?_, ?_, ?_, ?_, ?_, ?_, fun h => ?_⟩
  · rw [hctl']; rfl
  · rw [hctl']; rfl
  · rw [hctl']; rfl
  · rw [hctl']; rfl
  · rw [hctl']; rfl
  · rw [hctl']; rfl
  · rw [hctl']; rfl
  · rw [State.tickOpened, hrun, openTick_get, State.get_set_apart _ _ _ _ (by decide) (by decide), tickClosed_running s n h]

end Sys2Proof.Machine
end

section
/-! PROOFS. Telemetry at a Basin, and the Springs it finds LOST or back (R28, R43, R47 to R49, R260, R365, R513). -/
namespace Sys2Proof.Machine

/-! ### A frame heard on a port that is UP (R237, R240) -/

/-- The second state differs from the first in a port's error counters alone. -/
def State.Counted (s : State) (p : Nat) (u : State) : Prop := u = { s with regs := u.regs } ∧ s.RegsBut (hearRegs p) u

theorem counted_hearFrame {s : State} {p : Nat} (r : Heard) (h : s.portUp p = true) : s.Counted p (s.hearFrame p r) := by
  rw [hearFrame_up r h]
  exact ⟨rfl, regsBut_trans (regsBut_set s (F.LNK_CRC_ERR.COUNT p) _ _ (by simp [hearRegs])) (regsBut_set _ (F.LNK_HDR_ERR.COUNT p) _ _ (by simp [hearRegs]))⟩

namespace State.Counted

variable {s u : State} {p : Nat}

theorem role (h : s.Counted p u) : u.role = s.role := (congrArg State.role h.1).trans rfl
theorem side (h : s.Counted p u) : u.side = s.side := (congrArg State.side h.1).trans rfl
theorem clk (h : s.Counted p u) : u.clk = s.clk := (congrArg State.clk h.1).trans rfl
theorem time (h : s.Counted p u) : u.time = s.time := (congrArg State.time h.1).trans rfl
theorem lnk (h : s.Counted p u) : u.lnk = s.lnk := (congrArg State.lnk h.1).trans rfl
theorem ctl (h : s.Counted p u) : u.ctl = s.ctl := (congrArg State.ctl h.1).trans rfl
theorem out (h : s.Counted p u) : u.out = s.out := (congrArg State.out h.1).trans rfl
theorem lanes (h : s.Counted p u) : u.lanes = s.lanes := (congrArg State.lanes h.1).trans rfl
theorem hull (h : s.Counted p u) : u.hull = s.hull := by rw [h.1]; rfl

theorem get (h : s.Counted p u) {f : Fld} (hf : f.off ∉ hearRegs p) : u.get f = s.get f := by
  unfold State.get
  rw [h.2 _ hf]

/-- A register beyond the ports'. -/
theorem get_far (h : s.Counted p u) (hp : p < 12) {f : Fld} (hf : 0xB000 ≤ f.off) : u.get f = s.get f := h.get (notMem_hearRegs hp hf)

theorem portUp (h : s.Counted p u) (c : Nat) : u.portUp c = s.portUp c := by
  have hoff : (F.LNK_PSTAT.STATE c).off ∉ hearRegs p := by
    simp only [hearRegs, F.LNK_PSTAT.STATE, F.LNK_CRC_ERR.COUNT, F.LNK_HDR_ERR.COUNT, List.mem_cons, List.not_mem_nil, or_false]
    omega
  simp only [State.portUp, State.portSt, h.get hoff]

end State.Counted

theorem telemRx_hears {s : State} {p : Fin 12} {bs : List Block} (h : s.HearsFrame p bs ftTELEM) (hb : s.role = .basin) (hlen : (hear bs).bytes.length = 102) {dt : Nat}
    {P : State → Prop} (hP : ∀ u, (State.advance dt s).Counted p u → P (u.telemRx p (telemOf (hear bs).bytes))) : GoesTo (exec (.telemRx dt p bs) s) P := by
  obtain ⟨hlive, hport, hup, hgood, hft⟩ := h
  have hup' : (State.advance dt s).portUp p = true := hup
  have hport' : (State.advance dt s).hasPort p = true := hport
  have hu := counted_hearFrame (hear bs) hup'
  change GoesTo (execTelemRx dt p bs s) _
  unfold execTelemRx
  refine goesTo_basin hlive hb ?_
  have e : (State.advance dt s).onFrame p bs ftTELEM (fun b s => if b.length = 102 then s.telemRx p (telemOf b) else s) =
      ((State.advance dt s).hearFrame p (hear bs)).telemRx p (telemOf (hear bs).bytes) := by
    simp [State.onFrame, hport', hgood, hft, hlen]
  rw [e, confine_hull (by rw [hull_telemRx, hu.hull]; rfl)]
  exact hP _ hu

/-- A frame that is not whole, of another kind or of another length only counts. -/
theorem telemRx_drops {s : State} {p : Fin 12} {bs : List Block} (hlive : s.live = true) (hb : s.role = .basin)
    (hbad : (hear bs).good = false ∨ ftypeOf (hear bs).bytes ≠ ftTELEM ∨ (hear bs).bytes.length ≠ 102) {dt : Nat} {P : State → Prop}
    (hP : P ((State.advance dt s).hearFrame p (hear bs))) : GoesTo (exec (.telemRx dt p bs) s) P := by
  have hport' : (State.advance dt s).hasPort p = true := by simp [State.hasPort, hb]
  change GoesTo (execTelemRx dt p bs s) _
  unfold execTelemRx
  refine goesTo_basin hlive hb ?_
  have e : (State.advance dt s).onFrame p bs ftTELEM (fun b s => if b.length = 102 then s.telemRx p (telemOf b) else s) = (State.advance dt s).hearFrame p (hear bs) := by
    rcases hbad with hbad | hbad | hbad <;> simp [State.onFrame, hport', hbad]
  rw [e, confine_hull (by rw [hull_hearFrame]; rfl)]
  exact hP

theorem hearFrame_crc {s : State} {p : Nat} (r : Heard) (h : s.portUp p = true) :
    (s.hearFrame p r).get (F.LNK_CRC_ERR.COUNT p) = min (s.get (F.LNK_CRC_ERR.COUNT p) + r.count) 0xFFFFFFFF := by
  have hapart : (F.LNK_HDR_ERR.COUNT p).apart (F.LNK_CRC_ERR.COUNT p) = true := by
    simp [Fld.apart, F.LNK_HDR_ERR.COUNT, F.LNK_CRC_ERR.COUNT]
  rw [hearFrame_up r h, State.addSat, State.get_set_apart _ _ _ _ rfl hapart, State.addSat, State.get_set_same _ _ _ rfl]
  exact Nat.mod_eq_of_lt (Nat.lt_of_le_of_lt (Nat.min_le_right _ _) (Nat.sub_lt (Nat.two_pow_pos 32) Nat.one_pos))

theorem inc_get (s : State) {f : Fld} (hw : f.w = 32) (hok : f.ok = true) : (s.inc f).get f = min (s.get f + 1) 0xFFFFFFFF := by
  rw [State.inc, State.addSat, State.get_set_same _ _ _ hok, hw]
  exact Nat.mod_eq_of_lt (Nat.lt_of_le_of_lt (Nat.min_le_right _ _) (by decide))

/-! ### Telemetry relayed (R260) -/

/-- The second state differs from the first in its count of relayed frames, its lanes and in what it has put out. -/
def State.Relayed (s t : State) : Prop := t = { s with ctl := { s.ctl with seen := t.ctl.seen }, lanes := t.lanes, out := t.out }

theorem relayTelem_relayed (s : State) (p : Nat) (x : Telem) : s.Relayed (s.relayTelem p x) := by
  have hsent : ∀ (seen : List (Nat × Nat)) (q : Nat) (f : Frame), s.Relayed ({ s with ctl := { s.ctl with seen := seen } }.sendFrame q f) := by
    intro seen q f
    have hw : State.Wired { s with ctl := { s.ctl with seen := seen } } ({ s with ctl := { s.ctl with seen := seen } }.sendFrame q f) := laneOut_wired _ _ _ _
    unfold State.Relayed
    rw [hw]
  unfold State.relayTelem
  dsimp only
  split
  · exact rfl
  · split
    · exact rfl
    · exact hsent _ _ _

theorem relayTelem_none {s : State} {p : Nat} {x : Telem} (h : x.relayed = true ∨ p ≠ x.spring / 16 ∨ s.relaying (x.spring / 16) = false) : s.relayTelem p x = s := by
  unfold State.relayTelem
  dsimp only
  rw [if_pos]
  rcases h with h | h | h <;> simp [h]

/-- The relayed copy leaves on the whole chain whose turn it is. -/
theorem relayTelem_sends {s : State} {p : Nat} {x : Telem} (hx : x.relayed = false) (hp : p = x.spring / 16) (hr : s.relaying (x.spring / 16) = true)
    (hw : s.wholeChains ≠ []) (hl : s.lanesOff = false) :
    OutMsg.frame (s.wholeChains.getD (countOf s.ctl.seen (x.spring / 16) % s.wholeChains.length) 0) (wireBytes (.telem { x with relayed := true })) ∈ (s.relayTelem p x).out := by
  subst hp
  have hl' : ∀ c : CtlSt, State.lanesOff { s with ctl := c } = false := fun _ => hl
  simp [State.relayTelem, hx, hr, hw, State.sendFrame, State.laneOut, hl', State.emit]

/-! ### What a frame heard meets -/

/-- What is done with a frame once the far copy is relayed. -/
def State.telemFor (s : State) (p : Nat) (x : Telem) : State :=
  match s.enrOf x.spring with
  | none =>
    if s.dispatches || !decide (x.spring < 192) then s
    else
      let s := s.setEnr ⟨x.spring, some x.epoch, 0, 0⟩
      if x.tick == s.tickNow then s.takeTelem (p == x.spring / 16) x else s.discTelem x
  | some e =>
    if e.epoch != some x.epoch then s.otherEpoch x e
    else if x.tick != s.tickNow then s.discTelem x
    else s.takeTelem (p == x.spring / 16) x

theorem telemRx_eq {s : State} (h : s.tickNow ≠ 0) (p : Nat) (x : Telem) : s.telemRx p x = (s.relayTelem p x).telemFor p x := by
  rw [State.telemRx, if_neg h]
  rfl

/-- The state that a frame of telemetry meets at a Basin whose port is UP: time has passed, a port's error counters may have risen, the frame has been relayed where it must. -/
structure State.Meets (s : State) (dt p : Nat) (x : Telem) (w : State) : Prop where
  regs : s.RegsBut (hearRegs p) w
  role : w.role = s.role
  lnk : w.lnk = s.lnk
  time : w.time = (State.advance dt s).time
  ctl : w.ctl = { s.ctl with seen := w.ctl.seen }
  out : x.relayed = true ∨ p ≠ x.spring / 16 ∨ s.relaying (x.spring / 16) = false → w.out = s.out ∧ w.ctl = s.ctl
  relay : x.relayed = false → p = x.spring / 16 → s.relaying (x.spring / 16) = true → s.wholeChains ≠ [] → s.lanesOff = false →
    OutMsg.frame (s.wholeChains.getD (countOf s.ctl.seen (x.spring / 16) % s.wholeChains.length) 0) (wireBytes (.telem { x with relayed := true })) ∈ w.out
  side : w.side = s.side

theorem counted_tickNow {s u : State} {p : Nat} (h : s.Counted p u) (hp : p < 12) : u.tickNow = s.tickNow := by
  have hspr : u.spr = s.spr := (congrArg State.spr h.1).trans rfl
  simp only [State.tickNow, h.role, hspr, h.get_far hp (f := F.CTL_TICK_NUM.TICK) (by decide)]

theorem meets_relayTelem {s u : State} {dt p : Nat} {x : Telem} (hu : (State.advance dt s).Counted p u) (hp : p < 12) : s.Meets dt p x (u.relayTelem p x) := by
  have hr := relayTelem_relayed u p x
  have hrole : (u.relayTelem p x).role = u.role := (congrArg State.role hr).trans rfl
  have hside : (u.relayTelem p x).side = u.side := (congrArg State.side hr).trans rfl
  have hregs : (u.relayTelem p x).regs = u.regs := (congrArg State.regs hr).trans rfl
  have hlnk : (u.relayTelem p x).lnk = u.lnk := (congrArg State.lnk hr).trans rfl
  have htime : (u.relayTelem p x).time = u.time := (congrArg State.time hr).trans rfl
  have hctl : (u.relayTelem p x).ctl = { u.ctl with seen := (u.relayTelem p x).ctl.seen } := (congrArg State.ctl hr).trans rfl
  have hrelaying : ∀ c, u.relaying c = s.relaying c := by
    intro c
    simp only [State.relaying, hu.lnk, counted_tickNow hu hp]
    rfl
  have hchains : u.wholeChains = s.wholeChains := by
    simp only [State.wholeChains, State.chainEnrolled, hu.lnk, hu.portUp, hrelaying]
    rfl
  have hlanes : F.CLK_PLLL_STAT.STATE.off ∉ hearRegs p := by
    simp only [hearRegs, F.CLK_PLLL_STAT.STATE, F.LNK_CRC_ERR.COUNT, F.LNK_HDR_ERR.COUNT, List.mem_cons, List.not_mem_nil, or_false]
    omega
  have hoff : u.lanesOff = s.lanesOff := by
    simp only [State.lanesOff, hu.clk, hu.get hlanes]
    rfl
  refine ⟨regsBut_trans hu.2 (regsBut_hidden _ hrole hside hregs), hrole.trans hu.role, hlnk.trans hu.lnk, htime.trans hu.time, ?_, fun h => ?_, fun hx hpx hrel hw hl => ?_, hside.trans hu.side⟩
  · rw [hctl, hu.ctl]
    rfl
  · rw [relayTelem_none (by rwa [hrelaying])]
    exact ⟨hu.out, hu.ctl⟩
  · have hsent := relayTelem_sends hx hpx (by rwa [hrelaying]) (by rwa [hchains]) (hoff.trans hl)
    rw [hchains, hu.ctl] at hsent
    exact hsent

theorem telemRx_meets {s : State} {p : Fin 12} {bs : List Block} (h : s.HearsFrame p bs ftTELEM) (hb : s.role = .basin) (hlen : (hear bs).bytes.length = 102)
    (ht : s.tickNow ≠ 0) {dt : Nat} {P : State → Prop} (hP : ∀ w, s.Meets dt p (telemOf (hear bs).bytes) w → P (w.telemFor p (telemOf (hear bs).bytes))) :
    GoesTo (exec (.telemRx dt p bs) s) P := by
  refine telemRx_hears h hb hlen fun u hu => ?_
  have ht' : u.tickNow ≠ 0 := by
    rw [counted_tickNow hu p.isLt]
    exact ht
  rw [telemRx_eq ht']
  exact hP _ (meets_relayTelem hu p.isLt)

namespace State.Meets

variable {s w : State} {dt p : Nat} {x : Telem}

theorem get_far (h : s.Meets dt p x w) (hp : p < 12) {f : Fld} (hf : 0xB000 ≤ f.off) : w.get f = s.get f := by
  unfold State.get
  rw [h.regs _ (notMem_hearRegs hp hf)]

theorem tickNow (h : s.Meets dt p x w) (hp : p < 12) (hb : s.role = .basin) : w.tickNow = s.tickNow := by
  simp only [State.tickNow, h.role, hb, h.get_far hp (f := F.CTL_TICK_NUM.TICK) (by decide)]

theorem dispatches (h : s.Meets dt p x w) (hp : p < 12) : w.dispatches = s.dispatches := by
  simp only [State.dispatches, h.get_far hp (f := F.RED_CLAIM.ROLE) (by decide)]

theorem enrOf (h : s.Meets dt p x w) (sp : Nat) : w.enrOf sp = s.enrOf sp := by simp only [State.enrOf, h.lnk]

theorem heard (h : s.Meets dt p x w) (sp : Nat) : w.heard sp = s.heard sp := by
  rw [State.heard, h.ctl]
  rfl

theorem deadline (h : s.Meets dt p x w) : w.deadline = s.deadline := by
  simp only [State.deadline, State.cg, h.role, h.side]
  rw [h.ctl]

theorem got (h : s.Meets dt p x w) : w.ctl.got = s.ctl.got := by rw [h.ctl]
theorem late (h : s.Meets dt p x w) : w.ctl.late = s.ctl.late := by rw [h.ctl]
theorem disc (h : s.Meets dt p x w) : w.ctl.disc = s.ctl.disc := by rw [h.ctl]
theorem gathering (h : s.Meets dt p x w) : w.ctl.gathering = s.ctl.gathering := by rw [h.ctl]

end State.Meets

/-! ### Telemetry taken, late, discarded (R28, R43, R49) -/

/-- The ends a Spring's frames of the tick have come by, with one more. -/
def withSide (l : List (Nat × Bool)) (y : Nat × Bool) : List (Nat × Bool) := if l.contains y then l else l ++ [y]

theorem mem_withSide (l : List (Nat × Bool)) (y : Nat × Bool) : y ∈ withSide l y := by
  unfold withSide
  split
  · rename_i h
    simpa using h
  · simp

theorem takeTelem_eq (s : State) (near : Bool) (x : Telem) : s.takeTelem near x =
    if s.heard x.spring || s.ctl.late.contains x.spring then { s with ctl := { s.ctl with sides := withSide s.ctl.sides (x.spring, near) } }
    else if s.ctl.gathering && decide (s.time.ext ≤ s.deadline) then
      { s with ctl := { s.ctl with sides := withSide s.ctl.sides (x.spring, near), got := s.ctl.got ++ [x] } }
    else (({ s with ctl := { s.ctl with sides := withSide s.ctl.sides (x.spring, near), late := s.ctl.late ++ [x.spring] } }).inc F.CTL_LATE_CNT.COUNT).streamTelem x true := rfl

/-- The first copy by the deadline is used. -/
theorem takeTelem_inTime {s : State} {x : Telem} (near : Bool) (hh : s.heard x.spring = false) (hl : x.spring ∉ s.ctl.late) (hg : s.ctl.gathering = true)
    (hd : s.time.ext ≤ s.deadline) :
    s.takeTelem near x = { s with ctl := { s.ctl with sides := withSide s.ctl.sides (x.spring, near), got := s.ctl.got ++ [x] } } := by
  rw [takeTelem_eq, if_neg (by simp [hh, hl]), if_pos (by simp [hg, hd])]

/-- After the deadline it is late, and goes out on the streams. -/
theorem takeTelem_late {s : State} {x : Telem} (near : Bool) (hh : s.heard x.spring = false) (hl : x.spring ∉ s.ctl.late)
    (hd : s.ctl.gathering = false ∨ s.deadline < s.time.ext) :
    s.takeTelem near x =
      (({ s with ctl := { s.ctl with sides := withSide s.ctl.sides (x.spring, near), late := s.ctl.late ++ [x.spring] } }).inc F.CTL_LATE_CNT.COUNT).streamTelem x true := by
  rw [takeTelem_eq, if_neg (by simp [hh, hl]), if_neg (by rcases hd with hd | hd <;> simp [hd])]

/-- A further copy of one that was taken is dropped. -/
theorem takeTelem_copy {s : State} {x : Telem} (near : Bool) (h : s.heard x.spring = true) :
    s.takeTelem near x = { s with ctl := { s.ctl with sides := withSide s.ctl.sides (x.spring, near) } } := by
  rw [takeTelem_eq, if_pos (by simp [h])]

theorem discTelem_new {s : State} {x : Telem} (h : (x.spring, x.tick, x.epoch) ∉ s.ctl.disc) :
    s.discTelem x = { s with ctl := { s.ctl with disc := s.ctl.disc ++ [(x.spring, x.tick, x.epoch)] } }.inc F.CTL_LATE_CNT.COUNT := by
  simp [State.discTelem, h]

/-- A discarded frame leaves what was taken, the enrolment, and what has left. -/
theorem discTelem_keeps (s : State) (x : Telem) : (s.discTelem x).ctl.got = s.ctl.got ∧ (s.discTelem x).out = s.out ∧ (s.discTelem x).dispatches = s.dispatches := by
  unfold State.discTelem
  dsimp only
  split
  · exact ⟨rfl, rfl, rfl⟩
  · have hget : ∀ c : CtlSt, (State.inc { s with ctl := c } F.CTL_LATE_CNT.COUNT).get F.RED_CLAIM.ROLE = s.get F.RED_CLAIM.ROLE :=
      fun c => State.get_set_apart _ _ _ _ (by decide) (by decide)
    exact ⟨rfl, rfl, by simp only [State.dispatches, hget]⟩

theorem streamTelem_sent (s : State) (x : Telem) (late : Bool) {m : OutMsg} (h : m ∈ s.out) : m ∈ (s.streamTelem x late).out := (hosted_streamTelem s x late).sent h

theorem takeTelem_sent (s : State) (near : Bool) (x : Telem) {m : OutMsg} (h : m ∈ s.out) : m ∈ (s.takeTelem near x).out := by
  rw [takeTelem_eq]
  split
  · exact h
  · split
    · exact h
    · exact streamTelem_sent _ _ _ h

theorem setEnr_out (s : State) (e : Enr) : (s.setEnr e).out = s.out := rfl

theorem otherEpoch_sent (s : State) (x : Telem) (e : Enr) {m : OutMsg} (h : m ∈ s.out) : m ∈ (s.otherEpoch x e).out := by
  have hd : m ∈ (s.discTelem x).out := by rwa [(discTelem_keeps s x).2.1]
  unfold State.otherEpoch
  generalize s.discTelem x = u at hd
  dsimp only
  split
  · split <;> exact hd
  · rw [setEnr_out]
    exact (hosted_restartSeen _ _ _ _).sent hd

/-- Nothing that has left is taken back. -/
theorem telemFor_sent (s : State) (p : Nat) (x : Telem) {m : OutMsg} (h : m ∈ s.out) : m ∈ (s.telemFor p x).out := by
  have hdisc : ∀ u : State, m ∈ u.out → m ∈ (u.discTelem x).out := fun u hu => by rwa [(discTelem_keeps u x).2.1]
  unfold State.telemFor
  split
  · split
    · exact h
    · dsimp only
      split
      · exact takeTelem_sent _ _ _ h
      · exact hdisc _ h
  · split
    · exact otherEpoch_sent _ _ _ h
    · split
      · exact hdisc _ h
      · exact takeTelem_sent _ _ _ h

/-! ### Which of them a frame meets -/

theorem telemFor_tick {s : State} {p : Nat} {x : Telem} {e : Enr} (he : s.enrOf x.spring = some e) (hep : e.epoch = some x.epoch) (ht : x.tick = s.tickNow) :
    s.telemFor p x = s.takeTelem (p == x.spring / 16) x := by
  simp [State.telemFor, he, hep, ht]

theorem telemFor_otherTick {s : State} {p : Nat} {x : Telem} {e : Enr} (he : s.enrOf x.spring = some e) (hep : e.epoch = some x.epoch) (ht : x.tick ≠ s.tickNow) :
    s.telemFor p x = s.discTelem x := by
  simp [State.telemFor, he, hep, ht]

theorem telemFor_otherEpoch {s : State} {p : Nat} {x : Telem} {e : Enr} {o : Nat} (he : s.enrOf x.spring = some e) (hep : e.epoch = some o) (ho : o ≠ x.epoch) :
    s.telemFor p x = s.otherEpoch x e := by
  simp [State.telemFor, he, hep, ho]

theorem telemFor_unknown {s : State} {p : Nat} {x : Telem} (he : s.enrOf x.spring = none) (hd : s.dispatches = true) : s.telemFor p x = s := by
  simp [State.telemFor, he, hd]

theorem enrOf_setEnr (s : State) (e : Enr) : (s.setEnr e).enrOf e.spring = some e := by
  have hnone : (s.lnk.enrolled.filter (fun x => x.spring != e.spring)).find? (fun x => x.spring == e.spring) = none := by simp [List.find?_eq_none]
  simp [State.enrOf, State.setEnr, List.find?_append, hnone]

theorem enrOf_spring {s : State} {sp : Nat} {e : Enr} (h : s.enrOf sp = some e) : e.spring = sp := by
  have := List.find?_some h
  simpa using this

/-- A frame with another epoch: a Basin that dispatches waits for the Spring to be enrolled again (R365). -/
theorem otherEpoch_dispatching {s : State} {x : Telem} {e : Enr} {o : Nat} (he : s.enrOf x.spring = some e) (hep : e.epoch = some o) (hd : s.dispatches = true) :
    (s.otherEpoch x e).ctl.got = s.ctl.got ∧ ((s.otherEpoch x e).enrOf x.spring).map (·.epoch) = some none := by
  have hr := hosted_restartSeen (s.discTelem x) x.spring o x.epoch
  obtain ⟨hgot, -, hdisp⟩ := discTelem_keeps s x
  have hdisp' : ((s.discTelem x).restartSeen x.spring o x.epoch).dispatches = true := by
    simp only [State.dispatches, hr.get (f := F.RED_CLAIM.ROLE) rfl] at hdisp hd ⊢
    rw [hdisp, hd]
  have e' : s.otherEpoch x e = ((s.discTelem x).restartSeen x.spring o x.epoch).setEnr { e with epoch := none } := by
    simp [State.otherEpoch, hep, hdisp']
  rw [e']
  generalize (s.discTelem x).restartSeen x.spring o x.epoch = v at hr
  refine ⟨?_, ?_⟩
  · rw [← hgot, ← hr.ctl]
    rfl
  · rw [← enrOf_spring he]
    exact congrArg (Option.map _) (enrOf_setEnr _ { e with epoch := none })

end Sys2Proof.Machine
end

section
/-! PROOFS. What BasinTicks says of telemetry, of the deadline and of LOST Springs, and its settlement (R28, R39, R42, R43, R47 to R50, R260, R513). -/
namespace Sys2Proof.Machine

/-! ### Telemetry received -/

section
variable {s : State} {dt : Nat} {p : Fin 12} {bs : List Block} {e : Enr}

theorem telemRx_inTime (h : s.HearsFrame p bs ftTELEM) (hb : s.role = .basin) (hlen : (hear bs).bytes.length = 102) (ht : s.tickNow ≠ 0)
    (he : s.enrOf (telemOf (hear bs).bytes).spring = some e) (hep : e.epoch = some (telemOf (hear bs).bytes).epoch) (htick : (telemOf (hear bs).bytes).tick = s.tickNow)
    (hh : s.heard (telemOf (hear bs).bytes).spring = false) (hl : (telemOf (hear bs).bytes).spring ∉ s.ctl.late) (hg : s.ctl.gathering = true)
    (hd : (State.advance dt s).time.ext ≤ s.deadline) :
    GoesTo (exec (.telemRx dt p bs) s) fun t => t.ctl.got = s.ctl.got ++ [telemOf (hear bs).bytes] ∧
      ((telemOf (hear bs).bytes).spring, p.val == (telemOf (hear bs).bytes).spring / 16) ∈ t.ctl.sides ∧ t.ctl.late = s.ctl.late ∧
      ((telemOf (hear bs).bytes).relayed = true ∨ p.val ≠ (telemOf (hear bs).bytes).spring / 16 ∨ s.relaying ((telemOf (hear bs).bytes).spring / 16) = false → t.out = s.out) ∧
      s.RegsBut (hearRegs p) t := by
  refine telemRx_meets h hb hlen ht fun w hw => ?_
  rw [telemFor_tick ((hw.enrOf _).trans he) hep (htick.trans (hw.tickNow p.isLt hb).symm),
    takeTelem_inTime _ ((hw.heard _).trans hh) (by rwa [hw.late]) (hw.gathering.trans hg) (by rw [hw.time, hw.deadline]; exact hd)]
  exact ⟨congrArg (· ++ [_]) hw.got, mem_withSide _ _, hw.late, fun hr => (hw.out hr).1, hw.regs⟩

theorem telemRx_late (h : s.HearsFrame p bs ftTELEM) (hb : s.role = .basin) (hlen : (hear bs).bytes.length = 102) (ht : s.tickNow ≠ 0)
    (he : s.enrOf (telemOf (hear bs).bytes).spring = some e) (hep : e.epoch = some (telemOf (hear bs).bytes).epoch) (htick : (telemOf (hear bs).bytes).tick = s.tickNow)
    (hh : s.heard (telemOf (hear bs).bytes).spring = false) (hl : (telemOf (hear bs).bytes).spring ∉ s.ctl.late)
    (hd : s.ctl.gathering = false ∨ s.deadline < (State.advance dt s).time.ext) :
    GoesTo (exec (.telemRx dt p bs) s) fun t => t.ctl.got = s.ctl.got ∧ t.ctl.late = s.ctl.late ++ [(telemOf (hear bs).bytes).spring] ∧
      t.get F.CTL_LATE_CNT.COUNT = min (s.get F.CTL_LATE_CNT.COUNT + 1) 0xFFFFFFFF := by
  refine telemRx_meets h hb hlen ht fun w hw => ?_
  rw [telemFor_tick ((hw.enrOf _).trans he) hep (htick.trans (hw.tickNow p.isLt hb).symm),
    takeTelem_late _ ((hw.heard _).trans hh) (by rwa [hw.late]) (by rw [hw.gathering, hw.time, hw.deadline]; exact hd)]
  generalize hv : ({ w with ctl := { w.ctl with sides := _, late := w.ctl.late ++ [(telemOf (hear bs).bytes).spring] } } : State) = v
  have hvget : v.get F.CTL_LATE_CNT.COUNT = s.get F.CTL_LATE_CNT.COUNT := by
    rw [← hv]
    exact hw.get_far p.isLt (by decide)
  have hs := hosted_streamTelem (v.inc F.CTL_LATE_CNT.COUNT) (telemOf (hear bs).bytes) true
  refine ⟨?_, ?_, ?_⟩
  · rw [hs.ctl, ← hw.got, ← hv]
    rfl
  · rw [hs.ctl, ← hw.late, ← hv]
    rfl
  · rw [hs.get rfl, inc_get _ rfl rfl, hvget]

theorem telemRx_copy (h : s.HearsFrame p bs ftTELEM) (hb : s.role = .basin) (hlen : (hear bs).bytes.length = 102) (ht : s.tickNow ≠ 0)
    (he : s.enrOf (telemOf (hear bs).bytes).spring = some e) (hep : e.epoch = some (telemOf (hear bs).bytes).epoch) (htick : (telemOf (hear bs).bytes).tick = s.tickNow)
    (hh : s.heard (telemOf (hear bs).bytes).spring = true) :
    GoesTo (exec (.telemRx dt p bs) s) fun t => t.ctl.got = s.ctl.got ∧ t.ctl.late = s.ctl.late ∧ s.RegsBut (hearRegs p) t := by
  refine telemRx_meets h hb hlen ht fun w hw => ?_
  rw [telemFor_tick ((hw.enrOf _).trans he) hep (htick.trans (hw.tickNow p.isLt hb).symm), takeTelem_copy _ ((hw.heard _).trans hh)]
  exact ⟨hw.got, hw.late, hw.regs⟩

theorem telemRx_otherTick (h : s.HearsFrame p bs ftTELEM) (hb : s.role = .basin) (hlen : (hear bs).bytes.length = 102) (ht : s.tickNow ≠ 0)
    (he : s.enrOf (telemOf (hear bs).bytes).spring = some e) (hep : e.epoch = some (telemOf (hear bs).bytes).epoch) (htick : (telemOf (hear bs).bytes).tick ≠ s.tickNow)
    (hn : ((telemOf (hear bs).bytes).spring, (telemOf (hear bs).bytes).tick, (telemOf (hear bs).bytes).epoch) ∉ s.ctl.disc) :
    GoesTo (exec (.telemRx dt p bs) s) fun t => t.ctl.got = s.ctl.got ∧
      t.ctl.disc = s.ctl.disc ++ [((telemOf (hear bs).bytes).spring, (telemOf (hear bs).bytes).tick, (telemOf (hear bs).bytes).epoch)] ∧
      t.get F.CTL_LATE_CNT.COUNT = min (s.get F.CTL_LATE_CNT.COUNT + 1) 0xFFFFFFFF ∧ s.RegsBut (F.CTL_LATE_CNT.COUNT.off :: hearRegs p) t := by
  refine telemRx_meets h hb hlen ht fun w hw => ?_
  rw [telemFor_otherTick ((hw.enrOf _).trans he) hep (by rwa [hw.tickNow p.isLt hb]), discTelem_new (by rwa [hw.disc])]
  refine ⟨hw.got, congrArg (· ++ [_]) hw.disc, ?_, ?_⟩
  · rw [inc_get _ rfl rfl]
    exact congrArg (fun n => min (n + 1) 0xFFFFFFFF) (hw.get_far p.isLt (by decide))
  · exact regsBut_trans (regsBut_wider hw.regs fun o ho => List.mem_cons_of_mem _ ho) (regsBut_set { w with ctl := _ } F.CTL_LATE_CNT.COUNT _ _ List.mem_cons_self)

theorem telemRx_otherEpoch {o : Nat} (h : s.HearsFrame p bs ftTELEM) (hb : s.role = .basin) (hlen : (hear bs).bytes.length = 102) (ht : s.tickNow ≠ 0)
    (he : s.enrOf (telemOf (hear bs).bytes).spring = some e) (hep : e.epoch = some o) (ho : o ≠ (telemOf (hear bs).bytes).epoch) (hd : s.dispatches = true) :
    GoesTo (exec (.telemRx dt p bs) s) fun t => t.ctl.got = s.ctl.got ∧ (t.enrOf (telemOf (hear bs).bytes).spring).map (·.epoch) = some none := by
  refine telemRx_meets h hb hlen ht fun w hw => ?_
  rw [telemFor_otherEpoch ((hw.enrOf _).trans he) hep ho]
  obtain ⟨hgot, henr⟩ := otherEpoch_dispatching ((hw.enrOf _).trans he) hep ((hw.dispatches p.isLt).trans hd)
  exact ⟨hgot.trans hw.got, henr⟩

theorem telemRx_unknown (h : s.HearsFrame p bs ftTELEM) (hb : s.role = .basin) (hlen : (hear bs).bytes.length = 102) (ht : s.tickNow ≠ 0)
    (he : s.enrOf (telemOf (hear bs).bytes).spring = none) (hd : s.dispatches = true)
    (hr : (telemOf (hear bs).bytes).relayed = true ∨ p.val ≠ (telemOf (hear bs).bytes).spring / 16 ∨ s.relaying ((telemOf (hear bs).bytes).spring / 16) = false) :
    GoesTo (exec (.telemRx dt p bs) s) fun t => t.ctl = s.ctl ∧ t.out = s.out ∧ s.RegsBut (hearRegs p) t := by
  refine telemRx_meets h hb hlen ht fun w hw => ?_
  rw [telemFor_unknown ((hw.enrOf _).trans he) ((hw.dispatches p.isLt).trans hd)]
  obtain ⟨hout, hctl⟩ := hw.out hr
  exact ⟨hctl, hout, hw.regs⟩

end

/-! ### LOST Springs (R47, R48, R513) -/

theorem springImage_congr {s t : State} (h : t.basinId = s.basinId) (img : List Nat) (sp : Nat) : t.springImage img sp = s.springImage img sp := by
  have htable : ∀ type, t.ownTable img type = s.ownTable img type := fun type => by rw [State.ownTable, h, State.ownTable]
  have hcurves : t.curvesFor img sp = s.curvesFor img sp := by simp only [State.curvesFor, htable]
  have hderived : t.derivedFor img sp = s.derivedFor img sp := by
    unfold State.derivedFor
    rw [htable, htable, htable]
  simp only [State.springImage, State.pushSections, htable, hcurves, hderived]

/-- A push that fits is among the pushes. -/
theorem startPush_pushes {s : State} {img : List Nat} {sp : Nat} (tick : Nat) (h : (s.springImage img sp).length ≤ 65536) :
    (s.startPush img sp tick).tbl.pushes = s.tbl.pushes.filter (fun x => x.1 != sp) ++ [(sp, imgGen img, tick)] ∧ (s.startPush img sp tick).tbl.lostPush = s.tbl.lostPush := by
  have hsend : ∀ (u : State) (k o : Nat) (l : List Nat), (u.sendChunk sp k o l).tbl = u.tbl := fun u k o l => (congrArg State.tbl (sendSeq_sends u _ _ _ _ _)).trans rfl
  have hsends : ∀ (parts : List (List Nat)) (l : List Nat) (u : State), (l.foldl (fun (s : State) i => s.sendChunk sp 1 (256 * i) (parts.getD i [])) u).tbl = u.tbl := by
    intro parts l
    induction l with
    | nil => exact fun u => rfl
    | cons i t ih => exact fun u => (ih _).trans (hsend u _ _ _)
  have htbl : (s.startPush img sp tick).tbl = (s.setPushes (s.tbl.pushes.filter (fun x => x.1 != sp) ++ [(sp, imgGen img, tick)])).tbl := by
    unfold State.startPush
    dsimp only
    rw [if_neg (by omega), hsend, hsends, hsend]
  rw [htbl]
  exact ⟨rfl, rfl⟩

/-- A Spring that has been STALE too long, the deadline having come (R47). -/
def State.lossDue (s : State) (sp : Nat) : Bool :=
  s.atDeadline && (s.enrOf sp).isSome && !s.heard sp && decide (s.cg F.CTL_CTRL.STALE_MAX < countOf s.ctl.runs sp + 1) && !s.ctl.lost.contains sp

/-- A LOST Spring that has been heard long enough (R48). -/
def State.returnDue (s : State) (sp : Nat) : Bool := s.atDeadline && s.ctl.lost.contains sp && s.heard sp && decide (16 ≤ countOf s.ctl.back sp + 1)

theorem lossDue_advance (s : State) (dt sp : Nat) : (State.advance dt s).lossDue sp = ((s.ctl.gathering && decide (s.deadline ≤ (State.advance dt s).time.ext)) &&
    (s.enrOf sp).isSome && !s.heard sp && decide (s.cg F.CTL_CTRL.STALE_MAX < countOf s.ctl.runs sp + 1) && !s.ctl.lost.contains sp) := rfl

theorem returnDue_advance (s : State) (dt sp : Nat) : (State.advance dt s).returnDue sp = ((s.ctl.gathering && decide (s.deadline ≤ (State.advance dt s).time.ext)) &&
    s.ctl.lost.contains sp && s.heard sp && decide (16 ≤ countOf s.ctl.back sp + 1)) := rfl

theorem cellLost_eq (dt : Nat) (sp : Fin 192) (s : State) : exec (.cellLost dt sp) s = onBasin s fun s => if (State.advance dt s).lossDue sp then
    { ({ State.advance dt s with ctl := { s.ctl with runs := putCount s.ctl.runs sp (countOf s.ctl.runs sp + 1) } }).markLost sp with
      ctl := { (({ State.advance dt s with ctl := { s.ctl with runs := putCount s.ctl.runs sp (countOf s.ctl.runs sp + 1) } }).markLost sp).ctl with runs := s.ctl.runs } }
    else State.advance dt s := rfl

theorem cellReturned_eq (dt : Nat) (sp : Fin 192) (s : State) : exec (.cellReturned dt sp) s =
    onBasin s fun s => if (State.advance dt s).returnDue sp then (State.advance dt s).markBack sp else State.advance dt s := rfl

theorem markLost_new {s : State} {sp : Nat} (h : sp ∉ s.ctl.lost) : ∃ c l, s.markLost sp =
    (({ s with ctl := { s.ctl with lost := s.ctl.lost ++ [sp] } }).inc F.CTL_LOST_CNT.COUNT).raise c l := by
  unfold State.markLost
  rw [if_neg (by simpa using h)]
  exact ⟨_, _, rfl⟩

theorem cellLost_counts {s : State} {dt : Nat} {sp : Fin 192} (hlive : s.live = true) (hb : s.role = .basin) (hdue : (State.advance dt s).lossDue sp = true) :
    GoesTo (exec (.cellLost dt sp) s) fun t => t.ctl = { s.ctl with lost := s.ctl.lost ++ [sp.val] } ∧
      t.get F.CTL_LOST_CNT.COUNT = min (s.get F.CTL_LOST_CNT.COUNT + 1) 0xFFFFFFFF ∧ s.RegsBut (F.CTL_LOST_CNT.COUNT.off :: recCounters) t := by
  have hl : sp.val ∉ s.ctl.lost := by
    intro hl
    rw [lossDue_advance] at hdue
    simp [hl] at hdue
  rw [cellLost_eq]
  refine goesTo_basin hlive hb ?_
  rw [if_pos hdue, confine_hull (by simp)]
  generalize hu : ({ State.advance dt s with ctl := { s.ctl with runs := putCount s.ctl.runs sp (countOf s.ctl.runs sp + 1) } } : State) = u
  have hulost : u.ctl.lost = s.ctl.lost := by rw [← hu]
  have hurd : ∀ o, u.rd o = s.rd o := by
    intro o
    rw [← hu]
    rfl
  obtain ⟨c, l, e⟩ := markLost_new (s := u) (sp := sp) (by rwa [hulost])
  rw [e]
  generalize hv : ({ u with ctl := { u.ctl with lost := u.ctl.lost ++ [sp.val] } } : State) = v
  have hvctl : v.ctl = { u.ctl with lost := u.ctl.lost ++ [sp.val] } := by rw [← hv]
  have hvrd : ∀ o, v.rd o = s.rd o := by
    intro o
    rw [← hurd, ← hv]
    rfl
  have hvget : v.get F.CTL_LOST_CNT.COUNT = s.get F.CTL_LOST_CNT.COUNT := by rw [State.get, hvrd, State.get]
  refine ⟨?_, (State.raise_get _ c l _ rfl).trans (by rw [inc_get _ rfl rfl, hvget]), fun o ho => ?_⟩
  · rw [State.raise_ctl]
    change { v.ctl with runs := s.ctl.runs } = _
    rw [hvctl, ← hu]
  · have hraise := regsBut_raise (v.inc F.CTL_LOST_CNT.COUNT) c l (F.CTL_LOST_CNT.COUNT.off :: recCounters) (fun o ho => List.mem_cons_of_mem _ ho)
    exact (hraise o ho).trans ((regsBut_set v F.CTL_LOST_CNT.COUNT _ _ List.mem_cons_self o ho).trans (hvrd o))

/-! A LOST Spring comes back (R48, R513). -/

/-- It is no longer LOST, and CELL_RETURNED says so. -/
def State.backState (s : State) (sp : Nat) : State :=
  { s with ctl := { s.ctl with lost := s.ctl.lost.filter (· != sp), back := putCount s.ctl.back sp 0 } }.raise Ev.CELL_RETURNED [sp, s.tickNow]

theorem markBack_eq (s : State) (sp : Nat) : s.markBack sp =
    if (s.backState sp).tbl.lostPush.contains sp && (s.backState sp).dispatches && !(s.backState sp).tbl.img.isEmpty then
      { s.backState sp with tbl := { (s.backState sp).tbl with lostPush := (s.backState sp).tbl.lostPush.filter (· != sp) } }.startPush (s.backState sp).tbl.img sp 0
    else s.backState sp := rfl

theorem backState_facts (s : State) (sp : Nat) : (s.backState sp).ctl = { s.ctl with lost := s.ctl.lost.filter (· != sp), back := putCount s.ctl.back sp 0 } ∧
    (s.backState sp).tbl = s.tbl ∧ (s.backState sp).role = s.role ∧ (s.backState sp).side = s.side ∧ s.RegsBut recCounters (s.backState sp) := by
  unfold State.backState
  refine ⟨by rw [State.raise_ctl], by rw [State.raise_tbl], by rw [State.raise_role], by rw [State.raise_side], ?_⟩
  exact fun o ho => regsBut_raise _ _ _ recCounters (fun o ho => ho) o ho

theorem backState_get (s : State) (sp : Nat) {f : Fld} (hf : f.quiet = true) : (s.backState sp).get f = s.get f := State.raise_get _ _ _ _ hf

theorem cellReturned_stays {s : State} {dt : Nat} {sp : Fin 192} (hlive : s.live = true) (hb : s.role = .basin) (hdue : (State.advance dt s).returnDue sp = true)
    (h : sp.val ∉ s.tbl.lostPush ∨ s.dispatches = false ∨ s.tbl.img = []) :
    GoesTo (exec (.cellReturned dt sp) s) fun t => t.ctl = { s.ctl with lost := s.ctl.lost.filter (· != sp.val), back := putCount s.ctl.back sp 0 } ∧
      t.tbl = s.tbl ∧ s.RegsBut recCounters t := by
  rw [cellReturned_eq]
  refine goesTo_basin hlive hb ?_
  rw [if_pos hdue, confine_hull (by simp), markBack_eq]
  obtain ⟨hctl, htbl, -, -, hregs⟩ := backState_facts (State.advance dt s) sp
  have hdisp : ((State.advance dt s).backState sp).dispatches = s.dispatches := by
    simp only [State.dispatches, backState_get _ _ (f := F.RED_CLAIM.ROLE) (by decide)]
    rfl
  rw [if_neg (by rw [hdisp, htbl]; rcases h with h | h | h <;> simp [h])]
  exact ⟨hctl, htbl, hregs⟩

theorem cellReturned_pushes {s : State} {dt : Nat} {sp : Fin 192} (hlive : s.live = true) (hb : s.role = .basin) (hdue : (State.advance dt s).returnDue sp = true)
    (hp : sp.val ∈ s.tbl.lostPush) (hd : s.dispatches = true) (hi : s.tbl.img ≠ []) (hlen : (s.springImage s.tbl.img sp).length ≤ 65536) :
    GoesTo (exec (.cellReturned dt sp) s) fun t => t.ctl.lost = s.ctl.lost.filter (· != sp.val) ∧ (sp.val, imgGen s.tbl.img, 0) ∈ t.tbl.pushes ∧
      t.tbl.lostPush = s.tbl.lostPush.filter (· != sp.val) := by
  rw [cellReturned_eq]
  refine goesTo_basin hlive hb ?_
  rw [if_pos hdue, confine_hull (by simp), markBack_eq]
  obtain ⟨hctl, htbl, hrole, hside, -⟩ := backState_facts (State.advance dt s) sp
  have hclaim : ((State.advance dt s).backState sp).get F.RED_CLAIM.ROLE = s.get F.RED_CLAIM.ROLE := backState_get _ _ (by decide)
  have hdisp : ((State.advance dt s).backState sp).dispatches = s.dispatches := by simp only [State.dispatches, hclaim]
  rw [if_pos (by rw [hdisp, htbl]; simp [hp, hd, hi])]
  generalize (State.advance dt s).backState sp = v at hctl htbl hrole hside hclaim
  have hbasin : State.basinId { v with tbl := { v.tbl with lostPush := v.tbl.lostPush.filter (· != sp.val) } } = s.basinId := by
    change (if v.side == .a && v.get F.RED_CLAIM.ROLE != roleLone && !(!v.tbl.img.isEmpty && v.tbl.img.getD 18 0 % 2 == 0) then 0xC0 else 0xC1) = _
    rw [hside, hclaim, htbl]
    rfl
  have himg : v.tbl.img = s.tbl.img := by rw [htbl]; rfl
  obtain ⟨hpush, hlost⟩ := startPush_pushes (s := { v with tbl := { v.tbl with lostPush := v.tbl.lostPush.filter (· != sp.val) } }) (img := s.tbl.img) (sp := sp) 0
    (by rw [springImage_congr hbasin]; exact hlen)
  rw [himg]
  refine ⟨?_, ?_, ?_⟩
  · rw [(hosted_startPush _ _ _ _).ctl]
    exact congrArg CtlSt.lost hctl
  · rw [hpush]
    simp
  · rw [hlost]
    exact congrArg (fun b => b.lostPush.filter (· != sp.val)) htbl

/-! ### The boundary and the deadline (R23, R42, R43) -/

theorem gatherStart_opens {s : State} {dt : Nat} {n : TickNext} (hlive : s.live = true) (hb : s.role = .basin) (hn : (State.advance dt s).comingTick = some n)
    (hd : n.bound ≤ (State.advance dt s).time.ext) :
    GoesTo (exec (.gatherStart dt) s) fun t => ∃ u v : State, v = ((u.boundaryOps n.tick).thrGather).sampleCfg.sampleQueue (tickSucc n.tick) ∧ t = s.confine v ∧
      u.get F.CTL_TICK_NUM.TICK = n.tick % 2 ^ 32 ∧ u.ctl.bound = n.bound ∧ u.ctl.per = n.per ∧ u.ctl.gathering = true ∧ u.ctl.got = [] ∧ u.ctl.late = [] ∧ u.ctl.gotEnergise = false ∧
      u.ctl.gotDeenergise = false ∧ (s.dispatches = true → u.get F.CTL_STATUS.TICK_RUN = 1) := by
  change GoesTo (execGatherStart dt s) _
  unfold execGatherStart
  refine goesTo_basin hlive hb ?_
  dsimp only
  rw [hn]
  dsimp only
  rw [if_pos hd, gatherStart_eq]
  exact ⟨(State.advance dt s).tickOpened n, _, rfl, rfl, tickOpened_facts _ n⟩

theorem gatherStart_waits {s : State} {dt : Nat} {n : TickNext} (hlive : s.live = true) (hb : s.role = .basin) (hn : (State.advance dt s).comingTick = some n)
    (hd : (State.advance dt s).time.ext < n.bound) : GoesTo (exec (.gatherStart dt) s) fun t => t = State.advance dt s := by
  change GoesTo (execGatherStart dt s) _
  unfold execGatherStart
  refine goesTo_basin hlive hb ?_
  dsimp only
  rw [hn]
  dsimp only
  rw [if_neg (by omega)]
  exact confine_hull (by simp)

/-- The state in which the pipeline of the tick begins. -/
def State.gathered (s : State) (dt : Nat) (grid : GridIn) : State := { State.advance dt s with ctl := { s.ctl with grid := grid, gathering := false } }

theorem gatherDeadline_eq (dt : Nat) (grid : GridIn) (s : State) : exec (.gatherDeadline dt grid) s = onBasin s fun s =>
    if !(s.ctl.gathering && decide (s.deadline ≤ (State.advance dt s).time.ext)) || s.flag F.CLK_PLLS_STAT.ON_SAFE then State.advance dt s
    else if s.dispatches then (s.gathered dt grid).activePipe grid.links
    else if s.get F.RED_CLAIM.ROLE == roleStandby && s.pipeFit then (s.gathered dt grid).shadowPipe else s.gathered dt grid := rfl

theorem gathered_hull (s : State) (dt : Nat) (grid : GridIn) : (s.gathered dt grid).hull = s.hull := rfl

theorem gathered_tickNow (s : State) (dt : Nat) (grid : GridIn) : (s.gathered dt grid).tickNow = s.tickNow := rfl

/-- Settles O42: each reception, boundary and deadline is one equation of its command, and what the clauses leave unsaid of the pipeline does not reach what they name. -/
theorem basinTicks : Obligations.BasinTicks := by
  unfold Obligations.BasinTicks
  refine ⟨fun s dt n hlive hb hsafe h => ?_, fun s dt port bs x h hb hlen hx ht => ?_, fun s dt port bs hlive hb hup hbad => ?_, fun s dt grid hlive hb => ⟨fun hsafe hg hd => ?_, fun h => ?_⟩,
    fun s dt sp hlive hb => ⟨fun hg hd => ⟨fun he hh hr hl => ?_, fun hl hh hr => ⟨fun h => ?_, fun hp hdisp hi hlen => ?_⟩⟩, fun h => ?_, fun h => ?_⟩⟩
  · have hn : (State.advance dt s).comingTick = some n := comingTick_eq hsafe h
    exact ⟨gatherStart_opens hlive hb hn, gatherStart_waits hlive hb hn⟩
  · subst hx
    refine ⟨fun e he hep => ⟨fun htick hh hl => ⟨fun hg hd => ?_, fun hd => ?_⟩, fun htick hh => ?_, fun htick hn => ?_⟩, fun e o he hep ho hd => ?_, fun he hd hr => ?_,
      fun hx hp hr hw hl => ?_⟩
    · exact telemRx_inTime h hb hlen ht he hep htick hh hl hg hd
    · exact telemRx_late h hb hlen ht he hep htick hh hl hd
    · exact telemRx_copy h hb hlen ht he hep htick hh
    · exact telemRx_otherTick h hb hlen ht he hep htick hn
    · exact telemRx_otherEpoch h hb hlen ht he hep ho hd
    · exact telemRx_unknown h hb hlen ht he hd hr
    · exact telemRx_meets h hb hlen ht fun w hm => telemFor_sent _ _ _ (hm.relay hx hp hr hw hl)
  · have hup' : (State.advance dt s).portUp port = true := hup
    obtain ⟨hu, hregs⟩ := counted_hearFrame (hear bs) hup'
    exact telemRx_drops hlive hb hbad ⟨(congrArg State.ctl hu).trans rfl, hearFrame_crc _ hup', hregs⟩
  · have hrun : ¬ (!(s.ctl.gathering && decide (s.deadline ≤ (State.advance dt s).time.ext)) || s.flag F.CLK_PLLS_STAT.ON_SAFE) = true := by
      simp [hg, hd, State.flag, hsafe]
    simp only [gatherDeadline_eq]
    refine ⟨fun hdisp => goesTo_basin hlive hb ?_, fun hrole hfit => goesTo_basin hlive hb ?_, fun hdisp h => goesTo_basin hlive hb ?_⟩
    · rw [if_neg hrun, if_pos hdisp]
      exact ⟨_, rfl, rfl⟩
    · have hdisp : ¬ s.dispatches = true := by simp [State.dispatches, hrole, roleActive, roleLone]
      rw [if_neg hrun, if_neg hdisp, if_pos (by simp [hrole, hfit, roleStandby])]
      exact ⟨s.gathered dt grid, (s.gathered dt grid).shadowPipe, rfl, rfl, rfl, (shadowPipe_slotsFor (s.gathered dt grid) hb).trans (congrArg tickSucc (gathered_tickNow s dt grid))⟩
    · rw [if_neg hrun, if_neg (by simp [hdisp]), if_neg (by rcases h with h | h <;> simp [h, roleStandby])]
      exact confine_hull (gathered_hull s dt grid)
  · rw [gatherDeadline_eq]
    refine goesTo_basin hlive hb ?_
    rw [if_pos]
    · exact confine_hull (by simp)
    · rcases h with h | h | h <;> simp [State.flag, h]
  · exact cellLost_counts hlive hb (by rw [lossDue_advance]; simp [hg, hd, he, hh, hr, hl])
  · exact cellReturned_stays hlive hb (by rw [returnDue_advance]; simp [hg, hd, hh, hr, hl]) h
  · exact cellReturned_pushes hlive hb (by rw [returnDue_advance]; simp [hg, hd, hh, hr, hl]) hp hdisp hi hlen
  · rw [cellLost_eq]
    refine goesTo_basin hlive hb ?_
    rw [if_neg]
    · exact confine_hull (by simp)
    · rw [lossDue_advance]
      rcases h with h | h | h | h | h
      · simp [h]
      · rw [decide_eq_false (Nat.not_le.mpr h)]
        simp
      · simp [h]
      · simp [h]
      · rw [decide_eq_false (Nat.not_lt.mpr h)]
        simp
  · rw [cellReturned_eq]
    refine goesTo_basin hlive hb ?_
    rw [if_neg]
    · exact confine_hull (by simp)
    · rw [returnDue_advance]
      rcases h with h | h | h | h | h
      · simp [h]
      · rw [decide_eq_false (Nat.not_le.mpr h)]
        simp
      · simp [h]
      · simp [h]
      · rw [decide_eq_false (Nat.not_le.mpr h)]
        simp

end Sys2Proof.Machine
end

section
/-! PROOFS. What the drive of a Spring's bridges leaves of its tick, and what puts channels low alone (R44, R64, R67 to R73, R119, R134, R154). -/
namespace Sys2Proof.Machine

/-! ### What a tick is to a Spring -/

/-- The tick in progress and the one to come, the slot in force and its command, the ticks missed. -/
def SprSt.ofTick (x : SprSt) : SprSt :=
  { tick := x.tick, bound := x.bound, hdr := x.hdr, next := x.next, slot := x.slot, missed := x.missed, held := x.held, late := x.late, cmd := x.cmd }

/-- The tick as it is shown: its numbers and slots, the BLOCK in force, the number shown, and how far start-up has come. -/
abbrev TickView := SprSt × Nat × Nat × PwrSt

/-- What a Spring's state shows of its tick. -/
def State.ofTick (s : State) : TickView := (s.spr.ofTick, s.get F.GATE_STATUS.BLOCK, s.get F.CTL_SPR_TICK.TICK, s.pwr)

theorem ofTick_of {s t : State} (h : t.spr.ofTick = s.spr.ofTick) (hp : t.pwr = s.pwr) (hb : t.get F.GATE_STATUS.BLOCK = s.get F.GATE_STATUS.BLOCK) (ht : t.get F.CTL_SPR_TICK.TICK = s.get F.CTL_SPR_TICK.TICK) :
    t.ofTick = s.ofTick := by
  simp only [State.ofTick, h, hp, hb, ht]

/-- Fields that do not speak of the tick. -/
theorem SprSt.ofTick_mk {x : SprSt} {keys : List (Nat × Side × Nat)} {carrier : Bool} {hbPer phase : Nat} {dab : DabSt} {mode : Nat} {m p : Int} {clip : Bool} {src : Nat} {lvl0 : Bool}
    {res : Nat} {telem : Option Telem} {hs : Bool} {latched : Nat} {arrived : Option Nat} {perNext : Nat} {pre : Bool} {preAt : Nat} {failed : Bool} {prePer at' : Nat}
    {before : Option (Nat × List (Nat × Word))} :
    SprSt.ofTick
      { x with
        keys := keys, carrier := carrier, hbPer := hbPer, phase := phase, dab := dab, mode := mode, m := m, pDabRef := p, clip := clip, clipSrc := src, lvl0 := lvl0, cmdRes := res
        telem := telem, hsWarn := hs, latched := latched, arrived := arrived, perNext := perNext, pre := pre, preAt := preAt, preFailed := failed, prePer := prePer, carrierAt := at'
        before := before } = x.ofTick := (rfl)

theorem ofTick_gate (s : State) (g : GateSt) : State.ofTick { s with gate := g } = s.ofTick := ofTick_of (rfl) (rfl) (rfl) (rfl)

theorem ofTick_spr {s : State} {x : SprSt} (h : x.ofTick = s.spr.ofTick) : State.ofTick { s with spr := x } = s.ofTick := ofTick_of h (rfl) (rfl) (rfl)

@[simp] theorem ofTick_set (s : State) (f : Fld) (v : Nat) (hb : f.apart F.GATE_STATUS.BLOCK = true) (ht : f.apart F.CTL_SPR_TICK.TICK = true) : (s.set f v).ofTick = s.ofTick :=
  ofTick_of rfl rfl (State.get_set_apart _ _ _ _ rfl hb) (State.get_set_apart _ _ _ _ rfl ht)

@[simp] theorem ofTick_raise (s : State) (c : Nat) (p : List Nat) : (s.raise c p).ofTick = s.ofTick :=
  ofTick_of (by rw [State.raise_spr]) (by rw [State.raise_pwr]) (State.raise_get _ _ _ _ rfl) (State.raise_get _ _ _ _ rfl)

theorem ofTick_foldl {α : Type} {g : State → α → State} (h : ∀ s x, (g s x).ofTick = s.ofTick) (l : List α) (s : State) : (l.foldl g s).ofTick = s.ofTick := by
  induction l generalizing s with
  | nil => rfl
  | cons x t ih => exact (ih (g s x)).trans (h s x)

/-! ### The gate path (R64, R68 to R71, R119, R134, R137, R154) -/

@[simp] theorem ofTick_modHb (s : State) (n : Nat) (f : HbSt → HbSt) : (s.modHb n f).ofTick = s.ofTick := ofTick_gate s _

@[simp] theorem ofTick_hbsLow (s : State) (ns : List Nat) (t : Nat) : (s.hbsLow ns t).ofTick = s.ofTick := ofTick_foldl (fun s n => ofTick_modHb s n _) ns s

@[simp] theorem ofTick_uncommand (s : State) (ns : List Nat) : (s.uncommand ns).ofTick = s.ofTick := ofTick_foldl (fun s n => ofTick_modHb s n _) ns s

@[simp] theorem ofTick_inc (s : State) (f : Fld) (hb : f.apart F.GATE_STATUS.BLOCK = true) (ht : f.apart F.CTL_SPR_TICK.TICK = true) : (s.inc f).ofTick = s.ofTick := ofTick_set s f _ hb ht

@[simp] theorem ofTick_endTest (s : State) (t : Nat) : (s.endTest t).ofTick = s.ofTick := by
  unfold State.endTest
  split
  · exact (ofTick_set _ _ _ (by decide) (by decide)).trans ((ofTick_uncommand _ _).trans ((ofTick_modHb _ _ _).trans (ofTick_gate s _)))
  · rfl

@[simp] theorem ofTick_bypRelease (s : State) : s.bypRelease.ofTick = s.ofTick := by
  have h : ∀ g : GateSt, State.ofTick (State.inc { s with gate := g } F.CELL_OPS.BYP_OPS) = s.ofTick := fun g => (ofTick_inc _ _ (by decide) (by decide)).trans (ofTick_gate s g)
  unfold State.bypRelease
  split
  · dsimp only
    split
    · exact (ofTick_raise _ _ _).trans (h _)
    · exact (ofTick_gate _ _).trans (h _)
  · rfl

@[simp] theorem ofTick_legTo (s : State) (n : Nat) (hi : Bool) (t w : Nat) (e : Bool) : (s.legTo n hi t w e).ofTick = s.ofTick := by
  have hoff : (s.offEdge n (!hi) t).ofTick = s.ofTick := ofTick_modHb _ _ _
  have hon : ∀ u : State, (u.onEdge n hi t w).ofTick = u.ofTick := by
    intro u
    unfold State.onEdge
    dsimp only
    split
    · exact (ofTick_modHb _ _ _).trans (ofTick_modHb _ _ _)
    · exact ofTick_modHb _ _ _
  unfold State.legTo
  dsimp only
  split
  · exact hoff
  · exact (hon _).trans hoff

@[simp] theorem ofTick_legWave (s : State) (n t : Nat) (w : Wave) : (s.legWave n t w).ofTick = s.ofTick := by
  unfold State.legWave
  split
  · rfl
  · exact ofTick_legTo _ _ _ _ _ _

@[simp] theorem ofTick_driveBridge (s : State) (sub : Nat) (b : Bool) : (s.driveBridge sub b).ofTick = s.ofTick := by
  unfold State.driveBridge
  dsimp only
  split
  · simp
  · split
    · refine ofTick_foldl (fun s n => ?_) _ s
      split
      · exact ofTick_legWave _ _ _ _
      · rfl
    · simp

@[simp] theorem ofTick_driveDab (s : State) (sub : Nat) : (s.driveDab sub).ofTick = s.ofTick := by
  refine ofTick_foldl (fun s n => ?_) _ s
  split
  · exact ofTick_legWave _ _ _ _
  · rfl

theorem ofTick_dabCompute (s : State) : s.dabCompute.ofTick = s.ofTick := ofTick_spr SprSt.ofTick_mk

@[simp] theorem ofTick_dabFollow (s : State) : s.dabFollow.ofTick = s.ofTick := by
  unfold State.dabFollow
  split
  · rw [ofTick_driveDab]
    split
    · rfl
    · exact (ofTick_dabCompute _).trans (ofTick_spr SprSt.ofTick_mk)
  · dsimp only
    have h : ∀ d : DabSt, State.ofTick { s with spr := { s.spr with dab := d } } = s.ofTick := fun d => ofTick_spr SprSt.ofTick_mk
    split
    · exact h _
    · exact (ofTick_uncommand _ _).trans ((ofTick_hbsLow _ _ _).trans (h _))

@[simp] theorem ofTick_interlock (s : State) (b : Bool) : (s.interlock b).ofTick = s.ofTick := by
  have h : ∀ u : State, u.ofTick = s.ofTick → ∀ g m, State.ofTick (State.driveBridge { u with gate := g, spr := { u.spr with mode := m } } 0 b) = s.ofTick := fun u hu g m =>
    (ofTick_driveBridge _ _ _).trans ((ofTick_spr (s := { u with gate := g }) SprSt.ofTick_mk).trans ((ofTick_gate u g).trans hu))
  unfold State.interlock
  dsimp only
  split
  · exact h _ (ofTick_raise _ _ _) _ _
  · exact h s rfl _ _

@[simp] theorem ofTick_applyClip (s : State) : s.applyClip.ofTick = s.ofTick := by
  unfold State.applyClip
  split
  · rfl
  · dsimp only
    split
    · exact ofTick_spr SprSt.ofTick_mk
    · exact ofTick_spr SprSt.ofTick_mk

@[simp] theorem ofTick_carrierRestart (s : State) (x : Slot) : (s.carrierRestart x).ofTick = s.ofTick := by
  unfold State.carrierRestart
  dsimp only
  split
  · exact ofTick_spr SprSt.ofTick_mk
  · rfl

@[simp] theorem ofTick_slotInForce (s : State) : s.slotInForce.ofTick = s.ofTick := by
  unfold State.slotInForce
  dsimp only
  rw [ofTick_dabFollow, ofTick_interlock, ofTick_applyClip]
  split <;> split <;> simp

/-! ### Commands that lower channels alone -/

/-- No channel of a half-bridge goes high, and its soft turn-off stands. -/
def HbSt.Lowers (h k : HbSt) : Prop := ∀ hi, (k.ch hi).ssd = (h.ch hi).ssd ∧ ((k.ch hi).on = true → (h.ch hi).on = true)

/-- No channel goes high, no soft turn-off moves, and the active bypass and the pack's command stand. -/
structure State.Lowers (s t : State) : Prop where
  act : t.gate.actByp = s.gate.actByp
  pack : t.gate.packCmd = s.gate.packCmd
  hbs : ∀ n, (s.hb n).Lowers (t.hb n)

theorem HbSt.Lowers.same (h : HbSt) : h.Lowers h := fun _ => ⟨rfl, id⟩

theorem HbSt.Lowers.trans {h k l : HbSt} (a : h.Lowers k) (b : k.Lowers l) : h.Lowers l := fun hi => ⟨(b hi).1.trans (a hi).1, fun e => (a hi).2 ((b hi).2 e)⟩

theorem HbSt.ch_setCh (h : HbSt) (hi hj : Bool) (c : ChSt) : (h.setCh hi c).ch hj = if hi = hj then c else h.ch hj := by
  cases hi <;> cases hj <;> rfl

theorem HbSt.halt_ch (h : HbSt) (hi : Bool) : h.halt.ch hi = h.ch hi := by
  unfold HbSt.halt
  split <;> rfl

theorem HbSt.lowers_of_ch {h k : HbSt} (e : ∀ hi, k.ch hi = h.ch hi) : h.Lowers k := fun hi => by rw [e hi]; exact ⟨rfl, id⟩

theorem HbSt.chLow_lowers (h : HbSt) (hi : Bool) (t : Nat) : h.Lowers (h.chLow hi t) := by
  intro hj
  unfold HbSt.chLow
  dsimp only
  split
  · exact ⟨rfl, id⟩
  · split
    · rw [HbSt.ch_setCh]
      split
      · rename_i e
        rw [← e]
        exact ⟨rfl, fun h => absurd h Bool.false_ne_true⟩
      · exact ⟨rfl, id⟩
    · exact ⟨rfl, id⟩

/-- A channel put low is low, but for soft turn-off. -/
theorem HbSt.chLow_low (h : HbSt) (hi : Bool) (t : Nat) (hs : (h.ch hi).ssd = false) : ((h.chLow hi t).ch hi).on = false := by
  unfold HbSt.chLow
  dsimp only
  rw [if_neg (by simp [hs])]
  split
  · rw [HbSt.ch_setCh, if_pos rfl]
  · rename_i hon
    simpa using hon

theorem HbSt.bothLow_lowers (h : HbSt) (t : Nat) : h.Lowers (h.bothLow t) :=
  ((h.chLow_lowers true t).trans ((h.chLow true t).chLow_lowers false t)).trans (HbSt.lowers_of_ch (HbSt.halt_ch _))

theorem HbSt.bothLow_low (h : HbSt) (t : Nat) (hi : Bool) (hs : (h.ch hi).ssd = false) : ((h.bothLow t).ch hi).on = false := by
  have hs' : ((h.chLow true t).ch hi).ssd = false := ((h.chLow_lowers true t) hi).1.trans hs
  rw [HbSt.bothLow, HbSt.halt_ch]
  cases hi with
  | false => exact HbSt.chLow_low _ false t hs'
  | true =>
    have hlow : ¬ ((h.chLow true t).ch true).on = true := by simp [HbSt.chLow_low h true t hs]
    exact Bool.eq_false_iff.mpr fun e => hlow ((((h.chLow true t).chLow_lowers false t) true).2 e)

namespace State.Lowers

theorem same (s : State) : s.Lowers s := ⟨rfl, rfl, fun _ => HbSt.Lowers.same _⟩

theorem trans {s t u : State} (h : s.Lowers t) (k : t.Lowers u) : s.Lowers u := ⟨k.act.trans h.act, k.pack.trans h.pack, fun n => (h.hbs n).trans (k.hbs n)⟩

theorem foldl {α : Type} {g : State → α → State} (h : ∀ s x, State.Lowers s (g s x)) (l : List α) (s : State) : s.Lowers (l.foldl g s) := by
  induction l generalizing s with
  | nil => exact same s
  | cons x t ih => exact (h s x).trans (ih _)

/-- A change that leaves the half-bridges, the active bypass and the pack's command. -/
theorem of_gate {s t : State} (hb : t.gate.hbs = s.gate.hbs) (ha : t.gate.actByp = s.gate.actByp) (hp : t.gate.packCmd = s.gate.packCmd) : s.Lowers t := ⟨ha, hp, fun n => by
  have e : t.hb n = s.hb n := by rw [State.hb, hb, State.hb]
  rw [e]
  exact HbSt.Lowers.same _⟩

end State.Lowers

theorem lowers_spr (s : State) (x : SprSt) : s.Lowers { s with spr := x } := .of_gate rfl rfl rfl

theorem hb_setHb (s : State) (n m : Nat) (h : HbSt) : (s.setHb n h).hb m = if n = m ∧ m < s.gate.hbs.length then h else s.hb m := by
  simp only [State.hb, State.setHb, List.getD_eq_getElem?_getD, List.getElem?_set]
  by_cases e : n = m
  · subst e
    by_cases hl : n < s.gate.hbs.length
    · simp [hl]
    · simp [hl]
  · simp [e]

theorem lowers_modHb (s : State) (n : Nat) {f : HbSt → HbSt} (h : ∀ x : HbSt, x.Lowers (f x)) : s.Lowers (s.modHb n f) := by
  refine ⟨rfl, rfl, fun m => ?_⟩
  rw [State.modHb, hb_setHb]
  split
  · rename_i e
    rw [e.1]
    exact h _
  · exact HbSt.Lowers.same _

theorem lowers_hbsLow (s : State) (ns : List Nat) (t : Nat) : s.Lowers (s.hbsLow ns t) := .foldl (fun s n => lowers_modHb s n fun x => x.bothLow_lowers t) ns s

theorem lowers_uncommand (s : State) (ns : List Nat) : s.Lowers (s.uncommand ns) :=
  .foldl (fun s n => lowers_modHb s n fun x hi => by cases hi <;> exact ⟨rfl, id⟩) ns s

theorem hbLow_low (s : State) (n : Nat) (t : Nat) (hi : Bool) (hs : ((s.hb n).ch hi).ssd = false) : (((s.hbLow n t).hb n).ch hi).on = false := by
  rw [State.hbLow, State.modHb, hb_setHb]
  split
  · exact HbSt.bothLow_low _ t hi hs
  · rename_i e
    have hl : s.gate.hbs.length ≤ n := Nat.le_of_not_lt fun h => e ⟨rfl, h⟩
    rw [State.hb, List.getD_eq_getElem?_getD, List.getElem?_eq_none hl]
    cases hi <;> rfl

/-- Every channel of the half-bridges put low is low, but for soft turn-off. -/
theorem hbsLow_low {s : State} {ns : List Nat} {n : Nat} (hn : n ∈ ns) (t : Nat) (hi : Bool) (hs : ((s.hb n).ch hi).ssd = false) : (((s.hbsLow ns t).hb n).ch hi).on = false := by
  induction ns generalizing s with
  | nil => cases hn
  | cons m l ih =>
    have hlow := lowers_modHb s m (f := fun h => h.bothLow t) fun x => x.bothLow_lowers t
    rcases List.mem_cons.mp hn with rfl | hn
    · have hoff : ¬ (((s.hbLow n t).hb n).ch hi).on = true := by simp [hbLow_low s n t hi hs]
      exact Bool.eq_false_iff.mpr fun e => hoff (((lowers_hbsLow _ l t).hbs n hi).2 e)
    · exact ih hn ((hlow.hbs n hi).1.trans hs)

end Sys2Proof.Machine
end

section
/-! PROOFS. A Spring's boundary: what is in force after it, and what it lowers (R24, R35, R39, R44, R72, R73, R134). -/
namespace Sys2Proof.Machine

/-! ### The boundary's bookkeeping (R24, R119) -/

theorem ofTick_setBit (s : State) (f : Fld) (n : Nat) (b : Bool) (hb : f.apart F.GATE_STATUS.BLOCK = true) (ht : f.apart F.CTL_SPR_TICK.TICK = true) : (s.setBit f n b).ofTick = s.ofTick :=
  ofTick_set s f _ hb ht

theorem ofTick_leaveConflict (s : State) : s.leaveConflict.ofTick = s.ofTick := by
  refine ofTick_foldl (fun s n => ?_) _ s
  split
  · exact ofTick_setBit s _ n false (by decide) (by decide)
  · exact ofTick_modHb s n _

theorem lowers_set (s : State) (f : Fld) (v : Nat) : s.Lowers (s.set f v) := .of_gate rfl rfl rfl

theorem lowers_raise (s : State) (c : Nat) (p : List Nat) : s.Lowers (s.raise c p) := .of_gate (by rw [State.raise_gate]) (by rw [State.raise_gate]) (by rw [State.raise_gate])

theorem lowers_leaveConflict (s : State) : s.Lowers s.leaveConflict := by
  refine .foldl (fun s n => ?_) _ s
  split
  · exact lowers_set s _ _
  · exact lowers_modHb s n fun x hi => by cases hi <;> exact ⟨rfl, id⟩

/-- The coming tick is the one in progress. -/
def State.ticked (s : State) : State := { s with spr := { s.spr with tick := s.coming, bound := s.nextBound } }

/-- What a boundary does once the tick is the coming one and a staged image has been applied. -/
def State.settled (s : State) : State :=
  let s := s.readPattern
  let off := (List.range 6).filter (fun n => !s.hbEn n)
  let s := (s.hbsLow off (s.now 0)).uncommand off
  ({ s with spr := { s.spr with perNext := s.pat F.CTL_DAB_PER.PER } }).leaveConflict.actCheck (s.now 0)

/-- A boundary for which no image is staged. -/
theorem boundary_eq {s : State} (h : ∀ a, s.tbl.commitAt = some a → 2 ^ 31 ≤ tickDist a s.coming) : s.boundary = s.ticked.settled := by
  have e : s.boundary = State.settled (match s.tbl.commitAt with
    | some a => if tickDist a s.coming < 2 ^ 31 then s.ticked.applyStaged else s.ticked
    | none => s.ticked) := rfl
  rw [e]
  cases hc : s.tbl.commitAt with
  | none => rfl
  | some a => dsimp only; rw [if_neg (Nat.not_lt.mpr (h a hc))]

theorem actCheck_idle {s : State} (h : s.gate.actByp = false) (t : Nat) : s.actCheck t = s := by simp [State.actCheck, h]

theorem settled_facts {s : State} (h : s.gate.actByp = false) : s.settled.ofTick = s.ofTick ∧ s.Lowers s.settled := by
  have h0 : s.Lowers s.readPattern := .of_gate rfl rfl rfl
  have t0 : s.readPattern.ofTick = s.ofTick := ofTick_gate s _
  unfold State.settled
  dsimp only
  generalize s.readPattern = u at h0 t0
  generalize (List.range 6).filter (fun n => !u.hbEn n) = off
  have h1 : s.Lowers ((u.hbsLow off (u.now 0)).uncommand off) := h0.trans ((lowers_hbsLow u off _).trans (lowers_uncommand _ off))
  have t1 : ((u.hbsLow off (u.now 0)).uncommand off).ofTick = s.ofTick := by rw [ofTick_uncommand, ofTick_hbsLow, t0]
  generalize (u.hbsLow off (u.now 0)).uncommand off = v at h1 t1
  have h2 : s.Lowers (State.leaveConflict { v with spr := { v.spr with perNext := v.pat F.CTL_DAB_PER.PER } }) := h1.trans ((lowers_spr v _).trans (lowers_leaveConflict _))
  rw [actCheck_idle (h2.act.trans h)]
  exact ⟨(ofTick_leaveConflict _).trans ((ofTick_spr SprSt.ofTick_mk).trans t1), h2⟩

/-! ### Slots (R44, R72, R73, R134) -/

theorem ofTick_leaveHolds (s : State) (h : TickHdr) : (s.leaveHolds h).ofTick = s.ofTick := by
  have harm : ∀ u : State, ∀ v, (u.set F.WEIR_SSTAT.ARM_HOLD v).ofTick = u.ofTick := fun u v => ofTick_set u _ v (by decide) (by decide)
  have hstn : ∀ u : State, ∀ v, (u.set F.WEIR_SSTAT.STN_HOLD v).ofTick = u.ofTick := fun u v => ofTick_set u _ v (by decide) (by decide)
  unfold State.leaveHolds
  dsimp only
  rw [ofTick_uncommand]
  split <;> split <;> simp only [harm, hstn]

theorem lowers_leaveHolds (s : State) (h : TickHdr) : s.Lowers (s.leaveHolds h) := by
  unfold State.leaveHolds
  dsimp only
  refine State.Lowers.trans ?_ (lowers_uncommand _ _)
  split <;> split
  · exact (lowers_set _ _ _).trans (lowers_set _ _ _)
  · exact lowers_set _ _ _
  · exact lowers_set _ _ _
  · exact .same s

/-- A tick without a slot of its own leaves no command (R44). -/
theorem ofTick_slotHeld (s : State) : s.slotHeld.ofTick = ({ s.ofTick.1 with cmd := none }, s.ofTick.2) := by
  have h : ∀ u : State, u.spr = { s.spr with clip := false, clipSrc := 0, cmd := none, cmdRes := 0 } → u.ofTick.2 = s.ofTick.2 → u.ofTick = ({ s.ofTick.1 with cmd := none }, s.ofTick.2) := by
    intro u hs h2
    exact Prod.ext (congrArg SprSt.ofTick hs) h2
  unfold State.slotHeld
  dsimp only
  split
  · exact h _ rfl rfl
  · rw [ofTick_dabFollow, ofTick_interlock]
    exact h _ rfl rfl

theorem ofTick_setCmd (s : State) (c : Option DueCmd) (r : Nat) : State.ofTick { s with spr := { s.spr with cmd := c, cmdRes := r } } = ({ s.ofTick.1 with cmd := c }, s.ofTick.2) := (rfl)

/-- A command's record stands in a register of its own. -/
theorem ofTick_setRec (s : State) {i : Nat} (hi : i ≤ 0xFF) (lo w v : Nat) : (s.set ⟨0xC080 + 4 * i, lo, w⟩ v).ofTick = s.ofTick := by
  refine ofTick_set s _ v ?_ ?_
  all_goals
    simp only [Fld.apart, F.GATE_STATUS.BLOCK, F.CTL_SPR_TICK.TICK, Bool.or_eq_true, bne_iff_ne, ne_eq]
    exact .inl (.inl (by omega))

theorem cmdResult_view (s : State) (c : DueCmd) (r : Nat) : (s.cmdResult c r).ofTick = ({ s.ofTick.1 with cmd := none }, s.ofTick.2) ∧ s.Lowers (s.cmdResult c r) := by
  have h0 : State.ofTick { s with spr := { s.spr with cmd := none, cmdRes := r } } = ({ s.ofTick.1 with cmd := none }, s.ofTick.2) := ofTick_setCmd s none r
  have l0 : s.Lowers { s with spr := { s.spr with cmd := none, cmdRes := r } } := lowers_spr s _
  unfold State.cmdResult
  dsimp only
  generalize ({ s with spr := { s.spr with cmd := none, cmdRes := r } } : State) = u at h0 l0
  have hsaid : ∀ v : State, v.ofTick = u.ofTick ∧ u.Lowers v → ∀ p,
      (if (r == resACC) = true then v else v.raise Ev.CMD_REFUSED p).ofTick = ({ s.ofTick.1 with cmd := none }, s.ofTick.2) ∧
        s.Lowers (if (r == resACC) = true then v else v.raise Ev.CMD_REFUSED p) := by
    rintro v ⟨hv, hl⟩ p
    split
    · exact ⟨hv.trans h0, l0.trans hl⟩
    · exact ⟨(ofTick_raise _ _ _).trans (hv.trans h0), (l0.trans hl).trans (lowers_raise _ _ _)⟩
  refine hsaid _ ?_ _
  split
  · rename_i hsrc
    have hi : (if (c.src == 0xFE) = true then 16 else c.src) ≤ 0xFF := by
      split
      · decide
      · simp at hsrc
        omega
    exact ⟨(ofTick_setRec _ hi _ _ _).trans ((ofTick_setRec _ hi _ _ _).trans (ofTick_setRec _ hi _ _ _)), ((lowers_set u _ _).trans (lowers_set _ _ _)).trans (lowers_set _ _ _)⟩
  · exact ⟨rfl, .same u⟩

/-- A slot's command waits for its evaluation or is answered at once; nothing else of the tick moves. -/
theorem slotCommand_view (s : State) (x : Slot) : (∃ c, (s.slotCommand x).ofTick = ({ s.ofTick.1 with cmd := c }, s.ofTick.2)) ∧ s.Lowers (s.slotCommand x) := by
  have h0 : State.ofTick { s with spr := { s.spr with cmd := none, cmdRes := 0 } } = ({ s.ofTick.1 with cmd := none }, s.ofTick.2) := ofTick_setCmd s none 0
  have l0 : s.Lowers { s with spr := { s.spr with cmd := none, cmdRes := 0 } } := lowers_spr s _
  unfold State.slotCommand
  dsimp only
  split
  · exact ⟨⟨none, h0⟩, l0⟩
  · split
    · exact ⟨⟨none, h0⟩, l0⟩
    · split
      · obtain ⟨ht, hl⟩ := cmdResult_view { s with spr := { s.spr with cmd := none, cmdRes := 0 } } ⟨x.cmdSrc, x.cmdOp, x.cmdParam, x.seq⟩ resREJ
        exact ⟨⟨none, ht.trans (by rw [h0])⟩, l0.trans hl⟩
      · exact ⟨⟨_, rfl⟩, lowers_spr s _⟩

/-- A new slot takes effect; in BLOCK only its number and its command do (R72, R134). -/
theorem slotNew_view (s : State) (h : TickHdr) (x : Slot) :
    (∃ c, (s.slotNew h x).ofTick = ({ s.ofTick.1 with slot := some (if s.blocked then parkedSlot x else x), cmd := c }, s.get F.GATE_STATUS.BLOCK, h.tick % 2 ^ 32, s.pwr)) ∧
      (s.blocked = true → s.Lowers (s.slotNew h x)) := by
  have hset : (s.set F.CTL_SPR_TICK.TICK h.tick).ofTick = (s.ofTick.1, s.get F.GATE_STATUS.BLOCK, h.tick % 2 ^ 32, s.pwr) :=
    Prod.ext rfl (Prod.ext (State.get_set_apart _ _ _ _ rfl (by decide)) (Prod.ext (State.get_set_same _ _ _ rfl) rfl))
  have hu := (ofTick_leaveHolds (s.set F.CTL_SPR_TICK.TICK h.tick) h).trans hset
  have hl := (lowers_set s F.CTL_SPR_TICK.TICK h.tick).trans (lowers_leaveHolds _ h)
  unfold State.slotNew
  dsimp only
  generalize (s.set F.CTL_SPR_TICK.TICK h.tick).leaveHolds h = u at hu hl
  have hb : u.blocked = s.blocked := by
    have e : u.get F.GATE_STATUS.BLOCK = s.get F.GATE_STATUS.BLOCK := congrArg (fun v : TickView => v.2.1) hu
    rw [State.blocked, State.flag, e]
    rfl
  have hput : ∀ y, State.ofTick { u with spr := { u.spr with slot := some y } } = ({ s.ofTick.1 with slot := some y }, s.get F.GATE_STATUS.BLOCK, h.tick % 2 ^ 32, s.pwr) := fun y =>
    congrArg (fun v : TickView => ({ v.1 with slot := some y }, v.2)) hu
  rw [hb]
  split
  · obtain ⟨⟨c, hc⟩, hlow⟩ := slotCommand_view { u with spr := { u.spr with slot := some (parkedSlot x) } } x
    exact ⟨⟨c, hc.trans (by rw [hput])⟩, fun _ => (hl.trans (lowers_spr u _)).trans hlow⟩
  · rename_i hnb
    obtain ⟨⟨c, hc⟩, -⟩ := slotCommand_view (State.slotInForce (State.carrierRestart { u with spr := { u.spr with slot := some x } } x)) x
    exact ⟨⟨c, hc.trans (by rw [ofTick_slotInForce, ofTick_carrierRestart, hput])⟩, fun h => absurd h hnb⟩

/-! ### A tick without a slot in time (R44) -/

theorem tickLate_again {s : State} (h : s.spr.late = true) (k : Nat) : s.tickLate k = s := by rw [State.tickLate, if_pos h]

/-- A tick's first lateness counts it as missed, and says so. -/
theorem tickLate_first {s : State} (h : s.spr.late = false) (k : Nat) : ∃ free c l,
    s.tickLate k = ({ s with free := free, spr := { s.spr with late := true, missed := s.spr.missed + 1 } }.inc F.CTL_SPR_STATUS.TICK_LATE_CNT).raise c l := by
  unfold State.tickLate
  rw [if_neg (by simp [h])]
  dsimp only
  split
  · exact ⟨_, _, _, rfl⟩
  · exact ⟨s.free, _, _, rfl⟩

theorem tickLate_view (s : State) (k : Nat) : (s.tickLate k).ofTick = ({ s.ofTick.1 with late := true, missed := if s.spr.late then s.spr.missed else s.spr.missed + 1 }, s.ofTick.2) ∧
    (s.tickLate k).gate = s.gate ∧ (s.tickLate k).tbl = s.tbl := by
  cases h : s.spr.late with
  | true =>
    rw [tickLate_again h]
    refine ⟨Prod.ext ?_ rfl, rfl, rfl⟩
    simp [State.ofTick, SprSt.ofTick, h]
  | false =>
    obtain ⟨free, c, l, e⟩ := tickLate_first h k
    rw [e]
    refine ⟨(ofTick_raise _ _ _).trans ((ofTick_inc _ _ (by decide) (by decide)).trans ?_), by rw [State.raise_gate]; rfl, by rw [State.raise_tbl]; rfl⟩
    rfl

/-- A late tick's number and boundary are the ones it would have had. -/
theorem coming_of_view {s u : State} {m : Nat} {l : Bool} (h : u.spr.ofTick = { s.spr.ofTick with late := l, missed := m }) :
    u.coming = s.coming ∧ u.nextBound = s.nextBound ∧ u.haveSlot = s.haveSlot := by
  have hnext : u.spr.next = s.spr.next := (congrArg SprSt.next h).trans rfl
  have htick : u.spr.tick = s.spr.tick := (congrArg SprSt.tick h).trans rfl
  have hbound : u.spr.bound = s.spr.bound := (congrArg SprSt.bound h).trans rfl
  have hhdr : u.spr.hdr = s.spr.hdr := (congrArg SprSt.hdr h).trans rfl
  refine ⟨?_, ?_, ?_⟩
  · rw [State.coming, State.coming, hnext, htick]
  · rw [State.nextBound, State.nextBound, hnext, hbound, State.sprPeriod, hhdr, ← State.sprPeriod]
  · rw [State.haveSlot, State.haveSlot, hnext]

/-! ### The boundary (R24, R44, R134) -/

/-- The boundary once the tick has been counted as missed or not. -/
def State.crossTo (s : State) (safe : Bool) : State :=
  let next := s.spr.next
  let s := s.boundary
  let s := { s with spr := { s.spr with next := none, late := false, arrived := none, held := safe || (next.bind (·.slot)).isNone } }
  match next.bind (fun n => n.slot.map (fun x => (n.hdr, x))) with
  | some (h, x) =>
    if safe then s.slotHeld
    else if !s.pwr.steps.contains 7 then s
    else if s.spr.slot.map (fun (x : Slot) => x.seq) == some x.seq then s.slotHeld
    else s.slotNew h x
  | none => s.slotHeld

/-- The boundary with the mode it leads to shown. -/
def State.cross (s : State) (safe : Bool) : State := (s.crossTo safe).set F.CTL_SPR_STATUS.MODE (s.crossTo safe).modeShown

theorem slotApply_eq (dt : Nat) (s : State) : exec (.slotApply dt) s = onSpring s fun s =>
    if (State.advance dt s).spr.hdr.isNone || !s.flag F.LNK_SPOS.ENROLLED || decide (0 < stampDiff s.nextBound (State.advance dt s).stamp) then State.advance dt s
    else (if s.haveSlot then (if s.flag F.CLK_PLLS_STAT.ON_SAFE then { State.advance dt s with spr := { s.spr with missed := s.spr.missed + 1 } }
        else { State.advance dt s with spr := { s.spr with missed := 0 } })
      else (State.advance dt s).tickLate s.coming).cross (s.flag F.CLK_PLLS_STAT.ON_SAFE) := (rfl)

/-- What is in force just after the boundary, before the slot is looked at. -/
theorem boundary_view {s : State} (hact : s.gate.actByp = false) (hc : ∀ a, s.tbl.commitAt = some a → 2 ^ 31 ≤ tickDist a s.coming) :
    s.boundary.ofTick = ({ s.ofTick.1 with tick := s.coming, bound := s.nextBound }, s.ofTick.2) ∧ s.Lowers s.boundary := by
  obtain ⟨ht, hl⟩ := settled_facts (s := s.ticked) hact
  rw [boundary_eq hc]
  exact ⟨ht, (lowers_spr s _).trans hl⟩

/-- What a boundary makes of the tick, its slot aside. -/
def State.crossed (s : State) (safe : Bool) : SprSt :=
  { s.ofTick.1 with tick := s.coming, bound := s.nextBound, next := none, late := false, held := safe || (s.spr.next.bind (·.slot)).isNone }

theorem cross_cases {s : State} (hact : s.gate.actByp = false) (hc : ∀ a, s.tbl.commitAt = some a → 2 ^ 31 ≤ tickDist a s.coming) (safe : Bool) :
    ∃ u : State, u.ofTick = (s.crossed safe, s.ofTick.2) ∧ s.Lowers u ∧ ∃ v m, s.cross safe = v.set F.CTL_SPR_STATUS.MODE m ∧ v = match s.spr.next.bind (fun n => n.slot.map (fun x => (n.hdr, x))) with
      | some (h, x) =>
        if safe then u.slotHeld
        else if !u.pwr.steps.contains 7 then u
        else if u.spr.slot.map (fun (x : Slot) => x.seq) == some x.seq then u.slotHeld
        else u.slotNew h x
      | none => u.slotHeld := by
  obtain ⟨ht, hl⟩ := boundary_view hact hc
  refine ⟨{ s.boundary with spr := { s.boundary.spr with next := none, late := false, arrived := none, held := safe || (s.spr.next.bind (·.slot)).isNone } }, ?_, hl.trans (lowers_spr _ _), _, _, rfl, rfl⟩
  generalize s.boundary = w at ht
  exact congrArg (fun v : TickView => ({ v.1 with next := none, late := false, held := safe || (s.spr.next.bind (·.slot)).isNone }, v.2)) ht

theorem ofTick_setMode (s : State) (m : Nat) : (s.set F.CTL_SPR_STATUS.MODE m).ofTick = s.ofTick := ofTick_set s _ _ (by decide) (by decide)

section

variable {s : State} (hact : s.gate.actByp = false) (hc : ∀ a, s.tbl.commitAt = some a → 2 ^ 31 ≤ tickDist a s.coming)
include hact hc

/-- A boundary without a slot, or on the safe clock, leaves in force what was and takes the command away. -/
theorem cross_held {safe : Bool} (h : s.haveSlot = false ∨ safe = true) : (s.cross safe).ofTick = ({ s.crossed safe with cmd := none }, s.ofTick.2) := by
  obtain ⟨u, hu, -, v, m, e, hv⟩ := cross_cases hact hc safe
  have hheld : v = u.slotHeld := by
    rw [hv]
    cases hn : s.spr.next with
    | none => rfl
    | some n =>
      cases hs : n.slot with
      | none => simp [hs]
      | some x =>
        have hsafe : safe = true := by
          rcases h with h | h
          · simp [State.haveSlot, hn, hs] at h
          · exact h
        simp [hs, hsafe]
  rw [e, ofTick_setMode, hheld, ofTick_slotHeld, hu]

/-- A slot in time: it takes effect once start-up has ended and it is not the one in force. -/
theorem cross_slot {h : TickHdr} {x : Slot} (hn : s.spr.next = some ⟨h, some x⟩) :
    (s.pwr.steps.contains 7 = true → s.spr.slot.map (fun (y : Slot) => y.seq) ≠ some x.seq →
      (∃ c, (s.cross false).ofTick = ({ s.crossed false with slot := some (if s.blocked then parkedSlot x else x), cmd := c }, s.get F.GATE_STATUS.BLOCK, h.tick % 2 ^ 32, s.pwr)) ∧
        (s.blocked = true → s.Lowers (s.cross false))) ∧
    (s.pwr.steps.contains 7 = false ∨ s.spr.slot.map (fun (y : Slot) => y.seq) = some x.seq → ∃ c, (s.cross false).ofTick = ({ s.crossed false with cmd := c }, s.ofTick.2)) := by
  obtain ⟨u, hu, hl, v, m, e, hv⟩ := cross_cases hact hc false
  have hpwr : u.pwr = s.pwr := congrArg (fun w : TickView => w.2.2.2) hu
  have hslot : u.spr.slot = s.spr.slot := congrArg (fun w : TickView => w.1.slot) hu
  have hblock : u.get F.GATE_STATUS.BLOCK = s.get F.GATE_STATUS.BLOCK := congrArg (fun w : TickView => w.2.1) hu
  have hblocked : u.blocked = s.blocked := by rw [State.blocked, State.flag, hblock, State.blocked, State.flag]
  simp only [hn, Option.bind_some, Option.map_some, Bool.false_eq_true, if_false, hpwr, hslot] at hv
  rw [e, ofTick_setMode]
  refine ⟨fun h7 hseq => ?_, fun h => ?_⟩
  · have hnew : v = u.slotNew h x := by rwa [h7, if_neg (by decide), if_neg (by simpa using hseq)] at hv
    obtain ⟨⟨c, hview⟩, hlow⟩ := slotNew_view u h x
    rw [hnew]
    refine ⟨⟨c, ?_⟩, fun hb => (hl.trans (hlow (hblocked.trans hb))).trans (lowers_set _ _ _)⟩
    rw [hview, hu, hblocked, hblock, hpwr]
  · cases h7 : s.pwr.steps.contains 7 with
    | false =>
      have hsame : v = u := by rwa [h7, if_pos (by rfl)] at hv
      exact ⟨_, by rw [hsame, hu]⟩
    | true =>
      have hseq := h.resolve_left (by rw [h7]; exact Bool.noConfusion)
      have hheld : v = u.slotHeld := by rwa [h7, if_neg (by decide), hseq, if_pos (beq_self_eq_true _)] at hv
      exact ⟨none, by rw [hheld, ofTick_slotHeld, hu]⟩

end

/-! ### SLOT_APPLY (R24, R44) -/

theorem hull_cross (s : State) (safe : Bool) : (s.cross safe).hull = s.hull := by
  have h : ∀ u : State, u.hull = s.boundary.hull → ∀ o : Option (TickHdr × Slot), (match o with
      | some (h, x) =>
        if safe then u.slotHeld
        else if !u.pwr.steps.contains 7 then u
        else if u.spr.slot.map (fun (x : Slot) => x.seq) == some x.seq then u.slotHeld
        else u.slotNew h x
      | none => u.slotHeld).hull = s.hull := by
    intro u hu o
    rw [hull_boundary] at hu
    cases o with
    | none => exact (hull_slotHeld u).trans hu
    | some o =>
      dsimp only
      split_ifs
      · exact (hull_slotHeld u).trans hu
      · exact hu
      · exact (hull_slotHeld u).trans hu
      · exact (hull_slotNew u _ _).trans hu
  rw [State.cross, hull_set]
  exact h _ (by simp) _

theorem blocked_of {s t : State} (h : t.get F.GATE_STATUS.BLOCK = s.get F.GATE_STATUS.BLOCK) : t.blocked = s.blocked := by rw [State.blocked, State.flag, h, State.blocked, State.flag]

/-- A boundary that has come, the tick counted as missed or not. -/
theorem slotApply_crosses {s : State} {dt : Nat} {P : State → Prop} (hlive : s.live = true) (hr : s.role = .spring) (hh : s.spr.hdr.isSome = true) (he : s.get F.LNK_SPOS.ENROLLED = 1)
    (hb : stampDiff s.nextBound (State.advance dt s).stamp ≤ 0)
    (hP : P ((if s.haveSlot then (if s.flag F.CLK_PLLS_STAT.ON_SAFE then { State.advance dt s with spr := { s.spr with missed := s.spr.missed + 1 } }
        else { State.advance dt s with spr := { s.spr with missed := 0 } }) else (State.advance dt s).tickLate s.coming).cross (s.flag F.CLK_PLLS_STAT.ON_SAFE))) :
    GoesTo (exec (.slotApply dt) s) P := by
  rw [slotApply_eq]
  refine goesTo_spring hlive hr ?_
  obtain ⟨o, ho⟩ := Option.isSome_iff_exists.mp hh
  rw [if_neg (by simp [ho, State.flag, he, hb]), confine_hull]
  · exact hP
  · rw [hull_cross]
    split_ifs <;> simp

theorem coming_next {s : State} {h : TickHdr} {o : Option Slot} (hn : s.spr.next = some ⟨h, o⟩) : s.coming = h.tick ∧ s.nextBound = h.bound := by
  simp [State.coming, State.nextBound, hn]

/-- What a state of the view after a boundary holds. -/
theorem crossed_facts {s t : State} {safe : Bool} {c : Option DueCmd} (h : t.ofTick = ({ s.crossed safe with cmd := c }, s.ofTick.2)) :
    t.spr.tick = s.coming ∧ t.spr.bound = s.nextBound ∧ t.spr.next = none ∧ t.spr.missed = s.spr.missed ∧ t.spr.late = false ∧
      t.spr.held = (safe || (s.spr.next.bind (·.slot)).isNone) ∧ t.spr.slot = s.spr.slot ∧ t.blocked = s.blocked ∧ t.spr.cmd = c := by
  have hx : t.spr.ofTick = { s.crossed safe with cmd := c } := congrArg Prod.fst h
  exact ⟨congrArg SprSt.tick hx, congrArg SprSt.bound hx, congrArg SprSt.next hx, (congrArg SprSt.missed hx).trans rfl, congrArg SprSt.late hx, congrArg SprSt.held hx, (congrArg SprSt.slot hx).trans rfl,
    blocked_of (congrArg (fun w : TickView => w.2.1) h), congrArg SprSt.cmd hx⟩

theorem slotApply_idle {s : State} {dt : Nat} (hlive : s.live = true) (hr : s.role = .spring)
    (h : s.spr.hdr = none ∨ s.get F.LNK_SPOS.ENROLLED = 0 ∨ 0 < stampDiff s.nextBound (State.advance dt s).stamp) :
    GoesTo (exec (.slotApply dt) s) fun t => t = State.advance dt s := by
  rw [slotApply_eq]
  refine goesTo_spring hlive hr ?_
  rw [if_pos]
  · exact confine_hull (by simp)
  · rcases h with h | h | h <;> simp [State.flag, h]

section

variable {s : State} {dt : Nat} (hlive : s.live = true) (hr : s.role = .spring) (hh : s.spr.hdr.isSome = true) (he : s.get F.LNK_SPOS.ENROLLED = 1) (hact : s.gate.actByp = false)
  (hc : ∀ a, s.tbl.commitAt = some a → 2 ^ 31 ≤ tickDist a s.coming) (hb : stampDiff s.nextBound (State.advance dt s).stamp ≤ 0)
include hlive hr hh he hact hc hb

theorem slotApply_new {h : TickHdr} {x : Slot} (hn : s.spr.next = some ⟨h, some x⟩) (hs : s.get F.CLK_PLLS_STAT.ON_SAFE = 0) (h7 : s.pwr.steps.contains 7 = true)
    (hseq : s.spr.slot.map (fun (y : Slot) => y.seq) ≠ some x.seq) :
    GoesTo (exec (.slotApply dt) s) fun t => t.spr.tick = h.tick ∧ t.spr.bound = h.bound ∧ t.spr.next = none ∧ t.spr.missed = 0 ∧ t.spr.late = false ∧ t.spr.held = false ∧
      t.spr.slot = some (if s.blocked then parkedSlot x else x) ∧ t.get F.CTL_SPR_TICK.TICK = h.tick % 2 ^ 32 ∧ t.blocked = s.blocked ∧
      (s.blocked = true → ∀ n, (t.hb n).hi.on = true → (s.hb n).hi.on = true) := by
  have hslot : s.haveSlot = true := by simp [State.haveSlot, hn]
  refine slotApply_crosses hlive hr hh he hb ?_
  rw [if_pos hslot, State.flag, hs, bne_self_eq_false, if_neg Bool.false_ne_true]
  obtain ⟨htick, hbound⟩ := coming_next hn
  obtain ⟨⟨c, hv⟩, hlow⟩ := (cross_slot (s := { State.advance dt s with spr := { s.spr with missed := 0 } }) hact hc hn).1 h7 hseq
  generalize State.cross _ false = t at hv hlow
  refine ⟨(congrArg (fun w : TickView => w.1.tick) hv).trans htick, (congrArg (fun w : TickView => w.1.bound) hv).trans hbound,
    congrArg (fun w : TickView => w.1.next) hv, congrArg (fun w : TickView => w.1.missed) hv, congrArg (fun w : TickView => w.1.late) hv,
    ?_, congrArg (fun w : TickView => w.1.slot) hv, congrArg (fun w : TickView => w.2.2.1) hv,
    blocked_of (congrArg (fun w : TickView => w.2.1) hv), fun h n => ((hlow h).hbs n true).2⟩
  refine (congrArg (fun w : TickView => w.1.held) hv).trans ?_
  simp [State.crossed, hn]

theorem slotApply_again {h : TickHdr} {x : Slot} (hn : s.spr.next = some ⟨h, some x⟩) (hs : s.get F.CLK_PLLS_STAT.ON_SAFE = 0)
    (h7 : s.pwr.steps.contains 7 = false ∨ s.spr.slot.map (fun (y : Slot) => y.seq) = some x.seq) :
    GoesTo (exec (.slotApply dt) s) fun t => t.spr.tick = h.tick ∧ t.spr.bound = h.bound ∧ t.spr.next = none ∧ t.spr.missed = 0 ∧ t.spr.held = false ∧ t.spr.slot = s.spr.slot ∧
      t.blocked = s.blocked := by
  have hslot : s.haveSlot = true := by simp [State.haveSlot, hn]
  refine slotApply_crosses hlive hr hh he hb ?_
  rw [if_pos hslot, State.flag, hs, bne_self_eq_false, if_neg Bool.false_ne_true]
  obtain ⟨htick, hbound⟩ := coming_next hn
  obtain ⟨c, hv⟩ := (cross_slot (s := { State.advance dt s with spr := { s.spr with missed := 0 } }) hact hc hn).2 h7
  obtain ⟨t1, t2, t3, t4, -, t5, t6, t7, -⟩ := crossed_facts hv
  exact ⟨t1.trans htick, t2.trans hbound, t3, t4, t5.trans (by simp [hn]), t6, t7⟩

theorem slotApply_onSafe {h : TickHdr} {x : Slot} (hn : s.spr.next = some ⟨h, some x⟩) (hs : s.get F.CLK_PLLS_STAT.ON_SAFE = 1) :
    GoesTo (exec (.slotApply dt) s) fun t => t.spr.tick = h.tick ∧ t.spr.bound = h.bound ∧ t.spr.next = none ∧ t.spr.missed = s.spr.missed + 1 ∧ t.spr.held = true ∧
      t.spr.slot = s.spr.slot ∧ t.blocked = s.blocked := by
  have hslot : s.haveSlot = true := by simp [State.haveSlot, hn]
  have hsafe : s.flag F.CLK_PLLS_STAT.ON_SAFE = true := by simp [State.flag, hs]
  refine slotApply_crosses hlive hr hh he hb ?_
  rw [if_pos hslot, hsafe, if_pos rfl]
  obtain ⟨htick, hbound⟩ := coming_next hn
  have hv := cross_held (s := { State.advance dt s with spr := { s.spr with missed := s.spr.missed + 1 } }) hact hc (.inr (rfl : true = true))
  obtain ⟨t1, t2, t3, t4, -, t5, t6, t7, -⟩ := crossed_facts hv
  exact ⟨t1.trans htick, t2.trans hbound, t3, t4, t5, t6, t7⟩

theorem slotApply_none (hslot : s.haveSlot = false) :
    GoesTo (exec (.slotApply dt) s) fun t => t.spr.tick = s.coming ∧ t.spr.bound = s.nextBound ∧ t.spr.slot = s.spr.slot ∧ t.spr.held = true ∧ t.spr.next = none ∧
      t.spr.missed = (if s.spr.late then s.spr.missed else s.spr.missed + 1) ∧ t.spr.late = false ∧ t.blocked = s.blocked ∧ t.spr.cmd = none := by
  refine slotApply_crosses hlive hr hh he hb ?_
  rw [if_neg (by simp [hslot])]
  obtain ⟨hview, hgate, htbl⟩ := tickLate_view (State.advance dt s) s.coming
  generalize (State.advance dt s).tickLate s.coming = u at hview hgate htbl
  obtain ⟨hcoming, hbound, hslot'⟩ := coming_of_view (congrArg Prod.fst hview)
  have hslot' := hslot'.trans hslot
  have hv := cross_held (s := u) (by rw [hgate]; exact hact) (by rw [htbl, hcoming]; exact hc) (.inl hslot') (safe := s.flag F.CLK_PLLS_STAT.ON_SAFE)
  obtain ⟨t1, t2, t3, t4, t5, t6, t7, t8, t9⟩ := crossed_facts hv
  refine ⟨t1.trans hcoming, t2.trans hbound, t7.trans ((congrArg (fun w : TickView => w.1.slot) hview).trans rfl), t6.trans ?_, t3,
    t4.trans (congrArg (fun w : TickView => w.1.missed) hview), t5,
    t8.trans (blocked_of (congrArg (fun w : TickView => w.2.1) hview)), t9⟩
  have hnone : u.spr.next.bind (·.slot) = none := by
    cases hn : u.spr.next with
    | none => rfl
    | some n => simpa [State.haveSlot, hn] using hslot'
  rw [hnone]
  exact Bool.or_true _

end

end Sys2Proof.Machine
end

section
/-! PROOFS. A Spring between its boundaries: the slot's deadline, the DAB period, telemetry, and tick loss (R28, R35, R41, R44, R70, R74, R75, R208). -/
namespace Sys2Proof.Machine

/-! ### SLOT_DEADLINE (R44) -/

theorem slotDeadline_eq (dt : Nat) (s : State) : exec (.slotDeadline dt) s = onSpring s fun s =>
    if s.spr.hdr.isSome && s.flag F.LNK_SPOS.ENROLLED && !s.haveSlot && decide (stampDiff s.nextBound (State.advance dt s).stamp ≤ 1000) then (State.advance dt s).tickLate s.coming
    else State.advance dt s := (rfl)

theorem inc_get_sat (s : State) {f : Fld} (hok : f.ok = true) : (s.inc f).get f = min (s.get f + 1) (2 ^ f.w - 1) := by
  rw [State.inc, State.addSat, State.get_set_same _ _ _ hok]
  exact Nat.mod_eq_of_lt (Nat.lt_of_le_of_lt (Nat.min_le_right _ _) (Nat.sub_lt (Nat.two_pow_pos f.w) Nat.one_pos))

theorem tickLate_counts {s : State} (h : s.spr.late = false) (k : Nat) :
    (s.tickLate k).get F.CTL_SPR_STATUS.TICK_LATE_CNT = min (s.get F.CTL_SPR_STATUS.TICK_LATE_CNT + 1) 0xFFFF ∧ s.RegsBut (F.CTL_SPR_STATUS.TICK_LATE_CNT.off :: recCounters) (s.tickLate k) := by
  obtain ⟨free, c, l, e⟩ := tickLate_first h k
  rw [e]
  exact ⟨(State.raise_get _ c l _ rfl).trans (inc_get_sat _ rfl), regsBut_trans (regsBut_set { s with free := free, spr := { s.spr with late := true, missed := s.spr.missed + 1 } } _ _ _ List.mem_cons_self)
    (regsBut_raise _ _ _ _ fun o ho => List.mem_cons_of_mem _ ho)⟩

theorem slotDeadline_late {s : State} {dt : Nat} (hlive : s.live = true) (hr : s.role = .spring) (hh : s.spr.hdr.isSome = true) (he : s.get F.LNK_SPOS.ENROLLED = 1) (hs : s.haveSlot = false)
    (hl : s.spr.late = false) (hb : stampDiff s.nextBound (State.advance dt s).stamp ≤ 1000) :
    GoesTo (exec (.slotDeadline dt) s) fun t => t.spr.late = true ∧ t.spr.missed = s.spr.missed + 1 ∧ t.spr.slot = s.spr.slot ∧
      t.get F.CTL_SPR_STATUS.TICK_LATE_CNT = min (s.get F.CTL_SPR_STATUS.TICK_LATE_CNT + 1) 0xFFFF ∧ t.gate = s.gate ∧ s.RegsBut (F.CTL_SPR_STATUS.TICK_LATE_CNT.off :: recCounters) t := by
  rw [slotDeadline_eq]
  refine goesTo_spring hlive hr ?_
  rw [if_pos (by simp [hh, State.flag, he, hs, hb]), confine_hull (by simp)]
  obtain ⟨hview, hgate, -⟩ := tickLate_view (State.advance dt s) s.coming
  obtain ⟨hcnt, hregs⟩ := tickLate_counts (s := State.advance dt s) hl s.coming
  have hx := congrArg Prod.fst hview
  refine ⟨(congrArg SprSt.late hx).trans rfl, (congrArg SprSt.missed hx).trans ?_, (congrArg SprSt.slot hx).trans rfl, hcnt, hgate, hregs⟩
  exact if_neg (by simp [hl])

theorem slotDeadline_idle {s : State} {dt : Nat} (hlive : s.live = true) (hr : s.role = .spring)
    (h : s.haveSlot = true ∨ s.spr.late = true ∨ s.spr.hdr = none ∨ s.get F.LNK_SPOS.ENROLLED = 0 ∨ 1000 < stampDiff s.nextBound (State.advance dt s).stamp) :
    GoesTo (exec (.slotDeadline dt) s) fun t => t = State.advance dt s := by
  rw [slotDeadline_eq]
  refine goesTo_spring hlive hr ?_
  split
  · rename_i hdue
    have hl : (State.advance dt s).spr.late = true := by
      rcases h with h | h | h | h | h
      · simp [h] at hdue
      · exact h
      · simp [h] at hdue
      · simp [State.flag, h] at hdue
      · simp only [Bool.and_eq_true, decide_eq_true_eq] at hdue
        omega
    rw [tickLate_again hl]
    exact confine_hull (by simp)
  · exact confine_hull (by simp)

/-! ### DAB_PERIOD (R70, R71, R75) -/

theorem dabPeriod_eq (dt : Nat) (s : State) : exec (.dabPeriod dt) s = onSpring s fun s =>
    if s.spr.dab.on && !s.flag F.CLK_PLLS_STAT.ON_SAFE && decide (s.spr.dab.at' + s.spr.dab.per < (State.advance dt s).now 8) then
      ({ State.advance dt s with spr := { s.spr with dab := { s.spr.dab with y := s.spr.dab.yNext, per := s.spr.perNext, at' := s.spr.dab.at' + s.spr.dab.per } } }).dabCompute
    else State.advance dt s := (rfl)

/-- A result's reading stands in a register of the converter. -/
theorem mapped_congr {s t : State} (h : ∀ f : Fld, f.quiet = true → t.get f = s.get f) (src : Nat) (a b lo hi : Int) : t.mapped src a b lo hi = s.mapped src a b lo hi := by
  unfold State.mapped
  split
  · have hq : (F.ADC_RES.VALUE (src / 16) (src % 16)).quiet = true := by
      simp only [Fld.quiet, F.ADC_RES.VALUE, F.REC_LOST_CNT.COUNT, F.REC_SUPP_CNT.COUNT, Bool.and_eq_true, bne_iff_ne, ne_eq]
      omega
    rw [State.resValue, State.getI, h _ hq, State.resValue, State.getI]
  · rfl

/-- The mapped quantities are read from the converter's registers. -/
theorem mapQ_congr {s t : State} (h : ∀ f : Fld, f.quiet = true → t.get f = s.get f) {q : Nat} (hq : q ≤ 4) (lo hi : Int) : t.mapQ q lo hi = s.mapQ q lo hi := by
  have hquiet : ∀ lo w d, d ≤ 4 → Fld.quiet ⟨0x14700 + d + 8 * q, lo, w⟩ = true := by
    intro lo w d hd
    simp only [Fld.quiet, F.REC_LOST_CNT.COUNT, F.REC_SUPP_CNT.COUNT, Bool.and_eq_true, bne_iff_ne, ne_eq]
    omega
  have hsrc : t.get (F.ADC_MAP.SRC q) = s.get (F.ADC_MAP.SRC q) := h _ (hquiet _ _ 0 (Nat.zero_le 4))
  have hofst : t.get (F.ADC_MAP.OFST q) = s.get (F.ADC_MAP.OFST q) := h _ (hquiet _ _ 0 (Nat.zero_le 4))
  have hscale : t.get (F.ADC_MAP_SCALE.SCALE q) = s.get (F.ADC_MAP_SCALE.SCALE q) := h _ (hquiet _ _ 4 (Nat.le_refl 4))
  rw [State.mapQ, mapped_congr h, State.getI, State.getI, hsrc, hscale, hofst, State.mapQ, State.getI, State.getI]

theorem tHs_congr {s t : State} (h : ∀ f : Fld, f.quiet = true → t.get f = s.get f) : t.tHs = s.tHs := by
  rw [State.tHs, mapped_congr h, h _ rfl, State.getI, State.getI, h _ rfl, h _ rfl, State.tHs, State.getI, State.getI]

/-- The computation does not read the delay in force, the period or its beginning. -/
theorem dabStep_congr {s t : State} (p : Int) (h : ∀ f : Fld, f.quiet = true → t.get f = s.get f) (hid : t.selfId = s.selfId) (hst : t.stationSeen = s.stationSeen)
    (himg : t.tbl.img = s.tbl.img) (hd : t.spr.dab.i = s.spr.dab.i ∧ t.spr.dab.s1 = s.spr.dab.s1 ∧ t.spr.dab.s2 = s.spr.dab.s2) : t.dabStep p = s.dabStep p := by
  obtain ⟨h1, h2, h3⟩ := hd
  have hv : t.vDc = s.vDc := mapQ_congr h (by decide) _ _
  have hl : t.vLv = s.vLv := mapQ_congr h (by decide) _ _
  have hc : t.iLv = s.iLv := mapQ_congr h (by decide) _ _
  have hx : t.get F.CTL_DAB_LIM.X_MAX = s.get F.CTL_DAB_LIM.X_MAX := h _ rfl
  have hk : t.get F.CTL_DAB_K.K_DAB = s.get F.CTL_DAB_K.K_DAB := h _ rfl
  have hr : t.get F.THM_RATING.P_RATED = s.get F.THM_RATING.P_RATED := h _ rfl
  simp only [State.dabStep, hx, hk, hr, hid, hst, himg, h1, h2, h3, hv, hl, hc]

theorem dabStep_apart (s : State) (y : Int) (per a : Nat) (p : Int) :
    State.dabStep { s with spr := { s.spr with dab := { s.spr.dab with y := y, per := per, at' := a } } } p = s.dabStep p :=
  dabStep_congr p (fun _ _ => rfl) (rfl) (rfl) rfl ⟨rfl, rfl, rfl⟩

/-- The reference moves by at most SLEW, and the next delay is the computation's. -/
theorem dabCompute_of {s : State} {p y i s1 s2 : Int} (hp : slewTo s.spr.dab.p s.spr.pDabRef (s.get F.CTL_DAB_LIM.SLEW) = p) (hr : s.dabStep p = (y, i, s1, s2)) :
    s.dabCompute = { s with spr := { s.spr with dab := { s.spr.dab with p := p, yNext := y, i := i, s1 := s1, s2 := s2 } } } := by
  unfold State.dabCompute
  rw [hp]
  extract_lets q
  have hq : s.dabStep q = (y, i, s1, s2) := hr
  rw [hq]

theorem dabPeriod_runs {s : State} {dt : Nat} (hlive : s.live = true) (hr : s.role = .spring) (hon : s.spr.dab.on = true) (hs : s.get F.CLK_PLLS_STAT.ON_SAFE = 0)
    (hd : s.spr.dab.at' + s.spr.dab.per < 8 * (s.time.cyc + dt) + 8) :
    GoesTo (exec (.dabPeriod dt) s) fun t => t.spr.dab.y = s.spr.dab.yNext ∧ t.spr.dab.p = slewTo s.spr.dab.p s.spr.pDabRef (s.get F.CTL_DAB_LIM.SLEW) ∧ t.spr.dab.per = s.spr.perNext ∧
      t.spr.dab.at' = s.spr.dab.at' + s.spr.dab.per ∧ t.spr.dab.on = true ∧
      (t.spr.dab.yNext, t.spr.dab.i, t.spr.dab.s1, t.spr.dab.s2) = (State.advance dt s).dabStep (slewTo s.spr.dab.p s.spr.pDabRef (s.get F.CTL_DAB_LIM.SLEW)) ∧ t.gate = s.gate ∧ s.RegsBut [] t := by
  rw [dabPeriod_eq]
  refine goesTo_spring hlive hr ?_
  have hd' : s.spr.dab.at' + s.spr.dab.per < (State.advance dt s).now 8 := hd
  rw [if_pos (by simp [hon, State.flag, hs, hd']), confine_hull (by simp)]
  generalize hq : slewTo s.spr.dab.p s.spr.pDabRef (s.get F.CTL_DAB_LIM.SLEW) = p
  obtain ⟨⟨y, i, s1, s2⟩, hstep⟩ : ∃ r, (State.advance dt s).dabStep p = r := ⟨_, rfl⟩
  rw [hstep]
  generalize hu : ({ State.advance dt s with spr := { s.spr with dab := { s.spr.dab with y := s.spr.dab.yNext, per := s.spr.perNext, at' := s.spr.dab.at' + s.spr.dab.per } } } : State) = u
  have hstep' : u.dabStep p = (y, i, s1, s2) := by rw [← hu]; exact (dabStep_apart (State.advance dt s) _ _ _ _).trans hstep
  have hq' : slewTo u.spr.dab.p u.spr.pDabRef (u.get F.CTL_DAB_LIM.SLEW) = p := by rw [← hu]; exact hq
  rw [dabCompute_of hq' hstep', ← hu]
  exact ⟨rfl, rfl, rfl, rfl, hon, rfl, rfl, regsBut_hidden _ rfl rfl rfl⟩

theorem dabPeriod_idle {s : State} {dt : Nat} (hlive : s.live = true) (hr : s.role = .spring)
    (h : s.spr.dab.on = false ∨ s.get F.CLK_PLLS_STAT.ON_SAFE = 1 ∨ 8 * (s.time.cyc + dt) + 8 ≤ s.spr.dab.at' + s.spr.dab.per) :
    GoesTo (exec (.dabPeriod dt) s) fun t => t = State.advance dt s := by
  rw [dabPeriod_eq]
  refine goesTo_spring hlive hr ?_
  rw [if_neg]
  · exact confine_hull (by simp)
  · rcases h with h | h | h
    · simp [h]
    · simp [State.flag, h]
    · have h' : ¬ s.spr.dab.at' + s.spr.dab.per < (State.advance dt s).now 8 := Nat.not_lt.mpr h
      simp [h']

/-! ### TELEM_SEND (R28, R41) -/

theorem telemSend_eq (dt : Nat) (s : State) : exec (.telemSend dt) s = onSpring s fun s => match s.spr.telem with
  | none => State.advance dt s
  | some x => if decide (stampDiff (State.advance dt s).stamp s.spr.bound < 500) then State.advance dt s
    else if s.flag F.LNK_SPOS.ENROLLED then { State.advance dt s with spr := { s.spr with telem := none } }.emitFrame (([0, 1] : List Nat).filter s.portUp) (.telem x)
    else { State.advance dt s with spr := { s.spr with telem := none } } := (rfl)

theorem telemSend_idle {s : State} {dt : Nat} (hlive : s.live = true) (hr : s.role = .spring) (h : s.spr.telem = none ∨ stampDiff (State.advance dt s).stamp s.spr.bound < 500) :
    GoesTo (exec (.telemSend dt) s) fun t => t = State.advance dt s := by
  rw [telemSend_eq]
  refine goesTo_spring hlive hr ?_
  cases ht : s.spr.telem with
  | none => exact confine_hull (by simp)
  | some x =>
    dsimp only
    rw [if_pos (decide_eq_true (h.resolve_left (by simp [ht])))]
    exact confine_hull (by simp)

theorem wired_lanesOff {s t : State} (h : s.Wired t) : t.lanesOff = s.lanesOff := by rw [h]; rfl

/-- Frames leave by every port of a list, unless PLL-L holds the lanes off. -/
theorem emitFrame_out (s : State) (ports : List Nat) (f : Frame) :
    (s.emitFrame ports f).out = if s.lanesOff = true then s.out else s.out ++ ports.map (fun p => .frame p (wireBytes f)) := by
  unfold State.emitFrame
  induction ports generalizing s with
  | nil => simp
  | cons p l ih =>
    have hout : (s.sendFrame p f).out = if s.lanesOff = true then s.out else s.out ++ [.frame p (wireBytes f)] := by
      unfold State.sendFrame State.laneOut
      dsimp only
      split <;> rfl
    have hoff : (s.sendFrame p f).lanesOff = s.lanesOff := wired_lanesOff (laneOut_wired s p _ _)
    rw [List.foldl_cons, ih, hoff, hout]
    split
    · rfl
    · rw [List.map_cons, List.append_assoc, List.singleton_append]

theorem telemSend_sends {s : State} {dt : Nat} {x : Telem} (hlive : s.live = true) (hr : s.role = .spring) (hx : s.spr.telem = some x)
    (hd : 500 ≤ stampDiff (State.advance dt s).stamp s.spr.bound) :
    GoesTo (exec (.telemSend dt) s) fun t => t.out = (if s.lanesOff = true ∨ s.get F.LNK_SPOS.ENROLLED = 0 then s.out else
        s.out ++ (([0, 1] : List Nat).filter s.portUp).map (fun p => .frame p (wireBytes (.telem x)))) ∧ t.spr.telem = none ∧ s.RegsBut [] t := by
  rw [telemSend_eq]
  refine goesTo_spring hlive hr ?_
  rw [hx]
  dsimp only
  rw [if_neg (by simpa using hd)]
  by_cases he : s.get F.LNK_SPOS.ENROLLED = 0
  · rw [if_neg (by simp [State.flag, he]), confine_hull (by simp), if_pos (.inr he)]
    exact ⟨rfl, rfl, regsBut_hidden _ rfl rfl rfl⟩
  · rw [if_pos (by simp [State.flag, he]), confine_hull (by simp)]
    have hw := emitFrame_wired { State.advance dt s with spr := { s.spr with telem := none } } (([0, 1] : List Nat).filter s.portUp) (.telem x)
    refine ⟨(emitFrame_out _ _ _).trans ?_, (congrArg (fun w => w.spr.telem) hw).trans rfl, regsBut_hidden _ (hw.role) (hw.side) (hw.regs)⟩
    simp only [he, or_false]
    rfl

/-! ### TELEM_LATCH (R41, R224, R484) -/

/-- The state that the telemetry is built from: HS_WARN looked at, the tick's energy added where the pack shows closed. -/
def State.telemBase (s : State) : State :=
  let s := s.hsWarnCheck
  if s.packShowsClosed then s.integrate (s.vDc * s.iPack) s.sprPeriod else s

/-- What has been reported starts afresh. -/
def State.reportedAfresh (s : State) : State :=
  (List.range 4).foldl (fun (s : State) n => s.modUnit n (fun u => { u with seen := 0 })) ((List.range 6).foldl (fun (s : State) n => s.modHb n (fun h => { h with tripped := false })) s)

def State.latchTelem (s : State) (x : Telem) : State :=
  let s := s.reportedAfresh.set F.CELL_STATUS.STATUS x.cellStatus
  { s with spr := { s.spr with latched := s.spr.tick, telem := some x }, gate := { s.gate with conflictSeen := false } }

theorem telemLatch_eq (dt : Nat) (s : State) : exec (.telemLatch dt) s = onSpring s fun s =>
    if s.spr.tick = 0 || s.spr.latched == s.spr.tick || decide (stampDiff (State.advance dt s).stamp s.spr.bound < 400) then State.advance dt s
    else (State.advance dt s).telemBase.latchTelem (State.advance dt s).telemBase.buildTelem := (rfl)

theorem hull_telemBase (s : State) : s.telemBase.hull = s.hull := by
  unfold State.telemBase
  dsimp only
  split
  · exact (hull_integrate _ _ _).trans (by simp)
  · simp

theorem hull_latchTelem (s : State) (x : Telem) : (s.latchTelem x).hull = s.hull := by
  have h : s.reportedAfresh.hull = s.hull := (hull_foldl _ (fun u n => by simp) _ _).trans (hull_foldl _ (fun u n => by simp) _ _)
  unfold State.latchTelem
  dsimp only
  generalize s.reportedAfresh = u at h
  exact h

theorem telemLatch_idle {s : State} {dt : Nat} (hlive : s.live = true) (hr : s.role = .spring)
    (h : s.spr.tick = 0 ∨ s.spr.latched = s.spr.tick ∨ stampDiff (State.advance dt s).stamp s.spr.bound < 400) : GoesTo (exec (.telemLatch dt) s) fun t => t = State.advance dt s := by
  rw [telemLatch_eq]
  refine goesTo_spring hlive hr ?_
  rw [if_pos]
  · exact confine_hull (by simp)
  · rcases h with h | h | h <;> simp [h]

/-- The second state shows a reader of the telemetry what the first does: the registers but the recorder's counters, the bridges, the pack, the slot. -/
structure State.Shows (s t : State) : Prop where
  get : ∀ f : Fld, f.quiet = true → t.get f = s.get f
  role : t.role = s.role
  gate : t.gate = s.gate
  can : t.can = s.can
  time : t.time = s.time
  img : t.tbl.img = s.tbl.img
  spr : t.spr = { s.spr with hsWarn := t.spr.hsWarn }

namespace State.Shows

variable {s t : State} (h : s.Shows t)
include h

theorem flag {f : Fld} (hf : f.quiet = true) : t.flag f = s.flag f := by rw [State.flag, h.get f hf, State.flag]

theorem slot : t.spr.slot = s.spr.slot := (congrArg SprSt.slot h.spr).trans rfl

theorem blocked : t.blocked = s.blocked := h.flag rfl

theorem selfId (hr : s.role = .spring) : t.selfId = s.selfId := by
  have hr' : t.role = .spring := h.role.trans hr
  simp only [State.selfId, hr, hr', h.get F.LNK_SPOS.INDEX rfl]

theorem bypShowsClosed : t.bypShowsClosed = s.bypShowsClosed := by rw [State.bypShowsClosed, h.gate, h.flag rfl, State.bypShowsClosed]

theorem packShowsClosed : t.packShowsClosed = s.packShowsClosed := by rw [State.packShowsClosed, h.gate, h.flag rfl, State.packShowsClosed]

theorem slotMode : t.slotMode = s.slotMode := by
  have hcarrier : t.spr.carrier = s.spr.carrier := (congrArg SprSt.carrier h.spr).trans rfl
  have hlvl : t.spr.lvl0 = s.spr.lvl0 := (congrArg SprSt.lvl0 h.spr).trans rfl
  simp only [State.slotMode, h.slot, h.blocked, h.flag (f := F.CMN_RESET.SAFE_HOLD) rfl, hcarrier, hlvl]

theorem modeShown : t.modeShown = s.modeShown := by
  have hacts : t.ilkActs = s.ilkActs := by simp only [State.ilkActs, State.ilkCond, h.slotMode, h.bypShowsClosed, h.gate]
  have heff : t.effMode = s.effMode := by simp only [State.effMode, h.blocked, h.gate, hacts, h.slotMode]
  have hholds : t.holdStops 0 = s.holdStops 0 := by
    simp only [State.holdStops, State.stnHeld, State.armHeld, h.flag (f := F.WEIR_SSTAT.ARM_HOLD) rfl, h.flag (f := F.WEIR_SSTAT.STN_HOLD) rfl, h.flag (f := F.WEIR_SCFG.ARM_DAB) rfl]
  rw [State.modeShown, h.blocked, hholds, heff, State.modeShown]

theorem cellStatus : t.cellStatus = s.cellStatus := by
  have hres : t.spr.cmdRes = s.spr.cmdRes := (congrArg SprSt.cmdRes h.spr).trans rfl
  simp only [State.cellStatus, h.gate, h.bypShowsClosed, h.packShowsClosed, h.get F.GATE_STATUS.RDY_OK rfl, hres]

theorem pLim (hr : s.role = .spring) (dis : Bool) : t.pLim dis = s.pLim dis := by
  have hrated : t.get F.THM_RATING.P_RATED = s.get F.THM_RATING.P_RATED := h.get _ rfl
  have hcurve : ∀ id x, t.pushedCurve id x = s.pushedCurve id x := by
    intro id x
    simp only [State.pushedCurve, h.img, h.selfId hr]
  have hage : t.bmsAge = s.bmsAge := by simp only [State.bmsAge, h.can, h.time]
  have hstale : t.staleMs = s.staleMs := by simp only [State.staleMs, State.profile, h.img, h.selfId hr, h.get F.CAN_PACK_CFG.PROFILE rfl]
  have hbms : ∀ l, t.bmsLim l = s.bmsLim l := by
    intro l
    simp only [State.bmsLim, hage, hstale, h.flag (f := F.CAN_PACK_CFG.EN) rfl, h.packShowsClosed, State.vPackBms, State.packLo, h.can]
  simp only [State.pLim, State.limTerms, hbms, hcurve, State.ofRating, hrated, tHs_congr h.get, State.packHi, State.packLo, State.tCellMax, State.tCellMin, h.can]

end State.Shows

theorem hsWarn_shows (s : State) (b : Bool) : s.Shows { s with spr := { s.spr with hsWarn := b } } := ⟨fun _ _ => rfl, rfl, rfl, rfl, rfl, rfl, rfl⟩

theorem hsWarnCheck_shows (s : State) : s.Shows s.hsWarnCheck ∧ s.hsWarnCheck.aon = s.aon ∧ s.RegsBut recCounters s.hsWarnCheck := by
  have hsame : s.Shows s := ⟨fun _ _ => rfl, rfl, rfl, rfl, rfl, rfl, rfl⟩
  unfold State.hsWarnCheck
  dsimp only
  split_ifs
  · exact ⟨hsWarn_shows s false, rfl, regsBut_hidden _ rfl rfl rfl⟩
  · exact ⟨hsame, rfl, regsBut_same s _⟩
  · have hw := hsWarn_shows s true
    refine ⟨⟨fun f hf => (State.raise_get _ _ _ f hf).trans (hw.get f hf), by rw [State.raise_role], by rw [State.raise_gate], by rw [State.raise_can], by rw [State.raise_time],
      by rw [State.raise_tbl], by rw [State.raise_spr]⟩, by rw [State.raise_aon], ?_⟩
    exact regsBut_trans (regsBut_hidden recCounters (t := { s with spr := { s.spr with hsWarn := true } }) rfl rfl rfl) (regsBut_raise _ _ _ _ fun o ho => ho)
  · exact ⟨hsame, rfl, regsBut_same s _⟩

theorem telemBase_shows (s : State) : s.Shows s.telemBase ∧ s.telemBase.aon.epoch = s.aon.epoch ∧ (s.packShowsClosed = false → s.telemBase.aon = s.aon) ∧ s.RegsBut recCounters s.telemBase := by
  obtain ⟨hshows, haon, hregs⟩ := hsWarnCheck_shows s
  unfold State.telemBase
  dsimp only
  rw [hshows.packShowsClosed]
  split
  · rename_i hp
    generalize s.hsWarnCheck = u at hshows haon hregs
    generalize u.vDc * u.iPack = w
    generalize u.sprPeriod = per
    refine ⟨⟨hshows.get, hshows.role, hshows.gate, hshows.can, hshows.time, hshows.img, hshows.spr⟩, (congrArg AonSt.epoch haon : u.aon.epoch = s.aon.epoch), fun h => ?_,
      regsBut_trans hregs (regsBut_hidden recCounters rfl rfl rfl)⟩
    rw [h] at hp
    cases hp
  · exact ⟨hshows, congrArg AonSt.epoch haon, fun _ => haon, hregs⟩

/-- The half-bridges' runs of trips and the converters' flags change, and nothing else. -/
theorem reportedAfresh_keeps (s : State) : s.reportedAfresh = { s with gate := { s.gate with hbs := s.reportedAfresh.gate.hbs }, adc := s.reportedAfresh.adc } := by
  have hhb : ∀ (l : List Nat) (u : State), (l.foldl (fun (s : State) n => s.modHb n (fun h => { h with tripped := false })) u) =
      { u with gate := { u.gate with hbs := (l.foldl (fun (s : State) n => s.modHb n (fun h => { h with tripped := false })) u).gate.hbs } } := by
    intro l
    induction l with
    | nil => exact fun u => rfl
    | cons n l ih => exact fun u => (ih _).trans rfl
  have hunit : ∀ (l : List Nat) (u : State), (l.foldl (fun (s : State) n => s.modUnit n (fun u => { u with seen := 0 })) u) =
      { u with adc := (l.foldl (fun (s : State) n => s.modUnit n (fun u => { u with seen := 0 })) u).adc } := by
    intro l
    induction l with
    | nil => exact fun u => rfl
    | cons n l ih => exact fun u => (ih _).trans rfl
  unfold State.reportedAfresh
  rw [hunit, hhb]

/-- No half-bridge has tripped since. -/
theorem reportedAfresh_tripped (s : State) {n : Nat} (hn : n < 6) : (s.reportedAfresh.hb n).tripped = false := by
  have hclear : ∀ (l : List Nat) (u : State), (u.hb n).tripped = false ∨ n ∈ l → ((l.foldl (fun (s : State) n => s.modHb n (fun h => { h with tripped := false })) u).hb n).tripped = false := by
    intro l
    induction l with
    | nil => exact fun u h => h.resolve_right (List.not_mem_nil)
    | cons m l ih =>
      intro u h
      refine ih _ ?_
      change ((u.setHb m { u.hb m with tripped := false }).hb n).tripped = false ∨ n ∈ l
      rw [hb_setHb]
      split
      · exact .inl rfl
      · rename_i hm
        rcases h with h | h
        · exact .inl h
        · rcases List.mem_cons.mp h with rfl | h
          · refine .inl ?_
            have hl : u.gate.hbs.length ≤ n := Nat.le_of_not_lt fun h => hm ⟨rfl, h⟩
            rw [State.hb, List.getD_eq_getElem?_getD, List.getElem?_eq_none hl]
            rfl
          · exact .inr h
  have hunit : ∀ (l : List Nat) (u : State), (l.foldl (fun (s : State) n => s.modUnit n (fun u => { u with seen := 0 })) u).gate = u.gate := by
    intro l
    induction l with
    | nil => exact fun u => rfl
    | cons n l ih => exact fun u => (ih _).trans rfl
  unfold State.reportedAfresh
  rw [State.hb, hunit]
  exact hclear _ s (.inr (List.mem_range.mpr hn))

/-- What latching leaves: the frame, the status shown, the next tick's reports afresh. -/
theorem latchTelem_facts (s : State) (x : Telem) : (s.latchTelem x).spr = { s.spr with latched := s.spr.tick, telem := some x } ∧ (s.latchTelem x).aon = s.aon ∧
    (s.latchTelem x).get F.CELL_STATUS.STATUS = x.cellStatus % 65536 ∧ (s.latchTelem x).gate.conflictSeen = false ∧ (∀ n < 6, ((s.latchTelem x).hb n).tripped = false) ∧
    s.RegsBut [F.CELL_STATUS.STATUS.off] (s.latchTelem x) := by
  have htrip := fun n (hn : n < 6) => reportedAfresh_tripped s hn
  have hkeep := reportedAfresh_keeps s
  have hspr : s.reportedAfresh.spr = s.spr := (congrArg State.spr hkeep).trans rfl
  have haon : s.reportedAfresh.aon = s.aon := (congrArg State.aon hkeep).trans rfl
  have hregs : s.RegsBut [F.CELL_STATUS.STATUS.off] s.reportedAfresh := regsBut_hidden _ ((congrArg State.role hkeep).trans rfl) ((congrArg State.side hkeep).trans rfl) ((congrArg State.regs hkeep).trans rfl)
  unfold State.latchTelem
  generalize s.reportedAfresh = u at htrip hspr haon hregs
  dsimp only
  rw [← hspr]
  exact ⟨rfl, haon, State.get_set_same u F.CELL_STATUS.STATUS x.cellStatus rfl, rfl, htrip, regsBut_trans hregs (fun o ho => regsBut_set u F.CELL_STATUS.STATUS x.cellStatus _ List.mem_cons_self o ho)⟩

theorem buildTelem_fields (s : State) : s.buildTelem.spring = s.selfId ∧ s.buildTelem.tick = s.spr.tick ∧ s.buildTelem.epoch = s.aon.epoch ∧ s.buildTelem.blocked = s.blocked ∧
    s.buildTelem.mode = s.modeShown ∧ s.buildTelem.bypClosed = s.bypShowsClosed ∧ s.buildTelem.held = s.spr.held ∧ s.buildTelem.slotSeq = (s.spr.slot.map (fun (y : Slot) => y.seq)).getD 0 ∧
    s.buildTelem.cellStatus = s.cellStatus ∧ s.buildTelem.vDc = s.vDc.toNat ∧ s.buildTelem.iStr = s.iStr ∧ s.buildTelem.pLimChg = s.pLim false ∧ s.buildTelem.pLimDis = s.pLim true :=
  ⟨rfl, rfl, rfl, rfl, rfl, rfl, rfl, rfl, rfl, rfl, rfl, rfl, rfl⟩

theorem telemLatch_latches {s : State} {dt : Nat} (hlive : s.live = true) (hr : s.role = .spring) (h0 : s.spr.tick ≠ 0) (hl : s.spr.latched ≠ s.spr.tick)
    (hd : 400 ≤ stampDiff (State.advance dt s).stamp s.spr.bound) :
    GoesTo (exec (.telemLatch dt) s) fun t => t.spr.latched = s.spr.tick ∧ (∃ x, t.spr.telem = some x ∧ x.spring = s.selfId ∧ x.tick = s.spr.tick ∧ x.epoch = s.aon.epoch ∧ x.blocked = s.blocked ∧
      x.mode = s.modeShown ∧ x.bypClosed = s.bypShowsClosed ∧ x.held = s.spr.held ∧ x.slotSeq = (s.spr.slot.map (fun (y : Slot) => y.seq)).getD 0 ∧ x.cellStatus = s.cellStatus ∧
      x.vDc = s.vDc.toNat ∧ x.iStr = s.iStr ∧ x.pLimChg = (State.advance dt s).pLim false ∧ x.pLimDis = (State.advance dt s).pLim true) ∧ t.get F.CELL_STATUS.STATUS = s.cellStatus % 65536 ∧
      t.gate.conflictSeen = false ∧ (∀ n < 6, (t.hb n).tripped = false) ∧ (s.packShowsClosed = false → t.aon = s.aon) ∧ s.RegsBut (F.CELL_STATUS.STATUS.off :: recCounters) t := by
  rw [telemLatch_eq]
  refine goesTo_spring hlive hr ?_
  rw [if_neg (by simp [h0, hl, hd]), confine_hull (by rw [hull_latchTelem, hull_telemBase]; rfl)]
  have hrole : (State.advance dt s).role = .spring := hr
  have hmode : (State.advance dt s).modeShown = s.modeShown := (rfl)
  obtain ⟨hshows, hepoch, haon, hregs⟩ := telemBase_shows (State.advance dt s)
  generalize (State.advance dt s).telemBase = u at hshows hepoch haon hregs
  obtain ⟨b1, b2, b3, b4, b5, b6, b7, b8, b9, b10, b11, b12, b13⟩ := buildTelem_fields u
  generalize u.buildTelem = x at b1 b2 b3 b4 b5 b6 b7 b8 b9 b10 b11 b12 b13
  obtain ⟨l1, l2, l3, l4, l5, l6⟩ := latchTelem_facts u x
  have htick : u.spr.tick = s.spr.tick := (congrArg SprSt.tick hshows.spr).trans rfl
  have hheld : u.spr.held = s.spr.held := (congrArg SprSt.held hshows.spr).trans rfl
  have hcell : x.cellStatus = s.cellStatus := b9.trans hshows.cellStatus
  have hseq : x.slotSeq = (s.spr.slot.map (fun (y : Slot) => y.seq)).getD 0 := b8.trans (by rw [hshows.slot]; rfl)
  refine ⟨(congrArg SprSt.latched l1).trans htick, ⟨x, congrArg SprSt.telem l1, b1.trans (hshows.selfId hrole), b2.trans htick, b3.trans hepoch, b4.trans hshows.blocked, (b5.trans hshows.modeShown).trans hmode,
    b6.trans hshows.bypShowsClosed, b7.trans hheld, hseq, hcell, ?_, ?_, b12.trans (hshows.pLim hrole false), b13.trans (hshows.pLim hrole true)⟩, l3.trans (by rw [hcell]), l4, l5,
    fun hp => l2.trans (haon hp), ?_⟩
  · exact b10.trans (congrArg Int.toNat (mapQ_congr hshows.get (by decide) _ _))
  · exact b11.trans (mapQ_congr hshows.get (by decide) _ _)
  · exact regsBut_trans (regsBut_wider (s := s) hregs fun o ho => List.mem_cons_of_mem _ ho) (regsBut_wider l6 fun o ho => List.mem_cons.mpr (.inl (List.mem_singleton.mp ho)))

/-! ### TICK_LOSS (R35, R134, R208) -/

/-- What a BLOCK forced by the tick does up to the flag: the soft-start ends, every channel goes low, a commissioning programme ends. -/
def State.allLow (s : State) (t : Nat) : State :=
  let s := if s.spr.pre then s.preStop 0 else s
  ((s.hbsLow [0, 1, 2, 3, 4, 5] t).uncommand [0, 1, 2, 3, 4, 5]).endTest t

theorem lowers_endTest (s : State) (t : Nat) : s.Lowers (s.endTest t) := by
  unfold State.endTest
  split
  · rename_i p _
    have h0 : s.Lowers { s with gate := { s.gate with test := none } } := .of_gate rfl rfl rfl
    exact ((h0.trans (lowers_modHb _ _ fun x => x.bothLow_lowers t)).trans (lowers_uncommand _ _)).trans (lowers_set _ _ _)
  · exact .same s

theorem preStop_view (s : State) (st : Nat) : (s.preStop st).ofTick = s.ofTick ∧ s.Lowers (s.preStop st) := by
  have h0 : State.ofTick { s with spr := { s.spr with pre := false } } = s.ofTick := ofTick_spr SprSt.ofTick_mk
  have l0 := lowers_spr s { s.spr with pre := false }
  unfold State.preStop
  dsimp only
  generalize ({ s with spr := { s.spr with pre := false } } : State) = u at h0 l0
  refine ⟨?_, ((l0.trans (lowers_hbsLow u _ _)).trans (lowers_uncommand _ _)).trans (lowers_set _ _ _)⟩
  rw [ofTick_set _ _ _ (by decide) (by decide), ofTick_uncommand, ofTick_hbsLow, h0]

theorem allLow_view (s : State) (t : Nat) : (s.allLow t).ofTick = s.ofTick ∧ s.Lowers (s.allLow t) ∧
    ∀ n < 6, ∀ hi, ((s.hb n).ch hi).ssd = false → (((s.allLow t).hb n).ch hi).on = false := by
  have hpre : (if s.spr.pre then s.preStop 0 else s).ofTick = s.ofTick ∧ s.Lowers (if s.spr.pre then s.preStop 0 else s) := by
    split
    · exact preStop_view s 0
    · exact ⟨rfl, .same s⟩
  unfold State.allLow
  dsimp only
  generalize (if s.spr.pre then s.preStop 0 else s) = u at hpre
  obtain ⟨hview, hlow⟩ := hpre
  have hafter := (lowers_uncommand (u.hbsLow [0, 1, 2, 3, 4, 5] t) [0, 1, 2, 3, 4, 5]).trans (lowers_endTest _ t)
  refine ⟨by rw [ofTick_endTest, ofTick_uncommand, ofTick_hbsLow, hview], (hlow.trans (lowers_hbsLow u _ t)).trans hafter, fun n hn hi hs => ?_⟩
  have hmem : n ∈ ([0, 1, 2, 3, 4, 5] : List Nat) := List.mem_range.mpr hn
  have hoff := hbsLow_low hmem t hi ((hlow.hbs n hi).1.trans hs)
  exact Bool.eq_false_iff.mpr fun e => Bool.eq_false_iff.mp hoff ((hafter.hbs n hi).2 e)

theorem ofTick_wired {s t : State} (h : s.Wired t) : t.gate = s.gate ∧ t.ofTick = s.ofTick := by
  rw [h]
  exact ⟨rfl, ofTick_of (rfl) (rfl) (rfl) (rfl)⟩

/-- A Weir of a Spring's own leaves by the lanes and in its registers. -/
theorem springWeir_keeps (s : State) (c : Nat) : (s.springWeir c).gate = s.gate ∧ (s.springWeir c).ofTick = s.ofTick := by
  have hlast : ∀ (u : State) (x : WeirSet), (u.weirLast x).gate = u.gate ∧ (u.weirLast x).ofTick = u.ofTick := by
    intro u x
    refine ⟨rfl, ?_⟩
    unfold State.weirLast
    iterate 5 rw [ofTick_set _ _ _ (by decide) (by decide)]
  have hsend : ∀ (ports : List Nat) (x : WeirSet) (u : State), (u.sendWeir ports x).gate = u.gate ∧ (u.sendWeir ports x).ofTick = u.ofTick := by
    intro ports x
    induction ports with
    | nil => exact fun u => ⟨rfl, rfl⟩
    | cons p l ih =>
      intro u
      have hone : (u.sendSets p true (List.replicate 3 (weirSet x))).gate = u.gate ∧ (u.sendSets p true (List.replicate 3 (weirSet x))).ofTick = u.ofTick :=
        ofTick_wired (laneOut_wired u p _ _)
      exact ⟨(ih _).1.trans hone.1, (ih _).2.trans hone.2⟩
  unfold State.springWeir
  dsimp only
  split
  · obtain ⟨g1, t1⟩ := hsend [0, 1] (s.newWeir 1 (s.get F.WEIR_SCFG.ARM_ID) c).2 (s.newWeir 1 (s.get F.WEIR_SCFG.ARM_ID) c).1
    obtain ⟨g2, t2⟩ := hlast (State.inc (State.sendWeir (s.newWeir 1 (s.get F.WEIR_SCFG.ARM_ID) c).1 [0, 1] (s.newWeir 1 (s.get F.WEIR_SCFG.ARM_ID) c).2) F.WEIR_TX_CNT.COUNT)
      (s.newWeir 1 (s.get F.WEIR_SCFG.ARM_ID) c).2
    refine ⟨?_, ?_⟩
    · rw [State.raise_gate, g2]
      exact g1
    · rw [ofTick_raise, t2, ofTick_inc _ _ (by decide) (by decide), t1]
      exact ofTick_of (rfl) (rfl) (rfl) (rfl)
  · exact ⟨rfl, rfl⟩

/-- The bypass command goes; the other commands, the cause and the half-bridges stand. -/
theorem bypRelease_gate (s : State) : s.bypRelease.gate.bypCmd = false ∧ s.bypRelease.gate.cause = s.gate.cause ∧ s.Lowers s.bypRelease := by
  unfold State.bypRelease
  split
  · dsimp only
    split
    · rw [State.raise_gate]
      exact ⟨rfl, rfl, .of_gate (by rw [State.raise_gate]; rfl) (by rw [State.raise_gate]; rfl) (by rw [State.raise_gate]; rfl)⟩
    · exact ⟨rfl, rfl, .of_gate rfl rfl rfl⟩
  · rename_i h
    exact ⟨by simpa using h, rfl, .same s⟩

/-- BLOCK and its cause, and what goes with them. -/
def State.blockSet (s : State) (cause : Nat) : State :=
  { s.set F.GATE_STATUS.BLOCK 1 with gate := { s.gate with cause := cause, ilk := false }, spr := { s.spr with mode := 0, dab := {} } }

/-- CELL_BLOCK, but where several trips have said so. -/
def State.blockSay (s : State) (cause : Nat) : State := if cause == cauMULTI then s else s.raiseBlock cause s.latchedTrips

/-- An active bypass ends with a Weir of its own. -/
def State.actEnd (s : State) : State := if s.gate.actByp then { s with gate := { s.gate with actByp := false } }.springWeir cauBYP else s

/-- What a BLOCK brings about once every channel is low. -/
def State.blockOn (s : State) (cause : Nat) : State := (((s.blockSet cause).bypRelease.springWeir cause).blockSay cause).actEnd

theorem enterBlock_eq {s : State} (h : s.blocked = false) (cause t : Nat) : s.enterBlock cause t = (s.allLow t).blockOn cause := by
  unfold State.enterBlock
  rw [if_neg (by simp [h])]
  rfl

/-- BLOCK is in force with a cause, the bypass released; slot, pack and half-bridges stand or are lower. -/
structure State.BlockedBy (s : State) (cause : Nat) (t : State) : Prop where
  block : t.get F.GATE_STATUS.BLOCK = 1
  cause : t.gate.cause = cause
  byp : t.gate.bypCmd = false
  pack : t.gate.packCmd = s.gate.packCmd
  slot : t.spr.slot = s.spr.slot
  hbs : ∀ n, (s.hb n).Lowers (t.hb n)

theorem State.BlockedBy.stays {s t u : State} {cause : Nat} (h : s.BlockedBy cause t) (hg : u.gate = t.gate) (hv : u.ofTick = t.ofTick) : s.BlockedBy cause u where
  block := (congrArg (fun w : TickView => w.2.1) hv).trans h.block
  cause := by rw [hg]; exact h.cause
  byp := by rw [hg]; exact h.byp
  pack := by rw [hg]; exact h.pack
  slot := ((congrArg (fun w : TickView => w.1.slot) hv).trans rfl).trans h.slot
  hbs := fun n => by
    have e : u.hb n = t.hb n := by rw [State.hb, hg, State.hb]
    rw [e]
    exact h.hbs n

theorem blockSet_blocks (s : State) (cause : Nat) : s.BlockedBy cause (s.blockSet cause).bypRelease := by
  have hblock : (s.blockSet cause).get F.GATE_STATUS.BLOCK = 1 := State.get_set_same s F.GATE_STATUS.BLOCK 1 rfl
  have hgate : (s.blockSet cause).gate = { s.gate with cause := cause, ilk := false } := rfl
  have hslot : (s.blockSet cause).spr.slot = s.spr.slot := rfl
  generalize s.blockSet cause = u at hblock hgate hslot
  have hhb : ∀ n, u.hb n = s.hb n := fun n => by rw [State.hb, hgate, State.hb]
  obtain ⟨hbyp, hcause, hlow⟩ := bypRelease_gate u
  have hview := ofTick_bypRelease u
  refine ⟨(congrArg (fun w : TickView => w.2.1) hview).trans hblock, hcause.trans (by rw [hgate]), hbyp, hlow.pack.trans (by rw [hgate]),
    ((congrArg (fun w : TickView => w.1.slot) hview).trans rfl).trans hslot, fun n => ?_⟩
  rw [← hhb n]
  exact hlow.hbs n

section

variable {s t : State} {cause : Nat} (h : s.BlockedBy cause t)
include h

theorem springWeir_blocks (c : Nat) : s.BlockedBy cause (t.springWeir c) := h.stays (springWeir_keeps t c).1 (springWeir_keeps t c).2

theorem blockSay_blocks : s.BlockedBy cause (t.blockSay cause) := by
  unfold State.blockSay State.raiseBlock
  split
  · exact h
  · exact h.stays (State.raise_gate _ _ _) (ofTick_raise _ _ _)

theorem actEnd_blocks : s.BlockedBy cause t.actEnd := by
  unfold State.actEnd
  split
  · have h' : s.BlockedBy cause { t with gate := { t.gate with actByp := false } } := ⟨h.block, h.cause, h.byp, h.pack, h.slot, h.hbs⟩
    exact springWeir_blocks h' cauBYP
  · exact h

end

theorem blockOn_blocks (s : State) (cause : Nat) : s.BlockedBy cause (s.blockOn cause) := actEnd_blocks (blockSay_blocks (springWeir_blocks (blockSet_blocks s cause) cause))

theorem tickLoss_eq (dt : Nat) (s : State) : exec (.tickLoss dt) s = onSpring s fun s =>
    if 3 ≤ s.spr.missed && !s.blocked then
      ((State.advance dt s).raise Ev.TICK_LOSS [s.get F.CTL_SPR_TICK.TICK, s.sprPeriod]).enterBlock cauTICK ((State.advance dt s).now 0)
    else State.advance dt s := (rfl)

theorem tickLoss_blocks {s : State} {dt : Nat} (hlive : s.live = true) (hr : s.role = .spring) (h3 : 3 ≤ s.spr.missed) (hb : s.blocked = false) :
    GoesTo (exec (.tickLoss dt) s) fun t => t.blocked = true ∧ t.gate.cause = cauTICK ∧ t.gate.bypCmd = false ∧ t.gate.packCmd = s.gate.packCmd ∧ t.spr.slot = s.spr.slot ∧
      (∀ n < 6, ((s.hb n).hi.ssd = false → (t.hb n).hi.on = false) ∧ ((s.hb n).lo.ssd = false → (t.hb n).lo.on = false)) := by
  rw [tickLoss_eq]
  refine goesTo_spring hlive hr ?_
  rw [if_pos (by simp [h3, hb]), confine_hull (by simp)]
  have hspr := State.raise_spr (State.advance dt s) Ev.TICK_LOSS [s.get F.CTL_SPR_TICK.TICK, s.sprPeriod]
  have hgate := State.raise_gate (State.advance dt s) Ev.TICK_LOSS [s.get F.CTL_SPR_TICK.TICK, s.sprPeriod]
  have hflag := State.raise_get (State.advance dt s) Ev.TICK_LOSS [s.get F.CTL_SPR_TICK.TICK, s.sprPeriod] F.GATE_STATUS.BLOCK rfl
  generalize (State.advance dt s).raise Ev.TICK_LOSS [s.get F.CTL_SPR_TICK.TICK, s.sprPeriod] = u at hspr hgate hflag
  have hhb : ∀ n, u.hb n = s.hb n := fun n => by rw [State.hb, hgate]; rfl
  rw [enterBlock_eq ((blocked_of hflag).trans hb)]
  obtain ⟨hview, hlow, hoff⟩ := allLow_view u ((State.advance dt s).now 0)
  have hby := blockOn_blocks (u.allLow ((State.advance dt s).now 0)) cauTICK
  generalize u.allLow ((State.advance dt s).now 0) = v at hview hlow hoff hby
  have hend : ∀ n < 6, ∀ hi, ((s.hb n).ch hi).ssd = false → (((v.blockOn cauTICK).hb n).ch hi).on = false := by
    intro n hn hi hs
    rw [← hhb n] at hs
    exact Bool.eq_false_iff.mpr fun e => Bool.eq_false_iff.mp (hoff n hn hi hs) ((hby.hbs n hi).2 e)
  have hslot : v.spr.slot = u.spr.slot := (congrArg (fun w : TickView => w.1.slot) hview).trans rfl
  refine ⟨by rw [State.blocked, State.flag, hby.block]; rfl, hby.cause, hby.byp, (hby.pack.trans hlow.pack).trans (by rw [hgate]; rfl), (hby.slot.trans hslot).trans (by rw [hspr]; rfl),
    fun n hn => ⟨hend n hn true, hend n hn false⟩⟩

theorem tickLoss_idle {s : State} {dt : Nat} (hlive : s.live = true) (hr : s.role = .spring) (h : s.spr.missed < 3 ∨ s.blocked = true) :
    GoesTo (exec (.tickLoss dt) s) fun t => t = State.advance dt s := by
  rw [tickLoss_eq]
  refine goesTo_spring hlive hr ?_
  rw [if_neg]
  · exact confine_hull (by simp)
  · rcases h with h | h
    · simp [Nat.not_le.mpr h]
    · simp [h]

end Sys2Proof.Machine
end

section
/-! PROOFS. A TICK frame heard by a Spring: what its header brings about, and what it leaves (R199, R243, R283, R379, R518, R541). -/
namespace Sys2Proof.Machine

/-! ### What heeding a header may change -/

/-- Registers that a header's holds, the soft-start it commands, a staged push dropped and records of another Basin's may change. -/
def heedReg (o : Nat) : Bool :=
  hostReg o || [F.WEIR_SSTAT.ARM_HOLD.off, F.WEIR_HOLD_IN.STAMP.off, F.WEIR_STN_IN.STAMP.off, F.WEIR_MISS_CNT.COUNT.off, F.GATE_STATUS.TEST_BUSY.off, F.CMN_PRECHG.STATE.off].contains o

/-- Beside some registers, the tick's numbers, the time and every register stand. -/
structure State.Heeds (reg : Nat → Bool) (s t : State) : Prop where
  spr : t.spr.ofTick = s.spr.ofTick
  time : t.time = s.time
  role : t.role = s.role
  regs : ∀ o, reg o = false → t.rd o = s.rd o

namespace State.Heeds

variable {reg : Nat → Bool}

theorem same (s : State) : s.Heeds reg s := ⟨rfl, rfl, rfl, fun _ _ => rfl⟩

theorem trans {s t u : State} (h : s.Heeds reg t) (k : t.Heeds reg u) : s.Heeds reg u :=
  ⟨k.spr.trans h.spr, k.time.trans h.time, k.role.trans h.role, fun o ho => (k.regs o ho).trans (h.regs o ho)⟩

theorem foldl {α : Type} {g : State → α → State} (h : ∀ s x, State.Heeds reg s (g s x)) (l : List α) (s : State) : s.Heeds reg (l.foldl g s) := by
  induction l generalizing s with
  | nil => exact same s
  | cons x t ih => exact (h s x).trans (ih _)

theorem wider {s t : State} {reg' : Nat → Bool} (h : s.Heeds reg t) (hr : ∀ o, reg o = true → reg' o = true) : s.Heeds reg' t :=
  ⟨h.spr, h.time, h.role, fun o ho => h.regs o (Bool.eq_false_iff.mpr fun e => Bool.eq_false_iff.mp ho (hr o e))⟩

theorem hosted {s t : State} (h : s.Hosted t) : s.Heeds hostReg t := ⟨congrArg SprSt.ofTick h.spr, h.time, h.role, fun _ ho => h.rd ho⟩

theorem get {s t : State} (h : s.Heeds reg t) {f : Fld} (hf : reg f.off = false) : t.get f = s.get f := by rw [State.get, h.regs _ hf, State.get]

end State.Heeds

section

variable {reg : Nat → Bool} (s : State)

theorem heeds_set (f : Fld) (v : Nat) (h : reg f.off = true) : s.Heeds reg (s.set f v) := by
  refine ⟨rfl, rfl, rfl, fun o ho => State.rd_set_other s f v o ?_⟩
  rintro rfl
  rw [h] at ho
  cases ho

theorem heeds_raise (c : Nat) (p : List Nat) (h : ∀ o ∈ recCounters, reg o = true) : s.Heeds reg (s.raise c p) := by
  refine ⟨by rw [State.raise_spr], State.raise_time _ _ _, State.raise_role _ _ _, fun o ho => regsBut_raise s c p recCounters (fun o ho => ho) o fun hm => ?_⟩
  rw [h o hm] at ho
  cases ho

theorem heeds_gate (g : GateSt) : s.Heeds reg { s with gate := g } := ⟨rfl, rfl, rfl, fun _ _ => rfl⟩

theorem heeds_spr {x : SprSt} (h : x.ofTick = s.spr.ofTick) : s.Heeds reg { s with spr := x } := ⟨h, rfl, rfl, fun _ _ => rfl⟩

theorem heeds_hbsLow (ns : List Nat) (t : Nat) : s.Heeds reg (s.hbsLow ns t) := .foldl (fun s _ => heeds_gate s _) ns s

theorem heeds_uncommand (ns : List Nat) : s.Heeds reg (s.uncommand ns) := .foldl (fun s _ => heeds_gate s _) ns s

/-! ### Holds (R199) -/

theorem heeds_endTest (t : Nat) : s.Heeds (· == F.GATE_STATUS.TEST_BUSY.off) (s.endTest t) := by
  unfold State.endTest
  split
  · exact (((heeds_gate s _).trans (heeds_gate _ _)).trans (heeds_uncommand _ _)).trans (heeds_set _ F.GATE_STATUS.TEST_BUSY 0 (by decide))
  · exact .same s

theorem heeds_holdLow (t : Nat) : s.Heeds (· == F.GATE_STATUS.TEST_BUSY.off) (s.holdLow t) := by
  refine State.Heeds.trans (.foldl (fun s n => ?_) _ s) (heeds_endTest _ t)
  split
  · exact heeds_gate s _
  · exact .same s

end

/-- A hold that a header shows and no Weir brought: its flag and stamp, its channels low, a Weir counted as missed (R199). -/
def State.holdMissed (s : State) (flag stamp : Fld) (t : Nat) (p : List Nat) : State :=
  ((((s.set flag 1).set stamp s.stamp).holdLow t).inc F.WEIR_MISS_CNT.COUNT).raise Ev.WEIR_MISS p

theorem heeds_holdMissed (s : State) {flag stamp : Fld} (t : Nat) (p : List Nat) (hf : heedReg flag.off = true) (hs : heedReg stamp.off = true) : s.Heeds heedReg (s.holdMissed flag stamp t p) := by
  have hlow : ∀ u : State, u.Heeds heedReg (u.holdLow t) := fun u => (heeds_holdLow u t).wider fun o ho => by
    obtain rfl := beq_iff_eq.mp ho
    decide
  exact ((((heeds_set s flag 1 hf).trans (heeds_set _ stamp _ hs)).trans (hlow _)).trans (heeds_set _ F.WEIR_MISS_CNT.COUNT _ (by decide))).trans (heeds_raise _ _ _ (by decide))

/-- Of the fields that stand apart only the flag shows it. -/
theorem holdMissed_get (s : State) {flag stamp f : Fld} (t : Nat) (p : List Nat) (hf : f.off = F.WEIR_SSTAT.ARM_HOLD.off) (hs : stamp.off ≠ f.off) :
    (s.holdMissed flag stamp t p).get f = (s.set flag 1).get f := by
  have hq : f.quiet = true := by
    rw [Fld.quiet, hf]
    decide
  have hmiss : f.off ≠ F.WEIR_MISS_CNT.COUNT.off := by
    rw [hf]
    decide
  have hlow := (heeds_holdLow ((s.set flag 1).set stamp s.stamp) t).get (f := f) (by rw [hf]; decide)
  unfold State.holdMissed
  rw [State.raise_get _ _ _ _ hq, State.get, State.inc, State.addSat, State.rd_set_other _ _ _ _ hmiss, ← State.get, hlow, State.get, State.rd_set_other _ _ _ _ hs.symm, ← State.get]

/-- The arm's hold of a header. -/
def State.armHolds (s : State) (h : TickHdr) : State :=
  if s.get F.WEIR_SCFG.ARM_ID < 12 && h.weirHold.testBit (s.get F.WEIR_SCFG.ARM_ID) && !s.armHeld then
    s.holdMissed F.WEIR_SSTAT.ARM_HOLD F.WEIR_HOLD_IN.STAMP (s.now 0) [s.get F.WEIR_SCFG.ARM_ID, h.tick]
  else s

/-- The station's hold of a header. -/
def State.stnHolds (s : State) (h : TickHdr) (t : Nat) : State :=
  if h.weirStn && !s.stnHeld then s.holdMissed F.WEIR_SSTAT.STN_HOLD F.WEIR_STN_IN.STAMP t [0xF, h.tick] else s

theorem headerHolds_eq (s : State) (h : TickHdr) : s.headerHolds h = (s.armHolds h).stnHolds h (s.now 0) := by
  have harm : (if (decide (s.get F.WEIR_SCFG.ARM_ID < 12) && h.weirHold.testBit (s.get F.WEIR_SCFG.ARM_ID) && !s.armHeld) = true then
      ((s.enterArmHold (s.now 0)).inc F.WEIR_MISS_CNT.COUNT).raise Ev.WEIR_MISS [s.get F.WEIR_SCFG.ARM_ID, h.tick] else s) = s.armHolds h := by
    unfold State.armHolds State.enterArmHold
    cases s.armHeld <;> simp [State.holdMissed]
  have hstn : ∀ u : State, ∀ t, (if (h.weirStn && !u.stnHeld) = true then ((u.enterStnHold t).inc F.WEIR_MISS_CNT.COUNT).raise Ev.WEIR_MISS [0xF, h.tick] else u) = u.stnHolds h t := by
    intro u t
    unfold State.stnHolds State.enterStnHold
    cases u.stnHeld <;> simp [State.holdMissed]
  rw [← harm, ← hstn]
  rfl

theorem heeds_headerHolds (s : State) (h : TickHdr) : s.Heeds heedReg (s.headerHolds h) := by
  rw [headerHolds_eq]
  refine State.Heeds.trans (t := s.armHolds h) ?_ ?_
  · unfold State.armHolds
    split
    · exact heeds_holdMissed s _ _ (by decide) (by decide)
    · exact .same s
  · unfold State.stnHolds
    split
    · exact heeds_holdMissed _ _ _ (by decide) (by decide)
    · exact .same _

theorem get_of_flag {s : State} {f : Fld} (hw : f.w = 1) (h : s.flag f = true) : s.get f = 1 := by
  have hlt : s.get f < 2 ^ 1 := hw ▸ s.get_lt f
  have hne : s.get f ≠ 0 := by simpa [State.flag] using h
  omega

/-- A header's holds are in force after it. -/
theorem headerHolds_held (s : State) (h : TickHdr) :
    (s.get F.WEIR_SCFG.ARM_ID < 12 → h.weirHold.testBit (s.get F.WEIR_SCFG.ARM_ID) = true → (s.headerHolds h).get F.WEIR_SSTAT.ARM_HOLD = 1) ∧
      (h.weirStn = true → (s.headerHolds h).get F.WEIR_SSTAT.STN_HOLD = 1) := by
  rw [headerHolds_eq]
  refine ⟨fun ha hb => ?_, fun hw => ?_⟩
  · have harm : (s.armHolds h).get F.WEIR_SSTAT.ARM_HOLD = 1 := by
      unfold State.armHolds
      cases hheld : s.armHeld with
      | true => simpa [hheld] using get_of_flag rfl hheld
      | false =>
        rw [if_pos (by simp [ha, hb]), holdMissed_get _ _ _ rfl (by decide)]
        exact State.get_set_same _ _ _ rfl
    unfold State.stnHolds
    split
    · rw [holdMissed_get _ _ _ rfl (by decide), State.get_set_apart _ _ _ _ rfl (by decide), harm]
    · exact harm
  · unfold State.stnHolds
    cases hheld : (s.armHolds h).stnHeld with
    | true => simpa [hw, hheld] using get_of_flag rfl hheld
    | false =>
      rw [if_pos (by simp [hw]), holdMissed_get (f := F.WEIR_SSTAT.STN_HOLD) _ _ _ rfl (by decide)]
      exact State.get_set_same _ _ _ rfl

/-! ### The soft-start (R541) -/

/-- Registers that the soft-start may change. -/
def preReg (o : Nat) : Bool := o == F.CMN_PRECHG.STATE.off || recCounters.contains o

theorem preReg_heed {o : Nat} (h : preReg o = true) : heedReg o = true := by
  simp only [preReg, Bool.or_eq_true, beq_iff_eq, List.contains_iff_mem, recCounters, List.mem_cons, List.not_mem_nil, or_false] at h
  rcases h with rfl | rfl | rfl <;> decide

theorem heeds_preStop (s : State) (st : Nat) : s.Heeds preReg (s.preStop st) :=
  (((heeds_spr s SprSt.ofTick_mk).trans (heeds_hbsLow _ _ _)).trans (heeds_uncommand _ _)).trans (heeds_set _ F.CMN_PRECHG.STATE st (by decide))

/-- The soft-start goes on, ends or begins. -/
def State.preGoes (s : State) : State :=
  if s.spr.pre then
    if s.preTarget ≤ s.vDc then (s.preStop preDONE).raise Ev.PRECHG_DONE [s.vDc.toNat, (s.time.cyc - s.spr.preAt) / 500000]
    else if s.preMay then s else s.preStop 0
  else
    let low := if s.get F.CMN_PRECHG.STATE == preDONE then decide (s.vDc < s.preTarget - 400) else decide (s.vDc < s.preTarget)
    if s.preMay && !([4, 5].any s.isTripped) && low && !s.spr.preFailed then
      ((({ s with spr := { s.spr with pre := true, preAt := s.time.cyc, prePer := s.get F.CTL_DAB_PER.PER, dab := {} } }).hbsLow [2, 3, 4, 5] (s.now 0)).uncommand
        [2, 3, 4, 5]).set F.CMN_PRECHG.STATE preRUN
    else s

theorem precharge_eq (s : State) : s.precharge = if s.role != .spring then s else
    (if s.stationSeen == 1 || s.stationSeen == 2 then s else { s with spr := { s.spr with preFailed := false } }).preGoes := (rfl)

theorem heeds_preGoes (s : State) : s.Heeds preReg s.preGoes := by
  unfold State.preGoes
  split
  · split
    · exact (heeds_preStop s _).trans (heeds_raise _ _ _ (by decide))
    · split
      · exact .same s
      · exact heeds_preStop s _
  · dsimp only
    generalize (if (s.get F.CMN_PRECHG.STATE == preDONE) = true then decide (s.vDc < s.preTarget - 400) else decide (s.vDc < s.preTarget)) = low
    split
    · exact (((heeds_spr s SprSt.ofTick_mk).trans (heeds_hbsLow _ _ _)).trans (heeds_uncommand _ _)).trans (heeds_set _ F.CMN_PRECHG.STATE preRUN (by decide))
    · exact .same s

theorem heeds_precharge (s : State) : s.Heeds preReg s.precharge := by
  rw [precharge_eq]
  split
  · exact .same s
  · refine State.Heeds.trans ?_ (heeds_preGoes _)
    split
    · exact .same s
    · exact heeds_spr s SprSt.ofTick_mk

/-! ### Another Basin's header (R373, R518) -/

theorem hosted_newKey (s : State) (h : TickHdr) : s.Hosted (s.newKey h) := by
  unfold State.newKey
  split
  · exact .same s
  · split
    · exact .same s
    · unfold State.dropStaged
      exact ((hosted_hidden rfl).trans (hosted_set _ F.TBL_STATUS.PUSHING 0 (by decide))).trans (hosted_set _ F.TBL_STATUS.STAGED 0 (by decide))

theorem hosted_newSide (s : State) (h : TickHdr) : s.Hosted (s.newSide h) := by
  unfold State.newSide
  split
  · exact .same s
  · split
    · exact .same s
    · exact (hosted_setPeer s _).trans (hosted_ownersFail _ _)

/-! ### The header's time (R283) -/

/-- The time of day set from outside. -/
def State.clocked (s : State) (off : Int) (valid : Bool) : State :=
  { s with time := { s.time with todOff := off, todValid := valid, ppsHigh := s.time.ppsHigh && valid } }

/-- The distance from the device's time to the time of day that a header gives (R283). -/
def State.headerOff (s : State) (h : TickHdr) : Int := ((h.todSec * 1000000000 + h.todNs : Nat) : Int) - ((s.time.ext : Int) + stampDiff h.bound s.stamp)

theorem headerTime_eq (s : State) (h : TickHdr) : s.headerTime h =
    if s.role == .spring && !(s.clocked (s.headerOff h) h.todValid).flag F.TIME_STATUS.LOADED then s.clocked (s.headerOff h) h.todValid
    else (s.clocked (s.headerOff h) h.todValid).set F.TIME_STATUS.EPOCH (h.epoch % 65536) := (rfl)

theorem clocked_facts (s : State) (off : Int) (valid : Bool) : (s.clocked off valid).role = s.role ∧ (s.clocked off valid).time.ext = s.time.ext ∧
    (s.clocked off valid).time.todValid = valid ∧ (s.clocked off valid).time.todOff = off ∧ ∀ o, (s.clocked off valid).rd o = s.rd o :=
  ⟨rfl, rfl, rfl, rfl, fun o => State.rd_congr rfl rfl rfl o⟩

theorem headerTime_facts {s : State} (hr : s.role = .spring) (h : TickHdr) : (s.headerTime h).time.ext = s.time.ext ∧
    (s.headerTime h).time.todValid = h.todValid ∧ (s.headerTime h).time.todOff = s.headerOff h ∧
    (∀ o, o ≠ F.TIME_STATUS.EPOCH.off → (s.headerTime h).rd o = s.rd o) ∧ (s.get F.TIME_STATUS.LOADED = 1 → (s.headerTime h).get F.TIME_STATUS.EPOCH = h.epoch % 65536) := by
  rw [headerTime_eq]
  generalize s.headerOff h = off
  obtain ⟨-, hext, hvalid, hoff, hrd⟩ := clocked_facts s off h.todValid
  generalize s.clocked off h.todValid = u at hext hvalid hoff hrd
  split
  · rename_i hl
    refine ⟨hext, hvalid, hoff, fun o _ => hrd o, fun h1 => ?_⟩
    have h1' : u.get F.TIME_STATUS.LOADED = 1 := by rw [State.get, hrd, ← State.get, h1]
    simp [State.flag, h1', hr] at hl
  · exact ⟨hext, hvalid, hoff, fun o ho => (State.rd_set_other u _ _ o ho).trans (hrd o), fun _ => (State.get_set_same u F.TIME_STATUS.EPOCH _ rfl).trans (Nat.mod_mod _ _)⟩

/-! ### The header heeded -/

/-- What an accepted header brings about. -/
def State.heeded (s : State) (h : TickHdr) (p : Nat) : State :=
  let s := ((s.newKey h).newSide h).headerHolds h
  let s := { s with lnk := { s.lnk with tickPort := some p } }
  ({ (s.headerTime h) with spr := { s.spr with hdr := some h } }).precharge

/-- The tick, the time and the holds that an accepted header leaves. -/
structure State.Follows (s : State) (h : TickHdr) (t : State) : Prop where
  spr : t.spr.ofTick = { s.spr.ofTick with hdr := some h }
  ext : t.time.ext = s.time.ext
  valid : t.time.todValid = h.todValid
  off : t.time.todOff = s.headerOff h
  regs : ∀ o, heedReg o = false → o ≠ F.TIME_STATUS.EPOCH.off → t.rd o = s.rd o
  epoch : s.get F.TIME_STATUS.LOADED = 1 → t.get F.TIME_STATUS.EPOCH = h.epoch % 65536
  arm : s.get F.WEIR_SCFG.ARM_ID < 12 → h.weirHold.testBit (s.get F.WEIR_SCFG.ARM_ID) = true → t.get F.WEIR_SSTAT.ARM_HOLD = 1
  stn : h.weirStn = true → t.get F.WEIR_SSTAT.STN_HOLD = 1

theorem heeded_follows {s : State} (hr : s.role = .spring) (h : TickHdr) (p : Nat) : s.Follows h (s.heeded h p) := by
  have hside : s.Heeds heedReg ((s.newKey h).newSide h) := (State.Heeds.hosted ((hosted_newKey s h).trans (hosted_newSide _ h))).wider fun o ho => by simp [heedReg, ho]
  obtain ⟨harm, hstn⟩ := headerHolds_held ((s.newKey h).newSide h) h
  have hheld := hside.trans (heeds_headerHolds _ h)
  have hid : ((s.newKey h).newSide h).get F.WEIR_SCFG.ARM_ID = s.get F.WEIR_SCFG.ARM_ID := hside.get (by decide)
  rw [hid] at harm
  unfold State.heeded
  generalize ((s.newKey h).newSide h).headerHolds h = u at harm hstn hheld
  dsimp only
  generalize hv : ({ u with lnk := { u.lnk with tickPort := some p } } : State) = v
  have hvrole : v.role = .spring := by rw [← hv]; exact hheld.role.trans hr
  have hvrd : ∀ o, v.rd o = u.rd o := fun o => by rw [← hv]; rfl
  have hvget : ∀ f, v.get f = u.get f := fun f => by rw [State.get, hvrd, State.get]
  have hvtime : v.time = s.time := by rw [← hv]; exact hheld.time
  obtain ⟨text, tvalid, toff, trd, tepoch⟩ := headerTime_facts hvrole h
  have hpre := heeds_precharge { v.headerTime h with spr := { u.spr with hdr := some h } }
  generalize v.headerTime h = w at text tvalid toff trd tepoch hpre
  have hwget : ∀ {f : Fld}, f.off ≠ F.TIME_STATUS.EPOCH.off → preReg f.off = false → (State.precharge { w with spr := { u.spr with hdr := some h } }).get f = u.get f := by
    intro f hf hp
    refine (hpre.get hp).trans ?_
    change w.get f = u.get f
    rw [State.get, trd _ hf, ← State.get, hvget]
  have hstamp : v.stamp = s.stamp := by rw [State.stamp, hvtime, State.stamp]
  refine ⟨hpre.spr.trans ?_, ?_, ?_, ?_, fun o ho hne => ?_, fun hl => ?_, fun ha hb => ?_, fun hs => ?_⟩
  · exact congrArg (fun x : SprSt => { x with hdr := some h }) hheld.spr
  · rw [hpre.time]
    exact text.trans (by rw [hvtime])
  · rw [hpre.time]
    exact tvalid
  · rw [hpre.time]
    exact toff.trans (by rw [State.headerOff, State.headerOff, hvtime, hstamp])
  · exact (hpre.regs o (Bool.eq_false_iff.mpr fun e => Bool.eq_false_iff.mp ho (preReg_heed e))).trans ((trd o hne).trans ((hvrd o).trans (hheld.regs o ho)))
  · exact (hpre.get (by decide)).trans (tepoch (by rw [hvget, hheld.get (by decide), hl]))
  · exact (hwget (by decide) (by decide)).trans (harm ha hb)
  · exact (hwget (by decide) (by decide)).trans (hstn hs)

end Sys2Proof.Machine
end

section
/-! PROOFS. TICK frames at a Spring: accepted, late, one too many, another chain's (R44, R199, R243, R379, R380). -/
namespace Sys2Proof.Machine

/-! ### Claim keys (R379) -/

theorem keyHigher_self (c : Nat) (x : Side) : keyHigher c x c x = false := by
  have hd : (c + 65536 - c % 65536) % 65536 = 0 := by omega
  cases x <;> simp [keyHigher, hd]

theorem keepKey_keeps (s : State) (h : TickHdr) : (s.keepKey h).spr.ofTick = s.spr.ofTick ∧ (s.keepKey h).role = s.role ∧ (s.keepKey h).time = s.time ∧ ∀ o, (s.keepKey h).rd o = s.rd o :=
  ⟨SprSt.ofTick_mk, rfl, rfl, fun o => State.rd_congr rfl rfl rfl o⟩

/-- No key of four ticks is higher. -/
theorem keyHighest_keepKey {s : State} {h : TickHdr}
    (hk : ∀ k ∈ s.spr.keys, keyHigher k.1 k.2.1 h.claim h.side = false ∨ k.2.2 + fourTicks (if s.sprPeriod = 0 then h.period else s.sprPeriod) < s.time.cyc) :
    (s.keepKey h).keyHighest h = true := by
  simp only [State.keyHighest, State.keepKey, List.all_eq_true, List.mem_append, List.mem_filter, List.mem_singleton, Bool.and_eq_true, decide_eq_true_eq, Bool.not_eq_true']
  rintro k (⟨hmem, hle, -⟩ | rfl)
  · exact (hk k hmem).resolve_right (Nat.not_lt.mpr hle)
  · exact keyHigher_self _ _

/-! ### The frame for the next tick (R44, R243, R380) -/

/-- The slot of the frame for a position. -/
def frameSlot (f : TickFrame) (pos : Nat) : Option Slot := if pos ≤ f.hdr.nslot then f.slots[pos - 1]? else none

/-- A whole frame for the tick is not held already, unless this one's key is higher. -/
def State.mayGovern (s : State) (f : TickFrame) : Prop :=
  ∀ n, s.spr.next = some n → n.slot = none ∨ n.hdr.tick ≠ f.hdr.tick ∨ keyHigher f.hdr.claim f.hdr.side n.hdr.claim n.hdr.side = true

/-- The whole frame held governs this one. -/
def State.governed (s : State) (f : TickFrame) : Bool := match s.spr.next with
  | some n => n.hdr.tick == f.hdr.tick && n.slot.isSome && !(n.hdr.tick == f.hdr.tick && keyHigher f.hdr.claim f.hdr.side n.hdr.claim n.hdr.side)
  | none => false

theorem governed_of_mayGovern {s : State} {f : TickFrame} (h : s.mayGovern f) : s.governed f = false := by
  unfold State.governed
  cases hn : s.spr.next with
  | none => rfl
  | some n =>
    rcases h n hn with h | h | h
    · simp [h]
    · simp [h]
    · by_cases ht : n.hdr.tick = f.hdr.tick <;> simp [h, ht]

theorem takeFrame_eq (s : State) (f : TickFrame) : s.takeFrame f true =
    if s.get F.LNK_SPOS.POSITION = 0 then s
    else if s.governed f then s
    else if 1000 ≤ stampDiff f.hdr.bound s.stamp then
      { s with spr := { s.spr with next := some ⟨f.hdr, frameSlot f (s.get F.LNK_SPOS.POSITION)⟩, arrived := if (frameSlot f (s.get F.LNK_SPOS.POSITION)).isNone then some s.stamp else s.spr.arrived } }
    else State.tickLate { s with spr := { s.spr with next := some ⟨f.hdr, none⟩, arrived := some s.stamp } } f.hdr.tick := by
  have hslot : (if (true && decide (s.get F.LNK_SPOS.POSITION ≤ f.hdr.nslot)) = true then f.slots[s.get F.LNK_SPOS.POSITION - 1]? else none) = frameSlot f (s.get F.LNK_SPOS.POSITION) := by
    simp [frameSlot]
  unfold State.takeFrame State.governed
  dsimp only
  rw [hslot]
  cases hn : s.spr.next with
  | none => simp only [decide_eq_true_eq, Bool.false_eq_true, if_false]
  | some n => simp only [decide_eq_true_eq]

/-! ### A header accepted (R199, R243, R283, R379) -/

theorem tickRx_eq (dt : Nat) (port : Fin 2) (bs : List Block) (s : State) : exec (.tickRx dt port bs) s = onSpring s fun s =>
    let u := (State.advance dt s).hearFrame port (hear bs)
    if ftypeOf (hear bs).bytes != ftTICK || !hdrOk (hear bs).bytes || !u.flag F.LNK_SPOS.ENROLLED || (tickOf (hear bs).bytes).chain != u.get F.LNK_SPOS.INDEX / 16 then u
    else if !(u.keepKey (tickOf (hear bs).bytes).hdr).keyHighest (tickOf (hear bs).bytes).hdr then u.keepKey (tickOf (hear bs).bytes).hdr
    else
      let w := (u.keepKey (tickOf (hear bs).bytes).hdr).heeded (tickOf (hear bs).bytes).hdr port.val
      if stampDiff (tickOf (hear bs).bytes).hdr.bound w.spr.bound ≤ 0 && w.spr.tick != 0 then w else w.takeFrame (tickOf (hear bs).bytes) (hear bs).good := (rfl)

/-- The state in which an accepted frame is taken: time has passed, the header is heeded, and the rest of the tick stands. -/
structure State.Heard (s : State) (dt : Nat) (h : TickHdr) (w : State) : Prop where
  spr : w.spr.ofTick = { s.spr.ofTick with hdr := some h }
  stamp : w.stamp = (State.advance dt s).stamp
  valid : w.time.todValid = h.todValid
  tod : w.todNsTotal = ((h.todSec * 1000000000 + h.todNs : Nat) - stampDiff h.bound (State.advance dt s).stamp : Int).toNat
  get : ∀ f : Fld, heedReg f.off = false → 0xB000 ≤ f.off → w.get f = s.get f
  epoch : s.get F.TIME_STATUS.LOADED = 1 → w.get F.TIME_STATUS.EPOCH = h.epoch % 65536
  arm : ∀ a, s.get F.WEIR_SCFG.ARM_ID = a → a < 12 → h.weirHold.testBit a = true → w.get F.WEIR_SSTAT.ARM_HOLD = 1
  stn : h.weirStn = true → w.get F.WEIR_SSTAT.STN_HOLD = 1

theorem loaded_notMem_hearRegs (p : Fin 2) : F.TIME_STATUS.LOADED.off ∉ hearRegs p := by
  revert p
  decide

theorem heeded_heard {s u : State} {dt : Nat} {port : Fin 2} {h : TickHdr} (hu : (State.advance dt s).Counted port u) (hr : s.role = .spring) :
    s.Heard dt h ((u.keepKey h).heeded h port.val) := by
  have hport : port.val < 12 := Nat.lt_trans port.isLt (by decide)
  have hspr : u.spr = s.spr := (congrArg State.spr hu.1).trans rfl
  have htime : u.time = (State.advance dt s).time := hu.time
  obtain ⟨kspr, krole, ktime, krd⟩ := keepKey_keeps u h
  have kget : ∀ f, (u.keepKey h).get f = u.get f := fun f => by rw [State.get, krd, State.get]
  have kstamp : (u.keepKey h).stamp = (State.advance dt s).stamp := by rw [State.stamp, ktime, htime, State.stamp]
  have hloaded : u.get F.TIME_STATUS.LOADED = s.get F.TIME_STATUS.LOADED := hu.get (loaded_notMem_hearRegs port)
  have hfollows := heeded_follows (krole.trans (hu.role.trans hr)) h port.val
  generalize (u.keepKey h).heeded h port.val = w at hfollows
  refine ⟨hfollows.spr.trans ?_, ?_, hfollows.valid, ?_, fun f hf hfar => ?_, fun hl => ?_, fun a ha h12 hb => ?_, hfollows.stn⟩
  · rw [kspr, hspr]
  · rw [State.stamp, hfollows.ext, ← State.stamp, kstamp]
  · rw [State.todNsTotal, hfollows.off, State.headerOff, hfollows.ext, kstamp]
    congr 1
    omega
  · have hne : f.off ≠ F.TIME_STATUS.EPOCH.off := by
      intro e
      rw [e] at hfar
      revert hfar
      decide
    rw [State.get, hfollows.regs _ hf hne, ← State.get, kget]
    exact hu.get_far hport hfar
  · exact hfollows.epoch (by rw [kget, hloaded, hl])
  · have hid : (u.keepKey h).get F.WEIR_SCFG.ARM_ID = a := by
      rw [kget, hu.get_far hport (by decide)]
      exact ha
    exact hfollows.arm (by rwa [hid]) (by rwa [hid])

theorem hull_heeded (s : State) (h : TickHdr) (p : Nat) : (s.heeded h p).hull = s.hull := by
  have hheld : (((s.newKey h).newSide h).headerHolds h).hull = s.hull := by simp
  unfold State.heeded
  generalize ((s.newKey h).newSide h).headerHolds h = u at hheld
  dsimp only
  have htime := hull_headerTime { u with lnk := { u.lnk with tickPort := some p } } h
  generalize State.headerTime { u with lnk := { u.lnk with tickPort := some p } } h = v at htime
  exact (hull_precharge _).trans (Eq.trans (b := v.hull) rfl (htime.trans hheld))

theorem tickRx_accepted {s : State} {dt : Nat} {port : Fin 2} {bs : List Block} {f : TickFrame} (h : s.HearsFrame port bs ftTICK) (hr : s.role = .spring) (he : s.get F.LNK_SPOS.ENROLLED = 1)
    (hok : hdrOk (hear bs).bytes = true) (hf : f = tickOf (hear bs).bytes) (hc : f.chain = s.get F.LNK_SPOS.INDEX / 16)
    (hk : ∀ k ∈ s.spr.keys, keyHigher k.1 k.2.1 f.hdr.claim f.hdr.side = false ∨ k.2.2 + fourTicks (if s.sprPeriod = 0 then f.hdr.period else s.sprPeriod) < s.time.cyc + dt)
    (ht : s.spr.tick = 0 ∨ 0 < stampDiff f.hdr.bound s.spr.bound) {P : State → Prop} (hP : ∀ w, s.Heard dt f.hdr w → P (w.takeFrame f true)) : GoesTo (exec (.tickRx dt port bs) s) P := by
  obtain ⟨hlive, -, hup, hgood, hft⟩ := h
  have hup' : (State.advance dt s).portUp port = true := hup
  have hu := counted_hearFrame (hear bs) hup'
  rw [tickRx_eq]
  refine goesTo_spring hlive hr ?_
  dsimp only
  generalize (State.advance dt s).hearFrame port (hear bs) = u at hu
  rw [← hf]
  have hport : port.val < 12 := Nat.lt_trans port.isLt (by decide)
  have henr : u.get F.LNK_SPOS.ENROLLED = 1 := (hu.get_far hport (by decide)).trans he
  have hidx : u.get F.LNK_SPOS.INDEX = s.get F.LNK_SPOS.INDEX := hu.get_far hport (by decide)
  have hspr : u.spr = s.spr := (congrArg State.spr hu.1).trans rfl
  have htime : u.time.cyc = s.time.cyc + dt := by rw [hu.time]; rfl
  have hhigh : (u.keepKey f.hdr).keyHighest f.hdr = true := by
    refine keyHighest_keepKey ?_
    rw [State.sprPeriod, hspr, htime, ← State.sprPeriod]
    exact hk
  have hheard := heeded_heard (h := f.hdr) hu hr
  rw [if_neg (by simp [hft, hok, State.flag, henr, hidx, hc]), if_neg (by simp [hhigh])]
  have hhull := (hull_heeded (u.keepKey f.hdr) f.hdr port.val).trans ((rfl : (u.keepKey f.hdr).hull = u.hull).trans hu.hull)
  generalize (u.keepKey f.hdr).heeded f.hdr port.val = w at hheard hhull
  have htick : w.spr.tick = s.spr.tick := (congrArg SprSt.tick hheard.spr).trans rfl
  have hbound : w.spr.bound = s.spr.bound := (congrArg SprSt.bound hheard.spr).trans rfl
  rw [htick, hbound, if_neg (by rcases ht with ht | ht <;> simp [ht]), hgood, confine_hull (by rw [hull_takeFrame, hhull]; rfl)]
  exact hP w hheard

/-! ### What an accepted frame leaves (R44, R243, R380) -/

section

variable {s w : State} {dt : Nat} {f : TickFrame} (hw : s.Heard dt f.hdr w) (hp : s.get F.LNK_SPOS.POSITION ≠ 0)
include hw

theorem heard_position : w.get F.LNK_SPOS.POSITION = s.get F.LNK_SPOS.POSITION := hw.get _ (by decide) (by decide)

theorem heard_next : w.spr.next = s.spr.next := (congrArg SprSt.next hw.spr).trans rfl

theorem heard_hdr : w.spr.hdr = some f.hdr := congrArg SprSt.hdr hw.spr

theorem heard_missed : w.spr.missed = s.spr.missed := (congrArg SprSt.missed hw.spr).trans rfl

include hp

theorem heard_takes (hmay : s.mayGovern f) (ht : 1000 ≤ stampDiff f.hdr.bound (State.advance dt s).stamp) :
    ∃ a, w.takeFrame f true = { w with spr := { w.spr with next := some ⟨f.hdr, frameSlot f (s.get F.LNK_SPOS.POSITION)⟩, arrived := a } } := by
  have hmay' : w.mayGovern f := fun n hn => hmay n ((heard_next hw).symm.trans hn)
  rw [takeFrame_eq, heard_position hw, if_neg hp, if_neg (by simp [governed_of_mayGovern hmay']), if_pos (by rwa [hw.stamp])]
  exact ⟨_, rfl⟩

theorem heard_late (hmay : s.mayGovern f) (ht : stampDiff f.hdr.bound (State.advance dt s).stamp < 1000) :
    w.takeFrame f true = State.tickLate { w with spr := { w.spr with next := some ⟨f.hdr, none⟩, arrived := some w.stamp } } f.hdr.tick := by
  have hmay' : w.mayGovern f := fun n hn => hmay n ((heard_next hw).symm.trans hn)
  rw [takeFrame_eq, heard_position hw, if_neg hp, if_neg (by simp [governed_of_mayGovern hmay']), if_neg (by rw [hw.stamp]; exact not_le.mpr ht)]

theorem heard_governed {n : TickHdr} {y : Slot} (hn : s.spr.next = some ⟨n, some y⟩) (htick : n.tick = f.hdr.tick) (hkey : keyHigher f.hdr.claim f.hdr.side n.claim n.side = false) :
    w.takeFrame f true = w := by
  rw [takeFrame_eq, heard_position hw, if_neg hp, if_pos]
  rw [State.governed, heard_next hw, hn]
  simp [htick, hkey]

end

section

variable {s : State} {dt : Nat} {port : Fin 2} {bs : List Block} {f : TickFrame} (h : s.HearsFrame port bs ftTICK) (hr : s.role = .spring) (he : s.get F.LNK_SPOS.ENROLLED = 1)
  (hok : hdrOk (hear bs).bytes = true) (hf : f = tickOf (hear bs).bytes) (hc : f.chain = s.get F.LNK_SPOS.INDEX / 16)
  (hk : ∀ k ∈ s.spr.keys, keyHigher k.1 k.2.1 f.hdr.claim f.hdr.side = false ∨ k.2.2 + fourTicks (if s.sprPeriod = 0 then f.hdr.period else s.sprPeriod) < s.time.cyc + dt)
  (ht : s.spr.tick = 0 ∨ 0 < stampDiff f.hdr.bound s.spr.bound) (hp : s.get F.LNK_SPOS.POSITION ≠ 0)
include h hr he hok hf hc hk ht hp

theorem tickRx_slot (hmay : s.mayGovern f) {x : Slot} (hd : 1000 ≤ stampDiff f.hdr.bound (State.advance dt s).stamp) (hn : s.get F.LNK_SPOS.POSITION ≤ f.hdr.nslot)
    (hx : f.slots[s.get F.LNK_SPOS.POSITION - 1]? = some x) :
    GoesTo (exec (.tickRx dt port bs) s) fun t => t.spr.next = some ⟨f.hdr, some x⟩ ∧ t.spr.hdr = some f.hdr ∧ t.spr.missed = s.spr.missed ∧
      (s.get F.TIME_STATUS.LOADED = 1 → t.get F.TIME_STATUS.EPOCH = f.hdr.epoch % 65536) ∧
      t.time.todValid = f.hdr.todValid ∧ t.todNsTotal = ((f.hdr.todSec * 1000000000 + f.hdr.todNs : Nat) - stampDiff f.hdr.bound (State.advance dt s).stamp : Int).toNat ∧
      (∀ a, s.get F.WEIR_SCFG.ARM_ID = a → a < 12 → f.hdr.weirHold.testBit a = true → t.get F.WEIR_SSTAT.ARM_HOLD = 1) ∧ (f.hdr.weirStn = true → t.get F.WEIR_SSTAT.STN_HOLD = 1) := by
  refine tickRx_accepted h hr he hok hf hc hk ht fun w hw => ?_
  obtain ⟨a, e⟩ := heard_takes hw hp hmay hd
  have hhdr := heard_hdr hw
  have hmissed := heard_missed hw
  have hslot : frameSlot f (s.get F.LNK_SPOS.POSITION) = some x := by rw [frameSlot, if_pos hn, hx]
  rw [e, hslot]
  exact ⟨rfl, hhdr, hmissed, hw.epoch, hw.valid, hw.tod, hw.arm, hw.stn⟩

theorem tickRx_noSlot (hmay : s.mayGovern f) (hd : 1000 ≤ stampDiff f.hdr.bound (State.advance dt s).stamp) (hn : f.hdr.nslot < s.get F.LNK_SPOS.POSITION) :
    GoesTo (exec (.tickRx dt port bs) s) fun t => t.spr.next = some ⟨f.hdr, none⟩ ∧ t.spr.hdr = some f.hdr ∧ t.spr.missed = s.spr.missed := by
  refine tickRx_accepted h hr he hok hf hc hk ht fun w hw => ?_
  obtain ⟨a, e⟩ := heard_takes hw hp hmay hd
  have hhdr := heard_hdr hw
  have hmissed := heard_missed hw
  have hslot : frameSlot f (s.get F.LNK_SPOS.POSITION) = none := by rw [frameSlot, if_neg (Nat.not_le.mpr hn)]
  rw [e, hslot]
  exact ⟨rfl, hhdr, hmissed⟩

theorem tickRx_late (hmay : s.mayGovern f) (hd : stampDiff f.hdr.bound (State.advance dt s).stamp < 1000) (hl : s.spr.late = false) :
    GoesTo (exec (.tickRx dt port bs) s) fun t => t.spr.next = some ⟨f.hdr, none⟩ ∧ t.spr.hdr = some f.hdr ∧ t.spr.late = true ∧ t.spr.missed = s.spr.missed + 1 ∧
      t.get F.CTL_SPR_STATUS.TICK_LATE_CNT = min (s.get F.CTL_SPR_STATUS.TICK_LATE_CNT + 1) 0xFFFF := by
  refine tickRx_accepted h hr he hok hf hc hk ht fun w hw => ?_
  rw [heard_late hw hp hmay hd]
  have hlate : w.spr.late = false := (congrArg SprSt.late hw.spr).trans hl
  have hcnt : w.get F.CTL_SPR_STATUS.TICK_LATE_CNT = s.get F.CTL_SPR_STATUS.TICK_LATE_CNT := hw.get _ (by decide) (by decide)
  have hhdr := heard_hdr hw
  have hmissed := heard_missed hw
  generalize hu : ({ w with spr := { w.spr with next := some ⟨f.hdr, none⟩, arrived := some w.stamp } } : State) = u
  have hspr : u.spr = { w.spr with next := some ⟨f.hdr, none⟩, arrived := some w.stamp } := by rw [← hu]
  have hulate : u.spr.late = false := by rw [hspr]; exact hlate
  have hucnt : u.get F.CTL_SPR_STATUS.TICK_LATE_CNT = s.get F.CTL_SPR_STATUS.TICK_LATE_CNT := by rw [← hu]; exact hcnt
  obtain ⟨hview, -, -⟩ := tickLate_view u f.hdr.tick
  obtain ⟨hcount, -⟩ := tickLate_counts hulate f.hdr.tick
  rw [hulate, if_neg Bool.false_ne_true] at hview
  have hx := congrArg Prod.fst hview
  refine ⟨(congrArg SprSt.next hx).trans ?_, (congrArg SprSt.hdr hx).trans ?_, congrArg SprSt.late hx, (congrArg SprSt.missed hx).trans ?_, hcount.trans (by rw [hucnt])⟩
  · exact congrArg SprSt.next hspr
  · exact (congrArg SprSt.hdr hspr).trans hhdr
  · exact congrArg (· + 1) ((congrArg SprSt.missed hspr).trans hmissed)

theorem tickRx_governed {n : TickHdr} {y : Slot} (hn : s.spr.next = some ⟨n, some y⟩) (htick : n.tick = f.hdr.tick) (hkey : keyHigher f.hdr.claim f.hdr.side n.claim n.side = false) :
    GoesTo (exec (.tickRx dt port bs) s) fun t => t.spr.next = some ⟨n, some y⟩ ∧ t.spr.hdr = some f.hdr ∧ t.spr.missed = s.spr.missed := by
  refine tickRx_accepted h hr he hok hf hc hk ht fun w hw => ?_
  rw [heard_governed hw hp hn htick hkey]
  exact ⟨(heard_next hw).trans hn, heard_hdr hw, heard_missed hw⟩

end

end Sys2Proof.Machine
end

section
/-! PROOFS. A TICK frame that a Spring does not heed: its port may come UP, its own tick stands (R199, R243, R249). -/
namespace Sys2Proof.Machine

/-! ### What a port that comes up leaves -/

/-- Registers that a port's coming up may change: the ports' own, PLL-S that follows them, start-up's step, the recorder's counters. -/
def linkReg (o : Nat) : Bool := (decide (0x8000 ≤ o) && decide (o < 0xB000)) || (F.CMN_PROG.STEP.off :: pllHoldRegs .s).contains o

/-- Beside links, lanes and those registers, the tick, the holds and every register stand. -/
structure State.Links (s t : State) : Prop where
  role : t.role = s.role
  spr : t.spr = s.spr
  weir : t.weir = s.weir
  regs : ∀ o, linkReg o = false → t.rd o = s.rd o

theorem linkReg_rec {o : Nat} (h : linkReg o = false) : o ≠ F.REC_LOST_CNT.COUNT.off ∧ o ≠ F.REC_SUPP_CNT.COUNT.off := by
  constructor <;> rintro rfl <;> revert h <;> decide

theorem linkReg_port {p base : Nat} (hp : p < 12) (h : 0x8000 ≤ base) (h' : base < 0x8100) : linkReg (base + 1024 * p) = true := by
  have h1 : 0x8000 ≤ base + 1024 * p := Nat.le_add_right_of_le h
  have h2 : base + 1024 * p < 0xB000 := by omega
  simp [linkReg, h1, h2]

namespace State.Links

theorem same (s : State) : s.Links s := ⟨rfl, rfl, rfl, fun _ _ => rfl⟩

theorem trans {s t u : State} (h : s.Links t) (k : t.Links u) : s.Links u :=
  ⟨k.role.trans h.role, k.spr.trans h.spr, k.weir.trans h.weir, fun o ho => (k.regs o ho).trans (h.regs o ho)⟩

theorem get {s t : State} (h : s.Links t) {f : Fld} (hf : linkReg f.off = false) : t.get f = s.get f := by rw [State.get, h.regs _ hf, State.get]

end State.Links

theorem links_set (s : State) (f : Fld) (v : Nat) (h : linkReg f.off = true) : s.Links (s.set f v) := by
  refine ⟨rfl, rfl, rfl, fun o ho => State.rd_set_other s f v o ?_⟩
  rintro rfl
  rw [h] at ho
  cases ho

theorem links_recorded {s t : State} (h : s.Recorded t) (hr : ∀ o, linkReg o = false → t.rd o = s.rd o) : s.Links t := ⟨h.role, h.spr, h.weir, hr⟩

theorem links_raise (s : State) (c : Nat) (p : List Nat) : s.Links (s.raise c p) :=
  links_recorded (s.recorded_raise c p) fun o ho => State.raise_rd s c p o (linkReg_rec ho).1 (linkReg_rec ho).2

theorem links_modPort (s : State) (p : Nat) (f : PortSt → PortSt) : s.Links (s.modPort p f) := ⟨rfl, rfl, rfl, fun _ _ => rfl⟩

theorem links_wired {s t : State} (h : s.Wired t) : s.Links t :=
  ⟨h.role, (congrArg State.spr h).trans rfl, (congrArg State.weir h).trans rfl, fun o _ => State.rd_congr h.role h.side h.regs o⟩

/-! ### A port comes up (R249, R250, R312) -/

theorem links_linkReport (s : State) (p st : Nat) : s.Links (s.linkReport p st) := by
  unfold State.linkReport
  dsimp only
  split
  · split
    · exact .same s
    · exact links_wired (emitFrame_wired s _ _)
  · exact links_wired (emitFrame_wired s _ _)

theorem links_burst (s : State) (p : Nat) : s.Links (s.burst p) := by
  unfold State.burst
  split
  · exact .same s
  · exact (links_modPort s p _).trans (links_wired (laneOut_wired _ _ _ _))

theorem links_setCdr (s : State) {p : Nat} (hp : p < 12) (on : Bool) : s.Links (s.setCdr p on) := by
  refine links_recorded (setCdr_recorded s p on) fun o ho => setCdr_regs s p on o fun hm => ?_
  rcases List.mem_cons.mp hm with rfl | hm
  · rw [show (F.LNK_PSTAT.CDR p).off = 0x8004 + 1024 * p from rfl, linkReg_port hp (by decide) (by decide)] at ho
    cases ho
  · have hc : linkReg o = true := by
      simp only [linkReg, Bool.or_eq_true, List.contains_iff_mem]
      exact .inr (List.mem_cons_of_mem _ hm)
    rw [hc] at ho
    cases ho

theorem links_trainPort (s : State) {p : Nat} (hp : p < 12) : s.Links (s.trainPort p) := by
  have hreg : linkReg (0x8004 + 1024 * p) = true := linkReg_port hp (by decide) (by decide)
  exact (((links_set s (F.LNK_PSTAT.STATE p) _ hreg).trans (links_setCdr _ hp false)).trans (links_set _ (F.LNK_PSTAT.PEER_LOCKED p) 0 hreg)).trans (links_burst _ p)

theorem links_leaveIdle (s : State) {p : Nat} (hp : p < 12) : s.Links (s.leaveIdle p) := by
  unfold State.leaveIdle
  split
  · exact (links_modPort s p _).trans (links_trainPort _ hp)
  · exact .same s

theorem links_startStep (s : State) (n : Nat) : s.Links (s.startStep n) := by
  unfold State.startStep
  split
  · exact .same s
  · dsimp only
    have hpwr : ∀ x : PwrSt, s.Links { s with pwr := x } := fun x => ⟨rfl, rfl, rfl, fun _ _ => rfl⟩
    exact ((hpwr _).trans (links_set _ F.CMN_PROG.STEP _ (by decide))).trans (links_raise _ _ _)

theorem links_plls3 {s : State} (hr : s.role = .spring) : s.Links s.plls3 := by
  unfold State.plls3
  split
  · exact .same s
  · rw [hr]
    dsimp only
    split
    · exact .same s
    · exact links_startStep s 3

theorem links_goUp {s : State} (hr : s.role = .spring) {p : Nat} (hp : p < 12) : s.Links (s.goUp p) := by
  unfold State.goUp
  dsimp only
  have hup : s.Links (((((s.set (F.LNK_PSTAT.STATE p) psUP).raise Ev.LINK_UP [p, ((s.set (F.LNK_PSTAT.STATE p) psUP).lport p).bursts, (s.set (F.LNK_PSTAT.STATE p) psUP).get (F.LNK_PSTAT.CDR p)]).modPort p
      (fun x => { x with bursts := 0 })).linkReport p 0)) :=
    (((links_set s (F.LNK_PSTAT.STATE p) psUP (linkReg_port hp (by decide) (by decide))).trans (links_raise _ _ _)).trans (links_modPort _ p _)).trans (links_linkReport _ p 0)
  generalize State.linkReport _ p 0 = u at hup
  have hur : u.role = .spring := hup.role.trans hr
  rw [hur]
  have hidle := links_leaveIdle u (p := 1 - p) (by omega)
  exact (hup.trans hidle).trans (links_plls3 (hidle.role.trans hur))

theorem links_hearFrame {s : State} (hr : s.role = .spring) {p : Nat} (hp : p < 12) (r : Heard) : s.Links (s.hearFrame p r) := by
  have hup : s.Links (s.upIfReady p r.isOpen) := by
    unfold State.upIfReady
    split
    · exact links_goUp hr hp
    · exact .same s
  exact (hup.trans (links_set _ (F.LNK_CRC_ERR.COUNT p) _ (linkReg_port hp (by decide) (by decide)))).trans (links_set _ (F.LNK_HDR_ERR.COUNT p) _ (linkReg_port hp (by decide) (by decide)))

/-! ### A frame not heeded -/

theorem tickRx_drops {s : State} {dt : Nat} {port : Fin 2} {bs : List Block} (hlive : s.live = true) (hr : s.role = .spring)
    (h : ftypeOf (hear bs).bytes ≠ ftTICK ∨ hdrOk (hear bs).bytes = false ∨ s.get F.LNK_SPOS.ENROLLED = 0 ∨ (tickOf (hear bs).bytes).chain ≠ s.get F.LNK_SPOS.INDEX / 16) :
    GoesTo (exec (.tickRx dt port bs) s) fun t => t.spr = s.spr ∧ t.weir = s.weir ∧ t.get F.TIME_STATUS.EPOCH = s.get F.TIME_STATUS.EPOCH := by
  have hu := links_hearFrame (s := State.advance dt s) hr (Nat.lt_trans port.isLt (by decide) : port.val < 12) (hear bs)
  have hhull : ((State.advance dt s).hearFrame port (hear bs)).hull = s.hull := by
    rw [hull_hearFrame]
    rfl
  rw [tickRx_eq]
  refine goesTo_spring hlive hr ?_
  dsimp only
  generalize (State.advance dt s).hearFrame port (hear bs) = u at hu hhull
  have henr : u.get F.LNK_SPOS.ENROLLED = s.get F.LNK_SPOS.ENROLLED := hu.get (by decide)
  have hidx : u.get F.LNK_SPOS.INDEX = s.get F.LNK_SPOS.INDEX := hu.get (by decide)
  rw [if_pos, confine_hull hhull]
  · exact ⟨hu.spr, hu.weir, hu.get (by decide)⟩
  · rw [State.flag, henr, hidx]
    rcases h with h | h | h | h <;> simp [h]

/-! ### The obligation -/

/-- Settles O41: each command of a Spring's tick by one equation, and views of the tick that the drive of the bridges, the header's holds and the Weirs leave alone. -/
theorem springTicks : Obligations.SpringTicks := by
  unfold Obligations.SpringTicks
  refine ⟨fun s dt port bs f h hr he hok hf hc hk hp ht => ⟨fun hmay => ⟨fun x hd hn hx => ?_, fun hd hn => ?_, fun hd hl => ?_⟩, fun n y hn htick hkey => ?_⟩,
    fun s dt port bs hlive hr h => tickRx_drops hlive hr h, fun s dt hlive hr => ⟨fun hh he hs hl hb => ?_, fun h => slotDeadline_idle hlive hr h⟩,
    fun s dt hlive hr h => slotApply_idle hlive hr h, fun s dt hlive hr hh he hact hc hb => ⟨fun h x hn hs => ⟨fun h7 hseq => ?_, fun h7 => ?_⟩, fun h x hn hs => ?_, fun hs => ?_⟩,
    fun s dt hlive hr => ⟨fun h3 hb => tickLoss_blocks hlive hr h3 hb, fun h => tickLoss_idle hlive hr h⟩,
    fun s dt hlive hr => ⟨fun hon hs hd => dabPeriod_runs hlive hr hon hs hd, fun h => dabPeriod_idle hlive hr h⟩,
    fun s dt hlive hr => ⟨fun h0 hl hd => telemLatch_latches hlive hr h0 hl hd, fun h => telemLatch_idle hlive hr h⟩,
    fun s dt hlive hr => ⟨fun x hx hd => telemSend_sends hlive hr hx hd, fun h => telemSend_idle hlive hr h⟩⟩
  · exact tickRx_slot h hr he hok hf hc hk ht hp hmay hd hn hx
  · exact tickRx_noSlot h hr he hok hf hc hk ht hp hmay hd hn
  · exact tickRx_late h hr he hok hf hc hk ht hp hmay hd hl
  · exact tickRx_governed h hr he hok hf hc hk ht hp hn htick hkey
  · exact slotDeadline_late hlive hr hh he hs hl hb
  · exact slotApply_new hlive hr hh he hact hc hb hn hs h7 hseq
  · exact slotApply_again hlive hr hh he hact hc hb hn hs h7
  · exact slotApply_onSafe hlive hr hh he hact hc hb hn hs
  · exact slotApply_none hlive hr hh he hact hc hb hs

end Sys2Proof.Machine
end

section
/-! PROOFS. Descriptors that wait for their apply tick, and the checks before the queue (R45, R50 to R56, R211, R272, R413, R542, R543). -/
namespace Sys2Proof.Machine

/-! ### The apply queue -/

/-- A descriptor whose apply tick names a tick waits for it; registers and recorder stay (R51, R52). -/
theorem queueOp_queued {s : State} {x : Infl} {a : Nat} (hin : s.inflAt x.id = some x) (ha : applyTick s.nextTick x.d.applyTick = some a) :
    (s.queueOp x).inflAt x.id = some { x with due := a, phase := .queued a } ∧ (s.queueOp x).regs = s.regs ∧ (s.queueOp x).recd = s.recd := by
  simp only [State.queueOp, ha]
  exact ⟨State.inflAt_modInfl (f := fun y => { y with due := a, phase := .queued a }) hin (fun _ => rfl), rfl, rfl⟩

/-- One whose apply tick is stale completes so (R51). -/
theorem queueOp_stale {s : State} {x : Infl} (ha : applyTick s.nextTick x.d.applyTick = none) : s.queueOp x = s.refuse x.id stSTALE 0 := by
  simp only [State.queueOp, ha]

/-- A row that queues its descriptor: what the queue's rule says is what the command leaves. -/
theorem goesTo_queued {s : State} {dt q oc a : Nat} {x : Infl} {f : State → Infl → State} (h : s.Ready q oc x)
    (ha : applyTick s.nextTick x.d.applyTick = some a) (hf : f (State.advance dt s) x = (State.advance dt s).queueOp x) :
    GoesTo (onBasin s fun s => (s.advance dt).op q oc f) fun t =>
      t.inflAt x.id = some { x with due := a, phase := .queued a } ∧ t.regs = s.regs ∧ t.recd = s.recd := by
  obtain ⟨hin, -⟩ := ready_inflAt h
  refine goesTo_op h ?_
  rw [hf, confine_hull (by simp)]
  exact queueOp_queued (s := State.advance dt s) hin ha

/-- A row that refuses its descriptor completes it with that status and reason (R329). -/
theorem goesTo_refused {s : State} {dt q oc st rs : Nat} {x : Infl} {f : State → Infl → State} (h : s.Ready q oc x)
    (hf : f (State.advance dt s) x = (State.advance dt s).refuse x.id st rs) :
    GoesTo (onBasin s fun s => (s.advance dt).op q oc f) fun t => t.Ended x.id st rs 0 := by
  refine goesTo_op h ?_
  rw [hf]
  exact (refused_ended h dt st rs).1

/-! ### ENERGISE -/

/-- The tick budget changes no descriptor in flight (R45). -/
theorem tickBudget_host (s : State) (links : List (List Nat)) : (s.tickBudget links).1.host = s.host := by
  simp only [State.tickBudget]
  exact (raises_facts _ _ _ (fun _ h => h) _ _).1.host

/-- Nor does the Weir budget (R211). -/
theorem weirBudget_host (s : State) (links : List (List Nat)) (why : Nat) : (s.weirBudget links why).1.host = s.host := by
  refine List.foldlRecOn (motive := fun acc : State × Option Nat => acc.1.host = s.host) _ _ rfl fun acc hacc t _ => ?_
  split <;> split <;> simp [hacc]

/-- An ENERGISE that passes its checks is queued in the state the two budgets leave (R542). -/
theorem energise_passes {s u v : State} {x : Infl} {links : List (List Nat)} (hbad : s.energiseBad = none) (hu : s.tickBudget links = (u, none))
    (hv : u.weirBudget links 0 = (v, none)) : s.energise x links = v.queueOp x := by
  simp only [State.energise, hbad, hu, hv]

theorem exec_energise_queued {s u v : State} (dt : Nat) {q : Fin 16} {x : Infl} {links : List (List Nat)} {a : Nat} (h : s.Ready q 0x50 x)
    (hbad : (State.advance dt s).energiseBad = none) (hu : (State.advance dt s).tickBudget links = (u, none)) (hv : u.weirBudget links 0 = (v, none))
    (ha : applyTick v.nextTick x.d.applyTick = some a) :
    GoesTo (exec (.energise dt q links) s) fun t => t.inflAt x.id = some { x with due := a, phase := .queued a } ∧ t.regs = v.regs := by
  have hhost : v.host = s.host := by
    have hvu := weirBudget_host u links 0
    have hus := tickBudget_host (State.advance dt s) links
    rw [hv] at hvu
    rw [hu] at hus
    exact hvu.trans hus
  have hin : v.inflAt x.id = some x := (State.inflAt_congr (congrArg HostSt.infl hhost) x.id).trans (ready_inflAt h).1
  change GoesTo (execEnergise dt q links s) _
  refine goesTo_op h ?_
  rw [energise_passes hbad hu hv]
  obtain ⟨hqueued, hregs, -⟩ := queueOp_queued hin ha
  exact ⟨hqueued, hregs⟩

/-- An ENERGISE that fails a check says so in an event and in its completion (R542). -/
theorem exec_energise_refused {s : State} (dt : Nat) {q : Fin 16} {x : Infl} {links : List (List Nat)} {st r : Nat} (h : s.Ready q 0x50 x)
    (hbad : (State.advance dt s).energiseBad = some (st, r)) :
    GoesTo (exec (.energise dt q links) s) fun t => t.Ended x.id st r 0 ∧ s.RegsBut (cplRegs x.q) t := by
  obtain ⟨hin, hq⟩ := ready_inflAt h
  obtain ⟨hph, -, -⟩ := ready_fetched h
  have hrefuse : (State.advance dt s).energise x links = (State.advance dt s).energiseRefuse x st r := by simp only [State.energise, hbad]
  obtain ⟨hend, hregs⟩ := settle_ends (u := (State.advance dt s).raise Ev.ENERGISE_REFUSED [st, r]) st r 0 0 0 hin (by simp) (Phase.fetched_open hph) hq
  change GoesTo (execEnergise dt q links s) _
  refine goesTo_op h ?_
  rw [hrefuse, State.energiseRefuse, confine_hull (by simp)]
  exact ⟨hend, regsBut_trans (regsBut_raise (State.advance dt s) _ _ _ (cplRegs_rec x.q)) hregs⟩

/-! ### TIME_SET -/

/-- The time master queues a TIME_SET whose value is well formed and steps no time back unasked (R272). -/
theorem exec_timeSet_queued {s : State} (dt : Nat) {q : Fin 16} {x : Infl} {a : Nat} (h : s.Ready q 0x30 x) (hm : s.isMaster = true)
    (hns : bytesAt x.d.param 8 4 < 1000000000) (ha : applyTick s.nextTick x.d.applyTick = some a)
    (hback : (State.advance dt s).todAt a ≤ (timeSetVal x.d : Int) ∨ bitOf x.d.flags 1 = true) :
    GoesTo (exec (.timeSet dt q) s) fun t => t.inflAt x.id = some { x with due := a, phase := .queued a } ∧ t.regs = s.regs ∧ t.recd = s.recd := by
  have hm' : (State.advance dt s).isMaster = true := hm
  have ha' : applyTick (State.advance dt s).nextTick x.d.applyTick = some a := ha
  have hstep : (decide ((timeSetVal x.d : Int) < (State.advance dt s).todAt a) && !bitOf x.d.flags 1) = false := by
    rcases hback with hle | hflag
    · simp [not_lt.mpr hle]
    · simp [hflag]
  refine goesTo_queued h ha ?_
  simp only [hm', ha', hstep, if_neg (not_le.mpr hns), Bool.not_true, Bool.false_eq_true, if_false]

/-! ### The obligation -/

/-- Settles O14: each row answers what the apply queue's rule says, once its own checks have passed. -/
theorem descriptorsQueued : Obligations.DescriptorsQueued := by
  refine ⟨fun s dt q x a h hid ha => ?_, fun s dt q x h hid => ?_, fun s dt q x a h hop ha => ?_, fun s dt q x a h ha => ?_, fun s dt q x a h ha => ?_,
    fun s dt q x h ha => ?_, fun s dt q x a h hm hns ha hback => ?_, fun s dt q x h hm => ?_, fun s u v dt q x links a h hbad hu hv ha => ?_,
    fun s dt q x links st r h hbad => ?_⟩
  · exact goesTo_queued h ha (if_pos hid)
  · exact goesTo_refused h (if_neg (by rw [hid]; decide))
  · exact goesTo_queued h ha (if_neg hop)
  · exact goesTo_queued h ha rfl
  · exact goesTo_queued h ha rfl
  · exact goesTo_refused h (queueOp_stale ha)
  · exact exec_timeSet_queued dt h hm hns ha hback
  · have hm' : (State.advance dt s).isMaster = false := hm
    exact goesTo_refused h (if_pos (by simp [hm']))
  · exact exec_energise_queued dt h hbad hu hv ha
  · exact exec_energise_refused dt h hbad

end Sys2Proof.Machine
end

section
/-! PROOFS. The station's state machine at the measure stage: hardware causes, READY, the rows of the table (R57 to R59, R537). -/
namespace Sys2Proof.Machine

/-! ### Entering a state (R57) -/

theorem station_lt (s : State) : s.station < 32 := State.get_lt s F.CTL_STATUS.STATE

/-- The station is in the state entered, as the five bits of CTL_STATUS.STATE hold it. -/
theorem station_toState (s : State) (n cause : Nat) : (s.toState n cause).station = n % 32 := by
  unfold State.toState
  split
  case isTrue h =>
    obtain rfl := eq_of_beq h
    exact (Nat.mod_eq_of_lt (station_lt s)).symm
  case isFalse => exact (State.raise_get _ _ _ _ (by decide)).trans (State.get_set_same s F.CTL_STATUS.STATE n (by decide))

/-- The count of ticks in a state starts anew in another one. -/
theorem ctl_toState {s : State} {n : Nat} (cause : Nat) (h : s.station ≠ n) : (s.toState n cause).ctl = { s.ctl with lasted := 0 } := by
  simp [State.toState, h]

theorem toState_host_spr (s : State) (n cause : Nat) : (s.toState n cause).host = s.host ∧ (s.toState n cause).spr = s.spr := by
  unfold State.toState
  split
  · exact ⟨rfl, rfl⟩
  · simp

/-! ### Hardware causes (R58) -/

/-- The pending hardware cause taken away. -/
def State.causeless (s : State) : State := { s with ctl := { s.ctl with hw := 0 } }

theorem station_causeless (s : State) : s.causeless.station = s.station := rfl

theorem causeless_same {s : State} (h : s.ctl.hw = 0) : s.causeless = s := by
  rw [State.causeless, ← h]

theorem hwStep_eq (s : State) : s.hwStep =
    if s.ctl.hw != 0 && decide (s.causeless.station < s.ctl.hw) then s.causeless.toState s.ctl.hw (evNum Ev.STATE_CHANGE s.ctl.hw) else s.causeless := rfl

/-- A cause above the state in force moves the station. -/
theorem hwStep_moves {s : State} (h : s.station < s.ctl.hw) : s.hwStep = s.causeless.toState s.ctl.hw (evNum Ev.STATE_CHANGE s.ctl.hw) := by
  have habove : s.causeless.station < s.ctl.hw := h
  rw [hwStep_eq, if_pos (by simp [habove, Nat.ne_of_gt (Nat.zero_lt_of_lt h)])]

/-- Any other is dropped (log entry 41). -/
theorem hwStep_drops {s : State} (h : s.ctl.hw ≤ s.station) : s.hwStep = s.causeless := by
  have hbelow : ¬ s.causeless.station < s.ctl.hw := not_lt.mpr h
  rw [hwStep_eq, if_neg (by simp [hbelow])]

/-- What a hardware cause leaves: the host's block, a Spring's part, and whether a RESUME has moved the station in this tick. -/
theorem hwStep_keeps (s : State) : s.hwStep.host = s.host ∧ s.hwStep.spr = s.spr ∧ s.hwStep.ctl.moved = s.ctl.moved := by
  rcases Nat.lt_or_ge s.station s.ctl.hw with h | h
  · rw [hwStep_moves h, ctl_toState (s := s.causeless) _ (Nat.ne_of_lt h)]
    obtain ⟨hhost, hspr⟩ := toState_host_spr s.causeless s.ctl.hw (evNum Ev.STATE_CHANGE s.ctl.hw)
    exact ⟨hhost, hspr, rfl⟩
  · rw [hwStep_drops h]
    exact ⟨rfl, rfl, rfl⟩

theorem hwStep_tickNow (s : State) : s.hwStep.tickNow = s.tickNow := by
  have hpaced := paced_hwStep s
  have hrole : s.hwStep.role = s.role := congrArg Prod.fst hpaced
  obtain ⟨-, hspr, -⟩ := hwStep_keeps s
  simp only [State.tickNow, hrole, paced_tickNum hpaced, hspr]

/-! ### RESUME (R413) -/

/-- With no RESUME due, none acts. -/
theorem resumes_none {s : State} (hw : Nat) (h : ∀ x ∈ s.dueBy (tickSucc s.tickNow), x.d.opcode ≠ ocRESUME) : s.resumes hw = s := by
  have hnone : (s.dueBy (tickSucc s.tickNow)).filter (fun x => x.d.opcode == ocRESUME) = [] := List.filter_eq_nil_iff.mpr (by simpa using h)
  simp [State.resumes, hnone]

/-- A hardware cause makes no RESUME due. -/
theorem hwStep_due {s : State} (h : ∀ x ∈ s.dueBy (tickSucc s.tickNow), x.d.opcode ≠ ocRESUME) :
    ∀ x ∈ s.hwStep.dueBy (tickSucc s.hwStep.tickNow), x.d.opcode ≠ ocRESUME := by
  obtain ⟨hhost, -, -⟩ := hwStep_keeps s
  simpa only [State.dueBy, hwStep_tickNow, hhost] using h

/-! ### The table's rows (R59) -/

/-- The first element of a list that satisfies a test, found with its number. -/
theorem find?_numbered {α : Type} {l : List α} {p : α → Bool} {i : Nat} {x : α} (h : ((List.range l.length).zip l).find? (fun y => p y.2) = some (i, x)) :
    p x = true ∧ ∀ j, j < i → ∀ y, l[j]? = some y → p y = false := by
  obtain ⟨hx, k, hk, hget, hfirst⟩ := List.find?_eq_some_iff_getElem.mp h
  simp only [List.getElem_zip, List.getElem_range, Prod.mk.injEq] at hget hfirst
  obtain ⟨rfl, rfl⟩ := hget
  refine ⟨hx, fun j hj y hy => ?_⟩
  obtain ⟨hlt, rfl⟩ := List.getElem?_eq_some_iff.mp hy
  simpa using hfirst j hj

/-- The row picked holds, and none before it does. -/
theorem smPick_first {s : State} {i : Nat} {r : SmRow} (h : s.smPick = some (i, r)) :
    s.smHolds r = true ∧ ∀ j, j < i → ∀ y, (smRows (s.tbl8 secSTATE))[j]? = some y → s.smHolds y = false := find?_numbered h

theorem smHolds_iff {s : State} {r : SmRow} : s.smHolds r = true ↔ r.frm = s.station ∧ s.smCond r.cond r.param = (r.pol == 0) := by
  simp [State.smHolds]

/-! ### One step -/

/-- One more tick in the state. -/
def State.lastsOn (s : State) : State := { s with ctl := { s.ctl with lasted := s.ctl.lasted + 1 } }

theorem station_lastsOn (s : State) : s.lastsOn.station = s.station := rfl

/-- What follows the hardware causes and RESUME: unless they have moved the station from `was`, or it is in one of the states 28 to 31, READY from OFF, else the
first row that holds (R57, R58, R537). -/
def State.rowStep (was : Nat) (s : State) : State :=
  if s.ctl.moved || s.station != was || decide (ssTHERMAL ≤ s.station) then s
  else if s.station == ssOFF then s.becomeReady
  else (s.smPick.map (fun x => s.toState x.2.dst x.1)).getD s

theorem rowStep_moved {s : State} {was : Nat} (h : s.station ≠ was) : s.rowStep was = s := if_pos (by simp [h])

theorem rowStep_top {s : State} (was : Nat) (h : ssTHERMAL ≤ s.station) : s.rowStep was = s := if_pos (by simp [h])

/-- A station that becomes READY is in state 1; completing step 11 leaves it there (R537). -/
theorem station_becomeReady (s : State) : s.becomeReady.station =
    if s.pwr.steps.contains 8 && s.pwr.steps.contains 9 && s.flag F.SAFE_STAT.GUARD_TESTED && s.flag F.SAFE_STAT.OUT_ON then 1 else s.station := by
  unfold State.becomeReady
  split
  · calc _ = ((s.toState ssREADY scNONE).raise Ev.STATION_READY [s.tickNow]).station := State.startStep_get _ _ _ (by decide) (by decide) (by decide)
      _ = (s.toState ssREADY scNONE).station := State.raise_get _ _ _ _ (by decide)
      _ = 1 := station_toState _ _ _
  · rfl

theorem rowStep_off {s : State} (hmoved : s.ctl.moved = false) (h : s.station = 0) : s.rowStep s.station = s.becomeReady := by
  have hbelow : ¬ ssTHERMAL ≤ s.station := by
    rw [h]
    decide
  have hoff : s.station = ssOFF := h
  rw [State.rowStep, if_neg (by simp [hmoved, hbelow]), if_pos (by simp [hoff])]

/-- Between OFF and 28 the first row that holds gives the next state; without one the station stays. -/
theorem station_rowStep {s : State} (hmoved : s.ctl.moved = false) (h1 : 1 ≤ s.station) (h27 : s.station ≤ 27) :
    (s.rowStep s.station).station = (s.smPick.map (fun x => x.2.dst % 32)).getD s.station := by
  have hbelow : ¬ ssTHERMAL ≤ s.station := Nat.not_le_of_lt (Nat.lt_succ_of_le h27)
  have hon : s.station ≠ ssOFF := Nat.one_le_iff_ne_zero.mp h1
  rw [State.rowStep, if_neg (by simp [hmoved, hbelow]), if_neg (by simp [hon])]
  cases s.smPick with
  | none => rfl
  | some row => exact station_toState s row.2.dst row.1

/-- The stages of a step: a hardware cause, the RESUMEs due, then READY or a row. -/
theorem stateStep_stages (s : State) : s.stateStep =
    ((if s.lastsOn.pwr.stuck then s.lastsOn.hwCause ssHOLD else s.lastsOn).hwStep.resumes s.lastsOn.ctl.hw).rowStep s.lastsOn.station := by
  unfold State.stateStep State.lastsOn State.rowStep
  dsimp only
  generalize State.resumes _ _ = w
  cases w.smPick <;> rfl

section
variable {s : State} (hstuck : s.pwr.stuck = false) (hdue : ∀ x ∈ s.dueBy (tickSucc s.tickNow), x.d.opcode ≠ ocRESUME)
include hstuck hdue

/-- With no RESUME due, a step is a hardware cause and then a row. -/
theorem stateStep_eq : s.stateStep = s.lastsOn.hwStep.rowStep s.station := by
  have hrunning : ¬ s.lastsOn.pwr.stuck = true := by simp [State.lastsOn, hstuck]
  rw [stateStep_stages, if_neg hrunning, resumes_none _ (hwStep_due (s := s.lastsOn) hdue), station_lastsOn]

/-- A hardware cause above the state in force goes ahead of every row (R58). -/
theorem stateStep_cause (h : s.station < s.ctl.hw) (h31 : s.ctl.hw ≤ 31) :
    s.stateStep.station = s.ctl.hw ∧ s.stateStep.ctl.lasted = 0 ∧ s.stateStep.ctl.hw = 0 := by
  have hmoves : s.lastsOn.hwStep = s.lastsOn.causeless.toState s.ctl.hw (evNum Ev.STATE_CHANGE s.ctl.hw) := hwStep_moves h
  have hstation : s.lastsOn.hwStep.station = s.ctl.hw := by
    rw [hmoves, station_toState, Nat.mod_eq_of_lt (Nat.lt_succ_of_le h31)]
  have hctl : s.lastsOn.hwStep.ctl = { s.lastsOn.causeless.ctl with lasted := 0 } := by
    rw [hmoves, ctl_toState _ (show s.lastsOn.causeless.station ≠ s.ctl.hw from Nat.ne_of_lt h)]
  rw [stateStep_eq hstuck hdue, rowStep_moved (by rw [hstation]; exact Nat.ne_of_gt h), hctl]
  exact ⟨hstation, rfl, rfl⟩

/-- No row leaves the states 28 to 31 (R58). -/
theorem stateStep_top (h28 : 28 ≤ s.station) (h : s.ctl.hw ≤ s.station) : s.stateStep.station = s.station := by
  have hdrops : s.lastsOn.hwStep = s.lastsOn.causeless := hwStep_drops h
  rw [stateStep_eq hstuck hdue, hdrops, rowStep_top (s := s.lastsOn.causeless) _ h28, station_causeless, station_lastsOn]

/-- With no hardware cause the rows of the state decide. -/
theorem stateStep_quiet (h : s.ctl.hw = 0) : s.stateStep = s.lastsOn.rowStep s.lastsOn.station := by
  have hnone : s.lastsOn.hwStep = s.lastsOn := (hwStep_drops (s := s.lastsOn) (by simp [State.lastsOn, h])).trans (causeless_same (s := s.lastsOn) h)
  rw [stateStep_eq hstuck hdue, hnone, station_lastsOn]

end

/-! ### The obligation -/

/-- Settles O43: a step is a hardware cause and then a row, and each clause is what one of the two does (a cause for a lower state is dropped: log entry 41). -/
theorem stationStateMachine : Obligations.StationStateMachine := by
  intro s hstuck hdue hmoved
  refine ⟨stateStep_cause hstuck hdue, stateStep_top hstuck hdue, fun hw h0 => ?_, fun hw h1 h27 => ?_, fun i r hp => ?_⟩
  · rw [stateStep_quiet hstuck hdue hw, rowStep_off (s := s.lastsOn) hmoved h0, station_becomeReady, station_lastsOn, h0]
    rfl
  · rw [stateStep_quiet hstuck hdue hw, station_rowStep (s := s.lastsOn) hmoved h1 h27]
    unfold State.lastsOn
    generalize State.smPick _ = picked
    cases picked <;> rfl
  · obtain ⟨hholds, hfirst⟩ := smPick_first hp
    obtain ⟨hfrm, hcond⟩ := smHolds_iff.mp hholds
    exact ⟨hfrm, hcond, hfirst⟩

end Sys2Proof.Machine
end

section
/-! PROOFS. The working roles of cells, and the cell commands of the host (R38, R100, R101, R107, R108, R110, R221, R399). -/
namespace Sys2Proof.Machine

/-! ### Working roles (R100) -/

/-- Where a Spring's role stands: two bits of the word it shares with fifteen others. -/
theorem roleOf_eq_bits (s : State) (sp : Nat) : s.roleOf sp = bitsOf (s.rd (F.SLU_ROLE.ROLE (sp / 16)).off).toNat (2 * (sp % 16)) 2 := by
  have hword : s.get (F.SLU_ROLE.ROLE (sp / 16)) = (s.rd (F.SLU_ROLE.ROLE (sp / 16)).off).toNat := Nat.mod_eq_of_lt (BitVec.isLt _)
  rw [State.roleOf, hword]

/-- A role written reads as its low two bits. -/
theorem roleOf_setRole_same (s : State) (sp r : Nat) : (s.setRole sp r).roleOf sp = r % 4 := by
  rw [roleOf_eq_bits, State.setRole, State.rd_wr_same, bitsOf_putField_same _ _ _ _ (by omega)]
  rfl

/-- The roles of all other Springs stay. -/
theorem roleOf_setRole_other (s : State) {sp p : Nat} (r : Nat) (h : p ≠ sp) : (s.setRole sp r).roleOf p = s.roleOf p := by
  rw [roleOf_eq_bits, roleOf_eq_bits, State.setRole]
  by_cases hword : p / 16 = sp / 16
  · rw [hword, State.rd_wr_same, bitsOf_putField_apart _ _ _ _ _ _ (by omega) (by omega)]
  · rw [State.rd_wr_other _ _ _ _ (by simp only [F.SLU_ROLE.ROLE]; omega)]

/-- Its word is the only register a role written may change. -/
theorem regsBut_setRole (s : State) (sp r : Nat) {l : List Nat} (h : (F.SLU_ROLE.ROLE (sp / 16)).off ∈ l) : s.RegsBut l (s.setRole sp r) :=
  regsBut_wr s _ _ l h

@[simp] theorem slu_setRole (s : State) (sp r : Nat) : (s.setRole sp r).slu = s.slu := rfl

/-- Raising an event leaves the roles of the 192 Springs. -/
theorem roleOf_raise (s : State) (c : Nat) (l : List Nat) {sp : Nat} (h : sp ≤ 191) : (s.raise c l).roleOf sp = s.roleOf sp := by
  have hquiet : (F.SLU_ROLE.ROLE (sp / 16)).quiet = true := by
    simp only [Fld.quiet, F.SLU_ROLE.ROLE, F.REC_LOST_CNT.COUNT, F.REC_SUPP_CNT.COUNT, Bool.and_eq_true, bne_iff_ne, ne_eq]
    omega
  rw [State.roleOf, State.raise_get s c l _ hquiet, ← State.roleOf]

/-! ### RETURN (R107, R108) -/

/-- What lets a Spring return at once: it is WITHDRAWN, ready, cool, has no expired OCP group, and has been pushed to since it restarted (R38, R108, R221, R399). -/
def State.mayReturn (s : State) (sp : Nat) : Bool :=
  s.roleOf sp == roWITHDRAWN && s.spareReady sp && ((s.thm.sprs.find? (fun x => x.spring == sp)).map (fun x => !x.shut)).getD true &&
    (!s.slu.fresh.contains sp || s.tbl.loaded.contains sp) && !s.slu.expired.contains sp

theorem mayReturn_iff (s : State) (sp : Nat) : s.mayReturn sp = true ↔
    s.roleOf sp = roWITHDRAWN ∧ s.spareReady sp = true ∧ (∀ x, s.thm.sprs.find? (fun x => x.spring == sp) = some x → x.shut = false) ∧
      (sp ∉ s.slu.fresh ∨ sp ∈ s.tbl.loaded) ∧ sp ∉ s.slu.expired := by
  unfold State.mayReturn
  cases s.thm.sprs.find? (fun x => x.spring == sp) <;> simp [and_assoc]

section
variable {s : State} {sp a : Nat} (v : Nat) (harm : armOf (s.tbl8 secARM) sp = some a)
include harm

/-- While insertions run in its arm a RETURN waits for the allocation (R107). -/
theorem returnCell_waits (hbusy : (s.slArm a).items ≠ []) : s.returnCell sp v = { s with slu := { s.slu with reqs := s.slu.reqs ++ [(sp, 0, v)] } } := by
  simp only [State.returnCell, harm, List.isEmpty_eq_false_iff.mpr hbusy, Bool.not_false, if_true]

/-- With none running it acts at once, or is refused. -/
theorem returnCell_idle (hidle : (s.slArm a).items = []) : s.returnCell sp v =
    if s.mayReturn sp then (s.setRole sp roSPARE).raise Ev.CELL_RETURNED_SPARE [sp] else s.raise Ev.SLU_CMD_REJECTED [v] := by
  simp only [State.returnCell, State.mayReturn, harm, hidle, List.isEmpty_nil, Bool.not_true, Bool.false_eq_true, if_false]
  rcases Option.eq_none_or_eq_some (s.thm.sprs.find? (fun x => x.spring == sp)) with hnone | ⟨x, hsome⟩
  · simp only [hnone, Option.map_none, Option.getD_none]
  · simp only [hsome, Option.map_some, Option.getD_some]

end

/-! ### SLU_CELL_CMD (R110) -/

/-- The index and the operation of a word written. -/
theorem cmdWord_fields {sp op : Nat} (hsp : sp < 256) (hop : op < 4) : bitsOf (sp + 256 * op) 0 8 = sp ∧ bitsOf (sp + 256 * op) 8 2 = op := by
  simp only [bitsOf, Nat.shiftRight_eq_div_pow]
  omega

section
variable {s : State} (sp : Fin 256)

/-- An index above 191 or in no arm: either command is refused. -/
theorem cellCmd_rejects {op : Nat} (h0 : 0 < op) (h3 : op < 3) (hno : 191 < sp.val ∨ armOf (s.tbl8 secARM) sp = none) :
    s.cellCmd (sp + 256 * op) = s.raise Ev.SLU_CMD_REJECTED [sp + 256 * op] := by
  obtain ⟨hidx, hop⟩ := cmdWord_fields sp.isLt (show op < 4 by omega)
  have hacts : ¬ (op = 0 ∨ op = 3) := by omega
  simp only [State.cellCmd, hidx, hop, Bool.or_eq_true, decide_eq_true_eq, Option.isNone_iff_eq_none, if_neg hacts, if_pos hno]

variable {a : Nat} (hsp : sp.val ≤ 191) (harm : armOf (s.tbl8 secARM) sp = some a)
include hsp harm

/-- WITHDRAW of a Spring of an arm is a request to the next allocation (log entry 64). -/
theorem cellCmd_withdraw : s.cellCmd (sp + 256) = { s with slu := { s.slu with reqs := s.slu.reqs ++ [(sp.val, 6, sp.val + 256)] } } := by
  obtain ⟨hidx, hop⟩ : bitsOf (sp.val + 256) 0 8 = sp ∧ bitsOf (sp.val + 256) 8 2 = 1 := cmdWord_fields (op := 1) sp.isLt (by decide)
  simp [State.cellCmd, hidx, hop, harm, not_lt.mpr hsp]

/-- RETURN of a Spring of an arm acts on the telemetry in force (log entry 64). -/
theorem cellCmd_return : s.cellCmd (sp + 512) = s.returnCell sp (sp + 512) := by
  obtain ⟨hidx, hop⟩ : bitsOf (sp.val + 512) 0 8 = sp ∧ bitsOf (sp.val + 512) 8 2 = 2 := cmdWord_fields (op := 2) sp.isLt (by decide)
  simp [State.cellCmd, hidx, hop, harm, not_lt.mpr hsp]

end

/-! ### What the commands leave -/

/-- A command whose word does something ends where that does. -/
theorem goesTo_cellCmd {s u : State} {v : Nat} {p : State → Prop} (hlive : s.live = true) (hr : s.role = .basin) (hu : s.cellCmd v = u) (hp : p u) :
    GoesTo (onBasin s fun s => s.cellCmd v) p := by
  refine goesTo_basin hlive hr ?_
  rw [confine_hull (hull_cellCmd s v), hu]
  exact hp

/-- A refusal is its event alone. -/
theorem rejected_leaves (s : State) (v : Nat) : (s.raise Ev.SLU_CMD_REJECTED [v]).slu = s.slu ∧
    s.RegsBut ((F.HIF_EVT_STAT.PEND 0).off :: recCounters) (s.raise Ev.SLU_CMD_REJECTED [v]) :=
  ⟨State.raise_slu s _ _, regsBut_raise s _ _ _ fun _ h => List.mem_cons_of_mem _ h⟩

/-- A Spring returned is SPARE, and every other keeps its role. -/
theorem returned_leaves (s : State) {sp : Nat} (hsp : sp ≤ 191) :
    ((s.setRole sp roSPARE).raise Ev.CELL_RETURNED_SPARE [sp]).roleOf sp = roSPARE ∧
    (∀ p : Fin 192, p.val ≠ sp → ((s.setRole sp roSPARE).raise Ev.CELL_RETURNED_SPARE [sp]).roleOf p = s.roleOf p) ∧
    ((s.setRole sp roSPARE).raise Ev.CELL_RETURNED_SPARE [sp]).slu = s.slu ∧
    s.RegsBut ([(F.SLU_ROLE.ROLE (sp / 16)).off, (F.HIF_EVT_STAT.PEND 0).off] ++ recCounters) ((s.setRole sp roSPARE).raise Ev.CELL_RETURNED_SPARE [sp]) := by
  refine ⟨?_, fun p hp => ?_, by rw [State.raise_slu, slu_setRole], ?_⟩
  · rw [roleOf_raise _ _ _ hsp, roleOf_setRole_same]
    rfl
  · rw [roleOf_raise _ _ _ (Nat.le_of_lt_succ p.isLt), roleOf_setRole_other _ _ hp]
  · exact regsBut_trans (regsBut_setRole s sp roSPARE List.mem_cons_self)
      (regsBut_raise _ _ _ _ fun _ h => List.mem_append_right _ h)

/-! ### The obligation -/

/-- Settles O46: a command's word is refused, left to the next allocation, or a RETURN that acts at once; that WITHDRAW waits and RETURN does not is the model's choice
(log entry 64). -/
theorem cellCommands : Obligations.CellCommands := by
  intro s sp hlive hr
  refine ⟨fun hno => ⟨?_, ?_⟩, fun a hsp harm => ⟨?_, fun hbusy => ?_, fun hidle hrole hready hcool hexp hback => ?_, fun hidle hwhy => ?_⟩⟩
  · obtain ⟨hslu, hregs⟩ := rejected_leaves s (sp + 256)
    exact goesTo_cellCmd hlive hr (cellCmd_rejects sp (op := 1) (by decide) (by decide) hno) ⟨hslu, rfl, hregs⟩
  · obtain ⟨hslu, hregs⟩ := rejected_leaves s (sp + 512)
    exact goesTo_cellCmd hlive hr (cellCmd_rejects sp (op := 2) (by decide) (by decide) hno) ⟨hslu, rfl, hregs⟩
  · exact goesTo_cellCmd hlive hr (cellCmd_withdraw sp hsp harm) ⟨rfl, regsBut_hidden _ rfl rfl rfl, rfl⟩
  · exact goesTo_cellCmd hlive hr ((cellCmd_return sp hsp harm).trans (returnCell_waits _ harm hbusy)) ⟨rfl, regsBut_hidden _ rfl rfl rfl, rfl⟩
  · have hmay : s.mayReturn sp = true := (mayReturn_iff s sp).mpr ⟨hrole, hready, hcool, hback, hexp⟩
    have hcmd := (cellCmd_return sp hsp harm).trans (returnCell_idle _ harm hidle)
    rw [if_pos hmay] at hcmd
    obtain ⟨hspare, hothers, hslu, hregs⟩ := returned_leaves s hsp
    exact goesTo_cellCmd hlive hr hcmd ⟨hspare, hothers, hslu, rfl, hregs⟩
  · have hnot : ¬ s.mayReturn sp = true := by
      rw [mayReturn_iff]
      rintro ⟨hrole, hready, hcool, hback, hexp⟩
      rcases hwhy with h | h | ⟨x, hx, hshut⟩ | h | ⟨hfresh, hunpushed⟩
      · exact h hrole
      · exact Bool.noConfusion (h.symm.trans hready)
      · exact Bool.noConfusion ((hcool x hx).symm.trans hshut)
      · exact hexp h
      · exact hback.elim (· hfresh) hunpushed
    have hcmd := (cellCmd_return sp hsp harm).trans (returnCell_idle _ harm hidle)
    rw [if_neg hnot] at hcmd
    obtain ⟨hslu, hregs⟩ := rejected_leaves s (sp + 512)
    exact goesTo_cellCmd hlive hr hcmd ⟨fun p => roleOf_raise s _ _ (Nat.le_of_lt_succ p.isLt), hslu, rfl, hregs⟩

end Sys2Proof.Machine
end

section
/-! PROOFS. Demand entries as they come, wait, stand and go, and a spare whose bypass does not open (R92 to R95, R106). -/
namespace Sys2Proof.Machine

/-! ### SET_DEMAND and RELEASE (R51, R92, R93) -/

/-- Deciding an outcome changes nothing in Sluice (R333). -/
theorem slu_settle (s : State) (id st rs re fr tk : Nat) : (s.settle id st rs re fr tk).slu = s.slu := by
  obtain ⟨r, w, rc, i, v, e⟩ := settle_touch s id st rs re fr tk
  rw [e]

/-- Nor does the apply queue (R51). -/
theorem slu_queueOp (s : State) (x : Infl) : (s.queueOp x).slu = s.slu := by
  unfold State.queueOp
  split
  · exact slu_settle s _ _ _ _ _ _
  · rfl

section
variable {s : State} (dt : Nat) {q : Fin 16} {x : Infl} {release : Bool} (h : s.Ready q 0x02 x) (hkind : isRelease x.d = release)
include h hkind

/-- A descriptor that passes checks 3 and 4 waits for its tick, an entry and a RELEASE alike. -/
theorem goesTo_demand_queued {a : Nat} (hbad : s.demandBad x.d = none) (ha : applyTick s.nextTick x.d.applyTick = some a) :
    GoesTo (onBasin s fun s => (s.advance dt).demandOp q release) fun t =>
      t.inflAt x.id = some { x with due := a, phase := .queued a } ∧ t.regs = s.regs ∧ t.slu = s.slu := by
  have hbad' : (State.advance dt s).demandBad x.d = none := hbad
  obtain ⟨hin, -⟩ := ready_inflAt h
  obtain ⟨hqueued, hregs, -⟩ := queueOp_queued (s := State.advance dt s) hin ha
  refine goesTo_op h ?_
  simp only [hkind, bne_self_eq_false, Bool.false_eq_true, if_false, hbad']
  rw [confine_hull (by simp)]
  exact ⟨hqueued, hregs, slu_queueOp (State.advance dt s) x⟩

/-- One that fails a check completes with its status. -/
theorem goesTo_demand_refused {st : Nat} (hbad : s.demandBad x.d = some st) :
    GoesTo (onBasin s fun s => (s.advance dt).demandOp q release) fun t => t.Ended x.id st 0 0 ∧ t.slu = s.slu := by
  have hbad' : (State.advance dt s).demandBad x.d = some st := hbad
  obtain ⟨hend, -⟩ := refused_ended h dt st 0
  refine goesTo_op h ?_
  simp only [hkind, bne_self_eq_false, Bool.false_eq_true, if_false, hbad']
  exact ⟨hend, slu_settle (State.advance dt s) _ _ _ _ _ _⟩

end

/-! ### Entries of slots (R94, R95) -/

theorem entryAt_slot {s : State} {slot : Nat} {e : Entry} (h : s.entryAt slot = some e) : e.slot = slot := by
  simpa using List.find?_some h

/-- An outcome decided stays so in every state with the same descriptors in flight. -/
theorem ended_congr {s t : State} {id st rs re : Nat} (h : t.host.infl = s.host.infl) (hend : s.Ended id st rs re) : t.Ended id st rs re := by
  obtain ⟨y, c, hy, hrest⟩ := hend
  exact ⟨y, c, (State.inflAt_congr h id).trans hy, hrest⟩

/-- An entry refused frees its slot and completes its descriptor with its last reason (R94). -/
theorem refuseEntry_leaves {s : State} {e : Entry} {x : Infl} (hin : s.inflAt e.id = some x) (hopen : x.phase.isDone = false) (hq : x.q < 16) :
    (s.refuseEntry e).slu.entries = s.slu.entries.filter (fun y => y.slot != e.slot) ∧
      (s.refuseEntry e).Ended e.id (reasonStatus (e.lastR / 2 ^ 24)) e.lastR 0 ∧ s.RegsBut (cplRegs x.q) (s.refuseEntry e) := by
  obtain ⟨hend, hregs⟩ := settle_ends (u := { s with slu := { s.slu with entries := s.slu.entries.filter (fun y => y.slot != e.slot) } })
    (reasonStatus (e.lastR / 2 ^ 24)) e.lastR 0 e.lastF e.lastTick hin rfl hopen hq
  unfold State.refuseEntry
  refine ⟨?_, ended_congr (by rw [State.raise_host]) hend, regsBut_trans hregs (regsBut_raise _ _ _ _ (cplRegs_rec x.q))⟩
  rw [State.raise_slu, slu_settle]

/-- A waiting entry past its HOLD ticks leaves its slot (R94). -/
theorem exec_demandHoldExpiry_leaves {s : State} (dt : Nat) {slot : Fin 64} {e : Entry} {x : Infl} (hlive : s.live = true) (hr : s.role = .basin)
    (he : s.entryAt slot = some e) (hwaits : e.left = none) (hhold : e.hold < e.waited) (hin : s.inflAt e.id = some x) (hph : x.phase = .demand) (hq : x.q < 16) :
    GoesTo (exec (.demandHoldExpiry dt slot) s) fun t => t.slu.entries = s.slu.entries.filter (fun y => y.slot != slot.val) ∧
      t.Ended e.id (reasonStatus (e.lastR / 2 ^ 24)) e.lastR 0 ∧ s.RegsBut (cplRegs x.q) t := by
  have he' : (State.advance dt s).entryAt slot = some e := he
  have hover : e.expired = true := by simp [Entry.expired, hwaits, hhold]
  have hopen : x.phase.isDone = false := by
    rw [hph]
    rfl
  have hleaves := refuseEntry_leaves (s := State.advance dt s) hin hopen hq
  rw [entryAt_slot he] at hleaves
  change GoesTo (execDemandHoldExpiry dt slot s) _
  refine goesTo_basin hlive hr ?_
  simp only [he', hover, if_true]
  rw [confine_hull (by simp)]
  exact hleaves

/-- A standing entry past its DURATION leaves its slot, and nothing else changes (R95). -/
theorem exec_demandDurationEnd_drops {s : State} (dt : Nat) {slot : Fin 64} {e : Entry} (hlive : s.live = true) (hr : s.role = .basin)
    (he : s.entryAt slot = some e) (hleft : e.left = some 0) : GoesTo (exec (.demandDurationEnd dt slot) s) fun t =>
      t = { State.advance dt s with slu := { s.slu with entries := s.slu.entries.filter (fun y => y.slot != slot.val) } } := by
  have he' : (State.advance dt s).entryAt slot = some e := he
  change GoesTo (execDemandDurationEnd dt slot s) _
  refine goesTo_basin hlive hr ?_
  simp only [he', hleft, beq_self_eq_true, if_true]
  exact confine_hull (by simp)

/-! ### A spare that does not open (R106) -/

/-- A spare has failed: it is WITHDRAWN if it was a SPARE, and a failed insertion is counted. -/
def State.spareFailed (s : State) (sp : Nat) : State :=
  (if s.roleOf sp == roSPARE then s.setRole sp roWITHDRAWN else s).inc F.SLU_INS_CNT.FAIL

/-- Then the failure is raised, its item ends, and the vacancy asks for the next spare. -/
theorem insertFail_eq {s : State} {i : InsItem} {sp : Nat} (a cause : Nat) (h : i.spare = some sp) : s.insertFail a i cause =
    (((s.spareFailed sp).raise Ev.SPARE_INSERT_FAIL [a, sp, evNum Ev.SPARE_INSERT_FAIL cause]).modSlArm a
      (fun x => { x with items := x.items.filter (· != i), at' := none })).insertWith a i.pos i.gone i.since := by
  simp only [State.insertFail, State.spareFailed, h, Option.getD_some]

/-- No word of roles is the word of the insertion counters. -/
theorem roleWord_ne_insCount (sp : Fin 192) : (F.SLU_ROLE.ROLE (sp / 16)).off ≠ F.SLU_INS_CNT.FAIL.off := by
  simp only [F.SLU_ROLE.ROLE, F.SLU_INS_CNT.FAIL]
  omega

theorem spareFailed_leaves (s : State) (sp : Fin 192) :
    s.RegsBut [F.SLU_INS_CNT.FAIL.off, (F.SLU_ROLE.ROLE (sp / 16)).off] (s.spareFailed sp) ∧ (s.spareFailed sp).slu = s.slu ∧
      (s.spareFailed sp).get F.SLU_INS_CNT.FAIL = min (s.get F.SLU_INS_CNT.FAIL + 1) (2 ^ F.SLU_INS_CNT.FAIL.w - 1) ∧
      (s.roleOf sp = roSPARE → (s.spareFailed sp).roleOf sp = roWITHDRAWN) := by
  have hinc : ∀ u : State, u.RegsBut [F.SLU_INS_CNT.FAIL.off, (F.SLU_ROLE.ROLE (sp / 16)).off] (u.inc F.SLU_INS_CNT.FAIL) :=
    fun u => regsBut_set u _ _ _ List.mem_cons_self
  unfold State.spareFailed
  by_cases hspare : s.roleOf sp = roSPARE
  · rw [if_pos (beq_iff_eq.mpr hspare)]
    refine ⟨regsBut_trans (regsBut_setRole s _ _ (List.mem_cons_of_mem _ List.mem_cons_self)) (hinc _), rfl, ?_, fun _ => ?_⟩
    · rw [inc_get_sat _ rfl, State.setRole, State.get_wr_other _ _ _ _ (roleWord_ne_insCount sp).symm]
    · rw [roleOf_eq_bits, State.inc, State.addSat, State.rd_set_other _ _ _ _ (roleWord_ne_insCount sp), ← roleOf_eq_bits, roleOf_setRole_same]
      rfl
  · rw [if_neg (by simpa using hspare)]
    exact ⟨hinc s, rfl, inc_get_sat s rfl, fun h => absurd h hspare⟩

/-- A spare placed TMO ago whose bypass has not opened fails (R106); that TMO counts from the placing is the model's choice (log entry 48). -/
theorem exec_spareInsertFail_fails {s : State} {dt : Nat} {arm : Fin 12} {spare : Fin 192} {i : InsItem} {placed : Nat} (hlive : s.live = true) (hr : s.role = .basin)
    (hi : (s.slArm arm).items.find? (fun i => i.spare == some spare.val) = some i) (hplaced : i.placed = some placed) (hopened : i.opened = false)
    (htmo : placed + 10000 * s.cg F.SLU_INS_CFG.TMO ≤ (State.advance dt s).time.ext) :
    GoesTo (exec (.spareInsertFail dt arm spare) s) fun t => t = (State.advance dt s).insertFail arm i 0 := by
  have hi' : ((State.advance dt s).slArm arm).items.find? (fun i => i.spare == some spare.val) = some i := hi
  have htmo' : placed + 10000 * (State.advance dt s).cg F.SLU_INS_CFG.TMO ≤ (State.advance dt s).time.ext := htmo
  change GoesTo (execSpareInsertFail dt arm spare s) _
  refine goesTo_basin hlive hr ?_
  simp only [hi', hplaced, hopened, Bool.not_false, Bool.true_and, decide_eq_true htmo', if_true]
  exact confine_hull (by simp)

/-! ### The obligation -/

/-- Settles O15: each clause is the lemma on its command; a spare's TMO counts from its placing, the model's choice (log entry 48). -/
theorem demandEntries : Obligations.DemandEntries := by
  refine ⟨fun s dt q x a h hkind hbad ha => ?_, fun s dt q x a h hkind hbad ha => ?_, fun s dt q x st h hbad => ⟨fun hkind => ?_, fun hkind => ?_⟩,
    fun s dt slot e x hlive hr he hwaits hhold hin hph hq => ?_, fun s dt slot e hlive hr he hleft => ?_,
    fun s dt arm spare i placed hlive hr hi hplaced hopened htmo => ?_⟩
  · exact goesTo_demand_queued dt h (beq_eq_false_iff_ne.mpr hkind) hbad ha
  · exact goesTo_demand_queued dt h (beq_iff_eq.mpr hkind) hbad ha
  · exact goesTo_demand_refused dt h (beq_eq_false_iff_ne.mpr hkind) hbad
  · exact goesTo_demand_refused dt h (beq_iff_eq.mpr hkind) hbad
  · exact exec_demandHoldExpiry_leaves dt hlive hr he hwaits hhold hin hph hq
  · exact exec_demandDurationEnd_drops dt hlive hr he hleft
  · obtain ⟨t, hexec, rfl⟩ := exec_spareInsertFail_fails hlive hr hi hplaced hopened htmo
    have hspare : i.spare = some spare.val := by simpa using List.find?_some hi
    obtain ⟨hregs, hslu, hcount, hrole⟩ := spareFailed_leaves (State.advance dt s) spare
    refine ⟨_, hexec, (State.advance dt s).spareFailed spare, hregs, hslu, hcount, hrole, ?_⟩
    rw [insertFail_eq _ _ hspare]
    exact (confine_hull (by simp [State.spareFailed])).symm

end Sys2Proof.Machine
end

section
/-! PROOFS. A device in full reset, and warm resets with SAFE_HOLD (R152, R153, R523 to R533, R559). -/
namespace Sys2Proof.Machine

/-- A step takes the front command. -/
theorem step_front {s : State} {c : Instr} {rest : List Instr} (h : s.pending = c :: rest) : step s = exec c { s with pending := rest } := by
  unfold step
  rw [h]

/-- Settles O7: the three commands that end or keep full reset answer what they name; PORST_N low does nothing more, and every other command runs under a guard that
full reset turns off. -/
theorem fullResetHolds : Obligations.FullResetHolds := by
  intro s c rest hf hp
  have hstep := step_front hp
  have hfull : ({ s with pending := rest } : State).pwr.full = true := hf
  cases c with
  | porstNRelease b => exact ⟨_, hstep, (release_full _ b).1, (release_straps _ b).1⟩
  | brownOut rail => exact ⟨_, hstep, rfl, rfl, rfl⟩
  | aonPowerOn => exact ⟨_, hstep, rfl, rfl⟩
  | porstNAssert => exact hstep.trans (congrArg Host.Outcome.next (if_pos hfull))
  | _ => exact hstep.trans (exec_full rfl hfull)

/-! ### Warm resets (R527 to R533) -/

/-- What a warm reset leaves of the state it is entered from (R528, R529, R153). -/
theorem warmEnter_leaves (s : State) : s.warmEnter.pwr.warm = true ∧ s.warmEnter.pwr.rstLow = s.pwr.rstLow ∧ s.warmEnter.pwr.rstAt = s.pwr.rstAt ∧
    s.warmEnter.gate = { hbs := s.gate.hbs.map warmHb } ∧ s.warmEnter.time.ext = s.time.ext ∧ s.warmEnter.nor = s.nor ∧ s.Outlives s.warmEnter ∧
    ∀ o, keptReg o = false → o ∉ warmRegs → s.warmEnter.rd o = resetWord s.role s.side o := by
  obtain ⟨v, e, hrole, hside, hboot, hpend, hpwr, -, hgate, htime, hnor⟩ := warmEnter_eq s
  obtain ⟨hwarm, hfull, hlow, hat, -, -, hg, hext, hn, hr, hs, hb, hp, hregs⟩ := warmState_facts v
  rw [hpwr] at hfull hlow hat
  rw [hgate] at hg
  rw [hrole, hside] at hregs
  rw [e]
  exact ⟨hwarm, hlow, hat, hg, hext.trans (by rw [htime]), hn.trans hnor, ⟨hr.trans hrole, hs.trans hside, hb.trans hboot, hp.trans hpend, hfull⟩, hregs⟩

/-- Every half-bridge is low after a warm reset, but for a soft turn-off that runs to its end (R136, R153). -/
theorem warmed_low {l : List HbSt} {h : HbSt} (hm : h ∈ l.map warmHb) (hs : h.soft = none) : h.low = true := by
  obtain ⟨k, -, rfl⟩ := List.mem_map.mp hm
  exact warmHb_low k hs

/-- RESET_N has fallen, after a while. -/
def State.rstFalls (s : State) (dt : Nat) : State := { State.advance dt s with pwr := { s.pwr with rstLow := true, rstAt := s.time.cyc + dt } }

/-- RESET_N has risen, after a while. -/
def State.rstRises (s : State) (dt : Nat) : State := { State.advance dt s with pwr := { s.pwr with rstLow := false, highAt := s.time.cyc + dt } }

/-- SAFE_HOLD has ended, after a while. -/
def State.holdEnds (s : State) (dt : Nat) : State := { State.advance dt s with pwr := { s.pwr with stuck := false } }

theorem hull_rstFalls (s : State) (dt : Nat) : (s.rstFalls dt).hull = s.hull := rfl
theorem hull_holdEnds (s : State) (dt : Nat) : (s.holdEnds dt).hull = s.hull := rfl

/-- RESET_N low: the warm reset, entered now (R527, R528). -/
theorem exec_resetNAssert_eq {s : State} (dt : Nat) (hf : s.pwr.full = false) (hw : s.pwr.warm = false) (hl : s.pwr.rstLow = false) :
    exec (.resetNAssert dt) s = .next (s.rstFalls dt).warmEnter := by
  have e : exec (.resetNAssert dt) s =
      whenPowered s fun s => if s.pwr.rstLow then State.advance dt s else if s.pwr.warm then s.rstFalls dt else (s.rstFalls dt).warmEnter := rfl
  rw [e, whenPowered, guarded_on _ (by simp [hf]), if_neg (by simp [hl]), if_neg (by simp [hw]), confine_hull (by rw [hull_warmEnter, hull_rstFalls])]

/-- RESET_N high before tSTK's most: the warm reset is left with the cause of RESET_N (R530). -/
theorem exec_resetNRelease_eq {s : State} {dt : Nat} (hf : s.pwr.full = false) (hw : s.pwr.warm = true) (hl : s.pwr.rstLow = true)
    (ht : s.time.cyc + dt - s.pwr.rstAt < s.tStkMax) :
    exec (.resetNRelease dt) s = .next (s.confine (((s.rstRises dt).warmLeft 3).warmResume 3 ((s.time.cyc + dt - s.pwr.rstAt) / 500))) := by
  have hmax : ¬ (State.advance dt s).tStkMax ≤ s.time.cyc + dt - s.pwr.rstAt := Nat.not_le.mpr ht
  change execResetNRelease dt s = _
  unfold execResetNRelease
  rw [whenPowered, guarded_on _ (by simp [hf])]
  simp only [State.advance_pwr, State.advance_cyc, hl, hw, hmax, decide_false, Bool.and_false, Bool.not_true, Bool.false_eq_true, if_false, if_true]
  rfl

/-- RESET_N low for tSTK: the warm reset is left into SAFE_HOLD (R531). -/
theorem exec_resetStuck_eq {s : State} {dt : Nat} (hf : s.pwr.full = false) (hw : s.pwr.warm = true) (hl : s.pwr.rstLow = true) (ht : s.tStk ≤ s.time.cyc + dt - s.pwr.rstAt) :
    exec (.resetStuck dt) s = .next (s.confine (State.advance dt s).intoHold) := by
  have e : exec (.resetStuck dt) s = whenPowered s fun s =>
      if s.pwr.warm && s.pwr.rstLow && decide (s.tStk ≤ s.time.cyc + dt - s.pwr.rstAt) then (State.advance dt s).intoHold else State.advance dt s := rfl
  rw [e, whenPowered, guarded_on _ (by simp [hf]), if_pos (by simp [hw, hl, ht])]

/-- RESET_N high for tREL: SAFE_HOLD ends (R532). -/
theorem exec_resetReleased_eq {s : State} {dt : Nat} (hlive : s.live = true) (hstuck : s.pwr.stuck = true) (hl : s.pwr.rstLow = false)
    (ht : s.pwr.highAt + s.tRel ≤ s.time.cyc + dt) :
    exec (.resetReleased dt) s = .next (((s.holdEnds dt).set F.CMN_RESET.SAFE_HOLD 0).raise Ev.RESET_RELEASED [(s.time.cyc + dt - s.pwr.holdAt) / 500000]) := by
  have e : exec (.resetReleased dt) s = whenLive s fun s => if s.pwr.stuck && !s.pwr.rstLow && decide (s.pwr.highAt + s.tRel ≤ s.time.cyc + dt) then
      ((s.holdEnds dt).set F.CMN_RESET.SAFE_HOLD 0).raise Ev.RESET_RELEASED [(s.time.cyc + dt - s.pwr.holdAt) / 500000] else State.advance dt s := rfl
  rw [e, whenLive, guarded_on _ hlive, if_pos (by simp [hstuck, hl, ht]), confine_hull (by rw [hull_raise _ _ _, hull_set, hull_holdEnds])]

/-- SAFE_HOLD shown, from which the exit of a stuck reset goes on (R531). -/
def State.holdShown (s : State) : State :=
  State.set { s with pwr := { s.pwr with stuck := true, holdAt := if s.pwr.stuck then s.pwr.holdAt else s.time.cyc } } F.CMN_RESET.SAFE_HOLD 1

theorem intoHold_eq (s : State) : s.intoHold =
    ((s.holdShown.warmLeft 5).warmResume 5 ((s.time.cyc - s.pwr.rstAt) / 500)).raise Ev.RESET_STUCK [(s.time.cyc - s.pwr.rstAt) / 500000] := rfl

theorem exec_softwareReset_eq {s : State} (v : Word) (hlive : s.live = true) : exec (.softwareReset v) s = .next (s.softReset v.toNat) := by
  change execSoftwareReset v s = _
  unfold execSoftwareReset
  rw [whenLive, guarded_on _ hlive, confine_hull (hull_softReset s v.toNat)]

/-- The key does nothing while RESET_N is low, and another word never does (R533). -/
theorem softReset_noKey (s : State) {v : Nat} (h : v % 256 ≠ 0xA5) : s.softReset v = s := by
  rw [State.softReset, if_pos (by simp [h])]

/-- While the device works the key raises SWRST_REFUSED alone (R533). -/
theorem softReset_refuses {s : State} {v : Nat} (hl : s.pwr.rstLow = false) (hv : v % 256 = 0xA5)
    (hw : s.role = .basin ∧ s.energisedRange = true ∨ s.role = .spring ∧ s.anySwitch = true) : ∃ m, s.softReset v = s.raise Ev.SWRST_REFUSED m := by
  rw [State.softReset, if_neg (by simp [hl, hv])]
  rcases hw with ⟨hr, he⟩ | ⟨hr, he⟩ <;> rw [hr] <;> exact ⟨_, if_pos he⟩

/-- Otherwise the key makes a warm reset that is left at once (R533). -/
theorem softReset_resets {s : State} {v : Nat} (hl : s.pwr.rstLow = false) (hv : v % 256 = 0xA5) (hb : s.role = .basin → s.energisedRange = false)
    (hs : s.role = .spring → s.anySwitch = false) : s.softReset v = s.warmEnter.warmExit 4 0 := by
  rw [State.softReset, if_neg (by simp [hl, hv])]
  cases hr : s.role with
  | basin => exact if_neg (by simp [hb hr])
  | spring => exact if_neg (by simp [hs hr])

/-- Settles O9: each command of RESET_N and CMN_SWRST is one equation, and each clause reads what a warm reset, its exit or SAFE_HOLD leaves. That WARM_RESET comes at the exit,
before RESET_STUCK, and that a failed Basin keeps its role are the model's readings (log entry 20), as is tSTK less the microsecond of its filter (log entry 74). -/
theorem warmResets : Obligations.WarmResets := by
  refine ⟨fun s dt hf hw hl => ?_, fun s dt hf hw hl ht => ?_, fun s dt hf hw hl ht => ?_, fun s dt hlive hstuck hl ht => ?_, fun s v hlive hl hv hworks => ?_,
    fun s v hlive hl hv hb hs => ?_, fun s v hlive hv => ?_⟩
  · obtain ⟨hwarm, hlow, hat, hgate, hext, hnor, hout, hregs⟩ := warmEnter_leaves (s.rstFalls dt)
    refine ⟨_, exec_resetNAssert_eq dt hf hw hl, hwarm, hlow, hat, by rw [hgate], by rw [hgate], fun h hm hsoft => ?_, hext, hnor, hout, hregs⟩
    rw [hgate] at hm
    exact warmed_low hm hsoft
  · obtain ⟨hpwr, hcause, hshown, hcnt, -, -, hepoch⟩ :=
      warmLeft_facts (s.rstRises dt) 3 (by decide)
    exact ⟨_, exec_resetNRelease_eq hf hw hl ht, _, rfl, by rw [hpwr], by rw [hpwr]; rfl, by rw [hpwr]; rfl, hcause, hshown, hcnt, hepoch⟩
  · obtain ⟨hpwr, -, hshown, -, hhold, -, -⟩ := warmLeft_facts (State.advance dt s).holdShown 5 (by decide)
    refine ⟨_, exec_resetStuck_eq hf hw hl ht, _, _, congrArg s.confine (intoHold_eq _), by rw [hpwr], by rw [hpwr]; rfl, by rw [hpwr]; exact hl, hhold.trans ?_, hshown, rfl⟩
    exact State.get_set_same _ _ _ rfl
  · refine ⟨_, exec_resetReleased_eq hlive hstuck hl ht, by rw [State.raise_pwr]; rfl, ?_, ?_, ?_, by rw [State.raise_gate]; rfl⟩
    · rw [State.raise_get _ _ _ _ rfl]
      exact State.get_set_same _ _ _ rfl
    · rw [State.raise_get _ _ _ _ rfl]
      exact State.get_set_apart _ _ _ _ rfl rfl
    · refine regsBut_trans (t := (s.holdEnds dt).set F.CMN_RESET.SAFE_HOLD 0) ?_
        (regsBut_raise _ _ _ _ fun o ho => List.mem_cons_of_mem _ ho)
      exact regsBut_set (s.holdEnds dt) _ _ _ List.mem_cons_self
  · obtain ⟨m, e⟩ := softReset_refuses hl hv hworks
    rw [exec_softwareReset_eq v hlive, e]
    exact ⟨_, rfl, s.recorded_raise _ _, regsBut_raise _ _ _ _ fun o ho => ho⟩
  · obtain ⟨hpwr, hcause, hshown, -, -, hgate, -⟩ := warmLeft_facts s.warmEnter 4 (by decide)
    obtain ⟨-, -, -, hg, -⟩ := warmEnter_leaves s
    rw [exec_softwareReset_eq v hlive, softReset_resets hl hv hb hs]
    exact ⟨_, rfl, _, (confine_hull (by simp)).symm, by rw [hpwr], hcause, hshown, by rw [hgate, hg], by rw [hgate, hg]⟩
  · rw [exec_softwareReset_eq v hlive, softReset_noKey s hv]

end Sys2Proof.Machine
end

section
/-! PROOFS. A DESAT fault in the CORE cycle of a CONFLICT (R118, R119, R121, R126, R136). -/
namespace Sys2Proof.Machine

/-- A half-bridge whose high side CONFLICT took low as CORE cycle 1000 began; a boundary of that cycle ended the CONFLICT, and its level put the low side on at once. -/
def conflictHb : HbSt := { hi := { offAt := some 8000 }, lo := { cmd := true, cmdAt := 8000, on := true, onAt := 8000 }, confOff := some (1000, true) }

/-- A Spring in CORE cycle 1000 with that half-bridge, enabled, its dead and blanking times 0. -/
def conflictState : State :=
  { State.reset with
    role := .spring, time := { State.reset.time with cyc := 1000 }
    gate := { State.reset.gate with hbs := conflictHb :: List.replicate 5 {}, hbEn := 1, dt := List.replicate 6 0, blank := List.replicate 6 0 } }

/-- At the cycle's last step the low side is the one that conducts. -/
theorem conflictState_conducts_low : (conflictState.hb 0).conducting 8007 = some false := by decide

/-- Its DESAT fault records the high side: in a trip a channel that CONFLICT took low in the present cycle counts as on again (R136). -/
theorem conflictState_trips_high : ∃ t, exec (.desatFault 0 0 false 2 7) conflictState = .next t ∧ (t.hb 0).tripCh = some true :=
  ⟨_, rfl, by decide +kernel⟩

/-- Refutes O38: its first clause asks that the trip names the channel whose DESAT input is high and which conducts. When CONFLICT took the other channel low in the same CORE
cycle, the trip takes that channel for on again and names it, if it is the high side. -/
theorem not_tripsAndResumes : ¬ Obligations.TripsAndResumes := by
  rintro ⟨htrips, -⟩
  obtain ⟨halone, -⟩ := htrips conflictState 0 2 0 false 7 (by decide) rfl rfl (by decide) ⟨by decide, by decide, rfl⟩ rfl conflictState_conducts_low (by decide)
  obtain ⟨t, e, -, hch, -⟩ := halone (by intro e h; cases h)
  obtain ⟨u, e', hch'⟩ := conflictState_trips_high
  obtain rfl := Host.Outcome.next.inj (e.symm.trans e')
  cases hch.symm.trans hch'

end Sys2Proof.Machine
end

section
/-! PROOFS. The gate path on the half-bridges alone, the bypass interlock, and a command's record (R66 to R68, R114 to R118, R140, R150, R351). -/
namespace Sys2Proof.Machine

/-! ### Registers -/

theorem State.RegsBut.get {s t : State} {l : List Nat} (h : s.RegsBut l t) {f : Fld} (hf : f.off ∉ l) : t.get f = s.get f := by
  rw [State.get, h _ hf, State.get]

theorem State.RegsBut.flag {s t : State} {l : List Nat} (h : s.RegsBut l t) {f : Fld} (hf : f.off ∉ l) : t.flag f = s.flag f := by
  rw [State.flag, h.get hf, State.flag]

section

variable {s t : State} {l : List Nat} (h : s.RegsBut l t)
include h

theorem State.RegsBut.set (f : Fld) (v : Nat) (hf : f.off ∈ l) : s.RegsBut l (t.set f v) := regsBut_trans h (regsBut_set t f v l hf)

theorem State.RegsBut.inc (f : Fld) (hf : f.off ∈ l) : s.RegsBut l (t.inc f) := h.set f _ hf

theorem State.RegsBut.raise (c : Nat) (p : List Nat) (hl : ∀ o ∈ recCounters, o ∈ l) : s.RegsBut l (t.raise c p) := regsBut_trans h (regsBut_raise t c p l hl)

end

/-- A counter raised from a register that two states share. -/
theorem inc_get_of {s u : State} {f : Fld} (hok : f.ok = true) (h : u.get f = s.get f) : (u.inc f).get f = min (s.get f + 1) (2 ^ f.w - 1) := by
  rw [inc_get_sat u hok, h]

/-! ### Half-bridges alone -/

/-- The state with other half-bridges. -/
def State.withHbs (s : State) (l : List HbSt) : State := { s with gate := { s.gate with hbs := l } }

/-- The second state differs from the first in its half-bridges alone. -/
def State.OnlyHbs (s t : State) : Prop := ∃ l, t = s.withHbs l

namespace State.OnlyHbs

variable {s t u : State}

theorem same (s : State) : s.OnlyHbs s := ⟨s.gate.hbs, rfl⟩

theorem trans (h : s.OnlyHbs t) (k : t.OnlyHbs u) : s.OnlyHbs u := by
  obtain ⟨l, rfl⟩ := h
  obtain ⟨m, rfl⟩ := k
  exact ⟨m, rfl⟩

theorem foldl {α : Type} {g : State → α → State} (h : ∀ s x, State.OnlyHbs s (g s x)) (l : List α) (s : State) : s.OnlyHbs (l.foldl g s) := by
  induction l generalizing s with
  | nil => exact same s
  | cons x t ih => exact (h s x).trans (ih _)

theorem rd (h : s.OnlyHbs t) (o : Nat) : t.rd o = s.rd o := by obtain ⟨l, rfl⟩ := h; rfl
theorem regs (h : s.OnlyHbs t) (l : List Nat) : s.RegsBut l t := fun o _ => h.rd o
theorem get (h : s.OnlyHbs t) (f : Fld) : t.get f = s.get f := by obtain ⟨l, rfl⟩ := h; rfl
theorem flag (h : s.OnlyHbs t) (f : Fld) : t.flag f = s.flag f := by obtain ⟨l, rfl⟩ := h; rfl
theorem spr (h : s.OnlyHbs t) : t.spr = s.spr := by obtain ⟨l, rfl⟩ := h; rfl
theorem gate (h : s.OnlyHbs t) : ∃ l, t.gate = { s.gate with hbs := l } := by obtain ⟨l, rfl⟩ := h; exact ⟨l, rfl⟩

end State.OnlyHbs

theorem onlyHbs_modHb (s : State) (n : Nat) (f : HbSt → HbSt) : s.OnlyHbs (s.modHb n f) := ⟨_, rfl⟩

theorem onlyHbs_hbsLow (s : State) (ns : List Nat) (t : Nat) : s.OnlyHbs (s.hbsLow ns t) := .foldl (fun s n => onlyHbs_modHb s n _) ns s

theorem onlyHbs_uncommand (s : State) (ns : List Nat) : s.OnlyHbs (s.uncommand ns) := .foldl (fun s n => onlyHbs_modHb s n _) ns s

theorem onlyHbs_setDesat (s : State) (mask : Nat) : s.OnlyHbs (s.setDesat mask) := .foldl (fun s n => onlyHbs_modHb s n _) _ s

theorem onlyHbs_onEdge (s : State) (n : Nat) (hi : Bool) (t w : Nat) : s.OnlyHbs (s.onEdge n hi t w) := by
  unfold State.onEdge
  dsimp only
  split
  · exact (onlyHbs_modHb s n _).trans (onlyHbs_modHb _ n _)
  · exact onlyHbs_modHb s n _

theorem onlyHbs_legTo (s : State) (n : Nat) (hi : Bool) (t w : Nat) (e : Bool) : s.OnlyHbs (s.legTo n hi t w e) := by
  have hoff : s.OnlyHbs (s.offEdge n (!hi) t) := onlyHbs_modHb s n _
  unfold State.legTo
  dsimp only
  split
  · exact hoff
  · exact hoff.trans (onlyHbs_onEdge _ n hi t w)

theorem onlyHbs_legWave (s : State) (n t : Nat) (w : Wave) : s.OnlyHbs (s.legWave n t w) := by
  unfold State.legWave
  split
  · exact .same s
  · exact onlyHbs_legTo s n w.hi t w.left false

theorem onlyHbs_driveBridge (s : State) (sub : Nat) (b : Bool) : s.OnlyHbs (s.driveBridge sub b) := by
  unfold State.driveBridge
  dsimp only
  split
  · exact (onlyHbs_legTo s 0 _ _ _ b).trans (onlyHbs_legTo _ 1 _ _ _ b)
  · split
    · refine .foldl (fun s n => ?_) _ s
      split
      · exact onlyHbs_legWave s n _ _
      · exact .same s
    · exact (onlyHbs_hbsLow s _ _).trans (onlyHbs_uncommand _ _)

/-! ### The bypass interlock (R140) -/

/-- Half-bridges, the interlock's flag, the mode shown and the recorder are all that may differ. -/
structure State.Interlocks (s t : State) : Prop where
  gate : ∃ l i, t.gate = { s.gate with hbs := l, ilk := i }
  spr : ∃ m, t.spr = { s.spr with mode := m }
  regs : s.RegsBut recCounters t

theorem State.Interlocks.same (s : State) : s.Interlocks s := ⟨⟨_, _, rfl⟩, ⟨_, rfl⟩, regsBut_same s _⟩

theorem interlocks_interlock (s : State) (b : Bool) : s.Interlocks (s.interlock b) := by
  have h : ∀ u : State, u.gate = s.gate → u.spr = s.spr → s.RegsBut recCounters u → ∀ i m,
      s.Interlocks (State.driveBridge { u with gate := { u.gate with ilk := i }, spr := { u.spr with mode := m } } 0 b) := by
    intro u hg hs hr i m
    obtain ⟨l, e⟩ := onlyHbs_driveBridge { u with gate := { u.gate with ilk := i }, spr := { u.spr with mode := m } } 0 b
    rw [e]
    exact ⟨⟨l, i, by rw [← hg]; rfl⟩, ⟨m, by rw [← hs]; rfl⟩, hr⟩
  unfold State.interlock
  dsimp only
  split
  · exact h _ (State.raise_gate _ _ _) (State.raise_spr _ _ _) (regsBut_raise _ _ _ _ fun _ ho => ho) _ _
  · exact h s rfl rfl (regsBut_same s _) _ _

theorem interlocks_bypMoved (s was : State) : s.Interlocks (s.bypMoved was) := by
  unfold State.bypMoved
  split
  · exact interlocks_interlock s false
  · exact .same s

/-- A bypass command as it was moves nothing. -/
theorem bypMoved_idle {s was : State} (h : s.gate.bypCmd = was.gate.bypCmd) : s.bypMoved was = s := by
  rw [State.bypMoved, if_neg (by simp [h])]

/-! ### A command's record (R150, R351) -/

/-- The record's register of a source that has one. -/
theorem cmdIdx_le {c : DueCmd} (h : c.src ≤ 15 ∨ c.src = 0xFE) : cmdIdx c ≤ 16 := by
  unfold cmdIdx
  split <;> omega

/-- A source's record is in no register of the gate path, the contactors or the recorder. -/
theorem recordReg_notMem {i : Nat} (hi : i ≤ 16) {l : List Nat} (hl : ∀ o ∈ l, 0x18 = o ∨ 0x20000 ≤ o) : 0xC080 + 4 * i ∉ l := fun h => by
  rcases hl _ h with h | h <;> omega

/-- The result in the telemetry and in the source's record. -/
def State.recordCmd (s : State) (c : DueCmd) (res : Nat) : State :=
  ((State.set { s with spr := { s.spr with cmd := none, cmdRes := res } } (F.CTL_CMD_REC.RES (cmdIdx c)) res).set (F.CTL_CMD_REC.CNT (cmdIdx c))
    (if s.get (F.CTL_CMD_REC.CNT (cmdIdx c)) == 0xFFF then 1 else s.get (F.CTL_CMD_REC.CNT (cmdIdx c)) + 1)).set (F.CTL_CMD_REC.SEQ (cmdIdx c)) c.seq

theorem cmdResult_eq {c : DueCmd} (h : c.src ≤ 15 ∨ c.src = 0xFE) (s : State) (res : Nat) :
    s.cmdResult c res = if res == resACC then s.recordCmd c res else (s.recordCmd c res).raise Ev.CMD_REFUSED [c.op, res, c.src, c.seq] := by
  have hi : (if c.src == 0xFE then 16 else c.src) = cmdIdx c := by simp [cmdIdx]
  have hsrc : (decide (c.src ≤ 15) || c.src == 0xFE) = true := by simpa using h
  unfold State.cmdResult
  rw [hi, hsrc]
  rfl

theorem recordCmd_regs (s : State) (c : DueCmd) (res : Nat) : s.RegsBut [(F.CTL_CMD_REC.RES (cmdIdx c)).off] (s.recordCmd c res) := by
  have h0 : s.RegsBut [(F.CTL_CMD_REC.RES (cmdIdx c)).off] { s with spr := { s.spr with cmd := none, cmdRes := res } } := regsBut_hidden _ rfl rfl rfl
  have hmem : (F.CTL_CMD_REC.RES (cmdIdx c)).off ∈ [(F.CTL_CMD_REC.RES (cmdIdx c)).off] := List.mem_singleton.mpr rfl
  exact ((h0.set (F.CTL_CMD_REC.RES (cmdIdx c)) res hmem).set (F.CTL_CMD_REC.CNT (cmdIdx c)) _ hmem).set (F.CTL_CMD_REC.SEQ (cmdIdx c)) c.seq hmem

/-- The three fields of a command's record share its register and no bit. -/
theorem record_apart (i : Nat) : (F.CTL_CMD_REC.CNT i).apart (F.CTL_CMD_REC.RES i) = true ∧ (F.CTL_CMD_REC.SEQ i).apart (F.CTL_CMD_REC.RES i) = true ∧
    (F.CTL_CMD_REC.SEQ i).apart (F.CTL_CMD_REC.CNT i) = true ∧ (F.CTL_CMD_REC.RES i).apart (F.CTL_CMD_REC.CNT i) = true := by
  simp [Fld.apart, F.CTL_CMD_REC.CNT, F.CTL_CMD_REC.RES, F.CTL_CMD_REC.SEQ]

/-- The record counts on from the state the command was found in. -/
theorem recordCmd_done {s u : State} {c : DueCmd} {res : Nat} (hres : res < 16) (h : u.get (F.CTL_CMD_REC.CNT (cmdIdx c)) = s.get (F.CTL_CMD_REC.CNT (cmdIdx c))) :
    (u.recordCmd c res).CmdDone s c res := by
  obtain ⟨hcr, hsr, hsc, hrc⟩ := record_apart (cmdIdx c)
  have hlt : s.get (F.CTL_CMD_REC.CNT (cmdIdx c)) < 4096 := State.get_lt s _
  have hnext : (if s.get (F.CTL_CMD_REC.CNT (cmdIdx c)) = 0xFFF then 1 else s.get (F.CTL_CMD_REC.CNT (cmdIdx c)) + 1) < 4096 := by split <;> omega
  refine ⟨rfl, rfl, ?_, ?_, ?_⟩
  · rw [State.recordCmd, State.get_set_apart _ _ _ _ rfl hsr, State.get_set_apart _ _ _ _ rfl hcr, State.get_set_same _ _ _ rfl]
    exact Nat.mod_eq_of_lt hres
  · rw [State.recordCmd, State.get_set_same _ _ _ rfl]
    rfl
  · rw [State.recordCmd, State.get_set_apart _ _ _ _ rfl hsc, State.get_set_same _ _ _ rfl, h]
    simp only [beq_iff_eq]
    exact Nat.mod_eq_of_lt hnext

/-- What leaves the registers of the records, the telemetry's result and the waiting command keeps an answer. -/
theorem State.CmdDone.stays {s t u : State} {c : DueCmd} {res : Nat} (h : t.CmdDone s c res) (hcmd : u.spr.cmd = t.spr.cmd) (hres : u.spr.cmdRes = t.spr.cmdRes) {l : List Nat}
    (hregs : t.RegsBut l u) (hl : 0xC080 + 4 * cmdIdx c ∉ l) : u.CmdDone s c res := by
  obtain ⟨h1, h2, h3, h4, h5⟩ := h
  exact ⟨hcmd.trans h1, hres.trans h2, (hregs.get hl).trans h3, (hregs.get hl).trans h4, (hregs.get hl).trans h5⟩

/-- An operation answered: the gate path and contactors as the operation left them, the answer in the record, and the registers it and the record may change. -/
theorem cmdResult_answers {s u : State} {c : DueCmd} {res : Nat} {l : List Nat} (hsrc : c.src ≤ 15 ∨ c.src = 0xFE) (hres : res < 16) (h : s.RegsBut (l ++ recCounters) u)
    (hl : ∀ o ∈ l, 0x20000 ≤ o) :
    (u.cmdResult c res).gate = u.gate ∧ (u.cmdResult c res).CmdDone s c res ∧ u.RegsBut ((F.CTL_CMD_REC.RES (cmdIdx c)).off :: recCounters) (u.cmdResult c res) := by
  have hrec : ∀ m : List Nat, (∀ o ∈ m, 0x20000 ≤ o) → 0xC080 + 4 * cmdIdx c ∉ m := fun m hm => recordReg_notMem (cmdIdx_le hsrc) fun o ho => .inr (hm o ho)
  have hcnt : ∀ o ∈ recCounters, 0x20000 ≤ o := by decide
  have hdone : (u.recordCmd c res).CmdDone s c res :=
    recordCmd_done hres (h.get (hrec _ fun o ho => (List.mem_append.mp ho).elim (hl o) (hcnt o)))
  have hregs : u.RegsBut ((F.CTL_CMD_REC.RES (cmdIdx c)).off :: recCounters) (u.recordCmd c res) :=
    regsBut_wider (recordCmd_regs u c res) fun o ho => List.mem_cons.mpr (.inl (List.mem_singleton.mp ho))
  rw [cmdResult_eq hsrc]
  split
  · exact ⟨rfl, hdone, hregs⟩
  · have hsaid := regsBut_raise (u.recordCmd c res) Ev.CMD_REFUSED [c.op, res, c.src, c.seq] recCounters fun _ ho => ho
    exact ⟨State.raise_gate _ _ _, hdone.stays (by rw [State.raise_spr]) (by rw [State.raise_spr]) hsaid (hrec _ hcnt),
      regsBut_trans hregs (regsBut_wider hsaid fun o ho => List.mem_cons_of_mem _ ho)⟩

end Sys2Proof.Machine
end

section
/-! PROOFS. Bypass and pack contactors: what moves them (R141, R142, R145, R146). -/
namespace Sys2Proof.Machine

/-- What moving a contactor leaves: the gate path given, a count, and of the registers only those listed and the recorder's. -/
structure State.Moved (s t : State) (g : GateSt) (l : List Nat) (f : Fld) (n : Nat) : Prop where
  gate : t.gate = g
  count : t.get f = n
  regs : s.RegsBut (l ++ recCounters) t

theorem moved_same (s : State) (l : List Nat) (f : Fld) : s.Moved s s.gate l f (s.get f) := ⟨rfl, rfl, regsBut_same s _⟩

section

variable {s t : State} {g : GateSt} {l : List Nat} {f : Fld} {n : Nat} (h : s.Moved t g l f n)
include h

theorem State.Moved.regate (k : GateSt) : s.Moved { t with gate := k } k l f n :=
  ⟨rfl, h.count, regsBut_trans h.regs (regsBut_hidden _ rfl rfl rfl)⟩

theorem State.Moved.raise (hf : f.quiet = true) (c : Nat) (p : List Nat) : s.Moved (t.raise c p) g l f n :=
  ⟨(State.raise_gate _ _ _).trans h.gate, (State.raise_get _ _ _ _ hf).trans h.count, h.regs.raise c p fun _ ho => List.mem_append_right _ ho⟩

/-- A feedback reads as it did: moving a contactor changes neither the input nor its polarity. -/
theorem State.Moved.bypShowsClosed (hfb : g.bypFb = s.gate.bypFb) (hl : F.CELL_CTRL.BYP_FB_POL.off ∉ l) : t.bypShowsClosed = s.bypShowsClosed := by
  have hoff : F.CELL_CTRL.BYP_FB_POL.off ∉ l ++ recCounters := fun e => (List.mem_append.mp e).elim hl (by decide)
  rw [State.bypShowsClosed, h.gate, h.regs.flag hoff, hfb, State.bypShowsClosed]

theorem State.Moved.packShowsClosed (hfb : g.packFb = s.gate.packFb) (hl : F.CELL_CTRL.PACK_FB_POL.off ∉ l) : t.packShowsClosed = s.packShowsClosed := by
  have hoff : F.CELL_CTRL.PACK_FB_POL.off ∉ l ++ recCounters := fun e => (List.mem_append.mp e).elim hl (by decide)
  rw [State.packShowsClosed, h.gate, h.regs.flag hoff, hfb, State.packShowsClosed]

end

/-- One operation counted. -/
theorem State.Moved.counted {s t : State} {g : GateSt} {f : Fld} {n : Nat} (h : s.Moved t g [] f n) (hok : f.ok = true) (hw : f.w = 16) :
    s.Moved (t.inc f) g [f.off] f (min (n + 1) 0xFFFF) := by
  have hcount := inc_get_sat t hok
  rw [hw, h.count] at hcount
  exact ⟨h.gate, hcount, (regsBut_wider h.regs fun o ho => List.mem_append_right [f.off] ho).inc f List.mem_cons_self⟩

/-! ### The bypass (R141, R142) -/

/-- BYP_CMD energised: the open waits for its feedback, or has ended where the feedback shows open. -/
def State.bypEnergise (s : State) : State :=
  let s := { s with gate := { s.gate with bypCmd := true, bypClosing := none, bypOpening := some s.time.cyc } }.inc F.CELL_OPS.BYP_OPS
  if s.bypShowsClosed then s else { s with gate := { s.gate with bypOpening := none } }.raise Ev.BYP_OPENED [0]

theorem bypEnergise_moved (s : State) : s.Moved s.bypEnergise
    { s.gate with bypCmd := true, bypClosing := none, bypOpening := if s.bypShowsClosed then some s.time.cyc else none } [F.CELL_OPS.BYP_OPS.off] F.CELL_OPS.BYP_OPS
    (min (s.get F.CELL_OPS.BYP_OPS + 1) 0xFFFF) := by
  have h := ((moved_same s [] F.CELL_OPS.BYP_OPS).regate { s.gate with bypCmd := true, bypClosing := none, bypOpening := some s.time.cyc }).counted rfl rfl
  unfold State.bypEnergise
  dsimp only
  rw [h.bypShowsClosed rfl (by decide)]
  cases s.bypShowsClosed with
  | true => exact h
  | false =>
    simp only [Bool.false_eq_true, if_false]
    exact (h.regate { s.gate with bypCmd := true, bypClosing := none, bypOpening := none }).raise rfl _ _

/-- BYP_CMD released: the close waits for its feedback, or has ended where the feedback shows closed. -/
theorem bypRelease_moved {s : State} (hcmd : s.gate.bypCmd = true) : s.Moved s.bypRelease
    { s.gate with bypCmd := false, bypOpening := none, bypClosing := if s.bypShowsClosed then s.gate.bypClosing else some s.time.cyc } [F.CELL_OPS.BYP_OPS.off] F.CELL_OPS.BYP_OPS
    (min (s.get F.CELL_OPS.BYP_OPS + 1) 0xFFFF) := by
  have h := ((moved_same s [] F.CELL_OPS.BYP_OPS).regate { s.gate with bypCmd := false, bypOpening := none }).counted rfl rfl
  unfold State.bypRelease
  dsimp only
  rw [if_pos hcmd, h.bypShowsClosed rfl (by decide)]
  cases s.bypShowsClosed with
  | true =>
    simp only [if_true]
    exact h.raise rfl _ _
  | false =>
    simp only [Bool.false_eq_true, if_false]
    exact h.regate { s.gate with bypCmd := false, bypOpening := none, bypClosing := some s.time.cyc }

theorem bypRelease_idle {s : State} (hcmd : s.gate.bypCmd = false) : s.bypRelease = s := by
  rw [State.bypRelease, if_neg (by simp [hcmd])]

/-! ### The pack contactor (R145, R146) -/

/-- PACK_CTR energised: the close waits for its feedback, or has ended where the feedback shows closed. -/
def State.packEnergise (s : State) : State :=
  let s := if s.gate.packCmd then s else s.inc F.CELL_OPS.PACK_OPS
  let s := { s with gate := { s.gate with packCmd := true, packOp := some (0, s.time.cyc) } }
  if s.packShowsClosed then { s with gate := { s.gate with packOp := none } }.raise Ev.PACK_CLOSED [0, s.vDc.toNat, s.vPackBms] else s

theorem packEnergise_moved (s : State) : s.Moved s.packEnergise { s.gate with packCmd := true, packOp := if s.packShowsClosed then none else some (0, s.time.cyc) }
    [F.CELL_OPS.PACK_OPS.off] F.CELL_OPS.PACK_OPS (if s.gate.packCmd then s.get F.CELL_OPS.PACK_OPS else min (s.get F.CELL_OPS.PACK_OPS + 1) 0xFFFF) := by
  have h : s.Moved (if s.gate.packCmd then s else s.inc F.CELL_OPS.PACK_OPS) s.gate [F.CELL_OPS.PACK_OPS.off] F.CELL_OPS.PACK_OPS
      (if s.gate.packCmd then s.get F.CELL_OPS.PACK_OPS else min (s.get F.CELL_OPS.PACK_OPS + 1) 0xFFFF) ∧
      (if s.gate.packCmd then s else s.inc F.CELL_OPS.PACK_OPS).time = s.time := by
    split
    · exact ⟨moved_same s _ _, rfl⟩
    · exact ⟨(moved_same s [] F.CELL_OPS.PACK_OPS).counted rfl rfl, rfl⟩
  unfold State.packEnergise
  dsimp only
  generalize (if s.gate.packCmd then s else s.inc F.CELL_OPS.PACK_OPS) = u at h
  obtain ⟨h, htime⟩ := h
  have hset := h.regate { s.gate with packCmd := true, packOp := some (0, u.time.cyc) }
  rw [h.gate, ← htime, hset.packShowsClosed rfl (by decide)]
  cases s.packShowsClosed with
  | true =>
    simp only [if_true]
    exact (hset.regate { s.gate with packCmd := true, packOp := none }).raise rfl _ _
  | false => exact hset

/-- PACK_CTR released, the current above its limit where the flag says so: the open waits for its feedback, or has ended where the feedback shows open. -/
def State.packRelease (s : State) (forced : Bool) : State :=
  let s := if forced then s.raise Ev.PACK_FORCED_OPEN [sPay s.iPack] else s
  let s := if s.gate.packCmd then s.inc F.CELL_OPS.PACK_OPS else s
  let s := { s with gate := { s.gate with packCmd := false, packOp := some (1, s.time.cyc) } }
  if s.packShowsClosed then s else { s with gate := { s.gate with packOp := none } }.raise Ev.PACK_OPENED [0, sPay s.iPack]

theorem packRelease_moved (s : State) (forced : Bool) : s.Moved (s.packRelease forced) { s.gate with packCmd := false, packOp := if s.packShowsClosed then some (1, s.time.cyc) else none }
    (if s.gate.packCmd then [F.CELL_OPS.PACK_OPS.off] else []) F.CELL_OPS.PACK_OPS
    (if s.gate.packCmd then min (s.get F.CELL_OPS.PACK_OPS + 1) 0xFFFF else s.get F.CELL_OPS.PACK_OPS) := by
  have h0 : s.Moved (if forced then s.raise Ev.PACK_FORCED_OPEN [sPay s.iPack] else s) s.gate [] F.CELL_OPS.PACK_OPS (s.get F.CELL_OPS.PACK_OPS) ∧
      (if forced then s.raise Ev.PACK_FORCED_OPEN [sPay s.iPack] else s).time = s.time := by
    split
    · exact ⟨(moved_same s [] _).raise rfl _ _, (s.recorded_raise _ _).time⟩
    · exact ⟨moved_same s [] _, rfl⟩
  unfold State.packRelease
  dsimp only
  generalize (if forced then s.raise Ev.PACK_FORCED_OPEN [sPay s.iPack] else s) = u at h0
  obtain ⟨h0, htime⟩ := h0
  have h : s.Moved (if u.gate.packCmd then u.inc F.CELL_OPS.PACK_OPS else u) s.gate (if s.gate.packCmd then [F.CELL_OPS.PACK_OPS.off] else []) F.CELL_OPS.PACK_OPS
      (if s.gate.packCmd then min (s.get F.CELL_OPS.PACK_OPS + 1) 0xFFFF else s.get F.CELL_OPS.PACK_OPS) ∧ (if u.gate.packCmd then u.inc F.CELL_OPS.PACK_OPS else u).time = s.time := by
    rw [h0.gate]
    split
    · exact ⟨h0.counted rfl rfl, htime⟩
    · exact ⟨h0, htime⟩
  generalize (if u.gate.packCmd then u.inc F.CELL_OPS.PACK_OPS else u) = v at h
  obtain ⟨h, htime⟩ := h
  have hset := h.regate { s.gate with packCmd := false, packOp := some (1, v.time.cyc) }
  rw [h.gate, ← htime, hset.packShowsClosed rfl (by split <;> decide)]
  cases s.packShowsClosed with
  | true => exact hset
  | false =>
    simp only [Bool.false_eq_true, if_false]
    exact (hset.regate { s.gate with packCmd := false, packOp := none }).raise rfl _ _

end Sys2Proof.Machine
end

section
/-! PROOFS. The contactors' operations, answered or refused (R141, R142, R145, R146, R148, R351). -/
namespace Sys2Proof.Machine

/-! ### What an answered operation leaves -/

/-- A moved contactor whose operation is answered: the gate path as it was moved, the answer, the count, and the registers of both. -/
theorem State.Moved.answered {s u : State} {g : GateSt} {l : List Nat} {f : Fld} {n : Nat} (h : s.Moved u g l f n) {c : DueCmd} {res : Nat} (hsrc : c.src ≤ 15 ∨ c.src = 0xFE)
    (hres : res < 16) (hl : ∀ o ∈ l, 0x20000 ≤ o) (hf : 0x20000 ≤ f.off) (hq : f.quiet = true) :
    s.Moved (u.cmdResult c res) g (l ++ [(F.CTL_CMD_REC.RES (cmdIdx c)).off]) f n ∧ (u.cmdResult c res).CmdDone s c res := by
  obtain ⟨hgate, hdone, hregs⟩ := cmdResult_answers hsrc hres h.regs hl
  have hrec : f.off ∉ (F.CTL_CMD_REC.RES (cmdIdx c)).off :: recCounters := by
    have hi := cmdIdx_le hsrc
    have hne : f.off ≠ 0xC080 + 4 * cmdIdx c := by omega
    simp only [Fld.quiet, Bool.and_eq_true, bne_iff_ne, ne_eq] at hq
    simp only [recCounters, List.mem_cons, List.not_mem_nil, or_false, not_or]
    exact ⟨hne, hq.1, hq.2⟩
  refine ⟨⟨hgate.trans h.gate, (hregs.get hrec).trans h.count, regsBut_trans (regsBut_wider h.regs fun o ho => ?_) (regsBut_wider hregs fun o ho => ?_)⟩, hdone⟩
  · simp only [List.mem_append] at ho ⊢
    exact ho.imp_left .inl
  · simp only [List.mem_append, List.mem_cons, List.not_mem_nil, or_false] at ho ⊢
    exact ho.imp_left .inr

/-- A refusal answers its code and moves nothing. -/
theorem refused {s : State} {c : DueCmd} {res : Nat} (hsrc : c.src ≤ 15 ∨ c.src = 0xFE) (hres : res < 16) :
    (s.cmdResult c res).CmdDone s c res ∧ (s.cmdResult c res).gate = s.gate ∧ s.RegsBut ((F.CTL_CMD_REC.RES (cmdIdx c)).off :: recCounters) (s.cmdResult c res) := by
  obtain ⟨hgate, hdone, hregs⟩ := cmdResult_answers (l := []) hsrc hres (regsBut_same s _) (by decide)
  exact ⟨hdone, hgate, hregs⟩

/-- The interlock brought up to date after an operation keeps its answer, its count and its registers. -/
theorem State.Moved.interlocked {s t u : State} {g : GateSt} {l : List Nat} {f : Fld} {n : Nat} (h : s.Moved t g l f n) {c : DueCmd} {res : Nat} (hdone : t.CmdDone s c res)
    (hsrc : c.src ≤ 15 ∨ c.src = 0xFE) (hi : t.Interlocks u) (hq : f.off ∉ recCounters) :
    (∃ hb i, u.gate = { g with hbs := hb, ilk := i }) ∧ u.CmdDone s c res ∧ u.get f = n ∧ s.RegsBut (l ++ recCounters) u := by
  obtain ⟨⟨hb, i, hgate⟩, ⟨m, hspr⟩, hregs⟩ := hi
  have hrec : 0xC080 + 4 * cmdIdx c ∉ recCounters := recordReg_notMem (cmdIdx_le hsrc) (by decide)
  exact ⟨⟨hb, i, by rw [hgate, h.gate]⟩, hdone.stays (by rw [hspr]) (by rw [hspr]) hregs hrec, (hregs.get hq).trans h.count,
    regsBut_trans h.regs (regsBut_wider hregs fun o ho => List.mem_append_right _ ho)⟩

/-! ### The operations -/

/-- The slot applied is LEVEL 0, outside SAFE_HOLD. -/
def State.levelZero (s : State) : Bool := match s.spr.slot with
  | some x => x.mode == 2 && x.level == 0 && !s.flag F.CMN_RESET.SAFE_HOLD
  | none => false

/-- A half-bridge of the H-bridge is TRIPPED, latched or not ready. -/
def State.bridgeBad (s : State) : Bool := [0, 1].any (fun n => s.isTripped n || s.isLatched n || !((s.hb n).hi.rdy && (s.hb n).lo.rdy))

theorem opBypOpen_eq (s : State) (c : DueCmd) : s.opBypOpen c =
    if s.blocked || !s.levelZero then s.cmdResult c resMODE else if s.bridgeBad then s.cmdResult c resFAULT
    else (if s.gate.bypCmd then s else s.bypEnergise).cmdResult c resACC := rfl

theorem opPackClose_eq (s : State) (c : DueCmd) : s.opPackClose c =
    if s.blocked then s.cmdResult c resMODE else if s.bmsAge == 0xFFFF then s.cmdResult c resFAULT
    else if 2 * s.get F.CELL_PACK_LIM.PACK_DV < (s.vDc - 2 * s.vPackBms).natAbs then s.cmdResult c resVOLT else s.packEnergise.cmdResult c resACC := rfl

theorem opPackOpen_eq (s : State) (c : DueCmd) : s.opPackOpen c =
    if decide (2 * s.get F.CELL_PACK_LIM.PACK_I_OPEN < s.iPack.natAbs) && !bitOf (c.param.headD 0) 0 then s.cmdResult c resCURR
    else (s.packRelease (bitOf (c.param.headD 0) 0 && decide (2 * s.get F.CELL_PACK_LIM.PACK_I_OPEN < s.iPack.natAbs))).cmdResult c resACC := rfl

theorem levelZero_of {s : State} {x : Slot} (hx : s.spr.slot = some x) (hm : x.mode = 2) (hl : x.level = 0) (hh : s.get F.CMN_RESET.SAFE_HOLD = 0) : s.levelZero = true := by
  simp [State.levelZero, State.flag, hx, hm, hl, hh]

theorem levelZero_not {s : State} {x : Slot} (h : s.spr.slot = none ∨ s.get F.CMN_RESET.SAFE_HOLD = 1 ∨ (s.spr.slot = some x ∧ (x.mode ≠ 2 ∨ x.level ≠ 0))) : s.levelZero = false := by
  unfold State.levelZero
  rcases h with h | h | ⟨h, hx⟩
  · rw [h]
  · cases s.spr.slot with
    | none => rfl
    | some y => simp [State.flag, h]
  · rw [h]
    rcases hx with hx | hx <;> simp [hx]

theorem bridgeBad_iff (s : State) : s.bridgeBad = true ↔ ∃ n < 2, s.isTripped n = true ∨ s.isLatched n = true ∨ (s.hb n).hi.rdy = false ∨ (s.hb n).lo.rdy = false := by
  have hrange : ∀ n, n ∈ [0, 1] ↔ n < 2 := fun n => by simp; omega
  simp only [State.bridgeBad, List.any_eq_true, hrange, Bool.or_eq_true, Bool.not_eq_true', Bool.and_eq_false_iff, or_assoc]

theorem withDue_due {s : State} {c : DueCmd} {op : Nat} (hc : s.spr.cmd = some c) (ho : c.op = op) (f : State → DueCmd → State) : s.withDue op f = f s c := by
  rw [State.withDue, hc]
  exact if_pos (beq_iff_eq.mpr ho)

section

variable {s : State} {c : DueCmd} (hlive : s.live = true) (hr : s.role = .spring) (hc : s.spr.cmd = some c)
include hlive hr hc

/-- An operation of the bypass acts on the command that waits, then on the interlock. -/
theorem bypOpen_goes (ho : c.op = 2) {p : State → Prop} (hp : p ((s.opBypOpen c).bypMoved s)) : GoesTo (exec .bypOpen s) p := by
  rw [show exec .bypOpen s = onSpring s fun s => (s.withDue 2 State.opBypOpen).bypMoved s from rfl]
  refine goesTo_spring hlive hr ?_
  rwa [confine_hull (by simp), withDue_due hc ho]

theorem bypClose_goes (ho : c.op = 3) {p : State → Prop} (hp : p ((s.opBypClose c).bypMoved s)) : GoesTo (exec .bypClose s) p := by
  rw [show exec .bypClose s = onSpring s fun s => (s.withDue 3 State.opBypClose).bypMoved s from rfl]
  refine goesTo_spring hlive hr ?_
  rwa [confine_hull (by simp), withDue_due hc ho]

theorem packClose_goes (ho : c.op = 4) {p : State → Prop} (hp : p (s.opPackClose c)) : GoesTo (exec .packClose s) p := by
  rw [show exec .packClose s = onSpring s fun s => s.withDue 4 State.opPackClose from rfl]
  refine goesTo_spring hlive hr ?_
  rwa [confine_hull (by simp), withDue_due hc ho]

theorem packOpen_goes (ho : c.op = 5) {p : State → Prop} (hp : p (s.opPackOpen c)) : GoesTo (exec .packOpen s) p := by
  rw [show exec .packOpen s = onSpring s fun s => s.withDue 5 State.opPackOpen from rfl]
  refine goesTo_spring hlive hr ?_
  rwa [confine_hull (by simp), withDue_due hc ho]

variable (hsrc : c.src ≤ 15 ∨ c.src = 0xFE)
include hsrc

theorem bypOpen_opens (ho : c.op = 2) (hb : s.blocked = false) (hz : s.levelZero = true) (hcmd : s.gate.bypCmd = false) (hok : s.bridgeBad = false) :
    GoesTo (exec .bypOpen s) fun t => t.gate.bypCmd = true ∧ t.gate.bypOpening = (if s.bypShowsClosed then some s.time.cyc else none) ∧ t.gate.bypClosing = none ∧
      t.CmdDone s c resACC ∧ t.get F.CELL_OPS.BYP_OPS = min (s.get F.CELL_OPS.BYP_OPS + 1) 0xFFFF ∧
      s.RegsBut ([F.CELL_OPS.BYP_OPS.off, (F.CTL_CMD_REC.RES (cmdIdx c)).off] ++ recCounters) t := by
  refine bypOpen_goes hlive hr hc ho ?_
  rw [opBypOpen_eq, hb, hz, hok, hcmd]
  obtain ⟨hmoved, hdone⟩ := (bypEnergise_moved s).answered (res := resACC) hsrc (by decide) (by decide) (by decide) rfl
  obtain ⟨⟨hb, i, hgate⟩, hans⟩ := hmoved.interlocked hdone hsrc (interlocks_bypMoved _ s) (by decide)
  have hgate' := congrArg (fun g : GateSt => (g.bypCmd, g.bypOpening, g.bypClosing)) hgate
  simp only [Prod.mk.injEq] at hgate'
  obtain ⟨h1, h2, h3⟩ := hgate'
  exact ⟨h1, h2, h3, hans⟩

theorem bypOpen_mode (ho : c.op = 2) (h : s.blocked = true ∨ s.levelZero = false) :
    GoesTo (exec .bypOpen s) fun t => t.CmdDone s c resMODE ∧ t.gate = s.gate ∧ s.RegsBut ((F.CTL_CMD_REC.RES (cmdIdx c)).off :: recCounters) t := by
  obtain ⟨hdone, hgate, hregs⟩ := refused (s := s) (c := c) (res := resMODE) hsrc (by decide)
  refine bypOpen_goes hlive hr hc ho ?_
  rw [opBypOpen_eq, if_pos (by simpa using h), bypMoved_idle (by rw [hgate])]
  exact ⟨hdone, hgate, hregs⟩

theorem bypOpen_fault (ho : c.op = 2) (hb : s.blocked = false) (hz : s.levelZero = true) (hbad : s.bridgeBad = true) :
    GoesTo (exec .bypOpen s) fun t => t.CmdDone s c resFAULT ∧ t.gate = s.gate ∧ s.RegsBut ((F.CTL_CMD_REC.RES (cmdIdx c)).off :: recCounters) t := by
  obtain ⟨hdone, hgate, hregs⟩ := refused (s := s) (c := c) (res := resFAULT) hsrc (by decide)
  refine bypOpen_goes hlive hr hc ho ?_
  rw [opBypOpen_eq, if_neg (by simp [hb, hz]), if_pos hbad, bypMoved_idle (by rw [hgate])]
  exact ⟨hdone, hgate, hregs⟩

theorem bypClose_idle (ho : c.op = 3) (hcmd : s.gate.bypCmd = false) :
    GoesTo (exec .bypClose s) fun t => t.CmdDone s c resACC ∧ t.gate = s.gate ∧ s.RegsBut ((F.CTL_CMD_REC.RES (cmdIdx c)).off :: recCounters) t := by
  obtain ⟨hdone, hgate, hregs⟩ := refused (s := s) (c := c) (res := resACC) hsrc (by decide)
  refine bypClose_goes hlive hr hc ho ?_
  rw [State.opBypClose, bypRelease_idle hcmd, bypMoved_idle (by rw [hgate])]
  exact ⟨hdone, hgate, hregs⟩

theorem bypClose_closes (ho : c.op = 3) (hcmd : s.gate.bypCmd = true) :
    GoesTo (exec .bypClose s) fun t => t.gate.bypCmd = false ∧ t.gate.bypOpening = none ∧
      t.gate.bypClosing = (if s.bypShowsClosed then s.gate.bypClosing else some s.time.cyc) ∧ t.CmdDone s c resACC ∧
      t.get F.CELL_OPS.BYP_OPS = min (s.get F.CELL_OPS.BYP_OPS + 1) 0xFFFF ∧ s.RegsBut ([F.CELL_OPS.BYP_OPS.off, (F.CTL_CMD_REC.RES (cmdIdx c)).off] ++ recCounters) t := by
  refine bypClose_goes hlive hr hc ho ?_
  obtain ⟨hmoved, hdone⟩ := (bypRelease_moved hcmd).answered (res := resACC) hsrc (by decide) (by decide) (by decide) rfl
  obtain ⟨⟨hb, i, hgate⟩, hans⟩ := hmoved.interlocked hdone hsrc (interlocks_bypMoved _ s) (by decide)
  have hgate' := congrArg (fun g : GateSt => (g.bypCmd, g.bypOpening, g.bypClosing)) hgate
  simp only [Prod.mk.injEq] at hgate'
  obtain ⟨h1, h2, h3⟩ := hgate'
  exact ⟨h1, h2, h3, hans⟩

theorem packClose_closes (ho : c.op = 4) (hb : s.blocked = false) (hage : s.bmsAge ≠ 0xFFFF) (hv : (s.vDc - 2 * s.vPackBms).natAbs ≤ 2 * s.get F.CELL_PACK_LIM.PACK_DV) :
    GoesTo (exec .packClose s) fun t => t.gate = { s.gate with packCmd := true, packOp := (if s.packShowsClosed then none else some (0, s.time.cyc)) } ∧ t.CmdDone s c resACC ∧
      t.get F.CELL_OPS.PACK_OPS = (if s.gate.packCmd then s.get F.CELL_OPS.PACK_OPS else min (s.get F.CELL_OPS.PACK_OPS + 1) 0xFFFF) ∧
      s.RegsBut ([F.CELL_OPS.PACK_OPS.off, (F.CTL_CMD_REC.RES (cmdIdx c)).off] ++ recCounters) t := by
  refine packClose_goes hlive hr hc ho ?_
  rw [opPackClose_eq, if_neg (by simp [hb]), if_neg (by simpa using hage), if_neg (Nat.not_lt.mpr hv)]
  obtain ⟨hmoved, hdone⟩ := (packEnergise_moved s).answered (res := resACC) hsrc (by decide) (by decide) (by decide) rfl
  exact ⟨hmoved.gate, hdone, hmoved.count, hmoved.regs⟩

theorem packClose_refused (ho : c.op = 4) (h : s.blocked = true ∨ s.bmsAge = 0xFFFF ∨ 2 * s.get F.CELL_PACK_LIM.PACK_DV < (s.vDc - 2 * s.vPackBms).natAbs) :
    GoesTo (exec .packClose s) fun t => t.gate = s.gate ∧ t.CmdDone s c (if s.blocked then resMODE else if s.bmsAge = 0xFFFF then resFAULT else resVOLT) ∧
      s.RegsBut ((F.CTL_CMD_REC.RES (cmdIdx c)).off :: recCounters) t := by
  have heq : s.opPackClose c = s.cmdResult c (if s.blocked then resMODE else if s.bmsAge = 0xFFFF then resFAULT else resVOLT) := by
    rw [opPackClose_eq]
    by_cases hb : s.blocked = true
    · rw [if_pos hb, if_pos hb]
    · rw [if_neg hb, if_neg hb]
      by_cases hage : s.bmsAge = 0xFFFF
      · rw [if_pos (beq_iff_eq.mpr hage), if_pos hage]
      · rw [if_neg (by simpa using hage), if_neg hage, if_pos (by simpa [hb, hage] using h)]
  obtain ⟨hdone, hgate, hregs⟩ := refused (s := s) (c := c) (res := if s.blocked then resMODE else if s.bmsAge = 0xFFFF then resFAULT else resVOLT) hsrc
    (by split; · decide
        split <;> decide)
  refine packClose_goes hlive hr hc ho ?_
  rw [heq]
  exact ⟨hgate, hdone, hregs⟩

/-- An open that its current does not forbid, or that is forced. -/
theorem packOpen_answered (ho : c.op = 5) (h : 2 * s.get F.CELL_PACK_LIM.PACK_I_OPEN < s.iPack.natAbs → bitOf (c.param.headD 0) 0 = true) :
    GoesTo (exec .packOpen s) fun t => t.CmdDone s c resACC ∧ s.Moved t { s.gate with packCmd := false, packOp := if s.packShowsClosed then some (1, s.time.cyc) else none }
      ((if s.gate.packCmd then [F.CELL_OPS.PACK_OPS.off] else []) ++ [(F.CTL_CMD_REC.RES (cmdIdx c)).off]) F.CELL_OPS.PACK_OPS
      (if s.gate.packCmd then min (s.get F.CELL_OPS.PACK_OPS + 1) 0xFFFF else s.get F.CELL_OPS.PACK_OPS) := by
  refine packOpen_goes hlive hr hc ho ?_
  rw [opPackOpen_eq, if_neg (by simpa using h)]
  exact ((packRelease_moved s _).answered hsrc (by decide) (by split <;> decide) (by decide) rfl).symm

theorem packOpen_refused (ho : c.op = 5) (hi : 2 * s.get F.CELL_PACK_LIM.PACK_I_OPEN < s.iPack.natAbs) (hf : bitOf (c.param.headD 0) 0 = false) :
    GoesTo (exec .packOpen s) fun t => t.gate = s.gate ∧ t.CmdDone s c resCURR ∧ s.RegsBut ((F.CTL_CMD_REC.RES (cmdIdx c)).off :: recCounters) t := by
  obtain ⟨hdone, hgate, hregs⟩ := refused (s := s) (c := c) (res := resCURR) hsrc (by decide)
  refine packOpen_goes hlive hr hc ho ?_
  rw [opPackOpen_eq, if_pos (by rw [hf]; simpa using hi)]
  exact ⟨hgate, hdone, hregs⟩

end

end Sys2Proof.Machine
end

section
/-! PROOFS. The contactors' feedback and their failures (R140 to R146, R189); every clause of O37. -/
namespace Sys2Proof.Machine

/-! ### Bypass feedback (R140 to R144) -/

/-- The bypass feedback has moved from what it showed: it completes an open or a close, or is reported. -/
def State.bypHears (s : State) (was : Bool) : State :=
  match s.gate.bypOpening, s.gate.bypClosing with
  | some t, _ =>
    if s.bypShowsClosed then s else { s with gate := { s.gate with bypOpening := none } }.raise Ev.BYP_OPENED [(s.time.cyc - t) / 500000]
  | none, some t =>
    if s.bypShowsClosed then { s with gate := { s.gate with bypClosing := none } }.raise Ev.BYP_CLOSED [(s.time.cyc - t) / 500000] else s
  | none, none => if was != s.bypShowsClosed then s.raise Ev.BYP_FB_CHANGE [b2n s.bypShowsClosed, b2n s.gate.bypCmd] else s

/-- An active bypass ends when the feedback shows closed (R143). -/
def State.actByFb (s : State) (closed : Bool) : State := if closed then { s with gate := { s.gate with actByp := false } } else s

/-- The bypass input at a level. -/
def State.bypFbAt (s : State) (level : Bool) : State := { s with gate := { s.gate with bypFb := level } }

theorem bypFbChange_eq (dt : Nat) (level : Bool) (s : State) : exec (.bypFbChange dt level) s = onSpring s fun s =>
    ((((s.advance dt).bypFbAt level).bypHears (s.advance dt).bypShowsClosed).actByFb ((s.advance dt).bypFbAt level).bypShowsClosed).interlock false := rfl

theorem raised_gate_regs {s : State} (g : GateSt) (c : Nat) (p : List Nat) :
    (State.raise { s with gate := g } c p).gate = g ∧ s.RegsBut recCounters (State.raise { s with gate := g } c p) :=
  ⟨State.raise_gate _ _ _, regsBut_trans (regsBut_hidden (t := { s with gate := g }) _ rfl rfl rfl) (regsBut_raise _ _ _ _ fun _ ho => ho)⟩

/-- An open ends with a feedback that shows open; a close, with no open under way, with one that shows closed. -/
theorem bypHears_facts (s : State) (was : Bool) :
    (s.bypHears was).gate = { s.gate with bypOpening := if s.bypShowsClosed then s.gate.bypOpening else none
                                          bypClosing := if s.bypShowsClosed && s.gate.bypOpening.isNone then none else s.gate.bypClosing } ∧
      s.RegsBut recCounters (s.bypHears was) := by
  unfold State.bypHears
  split
  · rename_i a _ ho
    have hopen : (s.bypShowsClosed && s.gate.bypOpening.isNone) = false := by simp [ho]
    rw [hopen]
    cases s.bypShowsClosed with
    | true => exact ⟨rfl, regsBut_same s _⟩
    | false =>
      simp only [Bool.false_eq_true, if_false]
      exact raised_gate_regs (s := s) { s.gate with bypOpening := none } _ _
  · rename_i a ho hc
    have hkept : (if s.bypShowsClosed then s.gate.bypOpening else none) = s.gate.bypOpening := by rw [ho, ite_self]
    have hclose : (s.bypShowsClosed && s.gate.bypOpening.isNone) = s.bypShowsClosed := by simp [ho]
    rw [hkept, hclose]
    cases s.bypShowsClosed with
    | true =>
      simp only [if_true]
      exact raised_gate_regs (s := s) { s.gate with bypClosing := none } _ _
    | false => exact ⟨rfl, regsBut_same s _⟩
  · rename_i ho hc
    have hkept : (if s.bypShowsClosed then s.gate.bypOpening else none) = s.gate.bypOpening := by rw [ho, ite_self]
    have hkept' : (if s.bypShowsClosed && s.gate.bypOpening.isNone then none else s.gate.bypClosing) = s.gate.bypClosing := by rw [hc, ite_self]
    rw [hkept, hkept']
    split
    · exact ⟨State.raise_gate _ _ _, regsBut_raise _ _ _ _ fun _ ho => ho⟩
    · exact ⟨rfl, regsBut_same s _⟩

theorem actByFb_facts (s : State) (closed : Bool) : (s.actByFb closed).gate = { s.gate with actByp := !closed && s.gate.actByp } ∧ s.RegsBut recCounters (s.actByFb closed) := by
  cases closed
  · exact ⟨rfl, regsBut_same s _⟩
  · exact ⟨rfl, regsBut_hidden _ rfl rfl rfl⟩

theorem bypFbChange_hears {s : State} {dt : Nat} {level : Bool} (hlive : s.live = true) (hr : s.role = .spring) :
    GoesTo (exec (.bypFbChange dt level) s) fun t => t.gate.bypFb = level ∧ t.gate.bypCmd = s.gate.bypCmd ∧ t.bypShowsClosed = (level != s.flag F.CELL_CTRL.BYP_FB_POL) ∧
      (t.bypShowsClosed = true → t.gate.actByp = false) ∧ (t.bypShowsClosed = false → t.gate.actByp = s.gate.actByp ∧ t.gate.bypOpening = none) ∧
      (t.bypShowsClosed = true → s.gate.bypOpening = none → t.gate.bypClosing = none) ∧ s.RegsBut recCounters t := by
  rw [bypFbChange_eq]
  refine goesTo_spring hlive hr ?_
  rw [confine_hull (by simp [State.actByFb, State.bypHears, State.bypFbAt]; (repeat' split) <;> simp)]
  have h0 : ((s.advance dt).bypFbAt level).gate = { s.gate with bypFb := level } ∧ s.RegsBut recCounters ((s.advance dt).bypFbAt level) ∧
      ((s.advance dt).bypFbAt level).bypShowsClosed = (level != s.flag F.CELL_CTRL.BYP_FB_POL) := ⟨rfl, regsBut_hidden _ rfl rfl rfl, rfl⟩
  generalize (s.advance dt).bypFbAt level = u at h0
  obtain ⟨hu, ru, hshow⟩ := h0
  obtain ⟨hv, rv⟩ := bypHears_facts u (s.advance dt).bypShowsClosed
  generalize u.bypHears (s.advance dt).bypShowsClosed = v at hv rv
  obtain ⟨hw, rw'⟩ := actByFb_facts v u.bypShowsClosed
  generalize v.actByFb u.bypShowsClosed = w at hw rw'
  obtain ⟨⟨l, i, ht⟩, -, rt⟩ := interlocks_interlock w false
  rw [hw, hv, hu, hshow] at ht
  have hregs : s.RegsBut recCounters (w.interlock false) := regsBut_trans ru (regsBut_trans rv (regsBut_trans rw' rt))
  have hclosed : (w.interlock false).bypShowsClosed = (level != s.flag F.CELL_CTRL.BYP_FB_POL) := by
    rw [State.bypShowsClosed, ht, hregs.flag (by decide)]
  rw [ht, hclosed]
  refine ⟨rfl, rfl, rfl, fun h => ?_, fun h => ?_, fun h ho => ?_, hregs⟩
  · simp only [h, Bool.not_true, Bool.false_and]
  · simp only [h, Bool.not_false, Bool.true_and, Bool.false_eq_true, if_false, and_self]
  · simp only [h, ho, Option.isNone_none, Bool.and_self, if_true]

/-! ### Pack feedback (R144 to R146, R541) -/

/-- The soft-start's step: half-bridges and the soft-start's own state are all of the gate path and of the registers that it moves. -/
structure State.PreSteps (s t : State) : Prop where
  gate : ∃ l, t.gate = { s.gate with hbs := l }
  regs : s.RegsBut (F.CMN_PRECHG.STATE.off :: recCounters) t

theorem State.OnlyHbs.preSteps {s t u : State} (h : t.OnlyHbs u) (hg : t.gate = s.gate) (hregs : s.RegsBut (F.CMN_PRECHG.STATE.off :: recCounters) t) (v : Nat) :
    s.PreSteps (u.set F.CMN_PRECHG.STATE v) := by
  obtain ⟨l, hl⟩ := h.gate
  exact ⟨⟨l, hl.trans (by rw [hg])⟩, (regsBut_trans hregs (h.regs _)).set F.CMN_PRECHG.STATE v List.mem_cons_self⟩

theorem preStop_preSteps (s : State) (st : Nat) : s.PreSteps (s.preStop st) := by
  have h : State.OnlyHbs { s with spr := { s.spr with pre := false } } (({ s with spr := { s.spr with pre := false } }.hbsLow [4, 5] (s.now 0)).uncommand [4, 5]) :=
    (onlyHbs_hbsLow _ _ _).trans (onlyHbs_uncommand _ _)
  exact h.preSteps (s := s) rfl (regsBut_hidden _ rfl rfl rfl) st

theorem State.PreSteps.raise {s t : State} (h : s.PreSteps t) (c : Nat) (p : List Nat) : s.PreSteps (t.raise c p) :=
  ⟨h.gate.imp fun _ e => (State.raise_gate _ _ _).trans e, h.regs.raise c p fun _ ho => List.mem_cons_of_mem _ ho⟩

theorem State.PreSteps.same (s : State) : s.PreSteps s := ⟨⟨_, rfl⟩, regsBut_same s _⟩

theorem State.PreSteps.after {s t u : State} (hg : t.gate = s.gate) (hregs : s.RegsBut (F.CMN_PRECHG.STATE.off :: recCounters) t) (h : t.PreSteps u) : s.PreSteps u :=
  ⟨h.gate.imp fun _ e => e.trans (by rw [hg]), regsBut_trans hregs h.regs⟩

/-- The soft-start begins. -/
def State.preStart (s : State) : State :=
  ((({ s with spr := { s.spr with pre := true, preAt := s.time.cyc, prePer := s.get F.CTL_DAB_PER.PER, dab := {} } }).hbsLow [2, 3, 4, 5] (s.now 0)).uncommand
    [2, 3, 4, 5]).set F.CMN_PRECHG.STATE preRUN

theorem preStart_preSteps (s : State) : s.PreSteps s.preStart :=
  ((onlyHbs_hbsLow _ _ _).trans (onlyHbs_uncommand _ _)).preSteps (s := s)
    (t := { s with spr := { s.spr with pre := true, preAt := s.time.cyc, prePer := s.get F.CTL_DAB_PER.PER, dab := {} } }) rfl (regsBut_hidden _ rfl rfl rfl) preRUN

theorem precharge_preSteps (s : State) : s.PreSteps s.precharge := by
  have hfail : ∀ b : Bool, (if b then s else { s with spr := { s.spr with preFailed := false } }).gate = s.gate ∧
      s.RegsBut (F.CMN_PRECHG.STATE.off :: recCounters) (if b then s else { s with spr := { s.spr with preFailed := false } }) := by
    intro b
    cases b
    · exact ⟨rfl, regsBut_hidden _ rfl rfl rfl⟩
    · exact ⟨rfl, regsBut_same s _⟩
  unfold State.precharge
  dsimp only
  split
  · exact .same s
  · obtain ⟨hg, hregs⟩ := hfail (s.stationSeen == 1 || s.stationSeen == 2)
    generalize (if (s.stationSeen == 1 || s.stationSeen == 2) = true then s else { s with spr := { s.spr with preFailed := false } }) = u at hg hregs
    refine .after hg hregs ?_
    split
    · split
      · exact (preStop_preSteps u _).raise _ _
      · split
        · exact .same u
        · exact preStop_preSteps u 0
    · generalize (if u.get F.CMN_PRECHG.STATE == preDONE then decide (u.vDc < u.preTarget - 400) else decide (u.vDc < u.preTarget)) = low
      split
      · exact preStart_preSteps u
      · exact .same u

/-- The pack feedback has moved from what it showed: it completes a close or an open, or is reported. -/
def State.packHears (s : State) (was : Bool) : State :=
  match s.gate.packOp with
  | some (k, t) =>
    if k == 0 && s.packShowsClosed then { s with gate := { s.gate with packOp := none } }.raise Ev.PACK_CLOSED [(s.time.cyc - t) / 500000, s.vDc.toNat, s.vPackBms]
    else if k != 0 && !s.packShowsClosed then { s with gate := { s.gate with packOp := none } }.raise Ev.PACK_OPENED [(s.time.cyc - t) / 500000, sPay s.iPack] else s
  | none => if was != s.packShowsClosed then s.raise Ev.PACK_FB_CHANGE [b2n s.packShowsClosed, b2n s.gate.packCmd] else s

/-- The pack input at a level. -/
def State.packFbAt (s : State) (level : Bool) : State := { s with gate := { s.gate with packFb := level } }

theorem packFbChange_eq (dt : Nat) (level : Bool) (s : State) : exec (.packFbChange dt level) s = onSpring s fun s =>
    (((s.advance dt).packFbAt level).packHears (s.advance dt).packShowsClosed).precharge := rfl

/-- The feedback completes the close or the open that waits for it. -/
def packDone (closed : Bool) : Option (Nat × Nat) → Option (Nat × Nat)
  | some (k, a) => if (closed = true ∧ k = 0) ∨ (closed = false ∧ k ≠ 0) then none else some (k, a)
  | none => none

theorem packHears_facts (s : State) (was : Bool) : (s.packHears was).gate = { s.gate with packOp := packDone s.packShowsClosed s.gate.packOp } ∧ s.RegsBut recCounters (s.packHears was) := by
  unfold State.packHears
  cases ho : s.gate.packOp with
  | none =>
    have hgate : s.gate = { s.gate with packOp := packDone s.packShowsClosed none } := by rw [packDone, ← ho]
    dsimp only
    split
    · exact ⟨(State.raise_gate _ _ _).trans hgate, regsBut_raise _ _ _ _ fun _ ho => ho⟩
    · exact ⟨hgate, regsBut_same s _⟩
  | some op =>
    obtain ⟨k, a⟩ := op
    dsimp only
    by_cases hclose : (k == 0 && s.packShowsClosed) = true
    · rw [if_pos hclose]
      obtain ⟨hg, hr⟩ := raised_gate_regs (s := s) { s.gate with packOp := none } Ev.PACK_CLOSED [(s.time.cyc - a) / 500000, s.vDc.toNat, s.vPackBms]
      have hdone : packDone s.packShowsClosed (some (k, a)) = none := if_pos (.inl (by simpa [and_comm] using hclose))
      exact ⟨hg.trans (by rw [hdone]), hr⟩
    · rw [if_neg hclose]
      by_cases hopen : (k != 0 && !s.packShowsClosed) = true
      · rw [if_pos hopen]
        obtain ⟨hg, hr⟩ := raised_gate_regs (s := s) { s.gate with packOp := none } Ev.PACK_OPENED [(s.time.cyc - a) / 500000, sPay s.iPack]
        have hdone : packDone s.packShowsClosed (some (k, a)) = none := if_pos (.inr (by simpa [and_comm] using hopen))
        exact ⟨hg.trans (by rw [hdone]), hr⟩
      · rw [if_neg hopen]
        have hdone : packDone s.packShowsClosed (some (k, a)) = some (k, a) := if_neg (by simp at hclose hopen; rintro (⟨hb, hk⟩ | ⟨hb, hk⟩) <;> simp_all)
        exact ⟨by rw [hdone, ← ho], regsBut_same s _⟩

theorem packFbChange_hears {s : State} {dt : Nat} {level : Bool} (hlive : s.live = true) (hr : s.role = .spring) :
    GoesTo (exec (.packFbChange dt level) s) fun t => t.gate.packFb = level ∧ t.gate.packCmd = s.gate.packCmd ∧ t.packShowsClosed = (level != s.flag F.CELL_CTRL.PACK_FB_POL) ∧
      (∀ k a, s.gate.packOp = some (k, a) → t.gate.packOp = if (t.packShowsClosed = true ∧ k = 0) ∨ (t.packShowsClosed = false ∧ k ≠ 0) then none else some (k, a)) ∧
      s.RegsBut (F.CMN_PRECHG.STATE.off :: recCounters) t := by
  rw [packFbChange_eq]
  refine goesTo_spring hlive hr ?_
  rw [confine_hull (by simp [State.packHears, State.packFbAt]; (repeat' split) <;> simp)]
  have h0 : ((s.advance dt).packFbAt level).gate = { s.gate with packFb := level } ∧ s.RegsBut recCounters ((s.advance dt).packFbAt level) ∧
      ((s.advance dt).packFbAt level).packShowsClosed = (level != s.flag F.CELL_CTRL.PACK_FB_POL) := ⟨rfl, regsBut_hidden _ rfl rfl rfl, rfl⟩
  generalize (s.advance dt).packFbAt level = u at h0
  obtain ⟨hu, ru, hshow⟩ := h0
  obtain ⟨hv, rv⟩ := packHears_facts u (s.advance dt).packShowsClosed
  generalize u.packHears (s.advance dt).packShowsClosed = v at hv rv
  obtain ⟨⟨l, ht⟩, rt⟩ := precharge_preSteps v
  rw [hv, hu, hshow] at ht
  have hregs : s.RegsBut (F.CMN_PRECHG.STATE.off :: recCounters) v.precharge :=
    regsBut_trans (regsBut_wider (regsBut_trans ru rv) fun o ho => List.mem_cons_of_mem _ ho) rt
  have hclosed : v.precharge.packShowsClosed = (level != s.flag F.CELL_CTRL.PACK_FB_POL) := by
    rw [State.packShowsClosed, ht, hregs.flag (by decide)]
  rw [ht, hclosed]
  refine ⟨rfl, rfl, rfl, fun k a ho => ?_, hregs⟩
  rw [ho]
  rfl

end Sys2Proof.Machine
end

section
/-! PROOFS. The contactors' failures and their Weir (R141, R143, R145, R146, R189); every clause of O37. -/
namespace Sys2Proof.Machine

/-! ### A Spring's own Weir (R189, R190, R214) -/

theorem weirLast_cause (s : State) (x : WeirSet) (h : x.cause < 16) : (s.weirLast x).get F.WEIR_LAST.CAUSE = x.cause := by
  rw [State.weirLast, State.get_set_apart _ _ _ _ rfl (by decide), State.get_set_apart _ _ _ _ rfl (by decide), State.get_set_same _ _ _ rfl]
  exact Nat.mod_eq_of_lt h

theorem weirLast_regs (s : State) (x : WeirSet) : s.RegsBut [F.WEIR_LAST.CAUSE.off] (s.weirLast x) := by
  have hmem : F.WEIR_LAST.CAUSE.off ∈ [F.WEIR_LAST.CAUSE.off] := List.mem_singleton.mpr rfl
  exact (((((regsBut_same s _).set F.WEIR_LAST.SCOPE x.scope hmem).set F.WEIR_LAST.ARM x.arm hmem).set F.WEIR_LAST.CAUSE x.cause hmem).set F.WEIR_LAST.ORIGIN x.origin hmem).set
    F.WEIR_LAST.SEQ x.seq hmem

/-- An ordered set leaves by the lanes alone. -/
theorem sendWeir_wired (s : State) (ports : List Nat) (x : WeirSet) : s.Wired (s.sendWeir ports x) := by
  induction ports generalizing s with
  | nil => exact wired_same s
  | cons p l ih => exact wired_trans (laneOut_wired s p _ _) (ih _)

/-- An enrolled Spring of an arm numbers its Weir, counts it and shows its cause. -/
theorem springWeir_sends {s : State} {cause : Nat} (he : s.get F.LNK_SPOS.ENROLLED = 1) (ha : s.get F.WEIR_SCFG.ARM_ID ≠ 0xF) (hc : cause < 16) :
    (s.springWeir cause).weir.seq = (s.weir.seq + 1) % 256 ∧ (s.springWeir cause).get F.WEIR_TX_CNT.COUNT = min (s.get F.WEIR_TX_CNT.COUNT + 1) 0xFFFFFFFF ∧
      (s.springWeir cause).get F.WEIR_LAST.CAUSE = cause := by
  have hcond : (s.flag F.LNK_SPOS.ENROLLED && s.get F.WEIR_SCFG.ARM_ID != 0xF) = true := by simp [State.flag, he, ha]
  unfold State.springWeir
  dsimp only
  rw [if_pos hcond]
  have hseq : (s.newWeir 1 (s.get F.WEIR_SCFG.ARM_ID) cause).1.weir.seq = (s.weir.seq + 1) % 256 := rfl
  have hcnt : (s.newWeir 1 (s.get F.WEIR_SCFG.ARM_ID) cause).1.get F.WEIR_TX_CNT.COUNT = s.get F.WEIR_TX_CNT.COUNT := rfl
  have hcause : (s.newWeir 1 (s.get F.WEIR_SCFG.ARM_ID) cause).2.cause = cause := rfl
  generalize (s.newWeir 1 (s.get F.WEIR_SCFG.ARM_ID) cause).1 = u at hseq hcnt
  generalize (s.newWeir 1 (s.get F.WEIR_SCFG.ARM_ID) cause).2 = x at hcause
  have hwire := sendWeir_wired u [0, 1] x
  generalize u.sendWeir [0, 1] x = v at hwire
  have hv : v.weir.seq = (s.weir.seq + 1) % 256 ∧ v.get F.WEIR_TX_CNT.COUNT = s.get F.WEIR_TX_CNT.COUNT := by
    rw [hwire]
    exact ⟨hseq, hcnt⟩
  refine ⟨?_, ?_, ?_⟩
  · rw [State.Recorded.weir (State.recorded_raise _ _ _)]
    exact hv.1
  · rw [State.raise_get _ _ _ _ rfl, (weirLast_regs _ x).get (by decide), inc_get_of rfl hv.2]
    rfl
  · rw [State.raise_get _ _ _ _ rfl, weirLast_cause _ x (by rw [hcause]; exact hc), hcause]

/-! ### Failures of the bypass (R141, R143) -/

theorem bypOpenFail_eq (dt : Nat) (s : State) : exec (.bypOpenFail dt) s = onSpring s fun s =>
    match (s.advance dt).gate.bypOpening with
    | some t => if 500000 * (s.advance dt).get F.CELL_TMO.BYP_OPEN_TMO ≤ (s.advance dt).time.cyc - t then
        (State.bypRelease { (s.advance dt).raise Ev.BYP_OPEN_FAIL [b2n (s.advance dt).gate.bypFb] with
          gate := { ((s.advance dt).raise Ev.BYP_OPEN_FAIL [b2n (s.advance dt).gate.bypFb]).gate with bypOpening := none } }).interlock false
      else s.advance dt
    | none => s.advance dt := rfl

/-- A bypass that does not open in time is released. -/
theorem bypOpenFail_releases {s : State} {dt a : Nat} (hlive : s.live = true) (hr : s.role = .spring) (ho : s.gate.bypOpening = some a) (hcmd : s.gate.bypCmd = true)
    (ht : a + 500000 * s.get F.CELL_TMO.BYP_OPEN_TMO ≤ s.time.cyc + dt) :
    GoesTo (exec (.bypOpenFail dt) s) fun t => t.gate.bypCmd = false ∧ t.gate.bypOpening = none ∧ t.get F.CELL_OPS.BYP_OPS = min (s.get F.CELL_OPS.BYP_OPS + 1) 0xFFFF ∧
      s.RegsBut (F.CELL_OPS.BYP_OPS.off :: recCounters) t := by
  have htime : 500000 * (s.advance dt).get F.CELL_TMO.BYP_OPEN_TMO ≤ (s.advance dt).time.cyc - a := by
    rw [State.advance_get]
    exact Nat.le_sub_of_add_le (by rw [Nat.add_comm]; exact ht)
  have hopen : (s.advance dt).gate.bypOpening = some a := ho
  rw [bypOpenFail_eq]
  refine goesTo_spring hlive hr ?_
  simp only [hopen, htime, if_true]
  rw [confine_hull (by simp)]
  have h0 := (State.Moved.raise (moved_same (s.advance dt) [F.CELL_OPS.BYP_OPS.off] F.CELL_OPS.BYP_OPS) rfl Ev.BYP_OPEN_FAIL [b2n (s.advance dt).gate.bypFb])
  generalize (s.advance dt).raise Ev.BYP_OPEN_FAIL [b2n (s.advance dt).gate.bypFb] = u at h0
  have h1 := h0.regate { u.gate with bypOpening := none }
  have hcmd' : ({ u with gate := { u.gate with bypOpening := none } } : State).gate.bypCmd = true := by
    rw [h1.gate, h0.gate]
    exact hcmd
  have h2 := bypRelease_moved hcmd'
  generalize ({ u with gate := { u.gate with bypOpening := none } } : State) = v at h1 h2
  obtain ⟨⟨l, i, hgate⟩, -, hregs⟩ := interlocks_interlock v.bypRelease false
  rw [h2.gate] at hgate
  refine ⟨by rw [hgate], by rw [hgate], ?_, regsBut_trans (regsBut_trans h1.regs h2.regs) (regsBut_wider hregs fun o ho => List.mem_cons_of_mem _ ho)⟩
  rw [hregs.get (by decide), h2.count, h1.count, State.advance_get]

/-- The close of the bypass given up. -/
def State.closeGivenUp (s : State) : State := { s with gate := { s.gate with bypClosing := none } }

/-- The active bypass taken up, with its event (R143). -/
def State.actTakes (s : State) : State :=
  let s := s.raise Ev.BYP_CLOSE_FAIL [evNum Ev.BYP_CLOSE_FAIL 0]
  { s with gate := { s.gate with actByp := true } }.interlock false

/-- The failed close reported where there is no active bypass. -/
def State.closeFailed (s : State) : State := s.closeGivenUp.raise Ev.BYP_CLOSE_FAIL [evNum Ev.BYP_CLOSE_FAIL 1]

theorem bypCloseFail_eq (dt : Nat) (s : State) : exec (.bypCloseFail dt) s = onSpring s fun s =>
    match (s.advance dt).gate.bypClosing with
    | some t => if 500000 * (s.advance dt).get F.CELL_TMO.BYP_CLOSE_TMO ≤ (s.advance dt).time.cyc - t then
        if (s.advance dt).closeGivenUp.actBypOk then (s.advance dt).closeGivenUp.actTakes
        else if (s.advance dt).closeFailed.blocked then (s.advance dt).closeFailed.springWeir cauBYP
        else (s.advance dt).closeFailed.enterBlock cauBYP ((s.advance dt).closeFailed.now 0)
      else s.advance dt
    | none => s.advance dt := rfl

theorem closeFailed_facts (s : State) : s.closeFailed.gate = { s.gate with bypClosing := none } ∧ s.RegsBut recCounters s.closeFailed ∧ s.closeFailed.weir = s.weir := by
  obtain ⟨hg, hregs⟩ := raised_gate_regs (s := s) { s.gate with bypClosing := none } Ev.BYP_CLOSE_FAIL [evNum Ev.BYP_CLOSE_FAIL 1]
  exact ⟨hg, hregs, (State.recorded_raise s.closeGivenUp _ _).weir⟩

theorem actTakes_facts {s : State} (hb : s.blocked = false) : s.actTakes.gate.actByp = true ∧ s.actTakes.gate.bypClosing = s.gate.bypClosing ∧ s.actTakes.effMode = (mLEVEL, 0) ∧
    s.RegsBut recCounters s.actTakes := by
  have hr := regsBut_raise s Ev.BYP_CLOSE_FAIL [evNum Ev.BYP_CLOSE_FAIL 0] recCounters fun _ ho => ho
  have hg := State.raise_gate s Ev.BYP_CLOSE_FAIL [evNum Ev.BYP_CLOSE_FAIL 0]
  unfold State.actTakes
  dsimp only
  generalize s.raise Ev.BYP_CLOSE_FAIL [evNum Ev.BYP_CLOSE_FAIL 0] = u at hr hg
  obtain ⟨⟨l, i, hgate⟩, -, hregs⟩ := interlocks_interlock { u with gate := { u.gate with actByp := true } } false
  have hall : s.RegsBut recCounters (State.interlock { u with gate := { u.gate with actByp := true } } false) :=
    regsBut_trans hr (regsBut_trans (regsBut_hidden _ rfl rfl rfl) hregs)
  have hact := congrArg GateSt.actByp hgate
  refine ⟨hact, (congrArg GateSt.bypClosing hgate).trans (by rw [hg]), ?_, hall⟩
  have hblk : (State.interlock { u with gate := { u.gate with actByp := true } } false).blocked = false := by
    rw [State.blocked, hall.flag (by decide)]
    exact hb
  rw [State.effMode, hblk, hact]
  rfl

theorem actEnd_actByp (s : State) : s.actEnd.gate.actByp = false := by
  unfold State.actEnd
  split
  · rw [(springWeir_keeps _ cauBYP).1]
  · rename_i h
    exact Bool.eq_false_iff.mpr h

/-- BLOCK entered for a cause: the flag, the cause, the bypass released and any active bypass over. -/
theorem enterBlock_ends {s : State} (hb : s.blocked = false) (cause t : Nat) : (s.enterBlock cause t).blocked = true ∧ (s.enterBlock cause t).gate.cause = cause ∧
    (s.enterBlock cause t).gate.bypCmd = false ∧ (s.enterBlock cause t).gate.actByp = false := by
  rw [enterBlock_eq hb]
  have hby := blockOn_blocks (s.allLow t) cause
  exact ⟨by rw [State.blocked, State.flag, hby.block]; rfl, hby.cause, hby.byp, actEnd_actByp _⟩

section

variable {s : State} {dt a : Nat} (hlive : s.live = true) (hr : s.role = .spring) (hc : s.gate.bypClosing = some a) (ht : a + 500000 * s.get F.CELL_TMO.BYP_CLOSE_TMO ≤ s.time.cyc + dt)
include hlive hr hc ht

/-- A close whose time is up, before what its failure does. -/
theorem bypCloseFail_goes {p : State → Prop} (hp : p (if s.actBypOk then (s.advance dt).closeGivenUp.actTakes
    else if (s.advance dt).closeFailed.blocked then (s.advance dt).closeFailed.springWeir cauBYP
    else (s.advance dt).closeFailed.enterBlock cauBYP ((s.advance dt).closeFailed.now 0))) : GoesTo (exec (.bypCloseFail dt) s) p := by
  have htime : 500000 * (s.advance dt).get F.CELL_TMO.BYP_CLOSE_TMO ≤ (s.advance dt).time.cyc - a := by
    rw [State.advance_get]
    exact Nat.le_sub_of_add_le (by rw [Nat.add_comm]; exact ht)
  have hclosing : (s.advance dt).gate.bypClosing = some a := hc
  rw [bypCloseFail_eq]
  refine goesTo_spring hlive hr ?_
  simp only [hclosing, htime, if_true]
  rw [confine_hull (by
    have hgiven : (s.advance dt).closeGivenUp.hull = s.hull := rfl
    have hfailed : (s.advance dt).closeFailed.hull = s.hull := (hull_raise _ _ _).trans hgiven
    have htakes : (s.advance dt).closeGivenUp.actTakes.hull = s.hull := by simp [State.actTakes, hgiven]
    simp [hfailed, htakes])]
  exact hp

theorem bypCloseFail_active (hok : s.actBypOk = true) : GoesTo (exec (.bypCloseFail dt) s) fun t =>
    t.gate.actByp = true ∧ t.gate.bypClosing = none ∧ t.effMode = (mLEVEL, 0) ∧ s.RegsBut recCounters t := by
  refine bypCloseFail_goes hlive hr hc ht ?_
  have hb : s.blocked = false := by
    have h := hok
    simp only [State.actBypOk, Bool.and_eq_true, Bool.not_eq_true'] at h
    obtain ⟨⟨-, hb⟩, -⟩ := h
    exact hb
  rw [if_pos hok]
  exact actTakes_facts (s := (s.advance dt).closeGivenUp) hb

theorem bypCloseFail_blocks (hok : s.actBypOk = false) (hb : s.blocked = false) : GoesTo (exec (.bypCloseFail dt) s) fun t =>
    t.blocked = true ∧ t.gate.cause = cauBYP ∧ t.gate.bypCmd = false ∧ t.gate.actByp = false := by
  refine bypCloseFail_goes hlive hr hc ht ?_
  obtain ⟨-, hregs, -⟩ := closeFailed_facts (s.advance dt)
  have hb' : (s.advance dt).closeFailed.blocked = false := (hregs.flag (by decide)).trans hb
  rw [hok, if_neg Bool.false_ne_true, hb', if_neg Bool.false_ne_true]
  exact enterBlock_ends hb' _ _

theorem bypCloseFail_weir (hb : s.blocked = true) (he : s.get F.LNK_SPOS.ENROLLED = 1) (ha : s.get F.WEIR_SCFG.ARM_ID ≠ 0xF) : GoesTo (exec (.bypCloseFail dt) s) fun t =>
    t.gate = { s.gate with bypClosing := none } ∧ t.weir.seq = (s.weir.seq + 1) % 256 ∧ t.get F.WEIR_TX_CNT.COUNT = min (s.get F.WEIR_TX_CNT.COUNT + 1) 0xFFFFFFFF ∧
      t.get F.WEIR_LAST.CAUSE = cauBYP := by
  refine bypCloseFail_goes hlive hr hc ht ?_
  obtain ⟨hgate, hregs, hweir⟩ := closeFailed_facts (s.advance dt)
  have hok : s.actBypOk = false := by simp [State.actBypOk, hb]
  have hb' : (s.advance dt).closeFailed.blocked = true := (hregs.flag (by decide)).trans hb
  rw [hok, if_neg Bool.false_ne_true, if_pos hb']
  obtain ⟨hseq, hcnt, hcause⟩ := springWeir_sends (cause := cauBYP) ((hregs.get (by decide)).trans he) ((hregs.get (f := F.WEIR_SCFG.ARM_ID) (by decide)).trans_ne ha) (by decide)
  refine ⟨(springWeir_keeps _ _).1.trans hgate, hseq.trans (by rw [hweir]; rfl), hcnt.trans (by rw [hregs.get (by decide)]; rfl), hcause⟩

end

/-! ### Failures of the pack contactor (R145, R146) -/

theorem packFail_eq (dt : Nat) (s : State) : exec (.packFail dt) s = onSpring s fun s =>
    match (s.advance dt).gate.packOp with
    | some (k, t) => if 500000 * (s.advance dt).get F.CELL_TMO.PACK_TMO ≤ (s.advance dt).time.cyc - t then
        State.raise { s.advance dt with gate := { (s.advance dt).gate with packOp := none, packCmd := (s.advance dt).gate.packCmd && k != 0 } } Ev.PACK_FAIL
          [evNum Ev.PACK_FAIL k, b2n (s.advance dt).gate.packFb]
      else s.advance dt
    | none => s.advance dt := rfl

/-- A pack contactor that does not follow gives its operation up; a failed close is released. -/
theorem packFail_givesUp {s : State} {dt a k : Nat} (hlive : s.live = true) (hr : s.role = .spring) (ho : s.gate.packOp = some (k, a))
    (ht : a + 500000 * s.get F.CELL_TMO.PACK_TMO ≤ s.time.cyc + dt) :
    GoesTo (exec (.packFail dt) s) fun t => t.gate = { s.gate with packOp := none, packCmd := s.gate.packCmd && k != 0 } ∧ s.RegsBut recCounters t := by
  have htime : 500000 * (s.advance dt).get F.CELL_TMO.PACK_TMO ≤ (s.advance dt).time.cyc - a := by
    rw [State.advance_get]
    exact Nat.le_sub_of_add_le (by rw [Nat.add_comm]; exact ht)
  have hop : (s.advance dt).gate.packOp = some (k, a) := ho
  rw [packFail_eq]
  refine goesTo_spring hlive hr ?_
  simp only [hop, htime, if_true]
  rw [confine_hull (by simp)]
  exact raised_gate_regs (s := s.advance dt) _ _ _

/-! ### O37 -/

/-- Settles O37. A refusal of BYP_OPEN looks at BLOCK and the slot's mode before the half-bridges: the order is the model's own (log entry 49); that SAFE_HOLD
refuses it, that a PACK operation may be repeated, and that a Spring already in BLOCK still sends the Weir of a failed close, are log entry 33. -/
theorem contactors : Obligations.Contactors := by
  unfold Obligations.Contactors
  refine ⟨fun s c x hlive hr hc hsrc => ⟨?_, ?_, ?_, ?_, ?_, ?_, ?_, ?_, ?_, ?_⟩, fun s dt level hlive hr => ⟨bypFbChange_hears hlive hr, packFbChange_hears hlive hr⟩,
    fun s dt a hlive hr => ⟨fun ho hcmd ht => bypOpenFail_releases hlive hr ho hcmd ht,
      fun ho ht => ⟨bypCloseFail_active hlive hr ho ht, bypCloseFail_blocks hlive hr ho ht, bypCloseFail_weir hlive hr ho ht⟩, fun k ho ht => packFail_givesUp hlive hr ho ht⟩⟩
  · intro ho hb hx hm hl hh hcmd hok
    have hfit : s.bridgeBad = false := by
      rw [Bool.eq_false_iff, ne_eq, bridgeBad_iff]
      rintro ⟨n, hn, hbad⟩
      simp [hok n hn] at hbad
    exact bypOpen_opens hlive hr hc hsrc ho hb (levelZero_of hx hm hl hh) hcmd hfit
  · intro ho h
    exact bypOpen_mode hlive hr hc hsrc ho (h.imp_right levelZero_not)
  · intro ho hb hx hm hl hh hbad
    exact bypOpen_fault hlive hr hc hsrc ho hb (levelZero_of hx hm hl hh) ((bridgeBad_iff s).mpr hbad)
  · rintro ⟨ho, hcmd⟩
    exact bypClose_idle hlive hr hc hsrc ho hcmd
  · rintro ⟨ho, hcmd, hi⟩
    have h := packOpen_answered hlive hr hc hsrc ho fun h => absurd h (Nat.not_lt.mpr hi)
    simp only [hcmd, Bool.false_eq_true, if_false] at h
    obtain ⟨t, he, hdone, hmoved⟩ := h
    exact ⟨t, he, hdone, by rw [hmoved.gate]; simp [hcmd], hmoved.regs⟩
  · exact bypClose_closes hlive hr hc hsrc
  · exact packClose_closes hlive hr hc hsrc
  · exact packClose_refused hlive hr hc hsrc
  · intro ho hcmd hf
    have h := packOpen_answered hlive hr hc hsrc ho hf
    simp only [hcmd, if_true] at h
    obtain ⟨t, he, hdone, hmoved⟩ := h
    exact ⟨t, he, hmoved.gate, hdone, hmoved.count, hmoved.regs⟩
  · exact packOpen_refused hlive hr hc hsrc

end Sys2Proof.Machine
end

section
/-! PROOFS. A commanded off-edge and on-edge on one half-bridge, and the generator's wave that places both (R66, R112 to R117, R125, R136). -/
namespace Sys2Proof.Machine

/-! ### One half-bridge -/

theorem HbSt.ch_setCh_same (h : HbSt) (hi : Bool) (c : ChSt) : (h.setCh hi c).ch hi = c := by rw [HbSt.ch_setCh, if_pos rfl]

theorem HbSt.ch_setCh_other (h : HbSt) (hi : Bool) (c : ChSt) : (h.setCh hi c).ch (!hi) = h.ch (!hi) := by rw [HbSt.ch_setCh, if_neg (by cases hi <;> decide)]

/-- A channel taken low: the other channel, every command and the stop stand; in soft turn-off nothing moves. -/
structure HbSt.LowOf (h : HbSt) (hi : Bool) (k : HbSt) : Prop where
  other : k.ch (!hi) = h.ch (!hi)
  cmd : (k.ch hi).cmd = (h.ch hi).cmd
  ssd : (h.ch hi).ssd = true → k.ch hi = h.ch hi
  low : (h.ch hi).ssd = false → (k.ch hi).on = false
  soft : k.soft = h.soft
  stopping : k.stopping = h.stopping
  stopped : k.stopped = h.stopped

theorem HbSt.chLow_lowOf (h : HbSt) (hi : Bool) (t : Nat) : h.LowOf hi (h.chLow hi t) := by
  have hsame : (h.ch hi).ssd = true ∨ (h.ch hi).on = false → h.chLow hi t = h := by
    intro hc
    unfold HbSt.chLow
    dsimp only
    rcases hc with hc | hc
    · rw [if_pos hc]
    · rw [hc]
      simp
  by_cases hc : (h.ch hi).ssd = true ∨ (h.ch hi).on = false
  · rw [hsame hc]
    exact ⟨rfl, rfl, fun _ => rfl, fun hs => hc.resolve_left (by simp [hs]), rfl, rfl, rfl⟩
  · obtain ⟨hs, hon⟩ := not_or.mp hc
    have he : h.chLow hi t = h.setCh hi { (h.ch hi) with on := false, offAt := some (if (h.ch hi).onAt ≤ t then t else (h.ch hi).offAt.getD t) } := by
      unfold HbSt.chLow
      dsimp only
      rw [if_neg hs, if_pos (by simpa using hon)]
    rw [he]
    refine ⟨HbSt.ch_setCh_other _ _ _, ?_, fun e => absurd e hs, fun _ => ?_, ?_, ?_, ?_⟩
    · rw [HbSt.ch_setCh_same]
    · rw [HbSt.ch_setCh_same]
    · cases hi <;> rfl
    · cases hi <;> rfl
    · cases hi <;> rfl

/-- A commanded off-edge of a half-bridge's channel. -/
def HbSt.offEdge (h : HbSt) (hi : Bool) (t : Nat) : HbSt :=
  let was := (h.ch hi).on
  let h := h.setCh hi { (h.ch hi) with cmd := false }
  let h := h.chLow hi t
  if h.stopping && was then { h with stopped := true } else h

theorem offEdge_eq (s : State) (n : Nat) (hi : Bool) (t : Nat) : s.offEdge n hi t = s.modHb n (fun h => h.offEdge hi t) := rfl

/-- What an off-edge leaves of a half-bridge: its channel's command off, the channel low but for soft turn-off; the rest of it stands, but that it may be stopped. -/
structure HbSt.OffOf (h : HbSt) (hi : Bool) (k : HbSt) : Prop where
  other : k.ch (!hi) = h.ch (!hi)
  cmd : (k.ch hi).cmd = false
  low : (h.ch hi).ssd = false → (k.ch hi).on = false
  ssd : (h.ch hi).ssd = true → (k.ch hi).on = (h.ch hi).on
  soft : k.soft = h.soft
  goes : h.stopping = false → k.stopped = h.stopped
  stays : h.stopped = true → k.stopped = true

theorem HbSt.offEdge_offOf (h : HbSt) (hi : Bool) (t : Nat) : h.OffOf hi (h.offEdge hi t) := by
  have hset : (h.setCh hi { (h.ch hi) with cmd := false }).LowOf hi ((h.setCh hi { (h.ch hi) with cmd := false }).chLow hi t) := HbSt.chLow_lowOf _ hi t
  have hsame := HbSt.ch_setCh_same h hi { (h.ch hi) with cmd := false }
  have hother := HbSt.ch_setCh_other h hi { (h.ch hi) with cmd := false }
  have hsoft : (h.setCh hi { (h.ch hi) with cmd := false }).soft = h.soft := by cases hi <;> rfl
  have hstopping : (h.setCh hi { (h.ch hi) with cmd := false }).stopping = h.stopping := by cases hi <;> rfl
  have hstopped : (h.setCh hi { (h.ch hi) with cmd := false }).stopped = h.stopped := by cases hi <;> rfl
  unfold HbSt.offEdge
  dsimp only
  generalize (h.setCh hi { (h.ch hi) with cmd := false }).chLow hi t = k at hset
  obtain ⟨l1, l2, l3, l4, l5, l6, l7⟩ := hset
  rw [hsame] at l2 l3 l4
  have hoff : h.OffOf hi k := ⟨l1.trans hother, l2, l4, fun e => by rw [l3 e], l5.trans hsoft, fun _ => l7.trans hstopped, fun e => (l7.trans hstopped).trans e⟩
  split
  · rename_i hstop
    obtain ⟨hk, -⟩ := Bool.and_eq_true_iff.mp hstop
    have hch : ∀ hj, HbSt.ch { k with stopped := true } hj = k.ch hj := fun hj => rfl
    exact ⟨hoff.other, hoff.cmd, hoff.low, hoff.ssd, hoff.soft, fun e => absurd ((l6.trans hstopping).trans e) (by simp [hk]), fun _ => rfl⟩
  · exact hoff

/-! ### The state's half-bridges -/

/-- A gate channel's half-bridge is one of the six. -/
theorem legs_lt {s : State} (hlen : s.gate.hbs.length = 6) (c : Fin 12) : c.val / 2 < s.gate.hbs.length := by omega

theorem hb_modHb_same {s : State} {n : Nat} (h : n < s.gate.hbs.length) (f : HbSt → HbSt) : (s.modHb n f).hb n = f (s.hb n) := by
  rw [State.modHb, hb_setHb, if_pos ⟨rfl, h⟩]

theorem hb_modHb_other (s : State) {n m : Nat} (h : m ≠ n) (f : HbSt → HbSt) : (s.modHb n f).hb m = s.hb m := by
  rw [State.modHb, hb_setHb, if_neg fun e => h e.1.symm]

theorem hbs_modHb_length (s : State) (n : Nat) (f : HbSt → HbSt) : (s.modHb n f).gate.hbs.length = s.gate.hbs.length := by
  rw [State.modHb, State.setHb, List.length_set]

/-- Whether a half-bridge may be driven rests on its stop and its soft turn-off, and on nothing else of the half-bridges. -/
theorem State.OnlyHbs.mayDrive {s t : State} (h : s.OnlyHbs t) {n : Nat} (hs : (t.hb n).stopped = (s.hb n).stopped) (hf : (t.hb n).soft = (s.hb n).soft) :
    t.mayDrive n = s.mayDrive n := by
  obtain ⟨l, rfl⟩ := h
  unfold State.mayDrive
  rw [hs, hf]
  rfl

theorem mayDrive_stopped {s : State} {n : Nat} (h : (s.hb n).stopped = true) : s.mayDrive n = false := by simp [State.mayDrive, h]

/-- The instant of a rising edge rests on the other channel's last fall, and on nothing else of the half-bridges. -/
theorem State.OnlyHbs.riseAt {s t : State} (h : s.OnlyHbs t) {n : Nat} {hi : Bool} (ho : ((t.hb n).ch (!hi)).offAt = ((s.hb n).ch (!hi)).offAt) (at' : Nat) :
    t.riseAt n hi at' = s.riseAt n hi at' := by
  obtain ⟨l, rfl⟩ := h
  unfold State.riseAt
  rw [ho]
  rfl

/-- A commanded on-edge: the channel is commanded; it rises where it may be driven and its pulse is not over by then. -/
theorem onEdge_hb {s : State} {n : Nat} (hn : n < s.gate.hbs.length) (hi : Bool) (t w : Nat) :
    ((s.onEdge n hi t w).hb n).ch (!hi) = (s.hb n).ch (!hi) ∧ (((s.onEdge n hi t w).hb n).ch hi).cmd = true ∧ (((s.onEdge n hi t w).hb n).ch hi).cmdAt = t ∧
      (if s.mayDrive n && !((s.hb n).ch hi).on && decide (s.riseAt n hi t < t + w) then (((s.onEdge n hi t w).hb n).ch hi).on = true ∧ (((s.onEdge n hi t w).hb n).ch hi).onAt = s.riseAt n hi t
      else (((s.onEdge n hi t w).hb n).ch hi).on = ((s.hb n).ch hi).on) := by
  have honly := onlyHbs_modHb s n (fun h => h.setCh hi { (h.ch hi) with cmd := true, cmdAt := t, cmdTo := t + w })
  have hlen := hbs_modHb_length s n (fun h => h.setCh hi { (h.ch hi) with cmd := true, cmdAt := t, cmdTo := t + w })
  have hhb := hb_modHb_same hn (fun h => h.setCh hi { (h.ch hi) with cmd := true, cmdAt := t, cmdTo := t + w })
  unfold State.onEdge
  dsimp only
  generalize s.modHb n (fun h => h.setCh hi { (h.ch hi) with cmd := true, cmdAt := t, cmdTo := t + w }) = u at honly hlen hhb
  have hsame : (u.hb n).ch hi = { ((s.hb n).ch hi) with cmd := true, cmdAt := t, cmdTo := t + w } := by rw [hhb, HbSt.ch_setCh_same]
  have hother : (u.hb n).ch (!hi) = (s.hb n).ch (!hi) := by rw [hhb, HbSt.ch_setCh_other]
  have hmay : u.mayDrive n = s.mayDrive n := honly.mayDrive (by rw [hhb]; cases hi <;> rfl) (by rw [hhb]; cases hi <;> rfl)
  have hrise : u.riseAt n hi t = s.riseAt n hi t := honly.riseAt (by rw [hother]) t
  rw [hmay, hrise, hsame]
  dsimp only
  split
  · rw [State.rise, hb_modHb_same (by rw [hlen]; exact hn), HbSt.ch_setCh_other, HbSt.ch_setCh_same, hsame, hother, hrise]
    exact ⟨rfl, rfl, rfl, rfl, rfl⟩
  · rw [hsame, hother]
    exact ⟨rfl, rfl, rfl, rfl⟩

section

variable {s : State} {n : Nat} (hn : n < s.gate.hbs.length) (hi : Bool) (t w : Nat)
include hn

/-- A channel that may be driven and whose pulse is not over by then is on after its on-edge. -/
theorem onEdge_rises (hm : s.mayDrive n = true) (hlt : s.riseAt n hi t < t + w) : (((s.onEdge n hi t w).hb n).ch hi).on = true := by
  obtain ⟨-, -, -, hup⟩ := onEdge_hb hn hi t w
  rw [hm, decide_eq_true hlt, Bool.true_and, Bool.and_true] at hup
  cases hwas : ((s.hb n).ch hi).on with
  | true => rwa [hwas, if_neg (by simp)] at hup
  | false =>
    rw [hwas, if_pos (by simp)] at hup
    exact hup.1

/-- Nothing turns on where the half-bridge may not be driven. -/
theorem onEdge_kept (hm : s.mayDrive n = false) : (((s.onEdge n hi t w).hb n).ch hi).on = ((s.hb n).ch hi).on := by
  obtain ⟨-, -, -, hup⟩ := onEdge_hb hn hi t w
  rwa [hm, Bool.false_and, Bool.false_and, if_neg Bool.false_ne_true] at hup

end

theorem onEdge_others (s : State) {n m : Nat} (h : m ≠ n) (hi : Bool) (t w : Nat) : (s.onEdge n hi t w).hb m = s.hb m := by
  unfold State.onEdge
  dsimp only
  split
  · rw [State.rise, hb_modHb_other _ h, hb_modHb_other _ h]
  · rw [hb_modHb_other _ h]

end Sys2Proof.Machine
end

section
/-! PROOFS. COMMANDED_EDGE: the generator's wave (R66, R67, R112 to R117). -/
namespace Sys2Proof.Machine

/-! ### A leg brought to its wave's level -/

theorem State.OnlyHbs.dtEff {s t : State} (h : s.OnlyHbs t) (n : Nat) : t.dtEff n = s.dtEff n := by
  obtain ⟨l, rfl⟩ := h
  rfl

/-- A half-bridge that may be driven after an off-edge could be before it. -/
theorem State.OnlyHbs.mayDrive_of {s t : State} (h : s.OnlyHbs t) {n : Nat} {hi : Bool} (hk : (s.hb n).OffOf hi (t.hb n)) (hm : t.mayDrive n = true) : s.mayDrive n = true := by
  have hgoes : (t.hb n).stopped = false := by
    by_contra hc
    rw [mayDrive_stopped (by simpa using hc)] at hm
    exact Bool.false_ne_true hm
  have hwas : (s.hb n).stopped = false := by
    by_contra hc
    rw [hk.stays (by simpa using hc)] at hgoes
    exact Bool.false_ne_true hgoes.symm
  rw [← hm, h.mayDrive (hgoes.trans hwas.symm) hk.soft]

theorem onlyHbs_offEdge (s : State) (n : Nat) (hi : Bool) (t : Nat) : s.OnlyHbs (s.offEdge n hi t) := onlyHbs_modHb s n _

theorem offEdge_hb {s : State} {n : Nat} (hn : n < s.gate.hbs.length) (hi : Bool) (t : Nat) : (s.hb n).OffOf hi ((s.offEdge n hi t).hb n) := by
  rw [offEdge_eq, hb_modHb_same hn]
  exact HbSt.offEdge_offOf _ hi t

/-- A leg's edge: its other channel off, this one on. -/
def State.legEdge (s : State) (n : Nat) (hi : Bool) (t w : Nat) : State := (s.offEdge n (!hi) t).onEdge n hi t w

theorem legWave_crosses {s : State} {n t : Nat} {w : Wave} (hn : n < s.gate.hbs.length) (hshort : s.tooShort w.left = false) (hcmd : ((s.hb n).ch w.hi).cmd = false) :
    s.legWave n t w = s.legEdge n w.hi t w.left := by
  have hkept := (offEdge_hb hn (!w.hi) t).other
  rw [Bool.not_not] at hkept
  rw [State.legWave, hcmd, hshort, Bool.or_self, if_neg Bool.false_ne_true, State.legTo, hkept, hcmd, Bool.false_and, if_neg Bool.false_ne_true]
  rfl

theorem legWave_rests {s : State} {n t : Nat} {w : Wave} (h : s.tooShort w.left = true ∨ ((s.hb n).ch w.hi).cmd = true) : s.legWave n t w = s := by
  rw [State.legWave, if_pos (by simpa using h.symm)]

theorem onlyHbs_legEdge (s : State) (n : Nat) (hi : Bool) (t w : Nat) : s.OnlyHbs (s.legEdge n hi t w) := (onlyHbs_offEdge s n _ t).trans (onlyHbs_onEdge _ n hi t w)

theorem legEdge_others (s : State) {n m : Nat} (h : m ≠ n) (hi : Bool) (t w : Nat) : (s.legEdge n hi t w).hb m = s.hb m := by
  rw [State.legEdge, onEdge_others _ h, offEdge_eq, hb_modHb_other _ h]

section

variable {s : State} {n : Nat} (hn : n < s.gate.hbs.length) (hi : Bool) (t w : Nat)
include hn

/-- The state after the leg's off-edge, as its on-edge finds it. -/
theorem legEdge_on : ((s.legEdge n hi t w).hb n).ch (!hi) = ((s.offEdge n (!hi) t).hb n).ch (!hi) ∧ (((s.legEdge n hi t w).hb n).ch hi).cmd = true ∧
    (((s.legEdge n hi t w).hb n).ch hi).cmdAt = t ∧
      (if (s.offEdge n (!hi) t).mayDrive n && !((s.hb n).ch hi).on && decide ((s.offEdge n (!hi) t).riseAt n hi t < t + w) then
        (((s.legEdge n hi t w).hb n).ch hi).on = true ∧ (((s.legEdge n hi t w).hb n).ch hi).onAt = (s.offEdge n (!hi) t).riseAt n hi t
      else (((s.legEdge n hi t w).hb n).ch hi).on = ((s.hb n).ch hi).on) := by
  have hkept := (offEdge_hb hn (!hi) t).other
  rw [Bool.not_not] at hkept
  have h := onEdge_hb (s := s.offEdge n (!hi) t) (n := n) (by rw [offEdge_eq, hbs_modHb_length]; exact hn) hi t w
  rwa [hkept] at h

/-- The leg's other channel is off, but for soft turn-off; its own is commanded from the edge on. -/
theorem legEdge_levels : (((s.legEdge n hi t w).hb n).ch (!hi)).cmd = false ∧ (((s.hb n).ch (!hi)).ssd = false → (((s.legEdge n hi t w).hb n).ch (!hi)).on = false) ∧
    (((s.hb n).ch (!hi)).ssd = true → (((s.legEdge n hi t w).hb n).ch (!hi)).on = ((s.hb n).ch (!hi)).on) ∧
    (((s.legEdge n hi t w).hb n).ch hi).cmd = true ∧ (((s.legEdge n hi t w).hb n).ch hi).cmdAt = t := by
  obtain ⟨hother, hcmd, hat, -⟩ := legEdge_on hn hi t w
  have hoff := offEdge_hb hn (!hi) t
  rw [hother]
  exact ⟨hoff.cmd, hoff.low, hoff.ssd, hcmd, hat⟩

/-- Nothing turns on where the half-bridge may not drive. -/
theorem legEdge_kept (hm : s.mayDrive n = false) : (((s.legEdge n hi t w).hb n).ch hi).on = ((s.hb n).ch hi).on := by
  have hkept := (offEdge_hb hn (!hi) t).other
  rw [Bool.not_not] at hkept
  have hm' : (s.offEdge n (!hi) t).mayDrive n = false :=
    Bool.eq_false_iff.mpr fun e => Bool.eq_false_iff.mp hm ((onlyHbs_offEdge s n _ t).mayDrive_of (offEdge_hb hn (!hi) t) e)
  rw [State.legEdge, onEdge_kept (by rw [offEdge_eq, hbs_modHb_length]; exact hn) hi t w hm', hkept]

/-- The channel turns on no earlier than the effective dead time after the other's fall, and not at all where its pulse ends before. -/
theorem legEdge_rises (hw : 0 < w) (hm : s.mayDrive n = true) (hst : (s.hb n).stopping = false) (hon : ((s.hb n).ch hi).on = false) :
    ((∀ o, (((s.legEdge n hi t w).hb n).ch (!hi)).offAt = some o → o + s.dtEff n < t + w) → (((s.legEdge n hi t w).hb n).ch hi).on = true ∧
      t ≤ (((s.legEdge n hi t w).hb n).ch hi).onAt ∧
      ∀ o, (((s.legEdge n hi t w).hb n).ch (!hi)).offAt = some o → o + s.dtEff n ≤ (((s.legEdge n hi t w).hb n).ch hi).onAt) ∧
    ∀ o, (((s.legEdge n hi t w).hb n).ch (!hi)).offAt = some o → t + w ≤ o + s.dtEff n → (((s.legEdge n hi t w).hb n).ch hi).on = false := by
  obtain ⟨hother, -, -, hrise⟩ := legEdge_on hn hi t w
  have honly := onlyHbs_offEdge s n (!hi) t
  have hoff := offEdge_hb hn (!hi) t
  have hm' : (s.offEdge n (!hi) t).mayDrive n = true := (honly.mayDrive (hoff.goes hst) hoff.soft).trans hm
  rw [hother]
  rw [hm', hon, Bool.not_false, Bool.true_and, Bool.true_and] at hrise
  simp only [decide_eq_true_eq, State.riseAt, honly.dtEff] at hrise
  cases ho : (((s.offEdge n (!hi) t).hb n).ch (!hi)).offAt with
  | none =>
    simp only [ho] at hrise
    rw [if_pos (by omega)] at hrise
    exact ⟨fun _ => ⟨hrise.1, hrise.2.ge, fun o e => by simp at e⟩, fun o e => by simp at e⟩
  | some o =>
    simp only [ho] at hrise
    simp only [Option.some.injEq, forall_eq']
    refine ⟨fun hlt => ?_, fun hle => ?_⟩
    · rw [if_pos (by omega)] at hrise
      obtain ⟨hup, hat⟩ := hrise
      exact ⟨hup, by omega, by omega⟩
    · rwa [if_neg (by omega)] at hrise

end

/-! ### The command -/

/-- At a step of the present cycle, the programme's edge on a channel or the generator's for its leg. -/
def State.edgeAt (s : State) (c : Fin 12) (sub : Nat) : State :=
  match s.gate.test.filter (fun q => q.ch == c.val), s.wave (c.val / 2) sub with
  | some q, _ => s.testEdge q (s.now sub)
  | none, some w => if w.since < 2 then s.legWave (c.val / 2) (s.now sub) w else s
  | none, none => s

theorem commandedEdge_eq (dt : Nat) (c : Fin 12) (sub : Fin 8) (s : State) : exec (.commandedEdge dt c sub) s = onSpring s fun s => (s.advance dt).edgeAt c sub := rfl

theorem hull_edgeAt (s : State) (c : Fin 12) (sub : Nat) : (s.edgeAt c sub).hull = s.hull := by
  unfold State.edgeAt
  (repeat' split) <;> simp

theorem edgeAt_wave {s : State} {c : Fin 12} {sub : Nat} (h : ∀ q, s.gate.test = some q → q.ch ≠ c.val) : s.edgeAt c sub = match s.wave (c.val / 2) sub with
    | some w => if w.since < 2 then s.legWave (c.val / 2) (s.now sub) w else s
    | none => s := by
  have hnone : s.gate.test.filter (fun q => q.ch == c.val) = none := by
    rw [Option.filter_eq_none_iff]
    intro q hq
    simpa using h q hq
  rw [State.edgeAt, hnone]
  cases s.wave (c.val / 2) sub <;> rfl

theorem edgeAt_test {s : State} {c : Fin 12} {sub : Nat} {q : TestSt} (h : s.gate.test = some q) (hch : q.ch = c.val) : s.edgeAt c sub = s.testEdge q (s.now sub) := by
  have hsome : s.gate.test.filter (fun q => q.ch == c.val) = some q := by
    rw [h]
    exact if_pos (beq_iff_eq.mpr hch)
  rw [State.edgeAt, hsome]

section

variable {s : State} {dt : Nat} {c : Fin 12} {sub : Fin 8} (hlive : s.live = true) (hr : s.role = .spring)
include hlive hr

/-- The generator's edge: no commissioning programme is on the channel, and the wave has crossed. -/
theorem commandedEdge_crosses {w : Wave} (hlen : s.gate.hbs.length = 6) (htest : ∀ q, s.gate.test = some q → q.ch ≠ c.val) (hw : (State.advance dt s).wave (c.val / 2) sub = some w)
    (hsince : w.since < 2) (hshort : s.tooShort w.left = false) (hcmd : ((s.hb (c.val / 2)).ch w.hi).cmd = false) {p : State → Prop}
    (hp : p ((s.advance dt).legEdge (c.val / 2) w.hi (8 * (s.time.cyc + dt) + sub) w.left)) : GoesTo (exec (.commandedEdge dt c sub) s) p := by
  have hn : c.val / 2 < (s.advance dt).gate.hbs.length := legs_lt hlen c
  rw [commandedEdge_eq]
  refine goesTo_spring hlive hr ?_
  rw [confine_hull ((hull_edgeAt _ c sub).trans (hull_advance dt s))]
  rw [edgeAt_wave (s := s.advance dt) htest, hw]
  dsimp only
  rw [if_pos hsince, legWave_crosses (s := s.advance dt) hn hshort hcmd]
  exact hp

/-- No edge to place. -/
theorem commandedEdge_rests (htest : ∀ q, s.gate.test = some q → q.ch ≠ c.val)
    (hno : ∀ w : Wave, (State.advance dt s).wave (c.val / 2) sub = some w → 2 ≤ w.since ∨ s.tooShort w.left = true ∨ ((s.hb (c.val / 2)).ch w.hi).cmd = true) :
    GoesTo (exec (.commandedEdge dt c sub) s) fun t => t = State.advance dt s := by
  rw [commandedEdge_eq]
  refine goesTo_spring hlive hr ?_
  rw [confine_hull ((hull_edgeAt _ c sub).trans (hull_advance dt s))]
  rw [edgeAt_wave (s := s.advance dt) htest]
  cases hw : (s.advance dt).wave (c.val / 2) sub with
  | none => rfl
  | some w =>
    dsimp only
    split
    · exact legWave_rests (s := s.advance dt) ((hno w hw).resolve_left (by omega))
    · rfl

/-- The programme's own edge, on its channel. -/
theorem commandedEdge_test {q : TestSt} (htest : s.gate.test = some q) (hch : q.ch = c.val) {p : State → Prop}
    (hp : p ((s.advance dt).testEdge q (8 * (s.time.cyc + dt) + sub))) : GoesTo (exec (.commandedEdge dt c sub) s) p := by
  rw [commandedEdge_eq]
  refine goesTo_spring hlive hr ?_
  rw [confine_hull ((hull_edgeAt _ c sub).trans (hull_advance dt s))]
  rw [edgeAt_test (s := s.advance dt) htest hch]
  exact hp

end

end Sys2Proof.Machine
end

section
/-! PROOFS. CONFLICT of a half-bridge, and what its latch and BLOCK leave (R118, R119, R131, R133, R134). -/
namespace Sys2Proof.Machine

/-! ### What entering BLOCK leaves of the registers (R133, R134) -/

/-- The fields that entering BLOCK writes, but for the recorder's: BLOCK, what ends with it, the operation it counts and its Weir. -/
def blockFields : List Fld :=
  [F.GATE_STATUS.BLOCK, F.GATE_STATUS.TEST_BUSY, F.CMN_PRECHG.STATE, F.CELL_OPS.BYP_OPS, F.WEIR_TX_CNT.COUNT, F.WEIR_LAST.SCOPE, F.WEIR_LAST.ARM, F.WEIR_LAST.CAUSE, F.WEIR_LAST.ORIGIN,
    F.WEIR_LAST.SEQ]

/-- A field that entering BLOCK leaves. -/
structure Fld.Unblocked (f : Fld) : Prop where
  ok : f.ok = true
  quiet : f.quiet = true
  apart : ∀ g ∈ blockFields, g.apart f = true

theorem onlyHbs_hbLow (s : State) (n t : Nat) : s.OnlyHbs (s.hbLow n t) := onlyHbs_modHb s n _

section

variable {f : Fld} (hf : f.Unblocked) (s : State)
include hf

theorem set_get_unblocked {g : Fld} (hg : g ∈ blockFields) (v : Nat) : (s.set g v).get f = s.get f := State.get_set_apart _ _ _ _ hf.ok (hf.apart g hg)

theorem preStop_get_unblocked (st : Nat) : (s.preStop st).get f = s.get f := by
  rw [State.preStop, set_get_unblocked hf _ (by simp [blockFields]), ((onlyHbs_hbsLow _ _ _).trans (onlyHbs_uncommand _ _)).get]
  rfl

theorem endTest_get_unblocked (t : Nat) : (s.endTest t).get f = s.get f := by
  unfold State.endTest
  split
  · rw [set_get_unblocked hf _ (by simp [blockFields]), ((onlyHbs_hbLow _ _ _).trans (onlyHbs_uncommand _ _)).get]
    rfl
  · rfl

theorem allLow_get_unblocked (t : Nat) : (s.allLow t).get f = s.get f := by
  unfold State.allLow
  dsimp only
  rw [endTest_get_unblocked hf, ((onlyHbs_hbsLow _ _ _).trans (onlyHbs_uncommand _ _)).get]
  split
  · exact preStop_get_unblocked hf s 0
  · rfl

theorem bypRelease_get_unblocked : s.bypRelease.get f = s.get f := by
  have hinc : ∀ g : GateSt, (State.inc { s with gate := g } F.CELL_OPS.BYP_OPS).get f = s.get f := fun g => set_get_unblocked hf { s with gate := g } (by simp [blockFields]) _
  unfold State.bypRelease
  split
  · dsimp only
    split
    · rw [State.raise_get _ _ _ _ hf.quiet, hinc]
    · exact hinc _
  · rfl

theorem weirLast_get_unblocked (x : WeirSet) : (s.weirLast x).get f = s.get f := by
  unfold State.weirLast
  iterate 5 rw [set_get_unblocked hf _ (by simp [blockFields])]

theorem springWeir_get_unblocked (cause : Nat) : (s.springWeir cause).get f = s.get f := by
  unfold State.springWeir
  dsimp only
  split
  · rw [State.raise_get _ _ _ _ hf.quiet, weirLast_get_unblocked hf, State.inc, State.addSat, set_get_unblocked hf _ (by simp [blockFields]), sendWeir_wired]
    rfl
  · rfl

/-- Entering BLOCK leaves every field that stands apart from those it writes. -/
theorem enterBlock_get_unblocked (cause t : Nat) : (s.enterBlock cause t).get f = s.get f := by
  by_cases hb : s.blocked = true
  · rw [State.enterBlock, if_pos hb]
  · have hset : ∀ u : State, (u.blockSet cause).get f = u.get f := fun u => set_get_unblocked hf u (by simp [blockFields]) 1
    have hsay : ∀ u : State, (u.blockSay cause).get f = u.get f := by
      intro u
      unfold State.blockSay State.raiseBlock
      split
      · rfl
      · exact State.raise_get _ _ _ _ hf.quiet
    have hend : ∀ u : State, u.actEnd.get f = u.get f := by
      intro u
      unfold State.actEnd
      split
      · exact springWeir_get_unblocked hf _ _
      · rfl
    rw [enterBlock_eq (by simpa using hb), State.blockOn, hend, hsay, springWeir_get_unblocked hf, bypRelease_get_unblocked hf, hset, allLow_get_unblocked hf]

end

/-- Entering BLOCK turns no channel on, and leaves every soft turn-off. -/
theorem enterBlock_lowers (s : State) (cause t n : Nat) : (s.hb n).Lowers ((s.enterBlock cause t).hb n) := by
  by_cases hb : s.blocked = true
  · rw [State.enterBlock, if_pos hb]
    exact HbSt.Lowers.same _
  · rw [enterBlock_eq (by simpa using hb)]
    exact ((allLow_view s t).2.1.hbs n).trans ((blockOn_blocks (s.allLow t) cause).hbs n)

/-! ### CONFLICT (R118, R119) -/

/-- CONFLICT shown and counted, both channels low. -/
def State.conflictShown (s : State) (n : Nat) (t : Nat) : State :=
  let on := match (s.hb n).conducting t with
    | some hi => chNum n hi
    | none => 0xFF
  let off := ((s.hb n).conducting t).map (fun hi => (s.time.cyc, hi))
  let s := (s.hbLow n t).modHb n (fun h => { h with confOff := off })
  let s := (s.setBit F.GATE_STATUS.CONFLICT n true).inc (F.GATE_CNT.CONFLICT_CNT n)
  let s := { s with gate := { s.gate with conflictSeen := true } }
  let s := s.modHb n (fun h => { h with confRun := h.confRun + 1 })
  s.raise Ev.CONFLICT [n, on, s.get (F.GATE_CNT.CONFLICT_CNT n)]

theorem conflict_eq {s : State} {n : Nat} (h : s.inConflict n = false) (t : Nat) : s.conflict n t =
    if (s.conflictShown n t).get F.GATE_CTRL.CONF_LATCH != 0 && decide ((s.conflictShown n t).get F.GATE_CTRL.CONF_LATCH ≤ ((s.conflictShown n t).hb n).confRun) &&
      !(s.conflictShown n t).isLatched n then ((s.conflictShown n t).latchHb n 2 t).enterBlock cauLATCH t else s.conflictShown n t := by
  unfold State.conflict
  rw [if_neg (by simp [h])]
  rfl

theorem conflictCnt_unblocked (n : Fin 6) : (F.GATE_CNT.CONFLICT_CNT n).Unblocked := ⟨rfl, by revert n; decide, by revert n; decide⟩

theorem conflictCnt_apart (n : Fin 6) : F.GATE_STATUS.CONFLICT.apart (F.GATE_CNT.CONFLICT_CNT n) = true ∧ (F.GATE_CNT.CONFLICT_CNT n).apart F.GATE_STATUS.CONFLICT = true ∧
    F.GATE_STATUS.LATCHED.apart (F.GATE_CNT.CONFLICT_CNT n) = true := by
  revert n
  decide

theorem conflict_unblocked : F.GATE_STATUS.CONFLICT.Unblocked := ⟨rfl, rfl, by decide⟩

theorem setBit_testBit {s : State} {f : Fld} {n : Nat} (hok : f.ok = true) (hn : n < f.w) : ((s.setBit f n true).get f).testBit n = true := by
  rw [State.setBit, State.get_set_same _ _ _ hok]
  simp [Nat.testBit_mod_two_pow, hn]

/-- What CONFLICT leaves: its flag, its count, and both channels off but for soft turn-off. -/
structure State.InConflict (s t : State) (n : Fin 6) : Prop where
  flag : t.inConflict n = true
  count : t.get (F.GATE_CNT.CONFLICT_CNT n) = min (s.get (F.GATE_CNT.CONFLICT_CNT n) + 1) 0xFFFF
  low : ∀ hi, ((s.hb n).ch hi).ssd = false → ((t.hb n).ch hi).on = false

theorem hb_of_hbs {s t : State} (h : t.gate.hbs = s.gate.hbs) (n : Nat) : t.hb n = s.hb n := by rw [State.hb, h, State.hb]

theorem regate_get (s : State) (g : GateSt) (f : Fld) : State.get { s with gate := g } f = s.get f := rfl

theorem conflictShown_inConflict (s : State) (n : Fin 6) (t : Nat) : s.InConflict (s.conflictShown n t) n := by
  unfold State.conflictShown
  dsimp only
  have honly := (onlyHbs_hbLow s n t).trans (onlyHbs_modHb (s.hbLow n t) n fun h => { h with confOff := ((s.hb n).conducting t).map (fun hi => (s.time.cyc, hi)) })
  have hmark : ∀ (u : State) (g : HbSt → HbSt), (∀ h hi, (g h).ch hi = h.ch hi) → ∀ hi, ((u.modHb n g).hb n).ch hi = (u.hb n).ch hi := by
    intro u g hg hi
    rw [State.modHb, hb_setHb]
    split
    · exact hg _ hi
    · rfl
  have hlow : ∀ hi, ((s.hb n).ch hi).ssd = false → (((State.modHb (s.hbLow n t) n fun h => { h with confOff := ((s.hb n).conducting t).map (fun hi => (s.time.cyc, hi)) }).hb n).ch hi).on = false := by
    intro hi hs
    rw [hmark _ _ fun h hi => by cases hi <;> rfl]
    exact hbLow_low s n t hi hs
  generalize (State.modHb (s.hbLow n t) n fun h => { h with confOff := ((s.hb n).conducting t).map (fun hi => (s.time.cyc, hi)) }) = u at honly hlow
  have hbit : ((u.setBit F.GATE_STATUS.CONFLICT n true).get F.GATE_STATUS.CONFLICT).testBit n = true := setBit_testBit rfl n.isLt
  have hcnt : (u.setBit F.GATE_STATUS.CONFLICT n true).get (F.GATE_CNT.CONFLICT_CNT n) = s.get (F.GATE_CNT.CONFLICT_CNT n) := by
    rw [State.setBit, State.get_set_apart _ _ _ _ rfl (conflictCnt_apart n).1, honly.get]
  have hhb : (u.setBit F.GATE_STATUS.CONFLICT n true).hb n = u.hb n := rfl
  generalize u.setBit F.GATE_STATUS.CONFLICT n true = v at hbit hcnt hhb
  refine ⟨?_, ?_, fun hi hs => ?_⟩
  · rw [State.inConflict, State.maskBit, State.raise_get _ _ _ _ rfl, (onlyHbs_modHb _ _ _).get, regate_get, State.inc, State.addSat, State.get_set_apart _ _ _ _ rfl (conflictCnt_apart n).2.1, hbit]
  · rw [State.raise_get _ _ _ _ (conflictCnt_unblocked n).quiet, (onlyHbs_modHb _ _ _).get, regate_get]
    have hmax : 2 ^ (F.GATE_CNT.CONFLICT_CNT n).w - 1 = 0xFFFF := by norm_num [F.GATE_CNT.CONFLICT_CNT]
    rw [inc_get_of rfl hcnt, hmax]
  · rw [State.hb, State.raise_gate, ← State.hb, hmark _ _ fun h hi => by cases hi <;> rfl]
    rw [hb_of_hbs (s := v) (by rw [State.inc_gate]), hhb]
    exact hlow hi hs

/-- A latch and its BLOCK keep what CONFLICT has shown. -/
theorem State.InConflict.latched {s t : State} {n : Fin 6} (h : s.InConflict t n) (at' : Nat) : s.InConflict ((t.latchHb n 2 at').enterBlock cauLATCH at') n := by
  have hlatch : ∀ f : Fld, f.Unblocked → F.GATE_STATUS.LATCHED.apart f = true → ((t.latchHb n 2 at').enterBlock cauLATCH at').get f = t.get f := by
    intro f hf ha
    rw [enterBlock_get_unblocked hf, State.latchHb, State.raise_get _ _ _ _ hf.quiet, (onlyHbs_hbLow _ _ _).get, State.setBit, State.get_set_apart _ _ _ _ hf.ok ha]
  have hlower : (t.hb n).Lowers (((t.latchHb n 2 at').enterBlock cauLATCH at').hb n) :=
    HbSt.Lowers.trans ((((lowers_set t _ _).trans (lowers_hbsLow _ [n.val] at')).trans (lowers_raise _ _ _)).hbs n) (enterBlock_lowers _ cauLATCH at' n)
  refine ⟨?_, (hlatch _ (conflictCnt_unblocked n) (conflictCnt_apart n).2.2).trans h.count, fun hi hs => Bool.eq_false_iff.mpr fun e => ?_⟩
  · rw [State.inConflict, State.maskBit, hlatch _ conflict_unblocked (by decide)]
    exact h.flag
  · exact Bool.eq_false_iff.mp (h.low hi hs) ((hlower hi).2 e)

/-- CONFLICT entered: its flag, its count, both channels off but for soft turn-off; a run of it that latches keeps them (R119). -/
theorem conflict_inConflict {s : State} {n : Fin 6} (h : s.inConflict n = false) (t : Nat) : s.InConflict (s.conflict n t) n := by
  rw [conflict_eq h]
  split
  · exact (conflictShown_inConflict s n t).latched t
  · exact conflictShown_inConflict s n t

end Sys2Proof.Machine
end

section
/-! PROOFS. Commissioning pulses: the programme's edges, its start and its end (R116, R118, R154). -/
namespace Sys2Proof.Machine

/-! ### The programme's edges (R118, R154) -/

section

variable {s : State} {q : TestSt} {t : Nat} (hsafe : s.get F.CLK_PLLS_STAT.ON_SAFE = 0)

theorem testEdge_rests (h : q.level t = q.level (t - 1)) : s.testEdge q t = s := by
  rw [State.testEdge]
  exact if_pos (by simp [h])

include hsafe

theorem testEdge_falls (h : q.level t = false) (h' : q.level (t - 1) = true) : s.testEdge q t = s.offEdge (q.ch / 2) (q.ch % 2 == 0) t := by
  rw [State.testEdge, if_neg (by simp [State.flag, hsafe, h, h']), if_pos (by simp [h])]

theorem testEdge_up (h : q.level t = true) (h' : q.level (t - 1) = false) : s.testEdge q t =
    if ((s.hb (q.ch / 2)).ch (!(q.ch % 2 == 0))).cmd && s.hbEn (q.ch / 2) then s.conflict (q.ch / 2) t else s.onEdge (q.ch / 2) (q.ch % 2 == 0) t (q.left t) := by
  rw [State.testEdge, if_neg (by simp [State.flag, hsafe, h, h']), if_neg (by simp [h])]

end

/-! ### A programme starts (R154) -/

/-- GATE_TEST's fields as a write gives them. -/
def State.testFields (s : State) (w : Nat) : State :=
  let s := if bitsOf w 24 4 ≤ 11 then s.set F.GATE_TEST.CH (bitsOf w 24 4) else s
  (s.set F.GATE_TEST.T_GAP (bitsOf w 12 12)).set F.GATE_TEST.T_ON2 (bitsOf w 0 12)

/-- Why GO is rejected on a channel; 0 where nothing stands against it but a running programme. -/
def State.testBad (s : State) (c : Nat) : Nat :=
  if s.slotMode.1 != mOFF || s.gate.actByp then 1 else if (s.spr.slot.map (fun (x : Slot) => x.dabEn)).getD false then 2 else if s.blocked then 3
  else if s.get F.GATE_STATUS.TRIPPED != 0 || s.get F.GATE_STATUS.LATCHED != 0 then 4 else if !((s.hb (c / 2)).hi.rdy && (s.hb (c / 2)).lo.rdy) then 5 else 0

/-- A programme as GATE_TEST and GATE_TEST_T give it. -/
def State.testOf (s : State) (c : Nat) : TestSt := ⟨c, s.now 0, s.get F.GATE_TEST_T.T_ON1, s.get F.GATE_TEST.T_GAP, s.get F.GATE_TEST.T_ON2⟩

/-- A programme runs, and shows it. -/
def State.testRuns (s : State) (q : TestSt) : State := { s with gate := { s.gate with test := some q } }.set F.GATE_STATUS.TEST_BUSY 1

theorem gateTest_eq (s : State) (v : Word) : s.gateTest v =
    if !bitOf v.toNat 31 || !(s.testFields v.toNat).flag F.GATE_CTRL.TEST_EN || (s.testFields v.toNat).get F.GATE_TEST_T.T_ON1 == 0 then s.testFields v.toNat
    else if (s.testFields v.toNat).testBad ((s.testFields v.toNat).get F.GATE_TEST.CH) == 0 && (s.testFields v.toNat).gate.test.isNone then
      ((s.testFields v.toNat).testRuns ((s.testFields v.toNat).testOf ((s.testFields v.toNat).get F.GATE_TEST.CH))).onEdge ((s.testFields v.toNat).get F.GATE_TEST.CH / 2)
        ((s.testFields v.toNat).get F.GATE_TEST.CH % 2 == 0) ((s.testFields v.toNat).now 0)
        (((s.testFields v.toNat).testOf ((s.testFields v.toNat).get F.GATE_TEST.CH)).left ((s.testFields v.toNat).now 0))
    else (s.testFields v.toNat).raise Ev.TEST_REJECTED [v.toNat, evNum Ev.TEST_REJECTED ((s.testFields v.toNat).testBad ((s.testFields v.toNat).get F.GATE_TEST.CH))] := rfl

/-- What a write to GATE_TEST leaves beside GO: registers alone, and of them GATE_TEST's three fields. -/
structure State.TestFields (s t : State) (w : Nat) : Prop where
  same : t = { s with regs := t.regs }
  regs : s.RegsBut [F.GATE_TEST.CH.off] t
  ch : t.get F.GATE_TEST.CH = if bitsOf w 24 4 ≤ 11 then bitsOf w 24 4 else s.get F.GATE_TEST.CH
  gap : t.get F.GATE_TEST.T_GAP = bitsOf w 12 12
  on2 : t.get F.GATE_TEST.T_ON2 = bitsOf w 0 12

theorem testFields_fields (s : State) (w : Nat) : s.TestFields (s.testFields w) w := by
  have h0 : ∀ b : Prop, [Decidable b] → (if b then s.set F.GATE_TEST.CH (bitsOf w 24 4) else s) = { s with regs := (if b then s.set F.GATE_TEST.CH (bitsOf w 24 4) else s).regs } ∧
      s.RegsBut [F.GATE_TEST.CH.off] (if b then s.set F.GATE_TEST.CH (bitsOf w 24 4) else s) ∧
      (if b then s.set F.GATE_TEST.CH (bitsOf w 24 4) else s).get F.GATE_TEST.CH = if b then bitsOf w 24 4 else s.get F.GATE_TEST.CH := by
    intro b _
    split
    · exact ⟨rfl, regsBut_set _ _ _ _ List.mem_cons_self, (State.get_set_same _ _ _ rfl).trans (Nat.mod_eq_of_lt (bitsOf_lt _ _ _))⟩
    · exact ⟨rfl, regsBut_same s _, rfl⟩
  obtain ⟨h1, h2, h3⟩ := h0 (bitsOf w 24 4 ≤ 11)
  unfold State.testFields
  dsimp only
  generalize (if bitsOf w 24 4 ≤ 11 then s.set F.GATE_TEST.CH (bitsOf w 24 4) else s) = u at h1 h2 h3
  have hsame : (u.set F.GATE_TEST.T_GAP (bitsOf w 12 12)).set F.GATE_TEST.T_ON2 (bitsOf w 0 12) =
      { s with regs := ((u.set F.GATE_TEST.T_GAP (bitsOf w 12 12)).set F.GATE_TEST.T_ON2 (bitsOf w 0 12)).regs } := by
    rw [h1]
    rfl
  refine ⟨hsame, (h2.set F.GATE_TEST.T_GAP _ List.mem_cons_self).set F.GATE_TEST.T_ON2 _ List.mem_cons_self, ?_, ?_, ?_⟩
  · rw [State.get_set_apart _ _ _ _ rfl (by decide), State.get_set_apart _ _ _ _ rfl (by decide), h3]
  · rw [State.get_set_apart _ _ _ _ rfl (by decide), State.get_set_same _ _ _ rfl]
    exact Nat.mod_eq_of_lt (bitsOf_lt _ _ _)
  · rw [State.get_set_same _ _ _ rfl]
    exact Nat.mod_eq_of_lt (bitsOf_lt _ _ _)

section

variable {s t : State} {w : Nat} (h : s.TestFields t w)
include h

theorem State.TestFields.gate : t.gate = s.gate := (congrArg State.gate h.same).trans rfl
theorem State.TestFields.spr : t.spr = s.spr := (congrArg State.spr h.same).trans rfl
theorem State.TestFields.time : t.time = s.time := (congrArg State.time h.same).trans rfl
theorem State.TestFields.hb (n : Nat) : t.hb n = s.hb n := hb_of_hbs (by rw [h.gate]) n

theorem State.TestFields.testBad (c : Nat) : t.testBad c = s.testBad c := by
  have hblocked : t.blocked = s.blocked := h.regs.flag (by decide)
  have hmode : t.slotMode = s.slotMode := by rw [State.slotMode, h.spr, hblocked, h.regs.flag (by decide), State.slotMode]
  rw [State.testBad, hmode, h.gate, h.spr, h.hb, hblocked, h.regs.get (by decide), h.regs.get (by decide), State.testBad]

end

theorem rung_zero {b : Bool} {k m : Nat} (hk : k ≠ 0) : (if b then k else m) = 0 ↔ b = false ∧ m = 0 := by cases b <;> simp [hk]

/-- Nothing stands against GO: the slot's mode is OFF, no active bypass, no DAB, no BLOCK, nothing TRIPPED or latched, both channels ready. -/
theorem testBad_zero {s : State} {c : Nat} : s.testBad c = 0 ↔ s.slotMode.1 = mOFF ∧ s.gate.actByp = false ∧ (∀ x, s.spr.slot = some x → x.dabEn = false) ∧ s.blocked = false ∧
    s.get F.GATE_STATUS.TRIPPED = 0 ∧ s.get F.GATE_STATUS.LATCHED = 0 ∧ (s.hb (c / 2)).hi.rdy = true ∧ (s.hb (c / 2)).lo.rdy = true := by
  have hdab : (s.spr.slot.map (fun (x : Slot) => x.dabEn)).getD false = false ↔ ∀ x, s.spr.slot = some x → x.dabEn = false := by
    cases s.spr.slot <;> simp
  rw [← hdab, State.testBad, rung_zero (by decide), rung_zero (by decide), rung_zero (by decide), rung_zero (by decide), rung_zero (by decide)]
  simp only [Bool.or_eq_false_iff, bne_eq_false_iff_eq, Bool.not_eq_false', Bool.and_eq_true, and_true, and_assoc]

theorem mayDrive_testRuns {s t : State} {w : Nat} (h : s.TestFields t w) (q : TestSt) (n : Nat) : (t.testRuns q).mayDrive n = s.mayDrive n := by
  have hget : ∀ {f : Fld}, f.ok = true → f.off ∉ [F.GATE_TEST.CH.off] → F.GATE_STATUS.TEST_BUSY.apart f = true → (t.testRuns q).get f = s.get f := by
    intro f hok hf ha
    rw [State.testRuns, State.get_set_apart _ _ _ _ hok ha, regate_get, h.regs.get hf]
  have hgate : (t.testRuns q).gate = { s.gate with test := some q } := by rw [← h.gate]; rfl
  have hspr : (t.testRuns q).spr = s.spr := h.spr
  have hhb : (t.testRuns q).hb n = s.hb n := hb_of_hbs (by rw [hgate]) n
  simp only [State.mayDrive, State.hbEn, State.holdStops, State.stnHeld, State.armHeld, State.inConflict, State.isTripped, State.isLatched, State.maskBit, State.blocked, State.flag, hgate, hspr, hhb,
    hget (f := F.GATE_STATUS.BLOCK) rfl (by decide) (by decide), hget (f := F.GATE_STATUS.CONFLICT) rfl (by decide) (by decide),
    hget (f := F.GATE_STATUS.TRIPPED) rfl (by decide) (by decide), hget (f := F.GATE_STATUS.LATCHED) rfl (by decide) (by decide),
    hget (f := F.WEIR_SSTAT.STN_HOLD) rfl (by decide) (by decide), hget (f := F.WEIR_SSTAT.ARM_HOLD) rfl (by decide) (by decide), hget (f := F.WEIR_SCFG.ARM_DAB) rfl (by decide) (by decide)]

theorem pat_of {s t : State} {f : Fld} (hspr : t.spr = s.spr) (htime : t.time = s.time) (hrole : t.role = s.role) (hside : t.side = s.side) (hget : t.get f = s.get f) : t.pat f = s.pat f := by
  rw [State.pat, hspr, htime, hrole, hside, hget, State.pat]

/-- A programme that runs leaves the dead times, hence where a rising edge is placed. -/
theorem riseAt_testRuns {s t : State} {w : Nat} (h : s.TestFields t w) (q : TestSt) (n : Nat) (hi : Bool) (at' : Nat) : (t.testRuns q).riseAt n hi at' = s.riseAt n hi at' := by
  have hgate : (t.testRuns q).gate = { s.gate with test := some q } := by rw [← h.gate]; rfl
  have hhb : (t.testRuns q).hb n = s.hb n := hb_of_hbs (by rw [hgate]) n
  have hget : ∀ {f : Fld}, f.ok = true → 0x28020 ≤ f.off → (t.testRuns q).pat f = s.pat f := by
    intro f hok hf
    have hne : F.GATE_STATUS.TEST_BUSY.off ≠ f.off := fun e => absurd (e ▸ hf) (by decide)
    have hch : f.off ∉ [F.GATE_TEST.CH.off] := fun e => absurd (List.mem_singleton.mp e ▸ hf) (by decide)
    refine pat_of h.spr h.time ((congrArg State.role h.same).trans rfl) ((congrArg State.side h.same).trans rfl) ?_
    rw [State.testRuns, State.get_set_apart _ _ _ _ hok (by simp [Fld.apart, hne]), regate_get, h.regs.get hch]
  have hdt : (t.testRuns q).dtEff n = s.dtEff n := by
    rw [State.dtEff, State.dtReg, hget rfl (Nat.le_add_right _ _), hget rfl (Nat.le_add_right _ _), hgate, State.dtEff, State.dtReg]
  rw [State.riseAt, hhb, hdt, State.riseAt]

theorem testRuns_regs {s t : State} {w : Nat} (h : s.TestFields t w) (q : TestSt) : s.RegsBut [F.GATE_TEST.CH.off, F.GATE_STATUS.TEST_BUSY.off] (t.testRuns q) := by
  have hgate : t.RegsBut [F.GATE_TEST.CH.off, F.GATE_STATUS.TEST_BUSY.off] { t with gate := { t.gate with test := some q } } := regsBut_hidden _ rfl rfl rfl
  have hset := hgate.set F.GATE_STATUS.TEST_BUSY 1 (by decide)
  exact regsBut_trans (regsBut_wider h.regs fun o ho => List.mem_cons.mpr (.inl (List.mem_singleton.mp ho))) hset

theorem gateTestGo_eq (v : Word) (s : State) : exec (.gateTestGo v) s = onSpring s fun s => s.gateTest v := rfl

section

variable {s : State} {v : Word} {c : Nat} (hlive : s.live = true) (hr : s.role = .spring)
  (hc : c = (if bitsOf v.toNat 24 4 ≤ 11 then bitsOf v.toNat 24 4 else s.get F.GATE_TEST.CH))
include hlive hr hc

/-- GO on a channel, before what answers it. -/
theorem gateTestGo_goes {p : State → Prop} (hgo : bitOf v.toNat 31 = true) (hen : s.get F.GATE_CTRL.TEST_EN = 1) (hon : s.get F.GATE_TEST_T.T_ON1 ≠ 0)
    (hp : ∀ u, s.TestFields u v.toNat → u.get F.GATE_TEST.CH = c → p (if s.testBad c == 0 && s.gate.test.isNone then
      (u.testRuns (u.testOf c)).onEdge (c / 2) (c % 2 == 0) (u.now 0) ((u.testOf c).left (u.now 0))
      else u.raise Ev.TEST_REJECTED [v.toNat, evNum Ev.TEST_REJECTED (s.testBad c)])) : GoesTo (exec (.gateTestGo v) s) p := by
  have h := testFields_fields s v.toNat
  have hch := h.ch.trans hc.symm
  rw [gateTestGo_eq]
  refine goesTo_spring hlive hr ?_
  rw [confine_hull (by simp), gateTest_eq, hch, h.testBad, h.gate, State.flag, h.regs.get (by decide), h.regs.get (by decide), hgo, hen,
    if_neg (by simpa using hon)]
  exact hp _ h hch

theorem gateTestGo_starts (hlen : s.gate.hbs.length = 6) (hc11 : c ≤ 11) (hgo : bitOf v.toNat 31 = true) (hen : s.get F.GATE_CTRL.TEST_EN = 1) (hon : s.get F.GATE_TEST_T.T_ON1 ≠ 0)
    (hbad : s.testBad c = 0) (htest : s.gate.test = none) :
    GoesTo (exec (.gateTestGo v) s) fun t => t.gate.test = some ⟨c, 8 * s.time.cyc, s.get F.GATE_TEST_T.T_ON1, bitsOf v.toNat 12 12, bitsOf v.toNat 0 12⟩ ∧ t.get F.GATE_STATUS.TEST_BUSY = 1 ∧
      t.get F.GATE_TEST.CH = c ∧ t.get F.GATE_TEST.T_GAP = bitsOf v.toNat 12 12 ∧ t.get F.GATE_TEST.T_ON2 = bitsOf v.toNat 0 12 ∧ ((t.hb (c / 2)).ch (c % 2 == 0)).cmd = true ∧
      (s.mayDrive (c / 2) = true → s.riseAt (c / 2) (c % 2 == 0) (8 * s.time.cyc) < 8 * s.time.cyc + 80 * s.get F.GATE_TEST_T.T_ON1 → ((t.hb (c / 2)).ch (c % 2 == 0)).on = true) ∧
      (∀ m, m ≠ c / 2 → t.hb m = s.hb m) ∧ s.RegsBut [F.GATE_TEST.CH.off, F.GATE_STATUS.TEST_BUSY.off] t := by
  refine gateTestGo_goes hlive hr hc hgo hen hon fun u hu hch => ?_
  have hnow : u.now 0 = 8 * s.time.cyc := by rw [State.now, hu.time]; rfl
  have hof : u.testOf c = ⟨c, 8 * s.time.cyc, s.get F.GATE_TEST_T.T_ON1, bitsOf v.toNat 12 12, bitsOf v.toNat 0 12⟩ := by
    rw [State.testOf, hnow, hu.gap, hu.on2, hu.regs.get (by decide)]
  have hleft : (u.testOf c).left (8 * s.time.cyc) = 80 * s.get F.GATE_TEST_T.T_ON1 := by
    rw [hof, TestSt.left, if_pos (by simp; omega), Nat.sub_self, Nat.sub_zero]
  rw [if_pos (by simp [hbad, htest]), hnow, hleft]
  have hmay := mayDrive_testRuns hu (u.testOf c) (c / 2)
  have hrise := riseAt_testRuns hu (u.testOf c) (c / 2) (c % 2 == 0) (8 * s.time.cyc)
  have hregs := testRuns_regs hu (u.testOf c)
  have hgate : (u.testRuns (u.testOf c)).gate = { s.gate with test := some (u.testOf c) } := by rw [← hu.gate]; rfl
  have hget : ∀ {f : Fld}, f.ok = true → F.GATE_STATUS.TEST_BUSY.apart f = true → (u.testRuns (u.testOf c)).get f = u.get f := fun hok ha => State.get_set_apart _ _ _ _ hok ha
  have hbusy : (u.testRuns (u.testOf c)).get F.GATE_STATUS.TEST_BUSY = 1 := State.get_set_same _ _ _ rfl
  have hfields := (hget (f := F.GATE_TEST.CH) rfl (by decide)).trans hch
  have hgap := (hget (f := F.GATE_TEST.T_GAP) rfl (by decide)).trans hu.gap
  have hon2 := (hget (f := F.GATE_TEST.T_ON2) rfl (by decide)).trans hu.on2
  generalize u.testRuns (u.testOf c) = r at hmay hrise hregs hgate hbusy hfields hgap hon2
  have hhb : ∀ m, r.hb m = s.hb m := hb_of_hbs (by rw [hgate])
  have honly := onlyHbs_onEdge r (c / 2) (c % 2 == 0) (8 * s.time.cyc) (80 * s.get F.GATE_TEST_T.T_ON1)
  obtain ⟨l, hl⟩ := honly.gate
  have hn : c / 2 < r.gate.hbs.length := by
    rw [hgate]
    dsimp only
    omega
  obtain ⟨-, hcmd, -, -⟩ := onEdge_hb hn (c % 2 == 0) (8 * s.time.cyc) (80 * s.get F.GATE_TEST_T.T_ON1)
  exact ⟨by rw [hl, hgate, hof], by rw [honly.get, hbusy], by rw [honly.get, hfields], by rw [honly.get, hgap], by rw [honly.get, hon2], hcmd,
    fun hm hlt => onEdge_rises hn _ _ _ (hmay.trans hm) (by rw [hrise]; exact hlt), fun m hm => by rw [onEdge_others r hm, hhb], regsBut_trans hregs (honly.regs _)⟩

theorem gateTestGo_rejects (hgo : bitOf v.toNat 31 = true) (hen : s.get F.GATE_CTRL.TEST_EN = 1) (hon : s.get F.GATE_TEST_T.T_ON1 ≠ 0) (h : ¬ (s.testBad c = 0 ∧ s.gate.test = none)) :
    GoesTo (exec (.gateTestGo v) s) fun t => t.gate = s.gate ∧ t.get F.GATE_STATUS.TEST_BUSY = s.get F.GATE_STATUS.TEST_BUSY ∧ s.RegsBut (F.GATE_TEST.CH.off :: recCounters) t := by
  refine gateTestGo_goes hlive hr hc hgo hen hon fun u hu _ => ?_
  rw [if_neg (by simpa using h)]
  refine ⟨(State.raise_gate _ _ _).trans hu.gate, ?_, ?_⟩
  · rw [State.raise_get _ _ _ _ rfl, hu.regs.get (by decide)]
  · exact (regsBut_wider hu.regs fun o ho => List.mem_cons.mpr (.inl (List.mem_singleton.mp ho))).raise _ _ fun o ho => List.mem_cons_of_mem _ ho

theorem gateTestGo_discards (h : bitOf v.toNat 31 = false ∨ s.get F.GATE_CTRL.TEST_EN = 0 ∨ s.get F.GATE_TEST_T.T_ON1 = 0) :
    GoesTo (exec (.gateTestGo v) s) fun t => t = { s with regs := t.regs } ∧ t.get F.GATE_TEST.CH = c ∧ t.get F.GATE_TEST.T_GAP = bitsOf v.toNat 12 12 ∧ t.get F.GATE_TEST.T_ON2 = bitsOf v.toNat 0 12 ∧
      s.RegsBut [F.GATE_TEST.CH.off] t := by
  have hu := testFields_fields s v.toNat
  rw [gateTestGo_eq]
  refine goesTo_spring hlive hr ?_
  rw [confine_hull (by simp), gateTest_eq, State.flag, hu.regs.get (by decide), hu.regs.get (by decide),
    if_pos (by rcases h with h | h | h <;> simp [h])]
  exact ⟨hu.same, hu.ch.trans hc.symm, hu.gap, hu.on2, hu.regs⟩

end

/-! ### A programme ends (R154) -/

theorem testPulseProgrammeEnd_eq (dt : Nat) (s : State) : exec (.testPulseProgrammeEnd dt) s = onSpring s fun s =>
    match (s.advance dt).gate.test with
    | some q => if q.at' + q.length < (s.advance dt).now 8 then (s.advance dt).endTest ((s.advance dt).now 0) else s.advance dt
    | none => s.advance dt := rfl

/-- The programme is over: its channel is no longer commanded, and low but for soft turn-off; TEST_BUSY is 0. -/
theorem endTest_ends {s : State} {q : TestSt} (h : s.gate.test = some q) (hn : q.ch / 2 < s.gate.hbs.length) (t : Nat) (hi : Bool) : (s.endTest t).gate.test = none ∧
    (s.endTest t).get F.GATE_STATUS.TEST_BUSY = 0 ∧ (((s.endTest t).hb (q.ch / 2)).ch hi).cmd = false ∧
    (((s.hb (q.ch / 2)).ch hi).ssd = false → (((s.endTest t).hb (q.ch / 2)).ch hi).on = false) ∧ s.RegsBut [F.GATE_STATUS.TEST_BUSY.off] (s.endTest t) := by
  have hlow := hbLow_low { s with gate := { s.gate with test := none } } (q.ch / 2) t hi
  have honly := onlyHbs_hbLow { s with gate := { s.gate with test := none } } (q.ch / 2) t
  have hlen := hbs_modHb_length { s with gate := { s.gate with test := none } } (q.ch / 2) fun h => h.bothLow t
  rw [State.endTest, h]
  dsimp only
  rw [← State.hbLow] at hlen
  generalize State.hbLow { s with gate := { s.gate with test := none } } (q.ch / 2) t = u at hlow honly hlen
  have hoff : ((u.uncommand [q.ch / 2]).hb (q.ch / 2)).ch hi = { ((u.hb (q.ch / 2)).ch hi) with cmd := false } := by
    have hone : u.uncommand [q.ch / 2] = u.modHb (q.ch / 2) fun h => { h with hi := { h.hi with cmd := false }, lo := { h.lo with cmd := false } } := rfl
    rw [hone, hb_modHb_same (by rw [hlen]; exact hn)]
    cases hi <;> rfl
  have hunc := onlyHbs_uncommand u [q.ch / 2]
  generalize u.uncommand [q.ch / 2] = w at hoff hunc
  obtain ⟨l, hl⟩ := (honly.trans hunc).gate
  refine ⟨?_, State.get_set_same _ _ _ rfl, ?_, fun hs => ?_, ?_⟩
  · rw [State.set_gate, hl]
  · rw [hb_of_hbs (s := w) (by rw [State.set_gate]), hoff]
  · rw [hb_of_hbs (s := w) (by rw [State.set_gate]), hoff]
    exact hlow hs
  · exact (regsBut_trans (regsBut_hidden (t := { s with gate := { s.gate with test := none } }) _ rfl rfl rfl) ((honly.trans hunc).regs _)).set F.GATE_STATUS.TEST_BUSY 0 List.mem_cons_self

theorem testPulseProgrammeEnd_ends {s : State} {dt : Nat} {q : TestSt} (hlive : s.live = true) (hr : s.role = .spring) (htest : s.gate.test = some q) (hn : q.ch / 2 < s.gate.hbs.length)
    (ht : q.at' + q.length < 8 * (s.time.cyc + dt) + 8) (hi : Bool) :
    GoesTo (exec (.testPulseProgrammeEnd dt) s) fun t => t.gate.test = none ∧ t.get F.GATE_STATUS.TEST_BUSY = 0 ∧ ((t.hb (q.ch / 2)).ch hi).cmd = false ∧
      (((s.hb (q.ch / 2)).ch hi).ssd = false → ((t.hb (q.ch / 2)).ch hi).on = false) ∧ s.RegsBut [F.GATE_STATUS.TEST_BUSY.off] t := by
  have htest' : (s.advance dt).gate.test = some q := htest
  have hnow : (s.advance dt).now 8 = 8 * (s.time.cyc + dt) + 8 := rfl
  rw [testPulseProgrammeEnd_eq]
  refine goesTo_spring hlive hr ?_
  simp only [htest']
  rw [hnow, if_pos ht, confine_hull (by simp)]
  exact endTest_ends (s := s.advance dt) htest hn _ hi

theorem testPulseProgrammeEnd_waits {s : State} {dt : Nat} {q : TestSt} (hlive : s.live = true) (hr : s.role = .spring) (htest : s.gate.test = some q)
    (ht : 8 * (s.time.cyc + dt) + 8 ≤ q.at' + q.length) : GoesTo (exec (.testPulseProgrammeEnd dt) s) fun t => t = State.advance dt s := by
  have htest' : (s.advance dt).gate.test = some q := htest
  have hnow : (s.advance dt).now 8 = 8 * (s.time.cyc + dt) + 8 := rfl
  rw [testPulseProgrammeEnd_eq]
  refine goesTo_spring hlive hr ?_
  simp only [htest']
  rw [hnow, if_neg (Nat.not_lt.mpr ht), confine_hull (by simp)]

end Sys2Proof.Machine
end

section
/-! PROOFS. CLEAR (R135, R148, R351); every clause of O39. -/
namespace Sys2Proof.Machine

/-! ### Half-bridges changed one after another -/

/-- Each half-bridge of a list changed in its own way. -/
def State.modHbs (s : State) (ns : List Nat) (f : Nat → HbSt → HbSt) : State := ns.foldl (fun s n => s.modHb n (f n)) s

theorem onlyHbs_modHbs (s : State) (ns : List Nat) (f : Nat → HbSt → HbSt) : s.OnlyHbs (s.modHbs ns f) := .foldl (fun s n => onlyHbs_modHb s n (f n)) ns s

theorem hbs_modHbs_length (s : State) (ns : List Nat) (f : Nat → HbSt → HbSt) : (s.modHbs ns f).gate.hbs.length = s.gate.hbs.length := by
  induction ns generalizing s with
  | nil => rfl
  | cons x l ih => exact (ih _).trans (hbs_modHb_length s x (f x))

theorem hb_modHbs_other (s : State) {n : Nat} {ns : List Nat} (h : n ∉ ns) (f : Nat → HbSt → HbSt) : (s.modHbs ns f).hb n = s.hb n := by
  induction ns generalizing s with
  | nil => rfl
  | cons x l ih =>
    obtain ⟨hx, hl⟩ := List.ne_and_not_mem_of_not_mem_cons h
    exact (ih (s.modHb x (f x)) hl).trans (hb_modHb_other s hx (f x))

theorem hb_modHbs_same {s : State} {n : Nat} {ns : List Nat} (h : n ∈ ns) (hd : ns.Nodup) (hn : n < s.gate.hbs.length) (f : Nat → HbSt → HbSt) : (s.modHbs ns f).hb n = f n (s.hb n) := by
  induction ns generalizing s with
  | nil => cases h
  | cons x l ih =>
    obtain ⟨hx, hd'⟩ := List.nodup_cons.mp hd
    rcases List.mem_cons.mp h with rfl | hl
    · exact (hb_modHbs_other (s.modHb n (f n)) hx f).trans (hb_modHb_same hn (f n))
    · have hne : n ≠ x := fun e => hx (e ▸ hl)
      exact (ih (s := s.modHb x (f x)) hl hd' (by rw [hbs_modHb_length]; exact hn)).trans (by rw [hb_modHb_other s hne])

/-- A change of the six half-bridges that leaves their channels' state leaves each channel as it was. -/
theorem modHbs_on {s : State} {f : Nat → HbSt → HbSt} (hf : ∀ n h hi, ((f n h).ch hi).on = (h.ch hi).on) {n : Nat} (h6 : n < 6) (hn : n < s.gate.hbs.length) (hi : Bool) :
    (((s.modHbs (List.range 6) f).hb n).ch hi).on = ((s.hb n).ch hi).on := by
  rw [hb_modHbs_same (List.mem_range.mpr h6) List.nodup_range hn, hf]

/-- The DESAT inputs of a half-bridge. -/
def HbSt.desats (mask n : Nat) (h : HbSt) : HbSt := { h with hi := { h.hi with desat := mask.testBit (2 * n) }, lo := { h.lo with desat := mask.testBit (2 * n + 1) } }

theorem setDesat_eq (s : State) (mask : Nat) : s.setDesat mask = s.modHbs (List.range 6) (HbSt.desats mask) := rfl

/-- A half-bridge's retries and stop forgotten. -/
def HbSt.freed (_ : Nat) (h : HbSt) : HbSt := { h with retries := [], stopping := false, stopped := false, heldOnce := false }

/-! ### CLEAR (R135) -/

/-- TRIPPED, latches and BLOCK cleared, with what they kept. -/
def State.faultsCleared (s : State) : State :=
  let s := ((s.set F.GATE_STATUS.LATCHED 0).set F.GATE_STATUS.TRIPPED 0).set F.GATE_STATUS.BLOCK 0
  let s := s.modHbs (List.range 6) HbSt.freed
  { s with gate := { s.gate with cause := 0 }, spr := { s.spr with missed := 0 } }

/-- The same, reported where BLOCK was in force. -/
def State.cleared (s : State) : State := if s.blocked then s.faultsCleared.raise Ev.BLOCK_CLEARED [evNum Ev.CELL_BLOCK s.gate.cause] else s.faultsCleared

theorem opClear_eq (s : State) (c : DueCmd) : s.opClear c =
    if (List.range 6).all (fun n => !s.hbEn n || s.quiet n == 0) then s.cleared.cmdResult c resACC else s.cmdResult c resFAULT := rfl

theorem clear_eq (desat : Nat) (s : State) : exec (.clear desat) s = onSpring s fun s => (s.setDesat desat).withDue 1 State.opClear := rfl

/-- What clearing leaves: the three fields 0, no cause, no missed slots, no retries; the bypass and the channels as they were. -/
structure State.Cleared (s t : State) : Prop where
  tripped : t.get F.GATE_STATUS.TRIPPED = 0
  latched : t.get F.GATE_STATUS.LATCHED = 0
  block : t.get F.GATE_STATUS.BLOCK = 0
  cause : t.gate.cause = 0
  missed : t.spr.missed = 0
  byp : t.gate.bypCmd = s.gate.bypCmd
  retries : ∀ n < 6, n < s.gate.hbs.length → (t.hb n).retries = []
  on : ∀ n < 6, n < s.gate.hbs.length → ∀ hi, ((t.hb n).ch hi).on = ((s.hb n).ch hi).on
  regs : s.RegsBut ([F.GATE_STATUS.TRIPPED.off] ++ recCounters) t

theorem faultsCleared_cleared (s : State) : s.Cleared s.faultsCleared := by
  have hregs : s.RegsBut ([F.GATE_STATUS.TRIPPED.off] ++ recCounters) (((s.set F.GATE_STATUS.LATCHED 0).set F.GATE_STATUS.TRIPPED 0).set F.GATE_STATUS.BLOCK 0) :=
    (((regsBut_same s _).set F.GATE_STATUS.LATCHED 0 (by decide)).set F.GATE_STATUS.TRIPPED 0 (by decide)).set F.GATE_STATUS.BLOCK 0 (by decide)
  have hgate : (((s.set F.GATE_STATUS.LATCHED 0).set F.GATE_STATUS.TRIPPED 0).set F.GATE_STATUS.BLOCK 0).gate = s.gate := rfl
  have hb : (((s.set F.GATE_STATUS.LATCHED 0).set F.GATE_STATUS.TRIPPED 0).set F.GATE_STATUS.BLOCK 0).get F.GATE_STATUS.BLOCK = 0 := State.get_set_same _ _ _ rfl
  have ht : (((s.set F.GATE_STATUS.LATCHED 0).set F.GATE_STATUS.TRIPPED 0).set F.GATE_STATUS.BLOCK 0).get F.GATE_STATUS.TRIPPED = 0 := by
    rw [State.get_set_apart _ _ _ _ rfl (by decide), State.get_set_same _ _ _ rfl, Nat.zero_mod]
  have hl : (((s.set F.GATE_STATUS.LATCHED 0).set F.GATE_STATUS.TRIPPED 0).set F.GATE_STATUS.BLOCK 0).get F.GATE_STATUS.LATCHED = 0 := by
    rw [State.get_set_apart _ _ _ _ rfl (by decide), State.get_set_apart _ _ _ _ rfl (by decide), State.get_set_same _ _ _ rfl, Nat.zero_mod]
  unfold State.faultsCleared
  dsimp only
  generalize ((s.set F.GATE_STATUS.LATCHED 0).set F.GATE_STATUS.TRIPPED 0).set F.GATE_STATUS.BLOCK 0 = u at hregs hgate hb ht hl
  have honly := onlyHbs_modHbs u (List.range 6) HbSt.freed
  have hhb : ∀ n < 6, n < s.gate.hbs.length → (u.modHbs (List.range 6) HbSt.freed).hb n = HbSt.freed n (s.hb n) := fun n h6 hn => by
    rw [hb_modHbs_same (List.mem_range.mpr h6) List.nodup_range (by rw [hgate]; exact hn), hb_of_hbs (s := s) (t := u) (by rw [hgate])]
  generalize u.modHbs (List.range 6) HbSt.freed = w at honly hhb
  obtain ⟨l, hw⟩ := honly.gate
  have hhid : w.RegsBut ([F.GATE_STATUS.TRIPPED.off] ++ recCounters) { w with gate := { w.gate with cause := 0 }, spr := { w.spr with missed := 0 } } := regsBut_hidden _ rfl rfl rfl
  have hget : ∀ f, State.get { w with gate := { w.gate with cause := 0 }, spr := { w.spr with missed := 0 } } f = u.get f := fun f => honly.get f
  refine ⟨(hget _).trans ht, (hget _).trans hl, (hget _).trans hb, rfl, rfl, ?_, fun n h6 hn => ?_, fun n h6 hn hi => ?_, regsBut_trans (regsBut_trans hregs (honly.regs _)) hhid⟩
  · exact (congrArg GateSt.bypCmd hw).trans (by rw [hgate])
  · exact congrArg HbSt.retries (hhb n h6 hn)
  · refine (congrArg (fun h : HbSt => (h.ch hi).on) (hhb n h6 hn)).trans ?_
    cases hi <;> rfl

theorem State.Cleared.raise {s t : State} (h : s.Cleared t) (c : Nat) (p : List Nat) : s.Cleared (t.raise c p) := by
  have hhb : ∀ n, (t.raise c p).hb n = t.hb n := hb_of_hbs (by rw [State.raise_gate])
  refine ⟨by rw [State.raise_get _ _ _ _ rfl, h.tripped], by rw [State.raise_get _ _ _ _ rfl, h.latched], by rw [State.raise_get _ _ _ _ rfl, h.block], by rw [State.raise_gate, h.cause],
    by rw [State.raise_spr, h.missed], by rw [State.raise_gate, h.byp], fun n h6 hn => ?_, fun n h6 hn hi => ?_, h.regs.raise c p fun o ho => List.mem_append_right _ ho⟩
  · rw [hhb, h.retries n h6 hn]
  · rw [hhb, h.on n h6 hn]

theorem cleared_cleared (s : State) : s.Cleared s.cleared := by
  unfold State.cleared
  split
  · exact (faultsCleared_cleared s).raise _ _
  · exact faultsCleared_cleared s

theorem cmdResult_missed {c : DueCmd} (hsrc : c.src ≤ 15 ∨ c.src = 0xFE) (s : State) (res : Nat) : (s.cmdResult c res).spr.missed = s.spr.missed := by
  rw [cmdResult_eq hsrc]
  split
  · rfl
  · rw [State.raise_spr]
    rfl

/-- A command's record and the recorder stand apart from GATE_STATUS. -/
theorem status_notRecorded {c : DueCmd} (hsrc : c.src ≤ 15 ∨ c.src = 0xFE) {f : Fld} (hf : f.off = F.GATE_STATUS.TRIPPED.off) : f.off ∉ (F.CTL_CMD_REC.RES (cmdIdx c)).off :: recCounters := by
  have hi := cmdIdx_le hsrc
  rw [hf]
  simp only [recCounters, List.mem_cons, List.not_mem_nil, or_false, not_or]
  refine ⟨fun e => ?_, by decide, by decide⟩
  simp only [F.GATE_STATUS.TRIPPED, F.CTL_CMD_REC.RES] at e
  omega

section

variable {s : State} {desat : Nat} {c : DueCmd} (hlive : s.live = true) (hr : s.role = .spring) (hc : s.spr.cmd = some c) (ho : c.op = 1) (hsrc : c.src ≤ 15 ∨ c.src = 0xFE)
include hlive hr hc ho

/-- CLEAR acts on the command that waits, with the inputs' levels of its instant. -/
theorem clear_goes {p : State → Prop} (hp : p ((s.setDesat desat).opClear c)) : GoesTo (exec (.clear desat) s) p := by
  rw [clear_eq]
  refine goesTo_spring hlive hr ?_
  rwa [confine_hull (by simp), withDue_due (by rw [(onlyHbs_setDesat s desat).spr, hc]) ho]

include hsrc

theorem clear_clears (hq : ∀ n < 6, s.hbEn n = true → (s.setDesat desat).quiet n = 0) : GoesTo (exec (.clear desat) s) fun t =>
    t.CmdDone s c resACC ∧ t.get F.GATE_STATUS.TRIPPED = 0 ∧ t.get F.GATE_STATUS.LATCHED = 0 ∧ t.blocked = false ∧ t.spr.missed = 0 ∧ t.gate.cause = 0 ∧ t.gate.bypCmd = s.gate.bypCmd ∧
      (∀ n < 6, n < s.gate.hbs.length → (t.hb n).retries = [] ∧ (t.hb n).hi.on = (s.hb n).hi.on ∧ (t.hb n).lo.on = (s.hb n).lo.on) ∧
      s.RegsBut ([F.GATE_STATUS.TRIPPED.off, (F.CTL_CMD_REC.RES (cmdIdx c)).off] ++ recCounters) t := by
  refine clear_goes hlive hr hc ho ?_
  have honly := onlyHbs_setDesat s desat
  have hen : ∀ n, (s.setDesat desat).hbEn n = s.hbEn n := by
    obtain ⟨l, hl⟩ := honly.gate
    intro n
    rw [State.hbEn, hl, State.hbEn]
  have hlen : (s.setDesat desat).gate.hbs.length = s.gate.hbs.length := hbs_modHbs_length s _ _
  have hon : ∀ n < 6, n < s.gate.hbs.length → ∀ hi, (((s.setDesat desat).hb n).ch hi).on = ((s.hb n).ch hi).on := fun n h6 hn hi => by
    rw [setDesat_eq, modHbs_on (fun n h hi => by cases hi <;> rfl) h6 hn]
  have hall : ((List.range 6).all fun n => !(s.setDesat desat).hbEn n || (s.setDesat desat).quiet n == 0) = true := by
    rw [List.all_eq_true]
    intro n hn
    cases he : s.hbEn n with
    | false => simp [hen, he]
    | true => simp [hq n (List.mem_range.mp hn) he]
  rw [opClear_eq, if_pos hall]
  generalize s.setDesat desat = u at honly hlen hon
  have hcl := cleared_cleared u
  have hregs : s.RegsBut ([F.GATE_STATUS.TRIPPED.off] ++ recCounters) u.cleared := regsBut_trans (honly.regs _) hcl.regs
  obtain ⟨hgate, hdone, hreg⟩ := cmdResult_answers (res := resACC) hsrc (by decide) hregs (by decide)
  have hget : ∀ {f : Fld}, f.off = F.GATE_STATUS.TRIPPED.off → (u.cleared.cmdResult c resACC).get f = u.cleared.get f := fun hf => hreg.get (status_notRecorded hsrc hf)
  obtain ⟨l, hu⟩ := honly.gate
  have hhb : ∀ n, (u.cleared.cmdResult c resACC).hb n = u.cleared.hb n := hb_of_hbs (by rw [hgate])
  refine ⟨hdone, (hget (f := F.GATE_STATUS.TRIPPED) rfl).trans hcl.tripped, (hget (f := F.GATE_STATUS.LATCHED) rfl).trans hcl.latched, ?_, (cmdResult_missed hsrc _ _).trans hcl.missed, by rw [hgate, hcl.cause],
    by rw [hgate, hcl.byp, hu], fun n h6 hn => ?_, ?_⟩
  · rw [State.blocked, State.flag, hget (f := F.GATE_STATUS.BLOCK) rfl, hcl.block]
    rfl
  · rw [hhb]
    have hn' : n < u.gate.hbs.length := by rw [hlen]; exact hn
    exact ⟨hcl.retries n h6 hn', (hcl.on n h6 hn' true).trans (hon n h6 hn true), (hcl.on n h6 hn' false).trans (hon n h6 hn false)⟩
  · refine regsBut_trans (regsBut_wider hregs fun o ho => ?_) (regsBut_wider hreg fun o ho => ?_)
    · simp only [List.mem_append, List.mem_cons, List.not_mem_nil, or_false] at ho ⊢
      exact ho.imp_left .inl
    · simp only [List.mem_append, List.mem_cons, List.not_mem_nil, or_false] at ho ⊢
      exact ho.imp_left .inr

theorem clear_refused {n : Nat} (hn : n < 6) (hen : s.hbEn n = true) (hq : (s.setDesat desat).quiet n ≠ 0) : GoesTo (exec (.clear desat) s) fun t =>
    t.CmdDone s c resFAULT ∧ t.blocked = s.blocked ∧ t.get F.GATE_STATUS.TRIPPED = s.get F.GATE_STATUS.TRIPPED ∧ t.get F.GATE_STATUS.LATCHED = s.get F.GATE_STATUS.LATCHED ∧
      t.gate.cause = s.gate.cause ∧ s.RegsBut ((F.CTL_CMD_REC.RES (cmdIdx c)).off :: recCounters) t := by
  refine clear_goes hlive hr hc ho ?_
  have honly := onlyHbs_setDesat s desat
  obtain ⟨l, hu⟩ := honly.gate
  have hbad : ¬ ((List.range 6).all fun n => !(s.setDesat desat).hbEn n || (s.setDesat desat).quiet n == 0) = true := by
    rw [List.all_eq_true]
    intro hall
    have hone := hall n (List.mem_range.mpr hn)
    rw [State.hbEn, hu] at hone
    simp only [State.hbEn] at hen
    simp [hen, hq] at hone
  rw [opClear_eq, if_neg hbad]
  obtain ⟨hgate, hdone, hreg⟩ := cmdResult_answers (u := s.setDesat desat) (l := []) (res := resFAULT) hsrc (by decide) (honly.regs _) (by decide)
  have hregs := regsBut_trans (honly.regs ((F.CTL_CMD_REC.RES (cmdIdx c)).off :: recCounters)) hreg
  have hget : ∀ {f : Fld}, f.off = F.GATE_STATUS.TRIPPED.off → ((s.setDesat desat).cmdResult c resFAULT).get f = s.get f := fun hf => hregs.get (status_notRecorded hsrc hf)
  exact ⟨hdone, by rw [State.blocked, State.flag, hget (f := F.GATE_STATUS.BLOCK) rfl, State.blocked, State.flag], hget rfl, hget rfl, by rw [hgate, hu], hregs⟩

end

/-! ### O39 -/

section

variable {s : State} {dt : Nat} {c : Fin 12} {sub : Fin 8} {q : TestSt} (hlive : s.live = true) (hr : s.role = .spring) (hlen : s.gate.hbs.length = 6)
  (htest : s.gate.test = some q) (hch : q.ch = c.val) (hsafe : s.get F.CLK_PLLS_STAT.ON_SAFE = 0)
include hlive hr hlen htest hch hsafe

/-- The programme's falling edge takes its channel off, and that alone. -/
theorem programme_falls (h : q.level (8 * (s.time.cyc + dt) + sub) = false) (h' : q.level (8 * (s.time.cyc + dt) + sub - 1) = true) :
    GoesTo (exec (.commandedEdge dt c sub) s) fun t => ((t.hb (c.val / 2)).ch (c.val % 2 == 0)).cmd = false ∧
      (((s.hb (c.val / 2)).ch (c.val % 2 == 0)).ssd = false → ((t.hb (c.val / 2)).ch (c.val % 2 == 0)).on = false) ∧
      (t.hb (c.val / 2)).ch (c.val % 2 != 0) = (s.hb (c.val / 2)).ch (c.val % 2 != 0) ∧ (∀ m, m ≠ c.val / 2 → t.hb m = s.hb m) ∧ s.RegsBut [] t := by
  refine commandedEdge_test hlive hr htest hch ?_
  rw [testEdge_falls (s := s.advance dt) hsafe h h', hch]
  have hoff := offEdge_hb (s := s.advance dt) (legs_lt hlen c) (c.val % 2 == 0) (8 * (s.time.cyc + dt) + sub)
  have honly := onlyHbs_offEdge (s.advance dt) (c.val / 2) (c.val % 2 == 0) (8 * (s.time.cyc + dt) + sub)
  exact ⟨hoff.cmd, hoff.low, hoff.other, fun m hm => hb_modHb_other _ hm _, honly.regs []⟩

/-- Its rising edge, where the other channel is not commanded or the half-bridge not enabled, commands its channel, which rises where it may be driven. -/
theorem programme_rises (h : q.level (8 * (s.time.cyc + dt) + sub) = true) (h' : q.level (8 * (s.time.cyc + dt) + sub - 1) = false)
    (hfree : ((s.hb (c.val / 2)).ch (c.val % 2 != 0)).cmd = false ∨ s.hbEn (c.val / 2) = false) :
    GoesTo (exec (.commandedEdge dt c sub) s) fun t => ((t.hb (c.val / 2)).ch (c.val % 2 == 0)).cmd = true ∧
      (s.mayDrive (c.val / 2) = true → (State.advance dt s).riseAt (c.val / 2) (c.val % 2 == 0) (8 * (s.time.cyc + dt) + sub) < 8 * (s.time.cyc + dt) + sub + q.left (8 * (s.time.cyc + dt) + sub) →
        ((t.hb (c.val / 2)).ch (c.val % 2 == 0)).on = true) ∧
      (s.mayDrive (c.val / 2) = false → ((t.hb (c.val / 2)).ch (c.val % 2 == 0)).on = ((s.hb (c.val / 2)).ch (c.val % 2 == 0)).on) ∧
      (t.hb (c.val / 2)).ch (c.val % 2 != 0) = (s.hb (c.val / 2)).ch (c.val % 2 != 0) ∧ (∀ m, m ≠ c.val / 2 → t.hb m = s.hb m) ∧ s.RegsBut [] t := by
  refine commandedEdge_test hlive hr htest hch ?_
  have hno : ((((s.advance dt).hb (q.ch / 2)).ch (!(q.ch % 2 == 0))).cmd && (s.advance dt).hbEn (q.ch / 2)) = false := by
    rw [hch, Bool.and_eq_false_iff]
    exact hfree
  rw [testEdge_up (s := s.advance dt) hsafe h h', hno, if_neg Bool.false_ne_true, hch]
  have hn : c.val / 2 < (s.advance dt).gate.hbs.length := legs_lt hlen c
  obtain ⟨hother, hcmd, -, -⟩ := onEdge_hb hn (c.val % 2 == 0) (8 * (s.time.cyc + dt) + sub) (q.left (8 * (s.time.cyc + dt) + sub))
  have honly := onlyHbs_onEdge (s.advance dt) (c.val / 2) (c.val % 2 == 0) (8 * (s.time.cyc + dt) + sub) (q.left (8 * (s.time.cyc + dt) + sub))
  exact ⟨hcmd, fun hm hlt => onEdge_rises hn _ _ _ hm hlt, fun hm => onEdge_kept hn _ _ _ hm, hother, fun m hm => onEdge_others _ hm _ _ _, honly.regs []⟩

omit hlen in
/-- Its rising edge against the other commanded channel of an enabled half-bridge is a CONFLICT. -/
theorem programme_conflicts (h : q.level (8 * (s.time.cyc + dt) + sub) = true) (h' : q.level (8 * (s.time.cyc + dt) + sub - 1) = false)
    (hcmd : ((s.hb (c.val / 2)).ch (c.val % 2 != 0)).cmd = true) (hen : s.hbEn (c.val / 2) = true) (hconf : s.inConflict (c.val / 2) = false) :
    GoesTo (exec (.commandedEdge dt c sub) s) fun t => t.inConflict (c.val / 2) = true ∧ ((s.hb (c.val / 2)).hi.ssd = false → (t.hb (c.val / 2)).hi.on = false) ∧
      ((s.hb (c.val / 2)).lo.ssd = false → (t.hb (c.val / 2)).lo.on = false) ∧
      t.get (F.GATE_CNT.CONFLICT_CNT (c.val / 2)) = min (s.get (F.GATE_CNT.CONFLICT_CNT (c.val / 2)) + 1) 0xFFFF := by
  refine commandedEdge_test hlive hr htest hch ?_
  have hyes : ((((s.advance dt).hb (q.ch / 2)).ch (!(q.ch % 2 == 0))).cmd && (s.advance dt).hbEn (q.ch / 2)) = true := by
    rw [hch, Bool.and_eq_true]
    exact ⟨hcmd, hen⟩
  rw [testEdge_up (s := s.advance dt) hsafe h h', if_pos hyes, hch]
  have hin := conflict_inConflict (s := s.advance dt) (n := ⟨c.val / 2, by omega⟩) hconf (8 * (s.time.cyc + dt) + sub)
  exact ⟨hin.flag, hin.low true, hin.low false, hin.count⟩

omit hlen hsafe in
theorem programme_rests (h : q.level (8 * (s.time.cyc + dt) + sub) = q.level (8 * (s.time.cyc + dt) + sub - 1)) : GoesTo (exec (.commandedEdge dt c sub) s) fun t => t = State.advance dt s :=
  commandedEdge_test hlive hr htest hch (testEdge_rests h)

end

/-- Settles O39. GO while a programme runs is rejected, and a channel above 11 keeps GATE_TEST.CH as it was: both are log entry 38. -/
theorem edgesAndClear : Obligations.EdgesAndClear := by
  unfold Obligations.EdgesAndClear
  refine ⟨fun s dt c sub hlive hr hlen htest => ⟨fun w hw hsince hshort hcmd => ?_, commandedEdge_rests hlive hr htest⟩,
    fun s dt c sub q hlive hr hlen htest hch hsafe => ⟨programme_falls hlive hr hlen htest hch hsafe,
      fun h h' => ⟨programme_rises hlive hr hlen htest hch hsafe h h', programme_conflicts hlive hr htest hch hsafe h h'⟩, programme_rests hlive hr htest hch⟩,
    fun s v c hlive hr hlen hc hc11 => ⟨fun hgo hen hon => ⟨fun h => ?_, fun h => ?_⟩, gateTestGo_discards hlive hr hc⟩,
    fun s dt q hlive hr htest hn => ⟨fun ht => testPulseProgrammeEnd_ends hlive hr htest hn ht _, testPulseProgrammeEnd_waits hlive hr htest⟩,
    fun s desat c hlive hr hcmd ho hsrc => ⟨clear_clears hlive hr hcmd ho hsrc, fun n hn hen hq => clear_refused hlive hr hcmd ho hsrc hn hen hq⟩⟩
  · have hn : c.val / 2 < (s.advance dt).gate.hbs.length := legs_lt hlen c
    have hleft : 0 < w.left := by
      simp only [State.tooShort, Bool.or_eq_false_iff, decide_eq_false_iff_not, not_lt] at hshort
      omega
    have hgoes : ∀ {p : State → Prop}, p ((s.advance dt).legEdge (c.val / 2) w.hi (8 * (s.time.cyc + dt) + sub) w.left) → GoesTo (exec (.commandedEdge dt c sub) s) p :=
      commandedEdge_crosses hlive hr hlen htest hw hsince hshort hcmd
    refine ⟨hgoes ?_, fun hm hst hon => hgoes (legEdge_rises hn w.hi _ w.left hleft hm hst hon), fun hm => hgoes (legEdge_kept hn w.hi _ w.left hm)⟩
    obtain ⟨h1, h2, h3, h4, h5⟩ := legEdge_levels hn w.hi (8 * (s.time.cyc + dt) + sub) w.left
    exact ⟨h1, h2, h3, h4, h5, fun m hm => legEdge_others _ hm _ _ _, (onlyHbs_legEdge (s.advance dt) _ _ _ _).regs []⟩
  · obtain ⟨h1, h2, h3, h4, h5, h6, h7, h8, h9⟩ := h
    exact gateTestGo_starts hlive hr hc hlen hc11 hgo hen hon (testBad_zero.mpr ⟨h1, h2, h3, h4, h5, h6, h7, h8⟩) h9
  · refine gateTestGo_rejects hlive hr hc hgo hen hon ?_
    rintro ⟨hbad, htest⟩
    obtain ⟨h1, h2, h3, h4, h5, h6, h7, h8⟩ := testBad_zero.mp hbad
    rcases h with h | h | ⟨x, hx, h⟩ | h | h | h | h | h | h
    · exact h h1
    · simp [h2] at h
    · simp [h3 x hx] at h
    · simp [h4] at h
    · exact h h5
    · exact h h6
    · simp [h7] at h
    · simp [h8] at h
    · exact h htest

end Sys2Proof.Machine
end

section
/-! PROOFS. Triggers, delays and ends of converter runs, and comparators (R166 to R171, R174, R175, R311); every clause of O12. -/
namespace Sys2Proof.Machine

/-! ### Units -/

theorem unit_modUnit_same {s : State} {n : Nat} (h : n < s.adc.units.length) (f : AdcUnit → AdcUnit) : (s.modUnit n f).unit n = f (s.unit n) := by
  simp [State.modUnit, State.setUnit, State.unit, h]

theorem unit_modUnit_other (s : State) {n m : Nat} (h : m ≠ n) (f : AdcUnit → AdcUnit) : (s.modUnit n f).unit m = s.unit m := by
  simp [State.modUnit, State.setUnit, State.unit, h.symm]

@[simp] theorem units_modUnit_length (s : State) (n : Nat) (f : AdcUnit → AdcUnit) : (s.modUnit n f).adc.units.length = s.adc.units.length := by
  simp [State.modUnit, State.setUnit]

theorem unit_congr {s t : State} (h : t.adc = s.adc) (n : Nat) : t.unit n = s.unit n := by rw [State.unit, h, State.unit]

@[simp] theorem set_unit (s : State) (f : Fld) (v n : Nat) : (s.set f v).unit n = s.unit n := (rfl)

@[simp] theorem inc_unit (s : State) (f : Fld) (n : Nat) : (s.inc f).unit n = s.unit n := (rfl)

@[simp] theorem raise_unit (s : State) (c : Nat) (p : List Nat) (n : Nat) : (s.raise c p).unit n = s.unit n := unit_congr (State.raise_adc s c p) n

theorem State.RegsBut.modUnit {s t : State} {l : List Nat} (h : s.RegsBut l t) (n : Nat) (f : AdcUnit → AdcUnit) : s.RegsBut l (t.modUnit n f) := h

@[simp] theorem modUnit_get (s : State) (n : Nat) (f : AdcUnit → AdcUnit) (g : Fld) : (s.modUnit n f).get g = s.get g := (rfl)

@[simp] theorem seeFlag_get (s : State) (n bit : Nat) (g : Fld) : (s.seeFlag n bit).get g = s.get g := (rfl)

/-- What a unit's flags have seen is apart from its run and its triggers. -/
theorem seeFlag_unit {s : State} {n : Nat} (hn : n < s.adc.units.length) (bit : Nat) : (s.seeFlag n bit).unit n = { s.unit n with seen := (s.unit n).seen ||| 2 ^ bit } :=
  unit_modUnit_same hn _

/-! ### What a run copies (R166) -/

/-- The registers in which a unit tells and counts its runs and triggers, and the recorder's counters. -/
def tallyRegs (n : Nat) : List Nat :=
  [(F.ADC_STAT.RUNNING n).off, (F.ADC_TRIG_CNT.COUNT n).off, (F.ADC_RUN_CNT.COUNT n).off, (F.ADC_RESTART_CNT.COUNT n).off] ++ recCounters

/-- A register that a run copies is none of them. -/
theorem copied_notTally (n : Nat) {m k : Nat} (hk : k < 32) : (F.ADC_CTRL.LEN m).off ∉ tallyRegs n ∧ (F.ADC_TRIG_CFG.DELAY m).off ∉ tallyRegs n ∧ (F.ADC_SEQ.INPUT n k).off ∉ tallyRegs n := by
  simp only [tallyRegs, recCounters, List.mem_append, List.mem_cons, List.not_mem_nil, or_false, not_or, F.ADC_CTRL.LEN, F.ADC_TRIG_CFG.DELAY, F.ADC_SEQ.INPUT, F.ADC_STAT.RUNNING,
    F.ADC_TRIG_CNT.COUNT, F.ADC_RUN_CNT.COUNT, F.ADC_RESTART_CNT.COUNT, F.REC_LOST_CNT.COUNT, F.REC_SUPP_CNT.COUNT]
  omega

/-- A second state in which unit `n`'s runs copy what they copy in the first: it differs in the unit's tallies and in hidden state that no copy reads. -/
structure State.Copies (n : Nat) (s t : State) : Prop where
  role : t.role = s.role
  side : t.side = s.side
  time : t.time = s.time
  before : t.adc.before = s.adc.before
  regs : s.RegsBut (tallyRegs n) t

namespace State.Copies

theorem same (s : State) (n : Nat) : s.Copies n s := ⟨rfl, rfl, rfl, rfl, regsBut_same s _⟩

variable {s t : State} {n : Nat} (h : s.Copies n t)
include h

theorem set (f : Fld) (v : Nat) (hf : f.off ∈ tallyRegs n) : s.Copies n (t.set f v) := ⟨h.role, h.side, h.time, h.before, h.regs.set f v hf⟩

theorem inc (f : Fld) (hf : f.off ∈ tallyRegs n) : s.Copies n (t.inc f) := h.set f _ hf

theorem modUnit (m : Nat) (f : AdcUnit → AdcUnit) : s.Copies n (t.modUnit m f) := ⟨h.role, h.side, h.time, h.before, h.regs⟩

theorem raise (c : Nat) (p : List Nat) : s.Copies n (t.raise c p) :=
  ⟨by rw [State.raise_role, h.role], by rw [State.raise_side, h.side], by rw [State.raise_time, h.time], by rw [State.raise_adc, h.before],
    h.regs.raise c p fun _ ho => List.mem_append_right _ ho⟩

theorem now (k : Nat) : t.now k = s.now k := by rw [State.now, h.time, State.now]

theorem adcGet {f : Fld} (hf : f.off ∉ tallyRegs n) : t.adcGet f = s.adcGet f := by
  rw [State.adcGet, State.adcGet, h.before, h.now, h.role, h.side, h.regs.get hf]

theorem runEntries : t.runEntries n = s.runEntries n := by
  have hlen : s.adcGet (F.ADC_CTRL.LEN n) < 32 := by
    unfold State.adcGet
    split
    · split
      · exact bitsOf_lt _ _ _
      · exact State.get_lt s _
    · exact State.get_lt s _
  obtain ⟨hctrl, -, -⟩ := copied_notTally n (m := n) (k := 0) (by decide)
  rw [State.runEntries, State.runEntries, h.adcGet hctrl]
  refine List.map_congr_left fun m hm => ?_
  obtain ⟨-, -, hseq⟩ := copied_notTally n (m := n) (Nat.lt_trans (List.mem_range.mp hm) hlen)
  exact h.adcGet hseq

end State.Copies

/-! ### A run accepted (R166, R169, R311) -/

/-- The run that a trigger starts: its copies, and the window in which its sampling begins. -/
def State.newRun (s : State) (n : Nat) (x : AdcTrig) (held : Bool) (from' : Nat) : AdcRun :=
  let trig := s.adcGet ⟨(F.ADC_TRIG_CFG.DELAY n).off, 0, 32⟩
  let due := x.at' + 40 * (trig % 65536)
  { entries := s.runEntries n, trig := trig, tick := x.tick, held := held, lo := max (if x.sched then due - 10 else due + 100) from',
    hi := max (if x.sched then due + 10 else due + 150 + (if x.go then 150 else 0)) from' }

theorem State.Copies.newRun {s t : State} {n : Nat} (h : s.Copies n t) (x : AdcTrig) (held : Bool) (from' : Nat) : t.newRun n x held from' = s.newRun n x held from' := by
  obtain ⟨-, htrig, -⟩ := copied_notTally n (m := n) (k := 0) (by decide)
  have e : t.adcGet ⟨(F.ADC_TRIG_CFG.DELAY n).off, 0, 32⟩ = s.adcGet ⟨(F.ADC_TRIG_CFG.DELAY n).off, 0, 32⟩ := h.adcGet htrig
  rw [State.newRun, State.newRun, h.runEntries, e]

theorem accept_starts {s : State} {n : Nat} (he : s.runEntries n ≠ []) (x : AdcTrig) (held : Bool) (from' : Nat) :
    s.accept n x held from' = (s.modUnit n fun u => { u with run := some (s.newRun n x held from') }).set (F.ADC_STAT.RUNNING n) 1 := by
  unfold State.accept
  rw [if_neg (by simpa using he)]
  rfl

theorem accept_idles {s : State} {n : Nat} (he : s.runEntries n = []) (x : AdcTrig) (held : Bool) (from' : Nat) :
    s.accept n x held from' = (s.modUnit n fun u => { u with run := none }).set (F.ADC_STAT.RUNNING n) 0 := by
  unfold State.accept
  rw [if_pos (by simpa using he)]

/-! ### A trigger meets a unit (R167, R170, R171) -/

theorem counted_copies (s : State) (n : Nat) : s.Copies n (s.inc (F.ADC_TRIG_CNT.COUNT n)) := (State.Copies.same s n).inc _ (by simp [tallyRegs])

theorem counted_policy (s : State) (n : Nat) : (s.inc (F.ADC_TRIG_CNT.COUNT n)).adcGet (F.ADC_CTRL.POLICY n) = s.adcGet (F.ADC_CTRL.POLICY n) := by
  obtain ⟨hctrl, -, -⟩ := copied_notTally n (m := n) (k := 0) (by decide)
  exact (counted_copies s n).adcGet (f := F.ADC_CTRL.POLICY n) hctrl

theorem counted_regs (s : State) (n : Nat) : s.RegsBut [(F.ADC_TRIG_CNT.COUNT n).off] (s.inc (F.ADC_TRIG_CNT.COUNT n)) := (regsBut_same s _).inc _ List.mem_cons_self

section

variable {s : State} {n : Nat} {x : AdcTrig} {vs : List Int} (hcal : s.flag (F.ADC_STAT.CAL_BUSY n) = false) (hsafe : s.flag F.CLK_PLLS_STAT.ON_SAFE = false)
include hcal hsafe

/-- Counting the trigger leaves the unit free to take it. -/
theorem counted_free : (s.inc (F.ADC_TRIG_CNT.COUNT n)).flag (F.ADC_STAT.CAL_BUSY n) = false ∧ (s.inc (F.ADC_TRIG_CNT.COUNT n)).flag F.CLK_PLLS_STAT.ON_SAFE = false := by
  refine ⟨((counted_regs s n).flag ?_).trans hcal, ((counted_regs s n).flag ?_).trans hsafe⟩
  · simp only [F.ADC_STAT.CAL_BUSY, F.ADC_TRIG_CNT.COUNT, List.mem_singleton]
    omega
  · simp only [F.CLK_PLLS_STAT.ON_SAFE, F.ADC_TRIG_CNT.COUNT, List.mem_singleton]
    omega

theorem trigger_idle (hrun : (s.unit n).run = none) : s.trigger n x vs = (s.inc (F.ADC_TRIG_CNT.COUNT n)).accept n x false 0 := by
  obtain ⟨hc, hs⟩ := counted_free hcal hsafe
  have hrun' : ((s.inc (F.ADC_TRIG_CNT.COUNT n)).unit n).run = none := hrun
  simp only [State.trigger, hc, hs, hrun', Bool.false_eq_true, if_false]

variable {r : AdcRun} (hrun : (s.unit n).run = some r)
include hrun

/-- Under HOLD a trigger during a run is held, or one too many is counted (R170). -/
theorem trigger_hold (hpol : s.adcGet (F.ADC_CTRL.POLICY n) = 0) : s.trigger n x vs =
    let u := s.inc (F.ADC_TRIG_CNT.COUNT n)
    if s.flag (F.ADC_STAT.PENDING n) then
      let v := (u.inc (F.ADC_TRIG_OVR.COUNT n)).seeFlag n seenTRIGOVR
      if (v.unit n).overRun then v else (v.modUnit n (fun u => { u with overRun := true })).raise Ev.TRIG_OVERRUN [n, v.get (F.ADC_TRIG_OVR.COUNT n)]
    else (u.modUnit n (fun u => { u with pend := some x })).set (F.ADC_STAT.PENDING n) 1 := by
  obtain ⟨hc, hs⟩ := counted_free hcal hsafe
  have hrun' : ((s.inc (F.ADC_TRIG_CNT.COUNT n)).unit n).run = some r := hrun
  have hpol' : (s.inc (F.ADC_TRIG_CNT.COUNT n)).adcGet (F.ADC_CTRL.POLICY n) = 0 := (counted_policy s n).trans hpol
  have hp : (s.inc (F.ADC_TRIG_CNT.COUNT n)).flag (F.ADC_STAT.PENDING n) = s.flag (F.ADC_STAT.PENDING n) := (counted_regs s n).flag (by
    simp only [F.ADC_STAT.PENDING, F.ADC_TRIG_CNT.COUNT, List.mem_singleton]
    omega)
  simp only [State.trigger, hc, hs, hrun', hpol', hp, Bool.false_eq_true, if_false, Nat.zero_ne_one]

/-- Under RESTART a trigger during the delay starts the run afresh (R171). -/
theorem trigger_restart (hdelay : r.sampling = false) (hpol : s.adcGet (F.ADC_CTRL.POLICY n) = 1) : s.trigger n x vs =
    (((s.inc (F.ADC_TRIG_CNT.COUNT n)).inc (F.ADC_RESTART_CNT.COUNT n)).raise Ev.SEQ_RESTART [n, 0]).accept n x false 0 := by
  obtain ⟨hc, hs⟩ := counted_free hcal hsafe
  have hrun' : ((s.inc (F.ADC_TRIG_CNT.COUNT n)).unit n).run = some r := hrun
  have hpol' : (s.inc (F.ADC_TRIG_CNT.COUNT n)).adcGet (F.ADC_CTRL.POLICY n) = 1 := (counted_policy s n).trans hpol
  simp only [State.trigger, hc, hs, hrun', hpol', hdelay, Bool.false_eq_true, if_false, if_true]

end

/-! ### A trigger arrives (R174) -/

/-- A TICK trigger takes the number of its measurement instant. -/
def AdcTrig.numbered (x : AdcTrig) (u : AdcUnit) : AdcTrig := if x.tick.isSome then { x with tick := some (u.ticks + 1) } else x

/-- The unit has noted a trigger. -/
def State.noted (s : State) (n : Nat) (x : AdcTrig) : State :=
  s.modUnit n fun u => { u with lastCyc := some (x.at' / adcCycle), ticks := if x.tick.isSome then u.ticks + 1 else u.ticks, final := if x.tick.isSome then 0 else u.final }

theorem noted_copies (s : State) (n : Nat) (x : AdcTrig) : s.Copies n (s.noted n x) := (State.Copies.same s n).modUnit n _

theorem numbered_at (x : AdcTrig) (u : AdcUnit) : (x.numbered u).at' = x.at' ∧ (x.numbered u).sched = x.sched ∧ (x.numbered u).go = x.go := by
  unfold AdcTrig.numbered
  split <;> exact ⟨rfl, rfl, rfl⟩

theorem numbered_none {x : AdcTrig} (h : x.tick = none) (u : AdcUnit) : x.numbered u = x := by
  rw [AdcTrig.numbered, h]
  rfl

/-- The first trigger of its ADC cycle meets the unit at once, unless the run it comes upon waits for its last result. -/
theorem arrive_meets {s : State} {n : Nat} {x : AdcTrig} (vs : List Int) (hlast : (s.unit n).lastCyc ≠ some (x.at' / adcCycle))
    (hrun : ∀ r, (s.unit n).run = some r → r.sampling = false ∨ r.done ≠ r.entries.length ∧ s.adcGet (F.ADC_CTRL.POLICY n) = 0) :
    s.arrive n x vs = (s.noted n (x.numbered (s.unit n))).trigger n (x.numbered (s.unit n)) vs := by
  have hat : (if x.tick.isSome = true then { x with tick := some ((s.unit n).ticks + 1) } else x) = x.numbered (s.unit n) := rfl
  have hlast' : ((s.unit n).lastCyc == some (x.at' / adcCycle)) = false := by simpa using hlast
  unfold State.arrive
  simp only [hlast', Bool.false_eq_true, if_false, hat]
  obtain ⟨hat', -, -⟩ := numbered_at x (s.unit n)
  rw [← hat']
  change (if _ then _ else (s.noted n (x.numbered (s.unit n))).trigger n (x.numbered (s.unit n)) vs) = _
  cases hr : (s.unit n).run with
  | none => rw [if_neg Bool.false_ne_true]
  | some r =>
    refine if_neg ?_
    change ¬ (r.sampling && (r.done == r.entries.length || (s.adcGet (F.ADC_CTRL.POLICY n) == 1 && _) && _)) = true
    rcases hrun r hr with h | ⟨hd, hp⟩
    · simp [h]
    · simp [hd, hp]

/-! ### What a trigger leaves -/

/-- The counter of triggers has counted one. -/
theorem counted_count {s t : State} {n : Nat} {l : List Nat} (h : (s.inc (F.ADC_TRIG_CNT.COUNT n)).RegsBut l t) (hl : (F.ADC_TRIG_CNT.COUNT n).off ∉ l) :
    t.get (F.ADC_TRIG_CNT.COUNT n) = min (s.get (F.ADC_TRIG_CNT.COUNT n) + 1) (2 ^ (F.ADC_TRIG_CNT.COUNT n).w - 1) :=
  (h.get hl).trans (inc_get_sat s rfl)

/-- What the clauses say of a run that has started. -/
structure State.RunStarts (s : State) (n : Nat) (r : AdcRun) (t : State) : Prop where
  running : t.get (F.ADC_STAT.RUNNING n) = 1
  count : t.get (F.ADC_TRIG_CNT.COUNT n) = min (s.get (F.ADC_TRIG_CNT.COUNT n) + 1) (2 ^ (F.ADC_TRIG_CNT.COUNT n).w - 1)
  regs : s.RegsBut [(F.ADC_STAT.RUNNING n).off, (F.ADC_TRIG_CNT.COUNT n).off] t
  run : (t.unit n).run = some r

theorem tally_apart (n : Nat) : (F.ADC_STAT.RUNNING n).off ≠ (F.ADC_TRIG_CNT.COUNT n).off ∧ (F.ADC_STAT.RUNNING n).off ≠ (F.ADC_RUN_CNT.COUNT n).off ∧
    (F.ADC_STAT.RUNNING n).off ≠ (F.ADC_RESTART_CNT.COUNT n).off ∧ (F.ADC_STAT.RUNNING n).off ≠ (F.ADC_TRIG_OVR.COUNT n).off := by
  simp only [F.ADC_STAT.RUNNING, F.ADC_TRIG_CNT.COUNT, F.ADC_RUN_CNT.COUNT, F.ADC_RESTART_CNT.COUNT, F.ADC_TRIG_OVR.COUNT]
  omega

section

variable {s : State} {n : Nat} {x : AdcTrig} {vs : List Int} (hcal : s.flag (F.ADC_STAT.CAL_BUSY n) = false) (hsafe : s.flag F.CLK_PLLS_STAT.ON_SAFE = false)
  (hn : n < s.adc.units.length)
include hcal hsafe hn

theorem trigger_starts (hrun : (s.unit n).run = none) (he : s.runEntries n ≠ []) : s.RunStarts n (s.newRun n x false 0) (s.trigger n x vs) := by
  have hc := counted_copies s n
  obtain ⟨hap, -, -, -⟩ := tally_apart n
  rw [trigger_idle hcal hsafe hrun, accept_starts (by rw [hc.runEntries]; exact he), hc.newRun]
  have hr : (s.inc (F.ADC_TRIG_CNT.COUNT n)).RegsBut [(F.ADC_STAT.RUNNING n).off]
      (((s.inc (F.ADC_TRIG_CNT.COUNT n)).modUnit n fun u => { u with run := some (s.newRun n x false 0) }).set (F.ADC_STAT.RUNNING n) 1) :=
    ((regsBut_same _ _).modUnit n _).set _ _ List.mem_cons_self
  refine ⟨State.get_set_same _ _ _ rfl, counted_count hr (by simpa using hap.symm), regsBut_trans (regsBut_wider (counted_regs s n) (by simp)) (regsBut_wider hr (by simp)), ?_⟩
  rw [set_unit, unit_modUnit_same (s := s.inc (F.ADC_TRIG_CNT.COUNT n)) hn]

/-- At a unit without a sequence a trigger is counted, and nothing starts (R167). -/
theorem trigger_counts (hrun : (s.unit n).run = none) (he : s.runEntries n = []) : (s.trigger n x vs).get (F.ADC_STAT.RUNNING n) = 0 ∧ ((s.trigger n x vs).unit n).run = none ∧
    (s.trigger n x vs).get (F.ADC_TRIG_CNT.COUNT n) = min (s.get (F.ADC_TRIG_CNT.COUNT n) + 1) (2 ^ (F.ADC_TRIG_CNT.COUNT n).w - 1) ∧
    s.RegsBut [(F.ADC_STAT.RUNNING n).off, (F.ADC_TRIG_CNT.COUNT n).off] (s.trigger n x vs) := by
  have hc := counted_copies s n
  obtain ⟨hap, -, -, -⟩ := tally_apart n
  rw [trigger_idle hcal hsafe hrun, accept_idles (by rw [hc.runEntries]; exact he)]
  have hr : (s.inc (F.ADC_TRIG_CNT.COUNT n)).RegsBut [(F.ADC_STAT.RUNNING n).off]
      (((s.inc (F.ADC_TRIG_CNT.COUNT n)).modUnit n fun u => { u with run := none }).set (F.ADC_STAT.RUNNING n) 0) :=
    ((regsBut_same _ _).modUnit n _).set _ _ List.mem_cons_self
  refine ⟨State.get_set_same _ _ _ rfl, ?_, counted_count hr (by simpa using hap.symm), regsBut_trans (regsBut_wider (counted_regs s n) (by simp)) (regsBut_wider hr (by simp))⟩
  rw [set_unit, unit_modUnit_same (s := s.inc (F.ADC_TRIG_CNT.COUNT n)) hn]

variable {r : AdcRun} (hrun : (s.unit n).run = some r)
include hrun

/-- The first trigger during a run is held PENDING (R170). -/
theorem trigger_pends (hpol : s.adcGet (F.ADC_CTRL.POLICY n) = 0) (hp : s.flag (F.ADC_STAT.PENDING n) = false) : ((s.trigger n x vs).unit n).run = some r ∧
    (s.trigger n x vs).get (F.ADC_STAT.PENDING n) = 1 ∧ ((s.trigger n x vs).unit n).pend = some x ∧
    s.RegsBut [(F.ADC_STAT.RUNNING n).off, (F.ADC_TRIG_CNT.COUNT n).off] (s.trigger n x vs) := by
  rw [trigger_hold hcal hsafe hrun hpol]
  simp only [hp, Bool.false_eq_true, if_false]
  have hu := unit_modUnit_same (s := s.inc (F.ADC_TRIG_CNT.COUNT n)) hn fun u => { u with pend := some x }
  rw [set_unit, hu]
  refine ⟨hrun, State.get_set_same _ _ _ rfl, rfl, ?_⟩
  exact ((regsBut_wider (counted_regs s n) (by simp)).modUnit n _).set _ _ List.mem_cons_self

/-- A further one is counted in TRIG_OVR (R170). -/
theorem trigger_overruns (hpol : s.adcGet (F.ADC_CTRL.POLICY n) = 0) (hp : s.flag (F.ADC_STAT.PENDING n) = true) : ((s.trigger n x vs).unit n).run = some r ∧
    (s.trigger n x vs).get (F.ADC_TRIG_OVR.COUNT n) = min (s.get (F.ADC_TRIG_OVR.COUNT n) + 1) (2 ^ (F.ADC_TRIG_OVR.COUNT n).w - 1) ∧
    ((s.trigger n x vs).unit n).pend = (s.unit n).pend ∧ s.RegsBut ([(F.ADC_TRIG_OVR.COUNT n).off, (F.ADC_TRIG_CNT.COUNT n).off] ++ recCounters) (s.trigger n x vs) := by
  rw [trigger_hold hcal hsafe hrun hpol]
  simp only [hp, if_true]
  have hcnt : ((s.inc (F.ADC_TRIG_CNT.COUNT n)).inc (F.ADC_TRIG_OVR.COUNT n)).get (F.ADC_TRIG_OVR.COUNT n) = min (s.get (F.ADC_TRIG_OVR.COUNT n) + 1) (2 ^ (F.ADC_TRIG_OVR.COUNT n).w - 1) :=
    inc_get_of rfl ((counted_regs s n).get (by simp [F.ADC_TRIG_OVR.COUNT, F.ADC_TRIG_CNT.COUNT]))
  have hregs : s.RegsBut ([(F.ADC_TRIG_OVR.COUNT n).off, (F.ADC_TRIG_CNT.COUNT n).off] ++ recCounters) ((s.inc (F.ADC_TRIG_CNT.COUNT n)).inc (F.ADC_TRIG_OVR.COUNT n)) :=
    (regsBut_wider (counted_regs s n) (by simp)).inc (F.ADC_TRIG_OVR.COUNT n) (by simp)
  have hadc : ((s.inc (F.ADC_TRIG_CNT.COUNT n)).inc (F.ADC_TRIG_OVR.COUNT n)).adc = s.adc := rfl
  generalize (s.inc (F.ADC_TRIG_CNT.COUNT n)).inc (F.ADC_TRIG_OVR.COUNT n) = v at hcnt hregs hadc ⊢
  have hlen : n < v.adc.units.length := by rw [hadc]; exact hn
  have hv := seeFlag_unit hlen seenTRIGOVR
  rw [unit_congr hadc] at hv
  split
  · refine ⟨?_, ?_, ?_, hregs.modUnit n _⟩
    · rw [hv, hrun]
    · rw [seeFlag_get, hcnt]
    · rw [hv]
  · have hw := unit_modUnit_same (s := v.seeFlag n seenTRIGOVR) (by rw [State.seeFlag, units_modUnit_length]; exact hlen) fun u => { u with overRun := true }
    rw [hv] at hw
    have hq : (F.ADC_TRIG_OVR.COUNT n).quiet = true := by
      simp only [Fld.quiet, F.ADC_TRIG_OVR.COUNT, F.REC_LOST_CNT.COUNT, F.REC_SUPP_CNT.COUNT, Bool.and_eq_true, bne_iff_ne, ne_eq]
      omega
    refine ⟨?_, ?_, ?_, ((hregs.modUnit n _).modUnit n _).raise _ _ fun _ ho => List.mem_append_right _ ho⟩
    · rw [raise_unit, hw, hrun]
    · rw [State.raise_get _ _ _ _ hq, modUnit_get, seeFlag_get, hcnt]
    · rw [raise_unit, hw]

/-- Under RESTART a trigger during the delay starts the run afresh, and counts it (R171). -/
theorem trigger_restarts (h4 : n < 4) (hdelay : r.sampling = false) (hpol : s.adcGet (F.ADC_CTRL.POLICY n) = 1) (he : s.runEntries n ≠ []) :
    (s.trigger n x vs).get (F.ADC_RESTART_CNT.COUNT n) = min (s.get (F.ADC_RESTART_CNT.COUNT n) + 1) (2 ^ (F.ADC_RESTART_CNT.COUNT n).w - 1) ∧
      (s.trigger n x vs).get (F.ADC_STAT.RUNNING n) = 1 ∧ ((s.trigger n x vs).unit n).run = some (s.newRun n x false 0) := by
  have hcop : s.Copies n (((s.inc (F.ADC_TRIG_CNT.COUNT n)).inc (F.ADC_RESTART_CNT.COUNT n)).raise Ev.SEQ_RESTART [n, 0]) :=
    ((counted_copies s n).inc (F.ADC_RESTART_CNT.COUNT n) (by simp [tallyRegs])).raise _ _
  have hq : (F.ADC_RESTART_CNT.COUNT n).quiet = true := by
    simp only [Fld.quiet, F.ADC_RESTART_CNT.COUNT, F.REC_LOST_CNT.COUNT, F.REC_SUPP_CNT.COUNT, Bool.and_eq_true, bne_iff_ne, ne_eq]
    omega
  have hcnt : (((s.inc (F.ADC_TRIG_CNT.COUNT n)).inc (F.ADC_RESTART_CNT.COUNT n)).raise Ev.SEQ_RESTART [n, 0]).get (F.ADC_RESTART_CNT.COUNT n) =
      min (s.get (F.ADC_RESTART_CNT.COUNT n) + 1) (2 ^ (F.ADC_RESTART_CNT.COUNT n).w - 1) :=
    (State.raise_get _ _ _ _ hq).trans (inc_get_of rfl ((counted_regs s n).get (by simp [F.ADC_RESTART_CNT.COUNT, F.ADC_TRIG_CNT.COUNT])))
  have hlen : n < (((s.inc (F.ADC_TRIG_CNT.COUNT n)).inc (F.ADC_RESTART_CNT.COUNT n)).raise Ev.SEQ_RESTART [n, 0]).adc.units.length := by
    rw [State.raise_adc]
    exact hn
  obtain ⟨-, -, hap, -⟩ := tally_apart n
  rw [trigger_restart hcal hsafe hrun hdelay hpol, accept_starts (by rw [hcop.runEntries]; exact he), hcop.newRun]
  refine ⟨(State.RegsBut.get (l := [(F.ADC_STAT.RUNNING n).off]) ?_ (by simpa using hap.symm)).trans hcnt, State.get_set_same _ _ _ rfl, by rw [set_unit, unit_modUnit_same hlen]⟩
  exact ((regsBut_same _ _).modUnit n _).set _ _ List.mem_cons_self

end
/-! ### The end of the delay (R169) -/

/-- Sampling begins once its window has opened, at an instant of the window. -/
theorem delayEnd_samples {s : State} {n : Fin 4} {r : AdcRun} (dt : Nat) (hlive : s.live = true) (hn : n.val < s.adc.units.length) (hrun : (s.unit n).run = some r)
    (hdelay : r.sampling = false) (hlo : r.lo ≤ (State.advance dt s).now 8) : GoesTo (exec (.adcDelayEnd dt n) s) fun t =>
      (∃ a, (t.unit n).run = some { r with sampling := true, at' := a } ∧ r.lo ≤ a ∧ (r.lo ≤ r.hi → a ≤ r.hi)) ∧ s.RegsBut [] t := by
  change GoesTo (execAdcDelayEnd dt n s) _
  unfold execAdcDelayEnd
  refine goesTo_live hlive ?_
  have hrun' : ((s.advance dt).unit n).run = some r := hrun
  simp only [hrun', hdelay, hlo, Bool.not_false, decide_true, Bool.and_self, if_true]
  rw [confine_hull (by simp)]
  have hu := unit_modUnit_same (s := s.advance dt) hn fun u => { u with run := some { r with sampling := true, at' := max r.lo (min r.hi ((s.advance dt).now 0)) } }
  refine ⟨⟨_, by rw [hu], Nat.le_max_left _ _, fun h => Nat.max_le.mpr ⟨h, Nat.min_le_left _ _⟩⟩, (advance_regs s dt _).modUnit n _⟩

/-! ### The end of a run (R166, R168) -/

/-- The unit after its run's end: idle, with nothing pending, and the run counted. -/
def State.idled (s : State) (n : Nat) : State :=
  (((s.modUnit n fun u => { u with run := none, overRun := false, pend := none, after := [] }).set (F.ADC_STAT.RUNNING n) 0).inc (F.ADC_RUN_CNT.COUNT n)).set (F.ADC_STAT.PENDING n) 0

theorem runEnd_idles {s : State} {n : Nat} {r : AdcRun} (vs : List (List Int)) (hrun : (s.unit n).run = some r) (hdone : r.done = r.entries.length) (hpend : (s.unit n).pend = none)
    (hafter : (s.unit n).after = []) (hdue : (s.unit n).jobDue = false) : s.runEnd n vs = (s.idled n).chainFires n vs := by
  simp only [State.runEnd, hrun, hdone, hpend, hafter, hdue, beq_self_eq_true, if_true, Bool.false_eq_true, if_false, List.foldl_nil]
  rfl

theorem foldl_still {α : Type} {g : State → α → State} {s : State} {l : List α} (h : ∀ x ∈ l, g s x = s) : l.foldl g s = s := by
  induction l with
  | nil => rfl
  | cons x l ih => rw [List.foldl_cons, h x List.mem_cons_self, ih fun y hy => h y (List.mem_cons_of_mem x hy)]

theorem chainFires_none {s : State} (n : Nat) (vs : List (List Int)) (h : ∀ m, m < 4 → s.adcGet (F.ADC_CTRL.TRIG_SRC m) ≠ 7) : s.chainFires n vs = s :=
  foldl_still fun m hm => by rw [decide_eq_false (h m (List.mem_range.mp hm)), Bool.false_and, if_neg Bool.false_ne_true]

theorem idled_copies (s : State) (n : Nat) : s.Copies n (s.idled n) :=
  ((((State.Copies.same s n).modUnit n _).set (F.ADC_STAT.RUNNING n) 0 (by simp [tallyRegs])).inc (F.ADC_RUN_CNT.COUNT n) (by simp [tallyRegs])).set (F.ADC_STAT.PENDING n) 0
    (List.mem_append_left _ List.mem_cons_self)

theorem idled_shows {s : State} {n : Nat} (hn : n < s.adc.units.length) : (s.idled n).get (F.ADC_STAT.RUNNING n) = 0 ∧ (s.idled n).get (F.ADC_STAT.PENDING n) = 0 ∧
    ((s.idled n).unit n).run = none ∧ (s.idled n).get (F.ADC_RUN_CNT.COUNT n) = min (s.get (F.ADC_RUN_CNT.COUNT n) + 1) (2 ^ (F.ADC_RUN_CNT.COUNT n).w - 1) ∧
    s.RegsBut [(F.ADC_STAT.RUNNING n).off, (F.ADC_RUN_CNT.COUNT n).off] (s.idled n) := by
  obtain ⟨-, hap, -, -⟩ := tally_apart n
  have hu := unit_modUnit_same hn fun u => { u with run := none, overRun := false, pend := none, after := [] }
  have hr := (regsBut_same s [(F.ADC_STAT.RUNNING n).off, (F.ADC_RUN_CNT.COUNT n).off]).modUnit n fun u => { u with run := none, overRun := false, pend := none, after := [] }
  unfold State.idled
  have hget : (s.modUnit n fun u => { u with run := none, overRun := false, pend := none, after := [] }).get (F.ADC_RUN_CNT.COUNT n) = s.get (F.ADC_RUN_CNT.COUNT n) := modUnit_get s n _ _
  generalize (s.modUnit n fun u => { u with run := none, overRun := false, pend := none, after := [] }) = v at hu hr hget
  have hstat : (F.ADC_STAT.RUNNING n).off ∉ [(F.ADC_RUN_CNT.COUNT n).off] := by simpa using hap
  have hcnt : (F.ADC_RUN_CNT.COUNT n).off ∉ [(F.ADC_STAT.RUNNING n).off] := by simpa using hap.symm
  refine ⟨?_, State.get_set_same _ _ _ rfl, ?_, ?_, ((hr.set _ 0 (by simp)).inc _ (by simp)).set _ 0 List.mem_cons_self⟩
  · rw [State.get_set_apart _ _ _ _ rfl (by simp [Fld.apart, F.ADC_STAT.PENDING, F.ADC_STAT.RUNNING]), ((regsBut_same _ _).inc (F.ADC_RUN_CNT.COUNT n) List.mem_cons_self).get hstat,
      State.get_set_same _ _ _ rfl]
    rfl
  · rw [set_unit, inc_unit, set_unit, hu]
  · rw [(regsBut_set _ (F.ADC_STAT.PENDING n) 0 [(F.ADC_STAT.RUNNING n).off] List.mem_cons_self).get hcnt]
    exact inc_get_of rfl (((regsBut_set v (F.ADC_STAT.RUNNING n) 0 _ List.mem_cons_self).get hcnt).trans hget)

theorem runEnd_ends {s : State} {n : Fin 4} {r : AdcRun} (dt : Nat) (vs : List (List Int)) (hlive : s.live = true) (hn : n.val < s.adc.units.length) (hrun : (s.unit n).run = some r)
    (hdone : r.done = r.entries.length) (hchain : ∀ m, m < 4 → (State.advance dt s).adcGet (F.ADC_CTRL.TRIG_SRC m) ≠ 7) (hpend : (s.unit n).pend = none)
    (hafter : (s.unit n).after = []) (hdue : (s.unit n).jobDue = false) : GoesTo (exec (.adcRunEnd dt n vs) s) fun t =>
      t.get (F.ADC_STAT.RUNNING n) = 0 ∧ t.get (F.ADC_STAT.PENDING n) = 0 ∧ (t.unit n).run = none ∧
      t.get (F.ADC_RUN_CNT.COUNT n) = min (s.get (F.ADC_RUN_CNT.COUNT n) + 1) (2 ^ (F.ADC_RUN_CNT.COUNT n).w - 1) ∧
      s.RegsBut [(F.ADC_STAT.RUNNING n).off, (F.ADC_RUN_CNT.COUNT n).off] t := by
  change GoesTo (whenLive s fun s => (s.advance dt).runEnd n vs) _
  refine goesTo_live hlive ?_
  have hchain' : ∀ m, m < 4 → ((s.advance dt).idled n).adcGet (F.ADC_CTRL.TRIG_SRC m) ≠ 7 := fun m hm => by
    obtain ⟨hctrl, -, -⟩ := copied_notTally n (m := m) (k := 0) (by decide)
    rw [(idled_copies (s.advance dt) n).adcGet (f := F.ADC_CTRL.TRIG_SRC m) hctrl]
    exact hchain m hm
  rw [confine_hull (by simp), runEnd_idles (s := s.advance dt) vs hrun hdone hpend hafter hdue, chainFires_none _ vs hchain']
  exact idled_shows (s := s.advance dt) hn

/-! ### A trigger's commands (R168) -/

section

variable {s : State} {n : Fin 4} {vs : List Int} (hlive : s.live = true)
include hlive

theorem adcSwtrig_meets {p : State → Prop} (hlast : (s.unit n).lastCyc ≠ some (s.now 0 / adcCycle))
    (hrun : ∀ r, (s.unit n).run = some r → r.sampling = false ∨ r.done ≠ r.entries.length ∧ s.adcGet (F.ADC_CTRL.POLICY n) = 0)
    (hp : p ((s.noted n { at' := s.now 0, go := true }).trigger n { at' := s.now 0, go := true } vs)) : GoesTo (exec (.adcSwtrig n vs) s) p := by
  change GoesTo (whenLive s fun s => s.softTrigger n vs) _
  refine goesTo_live hlive ?_
  rw [confine_hull (by simp), State.softTrigger, arrive_meets vs hlast hrun, numbered_none rfl]
  exact hp

/-- A source fires within the ADC cycle of its instant at a unit that selects it and that it has not fired at (R168). -/
theorem adcTrigger_arrives {p : State → Prop} {dt age src : Nat} (hsel : (State.advance dt s).adcGet (F.ADC_CTRL.TRIG_SRC n) = src)
    (hage : (State.advance dt s).sourceAge n src = some age) (hlt : age < adcCycle) (hfired : (s.unit n).fired = none)
    (hp : p (((State.advance dt s).modUnit n fun u => { u with fired := some ((State.advance dt s).now 0 - age) }).arrive n
      { at' := (State.advance dt s).now 0 - age, sched := true, tick := if src = 1 then some 0 else none } vs)) : GoesTo (exec (.adcTrigger dt n src vs) s) p := by
  change GoesTo (whenLive s fun s => (s.advance dt).sourceFires n src vs) _
  refine goesTo_live hlive ?_
  rw [confine_hull (by simp)]
  have hlt' : ¬ adcCycle ≤ age := Nat.not_le.mpr hlt
  have hfired' : ((s.advance dt).unit n).fired = none := hfired
  simp only [State.sourceFires, hsel, beq_self_eq_true, if_true, hage, decide_eq_false hlt', hfired', Option.map_none, Option.getD_none, Bool.or_self, Bool.false_eq_true, if_false]
  exact hp

/-- No other source reaches a unit (R168). -/
theorem adcTrigger_passes {dt src : Nat} (hsel : (State.advance dt s).adcGet (F.ADC_CTRL.TRIG_SRC n) ≠ src) : exec (.adcTrigger dt n src vs) s = .next (State.advance dt s) := by
  change whenLive s (fun s => (s.advance dt).sourceFires n src vs) = _
  have hsel' : ((State.advance dt s).adcGet (F.ADC_CTRL.TRIG_SRC n) == src) = false := by simpa using hsel
  rw [whenLive, guarded_on _ hlive, confine_hull (by simp), State.sourceFires, hsel', if_neg Bool.false_ne_true]

end

/-- A run that starts from a state that reads as another does, starts from that. -/
theorem State.RunStarts.of_same {s u t : State} {n : Nat} {r : AdcRun} (h : u.RunStarts n r t) (hu : s.RegsBut [] u) : s.RunStarts n r t :=
  ⟨h.running, by rw [h.count, hu.get (by simp)], regsBut_trans (regsBut_wider hu (by simp)) h.regs, h.run⟩

theorem noted_regs (s : State) (n : Nat) (x : AdcTrig) : s.RegsBut [] (s.noted n x) := (regsBut_same s _).modUnit n _

theorem noted_unit {s : State} {n : Nat} (hn : n < s.adc.units.length) (x : AdcTrig) : ((s.noted n x).unit n).run = (s.unit n).run ∧ ((s.noted n x).unit n).pend = (s.unit n).pend ∧
    n < (s.noted n x).adc.units.length := by
  refine ⟨?_, ?_, by rw [State.noted, units_modUnit_length]; exact hn⟩ <;> rw [State.noted, unit_modUnit_same hn]

/-- A source's trigger starts a run at an idle unit, in the window of R169. -/
theorem fired_starts {s : State} {n : Nat} {x : AdcTrig} {vs : List Int} (a : Nat) (hcal : s.flag (F.ADC_STAT.CAL_BUSY n) = false) (hsafe : s.flag F.CLK_PLLS_STAT.ON_SAFE = false)
    (hn : n < s.adc.units.length) (hrun : (s.unit n).run = none) (he : s.runEntries n ≠ []) (hlast : (s.unit n).lastCyc ≠ some (x.at' / adcCycle)) :
    s.RunStarts n (s.newRun n (x.numbered (s.unit n)) false 0) ((s.modUnit n fun u => { u with fired := some a }).arrive n x vs) := by
  have hu := unit_modUnit_same hn fun u => { u with fired := some a }
  have hcop := (State.Copies.same s n).modUnit n fun u => { u with fired := some a }
  have hregs := (regsBut_same s []).modUnit n fun u => { u with fired := some a }
  have hlen : n < (s.modUnit n fun u => { u with fired := some a }).adc.units.length := by rw [units_modUnit_length]; exact hn
  generalize (s.modUnit n fun u => { u with fired := some a }) = v at hu hcop hregs hlen ⊢
  have hrun' : (v.unit n).run = none := by rw [hu, hrun]
  have hnum : x.numbered (v.unit n) = x.numbered (s.unit n) := by rw [hu]; rfl
  rw [arrive_meets vs (by rw [hu]; exact hlast) (fun r hr => by rw [hrun'] at hr; cases hr), hnum]
  generalize x.numbered (s.unit n) = y
  obtain ⟨hrunw, -, hlenw⟩ := noted_unit hlen y
  have hw := regsBut_trans hregs (noted_regs v n y)
  have hew : (v.noted n y).runEntries n = s.runEntries n := (noted_copies v n y).runEntries.trans hcop.runEntries
  have hst := trigger_starts (s := v.noted n y) (x := y) (vs := vs) ((hw.flag (by simp)).trans hcal) ((hw.flag (by simp)).trans hsafe) hlenw (hrunw.trans hrun') (by rw [hew]; exact he)
  rw [(noted_copies v n y).newRun, hcop.newRun] at hst
  exact hst.of_same hw

/-! ### Comparators (R175) -/

/-- A bit that stands, taken off by subtraction, leaves the others. -/
theorem testBit_sub_two_pow {m j : Nat} (h : m.testBit j = true) (i : Nat) : (m - 2 ^ j).testBit i = (m.testBit i && i != j) := by
  obtain ⟨c, hc⟩ : ∃ c, m / 2 ^ j = 2 * c + 1 := by
    rw [Nat.testBit_eq_decide_div_mod_eq, decide_eq_true_eq] at h
    exact ⟨m / 2 ^ j / 2, by omega⟩
  have hb : m % 2 ^ j < 2 ^ j := Nat.mod_lt _ (Nat.two_pow_pos j)
  have hm : m = 2 ^ j * (2 * c + 1) + m % 2 ^ j := by rw [← hc, Nat.div_add_mod]
  have hs : m - 2 ^ j = 2 ^ j * (2 * c) + m % 2 ^ j := by
    rw [Nat.mul_add] at hm
    omega
  rw [hs, Nat.testBit_two_pow_mul_add _ hb]
  conv_rhs => rw [hm, Nat.testBit_two_pow_mul_add _ hb]
  by_cases hi : i < j
  · simp [hi, hi.ne]
  · obtain ⟨k, rfl⟩ := Nat.exists_eq_add_of_le (Nat.le_of_not_lt hi)
    cases k with
    | zero => simp
    | succ k => simp [Nat.testBit_succ, Nat.mul_add_div]

/-- A bit of a mask cleared leaves the mask's others. -/
theorem clearBit_testBit (s : State) {f : Fld} (hok : f.ok = true) (j i : Nat) : ((s.setBit f j false).get f).testBit i = ((s.get f).testBit i && i != j) := by
  have hlt := State.get_lt s f
  rw [State.setBit, State.get_set_same _ _ _ hok]
  simp only [Bool.false_eq_true, if_false]
  split
  · next h => rw [Nat.mod_eq_of_lt (Nat.lt_of_le_of_lt (Nat.sub_le _ _) hlt), testBit_sub_two_pow h]
  · next h =>
    rw [Nat.mod_eq_of_lt hlt]
    by_cases hij : i = j
    · subst hij
      simp [h]
    · simp [hij]

theorem winReturn_clears {s : State} {j : Fin 32} {v : Int} (hfull : s.pwr.full = false) (hhigh : idealCode 0 v ≤ 16 * s.getI (F.ADC_WIN.HIGH j) - 16 * (s.get (F.ADC_WIN.HYST j) : Int))
    (hlow : 16 * s.getI (F.ADC_WIN.LOW j) + 16 * (s.get (F.ADC_WIN.HYST j) : Int) ≤ idealCode 0 v) : GoesTo (exec (.winReturn j v) s) fun t =>
      (t.get F.ADC_WIN_STAT.OUT).testBit j = false ∧ (∀ i, i < 32 → i ≠ j.val → (t.get F.ADC_WIN_STAT.OUT).testBit i = (s.get F.ADC_WIN_STAT.OUT).testBit i) ∧
      s.RegsBut [F.ADC_WIN_STAT.OUT.off] t := by
  change GoesTo (execWinReturn j v s) _
  unfold execWinReturn
  refine goesTo_powered hfull ?_
  simp only [hhigh, hlow, decide_true, Bool.and_self, if_true]
  rw [confine_hull (by simp)]
  have hbit := clearBit_testBit s (f := F.ADC_WIN_STAT.OUT) rfl j
  exact ⟨by simp [hbit], fun i _ hi => by simp [hbit, hi], regsBut_set s _ _ _ List.mem_cons_self⟩

/-! ### O12 -/

/-- A write of GO as a trigger. -/
def State.goTrig (s : State) : AdcTrig := { at' := s.now 0, go := true }

/-- The window of a run that GO starts (R311). -/
theorem newRun_go (s : State) (n : Nat) : (s.newRun n s.goTrig false 0).lo = s.now 0 + 40 * ((s.newRun n s.goTrig false 0).trig % 65536) + 100 ∧
    (s.newRun n s.goTrig false 0).hi = (s.newRun n s.goTrig false 0).lo + 200 := by
  simp [State.newRun, State.goTrig]

/-- The window of a run that a source starts (R169). -/
theorem newRun_sched (s : State) (n : Nat) {x : AdcTrig} (h : x.sched = true) : (s.newRun n x false 0).lo = x.at' + 40 * ((s.newRun n x false 0).trig % 65536) - 10 ∧
    (s.newRun n x false 0).hi = x.at' + 40 * ((s.newRun n x false 0).trig % 65536) + 10 := by
  simp [State.newRun, h]

section

variable {s : State} {n : Fin 4} {vs : List Int} (hlive : s.live = true) (hcal : s.flag (F.ADC_STAT.CAL_BUSY n) = false) (hsafe : s.flag F.CLK_PLLS_STAT.ON_SAFE = false)
  (hn : n.val < s.adc.units.length) (hlast : (s.unit n).lastCyc ≠ some (s.now 0 / adcCycle))
include hlive hcal hsafe hn hlast

theorem swtrig_starts (hrun : (s.unit n).run = none) (he : s.runEntries n ≠ []) : GoesTo (exec (.adcSwtrig n vs) s) (s.RunStarts n (s.newRun n s.goTrig false 0)) := by
  refine adcSwtrig_meets hlive hlast (fun r hr => by rw [hrun] at hr; cases hr) ?_
  change s.RunStarts n _ ((s.noted n s.goTrig).trigger n s.goTrig vs)
  have hw := noted_regs s n s.goTrig
  have hcop := noted_copies s n s.goTrig
  obtain ⟨hrunw, -, hlen⟩ := noted_unit hn s.goTrig
  have hst := trigger_starts (x := s.goTrig) (vs := vs) ((hw.flag (by simp)).trans hcal) ((hw.flag (by simp)).trans hsafe) hlen (hrunw.trans hrun) (by rw [hcop.runEntries]; exact he)
  rw [hcop.newRun] at hst
  exact hst.of_same hw

theorem swtrig_counts (hrun : (s.unit n).run = none) (he : s.runEntries n = []) : GoesTo (exec (.adcSwtrig n vs) s) fun t =>
    t.get (F.ADC_STAT.RUNNING n) = 0 ∧ (t.unit n).run = none ∧ t.get (F.ADC_TRIG_CNT.COUNT n) = min (s.get (F.ADC_TRIG_CNT.COUNT n) + 1) (2 ^ (F.ADC_TRIG_CNT.COUNT n).w - 1) ∧
      s.RegsBut [(F.ADC_STAT.RUNNING n).off, (F.ADC_TRIG_CNT.COUNT n).off] t := by
  refine adcSwtrig_meets hlive hlast (fun r hr => by rw [hrun] at hr; cases hr) ?_
  have hw := noted_regs s n s.goTrig
  obtain ⟨hrunw, -, hlen⟩ := noted_unit hn s.goTrig
  obtain ⟨hidle, hnone, hcnt, hregs⟩ := trigger_counts (x := s.goTrig) (vs := vs) ((hw.flag (by simp)).trans hcal) ((hw.flag (by simp)).trans hsafe) hlen (hrunw.trans hrun)
    (by rw [(noted_copies s n s.goTrig).runEntries]; exact he)
  rw [hw.get (by simp)] at hcnt
  exact ⟨hidle, hnone, hcnt, regsBut_trans (regsBut_wider hw (by simp)) hregs⟩

variable {r : AdcRun} (hrun : (s.unit n).run = some r)
include hrun

theorem swtrig_held (hdone : r.done ≠ r.entries.length) (hpol : s.adcGet (F.ADC_CTRL.POLICY n) = 0) : GoesTo (exec (.adcSwtrig n vs) s) fun t => (t.unit n).run = some r ∧
    (s.flag (F.ADC_STAT.PENDING n) = false → t.get (F.ADC_STAT.PENDING n) = 1 ∧ (t.unit n).pend = some s.goTrig ∧
      s.RegsBut [(F.ADC_STAT.RUNNING n).off, (F.ADC_TRIG_CNT.COUNT n).off] t) ∧
    (s.flag (F.ADC_STAT.PENDING n) = true → t.get (F.ADC_TRIG_OVR.COUNT n) = min (s.get (F.ADC_TRIG_OVR.COUNT n) + 1) (2 ^ (F.ADC_TRIG_OVR.COUNT n).w - 1) ∧
      (t.unit n).pend = (s.unit n).pend ∧ s.RegsBut ([(F.ADC_TRIG_OVR.COUNT n).off, (F.ADC_TRIG_CNT.COUNT n).off] ++ recCounters) t) := by
  refine adcSwtrig_meets hlive hlast (fun q hq => .inr ?_) ?_
  · rw [hrun] at hq
    obtain rfl := Option.some.inj hq
    exact ⟨hdone, hpol⟩
  have hw := noted_regs s n s.goTrig
  obtain ⟨hrunw, hpendw, hlen⟩ := noted_unit hn s.goTrig
  have hcal' := (hw.flag (by simp)).trans hcal
  have hsafe' := (hw.flag (by simp)).trans hsafe
  have hflag : (s.noted n s.goTrig).flag (F.ADC_STAT.PENDING n) = s.flag (F.ADC_STAT.PENDING n) := hw.flag (by simp)
  cases hp : s.flag (F.ADC_STAT.PENDING n) with
  | false =>
    obtain ⟨hkept, hpend, hx, hregs⟩ := trigger_pends (x := s.goTrig) (vs := vs) hcal' hsafe' hlen (hrunw.trans hrun) hpol (hflag.trans hp)
    exact ⟨hkept, fun _ => ⟨hpend, hx, regsBut_trans (regsBut_wider hw (by simp)) hregs⟩, fun h => absurd h Bool.false_ne_true⟩
  | true =>
    obtain ⟨hkept, hcnt, hpend, hregs⟩ := trigger_overruns (x := s.goTrig) (vs := vs) hcal' hsafe' hlen (hrunw.trans hrun) hpol (hflag.trans hp)
    rw [hw.get (by simp)] at hcnt
    exact ⟨hkept, fun h => absurd h.symm Bool.false_ne_true, fun _ => ⟨hcnt, hpend.trans hpendw, regsBut_trans (regsBut_wider hw (by simp)) hregs⟩⟩

theorem swtrig_restarts (hdelay : r.sampling = false) (hpol : s.adcGet (F.ADC_CTRL.POLICY n) = 1) (he : s.runEntries n ≠ []) : GoesTo (exec (.adcSwtrig n vs) s) fun t =>
    t.get (F.ADC_RESTART_CNT.COUNT n) = min (s.get (F.ADC_RESTART_CNT.COUNT n) + 1) (2 ^ (F.ADC_RESTART_CNT.COUNT n).w - 1) ∧
      t.get (F.ADC_STAT.RUNNING n) = 1 ∧ (t.unit n).run = some (s.newRun n s.goTrig false 0) := by
  refine adcSwtrig_meets hlive hlast (fun q hq => .inl ?_) ?_
  · rw [hrun] at hq
    obtain rfl := Option.some.inj hq
    exact hdelay
  have hw := noted_regs s n s.goTrig
  have hcop := noted_copies s n s.goTrig
  obtain ⟨hrunw, -, hlen⟩ := noted_unit hn s.goTrig
  have hst := trigger_restarts (x := s.goTrig) (vs := vs) ((hw.flag (by simp)).trans hcal) ((hw.flag (by simp)).trans hsafe) hlen (hrunw.trans hrun) n.isLt hdelay hpol
    (by rw [hcop.runEntries]; exact he)
  rw [hcop.newRun, hw.get (by simp)] at hst
  exact hst

end

/-- Settles O12: each clause is the lemma on its command; what a run copies is read alike before and after the trigger is counted. -/
theorem converterRuns : Obligations.ConverterRuns := by
  refine ⟨?_, fun s n vs hlive hcal hsafe hrun hn hlast he => swtrig_counts hlive hcal hsafe hn hlast hrun he,
    fun s n vs r hlive hcal hsafe hrun hn hlast hdone hpol => swtrig_held hlive hcal hsafe hn hlast hrun hdone hpol, ?_, ?_, fun s dt src n vs hlive hsel => adcTrigger_passes hlive hsel,
    fun s dt n r hlive hn hrun hdelay hlo => delayEnd_samples dt hlive hn hrun hdelay hlo,
    fun s dt n r vs hlive hn hrun hdone hchain hpend hafter hdue _ => runEnd_ends dt vs hlive hn hrun hdone hchain hpend hafter hdue,
    fun s j v hfull hhigh hlow => winReturn_clears hfull hhigh hlow⟩
  · intro s n vs hlive hcal hsafe hrun hn hlast he
    obtain ⟨t, e, hst⟩ := swtrig_starts (vs := vs) hlive hcal hsafe hn hlast hrun he
    obtain ⟨hlo, hhi⟩ := newRun_go s n
    exact ⟨t, e, hst.running, hst.count, hst.regs, _, hst.run, rfl, rfl, rfl, rfl, rfl, hlo, hhi⟩
  · intro s n vs r hlive hcal hsafe hrun hn hlast hdelay hpol he
    obtain ⟨t, e, hcnt, hrunning, hnew⟩ := swtrig_restarts (vs := vs) hlive hcal hsafe hn hlast hrun hdelay hpol he
    exact ⟨t, e, hcnt, hrunning, _, hnew, rfl, rfl, rfl, rfl⟩
  · rintro s u dt age src n vs rfl hlive hcal hsafe hsel hage hlt hfired hrun hn hlast he
    refine adcTrigger_arrives hlive hsel hage hlt hfired ?_
    obtain ⟨hat, hsched, -⟩ := numbered_at { at' := (s.advance dt).now 0 - age, sched := true, tick := if src = 1 then some 0 else none } ((s.advance dt).unit n)
    have hst := fired_starts (vs := vs) (x := { at' := (s.advance dt).now 0 - age, sched := true, tick := if src = 1 then some 0 else none }) ((s.advance dt).now 0 - age) hcal hsafe hn hrun he hlast
    obtain ⟨hlo, hhi⟩ := newRun_sched (s.advance dt) n hsched
    rw [hat] at hlo hhi
    exact ⟨hst.running, hst.count, hst.regs, _, hst.run, rfl, rfl, rfl, rfl, hlo, hhi⟩

end Sys2Proof.Machine
end

section
/-! PROOFS. Results of entries, and the soft-start's limit (R160 to R164, R172, R184, R541). -/
namespace Sys2Proof.Machine

/-! ### A result word (R163, R164) -/

/-- A result's flags and value written. -/
def State.withResult (s : State) (n m flags : Nat) (v : Int) : State := (s.set (F.ADC_RES.FLAGS n m) flags).setI (F.ADC_RES.VALUE n m) v

theorem withResult_value (s : State) (n m flags : Nat) (v : Int) : (s.withResult n m flags v).get (F.ADC_RES.VALUE n m) = ofSigned 24 v := by
  rw [State.withResult, State.setI, State.get_set_same _ _ _ rfl]
  refine Nat.mod_eq_of_lt ?_
  simp only [ofSigned, F.ADC_RES.VALUE]
  omega

theorem withResult_flags (s : State) (n m : Nat) {flags : Nat} (h : flags < 256) (v : Int) : (s.withResult n m flags v).get (F.ADC_RES.FLAGS n m) = flags := by
  rw [State.withResult, State.setI, State.get_set_apart _ _ _ _ rfl (by simp [Fld.apart, F.ADC_RES.VALUE, F.ADC_RES.FLAGS]), State.get_set_same _ _ _ rfl]
  exact Nat.mod_eq_of_lt h

theorem withResult_regs (s : State) (n m flags : Nat) (v : Int) : s.RegsBut [(F.ADC_RES.VALUE n m).off] (s.withResult n m flags v) :=
  ((regsBut_same s _).set (F.ADC_RES.FLAGS n m) flags List.mem_cons_self).set (F.ADC_RES.VALUE n m) _ List.mem_cons_self

/-- The codes of an entry's conversions, system-corrected where `sys` says so, each with whether that saturated (R162, R184). -/
def State.fixedCodes (s : State) (n j gain : Nat) (sys : Bool) (convs : List Conv) : List (Int × Bool) :=
  (convs.map (s.convCode n gain)).map fun c => if sys then s.sysCorrect j c else (c, false)

theorem fixedCodes_codes (s : State) (n j gain : Nat) (sys : Bool) (convs : List Conv) :
    (s.fixedCodes n j gain sys convs).map (·.1) = convs.map fun c => if sys then (s.sysCorrect j (s.convCode n gain c)).1 else s.convCode n gain c := by
  cases sys <;> simp [State.fixedCodes, Function.comp_def]

theorem fixedCodes_saturated (s : State) (n j gain : Nat) (sys : Bool) (convs : List Conv) :
    (s.fixedCodes n j gain sys convs).any (·.2) = (sys && convs.any fun c => (s.sysCorrect j (s.convCode n gain c)).2) := by
  cases sys <;> simp [State.fixedCodes, Function.comp_def]

/-- The flags of a result (R164). -/
def State.resultFlags (s : State) (n gain : Nat) (r : AdcRun) (sys sat : Bool) (convs : List Conv) : Nat :=
  128 * b2n (convs.any fun c => (rangeMark gain c.1).isSome) + 64 * b2n (((s.unit n).susAt.map (fun e => decide (r.at' < e + 1600))).getD false) +
    16 * b2n (!s.flag (F.ADC_STAT.CAL_OK n) || (s.unit n).failed) + 8 * b2n r.held + 4 * b2n sys + 2 * b2n sat

theorem resultFlags_lt (s : State) (n gain : Nat) (r : AdcRun) (sys sat : Bool) (convs : List Conv) : s.resultFlags n gain r sys sat convs < 256 := by
  have h : ∀ b, b2n b ≤ 1 := by decide
  have h1 := h (convs.any fun c => (rangeMark gain c.1).isSome)
  have h2 := h (((s.unit n).susAt.map (fun e => decide (r.at' < e + 1600))).getD false)
  have h3 := h (!s.flag (F.ADC_STAT.CAL_OK n) || (s.unit n).failed)
  have h4 := h r.held
  have h5 := h sys
  have h6 := h sat
  unfold State.resultFlags
  omega

/-- Marked conversions reported: counted, seen and raised once for their entry (R172). -/
def State.reportMarks (s : State) (n m j : Nat) (marks : List (Option Bool)) : State := match marks.findSome? id with
  | none => s
  | some hi => ((s.addSat (F.ADC_OVR_CNT.COUNT n) (marks.filter Option.isSome).length).seeFlag n seenOVR).raise Ev.ADC_OVR [n, m, j, ofSigned 16 (endCode hi)]

theorem ovrCnt_quiet {n : Nat} (h : n < 4) : (F.ADC_OVR_CNT.COUNT n).quiet = true := by
  simp only [Fld.quiet, F.ADC_OVR_CNT.COUNT, F.REC_LOST_CNT.COUNT, F.REC_SUPP_CNT.COUNT, Bool.and_eq_true, bne_iff_ne, ne_eq]
  omega

theorem addSat_get (s : State) {f : Fld} (hok : f.ok = true) (k : Nat) : (s.addSat f k).get f = min (s.get f + k) (2 ^ f.w - 1) := by
  rw [State.addSat, State.get_set_same _ _ _ hok]
  exact Nat.mod_eq_of_lt (Nat.lt_of_le_of_lt (Nat.min_le_right _ _) (Nat.sub_lt (Nat.two_pow_pos f.w) Nat.one_pos))

theorem reportMarks_shows {s : State} {n : Nat} (h4 : n < 4) (hn : n < s.adc.units.length) (m j : Nat) (marks : List (Option Bool)) :
    (s.reportMarks n m j marks).get (F.ADC_OVR_CNT.COUNT n) = min (s.get (F.ADC_OVR_CNT.COUNT n) + (marks.filter Option.isSome).length) (2 ^ (F.ADC_OVR_CNT.COUNT n).w - 1) ∧
      ((s.reportMarks n m j marks).unit n).run = (s.unit n).run ∧ s.RegsBut ((F.ADC_OVR_CNT.COUNT n).off :: recCounters) (s.reportMarks n m j marks) := by
  unfold State.reportMarks
  split
  · next h =>
    have hnone : marks.filter Option.isSome = [] := by
      rw [List.findSome?_eq_none_iff] at h
      exact List.filter_eq_nil_iff.mpr fun x hx => by simpa using h x hx
    have hlt := State.get_lt s (F.ADC_OVR_CNT.COUNT n)
    rw [hnone]
    exact ⟨(Nat.min_eq_left (Nat.le_sub_one_of_lt hlt)).symm, rfl, regsBut_same s _⟩
  · have hu := seeFlag_unit (s := s.addSat (F.ADC_OVR_CNT.COUNT n) (marks.filter Option.isSome).length) hn seenOVR
    refine ⟨?_, ?_, ?_⟩
    · rw [State.raise_get _ _ _ _ (ovrCnt_quiet h4), seeFlag_get, addSat_get _ rfl]
    · rw [raise_unit, hu]
      rfl
    · exact (((regsBut_same s _).set (F.ADC_OVR_CNT.COUNT n) _ List.mem_cons_self).modUnit n _).raise _ _ fun _ ho => List.mem_cons_of_mem _ ho

/-! ### An entry done (R161 to R164) -/

/-- The run after an entry's last conversion. -/
def AdcRun.stepped (r : AdcRun) (now : Nat) : AdcRun := { r with done := r.done + 1, at' := r.at' + entryTime (r.entries.getD r.done 0), endAt := now }

/-- The unit of an entry written: its run moves on. -/
def AdcUnit.stepped (u : AdcUnit) (r : AdcRun) (now : Nat) (marks : List (Option Bool)) : AdcUnit :=
  { u with
    run := some (r.stepped now)
    final := if r.tick == some u.ticks then u.final ||| 2 ^ r.done else u.final
    susAt := (lastMark marks 0).map (fun i => r.at' + (i + 1) * convTime (r.entries.getD r.done 0)) }

/-- System correction applies to an entry (R184). -/
def State.sysApplies (s : State) (w j gain : Nat) : Bool := bitOf w 9 && s.flag (F.ADC_SYS_CFG.VALID j) && s.get (F.ADC_SYS_CFG.GAIN_SEL j) == gain

theorem marks_any (gain : Nat) (convs : List Conv) :
    (((convs.map fun c => rangeMark gain c.1).filter Option.isSome).length != 0) = convs.any fun c => (rangeMark gain c.1).isSome := by
  rw [Bool.eq_iff_iff, bne_iff_ne, ne_eq, List.length_eq_zero_iff, List.filter_eq_nil_iff]
  simp [Option.isSome_iff_ne_none]

theorem marks_count (gain : Nat) (convs : List Conv) :
    ((convs.map fun c => rangeMark gain c.1).filter Option.isSome).length = (convs.filter fun c => (rangeMark gain c.1).isSome).length := by
  rw [List.filter_map, List.length_map]
  rfl

theorem writeResult_eq {s : State} {n : Nat} {r : AdcRun} {convs : List Conv} {w gain j : Nat} (hw : w = r.entries.getD r.done 0) (hg : gain = bitsOf w 10 2) (hj : j = 8 * n + bitsOf w 0 3) :
    s.writeResult n r convs =
    let fixed := s.fixedCodes n j gain (s.sysApplies w j gain) convs
    let marks := convs.map fun c => rangeMark gain c.1
    let u := (s.withResult n r.done (s.resultFlags n gain r (s.sysApplies w j gain) (fixed.any (·.2)) convs) (adcValue (bitsOf w 24 4) (fixed.map (·.1)))).modUnit n
      fun u => u.stepped r (s.now 0) marks
    (u.when (((s.unit n).susAt.map (fun e => decide (r.at' < e + 1600))).getD false) fun s => s.seeFlag n seenSUSPECT).reportMarks n r.done j marks := by
  subst hw hg hj
  simp only [State.resultFlags, ← marks_any]
  rfl

/-- What a written result leaves. -/
structure State.Wrote (s : State) (n : Nat) (r : AdcRun) (flags : Nat) (v : Int) (marks : Nat) (u : State) : Prop where
  value : u.get (F.ADC_RES.VALUE n r.done) = ofSigned 24 v
  flags : u.get (F.ADC_RES.FLAGS n r.done) = flags
  run : (u.unit n).run = some (r.stepped (s.now 0))
  marks : u.get (F.ADC_OVR_CNT.COUNT n) = min (s.get (F.ADC_OVR_CNT.COUNT n) + marks) (2 ^ (F.ADC_OVR_CNT.COUNT n).w - 1)
  regs : s.RegsBut ([(F.ADC_RES.VALUE n r.done).off, (F.ADC_OVR_CNT.COUNT n).off] ++ recCounters) u

/-- The registers of a unit's results stand apart from its counter of marks and the recorder's. -/
theorem result_notMarks (n : Nat) {m : Nat} (h : m < 16) : (F.ADC_RES.VALUE n m).off ∉ (F.ADC_OVR_CNT.COUNT n).off :: recCounters := by
  simp only [recCounters, List.mem_cons, List.not_mem_nil, or_false, not_or, F.ADC_RES.VALUE, F.ADC_OVR_CNT.COUNT, F.REC_LOST_CNT.COUNT, F.REC_SUPP_CNT.COUNT]
  omega

theorem when_seeFlag {s : State} {n : Nat} (hn : n < s.adc.units.length) (c : Bool) (bit : Nat) : ((s.when c fun s => s.seeFlag n bit).unit n).run = (s.unit n).run ∧
    n < (s.when c fun s => s.seeFlag n bit).adc.units.length ∧ s.RegsBut [] (s.when c fun s => s.seeFlag n bit) := by
  cases c with
  | false => exact ⟨rfl, hn, regsBut_same s _⟩
  | true =>
    refine ⟨?_, ?_, regsBut_hidden [] rfl rfl rfl⟩
    · simp only [State.when, if_true, seeFlag_unit hn]
    · simp only [State.when, if_true, State.seeFlag, units_modUnit_length]
      exact hn

theorem writeResult_wrote {s : State} {n : Nat} {r : AdcRun} (h4 : n < 4) (hn : n < s.adc.units.length) (hr : r.done < 16) {convs : List Conv} {w gain j : Nat}
    (hw : w = r.entries.getD r.done 0) (hg : gain = bitsOf w 10 2) (hj : j = 8 * n + bitsOf w 0 3) :
    s.Wrote n r (s.resultFlags n gain r (s.sysApplies w j gain) ((s.fixedCodes n j gain (s.sysApplies w j gain) convs).any (·.2)) convs)
      (adcValue (bitsOf w 24 4) ((s.fixedCodes n j gain (s.sysApplies w j gain) convs).map (·.1))) (convs.filter fun c => (rangeMark gain c.1).isSome).length (s.writeResult n r convs) := by
  rw [writeResult_eq hw hg hj]
  dsimp only
  have hf := resultFlags_lt s n gain r (s.sysApplies w j gain) ((s.fixedCodes n j gain (s.sysApplies w j gain) convs).any (·.2)) convs
  generalize s.resultFlags n gain r _ _ convs = flags at hf ⊢
  generalize adcValue _ _ = v
  rw [← marks_count]
  generalize (convs.map fun c => rangeMark gain c.1) = marks
  generalize (((s.unit n).susAt.map (fun e => decide (r.at' < e + 1600))).getD false) = sus
  have hu := unit_modUnit_same (s := s.withResult n r.done flags v) hn fun u => u.stepped r (s.now 0) marks
  have hvalue := withResult_value s n r.done flags v
  have hflags := withResult_flags s n r.done hf v
  have hregs := withResult_regs s n r.done flags v
  have hlen : n < ((s.withResult n r.done flags v).modUnit n fun u => u.stepped r (s.now 0) marks).adc.units.length := by
    rw [units_modUnit_length]
    exact hn
  rw [← modUnit_get _ n fun u => u.stepped r (s.now 0) marks] at hvalue hflags
  replace hregs := hregs.modUnit n fun u => u.stepped r (s.now 0) marks
  generalize ((s.withResult n r.done flags v).modUnit n fun u => u.stepped r (s.now 0) marks) = x at hu hvalue hflags hregs hlen ⊢
  obtain ⟨hrun, hlen', hsee⟩ := when_seeFlag hlen sus seenSUSPECT
  obtain ⟨hmarks, hrun', hreport⟩ := reportMarks_shows h4 hlen' r.done j marks
  have hapart := result_notMarks n hr
  have hall := regsBut_trans (regsBut_wider hsee (by simp)) hreport
  refine ⟨(hall.get hapart).trans hvalue, (hall.get (f := F.ADC_RES.FLAGS n r.done) hapart).trans hflags, ?_, ?_, regsBut_trans (regsBut_wider hregs (by simp)) (regsBut_wider hall ?_)⟩
  · rw [hrun', hrun, hu]
    rfl
  · rw [hmarks, hsee.get (by simp), hregs.get]
    exact fun h => hapart (List.mem_cons.mpr (.inl (List.mem_singleton.mp h).symm))
  · simp only [List.mem_cons, List.mem_append, List.not_mem_nil, or_false]
    rintro o (h | h)
    · exact .inl (.inr h)
    · exact .inr h

/-- The result is due: its entry has the conversions it asks for, and its time has passed (R161). -/
theorem entryDone_writes {s : State} {n : Nat} {r : AdcRun} {convs : List Conv} (hrun : (s.unit n).run = some r) (hsamp : r.sampling = true) (hdone : r.done < r.entries.length)
    (hlen : convs.length = 2 ^ bitsOf (r.entries.getD r.done 0) 20 4) (ht : r.at' + entryTime (r.entries.getD r.done 0) ≤ s.now 8) (hafter : (s.unit n).after = []) :
    s.entryDone n convs = (s.writeResult n r convs).precharge := by
  simp only [State.entryDone, hrun, hsamp, hdone, hlen, ht, hafter, decide_true, beq_self_eq_true, Bool.and_self, if_true]

theorem entryDone_waits {s : State} {n : Nat} {r : AdcRun} {convs : List Conv} (hrun : (s.unit n).run = some r) (ht : s.now 8 < r.at' + entryTime (r.entries.getD r.done 0)) :
    s.entryDone n convs = s := by
  have ht' : ¬ r.at' + entryTime (r.entries.getD r.done 0) ≤ s.now 8 := Nat.not_le.mpr ht
  simp only [State.entryDone, hrun, decide_eq_false ht', Bool.and_false, Bool.false_eq_true, if_false]

section

variable {s : State} {dt : Nat} {n : Fin 4} {convs : List Conv} {r : AdcRun} (hlive : s.live = true) (hrun : (s.unit n).run = some r)
include hlive hrun

theorem adcEntryDone_writes {w j gain : Nat} {sys : Bool} (hn : n.val < s.adc.units.length) (hsamp : r.sampling = true) (hdone : r.done < r.entries.length) (h16 : r.entries.length ≤ 16)
    (hw : w = r.entries.getD r.done 0) (hj : j = 8 * n + bitsOf w 0 3) (hg : gain = bitsOf w 10 2) (hlen : convs.length = 2 ^ bitsOf w 20 4)
    (ht : r.at' + entryTime w ≤ (State.advance dt s).now 8) (hafter : (s.unit n).after = [])
    (hsys : sys = (bitOf w 9 && s.flag (F.ADC_SYS_CFG.VALID j) && s.get (F.ADC_SYS_CFG.GAIN_SEL j) == gain)) :
    GoesTo (exec (.adcEntryDone dt n convs) s) fun t => ∃ u : State, t = s.confine u.precharge ∧ (s.advance dt).Wrote n r
      (s.resultFlags n gain r sys (sys && convs.any fun c => (s.sysCorrect j (s.convCode n gain c)).2) convs)
      (adcValue (bitsOf w 24 4) (convs.map fun c => if sys then (s.sysCorrect j (s.convCode n gain c)).1 else s.convCode n gain c))
      (convs.filter fun c => (rangeMark gain c.1).isSome).length u := by
  change GoesTo (whenLive s fun s => (s.advance dt).entryDone n convs) _
  refine goesTo_live hlive ?_
  rw [entryDone_writes (s := s.advance dt) hrun hsamp hdone (by rw [hlen, hw]) (by rw [← hw]; exact ht) hafter]
  have hwrote := writeResult_wrote (s := s.advance dt) n.isLt hn (Nat.lt_of_lt_of_le hdone h16) (convs := convs) hw hg hj
  have hsys' : (s.advance dt).sysApplies w j gain = sys := hsys.symm
  rw [hsys', fixedCodes_saturated, fixedCodes_codes] at hwrote
  exact ⟨_, rfl, hwrote⟩

theorem adcEntryDone_waits (ht : (State.advance dt s).now 8 < r.at' + entryTime (r.entries.getD r.done 0)) :
    GoesTo (exec (.adcEntryDone dt n convs) s) fun t => t = State.advance dt s := by
  change GoesTo (whenLive s fun s => (s.advance dt).entryDone n convs) _
  refine goesTo_live hlive ?_
  rw [entryDone_waits (s := s.advance dt) hrun ht]
  exact confine_hull (hull_advance dt s)

end

/-! ### The soft-start's limit (R541) -/

/-- The soft-start stopped as failed. -/
def State.preFails (s : State) : State := { (s.preStop preFAIL) with spr := { (s.preStop preFAIL).spr with preFailed := true } }

theorem preFails_shows (s : State) : s.preFails.spr.pre = false ∧ s.preFails.spr.preFailed = true ∧ s.preFails.get F.CMN_PRECHG.STATE = 3 := by
  refine ⟨?_, rfl, State.get_set_same _ F.CMN_PRECHG.STATE preFAIL rfl⟩
  have h : State.OnlyHbs { s with spr := { s.spr with pre := false } } (({ s with spr := { s.spr with pre := false } }.hbsLow [4, 5] (s.now 0)).uncommand [4, 5]) :=
    (onlyHbs_hbsLow _ _ _).trans (onlyHbs_uncommand _ _)
  exact congrArg SprSt.pre h.spr

theorem prechgFail_eq (dt : Nat) (s : State) : exec (.prechgFail dt) s = onSpring s fun s =>
    if s.spr.pre && decide (50000000 * s.get F.CMN_PRECHG.TMO ≤ s.time.cyc + dt - s.spr.preAt) then
      (s.advance dt).preFails.raise Ev.PRECHG_FAIL [(s.advance dt).preFails.vDc.toNat, sPay (s.advance dt).preFails.preTarget]
    else s.advance dt := rfl

theorem prechgFail_stops {s : State} {dt : Nat} (hlive : s.live = true) (hr : s.role = .spring) (hpre : s.spr.pre = true)
    (ht : 50000000 * s.get F.CMN_PRECHG.TMO ≤ s.time.cyc + dt - s.spr.preAt) :
    GoesTo (exec (.prechgFail dt) s) fun t => t.spr.pre = false ∧ t.spr.preFailed = true ∧ t.get F.CMN_PRECHG.STATE = 3 := by
  rw [prechgFail_eq]
  refine goesTo_spring hlive hr ?_
  rw [if_pos (by simp [hpre, ht]), confine_hull (by simp [State.preFails]), State.raise_spr, State.raise_get _ _ _ _ rfl]
  exact preFails_shows _

end Sys2Proof.Machine
end

section
/-! PROOFS. Calibrations asked for and answered (R174, R178, R179, R182, R183, R363). -/
namespace Sys2Proof.Machine

/-! ### Registers of the converters and of completions -/

/-- A converter's register is none that a completion or the recorder changes. -/
theorem conversion_notCpl {q o : Nat} (hq : q < 16) (h : 0x14000 ≤ o) (h' : o < 0x15000) : o ∉ cplRegs q := by
  simp only [cplRegs, recCounters, List.mem_append, List.mem_cons, List.not_mem_nil, or_false, not_or, F.HIF_QP_STAT.CQ_FULL, F.HIF_EVT_STAT.PEND, F.REC_LOST_CNT.COUNT, F.REC_SUPP_CNT.COUNT]
  omega

/-! ### What changes converters and registers alone -/

/-- The second state differs from the first in its registers and its converter units alone. -/
def State.OnlyUnits (s t : State) : Prop := t = { s with regs := t.regs, adc := { s.adc with units := t.adc.units } }

namespace State.OnlyUnits

theorem same (s : State) : s.OnlyUnits s := rfl

theorem trans {s t u : State} (h : s.OnlyUnits t) (k : t.OnlyUnits u) : s.OnlyUnits u := by
  unfold State.OnlyUnits at *
  rw [k, h]

section

variable {s t : State} (h : s.OnlyUnits t)
include h

theorem set (f : Fld) (v : Nat) : s.OnlyUnits (t.set f v) := h.trans rfl
theorem wr (o : Nat) (w : Word) : s.OnlyUnits (t.wr o w) := h.trans rfl
theorem modUnit (n : Nat) (f : AdcUnit → AdcUnit) : s.OnlyUnits (t.modUnit n f) := h.trans rfl
theorem host : t.host = s.host := by rw [h]
theorem recd : t.recd = s.recd := by rw [h]
theorem role : t.role = s.role := by rw [h]
theorem calMask : t.adc.calMask = s.adc.calMask := by rw [h]
theorem calFail : t.adc.calFail = s.adc.calFail := by rw [h]

end

theorem foldl {α : Type} {g : State → α → State} (h : ∀ s x, State.OnlyUnits s (g s x)) (l : List α) (s : State) : s.OnlyUnits (l.foldl g s) := by
  induction l generalizing s with
  | nil => exact .same s
  | cons x l ih => exact (h s x).trans (ih _)

end State.OnlyUnits

/-! ### A calibration asked of a unit (R174, R178, R182) -/

theorem onlyUnits_askJob (s : State) (n : Nat) (j : CalJob) : s.OnlyUnits (s.askJob n j) := by
  have h := (State.OnlyUnits.same s).modUnit n fun u => { u with job := some j, jobDue := true }
  unfold State.askJob
  dsimp only
  split
  · exact (h.modUnit n _).set _ _
  · exact h

theorem askJob_regs (s : State) (n : Nat) (j : CalJob) : s.RegsBut [(F.ADC_STAT.CAL_BUSY n).off] (s.askJob n j) := by
  have h := (regsBut_same s [(F.ADC_STAT.CAL_BUSY n).off]).modUnit n fun u => { u with job := some j, jobDue := true }
  unfold State.askJob
  dsimp only
  split
  · exact (h.modUnit n _).set _ _ List.mem_cons_self
  · exact h

theorem askJob_other (s : State) {n m : Nat} (hm : m ≠ n) (j : CalJob) : (s.askJob n j).unit m = s.unit m := by
  unfold State.askJob
  dsimp only
  split
  · rw [State.startJob, set_unit, unit_modUnit_other _ hm, unit_modUnit_other _ hm]
  · rw [unit_modUnit_other _ hm]

/-- A unit has been asked for a calibration: it has the job, and is busy with it unless a run goes on. -/
structure State.Asked (n : Nat) (j : CalJob) (t : State) : Prop where
  len : n < t.adc.units.length
  job : (t.unit n).job = some j
  busy : (t.unit n).run = none → t.get (F.ADC_STAT.CAL_BUSY n) = 1

theorem askJob_length (s : State) (n : Nat) (j : CalJob) : (s.askJob n j).adc.units.length = s.adc.units.length := by
  unfold State.askJob
  dsimp only
  split
  · rw [State.startJob, State.set_adc, units_modUnit_length, units_modUnit_length]
  · rw [units_modUnit_length]

theorem askJob_asked {s : State} {n : Nat} (hn : n < s.adc.units.length) (j : CalJob) : (s.askJob n j).Asked n j ∧ ((s.askJob n j).unit n).run = (s.unit n).run := by
  have hu := unit_modUnit_same hn fun u => { u with job := some j, jobDue := true }
  have hlen : n < (s.modUnit n fun u => { u with job := some j, jobDue := true }).adc.units.length := by rw [units_modUnit_length]; exact hn
  have hl := askJob_length s n j
  unfold State.askJob at hl ⊢
  dsimp only at hl ⊢
  rw [hu] at hl ⊢
  split at hl
  · next hrun =>
    have hu' := unit_modUnit_same hlen fun u => { u with jobDue := false, jobAt := (s.modUnit n fun u => { u with job := some j, jobDue := true }).time.cyc }
    rw [if_pos hrun]
    refine ⟨⟨by rw [hl]; exact hn, ?_, fun _ => State.get_set_same _ _ _ rfl⟩, ?_⟩ <;> rw [State.startJob, set_unit, hu', hu]
  · next hrun =>
    rw [if_neg hrun]
    refine ⟨⟨by rw [hl]; exact hn, by rw [hu], fun h => ?_⟩, by rw [hu]⟩
    rw [hu] at h
    exact absurd (by simpa using h) hrun

/-- Another unit asked the same leaves it asked. -/
theorem State.Asked.askJob {t : State} {n : Nat} {j : CalJob} (h : t.Asked n j) (m : Nat) : (t.askJob m j).Asked n j := by
  by_cases hm : n = m
  · subst hm
    exact (askJob_asked h.len j).1
  · refine ⟨by rw [askJob_length]; exact h.len, by rw [askJob_other _ hm, h.job], fun hr => ?_⟩
    rw [askJob_other _ hm] at hr
    rw [(askJob_regs t m j).get, h.busy hr]
    simp only [List.mem_singleton, F.ADC_STAT.CAL_BUSY]
    omega

theorem askJobs_keep {n : Nat} {j : CalJob} (l : List Nat) {t : State} (h : t.Asked n j) : (l.foldl (fun (s : State) m => s.askJob m j) t).Asked n j := by
  induction l generalizing t with
  | nil => exact h
  | cons m l ih => exact ih (h.askJob m)

theorem askJobs_asked {n : Nat} {j : CalJob} {l : List Nat} (hl : n ∈ l) {t : State} (hn : n < t.adc.units.length) : (l.foldl (fun (s : State) m => s.askJob m j) t).Asked n j := by
  induction l generalizing t with
  | nil => cases hl
  | cons m l ih =>
    rcases List.mem_cons.mp hl with rfl | h
    · exact askJobs_keep l (askJob_asked hn j).1
    · exact ih h (by rw [askJob_length]; exact hn)

theorem askJob_run (s : State) (n m : Nat) (j : CalJob) (hm : m < s.adc.units.length) : ((s.askJob n j).unit m).run = (s.unit m).run := by
  by_cases h : m = n
  · subst h
    exact (askJob_asked hm j).2
  · rw [askJob_other s h]

theorem askJobs_run {m : Nat} (j : CalJob) (l : List Nat) {t : State} (hm : m < t.adc.units.length) : ((l.foldl (fun (s : State) n => s.askJob n j) t).unit m).run = (t.unit m).run := by
  induction l generalizing t with
  | nil => rfl
  | cons n l ih => exact (ih (by rw [askJob_length]; exact hm)).trans (askJob_run t n m j hm)

theorem askJobs_regs (j : CalJob) {l r : List Nat} (hr : ∀ n ∈ l, (F.ADC_STAT.CAL_BUSY n).off ∈ r) (t : State) : t.RegsBut r (l.foldl (fun (s : State) m => s.askJob m j) t) := by
  induction l generalizing t with
  | nil => exact regsBut_same t r
  | cons m l ih =>
    refine regsBut_trans (regsBut_wider (askJob_regs t m j) fun o ho => ?_) (ih (fun n hn => hr n (List.mem_cons_of_mem m hn)) _)
    rw [List.mem_singleton.mp ho]
    exact hr m List.mem_cons_self

/-! ### The units of a mask (R178, R179) -/

/-- What the start of a self-calibration leaves. -/
structure State.CalStarts (s : State) (m : Nat) (own : Option Nat) (t : State) : Prop where
  mask : t.adc.calMask = m
  recd : t.recd = s.recd
  regs : s.RegsBut ((List.range 4).map fun n => (F.ADC_STAT.CAL_BUSY n).off) t
  asked : ∀ n, n < s.adc.units.length → n < 4 → m.testBit n = true → (t.unit n).job = some (.self own) ∧ ((s.unit n).run = none → t.get (F.ADC_STAT.CAL_BUSY n) = 1)

theorem startCal_host (s : State) (mask : Nat) (own : Option Nat) : (s.startCal mask own).host = s.host :=
  (State.OnlyUnits.foldl (fun (s : State) n => onlyUnits_askJob s n (.self own)) (maskBits 4 mask) { s with adc := { s.adc with calStart := s.time.cyc, calMask := mask, calFail := 0 } }).host

theorem startCal_starts (s : State) (mask : Nat) (own : Option Nat) : s.CalStarts mask own (s.startCal mask own) := by
  have honly := State.OnlyUnits.foldl (fun (s : State) n => onlyUnits_askJob s n (.self own)) (maskBits 4 mask) { s with adc := { s.adc with calStart := s.time.cyc, calMask := mask, calFail := 0 } }
  refine ⟨honly.calMask, honly.recd, ?_, fun n hn h4 hbit => ?_⟩
  · refine regsBut_trans (regsBut_hidden _ rfl rfl rfl) (askJobs_regs (.self own) (fun n hn => ?_) { s with adc := { s.adc with calStart := s.time.cyc, calMask := mask, calFail := 0 } })
    exact List.mem_map_of_mem (List.mem_of_mem_filter hn)
  · have hmem : n ∈ maskBits 4 mask := List.mem_filter.mpr ⟨List.mem_range.mpr h4, hbit⟩
    have hask := askJobs_asked (j := .self own) hmem (t := { s with adc := { s.adc with calStart := s.time.cyc, calMask := mask, calFail := 0 } }) hn
    have hrun := askJobs_run (.self own) (maskBits 4 mask) (t := { s with adc := { s.adc with calStart := s.time.cyc, calMask := mask, calFail := 0 } }) hn
    exact ⟨hask.job, fun h => hask.busy (hrun.trans h)⟩

/-! ### Descriptors ended (R333) -/

theorem settle_adc (s : State) (id st rs re fr tk : Nat) : (s.settle id st rs re fr tk).adc = s.adc := by
  obtain ⟨r, w, rc, i, v, e⟩ := settle_touch s id st rs re fr tk
  rw [e]

/-- What a calibration's answer to an open descriptor leaves. -/
structure State.Answers (s : State) (id q st rs : Nat) (t : State) : Prop where
  ended : t.Ended id st rs 0
  regs : s.RegsBut (cplRegs q) t
  adc : t.adc = s.adc

/-- A Basin answers a calibration command by completing its descriptor, here at a state `u` that has the descriptors of `s` in flight. -/
theorem refuse_answers {s u : State} {id : Nat} {x : Infl} (st rs : Nat) (hx : s.inflAt id = some x) (hu : u.host = s.host) (hopen : x.phase.isDone = false) (hq : x.q < 16) :
    u.Answers id x.q st rs (u.refuse id st rs) := by
  obtain ⟨hend, hregs⟩ := settle_ends (u := u) st rs 0 0 0 hx (by rw [hu]) hopen hq
  exact ⟨hend, hregs, settle_adc u id st rs 0 0 0⟩

theorem calAnswer_basin {s : State} (hr : s.role = .basin) (own oc st rs : Nat) : s.calAnswer own oc st rs = s.refuse own st rs := by rw [State.calAnswer, hr]

theorem calAnswer_spring {s : State} (hr : s.role = .spring) (own oc st rs : Nat) : s.calAnswer own oc st rs = s.emit (.answer oc st rs) := by rw [State.calAnswer, hr]

/-- The same after an event. -/
theorem raised_answers {s u : State} {id : Nat} {x : Infl} (c : Nat) (p : List Nat) (oc st rs : Nat) (hr : u.role = .basin) (hx : s.inflAt id = some x) (hu : u.host = s.host)
    (hopen : x.phase.isDone = false) (hq : x.q < 16) : u.Answers id x.q st rs ((u.raise c p).calAnswer id oc st rs) := by
  rw [calAnswer_basin (by rw [State.raise_role, hr])]
  obtain ⟨hend, hregs, hadc⟩ := refuse_answers (u := u.raise c p) st rs hx (by rw [State.raise_host, hu]) hopen hq
  exact ⟨hend, regsBut_trans (regsBut_raise u c p _ (cplRegs_rec x.q)) hregs, by rw [hadc, State.raise_adc]⟩

theorem State.Answers.get {s t : State} {id q st rs : Nat} (h : s.Answers id q st rs t) (hq : q < 16) {f : Fld} (h1 : 0x14000 ≤ f.off) (h2 : f.off < 0x15000) : t.get f = s.get f :=
  h.regs.get (conversion_notCpl hq h1 h2)

/-- ADC_STAT of a unit is read as before. -/
theorem State.Answers.stat {s t : State} {id q st rs n : Nat} (h : s.Answers id q st rs t) (hq : q < 16) (hn : n < 4) {f : Fld} (hf : f.off = (F.ADC_STAT.CAL_OK n).off) : t.get f = s.get f := by
  refine h.get hq ?_ ?_ <;>
  · simp only [hf, F.ADC_STAT.CAL_OK]
    omega

theorem State.Answers.unit {s t : State} {id q st rs : Nat} (h : s.Answers id q st rs t) (n : Nat) : t.unit n = s.unit n := unit_congr h.adc n

/-! ### CAL_RUN (R179, R363) -/

/-- CAL_RUN of a mask of units on this device. -/
def State.calRunHere (s : State) (own m : Nat) : State :=
  if m = 0 then s.calAnswer own ocCALRUN stOKEMPTY 0
  else if s.calRefused then s.calAnswer own ocCALRUN stLIMIT 0
  else if s.adc.units.any (fun (u : AdcUnit) => u.job.isSome) then s
  else (s.when (s.role == .basin) (fun s => s.setPhase own .working)).startCal m (some own)

/-- CAL_RUN of a descriptor: on this Basin, or a Spring's answer to it. -/
def State.calRunOf (s : State) (ans : Option RemoteAns) (x : Infl) : State :=
  if x.d.target < 192 then
    (if bytesAt x.d.param 0 1 % 16 = 0 then s.refuse x.id stOKEMPTY 0 else s.remoteAct x ans (calEnd (bytesAt x.d.param 0 1 % 16)))
  else s.calRunHere x.id (bytesAt x.d.param 0 1 % 16)

theorem calRun_eq (dt : Nat) (q : Fin 16) (ans : Option RemoteAns) (mask : Fin 16) (s : State) : exec (.calRun dt q ans mask) s = whenLive s fun s => match s.role with
    | .spring => (s.advance dt).calRunHere 0 mask
    | .basin => (s.advance dt).op q ocCALRUN fun s x => s.calRunOf ans x := rfl

theorem hull_calRunHere (s : State) (own m : Nat) : (s.calRunHere own m).hull = s.hull := by
  unfold State.calRunHere
  (repeat' split) <;> simp

theorem goesTo_calRun_spring {s : State} {dt : Nat} {q : Fin 16} {ans : Option RemoteAns} {mask : Fin 16} {p : State → Prop} (hlive : s.live = true) (hr : s.role = .spring)
    (hp : p ((s.advance dt).calRunHere 0 mask)) : GoesTo (exec (.calRun dt q ans mask) s) p := by
  rw [calRun_eq]
  refine goesTo_live hlive ?_
  rw [hr]
  dsimp only
  rwa [confine_hull ((hull_calRunHere _ _ _).trans (hull_advance dt s))]

theorem ready_runs {s : State} {q oc : Nat} {x : Infl} (h : s.Ready q oc x) : s.live = true ∧ s.role = .basin := by
  obtain ⟨hlive, hr, -, -, -⟩ := h
  exact ⟨hlive, hr⟩

/-- A row's descriptor is the one that is ready (R324). -/
theorem ready_op {s : State} {q oc : Nat} {x : Infl} (h : s.Ready q oc x) (dt : Nat) (f : State → Infl → State) : (s.advance dt).op q oc f = f (s.advance dt) x := by
  obtain ⟨-, -, hfind, -, -⟩ := h
  have hfind' : (s.advance dt).host.infl.find? (fun y => y.sq == q && y.d.opcode == oc && y.phase == .fetched) = some x := hfind
  rw [State.op, hfind']

theorem goesTo_calRun_basin {s : State} {dt : Nat} {q : Fin 16} {ans : Option RemoteAns} {mask : Fin 16} {x : Infl} {p : State → Prop} (h : s.Ready q 0x38 x)
    (hp : p ((s.advance dt).calRunOf ans x)) : GoesTo (exec (.calRun dt q ans mask) s) p := by
  have hop := ready_op h dt fun s x => s.calRunOf ans x
  obtain ⟨hlive, hr⟩ := ready_runs h
  have hhull : ((s.advance dt).calRunOf ans x).hull = s.hull := by
    unfold State.calRunOf
    (repeat' split) <;> simp [hull_calRunHere]
  rw [calRun_eq]
  refine goesTo_live hlive ?_
  rw [hr]
  change p (s.confine ((s.advance dt).op q 0x38 fun s x => s.calRunOf ans x))
  rwa [hop, confine_hull hhull]

theorem when_basin {s : State} (hr : s.role = .basin) (f : State → State) : s.when (s.role == .basin) f = f s := by
  rw [State.when, hr]
  rfl

theorem when_spring {s : State} (hr : s.role = .spring) (f : State → State) : s.when (s.role == .basin) f = s := by
  rw [State.when, hr]
  rfl

theorem calRunHere_empty (s : State) (own : Nat) : s.calRunHere own 0 = s.calAnswer own ocCALRUN stOKEMPTY 0 := if_pos rfl

theorem calRunHere_refused {s : State} {own m : Nat} (hm : m ≠ 0) (href : s.calRefused = true) : s.calRunHere own m = s.calAnswer own ocCALRUN stLIMIT 0 := by
  rw [State.calRunHere, if_neg hm, if_pos href]

theorem calRunHere_starts {s : State} {own m : Nat} (hm : m ≠ 0) (href : s.calRefused = false) (hjobs : ∀ u ∈ s.adc.units, u.job = none) :
    s.calRunHere own m = (s.when (s.role == .basin) fun s => s.setPhase own .working).startCal m (some own) := by
  have hnone : ¬ s.adc.units.any (fun (u : AdcUnit) => u.job.isSome) = true := by
    rw [List.any_eq_true]
    rintro ⟨u, hu, h⟩
    rw [hjobs u hu] at h
    exact Bool.false_ne_true h
  rw [State.calRunHere, if_neg hm, if_neg (by rw [href]; exact Bool.false_ne_true), if_neg hnone]

/-- A Spring's answer that decides a descriptor's outcome ends it so, where no busy Spring has held it (R363). -/
theorem remoteAct_ends {s : State} {x : Infl} {a : RemoteAns} {c : Nat × Nat} {st : RemoteAns → Option (Nat × Nat)} (hmay : s.mgmtMay x = true) (hreach : s.unreachable x.d.target = false)
    (hdue : x.due = 0) (hlost : a ≠ .lost) (hbusy : a ≠ .busy) (hst : st a = some c) : s.remoteAct x (some a) st = s.refuse x.id c.1 c.2 := by
  have hdue' : (x.due != 0) = false := by rw [hdue]; rfl
  cases a with
  | lost => exact absurd rfl hlost
  | busy => exact absurd rfl hbusy
  | done f => simp only [State.remoteAct, hmay, hreach, hst, hdue', Bool.not_true, Bool.false_eq_true, if_false, Option.map_some, Option.getD_some, Bool.and_false]
  | refused f => simp only [State.remoteAct, hmay, hreach, hst, hdue', Bool.not_true, Bool.false_eq_true, if_false, Option.map_some, Option.getD_some, Bool.and_false]

/-- The mask of CAL_RUN's PARAM byte. -/
theorem calMask_testBit (b : Nat) {n : Nat} (h : n < 4) : (b % 16).testBit n = b.testBit n := by
  rw [show 16 = 2 ^ 4 from rfl, Nat.testBit_mod_two_pow, decide_eq_true h, Bool.true_and]

section

variable {s : State} (dt : Nat) (q : Fin 16) (ans : Option RemoteAns) (mask : Fin 16)

/-- CAL_RUN at a Spring (R179, R363). -/
theorem calRun_spring (hlive : s.live = true) (hr : s.role = .spring) :
    (mask.val ≠ 0 → s.calRefused = false → (∀ u ∈ s.adc.units, u.job = none) → GoesTo (exec (.calRun dt q ans mask) s) (s.CalStarts mask (some 0))) ∧
    (mask.val = 0 → GoesTo (exec (.calRun dt q ans mask) s) fun t => t = (State.advance dt s).emit (.answer 0x38 0x01 0)) ∧
    (mask.val ≠ 0 → s.calRefused = true → GoesTo (exec (.calRun dt q ans mask) s) fun t => t = (State.advance dt s).emit (.answer 0x38 0x11 0)) := by
  refine ⟨fun hm href hjobs => goesTo_calRun_spring hlive hr ?_, fun hm => goesTo_calRun_spring hlive hr ?_, fun hm href => goesTo_calRun_spring hlive hr ?_⟩
  · rw [calRunHere_starts (s := s.advance dt) hm href hjobs, when_spring (s := s.advance dt) hr]
    obtain ⟨hmask, hrecd, hregs, hasked⟩ := startCal_starts (s.advance dt) mask (some 0)
    exact ⟨hmask, hrecd, hregs, hasked⟩
  · rw [hm, calRunHere_empty, calAnswer_spring (s := s.advance dt) hr]
    rfl
  · rw [calRunHere_refused (s := s.advance dt) hm href, calAnswer_spring (s := s.advance dt) hr]
    rfl

variable {x : Infl} (h : s.Ready q 0x38 x)
include h

theorem calRun_empty (hm : bytesAt x.d.param 0 1 % 16 = 0) : GoesTo (exec (.calRun dt q ans mask) s) fun t => t.Ended x.id 0x01 0 0 ∧ t.adc = s.adc := by
  obtain ⟨hx, hq⟩ := ready_inflAt h
  obtain ⟨hph, -, -⟩ := ready_fetched h
  obtain ⟨-, hr⟩ := ready_runs h
  have hans := refuse_answers (u := s.advance dt) stOKEMPTY 0 hx rfl (Phase.fetched_open hph) hq
  refine goesTo_calRun_basin h ?_
  have e : (s.advance dt).calRunOf ans x = (s.advance dt).refuse x.id stOKEMPTY 0 := by
    rcases Nat.lt_or_ge x.d.target 192 with ht | ht
    · rw [State.calRunOf, if_pos ht, if_pos hm]
    · rw [State.calRunOf, if_neg (Nat.not_lt.mpr ht), hm, calRunHere_empty, calAnswer_basin (s := s.advance dt) hr]
  rw [e]
  exact ⟨hans.ended, hans.adc⟩

section

variable (htarget : 192 ≤ x.d.target) (hm : bytesAt x.d.param 0 1 % 16 ≠ 0)
include htarget hm

theorem calRun_refused (href : s.calRefused = true) : GoesTo (exec (.calRun dt q ans mask) s) fun t => t.Ended x.id 0x11 0 0 ∧ t.adc = s.adc := by
  obtain ⟨hx, hq⟩ := ready_inflAt h
  obtain ⟨hph, -, -⟩ := ready_fetched h
  obtain ⟨-, hr⟩ := ready_runs h
  have hans := refuse_answers (u := s.advance dt) stLIMIT 0 hx rfl (Phase.fetched_open hph) hq
  refine goesTo_calRun_basin h ?_
  rw [State.calRunOf, if_neg (Nat.not_lt.mpr htarget), calRunHere_refused (s := s.advance dt) hm href, calAnswer_basin (s := s.advance dt) hr]
  exact ⟨hans.ended, hans.adc⟩

theorem calRun_starts (href : s.calRefused = false) (hjobs : ∀ u ∈ s.adc.units, u.job = none) : GoesTo (exec (.calRun dt q ans mask) s) fun t =>
    t.inflAt x.id = some { x with phase := .working } ∧ s.CalStarts (bytesAt x.d.param 0 1 % 16) (some x.id) t := by
  obtain ⟨hx, -⟩ := ready_inflAt h
  obtain ⟨-, hr⟩ := ready_runs h
  refine goesTo_calRun_basin h ?_
  rw [State.calRunOf, if_neg (Nat.not_lt.mpr htarget), calRunHere_starts (s := s.advance dt) hm href hjobs, when_basin (s := s.advance dt) hr]
  have hin : ((s.advance dt).setPhase x.id .working).inflAt x.id = some { x with phase := .working } :=
    State.inflAt_modInfl (s := s.advance dt) (f := fun y => { y with phase := .working }) hx fun _ => rfl
  obtain ⟨hmask, hrecd, hregs, hasked⟩ := startCal_starts ((s.advance dt).setPhase x.id .working) (bytesAt x.d.param 0 1 % 16) (some x.id)
  exact ⟨(State.inflAt_congr (by rw [startCal_host]) x.id).trans hin, hmask, hrecd, hregs, hasked⟩

end

theorem calRun_remote {f : Fin 16} (htarget : x.d.target < 192) (hm : bytesAt x.d.param 0 1 % 16 ≠ 0) (hmay : s.mgmtMay x = true) (hreach : s.unreachable x.d.target = false)
    (hdue : x.due = 0) (hans : ans = some (.done f)) : GoesTo (exec (.calRun dt q ans mask) s) fun t =>
      (if f.val &&& (bytesAt x.d.param 0 1 % 16) = 0 then t.Ended x.id 0 0 0 else t.Ended x.id 0x40 (f.val &&& (bytesAt x.d.param 0 1 % 16)) 0) ∧ t.adc = s.adc ∧ s.RegsBut (cplRegs x.q) t := by
  obtain ⟨hx, hq⟩ := ready_inflAt h
  obtain ⟨hph, -, -⟩ := ready_fetched h
  refine goesTo_calRun_basin h ?_
  rw [State.calRunOf, if_pos htarget, if_neg hm, hans]
  have hends := fun c hst => remoteAct_ends (s := s.advance dt) (x := x) (a := .done f) (c := c) (st := calEnd (bytesAt x.d.param 0 1 % 16)) hmay hreach hdue (by simp) (by simp) hst
  split
  · next hf =>
    rw [hends (stOK, 0) (if_pos hf)]
    obtain ⟨hend, hregs, hadc⟩ := refuse_answers (u := s.advance dt) stOK 0 hx rfl (Phase.fetched_open hph) hq
    exact ⟨hend, hadc, hregs⟩
  · next hf =>
    rw [hends _ (if_neg hf)]
    obtain ⟨hend, hregs, hadc⟩ := refuse_answers (u := s.advance dt) stDEVICE _ hx rfl (Phase.fetched_open hph) hq
    exact ⟨hend, hadc, hregs⟩

end

/-! ### SYSCAL (R182, R183, R363) -/

/-- A SYSCAL row of this Basin acts on its descriptor when that names the row's step. -/
theorem sysRow_basin {s : State} {q : Fin 16} {x : Infl} (h : s.Ready q 0x39 x) (dt step : Nat) (ans : Option RemoteAns) (p : List Nat) (hstep : bytesAt x.d.param 0 1 = step) (h2 : step ≤ 2) :
    (s.advance dt).sysRow q step ans p =
      if x.d.target < 192 then (if 31 < bytesAt x.d.param 1 1 then (s.advance dt).refuse x.id stTARGET 0 else (s.advance dt).remoteAct x ans (sysEnd step))
      else (s.advance dt).sysStep x.id step x.d.param := by
  obtain ⟨-, hr⟩ := ready_runs h
  have hr' : (s.advance dt).role = .basin := hr
  have hop := ready_op h dt fun s x =>
    if 2 < bytesAt x.d.param 0 1 then s.refuse x.id stOPCODE 0
    else if bytesAt x.d.param 0 1 != step then s
    else if x.d.target < 192 then (if 31 < bytesAt x.d.param 1 1 then s.refuse x.id stTARGET 0 else s.remoteAct x ans (sysEnd step))
    else s.sysStep x.id step x.d.param
  rw [if_neg (by rw [hstep]; exact Nat.not_lt.mpr h2), if_neg (by simp [hstep])] at hop
  rw [State.sysRow, hr']
  exact hop

theorem sysRow_spring {s : State} (hr : s.role = .spring) (q : Fin 16) (step : Nat) (ans : Option RemoteAns) (p : List Nat) : s.sysRow q step ans p = s.sysStep 0 step p := by
  rw [State.sysRow, hr]

/-- A SYSCAL row runs on a live device. -/
theorem goesTo_sysRow {s : State} {dt step : Nat} {q : Fin 16} {ans : Option RemoteAns} {p : List Nat} {P : State → Prop} (hlive : s.live = true) (hP : P ((s.advance dt).sysRow q step ans p)) :
    GoesTo (whenLive s fun s => (s.advance dt).sysRow q step ans p) P := by
  refine goesTo_live hlive ?_
  rwa [confine_hull (by simp)]

/-- The job of a SYSCAL step's PARAM bytes. -/
def sysJob (own : Nat) (full : Bool) (p : List Nat) : CalJob := .sys own full (bytesAt p 1 1) (bytesAt p 2 1 % 4) (bytesAt p 3 1) (toSigned 32 (bytesAt p 4 4))

section

variable {s : State} {own step : Nat} {p : List Nat}

theorem sysStep_noInput (hj : 31 < bytesAt p 1 1) : s.sysStep own step p = s.calAnswer own ocSYSCAL stTARGET 0 := if_pos hj

variable (hj : bytesAt p 1 1 ≤ 31)
include hj

theorem sysStep_refused (href : s.calRefused = true) : s.sysStep own step p = s.sysRefuse own (bytesAt p 1 1) step 5 := by
  unfold State.sysStep
  dsimp only
  rw [if_neg (Nat.not_lt.mpr hj), if_pos href]

variable (href : s.calRefused = false)
include href

/-- CLEAR takes VALID off, and says so (R182). -/
theorem sysStep_clears : ∃ l, s.sysStep own 2 p = ((s.set (F.ADC_SYS_CFG.VALID (bytesAt p 1 1)) 0).raise Ev.SYSCAL_DONE l).calAnswer own ocSYSCAL stOK 0 := by
  unfold State.sysStep
  dsimp only
  rw [if_neg (Nat.not_lt.mpr hj), if_neg (by rw [href]; exact Bool.false_ne_true), if_pos rfl]
  exact ⟨_, rfl⟩

/-- FULL without a ZERO at its gain is refused (R183). -/
theorem sysStep_noZero (hz : (s.zeroOf (bytesAt p 1 1)).map (fun z => z.2) ≠ some (bytesAt p 2 1 % 4)) : s.sysStep own 1 p = s.sysRefuse own (bytesAt p 1 1) 1 2 := by
  unfold State.sysStep
  dsimp only
  rw [if_neg (Nat.not_lt.mpr hj), if_neg (by rw [href]; exact Bool.false_ne_true), if_neg (by decide), if_pos (by simpa using hz)]

/-- ZERO, and FULL on a ZERO at its gain, measure on the input's unit (R182). -/
theorem sysStep_measures (hstep : step = 0 ∨ step = 1 ∧ ∃ z, s.zeroOf (bytesAt p 1 1) = some (z, bytesAt p 2 1 % 4)) (hjob : (s.unit (bytesAt p 1 1 / 8)).job = none) :
    s.sysStep own step p = (s.when (s.role == .basin) fun s => s.setPhase own .working).askJob (bytesAt p 1 1 / 8) (sysJob own (step == 1) p) := by
  have h2 : step ≠ 2 := by omega
  have hzero : ¬ (step = 1 && (s.zeroOf (bytesAt p 1 1)).map (fun (x : Int × Nat) => x.2) != some (bytesAt p 2 1 % 4)) = true := by
    rcases hstep with rfl | ⟨rfl, z, hz⟩
    · simp
    · simp [hz]
  unfold State.sysStep
  dsimp only
  rw [if_neg (Nat.not_lt.mpr hj), if_neg (by rw [href]; exact Bool.false_ne_true), if_neg h2, if_neg hzero, if_neg (by rw [hjob]; exact Bool.false_ne_true), sysJob]

end

/-- What a measurement asked for leaves at an idle unit. -/
structure State.Measures (s : State) (k : Nat) (job : CalJob) (t : State) : Prop where
  busy : t.get (F.ADC_STAT.CAL_BUSY k) = 1
  job : (t.unit k).job = some job
  regs : s.RegsBut [(F.ADC_STAT.CAL_BUSY k).off] t

theorem askJob_measures {s v : State} {k : Nat} (hadc : v.adc = s.adc) (hregs : s.RegsBut [] v) (hk : k < s.adc.units.length) (hrun : (s.unit k).run = none) (job : CalJob) :
    s.Measures k job (v.askJob k job) := by
  obtain ⟨hask, hkept⟩ := askJob_asked (s := v) (n := k) (by rw [hadc]; exact hk) job
  exact ⟨hask.busy (by rw [hkept, unit_congr hadc, hrun]), hask.job, regsBut_trans (regsBut_wider hregs (by simp)) (askJob_regs v k job)⟩

section

variable {s : State} (dt : Nat) (q : Fin 16) (ans : Option RemoteAns) (p : List Nat)

section

variable {x : Infl} (h : s.Ready q 0x39 x)
include h

/-- A SYSCAL row of a Basin for an input of its own. -/
theorem goesTo_sysStep {P : State → Prop} {step : Nat} (hstep : bytesAt x.d.param 0 1 = step) (h2 : step ≤ 2) (htarget : 192 ≤ x.d.target) (hP : P ((s.advance dt).sysStep x.id step x.d.param)) :
    GoesTo (whenLive s fun s => (s.advance dt).sysRow q step ans p) P := by
  obtain ⟨hlive, -⟩ := ready_runs h
  refine goesTo_sysRow hlive ?_
  rwa [sysRow_basin h dt step ans p hstep h2, if_neg (Nat.not_lt.mpr htarget)]

/-- A SYSCAL row of a Basin for a Spring's input, answered (R363). -/
theorem goesTo_sysRemote {P : State → Prop} {step : Nat} {a : RemoteAns} {c : Nat × Nat} (hstep : bytesAt x.d.param 0 1 = step) (h2 : step ≤ 2) (hj : bytesAt x.d.param 1 1 ≤ 31)
    (htarget : x.d.target < 192) (hmay : s.mgmtMay x = true) (hreach : s.unreachable x.d.target = false) (hdue : x.due = 0) (ha : ans = some a) (hlost : a ≠ .lost) (hbusy : a ≠ .busy)
    (hst : sysEnd step a = some c) (hP : P ((s.advance dt).refuse x.id c.1 c.2)) : GoesTo (whenLive s fun s => (s.advance dt).sysRow q step ans p) P := by
  obtain ⟨hlive, -⟩ := ready_runs h
  refine goesTo_sysRow hlive ?_
  rwa [sysRow_basin h dt step ans p hstep h2, if_pos htarget, if_neg (Nat.not_lt.mpr hj), ha, remoteAct_ends (s := s.advance dt) hmay hreach hdue hlost hbusy hst]

/-- A refused step completes its descriptor with the reason (R183). -/
theorem sysRefuse_answers (j step rs : Nat) : (s.advance dt).Answers x.id x.q stLIMIT rs ((s.advance dt).sysRefuse x.id j step rs) := by
  obtain ⟨hx, hq⟩ := ready_inflAt h
  obtain ⟨hph, -, -⟩ := ready_fetched h
  obtain ⟨-, hr⟩ := ready_runs h
  exact raised_answers _ _ _ _ _ hr hx rfl (Phase.fetched_open hph) hq

theorem advance_refuse_answers (st rs : Nat) : (s.advance dt).Answers x.id x.q st rs ((s.advance dt).refuse x.id st rs) := by
  obtain ⟨hx, hq⟩ := ready_inflAt h
  obtain ⟨hph, -, -⟩ := ready_fetched h
  exact refuse_answers st rs hx rfl (Phase.fetched_open hph) hq

/-- An input above 31 is no target, wherever it is (R329). -/
theorem syscalZero_noInput (hstep : bytesAt x.d.param 0 1 = 0) (hj : 31 < bytesAt x.d.param 1 1) : GoesTo (exec (.syscalZero dt q ans p) s) ((s.advance dt).Answers x.id x.q stTARGET 0) := by
  obtain ⟨hlive, hr⟩ := ready_runs h
  refine goesTo_sysRow hlive ?_
  rw [sysRow_basin h dt 0 ans p hstep (by decide), sysStep_noInput hj, if_pos hj, calAnswer_basin (s := s.advance dt) hr]
  have hans := advance_refuse_answers dt q h stTARGET 0
  split
  · exact hans
  · exact hans

section

variable (htarget : 192 ≤ x.d.target) (hj : bytesAt x.d.param 1 1 ≤ 31)
include htarget hj

theorem syscal_refused {step : Nat} (hstep : bytesAt x.d.param 0 1 = step) (h2 : step ≤ 2) (href : s.calRefused = true) :
    GoesTo (whenLive s fun s => (s.advance dt).sysRow q step ans p) ((s.advance dt).Answers x.id x.q stLIMIT 5) := by
  refine goesTo_sysStep dt q ans p h hstep h2 htarget ?_
  rw [sysStep_refused (s := s.advance dt) hj href]
  exact sysRefuse_answers dt q h _ _ _

variable (href : s.calRefused = false)
include href

theorem syscal_measures {step : Nat} (hstep : bytesAt x.d.param 0 1 = step) (hk : bytesAt x.d.param 1 1 / 8 < s.adc.units.length) (hjob : (s.unit (bytesAt x.d.param 1 1 / 8)).job = none)
    (hrun : (s.unit (bytesAt x.d.param 1 1 / 8)).run = none) (hzero : step = 0 ∨ step = 1 ∧ ∃ z, s.zeroOf (bytesAt x.d.param 1 1) = some (z, bytesAt x.d.param 2 1 % 4)) :
    GoesTo (whenLive s fun s => (s.advance dt).sysRow q step ans p) fun t => t.inflAt x.id = some { x with phase := .working } ∧
      s.Measures (bytesAt x.d.param 1 1 / 8) (sysJob x.id (step == 1) x.d.param) t := by
  obtain ⟨hx, -⟩ := ready_inflAt h
  obtain ⟨-, hr⟩ := ready_runs h
  refine goesTo_sysStep dt q ans p h hstep (by omega) htarget ?_
  rw [sysStep_measures (s := s.advance dt) hj href hzero hjob, when_basin (s := s.advance dt) hr]
  have hin : ((s.advance dt).setPhase x.id .working).inflAt x.id = some { x with phase := .working } :=
    State.inflAt_modInfl (s := s.advance dt) (f := fun y => { y with phase := .working }) hx fun _ => rfl
  have hhost := fun j => (onlyUnits_askJob ((s.advance dt).setPhase x.id .working) (bytesAt x.d.param 1 1 / 8) j).host
  exact ⟨(State.inflAt_congr (by rw [hhost]) x.id).trans hin, askJob_measures (s := s) (v := (s.advance dt).setPhase x.id .working) rfl (regsBut_hidden _ rfl rfl rfl) hk hrun _⟩

theorem syscalFull_noZero (hstep : bytesAt x.d.param 0 1 = 1) (hz : (s.zeroOf (bytesAt x.d.param 1 1)).map (fun z => z.2) ≠ some (bytesAt x.d.param 2 1 % 4)) :
    GoesTo (exec (.syscalFull dt q ans p) s) ((s.advance dt).Answers x.id x.q stLIMIT 2) := by
  refine goesTo_sysStep dt q ans p h hstep (by decide) htarget ?_
  rw [sysStep_noZero (s := s.advance dt) hj href hz]
  exact sysRefuse_answers dt q h _ _ _

theorem syscalClear_clears (hstep : bytesAt x.d.param 0 1 = 2) : GoesTo (exec (.syscalClear dt q ans p) s) fun t => t.Ended x.id 0 0 0 ∧
    t.get (F.ADC_SYS_CFG.VALID (bytesAt x.d.param 1 1)) = 0 ∧ s.RegsBut ((F.ADC_SYS_CFG.VALID (bytesAt x.d.param 1 1)).off :: cplRegs x.q) t := by
  obtain ⟨hx, hq⟩ := ready_inflAt h
  obtain ⟨hph, -, -⟩ := ready_fetched h
  obtain ⟨-, hr⟩ := ready_runs h
  refine goesTo_sysStep dt q ans p h hstep (by decide) htarget ?_
  obtain ⟨l, e⟩ := sysStep_clears (s := s.advance dt) (own := x.id) hj href
  rw [e]
  have hans := raised_answers (u := (s.advance dt).set (F.ADC_SYS_CFG.VALID (bytesAt x.d.param 1 1)) 0) Ev.SYSCAL_DONE l ocSYSCAL stOK 0 hr hx rfl (Phase.fetched_open hph) hq
  refine ⟨hans.ended, ?_, ?_⟩
  · rw [hans.get hq (by simp [F.ADC_SYS_CFG.VALID]; omega) (by simp [F.ADC_SYS_CFG.VALID]; omega), State.get_set_same _ _ _ rfl]
    rfl
  · exact regsBut_trans ((advance_regs s dt _).set _ 0 List.mem_cons_self) (regsBut_wider hans.regs fun o ho => List.mem_cons_of_mem _ ho)

end

end

/-- A SYSCAL step at a Spring (R363). -/
theorem syscal_spring (hlive : s.live = true) (hr : s.role = .spring) {step : Nat} (hj : bytesAt p 1 1 ≤ 31) (href : s.calRefused = false) (hk : bytesAt p 1 1 / 8 < s.adc.units.length)
    (hjob : (s.unit (bytesAt p 1 1 / 8)).job = none) (hrun : (s.unit (bytesAt p 1 1 / 8)).run = none)
    (hzero : step = 0 ∨ step = 1 ∧ ∃ z, s.zeroOf (bytesAt p 1 1) = some (z, bytesAt p 2 1 % 4)) :
    GoesTo (whenLive s fun s => (s.advance dt).sysRow q step ans p) (s.Measures (bytesAt p 1 1 / 8) (sysJob 0 (step == 1) p)) := by
  refine goesTo_sysRow hlive ?_
  rw [sysRow_spring (s := s.advance dt) hr, sysStep_measures (s := s.advance dt) hj href hzero hjob, when_spring (s := s.advance dt) hr]
  exact askJob_measures (s := s) (v := s.advance dt) rfl (advance_regs s dt _) hk hrun _

theorem syscalClear_spring (hlive : s.live = true) (hr : s.role = .spring) (hj : bytesAt p 1 1 ≤ 31) (href : s.calRefused = false) :
    GoesTo (exec (.syscalClear dt q ans p) s) fun t => t.get (F.ADC_SYS_CFG.VALID (bytesAt p 1 1)) = 0 ∧ s.RegsBut ((F.ADC_SYS_CFG.VALID (bytesAt p 1 1)).off :: recCounters) t := by
  refine goesTo_sysRow hlive ?_
  obtain ⟨l, e⟩ := sysStep_clears (s := s.advance dt) (own := 0) hj href
  rw [sysRow_spring (s := s.advance dt) hr, e, calAnswer_spring (by rw [State.raise_role, State.set_role, State.advance_role, hr]), State.emit_get]
  refine ⟨?_, ?_⟩
  · rw [State.raise_get, State.get_set_same _ _ _ rfl]
    · rfl
    · simp only [Fld.quiet, F.ADC_SYS_CFG.VALID, F.REC_LOST_CNT.COUNT, F.REC_SUPP_CNT.COUNT, Bool.and_eq_true, bne_iff_ne, ne_eq]
      omega
  · exact ((advance_regs s dt _).set (F.ADC_SYS_CFG.VALID (bytesAt p 1 1)) 0 List.mem_cons_self).raise _ _ fun _ ho => List.mem_cons_of_mem _ ho

end

end Sys2Proof.Machine
end

section
/-! PROOFS. Calibrations measured (R178, R180, R182, R183); every clause of O28. -/
namespace Sys2Proof.Machine

/-! ### A SYSCAL step's 256 conversions (R182) -/

/-- A unit's own corrections are registers of its own, so a code is the same where they are (R162). -/
theorem convCode_congr {s t : State} {l : List Nat} (h : s.RegsBut l t) (n gain : Nat) (hl : ∀ k, (F.ADC_CAL.LO n k).off ∉ l) : t.convCode n gain = s.convCode n gain := by
  have hlo : ∀ k, t.get (F.ADC_CAL.LO n k) = s.get (F.ADC_CAL.LO n k) := fun k => h.get (hl k)
  have hhi : ∀ k, t.get (F.ADC_CAL.HI n k) = s.get (F.ADC_CAL.HI n k) := fun k => h.get (f := F.ADC_CAL.HI n k) (hl k)
  have hlin : t.linSum n = s.linSum n := by
    funext raw
    simp only [State.linSum, State.getI, hlo, hhi]
  have hself : t.selfCorrect n gain = s.selfCorrect n gain := by
    funext c
    simp only [State.selfCorrect, State.getI, hlo, hlin]
  funext c
  simp only [State.convCode, hself]

/-- The unit's measurement has ended. -/
def State.measured (s : State) (n : Nat) : State := (s.modUnit n fun u => { u with job := none }).set (F.ADC_STAT.CAL_BUSY n) 0

theorem measured_regs (s : State) (n : Nat) : s.RegsBut [(F.ADC_STAT.CAL_BUSY n).off] (s.measured n) := ((regsBut_same s _).modUnit n _).set _ 0 List.mem_cons_self

theorem measured_busy (s : State) (n : Nat) : (s.measured n).get (F.ADC_STAT.CAL_BUSY n) = 0 := State.get_set_same _ _ _ rfl

theorem measured_job {s : State} {n : Nat} (hn : n < s.adc.units.length) : ((s.measured n).unit n).job = none := by
  rw [State.measured, set_unit, unit_modUnit_same hn]

theorem measured_convCode (s : State) (n gain : Nat) : (s.measured n).convCode n gain = s.convCode n gain :=
  convCode_congr (measured_regs s n) n gain fun k => by
    simp only [List.mem_singleton, F.ADC_CAL.LO, F.ADC_STAT.CAL_BUSY]
    omega

/-- The record of an input (R184). -/
def State.storeSys (s : State) (j gain : Nat) (z g : Int) : State :=
  (((s.setI (F.ADC_SYS_OFFSET.OFFSET j) z).setI (F.ADC_SYS_GAIN.GAIN j) g).set (F.ADC_SYS_CFG.GAIN_SEL j) gain).set (F.ADC_SYS_CFG.VALID j) 1

/-- The ZERO of an input. -/
def State.storeZero (s : State) (j gain : Nat) (sum : Int) : State :=
  { s with adc := { s.adc with zeros := s.adc.zeros.filter (fun (x : Nat × Int × Nat) => x.1 != j) ++ [(j, sum, gain)] } }

theorem storeZero_zeroOf (s : State) (j gain : Nat) (sum : Int) : (s.storeZero j gain sum).zeroOf j = some (sum, gain) := by
  have hnone : (s.adc.zeros.filter fun (x : Nat × Int × Nat) => x.1 != j).find? (fun x => x.1 == j) = none := by
    rw [List.find?_eq_none]
    intro x hx
    simpa using (List.mem_filter.mp hx).2
  simp only [State.zeroOf, State.storeZero, List.find?_append, hnone]
  simp

/-- What a measurement's sum comes to: refused for a mark, the ZERO stored, or the record of offset and gain where the span and the gain are in range (R182, R183). -/
def State.measureOutcome (s : State) (own : Nat) (full : Bool) (j gain : Nat) (target sum : Int) (mark : Bool) : State :=
  let z := ((s.zeroOf j).getD (0, gain)).1
  if mark then s.sysRefuse own j (b2n full) 1
  else if full then
    if (sum - z).natAbs < 65536 then s.sysRefuse own j (b2n full) 3
    else if nearest (target * 2 ^ 30) (sum - z) < -(2 ^ 31) || 2 ^ 31 - 1 < nearest (target * 2 ^ 30) (sum - z) then s.sysRefuse own j (b2n full) 4
    else
      let t := s.storeSys j gain z (nearest (target * 2 ^ 30) (sum - z))
      (t.raise Ev.SYSCAL_DONE [j, 1, gain, t.get (F.ADC_SYS_OFFSET.OFFSET j), t.get (F.ADC_SYS_GAIN.GAIN j)]).calAnswer own ocSYSCAL stOK 0
  else ((s.storeZero j gain sum).raise Ev.SYSCAL_DONE [j, 0, gain, sPay sum, s.get (F.ADC_SYS_GAIN.GAIN j)]).calAnswer own ocSYSCAL stOK 0

theorem hull_measureOutcome (s : State) (own : Nat) (full : Bool) (j gain : Nat) (target sum : Int) (mark : Bool) : (s.measureOutcome own full j gain target sum mark).hull = s.hull := by
  unfold State.measureOutcome State.sysRefuse State.storeSys State.storeZero
  dsimp only
  (repeat' split) <;> simp

/-- The 256 conversions have been made: their sum decides. -/
theorem goesTo_measured {s : State} {dt : Nat} {n : Fin 4} {convs : List Conv} {own j gain smp : Nat} {full : Bool} {target : Int} {p : State → Prop} (hlive : s.live = true)
    (hjob : (s.unit n).job = some (.sys own full j gain smp target)) (hdue : (s.unit n).jobDue = false) (ht : (s.unit n).jobAt + 256 * ((smp + 1) * 5 + 80) ≤ s.time.cyc + dt)
    (hlen : convs.length = 256)
    (hp : p (((s.advance dt).measured n).measureOutcome own full j gain target ((convs.map (s.convCode n gain)).foldl (· + ·) 0) (convs.any fun c => (rangeMark gain c.1).isSome))) :
    GoesTo (exec (.syscalMeasureDone dt n convs) s) p := by
  change GoesTo (execSyscalMeasureDone dt n convs s) _
  unfold execSyscalMeasureDone
  refine goesTo_live hlive ?_
  have hjob' : ((s.advance dt).unit n).job = some (.sys own full j gain smp target) := hjob
  have hdue' : ((s.advance dt).unit n).jobDue = false := hdue
  have ht' : ¬ (s.advance dt).time.cyc < ((s.advance dt).unit n).jobAt + 256 * ((smp + 1) * 5 + 80) := Nat.not_lt.mpr ht
  have hcode : ((s.advance dt).measured n).convCode n gain = s.convCode n gain := measured_convCode (s.advance dt) n gain
  simp only [hjob', hdue', hlen, decide_eq_false ht', bne_self_eq_false, Bool.or_self, Bool.false_eq_true, if_false]
  change p (s.confine (State.measureOutcome ((s.advance dt).measured n) own full j gain target ((convs.map (((s.advance dt).measured n).convCode n gain)).foldl (· + ·) 0) _))
  rw [hcode, confine_hull ((hull_measureOutcome _ _ _ _ _ _ _ _).trans (by simp [State.measured]))]
  exact hp

/-! ### What the sum comes to (R182, R183) -/

/-- A SYSCAL step's descriptor at work on this Basin. -/
structure State.AtWork (s : State) (own : Nat) (x : Infl) : Prop where
  role : s.role = .basin
  infl : s.inflAt own = some x
  working : x.phase = .working
  pair : x.q < 16

theorem State.AtWork.pending {s : State} {own : Nat} {x : Infl} (h : s.AtWork own x) : x.phase.isDone = false := by
  rw [h.working]
  rfl

/-- What a measurement's end leaves beside what its sum comes to. -/
structure State.MeasureEnds (s : State) (n : Nat) (t : State) : Prop where
  job : (t.unit n).job = none
  busy : t.get (F.ADC_STAT.CAL_BUSY n) = 0

/-- The record's registers stand apart from a unit's ADC_STAT. -/
theorem sysRecord_notStat (n j : Nat) :
    (F.ADC_STAT.CAL_BUSY n).off ∉ [(F.ADC_SYS_OFFSET.OFFSET j).off, (F.ADC_SYS_GAIN.GAIN j).off, (F.ADC_SYS_CFG.VALID j).off] := by
  simp only [List.mem_cons, List.not_mem_nil, or_false, not_or, F.ADC_STAT.CAL_BUSY, F.ADC_SYS_OFFSET.OFFSET, F.ADC_SYS_GAIN.GAIN, F.ADC_SYS_CFG.VALID]
  omega

theorem storeSys_regs (s : State) (j gain : Nat) (z g : Int) :
    s.RegsBut [(F.ADC_SYS_OFFSET.OFFSET j).off, (F.ADC_SYS_GAIN.GAIN j).off, (F.ADC_SYS_CFG.VALID j).off] (s.storeSys j gain z g) :=
  ((((regsBut_same s _).set (F.ADC_SYS_OFFSET.OFFSET j) _ (by simp)).set (F.ADC_SYS_GAIN.GAIN j) _ (by simp)).set (F.ADC_SYS_CFG.GAIN_SEL j) gain (by
    simp [F.ADC_SYS_CFG.GAIN_SEL, F.ADC_SYS_CFG.VALID])).set (F.ADC_SYS_CFG.VALID j) 1 (by simp)

theorem storeSys_adc (s : State) (j gain : Nat) (z g : Int) : (s.storeSys j gain z g).adc = s.adc := rfl

theorem ofSigned_lt (w : Nat) (v : Int) : ofSigned w v < 2 ^ w := by
  have h1 := Int.emod_nonneg v (b := 2 ^ w) (by positivity)
  have h2 := Int.emod_lt_of_pos v (b := 2 ^ w) (by positivity)
  have h3 : ((2 ^ w : Nat) : Int) = 2 ^ w := by push_cast; rfl
  unfold ofSigned
  omega

/-- The record reads back (R184). -/
theorem storeSys_shows (s : State) (j gain : Nat) (z : Int) {g : Int} (hlo : -(2 ^ 31) ≤ g) (hhi : g ≤ 2 ^ 31 - 1) : (s.storeSys j gain z g).get (F.ADC_SYS_OFFSET.OFFSET j) = ofSigned 32 z ∧
    (s.storeSys j gain z g).getI (F.ADC_SYS_GAIN.GAIN j) = g ∧ (s.storeSys j gain z g).get (F.ADC_SYS_CFG.GAIN_SEL j) = gain % 4 ∧ (s.storeSys j gain z g).get (F.ADC_SYS_CFG.VALID j) = 1 := by
  have hfit : sfits 32 g = true := by
    simp only [sfits, Bool.and_eq_true, decide_eq_true_eq]
    omega
  unfold State.storeSys
  refine ⟨?_, ?_, ?_, State.get_set_same _ _ _ rfl⟩
  · rw [State.get_set_apart _ _ _ _ rfl, State.get_set_apart _ _ _ _ rfl, State.setI, State.get_set_apart _ _ _ _ rfl, State.setI, State.get_set_same _ _ _ rfl]
    · exact Nat.mod_eq_of_lt (ofSigned_lt 32 z)
    all_goals
      simp only [Fld.apart, F.ADC_SYS_OFFSET.OFFSET, F.ADC_SYS_GAIN.GAIN, F.ADC_SYS_CFG.GAIN_SEL, F.ADC_SYS_CFG.VALID, Bool.or_eq_true, bne_iff_ne, ne_eq]
      omega
  · rw [State.getI, State.get_set_apart _ _ _ _ rfl, State.get_set_apart _ _ _ _ rfl, State.setI, State.get_set_same _ _ _ rfl]
    · exact toSigned_ofSigned (Nat.succ_pos 31) hfit
    all_goals
      simp only [Fld.apart, F.ADC_SYS_GAIN.GAIN, F.ADC_SYS_CFG.GAIN_SEL, F.ADC_SYS_CFG.VALID, Bool.or_eq_true, bne_iff_ne, ne_eq]
      omega
  · rw [State.get_set_apart _ _ _ _ rfl (by simp [Fld.apart, F.ADC_SYS_CFG.GAIN_SEL, F.ADC_SYS_CFG.VALID]), State.get_set_same _ _ _ rfl]
    rfl

section

variable {s : State} {dt : Nat} {n : Fin 4} {convs : List Conv} {own j gain smp : Nat} {full : Bool} {target : Int} {x : Infl} (hlive : s.live = true) (hn : n.val < s.adc.units.length)
  (hjob : (s.unit n).job = some (.sys own full j gain smp target)) (hdue : (s.unit n).jobDue = false) (ht : (s.unit n).jobAt + 256 * ((smp + 1) * 5 + 80) ≤ s.time.cyc + dt)
  (hlen : convs.length = 256) (hx : s.AtWork own x)

include hn hx

/-- A step that ends refused: the reason completes the descriptor, and nothing is stored (R183). -/
theorem measured_refuses (step rs : Nat) : (((s.advance dt).measured n).sysRefuse own j step rs).Ended own 0x11 rs 0 ∧ s.MeasureEnds n (((s.advance dt).measured n).sysRefuse own j step rs) ∧
    (((s.advance dt).measured n).sysRefuse own j step rs).adc.zeros = s.adc.zeros ∧
    s.RegsBut ((F.ADC_STAT.CAL_BUSY n).off :: recCounters ++ cplRegs x.q) (((s.advance dt).measured n).sysRefuse own j step rs) := by
  have hans := raised_answers (u := (s.advance dt).measured n) Ev.SYSCAL_REFUSED [j, step, rs] ocSYSCAL stLIMIT rs hx.role hx.infl rfl hx.pending hx.pair
  refine ⟨hans.ended, ⟨?_, ?_⟩, (congrArg AdcSt.zeros hans.adc).trans rfl, ?_⟩
  · rw [State.sysRefuse, hans.unit, measured_job (s := s.advance dt) hn]
  · rw [State.sysRefuse, hans.stat hx.pair n.isLt (f := F.ADC_STAT.CAL_BUSY n) rfl, measured_busy]
  · exact regsBut_trans (regsBut_trans (advance_regs s dt _) (regsBut_wider (measured_regs _ n) (by simp))) (regsBut_wider hans.regs fun o ho => List.mem_append_right _ ho)

omit hn in
/-- A step that succeeds at a state `u` in which it has stored what it found. -/
theorem stored_answers {u : State} (l : List Nat) {regs : List Nat} (hrole : u.role = s.role) (hhost : u.host = s.host) (hunit : (u.unit n).job = none)
    (hbusy : u.get (F.ADC_STAT.CAL_BUSY n) = 0) (hregs : s.RegsBut ((F.ADC_STAT.CAL_BUSY n).off :: regs) u) :
    u.Answers own x.q 0 0 ((u.raise Ev.SYSCAL_DONE l).calAnswer own ocSYSCAL stOK 0) ∧ s.MeasureEnds n ((u.raise Ev.SYSCAL_DONE l).calAnswer own ocSYSCAL stOK 0) ∧
      s.RegsBut ((F.ADC_STAT.CAL_BUSY n).off :: regs ++ cplRegs x.q) ((u.raise Ev.SYSCAL_DONE l).calAnswer own ocSYSCAL stOK 0) := by
  have hans := raised_answers (s := s) (u := u) Ev.SYSCAL_DONE l ocSYSCAL stOK 0 (hrole.trans hx.role) hx.infl hhost hx.pending hx.pair
  refine ⟨hans, ⟨?_, ?_⟩, ?_⟩
  · rw [hans.unit, hunit]
  · rw [hans.stat hx.pair n.isLt (f := F.ADC_STAT.CAL_BUSY n) rfl, hbusy]
  · exact regsBut_trans (regsBut_wider hregs fun o ho => List.mem_append_left _ ho) (regsBut_wider hans.regs fun o ho => List.mem_append_right _ ho)

/-- The record stored completes the step. -/
theorem measured_stores (gain : Nat) (z : Int) {g : Int} (hj : j ≤ 31) (hlo : -(2 ^ 31) ≤ g) (hhi : g ≤ 2 ^ 31 - 1) (l : List Nat) :
    let t := ((((s.advance dt).measured n).storeSys j gain z g).raise Ev.SYSCAL_DONE l).calAnswer own ocSYSCAL stOK 0
    t.Ended own 0 0 0 ∧ t.get (F.ADC_SYS_OFFSET.OFFSET j) = ofSigned 32 z ∧ t.getI (F.ADC_SYS_GAIN.GAIN j) = g ∧ t.get (F.ADC_SYS_CFG.GAIN_SEL j) = gain % 4 ∧
      t.get (F.ADC_SYS_CFG.VALID j) = 1 ∧ (t.unit n).job = none ∧
      s.RegsBut ([(F.ADC_STAT.CAL_BUSY n).off, (F.ADC_SYS_OFFSET.OFFSET j).off, (F.ADC_SYS_GAIN.GAIN j).off, (F.ADC_SYS_CFG.VALID j).off] ++ cplRegs x.q) t := by
  have hbusy := measured_busy (s.advance dt) n
  have hunit := measured_job (s := s.advance dt) hn
  have hregs := regsBut_trans (advance_regs s dt _) (measured_regs (s.advance dt) n)
  have hrole : ((s.advance dt).measured n).role = s.role := rfl
  have hhost : ((s.advance dt).measured n).host = s.host := rfl
  generalize (s.advance dt).measured n = u at hbusy hunit hregs hrole hhost ⊢
  obtain ⟨hoffset, hgain, hsel, hvalid⟩ := storeSys_shows u j gain z hlo hhi
  have hstore := storeSys_regs u j gain z g
  have hbusy' := (hstore.get (sysRecord_notStat n j)).trans hbusy
  have hadc := storeSys_adc u j gain z g
  have hrole' : (u.storeSys j gain z g).role = u.role := rfl
  have hhost' : (u.storeSys j gain z g).host = u.host := rfl
  generalize u.storeSys j gain z g = v at hoffset hgain hsel hvalid hstore hbusy' hadc hrole' hhost' ⊢
  obtain ⟨hans, hends, hall⟩ := stored_answers hx l (hrole'.trans hrole) (hhost'.trans hhost) (by rw [unit_congr hadc, hunit]) hbusy'
    (regsBut_trans (regsBut_wider hregs (by simp)) (regsBut_wider hstore fun o ho => List.mem_cons_of_mem (F.ADC_STAT.CAL_BUSY n).off ho))
  have hget : ∀ {f : Fld}, 0x14500 ≤ f.off → f.off < 0x14700 → ((v.raise Ev.SYSCAL_DONE l).calAnswer own ocSYSCAL stOK 0).get f = v.get f := fun h h' =>
    hans.get hx.pair (Nat.le_trans (by decide) h) (Nat.lt_trans h' (by decide))
  refine ⟨hans.ended, ?_, ?_, ?_, ?_, hends.job, hall⟩
  · rw [hget (by simp [F.ADC_SYS_OFFSET.OFFSET]) (by simp only [F.ADC_SYS_OFFSET.OFFSET]; omega), hoffset]
  · rw [State.getI, hget (by simp [F.ADC_SYS_GAIN.GAIN]; omega) (by simp only [F.ADC_SYS_GAIN.GAIN]; omega)]
    exact hgain
  · rw [hget (by simp [F.ADC_SYS_CFG.GAIN_SEL]; omega) (by simp only [F.ADC_SYS_CFG.GAIN_SEL]; omega), hsel]
  · rw [hget (by simp [F.ADC_SYS_CFG.VALID]; omega) (by simp only [F.ADC_SYS_CFG.VALID]; omega), hvalid]

include hlive hjob hdue ht hlen

/-- A marked conversion refuses the step (R183). -/
theorem measure_marked (hmark : ∃ c ∈ convs, rangeMark gain c.1 ≠ none) : GoesTo (exec (.syscalMeasureDone dt n convs) s) fun t => t.Ended own 0x11 1 0 ∧ s.MeasureEnds n t ∧
    t.adc.zeros = s.adc.zeros ∧ s.RegsBut ((F.ADC_STAT.CAL_BUSY n).off :: recCounters ++ cplRegs x.q) t := by
  refine goesTo_measured hlive hjob hdue ht hlen ?_
  have hany : (convs.any fun c => (rangeMark gain c.1).isSome) = true := by
    rw [List.any_eq_true]
    exact hmark.imp fun c h => ⟨h.1, Option.isSome_iff_ne_none.mpr h.2⟩
  rw [State.measureOutcome, if_pos hany]
  exact measured_refuses hn hx _ _

variable (hclean : ∀ c ∈ convs, rangeMark gain c.1 = none)
include hclean

omit hlive hn hjob hdue ht hlen hx in
theorem marks_none : (convs.any fun c => (rangeMark gain c.1).isSome) = false := by
  rw [List.any_eq_false]
  intro c hc
  rw [hclean c hc]
  exact Bool.false_ne_true

/-- ZERO stores its sum and gain (R182). -/
theorem measure_zero (hfull : full = false) : GoesTo (exec (.syscalMeasureDone dt n convs) s) fun t => t.Ended own 0 0 0 ∧
    t.zeroOf j = some ((convs.map (s.convCode n gain)).foldl (· + ·) 0, gain) ∧ s.MeasureEnds n t ∧ s.RegsBut ((F.ADC_STAT.CAL_BUSY n).off :: cplRegs x.q) t := by
  refine goesTo_measured hlive hjob hdue ht hlen ?_
  have hclean' : ¬ (convs.any fun c => (rangeMark gain c.1).isSome) = true := by
    rw [marks_none hclean]
    exact Bool.false_ne_true
  rw [State.measureOutcome, if_neg hclean', if_neg (by rw [hfull]; exact Bool.false_ne_true)]
  generalize (convs.map (s.convCode n gain)).foldl (· + ·) 0 = sum
  have hzero := storeZero_zeroOf ((s.advance dt).measured n) j gain sum
  obtain ⟨hans, hends, hregs⟩ := stored_answers (u := ((s.advance dt).measured n).storeZero j gain sum) (regs := []) hx
    [j, 0, gain, sPay sum, ((s.advance dt).measured n).get (F.ADC_SYS_GAIN.GAIN j)] rfl rfl (measured_job (s := s.advance dt) hn) (measured_busy (s.advance dt) n)
    (regsBut_trans (advance_regs s dt _) (measured_regs (s.advance dt) n))
  refine ⟨hans.ended, ?_, hends, hregs⟩
  rw [State.zeroOf, hans.adc]
  exact hzero

variable {z : Int} (hz : s.zeroOf j = some (z, gain)) (hfull : full = true)
include hz hfull

/-- FULL on a span too small is refused (R183). -/
theorem measure_small (hd : ((convs.map (s.convCode n gain)).foldl (· + ·) 0 - z).natAbs < 65536) : GoesTo (exec (.syscalMeasureDone dt n convs) s) fun t =>
    t.Ended own 0x11 3 0 ∧ s.RegsBut ((F.ADC_STAT.CAL_BUSY n).off :: recCounters ++ cplRegs x.q) t := by
  refine goesTo_measured hlive hjob hdue ht hlen ?_
  have hz' : ((s.advance dt).measured n).zeroOf j = some (z, gain) := hz
  unfold State.measureOutcome
  rw [marks_none hclean, hz', hfull, if_neg Bool.false_ne_true, if_pos rfl, Option.getD_some, if_pos hd]
  obtain ⟨hend, -, -, hregs⟩ := measured_refuses (dt := dt) (j := j) hn hx (b2n true) 3
  exact ⟨hend, hregs⟩

section

variable (hd : 65536 ≤ ((convs.map (s.convCode n gain)).foldl (· + ·) 0 - z).natAbs)
include hd

/-- FULL whose gain does not fit is refused (R183). -/
theorem measure_outOfRange (hg : nearest (target * 2 ^ 30) ((convs.map (s.convCode n gain)).foldl (· + ·) 0 - z) < -(2 ^ 31) ∨
    2 ^ 31 - 1 < nearest (target * 2 ^ 30) ((convs.map (s.convCode n gain)).foldl (· + ·) 0 - z)) : GoesTo (exec (.syscalMeasureDone dt n convs) s) fun t =>
    t.Ended own 0x11 4 0 ∧ s.RegsBut ((F.ADC_STAT.CAL_BUSY n).off :: recCounters ++ cplRegs x.q) t := by
  refine goesTo_measured hlive hjob hdue ht hlen ?_
  have hz' : ((s.advance dt).measured n).zeroOf j = some (z, gain) := hz
  unfold State.measureOutcome
  rw [marks_none hclean, hz', hfull, if_neg Bool.false_ne_true, if_pos rfl, Option.getD_some, if_neg (Nat.not_lt.mpr hd), if_pos (by rwa [Bool.or_eq_true, decide_eq_true_eq, decide_eq_true_eq])]
  obtain ⟨hend, -, -, hregs⟩ := measured_refuses (dt := dt) (j := j) hn hx (b2n true) 4
  exact ⟨hend, hregs⟩

/-- FULL stores the record of offset and gain with VALID (R182, R184). -/
theorem measure_full (hj : j ≤ 31) (hlo : -(2 ^ 31) ≤ nearest (target * 2 ^ 30) ((convs.map (s.convCode n gain)).foldl (· + ·) 0 - z))
    (hhi : nearest (target * 2 ^ 30) ((convs.map (s.convCode n gain)).foldl (· + ·) 0 - z) ≤ 2 ^ 31 - 1) : GoesTo (exec (.syscalMeasureDone dt n convs) s) fun t =>
    t.Ended own 0 0 0 ∧ t.get (F.ADC_SYS_OFFSET.OFFSET j) = ofSigned 32 z ∧
      t.getI (F.ADC_SYS_GAIN.GAIN j) = nearest (target * 2 ^ 30) ((convs.map (s.convCode n gain)).foldl (· + ·) 0 - z) ∧ t.get (F.ADC_SYS_CFG.GAIN_SEL j) = gain % 4 ∧
      t.get (F.ADC_SYS_CFG.VALID j) = 1 ∧ (t.unit n).job = none ∧
      s.RegsBut ([(F.ADC_STAT.CAL_BUSY n).off, (F.ADC_SYS_OFFSET.OFFSET j).off, (F.ADC_SYS_GAIN.GAIN j).off, (F.ADC_SYS_CFG.VALID j).off] ++ cplRegs x.q) t := by
  refine goesTo_measured hlive hjob hdue ht hlen ?_
  have hz' : ((s.advance dt).measured n).zeroOf j = some (z, gain) := hz
  unfold State.measureOutcome
  rw [marks_none hclean, hz', hfull, if_neg Bool.false_ne_true, if_pos rfl, Option.getD_some, if_neg (Nat.not_lt.mpr hd), if_neg (by
    rw [Bool.or_eq_true, decide_eq_true_eq, decide_eq_true_eq]
    exact not_or.mpr ⟨Int.not_lt.mpr hlo, Int.not_lt.mpr hhi⟩)]
  generalize nearest (target * 2 ^ 30) ((convs.map (s.convCode n gain)).foldl (· + ·) 0 - z) = g at hlo hhi
  exact measured_stores hn hx gain z hj hlo hhi _

end

end

/-! ### Self-calibration (R178, R180) -/

/-- Words written one after another at their own offsets. -/
def State.wrs (s : State) (l : List Nat) (o : Nat → Nat) (w : Nat → Word) : State := l.foldl (fun (s : State) i => s.wr (o i) (w i)) s

theorem wrs_regs {l m : List Nat} {o : Nat → Nat} (h : ∀ i ∈ l, o i ∈ m) (s : State) (w : Nat → Word) : s.RegsBut m (s.wrs l o w) := by
  induction l generalizing s with
  | nil => exact regsBut_same s m
  | cons i l ih => exact regsBut_trans (regsBut_wr s (o i) (w i) m (h i List.mem_cons_self)) (ih (fun k hk => h k (List.mem_cons_of_mem i hk)) _)

theorem wrs_rd {l : List Nat} {o : Nat → Nat} {w : Nat → Word} (hinj : ∀ i ∈ l, ∀ k ∈ l, o i = o k → i = k) {i : Nat} (hi : i ∈ l) (s : State) : (s.wrs l o w).rd (o i) = w i := by
  induction l generalizing s with
  | nil => cases hi
  | cons k l ih =>
    by_cases hl : i ∈ l
    · exact ih (fun a ha b hb => hinj a (List.mem_cons_of_mem k ha) b (List.mem_cons_of_mem k hb)) hl _
    · obtain rfl := (List.mem_cons.mp hi).resolve_right hl
      have hrest : (s.wr (o i) (w i)).RegsBut (l.map o) ((s.wr (o i) (w i)).wrs l o w) := wrs_regs (fun k hk => List.mem_map_of_mem hk) _ w
      refine (hrest (o i) fun h => ?_).trans (State.rd_wr_same s (o i) (w i))
      obtain ⟨b, hb, e⟩ := List.mem_map.mp h
      exact hl (hinj b (List.mem_cons_of_mem i hb) i List.mem_cons_self e ▸ hb)

theorem onlyUnits_wrs (s : State) (l : List Nat) (o : Nat → Nat) (w : Nat → Word) : s.OnlyUnits (s.wrs l o w) := .foldl (fun s i => (State.OnlyUnits.same s).wr (o i) (w i)) l s

theorem wrs_adc (s : State) (l : List Nat) (o : Nat → Nat) (w : Nat → Word) : (s.wrs l o w).adc = s.adc := by
  induction l generalizing s with
  | nil => rfl
  | cons i l ih => exact ih _

/-- The registers of a unit's factors (R187). -/
def calRegs (n : Nat) : List Nat := (List.range 8).map fun i => 0x140C0 + 0x100 * n + 4 * i

theorem calReg_mem (n : Nat) {i : Nat} (h : i < 8) : 0x140C0 + 0x100 * n + 4 * i ∈ calRegs n := List.mem_map.mpr ⟨i, List.mem_range.mpr h, rfl⟩

theorem storeCal_eq (s : State) (n : Nat) (offset : Int) (gains : List Nat) (lins : List Int) : s.storeCal n offset gains lins =
    ((s.wr (0x140C0 + 0x100 * n) (BitVec.ofNat 32 (ofSigned 16 offset))).wrs (List.range 4) (fun i => 0x140C4 + 0x100 * n + 4 * i) fun i => BitVec.ofNat 32 (gains.getD i 0x4000 % 65536)).wrs
      (List.range 3) (fun i => 0x140D4 + 0x100 * n + 4 * i) fun i => BitVec.ofNat 32 (ofSigned 16 (lins.getD (2 * i) 0) + 65536 * ofSigned 16 (lins.getD (2 * i + 1) 0)) := rfl

/-- A unit's factors as stored. -/
structure State.Factors (n : Nat) (offset : Int) (gains : List Nat) (lins : List Int) (t : State) : Prop where
  offset : t.rd (0x140C0 + 0x100 * n) = BitVec.ofNat 32 (ofSigned 16 offset)
  gains : ∀ i, i < 4 → t.rd (0x140C4 + 0x100 * n + 4 * i) = BitVec.ofNat 32 (gains.getD i 0x4000 % 65536)
  lins : ∀ i, i < 3 → t.rd (0x140D4 + 0x100 * n + 4 * i) = BitVec.ofNat 32 (ofSigned 16 (lins.getD (2 * i) 0) + 65536 * ofSigned 16 (lins.getD (2 * i + 1) 0))

theorem storeCal_factors (s : State) (n : Nat) (offset : Int) (gains : List Nat) (lins : List Int) : (s.storeCal n offset gains lins).Factors n offset gains lins := by
  rw [storeCal_eq]
  refine ⟨?_, fun i hi => ?_, fun i hi => ?_⟩
  · rw [wrs_regs (fun _ => List.mem_map_of_mem) _ _ _ (by simp; omega), wrs_regs (fun _ => List.mem_map_of_mem) _ _ _ (by simp; omega), State.rd_wr_same]
  · rw [wrs_regs (fun _ => List.mem_map_of_mem) _ _ _ (by simp; omega)]
    exact wrs_rd (fun a _ b _ e => by omega) (List.mem_range.mpr hi) _
  · exact wrs_rd (fun a _ b _ e => by omega) (List.mem_range.mpr hi) _

theorem storeCal_regs (s : State) (n : Nat) (offset : Int) (gains : List Nat) (lins : List Int) : s.RegsBut (calRegs n) (s.storeCal n offset gains lins) := by
  rw [storeCal_eq]
  refine regsBut_trans (regsBut_trans (regsBut_wr s _ _ _ (calReg_mem n (i := 0) (by decide))) (wrs_regs (fun i hi => ?_) _ _)) (wrs_regs (fun i hi => ?_) _ _)
  · have h4 := List.mem_range.mp hi
    have e : 0x140C4 + 0x100 * n + 4 * i = 0x140C0 + 0x100 * n + 4 * (i + 1) := by omega
    rw [e]
    exact calReg_mem n (by omega)
  · have h3 := List.mem_range.mp hi
    have e : 0x140D4 + 0x100 * n + 4 * i = 0x140C0 + 0x100 * n + 4 * (i + 5) := by omega
    rw [e]
    exact calReg_mem n (by omega)

theorem storeCal_adc (s : State) (n : Nat) (offset : Int) (gains : List Nat) (lins : List Int) : (s.storeCal n offset gains lins).adc = s.adc := by
  rw [storeCal_eq, wrs_adc, wrs_adc, State.wr_adc]

theorem onlyUnits_storeCal (s : State) (n : Nat) (offset : Int) (gains : List Nat) (lins : List Int) : s.OnlyUnits (s.storeCal n offset gains lins) :=
  (((State.OnlyUnits.same s).wr _ _).trans (onlyUnits_wrs _ _ _ _)).trans (onlyUnits_wrs _ _ _ _)

/-! ### A unit's self-calibration ends (R178, R180) -/

/-- A unit that has failed is noted and reported. -/
def State.calFails (s : State) (n step : Nat) (v : Int) : State :=
  ({ s with adc := { s.adc with calFail := s.adc.calFail ||| 2 ^ n } }.set (F.ADC_STAT.CAL_FAIL n) 1).raise Ev.CAL_FAIL [n, step, sPay v]

/-- The unit has found its factors, or failed to. -/
def State.calFound (s : State) (n : Nat) (offset : Int) (gains : List Nat) (lins : List Int) : State :=
  let s := (s.modUnit n fun u => { u with job := none, failed := (calBad offset gains lins).isSome }).set (F.ADC_STAT.CAL_BUSY n) 0
  match calBad offset gains lins with
  | some (step, v) => s.calFails n step v
  | none => ((s.storeCal n offset gains lins).set (F.ADC_STAT.CAL_OK n) 1).set (F.ADC_STAT.CAL_FAIL n) 0

/-- The last unit of a mask ends the self-calibration. -/
def State.calAll (s : State) (own : Option Nat) : State :=
  let s := s.raise Ev.CAL_DONE [s.adc.calMask, (s.time.cyc - s.adc.calStart) / 500]
  match own with
  | some id => if s.adc.calFail = 0 then s.calAnswer id ocCALRUN stOK 0 else s.calAnswer id ocCALRUN stDEVICE s.adc.calFail
  | none => s.calStep

theorem goesTo_selfCal {s : State} {dt : Nat} {n : Fin 4} {offset : Int} {gains : List Nat} {lins : List Int} {own : Option Nat} {p : State → Prop} (hlive : s.live = true)
    (hjob : (s.unit n).job = some (.self own)) (hdue : (s.unit n).jobDue = false) (ht : (s.unit n).jobAt + 1600000 ≤ s.time.cyc + dt)
    (hp : p (s.confine (if ((s.advance dt).calFound n offset gains lins).calRuns then (s.advance dt).calFound n offset gains lins else ((s.advance dt).calFound n offset gains lins).calAll own))) :
    GoesTo (exec (.selfCalDone dt n offset gains lins) s) p := by
  change GoesTo (execSelfCalDone dt n offset gains lins s) _
  unfold execSelfCalDone
  refine goesTo_live hlive ?_
  have hjob' : ((s.advance dt).unit n).job = some (.self own) := hjob
  have hdue' : ((s.advance dt).unit n).jobDue = false := hdue
  have ht' : ¬ (s.advance dt).time.cyc < ((s.advance dt).unit n).jobAt + 1600000 := Nat.not_lt.mpr ht
  simp only [hjob', hdue', decide_eq_false ht', Bool.or_self, Bool.false_eq_true, if_false]
  exact hp

/-- What the end of a unit's self-calibration leaves, whatever it found. -/
structure State.CalLeft (s : State) (n : Nat) (t : State) : Prop where
  job : (t.unit n).job = none
  busy : t.get (F.ADC_STAT.CAL_BUSY n) = 0
  others : ∀ m, m ≠ n → t.unit m = s.unit m
  length : t.adc.units.length = s.adc.units.length
  host : t.host = s.host
  role : t.role = s.role

/-- What it leaves with factors found. -/
structure State.CalGood (s : State) (n : Nat) (offset : Int) (gains : List Nat) (lins : List Int) (t : State) : Prop extends s.CalLeft n t where
  factors : t.Factors n offset gains lins
  ok : t.get (F.ADC_STAT.CAL_OK n) = 1
  fail : t.get (F.ADC_STAT.CAL_FAIL n) = 0
  regs : s.RegsBut ((F.ADC_STAT.CAL_OK n).off :: calRegs n) t
  recd : t.recd = s.recd
  calFail : t.adc.calFail = s.adc.calFail

theorem stat_notCal (n : Nat) : (F.ADC_STAT.CAL_BUSY n).off ∉ calRegs n := by
  simp only [calRegs, List.mem_map, List.mem_range, not_exists, not_and, F.ADC_STAT.CAL_BUSY]
  omega

theorem hull_calFound (s : State) (n : Nat) (offset : Int) (gains : List Nat) (lins : List Int) : (s.calFound n offset gains lins).hull = s.hull := by
  unfold State.calFound
  dsimp only
  split
  · simp [State.calFails]
  · simp

theorem hull_calAll (s : State) (own : Option Nat) : (s.calAll own).hull = s.hull := by
  unfold State.calAll
  dsimp only
  (repeat' split) <;> simp

/-- Other registers of the unit written leave its factors. -/
theorem State.Factors.stat {n : Nat} {offset : Int} {gains : List Nat} {lins : List Int} {t u : State} (h : t.Factors n offset gains lins) (hu : t.RegsBut [(F.ADC_STAT.CAL_OK n).off] u) :
    u.Factors n offset gains lins := by
  refine ⟨(hu _ ?_).trans h.offset, fun i hi => (hu _ ?_).trans (h.gains i hi), fun i hi => (hu _ ?_).trans (h.lins i hi)⟩ <;>
  · simp only [List.mem_singleton, F.ADC_STAT.CAL_OK]
    omega

theorem stat_quiet {n : Nat} (h4 : n < 4) {f : Fld} (hf : f.off = (F.ADC_STAT.CAL_OK n).off) : f.quiet = true := by
  simp only [Fld.quiet, hf, F.ADC_STAT.CAL_OK, F.REC_LOST_CNT.COUNT, F.REC_SUPP_CNT.COUNT, Bool.and_eq_true, bne_iff_ne, ne_eq]
  omega

theorem calFails_left {s t : State} {n : Nat} (h4 : n < 4) (h : s.CalLeft n t) (step : Nat) (v : Int) : s.CalLeft n (t.calFails n step v) ∧
    (t.calFails n step v).get (F.ADC_STAT.CAL_FAIL n) = 1 ∧ t.RegsBut ((F.ADC_STAT.CAL_OK n).off :: recCounters) (t.calFails n step v) := by
  have hunit : ∀ m, (t.calFails n step v).unit m = t.unit m := fun m => by
    rw [State.calFails, raise_unit]
    rfl
  have hid : t.RegsBut ((F.ADC_STAT.CAL_OK n).off :: recCounters) { t with adc := { t.adc with calFail := t.adc.calFail ||| 2 ^ n } } := regsBut_hidden _ rfl rfl rfl
  refine ⟨⟨?_, ?_, fun m hm => ?_, ?_, ?_, ?_⟩, ?_, ?_⟩
  · rw [hunit, h.job]
  · rw [State.calFails, State.raise_get _ _ _ _ (stat_quiet h4 (f := F.ADC_STAT.CAL_BUSY n) rfl), State.get_set_apart _ _ _ _ rfl (by simp [Fld.apart, F.ADC_STAT.CAL_FAIL, F.ADC_STAT.CAL_BUSY])]
    exact h.busy
  · rw [hunit, h.others m hm]
  · rw [State.calFails, State.raise_adc]
    exact h.length
  · rw [State.calFails, State.raise_host]
    exact h.host
  · rw [State.calFails, State.raise_role]
    exact h.role
  · rw [State.calFails, State.raise_get _ _ _ _ (stat_quiet h4 (f := F.ADC_STAT.CAL_FAIL n) rfl), State.get_set_same _ _ _ rfl]
    rfl
  · exact (hid.set (F.ADC_STAT.CAL_FAIL n) 1 List.mem_cons_self).raise _ _ fun _ ho => List.mem_cons_of_mem _ ho

section

variable {s : State} {n : Nat} (hn : n < s.adc.units.length) (offset : Int) (gains : List Nat) (lins : List Int)
include hn

/-- The unit idle again, its calibration's outcome noted. -/
theorem idleAgain_left (failed : Bool) : s.CalLeft n ((s.modUnit n fun u => { u with job := none, failed := failed }).set (F.ADC_STAT.CAL_BUSY n) 0) := by
  refine ⟨?_, State.get_set_same _ _ _ rfl, fun m hm => ?_, ?_, rfl, rfl⟩
  · rw [set_unit, unit_modUnit_same hn]
  · rw [set_unit, unit_modUnit_other _ hm]
  · rw [State.set_adc, units_modUnit_length]

theorem calFound_good (hgood : calBad offset gains lins = none) : s.CalGood n offset gains lins (s.calFound n offset gains lins) := by
  have hleft := idleAgain_left hn false
  have hstat : s.RegsBut [(F.ADC_STAT.CAL_OK n).off] ((s.modUnit n fun u => { u with job := none, failed := false }).set (F.ADC_STAT.CAL_BUSY n) 0) :=
    ((regsBut_same s _).modUnit n _).set (F.ADC_STAT.CAL_BUSY n) 0 List.mem_cons_self
  have honly : s.OnlyUnits ((s.modUnit n fun u => { u with job := none, failed := false }).set (F.ADC_STAT.CAL_BUSY n) 0) := ((State.OnlyUnits.same s).modUnit n _).set _ _
  have e : s.calFound n offset gains lins = ((((s.modUnit n fun u => { u with job := none, failed := false }).set (F.ADC_STAT.CAL_BUSY n) 0).storeCal n offset gains lins).set
      (F.ADC_STAT.CAL_OK n) 1).set (F.ADC_STAT.CAL_FAIL n) 0 := by
    unfold State.calFound
    rw [hgood]
    rfl
  rw [e]
  generalize (s.modUnit n fun u => { u with job := none, failed := false }).set (F.ADC_STAT.CAL_BUSY n) 0 = v at hleft hstat honly ⊢
  have hfac := storeCal_factors v n offset gains lins
  have hregs := regsBut_trans (regsBut_wider hstat (by simp)) (regsBut_wider (storeCal_regs v n offset gains lins) fun o ho => List.mem_cons_of_mem (F.ADC_STAT.CAL_OK n).off ho)
  have hbusy := ((storeCal_regs v n offset gains lins).get (stat_notCal n)).trans hleft.busy
  have hadc := storeCal_adc v n offset gains lins
  have honly' := honly.trans (onlyUnits_storeCal v n offset gains lins)
  generalize v.storeCal n offset gains lins = w at hfac hregs hbusy hadc honly' ⊢
  have hunit : ∀ m, (((w.set (F.ADC_STAT.CAL_OK n) 1).set (F.ADC_STAT.CAL_FAIL n) 0)).unit m = v.unit m := unit_congr hadc
  have hset : w.RegsBut [(F.ADC_STAT.CAL_OK n).off] ((w.set (F.ADC_STAT.CAL_OK n) 1).set (F.ADC_STAT.CAL_FAIL n) 0) :=
    ((regsBut_same w _).set (F.ADC_STAT.CAL_OK n) 1 List.mem_cons_self).set (F.ADC_STAT.CAL_FAIL n) 0 List.mem_cons_self
  have hunits := (honly'.set (F.ADC_STAT.CAL_OK n) 1).set (F.ADC_STAT.CAL_FAIL n) 0
  have hbits : (F.ADC_STAT.CAL_FAIL n).apart (F.ADC_STAT.CAL_BUSY n) = true ∧ (F.ADC_STAT.CAL_OK n).apart (F.ADC_STAT.CAL_BUSY n) = true ∧
      (F.ADC_STAT.CAL_FAIL n).apart (F.ADC_STAT.CAL_OK n) = true := by
    simp [Fld.apart, F.ADC_STAT.CAL_FAIL, F.ADC_STAT.CAL_BUSY, F.ADC_STAT.CAL_OK]
  obtain ⟨hfb, hob, hfo⟩ := hbits
  refine ⟨⟨?_, ?_, fun m hm => ?_, ?_, hunits.host, hunits.role⟩, hfac.stat hset, ?_, State.get_set_same _ _ _ rfl, regsBut_trans hregs (regsBut_wider hset (by simp)), hunits.recd, hunits.calFail⟩
  · rw [hunit, hleft.job]
  · rw [State.get_set_apart _ _ _ _ rfl hfb, State.get_set_apart _ _ _ _ rfl hob, hbusy]
  · rw [hunit, hleft.others m hm]
  · rw [State.set_adc, State.set_adc, hadc, hleft.length]
  · rw [State.get_set_apart _ _ _ _ rfl hfo, State.get_set_same _ _ _ rfl]
    rfl

theorem calFound_bad (h4 : n < 4) {step : Nat} {v : Int} (hbad : calBad offset gains lins = some (step, v)) : s.CalLeft n (s.calFound n offset gains lins) ∧
    (s.calFound n offset gains lins).get (F.ADC_STAT.CAL_FAIL n) = 1 ∧ s.RegsBut ((F.ADC_STAT.CAL_OK n).off :: recCounters) (s.calFound n offset gains lins) := by
  have hleft := idleAgain_left hn true
  have hregs : s.RegsBut ((F.ADC_STAT.CAL_OK n).off :: recCounters) ((s.modUnit n fun u => { u with job := none, failed := true }).set (F.ADC_STAT.CAL_BUSY n) 0) :=
    ((regsBut_same s _).modUnit n _).set (F.ADC_STAT.CAL_BUSY n) 0 List.mem_cons_self
  have e : s.calFound n offset gains lins = ((s.modUnit n fun u => { u with job := none, failed := true }).set (F.ADC_STAT.CAL_BUSY n) 0).calFails n step v := by
    unfold State.calFound
    rw [hbad]
    rfl
  rw [e]
  generalize (s.modUnit n fun u => { u with job := none, failed := true }).set (F.ADC_STAT.CAL_BUSY n) 0 = w at hleft hregs ⊢
  obtain ⟨hleft', hfail, hregs'⟩ := calFails_left h4 hleft step v
  exact ⟨hleft', hfail, regsBut_trans hregs hregs'⟩

end

theorem calRuns_true {s : State} {m : Nat} {own : Option Nat} (hm : m < s.adc.units.length) (hjob : (s.unit m).job = some (.self own)) : s.calRuns = true := by
  unfold State.calRuns
  rw [List.any_eq_true]
  refine ⟨s.unit m, ?_, by rw [hjob]⟩
  rw [State.unit, List.getD_eq_getElem _ _ hm]
  exact List.getElem_mem hm

theorem calRuns_false {s : State} (h : ∀ m, m < s.adc.units.length → (s.unit m).job = none) : s.calRuns = false := by
  unfold State.calRuns
  rw [List.any_eq_false]
  intro u hu
  obtain ⟨m, hm, rfl⟩ := List.getElem_of_mem hu
  have hj := h m hm
  rw [State.unit, List.getD_eq_getElem _ _ hm] at hj
  rw [hj]
  exact Bool.false_ne_true

/-- The end of the last unit completes the CAL_RUN of a Basin, with the units that failed (R179, R180). -/
theorem calAll_answers {s u : State} {id : Nat} {x : Infl} (hr : u.role = .basin) (hx : s.inflAt id = some x) (hu : u.host = s.host) (hopen : x.phase.isDone = false) (hq : x.q < 16) :
    (if u.adc.calFail = 0 then u.Answers id x.q 0 0 (u.calAll (some id)) else u.Answers id x.q 0x40 u.adc.calFail (u.calAll (some id))) := by
  unfold State.calAll
  dsimp only
  rw [State.raise_adc]
  split
  · exact raised_answers _ _ _ _ _ hr hx hu hopen hq
  · exact raised_answers _ _ _ _ _ hr hx hu hopen hq

/-! ### O28 -/

section

variable {s : State} {dt : Nat} {n : Fin 4} {offset : Int} {gains : List Nat} {lins : List Int} (hlive : s.live = true) (hn : n.val < s.adc.units.length)
include hlive

section

variable {m : Fin 4} {own o2 : Option Nat} (hne : n ≠ m) (hm : m.val < s.adc.units.length) (hjob : (s.unit n).job = some (.self own)) (hother : (s.unit m).job = some (.self o2))
  (hdue : (s.unit n).jobDue = false) (ht : (s.unit n).jobAt + 1600000 ≤ s.time.cyc + dt)
include hne hm hjob hother hdue ht

/-- While another unit calibrates, a unit's end is its own alone. -/
theorem goesTo_calFound {p : State → Prop} (hleft : (s.advance dt).CalLeft n ((s.advance dt).calFound n offset gains lins)) (hp : p ((s.advance dt).calFound n offset gains lins)) :
    GoesTo (exec (.selfCalDone dt n offset gains lins) s) p := by
  refine goesTo_selfCal hlive hjob hdue ht ?_
  have hmn : m.val ≠ n.val := fun e => hne (Fin.ext e.symm)
  have hruns : ((s.advance dt).calFound n offset gains lins).calRuns = true :=
    calRuns_true (m := m) (own := o2) (by rw [hleft.length]; exact hm) (by rw [hleft.others m hmn]; exact hother)
  rw [hruns, if_pos rfl, confine_hull ((hull_calFound _ _ _ _ _).trans (hull_advance dt s))]
  exact hp

include hn

theorem selfCal_good (hgood : calBad offset gains lins = none) : GoesTo (exec (.selfCalDone dt n offset gains lins) s) ((s.advance dt).CalGood n offset gains lins) := by
  have h := calFound_good (s := s.advance dt) hn offset gains lins hgood
  exact goesTo_calFound hlive hne hm hjob hother hdue ht h.toCalLeft h

theorem selfCal_bad {step : Nat} {v : Int} (hbad : calBad offset gains lins = some (step, v)) : GoesTo (exec (.selfCalDone dt n offset gains lins) s) fun t => (s.advance dt).CalLeft n t ∧
    t.get (F.ADC_STAT.CAL_FAIL n) = 1 ∧ s.RegsBut ((F.ADC_STAT.CAL_OK n).off :: recCounters) t := by
  have h := calFound_bad (s := s.advance dt) hn offset gains lins n.isLt hbad
  exact goesTo_calFound hlive hne hm hjob hother hdue ht h.1 h

end

include hn

/-- The last unit's end completes the CAL_RUN. -/
theorem selfCal_last {id : Nat} {x : Infl} (hjob : (s.unit n).job = some (.self (some id)))
    (hothers : ∀ m, m < 4 → m ≠ n.val → (s.unit m).job = none) (h4 : s.adc.units.length = 4) (hdue : (s.unit n).jobDue = false) (ht : (s.unit n).jobAt + 1600000 ≤ s.time.cyc + dt)
    (hgood : calBad offset gains lins = none) (hx : s.AtWork id x) : GoesTo (exec (.selfCalDone dt n offset gains lins) s) fun t =>
      (if s.adc.calFail = 0 then t.Ended id 0 0 0 else t.Ended id 0x40 s.adc.calFail 0) ∧ t.get (F.ADC_STAT.CAL_OK n) = 1 ∧ t.get (F.ADC_STAT.CAL_BUSY n) = 0 ∧ (t.unit n).job = none ∧
      s.RegsBut ((F.ADC_STAT.CAL_OK n).off :: calRegs n ++ cplRegs x.q) t := by
  refine goesTo_selfCal hlive hjob hdue ht ?_
  rw [confine_hull]
  · have h := calFound_good (s := s.advance dt) hn offset gains lins hgood
    have hruns : ((s.advance dt).calFound n offset gains lins).calRuns = false := calRuns_false fun m hm => by
      by_cases e : m = n
      · rw [e, h.job]
      · rw [h.others m e]
        exact hothers m (by rw [h.length] at hm; exact Nat.lt_of_lt_of_eq hm h4) e
    rw [hruns, if_neg Bool.false_ne_true]
    have hrole := h.role
    have hall := calAll_answers (s := s) (u := (s.advance dt).calFound n offset gains lins) (h.role.trans hx.role) hx.infl h.host hx.pending hx.pair
    generalize (s.advance dt).calFound n offset gains lins = u at h hall ⊢
    have hends : ∀ {st rs : Nat}, u.Answers id x.q st rs (u.calAll (some id)) → (u.calAll (some id)).Ended id st rs 0 ∧ (u.calAll (some id)).get (F.ADC_STAT.CAL_OK n) = 1 ∧
        (u.calAll (some id)).get (F.ADC_STAT.CAL_BUSY n) = 0 ∧ ((u.calAll (some id)).unit n).job = none ∧
        s.RegsBut ((F.ADC_STAT.CAL_OK n).off :: calRegs n ++ cplRegs x.q) (u.calAll (some id)) := fun hans => by
      refine ⟨hans.ended, ?_, ?_, by rw [hans.unit, h.job], ?_⟩
      · rw [hans.stat hx.pair n.isLt (f := F.ADC_STAT.CAL_OK n) rfl, h.ok]
      · rw [hans.stat hx.pair n.isLt (f := F.ADC_STAT.CAL_BUSY n) rfl, h.busy]
      · exact regsBut_trans (regsBut_trans (advance_regs s dt _) (regsBut_wider h.regs fun o ho => List.mem_append_left _ ho)) (regsBut_wider hans.regs fun o ho => List.mem_append_right _ ho)
    have hfail : u.adc.calFail = s.adc.calFail := h.calFail
    rw [hfail] at hall
    split at hall
    · next hz =>
      rw [if_pos hz]
      exact hends hall
    · next hz =>
      rw [if_neg hz]
      exact hends hall
  · split
    · exact (hull_calFound _ _ _ _ _).trans (hull_advance dt s)
    · exact (hull_calAll _ _).trans ((hull_calFound _ _ _ _ _).trans (hull_advance dt s))

end

/-- Settles O28: each clause is the lemma on its command. A Spring's answer comes to a Basin's row as an operand, and leaves a Spring as a message of its own (log entry 9); a
conversion is marked at its sample instant, and LIN[i] belongs to the i-th capacitor bit from the top (log entry 54). -/
theorem resultsAndCalibration : Obligations.ResultsAndCalibration := by
  refine ⟨?_, fun s dt n convs r hlive hrun ht => adcEntryDone_waits hlive hrun ht, ?_, ?_, ?_, ?_, ?_, ?_, ?_, ?_, ?_, fun s dt hlive hr hpre ht => prechgFail_stops hlive hr hpre ht⟩
  · intro s dt w j gain n convs r sys hlive hn hrun hsamp hdone h16 hw hj hg hlen ht hafter hsys
    obtain ⟨t, e, u, hu, hwrote⟩ := adcEntryDone_writes hlive hrun hn hsamp hdone h16 hw hj hg hlen ht hafter hsys
    refine ⟨t, e, u, hu, hwrote.value, hwrote.flags, ?_, hwrote.marks, hwrote.regs⟩
    rw [hwrote.run, AdcRun.stepped, ← hw]
  · intro s dt n m offset gains lins own o2 hlive hne hn hm hjob hother hdue ht
    refine ⟨fun hgood => ?_, fun step v hbad => ?_⟩
    · obtain ⟨t, e, h⟩ := selfCal_good hlive hn hne hm hjob hother hdue ht hgood
      exact ⟨t, e, h.factors.offset, h.factors.gains, h.factors.lins, h.ok, h.fail, h.busy, h.job, h.regs, h.recd⟩
    · obtain ⟨t, e, h, hfail, hregs⟩ := selfCal_bad hlive hn hne hm hjob hother hdue ht hbad
      exact ⟨t, e, hfail, h.busy, h.job, hregs⟩
  · intro s dt n offset gains lins id x hlive hr hn hjob hothers h4 hdue ht hgood hx hph hq
    exact selfCal_last hlive hn hjob hothers h4 hdue ht hgood ⟨hr, hx, hph, hq⟩
  · intro s dt q ans mask hlive hr
    obtain ⟨hstart, hempty, hrefuse⟩ := calRun_spring dt q ans mask hlive hr
    refine ⟨fun hm href hjobs => ?_, hempty, hrefuse⟩
    obtain ⟨t, e, h⟩ := hstart hm href hjobs
    exact ⟨t, e, h.mask, h.recd, h.regs, h.asked⟩
  · intro s dt q ans mask x h
    refine ⟨calRun_empty dt q ans mask h, fun htarget hm href => calRun_refused dt q ans mask h htarget hm href, fun htarget hm href hjobs => ?_,
      fun f htarget hm hmay hreach hdue hans => calRun_remote dt q ans mask h htarget hm hmay hreach hdue hans⟩
    obtain ⟨t, e, hin, hs⟩ := calRun_starts dt q ans mask h htarget hm href hjobs
    exact ⟨t, e, hin, hs.mask, hs.regs, fun n hn h4 hbit => hs.asked n hn h4 ((calMask_testBit _ h4).trans hbit)⟩
  · rintro s dt q ans p x j h htarget rfl hj href hk hjob hrun
    refine ⟨fun hstep => ?_, fun z hstep hz => ?_, fun hstep hz => ?_, fun hstep => syscalClear_clears dt q ans p h htarget hj href hstep⟩
    · obtain ⟨t, e, hin, hm⟩ := syscal_measures dt q ans p h htarget hj href hstep hk hjob hrun (.inl rfl)
      exact ⟨t, e, hin, hm.busy, hm.job, hm.regs⟩
    · obtain ⟨t, e, hin, hm⟩ := syscal_measures dt q ans p h htarget hj href hstep hk hjob hrun (.inr ⟨rfl, z, hz⟩)
      exact ⟨t, e, hin, hm.busy, hm.job, hm.regs⟩
    · obtain ⟨t, e, hans⟩ := syscalFull_noZero dt q ans p h htarget hj href hstep hz
      exact ⟨t, e, hans.ended, hans.adc, regsBut_wider hans.regs fun o ho => List.mem_append_right _ ho⟩
  · intro s dt q ans p x h hstep
    refine ⟨fun hj => ?_, fun hj htarget href => ?_, fun hj htarget hmay hreach hdue => ⟨fun f hans => ?_, fun f hf hans => ?_⟩⟩
    · obtain ⟨t, e, hans⟩ := syscalZero_noInput dt q ans p h hstep hj
      exact ⟨t, e, hans.ended, hans.adc⟩
    · obtain ⟨t, e, hans⟩ := syscal_refused dt q ans p h htarget hj hstep (by decide) href
      exact ⟨t, e, hans.ended, hans.adc⟩
    · have hends := advance_refuse_answers dt q h stOK 0
      exact goesTo_sysRemote dt q ans p h hstep (by decide) hj htarget hmay hreach hdue hans (by simp) (by simp) rfl ⟨hends.ended, hends.adc, hends.regs⟩
    · have hends := advance_refuse_answers dt q h stLIMIT (f.val + 1)
      have hst : sysEnd 0 (.refused f) = some (stLIMIT, f.val + 1) := by
        rcases hf with hf | hf <;> simp [sysEnd, hf]
      exact goesTo_sysRemote dt q ans p h hstep (by decide) hj htarget hmay hreach hdue hans (by simp) (by simp) hst ⟨hends.ended, hends.adc, hends.regs⟩
  · rintro s dt j q ans p hlive hr rfl hj href hk hjob hrun
    refine ⟨?_, fun z hz => ?_, syscalClear_spring dt q ans p hlive hr hj href⟩
    · obtain ⟨t, e, hm⟩ := syscal_spring dt q ans p hlive hr hj href hk hjob hrun (.inl rfl)
      exact ⟨t, e, hm.busy, hm.regs, hm.job⟩
    · obtain ⟨t, e, hm⟩ := syscal_spring dt q ans p hlive hr hj href hk hjob hrun (.inr ⟨rfl, z, hz⟩)
      exact ⟨t, e, hm.busy, hm.regs, hm.job⟩
  · rintro s dt n convs sum own j gain smp target x hlive hr hn hjob hdue ht hj hlen rfl hx hph hq
    refine ⟨fun hclean => ?_, fun hmark => ?_⟩
    · obtain ⟨t, e, hend, hzero, hends, hregs⟩ := measure_zero hlive hn hjob hdue ht hlen ⟨hr, hx, hph, hq⟩ hclean rfl
      exact ⟨t, e, hend, hzero, hends.job, hends.busy, hregs⟩
    · obtain ⟨t, e, hend, hends, hzeros, hregs⟩ := measure_marked hlive hn hjob hdue ht hlen ⟨hr, hx, hph, hq⟩ hmark
      exact ⟨t, e, hend, hzeros, hends.job, hends.busy, hregs⟩
  · rintro s dt n convs sum z own j gain smp target x hlive hr hn hjob hdue ht hj hz hlen rfl hclean hx hph hq
    have hw : s.AtWork own x := ⟨hr, hx, hph, hq⟩
    exact ⟨fun hd hlo hhi => measure_full hlive hn hjob hdue ht hlen hw hclean hz rfl hd hj hlo hhi, fun hd => measure_small hlive hn hjob hdue ht hlen hw hclean hz rfl hd,
      fun hd hg => measure_outOfRange hlive hn hjob hdue ht hlen hw hclean hz rfl hd hg⟩

end Sys2Proof.Machine
end

section
/-! PROOFS. A Weir received: what hearing and sending one may change; counted, shown, forwarded and refused (R191 to R195, R214, R238). -/
namespace Sys2Proof.Machine

/-! ### The frame of a Weir heard and sent -/

/-- Besides some registers, the recorder, the Weir memory and what leaves by the lanes, the second state is the first. -/
structure State.Weirs (l : List Nat) (s t : State) : Prop where
  same : t = { s with regs := t.regs, w1c := t.w1c, recd := t.recd, weir := t.weir, lanes := t.lanes, out := t.out }
  regs : s.RegsBut l t

namespace State.Weirs

variable {l : List Nat} {s t u : State}

theorem refl (l : List Nat) (s : State) : s.Weirs l s := ⟨rfl, regsBut_same s l⟩

theorem trans (h : s.Weirs l t) (k : t.Weirs l u) : s.Weirs l u := by
  refine ⟨?_, regsBut_trans h.regs k.regs⟩
  rw [k.same, h.same]

theorem wider {m : List Nat} (h : s.Weirs l t) (hm : ∀ o ∈ l, o ∈ m) : s.Weirs m t := ⟨h.same, regsBut_wider h.regs hm⟩

theorem of_recorded (h : s.Recorded t) (k : s.RegsBut l t) : s.Weirs l t := by
  refine ⟨?_, k⟩
  unfold State.Recorded at h
  rw [h]

theorem of_wired (h : s.Wired t) : s.Weirs l t := by
  refine ⟨?_, regsBut_hidden l h.role h.side h.regs⟩
  unfold State.Wired at h
  rw [h]

theorem set (h : s.Weirs l t) (f : Fld) (v : Nat) (hf : f.off ∈ l) : s.Weirs l (t.set f v) := h.trans ⟨rfl, regsBut_set t f v l hf⟩

theorem inc (h : s.Weirs l t) (f : Fld) (hf : f.off ∈ l) : s.Weirs l (t.inc f) := h.set f _ hf

theorem raise (h : s.Weirs l t) (c : Nat) (p : List Nat) (hl : ∀ o ∈ recCounters, o ∈ l) : s.Weirs l (t.raise c p) :=
  h.trans (of_recorded (State.recorded_raise t c p) (regsBut_raise t c p l hl))

/-- Another Weir memory. -/
theorem memory (h : s.Weirs l t) (w : WeirSt) : s.Weirs l { t with weir := w } := h.trans ⟨rfl, regsBut_hidden l rfl rfl rfl⟩

theorem sendWeir (h : s.Weirs l t) (ports : List Nat) (x : WeirSet) : s.Weirs l (t.sendWeir ports x) := h.trans (of_wired (sendWeir_wired t ports x))

theorem weirLast (h : s.Weirs l t) (x : WeirSet) (hl : F.WEIR_LAST.SEQ.off ∈ l) : s.Weirs l (t.weirLast x) :=
  ((((h.set F.WEIR_LAST.SCOPE x.scope hl).set F.WEIR_LAST.ARM x.arm hl).set F.WEIR_LAST.CAUSE x.cause hl).set F.WEIR_LAST.ORIGIN x.origin hl).set F.WEIR_LAST.SEQ x.seq hl

section
variable (h : s.Weirs l t)
include h

theorem role : t.role = s.role := (congrArg State.role h.same).trans rfl
theorem side : t.side = s.side := (congrArg State.side h.same).trans rfl
theorem time : t.time = s.time := (congrArg State.time h.same).trans rfl
theorem clk : t.clk = s.clk := (congrArg State.clk h.same).trans rfl
theorem tbl : t.tbl = s.tbl := (congrArg State.tbl h.same).trans rfl
theorem lnk : t.lnk = s.lnk := (congrArg State.lnk h.same).trans rfl
theorem ctl : t.ctl = s.ctl := (congrArg State.ctl h.same).trans rfl
theorem gate : t.gate = s.gate := (congrArg State.gate h.same).trans rfl
theorem get {f : Fld} (hf : f.off ∉ l) : t.get f = s.get f := h.regs.get hf
theorem flag {f : Fld} (hf : f.off ∉ l) : t.flag f = s.flag f := h.regs.flag hf

theorem lanesOff (hl : F.CLK_PLLL_STAT.STATE.off ∉ l) : t.lanesOff = s.lanesOff := by rw [State.lanesOff, h.clk, h.get hl, State.lanesOff]

theorem dispatches (hl : F.RED_CLAIM.ROLE.off ∉ l) : t.dispatches = s.dispatches := by rw [State.dispatches, h.get hl, State.dispatches]

theorem isMaster (hl : F.RED_CLAIM.ROLE.off ∉ l) : t.isMaster = s.isMaster := by rw [State.isMaster, h.role, h.dispatches hl, State.isMaster]

theorem tickNow (hr : s.role = .basin) (hl : F.CTL_TICK_NUM.TICK.off ∉ l) : t.tickNow = s.tickNow := by simp only [State.tickNow, h.role, hr, h.get hl]

theorem armSprings (hr : s.role = .basin) (hl : F.RED_CLAIM.ROLE.off ∉ l) (a : Nat) : t.armSprings a = s.armSprings a := by
  simp only [State.armSprings, State.tbl8, State.selfId, State.basinId, State.loneImg, h.role, hr, h.side, h.tbl, h.get hl]
  rfl

theorem weirPorts (hr : s.role = .basin) (hl : F.RED_CLAIM.ROLE.off ∉ l) (x : WeirSet) : t.weirPorts x = s.weirPorts x := by
  simp only [State.weirPorts, State.armPorts, h.armSprings hr hl, State.enrolledPorts, State.chainEnrolled, State.chainOfPort, State.portsOfChain, h.lnk, h.get hl]

theorem pairKnown (hw : t.weir.relayed = s.weir.relayed) (o q : Nat) : t.pairKnown o q = s.pairKnown o q := by
  rw [State.pairKnown, hw, h.time, State.pairKnown]

end

end State.Weirs

/-! ### What a block is (R191, R192) -/

/-- A valid Weir's fields hold what their widths and R191 allow. -/
structure WeirFits (x : WeirSet) : Prop where
  scope : x.scope = 1 ∧ x.arm < 12 ∨ x.scope = 2
  cause : x.cause < 16
  origin : x.origin < 256
  seq : x.seq < 256

theorem weirRx_valid {v : Nat} {x : WeirSet} (h : weirRx v = .valid x) : WeirFits x := by
  unfold weirRx at h
  split at h
  · cases h
  · split at h
    · cases h
    · split at h
      · next hvalid =>
        obtain rfl := WeirRx.valid.inj h
        refine ⟨?_, bitsOf_lt v 10 4, bitsOf_lt v 14 8, bitsOf_lt v 22 8⟩
        simp only [weirValid, Bool.and_eq_true, Bool.or_eq_true, beq_iff_eq, decide_eq_true_eq] at hvalid
        obtain ⟨⟨hscope, -⟩, -⟩ := hvalid
        exact hscope.imp id And.left
      · cases h

/-- TRAIN and EI_ENTER are not Weirs. -/
theorem weirRx_training {v : Nat} (h : osetCode v = ocTRAIN ∨ osetCode v = ocEI) : weirRx v = .notWeir := by
  have hcode : (osetCode v != ocWEIR) = true := by rcases h with h | h <;> rw [h] <;> decide
  rw [weirRx, if_pos hcode]

/-- What a block of a WEIR's form brings about: one of another O_CODE or an invalid one is counted, a valid one is taken. -/
def State.weirTaken (s : State) (port v : Nat) (take : WeirSet → State) : State :=
  match weirRx v with
  | .notWeir => if [ocTRAIN, ocEI].contains (osetCode v) then s else s.inc (F.LNK_CRC_ERR.COUNT port)
  | .badCrc => s.weirBad port v false
  | .badFields => s.weirBad port v true
  | .valid x => take x

section

variable {s : State} {port v : Nat} {take : WeirSet → State}

theorem weirTaken_other (h : weirRx v = .notWeir) (htrain : osetCode v ≠ ocTRAIN) (hei : osetCode v ≠ ocEI) : s.weirTaken port v take = s.inc (F.LNK_CRC_ERR.COUNT port) := by
  simp [State.weirTaken, h, htrain, hei]

theorem weirTaken_training (h : osetCode v = ocTRAIN ∨ osetCode v = ocEI) : s.weirTaken port v take = s := by
  have hin : [ocTRAIN, ocEI].contains (osetCode v) = true := by simpa using h
  rw [State.weirTaken, weirRx_training h]
  exact if_pos hin

theorem weirTaken_bad (h : weirRx v = .badCrc ∨ weirRx v = .badFields) : ∃ report, s.weirTaken port v take = s.weirBad port v report := by
  rcases h with h | h
  · exact ⟨false, by rw [State.weirTaken, h]⟩
  · exact ⟨true, by rw [State.weirTaken, h]⟩

theorem weirTaken_valid {x : WeirSet} (h : weirRx v = .valid x) : s.weirTaken port v take = take x := by rw [State.weirTaken, h]

theorem hull_weirTaken (h : ∀ x, (take x).hull = s.hull) : (s.weirTaken port v take).hull = s.hull := by
  unfold State.weirTaken
  split
  · split <;> simp
  · simp [State.weirBad]
  · simp [State.weirBad]
  · exact h _

end

/-- A block of another O_CODE counts among the port's bad blocks (R238). -/
theorem crcErr_counts (s : State) (dt port : Nat) : ((State.advance dt s).inc (F.LNK_CRC_ERR.COUNT port)).get (F.LNK_CRC_ERR.COUNT port) = min (s.get (F.LNK_CRC_ERR.COUNT port) + 1) 0xFFFFFFFF ∧
    ((State.advance dt s).inc (F.LNK_CRC_ERR.COUNT port)).out = s.out ∧ ((State.advance dt s).inc (F.LNK_CRC_ERR.COUNT port)).weir = s.weir ∧
    s.RegsBut [(F.LNK_CRC_ERR.COUNT port).off] ((State.advance dt s).inc (F.LNK_CRC_ERR.COUNT port)) :=
  ⟨inc_get _ rfl rfl, rfl, rfl, (advance_regs s dt _).inc _ List.mem_cons_self⟩

/-- An invalid Weir is counted, and reported when only its fields fail (R192). -/
theorem weirBad_counts (s : State) (dt port v : Nat) (report : Bool) : ((State.advance dt s).weirBad port v report).get F.WEIR_CRC_CNT.COUNT = min (s.get F.WEIR_CRC_CNT.COUNT + 1) 0xFFFFFFFF ∧
    ((State.advance dt s).weirBad port v report).weir = s.weir ∧ ((State.advance dt s).weirBad port v report).out = s.out ∧ ((State.advance dt s).weirBad port v report).gate = s.gate ∧
    s.RegsBut (F.WEIR_CRC_CNT.COUNT.off :: recCounters) ((State.advance dt s).weirBad port v report) := by
  have hinc := inc_get (State.advance dt s) (f := F.WEIR_CRC_CNT.COUNT) rfl rfl
  have hregs : s.RegsBut (F.WEIR_CRC_CNT.COUNT.off :: recCounters) ((State.advance dt s).inc F.WEIR_CRC_CNT.COUNT) := (advance_regs s dt _).inc _ List.mem_cons_self
  unfold State.weirBad
  dsimp only
  split
  · exact ⟨(State.raise_get _ _ _ _ rfl).trans hinc, State.raise_weir _ _ _, State.raise_out _ _ _, State.raise_gate _ _ _, hregs.raise _ _ fun _ => List.mem_cons_of_mem _⟩
  · exact ⟨hinc, rfl, rfl, rfl, hregs⟩

section

variable {s : State} {dt port v : Nat} {take : WeirSet → State}

theorem weirTaken_other_counts (h : weirRx v = .notWeir) (htrain : osetCode v ≠ ocTRAIN) (hei : osetCode v ≠ ocEI) :
    ((State.advance dt s).weirTaken port v take).get (F.LNK_CRC_ERR.COUNT port) = min (s.get (F.LNK_CRC_ERR.COUNT port) + 1) 0xFFFFFFFF ∧
      ((State.advance dt s).weirTaken port v take).out = s.out ∧ ((State.advance dt s).weirTaken port v take).weir = s.weir ∧
      s.RegsBut [(F.LNK_CRC_ERR.COUNT port).off] ((State.advance dt s).weirTaken port v take) := by
  rw [weirTaken_other h htrain hei]
  exact crcErr_counts s dt port

theorem weirTaken_bad_counts (h : weirRx v = .badCrc ∨ weirRx v = .badFields) :
    ((State.advance dt s).weirTaken port v take).get F.WEIR_CRC_CNT.COUNT = min (s.get F.WEIR_CRC_CNT.COUNT + 1) 0xFFFFFFFF ∧
      ((State.advance dt s).weirTaken port v take).weir = s.weir ∧ ((State.advance dt s).weirTaken port v take).out = s.out ∧ ((State.advance dt s).weirTaken port v take).gate = s.gate ∧
      s.RegsBut (F.WEIR_CRC_CNT.COUNT.off :: recCounters) ((State.advance dt s).weirTaken port v take) := by
  obtain ⟨report, hcounted⟩ := weirTaken_bad (s := State.advance dt s) (port := port) (take := take) h
  rw [hcounted]
  exact weirBad_counts s dt port v report

end

/-! ### A valid Weir counted and shown (R214) -/

/-- Registers that a Weir received shows itself in. -/
def weirRegs : List Nat := [F.WEIR_RX_CNT.COUNT.off, F.WEIR_LAST.SEQ.off]

def State.weirHeard (s : State) (x : WeirSet) : State := (s.inc F.WEIR_RX_CNT.COUNT).weirLast x

theorem weirHeard_weirs (s : State) (x : WeirSet) : s.Weirs weirRegs (s.weirHeard x) := ((State.Weirs.refl weirRegs s).inc F.WEIR_RX_CNT.COUNT (by decide)).weirLast x (by decide)

theorem weirLast_scope (s : State) (x : WeirSet) (h : x.scope < 4) : (s.weirLast x).get F.WEIR_LAST.SCOPE = x.scope := by
  rw [State.weirLast, State.get_set_apart _ _ _ _ rfl (by decide), State.get_set_apart _ _ _ _ rfl (by decide), State.get_set_apart _ _ _ _ rfl (by decide),
    State.get_set_apart _ _ _ _ rfl (by decide), State.get_set_same _ _ _ rfl]
  exact Nat.mod_eq_of_lt h

theorem weirLast_origin (s : State) (x : WeirSet) (h : x.origin < 256) : (s.weirLast x).get F.WEIR_LAST.ORIGIN = x.origin := by
  rw [State.weirLast, State.get_set_apart _ _ _ _ rfl (by decide), State.get_set_same _ _ _ rfl]
  exact Nat.mod_eq_of_lt h

theorem weirLast_seq (s : State) (x : WeirSet) (h : x.seq < 256) : (s.weirLast x).get F.WEIR_LAST.SEQ = x.seq := by
  rw [State.weirLast, State.get_set_same _ _ _ rfl]
  exact Nat.mod_eq_of_lt h

theorem weirHeard_out (s : State) (x : WeirSet) : (s.weirHeard x).out = s.out := rfl

theorem weirHeard_counts (s : State) (x : WeirSet) : (s.weirHeard x).get F.WEIR_RX_CNT.COUNT = min (s.get F.WEIR_RX_CNT.COUNT + 1) 0xFFFFFFFF :=
  ((weirLast_regs _ x).get (by decide)).trans (inc_get s rfl rfl)

/-! ### Sets on the lanes (R193, R195, R307) -/

theorem sendSets_out (s : State) (p : Nat) (vs : List Nat) : (s.sendSets p true vs).out = if s.lanesOff then s.out else s.out ++ [.sets p vs] := by
  unfold State.sendSets State.laneOut
  split <;> rfl

/-- Three copies leave by every port of a list, unless PLL-L holds the lanes off. -/
theorem sendWeir_out (s : State) (ports : List Nat) (x : WeirSet) :
    (s.sendWeir ports x).out = if s.lanesOff then s.out else s.out ++ ports.map (fun p => .sets p (List.replicate 3 (weirSet x))) := by
  unfold State.sendWeir
  induction ports generalizing s with
  | nil => simp
  | cons p l ih =>
    have hoff : (s.sendSets p true (List.replicate 3 (weirSet x))).lanesOff = s.lanesOff := wired_lanesOff (laneOut_wired s p _ _)
    rw [List.foldl_cons, ih, hoff, sendSets_out]
    split
    · rfl
    · rw [List.map_cons, List.append_assoc, List.singleton_append]

theorem wired_weir {s t : State} (h : s.Wired t) : t.weir = s.weir := (congrArg State.weir h).trans rfl

end Sys2Proof.Machine
end

section
/-! PROOFS. A Weir at a Spring: the hold it brings, the channels that go low and the set forwarded (R192 to R198). -/
namespace Sys2Proof.Machine

/-! ### A hold entered (R197, R198) -/

/-- Besides its registers and its gate the second state is the first. -/
def State.Gated (s t : State) : Prop := t = { s with regs := t.regs, gate := t.gate }

theorem State.Gated.trans {s t u : State} (h : s.Gated t) (k : t.Gated u) : s.Gated u := by
  unfold State.Gated at h k ⊢
  rw [k, h]

theorem State.OnlyHbs.gated {s t : State} (h : s.OnlyHbs t) : s.Gated t := by
  obtain ⟨l, rfl⟩ := h
  rfl

/-- The channels that a hold stops go low. -/
theorem holdLow_onlyHbs (s : State) (t : Nat) : s.OnlyHbs ((List.range 6).foldl (fun s n => if s.holdStops n then s.hbLow n t else s) s) := by
  refine .foldl (fun s n => ?_) _ s
  split
  · exact onlyHbs_hbLow s n t
  · exact .same s

theorem endTest_gated (s : State) (t : Nat) : s.Gated (s.endTest t) := by
  unfold State.endTest
  split
  · next p _ =>
    have hnone : s.Gated { s with gate := { s.gate with test := none } } := rfl
    have hlow := ((onlyHbs_hbLow { s with gate := { s.gate with test := none } } (p.ch / 2) t).trans (onlyHbs_uncommand _ [p.ch / 2])).gated
    exact (hnone.trans hlow).trans rfl
  · rfl

theorem holdLow_gated (s : State) (t : Nat) : s.Gated (s.holdLow t) := (holdLow_onlyHbs s t).gated.trans (endTest_gated _ t)

theorem endTest_get (s : State) (t : Nat) {f : Fld} (hok : f.ok = true) (ha : F.GATE_STATUS.TEST_BUSY.apart f = true) : (s.endTest t).get f = s.get f := by
  unfold State.endTest
  split
  · rw [State.get_set_apart _ _ _ _ hok ha, ((onlyHbs_hbLow _ _ _).trans (onlyHbs_uncommand _ _)).get]
    rfl
  · rfl

theorem holdLow_get (s : State) (t : Nat) {f : Fld} (hok : f.ok = true) (ha : F.GATE_STATUS.TEST_BUSY.apart f = true) : (s.holdLow t).get f = s.get f :=
  (endTest_get _ t hok ha).trans ((holdLow_onlyHbs s t).get f)

theorem holdLow_regs (s : State) (t : Nat) : s.RegsBut [F.GATE_STATUS.TEST_BUSY.off] (s.holdLow t) :=
  fun o ho => (heeds_holdLow s t).regs o (beq_false_of_ne fun e => ho (List.mem_singleton.mpr e))

/-- A hold's entry, of the arm or of the station: one in force keeps its stamp. -/
def State.holdIn (s : State) (flag stamp : Fld) (t : Nat) : State := if s.flag flag then s else ((s.set flag 1).set stamp s.stamp).holdLow t

section

variable (s : State) {flag stamp f : Fld} (t : Nat)

theorem holdIn_gated : s.Gated (s.holdIn flag stamp t) := by
  unfold State.holdIn
  split
  · rfl
  · have hset : s.Gated ((s.set flag 1).set stamp s.stamp) := rfl
    exact hset.trans (holdLow_gated _ t)

theorem holdIn_regs : s.RegsBut [flag.off, stamp.off, F.GATE_STATUS.TEST_BUSY.off] (s.holdIn flag stamp t) := by
  unfold State.holdIn
  split
  · exact regsBut_same s _
  · exact regsBut_trans (((regsBut_same s _).set flag 1 (by simp)).set stamp s.stamp (by simp)) (regsBut_wider (holdLow_regs _ t) (by simp))

theorem holdIn_get (hok : f.ok = true) (hflag : flag.apart f = true) (hstamp : stamp.apart f = true) (hbusy : F.GATE_STATUS.TEST_BUSY.apart f = true) :
    (s.holdIn flag stamp t).get f = s.get f := by
  unfold State.holdIn
  split
  · rfl
  · rw [holdLow_get _ _ hok hbusy, State.get_set_apart _ _ _ _ hok hstamp, State.get_set_apart _ _ _ _ hok hflag]

/-- The hold is shown. -/
theorem holdIn_flag (hw : flag.w = 1) (hok : flag.ok = true) (hstamp : stamp.apart flag = true) (hbusy : F.GATE_STATUS.TEST_BUSY.apart flag = true) :
    (s.holdIn flag stamp t).get flag = 1 := by
  unfold State.holdIn
  split
  · next hin => exact get_of_flag hw hin
  · rw [holdLow_get _ _ hok hbusy, State.get_set_apart _ _ _ _ hok hstamp, State.get_set_same _ _ _ hok, hw]
    rfl

/-- A hold that begins keeps the moment it began. -/
theorem holdIn_stamp (hnew : s.get flag = 0) (hw : stamp.w = 32) (hok : stamp.ok = true) (hbusy : F.GATE_STATUS.TEST_BUSY.apart stamp = true) :
    (s.holdIn flag stamp t).get stamp = s.stamp := by
  rw [State.holdIn, if_neg (by simp [State.flag, hnew]), holdLow_get _ _ hok hbusy, State.get_set_same _ _ _ hok, hw]
  exact Nat.mod_eq_of_lt (Nat.mod_lt _ (by decide))

end

/-! ### A Weir obeyed (R197) -/

/-- The pair kept, and reported unless it is one already obeyed. -/
def State.noteObeyed (s : State) (port : Nat) (x : WeirSet) : State :=
  if s.weir.obeyed.contains (x.origin, x.seq) then s
  else
    let l := s.weir.obeyed ++ [(x.origin, x.seq)]
    let s := { s with weir := { s.weir with obeyed := l.drop (l.length - 16) } }
    s.raise Ev.WEIR_OBEYED [x.origin, x.seq, x.cause, x.scope, fullStamp s.stamp x.stamp, s.stamp, port]

section

variable (s : State) (port : Nat) (x : WeirSet)

theorem noteObeyed_weirs : s.Weirs recCounters (s.noteObeyed port x) := by
  unfold State.noteObeyed
  split
  · exact .refl _ s
  · exact ((State.Weirs.refl _ s).memory _).raise _ _ fun _ ho => ho

theorem noteObeyed_out : (s.noteObeyed port x).out = s.out := by
  unfold State.noteObeyed
  split
  · rfl
  · exact State.raise_out _ _ _

/-- A Weir of its own arm, or of the station. -/
def State.weirMine (s : State) (x : WeirSet) : Bool := if x.scope == 1 then s.get F.WEIR_SCFG.ARM_ID == x.arm && x.arm != 0xF else true

theorem obey_eq : s.obey port x =
    if s.weirMine x then
      (if x.scope == 1 then s.holdIn F.WEIR_SSTAT.ARM_HOLD F.WEIR_HOLD_IN.STAMP (s.now 0) else s.holdIn F.WEIR_SSTAT.STN_HOLD F.WEIR_STN_IN.STAMP (s.now 0)).noteObeyed port x
    else s := rfl

theorem obey_arm {x : WeirSet} (hscope : x.scope = 1) (hmine : s.get F.WEIR_SCFG.ARM_ID = x.arm) (harm : x.arm < 12) :
    s.obey port x = (s.holdIn F.WEIR_SSTAT.ARM_HOLD F.WEIR_HOLD_IN.STAMP (s.now 0)).noteObeyed port x := by
  have hnone : x.arm ≠ 15 := by omega
  rw [obey_eq, if_pos (by simp [State.weirMine, hmine, hnone]), if_pos (by simp [hscope])]

theorem obey_station {x : WeirSet} (hscope : x.scope = 2) :
    s.obey port x = (s.holdIn F.WEIR_SSTAT.STN_HOLD F.WEIR_STN_IN.STAMP (s.now 0)).noteObeyed port x := by
  rw [obey_eq, if_pos (by simp [State.weirMine, hscope]), if_neg (by simp [hscope])]

theorem obey_other {x : WeirSet} (hscope : x.scope = 1) (hmine : s.get F.WEIR_SCFG.ARM_ID ≠ x.arm) : s.obey port x = s := by
  rw [obey_eq, if_neg (by simp [State.weirMine, hscope, hmine])]

end

/-! ### WEIR_RX_SPRING -/

/-- Registers that a Spring's Weir may change. -/
def obeyRegs : List Nat :=
  [F.WEIR_RX_CNT.COUNT.off, F.WEIR_LAST.SEQ.off, F.WEIR_SSTAT.ARM_HOLD.off, F.WEIR_HOLD_IN.STAMP.off, F.WEIR_STN_IN.STAMP.off, F.GATE_STATUS.TEST_BUSY.off] ++ recCounters

/-- What obeying a Weir leaves: all that left the device, BLOCK, what shows the Weir, and the registers but a few. -/
structure State.Obeys (s t : State) : Prop where
  out : t.out = s.out
  get : ∀ f ∈ [F.GATE_STATUS.BLOCK, F.WEIR_RX_CNT.COUNT, F.WEIR_LAST.CAUSE, F.WEIR_LAST.ORIGIN, F.WEIR_LAST.SEQ], t.get f = s.get f
  regs : s.RegsBut obeyRegs t

theorem State.Obeys.same (s : State) : s.Obeys s := ⟨rfl, fun _ _ => rfl, regsBut_same s _⟩

/-- A hold entered and noted. -/
theorem holdIn_obeys (s : State) (port : Nat) (x : WeirSet) (t : Nat) {flag stamp : Fld} (hflag : flag ∈ [F.WEIR_SSTAT.ARM_HOLD, F.WEIR_SSTAT.STN_HOLD])
    (hstamp : stamp ∈ [F.WEIR_HOLD_IN.STAMP, F.WEIR_STN_IN.STAMP]) : s.Obeys ((s.holdIn flag stamp t).noteObeyed port x) := by
  have hnote := noteObeyed_weirs (s.holdIn flag stamp t) port x
  refine ⟨?_, fun f hf => ?_, ?_⟩
  · exact (noteObeyed_out _ port x).trans ((congrArg State.out (holdIn_gated s (flag := flag) (stamp := stamp) t)).trans rfl)
  · have hapart : ∀ g ∈ [F.WEIR_SSTAT.ARM_HOLD, F.WEIR_SSTAT.STN_HOLD] ++ ([F.WEIR_HOLD_IN.STAMP, F.WEIR_STN_IN.STAMP] ++ [F.GATE_STATUS.TEST_BUSY]),
        ∀ f ∈ [F.GATE_STATUS.BLOCK, F.WEIR_RX_CNT.COUNT, F.WEIR_LAST.CAUSE, F.WEIR_LAST.ORIGIN, F.WEIR_LAST.SEQ], f.ok = true ∧ f.off ∉ recCounters ∧ g.apart f = true := by decide
    obtain ⟨hok, hq, h1⟩ := hapart flag (List.mem_append_left _ hflag) f hf
    obtain ⟨-, -, h2⟩ := hapart stamp (List.mem_append_right _ (List.mem_append_left _ hstamp)) f hf
    obtain ⟨-, -, h3⟩ := hapart F.GATE_STATUS.TEST_BUSY (by simp) f hf
    exact (hnote.get hq).trans (holdIn_get s t hok h1 h2 h3)
  · have hin : ∀ o ∈ [flag.off, stamp.off, F.GATE_STATUS.TEST_BUSY.off], o ∈ obeyRegs := by
      simp only [List.mem_cons, List.not_mem_nil, or_false] at hflag hstamp
      rcases hflag with rfl | rfl <;> rcases hstamp with rfl | rfl <;> decide
    exact regsBut_trans (regsBut_wider (holdIn_regs s t) hin) (regsBut_wider hnote.regs (by decide))

theorem obey_obeys (s : State) (port : Nat) {x : WeirSet} (hx : WeirFits x) : s.Obeys (s.obey port x) := by
  rcases hx.scope with ⟨hscope, harm⟩ | hscope
  · by_cases hmine : s.get F.WEIR_SCFG.ARM_ID = x.arm
    · rw [obey_arm s port hscope hmine harm]
      exact holdIn_obeys s port x _ (by simp) (by simp)
    · rw [obey_other s port hscope hmine]
      exact .same s
  · rw [obey_station s port hscope]
    exact holdIn_obeys s port x _ (by simp) (by simp)

/-- The Spring's own Weir is not forwarded (R193). -/
def State.ownWeir (s : State) (x : WeirSet) : Bool := s.flag F.LNK_SPOS.ENROLLED && x.origin == s.selfId

/-- A valid Weir forwarded by the other port, unless it is its own. -/
def State.weirPassedOn (s : State) (port v : Nat) (x : WeirSet) : State := if s.ownWeir x then s else s.sendSets (1 - port) true [v]

/-- A valid Weir forwarded and shown. -/
def State.springHears (s : State) (port v : Nat) (x : WeirSet) : State := (s.weirPassedOn port v x).weirHeard x

theorem weirRxSpring_eq (s : State) (dt v : Nat) (port : Fin 2) :
    exec (.weirRxSpring dt port v) s = onSpring s fun s => (State.advance dt s).weirTaken port v fun x => ((State.advance dt s).springHears port v x).obey port x := rfl

section

variable (s : State) (port v : Nat) (x : WeirSet)

theorem weirPassedOn_wired : s.Wired (s.weirPassedOn port v x) := by
  unfold State.weirPassedOn
  split
  · exact wired_same s
  · exact laneOut_wired s _ _ _

theorem weirPassedOn_out : (s.weirPassedOn port v x).out = if s.lanesOff = true ∨ s.ownWeir x = true then s.out else s.out ++ [.sets (1 - port) [v]] := by
  unfold State.weirPassedOn
  split
  · next hown => rw [if_pos (.inr hown)]
  · next hown => simpa [hown] using sendSets_out s (1 - port) [v]

theorem springHears_out : (s.springHears port v x).out = if s.lanesOff = true ∨ s.ownWeir x = true then s.out else s.out ++ [.sets (1 - port) [v]] :=
  (weirHeard_out _ x).trans (weirPassedOn_out s port v x)

theorem springHears_weirs : s.Weirs weirRegs (s.springHears port v x) := (State.Weirs.of_wired (weirPassedOn_wired s port v x)).trans (weirHeard_weirs _ x)

theorem springHears_counts : (s.springHears port v x).get F.WEIR_RX_CNT.COUNT = min (s.get F.WEIR_RX_CNT.COUNT + 1) 0xFFFFFFFF := by
  have hsame : (s.weirPassedOn port v x).get F.WEIR_RX_CNT.COUNT = s.get F.WEIR_RX_CNT.COUNT := (State.Weirs.of_wired (l := []) (weirPassedOn_wired s port v x)).get List.not_mem_nil
  exact (weirHeard_counts _ x).trans (by rw [hsame])

end

theorem weirHeard_shows (s : State) {x : WeirSet} (hx : WeirFits x) :
    (s.weirHeard x).get F.WEIR_LAST.CAUSE = x.cause ∧ (s.weirHeard x).get F.WEIR_LAST.ORIGIN = x.origin ∧ (s.weirHeard x).get F.WEIR_LAST.SEQ = x.seq :=
  ⟨weirLast_cause _ x hx.cause, weirLast_origin _ x hx.origin, weirLast_seq _ x hx.seq⟩

section

variable {s : State} {dt v : Nat} {port : Fin 2} (hlive : s.live = true) (hr : s.role = .spring)
include hlive hr

theorem springRx {p : State → Prop} (hp : p ((State.advance dt s).weirTaken port v fun x => ((State.advance dt s).springHears port v x).obey port x)) :
    GoesTo (exec (.weirRxSpring dt port v) s) p := by
  rw [weirRxSpring_eq]
  refine goesTo_spring hlive hr ?_
  rw [confine_hull (by
    refine (hull_weirTaken fun x => ?_).trans (hull_advance dt s)
    rw [hull_obey]
    unfold State.springHears State.weirHeard State.weirPassedOn
    split <;> simp)]
  exact hp

theorem springRx_valid {x : WeirSet} (hx : weirRx v = .valid x) : GoesTo (exec (.weirRxSpring dt port v) s) fun t =>
      t.out = (if s.lanesOff = true ∨ (s.get F.LNK_SPOS.ENROLLED ≠ 0 ∧ x.origin = s.selfId) then s.out else s.out ++ [.sets (1 - port.val) [v]]) ∧
      t.get F.WEIR_RX_CNT.COUNT = min (s.get F.WEIR_RX_CNT.COUNT + 1) 0xFFFFFFFF ∧ t.get F.WEIR_LAST.CAUSE = x.cause ∧ t.get F.WEIR_LAST.ORIGIN = x.origin ∧ t.get F.WEIR_LAST.SEQ = x.seq ∧
      (x.scope = 1 → x.arm = s.get F.WEIR_SCFG.ARM_ID → t.get F.WEIR_SSTAT.ARM_HOLD = 1 ∧ t.get F.WEIR_SSTAT.STN_HOLD = s.get F.WEIR_SSTAT.STN_HOLD ∧
        (s.get F.WEIR_SSTAT.ARM_HOLD = 0 → t.get F.WEIR_HOLD_IN.STAMP = (State.advance dt s).stamp)) ∧
      (x.scope = 1 → x.arm ≠ s.get F.WEIR_SCFG.ARM_ID → t.get F.WEIR_SSTAT.ARM_HOLD = s.get F.WEIR_SSTAT.ARM_HOLD ∧ t.gate = s.gate) ∧
      (x.scope = 2 → t.get F.WEIR_SSTAT.STN_HOLD = 1 ∧ (s.get F.WEIR_SSTAT.STN_HOLD = 0 → t.get F.WEIR_STN_IN.STAMP = (State.advance dt s).stamp)) ∧ t.blocked = s.blocked ∧
      s.RegsBut obeyRegs t := by
  refine springRx hlive hr ?_
  rw [weirTaken_valid hx]
  have hfit := weirRx_valid hx
  have hheard := springHears_weirs (State.advance dt s) port v x
  obtain ⟨hcause, horigin, hshown⟩ : ((State.advance dt s).springHears port v x).get F.WEIR_LAST.CAUSE = x.cause ∧
      ((State.advance dt s).springHears port v x).get F.WEIR_LAST.ORIGIN = x.origin ∧ ((State.advance dt s).springHears port v x).get F.WEIR_LAST.SEQ = x.seq := weirHeard_shows _ hfit
  have hcount := springHears_counts (State.advance dt s) port v x
  have hout := springHears_out (State.advance dt s) port v x
  have hregs : s.RegsBut obeyRegs ((State.advance dt s).springHears port v x) := regsBut_trans (advance_regs s dt _) (regsBut_wider hheard.regs (by decide))
  have hstamp : ((State.advance dt s).springHears port v x).stamp = (State.advance dt s).stamp := by rw [State.stamp, hheard.time, State.stamp]
  have hget : ∀ f : Fld, f.off ∉ weirRegs → ((State.advance dt s).springHears port v x).get f = s.get f := fun f hf => hheard.get hf
  have hgate : ((State.advance dt s).springHears port v x).gate = s.gate := hheard.gate
  generalize (State.advance dt s).springHears port v x = u at hshown horigin hcause hcount hout hregs hstamp hget hgate
  have hobeys := obey_obeys u port hfit
  refine ⟨?_, (hobeys.get _ (by decide)).trans hcount, (hobeys.get _ (by decide)).trans hcause, (hobeys.get _ (by decide)).trans horigin, (hobeys.get _ (by decide)).trans hshown, ?_, ?_, ?_, ?_,
    regsBut_trans hregs hobeys.regs⟩
  · rw [hobeys.out, hout]
    congr 1
    simp [State.ownWeir, State.flag]
    rfl
  · intro hscope hmine
    have harm : x.arm < 12 := by
      have := hfit.scope
      omega
    rw [obey_arm u port hscope ((hget _ (by decide)).trans hmine.symm) harm]
    have hnote := noteObeyed_weirs (u.holdIn F.WEIR_SSTAT.ARM_HOLD F.WEIR_HOLD_IN.STAMP (u.now 0)) port x
    refine ⟨(hnote.get (by decide)).trans (holdIn_flag u _ rfl rfl rfl rfl), (hnote.get (by decide)).trans ((holdIn_get u _ rfl rfl rfl rfl).trans (hget _ (by decide))), fun hnew => ?_⟩
    exact (hnote.get (by decide)).trans ((holdIn_stamp u _ ((hget _ (by decide)).trans hnew) rfl rfl rfl).trans hstamp)
  · intro hscope hmine
    rw [obey_other u port hscope fun h => hmine (h.symm.trans (hget _ (by decide)))]
    exact ⟨hget _ (by decide), hgate⟩
  · intro hscope
    rw [obey_station u port hscope]
    have hnote := noteObeyed_weirs (u.holdIn F.WEIR_SSTAT.STN_HOLD F.WEIR_STN_IN.STAMP (u.now 0)) port x
    refine ⟨(hnote.get (by decide)).trans (holdIn_flag u _ rfl rfl rfl rfl), fun hnew => ?_⟩
    exact (hnote.get (by decide)).trans ((holdIn_stamp u _ ((hget _ (by decide)).trans hnew) rfl rfl rfl).trans hstamp)
  · exact blocked_of ((hobeys.get _ (by decide)).trans (hget _ (by decide)))

end

end Sys2Proof.Machine
end

section
/-! PROOFS. A station block, and a station Weir of a Basin's own (R58, R189, R195, R204, R205, R214). -/
namespace Sys2Proof.Machine

/-! ### What a hardware cause and a demand may change (R58, R412) -/

/-- Registers that a hardware cause or a demand may change, and those of the recorder. -/
def demandRegs : List Nat := [F.CTL_STATUS.STATE.off, F.SAFE_STAT.CAUSE.off, F.SAFE_TEST.NEXT.off] ++ recCounters

/-- Besides some registers, the recorder, the controller and the safety block, the second state is the first. -/
structure State.Demands (s t : State) : Prop where
  same : t = { s with regs := t.regs, w1c := t.w1c, recd := t.recd, ctl := t.ctl, safe := t.safe }
  regs : s.RegsBut demandRegs t

namespace State.Demands

variable {s t u : State}

theorem refl (s : State) : s.Demands s := ⟨rfl, regsBut_same s _⟩

theorem trans (h : s.Demands t) (k : t.Demands u) : s.Demands u := by
  refine ⟨?_, regsBut_trans h.regs k.regs⟩
  rw [k.same, h.same]

theorem set (h : s.Demands t) (f : Fld) (v : Nat) (hf : f.off ∈ demandRegs) : s.Demands (t.set f v) := h.trans ⟨rfl, regsBut_set t f v _ hf⟩

theorem raise (h : s.Demands t) (c : Nat) (p : List Nat) : s.Demands (t.raise c p) := by
  refine h.trans ⟨?_, regsBut_raise t c p _ (by decide)⟩
  rw [State.recorded_raise t c p]

theorem ctl (h : s.Demands t) (c : CtlSt) : s.Demands { t with ctl := c } := h.trans ⟨rfl, regsBut_hidden _ rfl rfl rfl⟩

theorem safe (h : s.Demands t) (f : SafeSt) : s.Demands { t with safe := f } := h.trans ⟨rfl, regsBut_hidden _ rfl rfl rfl⟩

section
variable (h : s.Demands t)
include h

theorem weir : t.weir = s.weir := (congrArg State.weir h.same).trans rfl
theorem out : t.out = s.out := (congrArg State.out h.same).trans rfl
theorem time : t.time = s.time := (congrArg State.time h.same).trans rfl

end

end State.Demands

section

variable (s : State)

theorem toState_demands (n cause : Nat) : s.Demands (s.toState n cause) := by
  unfold State.toState
  split
  · exact .refl s
  · exact (((State.Demands.refl s).set F.CTL_STATUS.STATE n (by decide)).ctl _).raise _ _

theorem hwStep_demands : s.Demands s.hwStep := by
  rw [hwStep_eq]
  split
  · exact ((State.Demands.refl s).ctl _).trans (toState_demands _ _ _)
  · exact (State.Demands.refl s).ctl _

theorem hwCause_demands (n : Nat) : s.Demands (s.hwCause n) := by
  have hmax := (State.Demands.refl s).ctl { s.ctl with hw := max s.ctl.hw n }
  unfold State.hwCause
  dsimp only
  split
  · exact hmax
  · exact hmax.trans (hwStep_demands _)

theorem undoOutEn_demands : s.Demands s.undoOutEn := by
  unfold State.undoOutEn
  split
  · exact (((((State.Demands.refl s).set F.SAFE_STAT.OUT_ON 0 (by decide)).set F.SAFE_STAT.HS 0 (by decide)).set F.SAFE_STAT.LS 0 (by decide)).safe _).raise _ _
  · exact .refl s

theorem pulseFails_demands (why : Nat) : s.Demands (s.pulseFails why) := by
  unfold State.pulseFails
  split
  · exact .refl s
  · next p _ => exact ((((State.Demands.refl s).safe _).set F.SAFE_TEST.NEXT p.out (by decide)).set F.SAFE_TEST.NOT_DONE _ (by decide)).raise _ _

theorem latchDemand_demands (bit : Nat) : s.Demands (s.latchDemand bit) := by
  unfold State.latchDemand
  dsimp only
  split
  · exact .refl s
  · have hlatch := ((State.Demands.refl s).set F.SAFE_STAT.CAUSE (s.get F.SAFE_STAT.CAUSE ||| 2 ^ bit) (by decide)).set F.SAFE_STAT.DEMAND 1 (by decide)
    split
    · exact hlatch.raise _ _
    · exact (((((hlatch.trans (undoOutEn_demands _)).set F.SAFE_STAT.OUT_ON 0 (by decide)).safe _).trans (pulseFails_demands _ 0)).trans (hwCause_demands _ _)).raise _ _

end

/-! ### A station block (R205) -/

theorem State.Weirs.ticking {l : List Nat} {s t : State} (h : s.Weirs l t) (hr : s.role = .basin)
    (hl : ∀ o ∈ [F.CTL_STATUS.TICK_RUN.off, F.RED_CLAIM.ROLE.off, F.CTL_TICK_NUM.TICK.off], o ∉ l) : t.ticking = s.ticking := by
  rw [State.ticking, h.flag (hl _ (by simp)), h.get (hl _ (by simp)), h.tickNow hr (hl _ (by simp)), State.ticking]

/-- The block shown and reported, before its hardware cause. -/
def State.stationHeld (s : State) (cause origin : Nat) : State :=
  (State.set { s with weir := { s.weir with stnSince := s.tickNow } } F.WEIR_ARM_STAT.STN_HOLD 1).raise Ev.STATION_BLOCK [cause, origin]

theorem stationBlock_eq (s : State) (cause origin : Nat) : s.stationBlock cause origin =
    if ((s.stationHeld cause origin).hwCause ssFAULT).flag F.WEIR_CFG.STN_TRIP then ((s.stationHeld cause origin).hwCause ssFAULT).latchDemand dmBLOCK
    else (s.stationHeld cause origin).hwCause ssFAULT := rfl

/-- Registers that a station block may change. -/
def blockRegs : List Nat := F.WEIR_ARM_STAT.STN_HOLD.off :: demandRegs

theorem stationHeld_weirs (s : State) (cause origin : Nat) : s.Weirs (F.WEIR_ARM_STAT.STN_HOLD.off :: recCounters) (s.stationHeld cause origin) :=
  (((State.Weirs.refl _ s).memory _).set F.WEIR_ARM_STAT.STN_HOLD 1 (by decide)).raise _ _ (by decide)

theorem stationHeld_demands (s : State) (cause origin : Nat) : (s.stationHeld cause origin).Demands (s.stationBlock cause origin) := by
  rw [stationBlock_eq]
  have hcause := hwCause_demands (s.stationHeld cause origin) ssFAULT
  split
  · exact hcause.trans (latchDemand_demands _ _)
  · exact hcause

/-- What a station block leaves: the block shown, the arms held as they were, and the Weir memory but for the tick of the block. -/
structure State.StationBlocks (s t : State) : Prop where
  stn : t.get F.WEIR_ARM_STAT.STN_HOLD = 1
  held : t.get F.WEIR_ARM_STAT.HELD = s.get F.WEIR_ARM_STAT.HELD
  weir : t.weir = { s.weir with stnSince := s.tickNow }
  out : t.out = s.out
  time : t.time = s.time
  regs : s.RegsBut blockRegs t

theorem stationBlock_blocks (s : State) (cause origin : Nat) : s.StationBlocks (s.stationBlock cause origin) := by
  have hheld := stationHeld_weirs s cause origin
  have hdemand := stationHeld_demands s cause origin
  have hleft : ∀ f : Fld, f.off ∉ demandRegs → (s.stationBlock cause origin).get f = (s.stationHeld cause origin).get f := fun f hf => hdemand.regs.get hf
  refine ⟨?_, ?_, ?_, ?_, hdemand.time.trans hheld.time, regsBut_trans (regsBut_wider hheld.regs (by decide)) (regsBut_wider hdemand.regs (by decide))⟩
  · rw [hleft _ (by decide), State.stationHeld, State.raise_get _ _ _ _ rfl, State.get_set_same _ _ _ rfl]
    rfl
  · rw [hleft _ (by decide), State.stationHeld, State.raise_get _ _ _ _ rfl, State.get_set_apart _ _ _ _ rfl rfl]
    rfl
  · exact hdemand.weir.trans (State.raise_weir _ _ _)
  · exact hdemand.out.trans (State.raise_out _ _ _)

/-- With ticks running and no demand on a station block, the measure stage takes the cause (R58). -/
theorem stationBlock_waits {s : State} (hr : s.role = .basin) (htrip : s.get F.WEIR_CFG.STN_TRIP = 0) (htick : s.ticking = true) (cause origin : Nat) :
    (s.stationBlock cause origin).ctl.hw = max s.ctl.hw ssFAULT ∧ (s.stationBlock cause origin).station = s.station := by
  have hheld := stationHeld_weirs s cause origin
  have hticks : (s.stationHeld cause origin).ticking = true := (hheld.ticking hr (by decide)).trans htick
  have hwaits : (s.stationHeld cause origin).hwCause ssFAULT = { s.stationHeld cause origin with ctl := { (s.stationHeld cause origin).ctl with hw := max (s.stationHeld cause origin).ctl.hw ssFAULT } } :=
    if_pos hticks
  have hoff : ((s.stationHeld cause origin).hwCause ssFAULT).flag F.WEIR_CFG.STN_TRIP = false := by
    rw [State.flag, (hwCause_demands _ _).regs.get (by decide), hheld.get (by decide), htrip]
    rfl
  rw [stationBlock_eq, if_neg (by simp [hoff]), hwaits]
  exact ⟨congrArg (fun c : CtlSt => max c.hw ssFAULT) hheld.ctl, hheld.get (by decide)⟩

/-! ### A station Weir of this Basin's own (R189, R195, R214) -/

/-- Registers that originating a Weir may change. -/
def originRegs : List Nat := [F.WEIR_TX_CNT.COUNT.off, F.WEIR_LAST.SEQ.off] ++ recCounters

/-- What originating a Weir shows: its scope and cause, the next sequence number, and one Weir more sent. -/
structure State.Originates (scope cause : Nat) (s t : State) : Prop where
  scope : t.get F.WEIR_LAST.SCOPE = scope
  cause : t.get F.WEIR_LAST.CAUSE = cause
  count : t.get F.WEIR_TX_CNT.COUNT = min (s.get F.WEIR_TX_CNT.COUNT + 1) 0xFFFFFFFF
  seq : t.weir.seq = (s.weir.seq + 1) % 256
  weirs : s.Weirs originRegs t

/-- A Weir sent out of its scope's ports, counted and shown. -/
def State.weirGoes (s : State) (x : WeirSet) : State := ((s.sendWeir (s.weirPorts x) x).inc F.WEIR_TX_CNT.COUNT).weirLast x

section

variable (s : State) (x : WeirSet)

theorem weirGoes_weirs : s.Weirs originRegs (s.weirGoes x) := (((State.Weirs.refl _ s).sendWeir _ x).inc F.WEIR_TX_CNT.COUNT (by decide)).weirLast x (by decide)

theorem weirLast_weir : (s.weirLast x).weir = s.weir := rfl

theorem weirGoes_weir : (s.weirGoes x).weir = s.weir := by rw [State.weirGoes, weirLast_weir, State.inc_weir, wired_weir (sendWeir_wired s (s.weirPorts x) x)]

theorem weirGoes_counts : (s.weirGoes x).get F.WEIR_TX_CNT.COUNT = min (s.get F.WEIR_TX_CNT.COUNT + 1) 0xFFFFFFFF := by
  have hsent : (s.sendWeir (s.weirPorts x) x).get F.WEIR_TX_CNT.COUNT = s.get F.WEIR_TX_CNT.COUNT := ((State.Weirs.refl [] s).sendWeir _ x).get List.not_mem_nil
  exact ((weirLast_regs _ x).get (by decide)).trans ((inc_get _ rfl rfl).trans (by rw [hsent]))

end

theorem basinOriginate_eq (s : State) (scope arm cause : Nat) : (s.basinOriginate scope arm cause).1 =
    ((State.weirGoes (s.newWeir scope arm cause).1 (s.newWeir scope arm cause).2).raise Ev.WEIR_SENT
      [scope, arm, cause, (s.newWeir scope arm cause).2.seq, (State.weirGoes (s.newWeir scope arm cause).1 (s.newWeir scope arm cause).2).stamp]).keepPair
        (s.newWeir scope arm cause).2.origin (s.newWeir scope arm cause).2.seq := rfl

theorem newWeir_weirs (s : State) (l : List Nat) (scope arm cause : Nat) : s.Weirs l (s.newWeir scope arm cause).1 := (State.Weirs.refl l s).memory _

theorem basinOriginate_originates (s : State) {scope cause : Nat} (arm : Nat) (hscope : scope < 4) (hcause : cause < 16) :
    s.Originates scope cause (s.basinOriginate scope arm cause).1 := by
  have hnew := newWeir_weirs s [] scope arm cause
  have hseq : (s.newWeir scope arm cause).1.weir.seq = (s.weir.seq + 1) % 256 := rfl
  have hx : (s.newWeir scope arm cause).2.scope = scope ∧ (s.newWeir scope arm cause).2.cause = cause := ⟨rfl, rfl⟩
  rw [basinOriginate_eq]
  generalize (s.newWeir scope arm cause).1 = u at hnew hseq
  generalize (s.newWeir scope arm cause).2 = x at hx
  obtain ⟨rfl, rfl⟩ := hx
  refine ⟨?_, ?_, ?_, ?_, (hnew.wider (List.forall_mem_nil _)).trans (((weirGoes_weirs u x).raise _ _ (by decide)).memory _)⟩
  · exact (State.raise_get _ _ _ F.WEIR_LAST.SCOPE rfl).trans (weirLast_scope _ x hscope)
  · exact (State.raise_get _ _ _ F.WEIR_LAST.CAUSE rfl).trans (weirLast_cause _ x hcause)
  · exact (State.raise_get _ _ _ F.WEIR_TX_CNT.COUNT rfl).trans ((weirGoes_counts u x).trans (by rw [hnew.get List.not_mem_nil]))
  · exact (congrArg WeirSt.seq ((State.raise_weir _ _ _).trans (weirGoes_weir u x))).trans hseq

/-- Registers that a station Weir may change. -/
def stationRegs : List Nat := originRegs ++ blockRegs

/-- What a station Weir of a cause brings about at the Basin that originates it. -/
structure State.StationWeirs (cause : Nat) (s t : State) : Prop where
  stn : t.get F.WEIR_ARM_STAT.STN_HOLD = 1
  scope : t.get F.WEIR_LAST.SCOPE = 2
  cause : t.get F.WEIR_LAST.CAUSE = cause
  count : t.get F.WEIR_TX_CNT.COUNT = min (s.get F.WEIR_TX_CNT.COUNT + 1) 0xFFFFFFFF
  seq : t.weir.seq = (s.weir.seq + 1) % 256
  held : t.get F.WEIR_ARM_STAT.HELD = s.get F.WEIR_ARM_STAT.HELD
  regs : s.RegsBut stationRegs t

theorem stationWeir_weirs (s : State) {cause : Nat} (hcause : cause < 16) : s.StationWeirs cause (s.stationWeir cause) := by
  have horigin := basinOriginate_originates s 0xF (show 2 < 4 by decide) hcause
  have hblock := stationBlock_blocks (s.basinOriginate 2 0xF cause).1 cause (s.basinOriginate 2 0xF cause).2.origin
  exact ⟨hblock.stn, (hblock.regs.get (by decide)).trans horigin.scope, (hblock.regs.get (by decide)).trans horigin.cause, (hblock.regs.get (by decide)).trans horigin.count,
    (congrArg WeirSt.seq hblock.weir).trans horigin.seq, hblock.held.trans (horigin.weirs.get (by decide)),
    regsBut_trans (regsBut_wider horigin.weirs.regs (by decide)) (regsBut_wider hblock.regs (by decide))⟩

/-- A station Weir after an event raised. -/
theorem raise_stationWeir (s : State) (c : Nat) (p : List Nat) {cause : Nat} (hcause : cause < 16) : s.StationWeirs cause ((s.raise c p).stationWeir cause) := by
  obtain ⟨hstn, hscope, hcau, hcount, hseq, hheld, hregs⟩ := stationWeir_weirs (s.raise c p) hcause
  exact ⟨hstn, hscope, hcau, by rw [hcount, State.raise_get _ _ _ _ rfl], by rw [hseq, State.raise_weir], hheld.trans (State.raise_get _ _ _ _ rfl),
    regsBut_trans (regsBut_raise s c p _ (by decide)) hregs⟩

theorem escalate_weirs (s : State) (cond arm : Nat) : s.StationWeirs cauESC (s.escalate cond arm) := raise_stationWeir s _ _ (by decide)

end Sys2Proof.Machine
end

section
/-! PROOFS. A Weir at a Basin: relayed, its arm marked held, escalated at its limit, or the station blocked (R195, R201, R204, R205). -/
namespace Sys2Proof.Machine

/-! ### A pair relayed (R195) -/

theorem pairKnown_keepPair (s : State) (o q : Nat) : (s.keepPair o q).pairKnown o q = true := by simp [State.keepPair, State.pairKnown]

/-- A pair stays known while the memory and the time stand. -/
theorem pairKnown_of {s t : State} (hw : t.weir.relayed = s.weir.relayed) (ht : t.time = s.time) {o q : Nat} (h : s.pairKnown o q = true) : t.pairKnown o q = true := by
  rw [State.pairKnown, hw, ht]
  exact h

/-- A Weir heard at a port, relayed out of its scope's other ports, and its pair kept. -/
def State.relays (s : State) (port : Nat) (x : WeirSet) : State := (s.sendWeir ((s.weirPorts x).filter (· != port)) x).keepPair x.origin x.seq

theorem relays_weirs (s : State) (l : List Nat) (port : Nat) (x : WeirSet) : s.Weirs l (s.relays port x) := ((State.Weirs.refl l s).sendWeir _ x).memory _

theorem relays_out (s : State) (port : Nat) (x : WeirSet) : (s.relays port x).out =
    if s.lanesOff then s.out else s.out ++ ((s.weirPorts x).filter (· != port)).map (fun p => .sets p (List.replicate 3 (weirSet x))) := sendWeir_out s _ x

theorem relays_seq (s : State) (port : Nat) (x : WeirSet) : (s.relays port x).weir.seq = s.weir.seq :=
  have hsent : (s.sendWeir ((s.weirPorts x).filter (· != port)) x).weir.seq = s.weir.seq := congrArg WeirSt.seq (wired_weir (sendWeir_wired s _ x))
  hsent

/-! ### An arm marked held (R201) -/

/-- What the Basin keeps of an arm's hold when a Weir marks it. -/
def State.armAfter (s : State) (x : WeirSet) : ArmHold :=
  if s.armIsHeld x.arm then { s.armHold x.arm with origins := (s.armHold x.arm).origins ++ [x.origin] }
  else { s.armHold x.arm with origins := [x.origin], since := s.tickNow, lost := []
                              marks := (s.armHold x.arm).marks.filter (fun t => decide (s.time.cyc < t + 500000000)) ++ [s.time.cyc] }

/-- The arm held, with NOAUTO for BYP_FAIL. -/
def State.armShown (s : State) (x : WeirSet) : State :=
  let u := (s.setBit F.WEIR_ARM_STAT.HELD x.arm true).setArmHold x.arm (s.armAfter x)
  if x.cause == cauBYP then u.setBit F.WEIR_ARM_STAT.NOAUTO x.arm true else u

def State.armMarked (s : State) (x : WeirSet) (arrival : Nat) : State := (s.armShown x).raise Ev.ARM_HOLD [x.arm, x.origin, x.seq, x.cause, arrival]

/-- The limits of R204 that the active Basin looks at when an arm becomes held. -/
def State.armLimits (s : State) (was : Bool) (arm marks : Nat) : State :=
  if !s.isMaster || was || s.flag F.WEIR_ARM_STAT.STN_HOLD then s
  else if s.get F.WEIR_CFG.ESC_ARMS != 0 && decide (s.get F.WEIR_CFG.ESC_ARMS ≤ ((List.range 12).filter (fun a => s.armIsHeld a)).length) then s.escalate 2 arm
  else if s.get F.WEIR_CFG.ESC_MAX != 0 && decide (s.get F.WEIR_CFG.ESC_MAX < marks) then s.escalate 3 arm
  else s

theorem markArm_eq (s : State) (x : WeirSet) (arrival : Nat) : s.markArm x arrival =
    if (s.armSprings x.arm).isEmpty then s else (s.armMarked x arrival).armLimits (s.armIsHeld x.arm) x.arm (s.armAfter x).marks.length := rfl

/-- Registers that marking an arm held may change. -/
def markRegs : List Nat := F.WEIR_ARM_STAT.HELD.off :: recCounters

section

variable (s : State) (x : WeirSet) (arrival : Nat)

theorem armShown_weirs : s.Weirs markRegs (s.armShown x) := by
  have hheld : s.Weirs markRegs ((s.setBit F.WEIR_ARM_STAT.HELD x.arm true).setArmHold x.arm (s.armAfter x)) :=
    ((State.Weirs.refl _ s).set F.WEIR_ARM_STAT.HELD _ (by decide)).memory _
  unfold State.armShown
  dsimp only
  split
  · exact hheld.set F.WEIR_ARM_STAT.NOAUTO _ (by decide)
  · exact hheld

theorem armMarked_weirs : s.Weirs markRegs (s.armMarked x arrival) := (armShown_weirs s x).raise _ _ (by decide)

theorem armShown_keeps : (s.armShown x).out = s.out ∧ (s.armShown x).weir.relayed = s.weir.relayed ∧ (s.armShown x).weir.seq = s.weir.seq := by
  unfold State.armShown
  dsimp only
  split <;> exact ⟨rfl, rfl, rfl⟩

theorem armMarked_keeps : (s.armMarked x arrival).out = s.out ∧ (s.armMarked x arrival).weir.relayed = s.weir.relayed ∧ (s.armMarked x arrival).weir.seq = s.weir.seq := by
  rw [State.armMarked, State.raise_out, State.raise_weir]
  exact armShown_keeps s x

theorem armMarked_stn : (s.armMarked x arrival).get F.WEIR_ARM_STAT.STN_HOLD = s.get F.WEIR_ARM_STAT.STN_HOLD := by
  have hset : (s.setBit F.WEIR_ARM_STAT.HELD x.arm true).get F.WEIR_ARM_STAT.STN_HOLD = s.get F.WEIR_ARM_STAT.STN_HOLD := State.get_set_apart _ _ _ _ rfl rfl
  rw [State.armMarked, State.raise_get _ _ _ _ rfl, State.armShown]
  split
  · exact (State.get_set_apart _ _ _ _ rfl rfl).trans hset
  · exact hset

/-- Its bit joins those of HELD. -/
theorem armMarked_held : (s.armMarked x arrival).get F.WEIR_ARM_STAT.HELD = (s.get F.WEIR_ARM_STAT.HELD ||| 2 ^ x.arm) % 2 ^ 12 := by
  have hset : (s.setBit F.WEIR_ARM_STAT.HELD x.arm true).get F.WEIR_ARM_STAT.HELD = (s.get F.WEIR_ARM_STAT.HELD ||| 2 ^ x.arm) % 2 ^ 12 := State.get_set_same _ _ _ rfl
  rw [State.armMarked, State.raise_get _ _ _ _ rfl, State.armShown]
  split
  · exact (State.get_set_apart _ _ _ _ rfl rfl).trans hset
  · exact hset

theorem armMarked_noauto (hcause : x.cause = cauBYP) (harm : x.arm < 12) : ((s.armMarked x arrival).get F.WEIR_ARM_STAT.NOAUTO).testBit x.arm = true := by
  rw [State.armMarked, State.raise_get _ _ _ _ rfl, State.armShown]
  rw [hcause, if_pos (beq_self_eq_true _)]
  exact setBit_testBit rfl harm

theorem armMarked_isHeld {a : Nat} (ha : a < 12) : (s.armMarked x arrival).armIsHeld a = (s.armIsHeld a || decide (x.arm = a)) := by
  rw [State.armIsHeld, armMarked_held, Nat.testBit_mod_two_pow, Nat.testBit_or, Nat.testBit_two_pow, decide_eq_true ha, Bool.true_and, State.armIsHeld]

/-- One arm more is held. -/
theorem armMarked_count (harm : x.arm < 12) (hnew : s.armIsHeld x.arm = false) :
    ((List.range 12).filter s.armIsHeld).length + 1 ≤ ((List.range 12).filter (s.armMarked x arrival).armIsHeld).length := by
  have hnodup : (x.arm :: (List.range 12).filter s.armIsHeld).Nodup := List.nodup_cons.mpr ⟨by simp [hnew], List.nodup_range.filter _⟩
  have hsub : x.arm :: (List.range 12).filter s.armIsHeld ⊆ (List.range 12).filter (s.armMarked x arrival).armIsHeld := by
    intro a ha
    have hlt : a < 12 := by
      rcases List.mem_cons.mp ha with rfl | ha
      · exact harm
      · exact List.mem_range.mp (List.mem_filter.mp ha).1
    rw [List.mem_filter, armMarked_isHeld s x arrival hlt]
    refine ⟨List.mem_range.mpr hlt, ?_⟩
    rcases List.mem_cons.mp ha with rfl | ha
    · simp
    · simp [(List.mem_filter.mp ha).2]
  exact (hnodup.subperm hsub).length_le

end

/-! ### The limits on arms held (R204) -/

/-- A standby, an arm already held, a station block in force or no limit set: nothing escalates. -/
theorem armLimits_stays {s : State} {was : Bool} (arm marks : Nat)
    (h : s.isMaster = false ∨ was = true ∨ s.get F.WEIR_ARM_STAT.STN_HOLD = 1 ∨ (s.get F.WEIR_CFG.ESC_ARMS = 0 ∧ s.get F.WEIR_CFG.ESC_MAX = 0)) : s.armLimits was arm marks = s := by
  unfold State.armLimits
  rcases h with h | h | h | ⟨harms, hmost⟩
  · simp [h]
  · simp [h]
  · simp [State.flag, h]
  · simp [harms, hmost]

theorem armLimits_escalates {s : State} (arm marks : Nat) (hmaster : s.isMaster = true) (hstn : s.get F.WEIR_ARM_STAT.STN_HOLD = 0) (harms : s.get F.WEIR_CFG.ESC_ARMS ≠ 0)
    (hheld : s.get F.WEIR_CFG.ESC_ARMS ≤ ((List.range 12).filter s.armIsHeld).length) : s.armLimits false arm marks = s.escalate 2 arm := by
  unfold State.armLimits
  rw [if_neg (by simp [hmaster, State.flag, hstn]), if_pos (by simp [harms, hheld])]

/-! ### WEIR_RX_BASIN -/

/-- A Weir relayed acts on its arm, or on the station. -/
def State.relayedActs (s : State) (x : WeirSet) : State := if x.scope == 1 then s.markArm x s.stamp else s.stationBlock x.cause x.origin

theorem weirRxBasin_eq (s : State) (dt v : Nat) (port : Fin 12) : exec (.weirRxBasin dt port v) s = onBasin s fun s =>
    (State.advance dt s).weirTaken port v fun x =>
      if ((State.advance dt s).weirHeard x).pairKnown x.origin x.seq then (State.advance dt s).weirHeard x else (((State.advance dt s).weirHeard x).relays port x).relayedActs x := rfl

section

variable {s : State} {dt v : Nat} {port : Fin 12} (hlive : s.live = true) (hr : s.role = .basin)
include hlive hr

theorem basinRx {p : State → Prop} (hp : p ((State.advance dt s).weirTaken port v fun x =>
    if ((State.advance dt s).weirHeard x).pairKnown x.origin x.seq then (State.advance dt s).weirHeard x else (((State.advance dt s).weirHeard x).relays port x).relayedActs x)) :
    GoesTo (exec (.weirRxBasin dt port v) s) p := by
  rw [weirRxBasin_eq]
  refine goesTo_basin hlive hr ?_
  rw [confine_hull (by
    refine (hull_weirTaken fun x => ?_).trans (hull_advance dt s)
    unfold State.relayedActs State.relays State.weirHeard
    split
    · simp
    · split <;> simp)]
  exact hp

theorem basinRx_known {x : WeirSet} (hx : weirRx v = .valid x) (hknown : (State.advance dt s).pairKnown x.origin x.seq = true) :
    GoesTo (exec (.weirRxBasin dt port v) s) fun t => t.get F.WEIR_RX_CNT.COUNT = min (s.get F.WEIR_RX_CNT.COUNT + 1) 0xFFFFFFFF ∧ t.weir = s.weir ∧ t.out = s.out ∧ s.RegsBut weirRegs t := by
  refine basinRx hlive hr ?_
  have hheard := weirHeard_weirs (State.advance dt s) x
  rw [weirTaken_valid hx, if_pos (pairKnown_of rfl hheard.time hknown)]
  exact ⟨weirHeard_counts _ x, rfl, weirHeard_out _ x, regsBut_trans (advance_regs s dt _) hheard.regs⟩

theorem basinRx_new {x : WeirSet} (hx : weirRx v = .valid x) (hnew : (State.advance dt s).pairKnown x.origin x.seq = false) {p : State → Prop}
    (hp : p ((((State.advance dt s).weirHeard x).relays port x).relayedActs x)) : GoesTo (exec (.weirRxBasin dt port v) s) p := by
  refine basinRx hlive hr ?_
  have hunknown : ((State.advance dt s).weirHeard x).pairKnown x.origin x.seq = false := ((weirHeard_weirs (State.advance dt s) x).pairKnown rfl _ _).trans hnew
  rw [weirTaken_valid hx, if_neg (by simp [hunknown])]
  exact hp

end

/-! ### A new pair (R195, R201, R204, R205) -/

/-- A Weir of a new pair before it acts: heard, sent out of its scope's other ports, and kept. -/
structure State.NewPair (s : State) (port : Nat) (x : WeirSet) (t : State) : Prop where
  weirs : s.Weirs weirRegs t
  out : t.out = if s.lanesOff then s.out else s.out ++ ((s.weirPorts x).filter (· != port)).map (fun p => .sets p (List.replicate 3 (weirSet x)))
  known : t.pairKnown x.origin x.seq = true
  seq : t.weir.seq = s.weir.seq
  count : t.get F.WEIR_RX_CNT.COUNT = min (s.get F.WEIR_RX_CNT.COUNT + 1) 0xFFFFFFFF

theorem relays_newPair {s : State} (hr : s.role = .basin) (port : Nat) (x : WeirSet) : s.NewPair port x ((s.weirHeard x).relays port x) := by
  have hheard := weirHeard_weirs s x
  have hrelay := relays_weirs (s.weirHeard x) weirRegs port x
  refine ⟨hheard.trans hrelay, ?_, pairKnown_keepPair _ _ _, (relays_seq _ port x).trans rfl, ?_⟩
  · rw [relays_out, hheard.lanesOff (by decide), hheard.weirPorts hr (by decide), weirHeard_out]
  · exact ((relays_weirs (s.weirHeard x) [] port x).get List.not_mem_nil).trans (weirHeard_counts s x)

section

variable {s t : State} {port : Nat} {x : WeirSet} (h : s.NewPair port x t) (hr : s.role = .basin)
include h hr

/-- Of an arm without a Spring nothing leaves and nothing is marked. -/
theorem newPair_memberless (hscope : x.scope = 1) (hempty : s.armSprings x.arm = []) :
    (t.relayedActs x).out = s.out ∧ (t.relayedActs x).pairKnown x.origin x.seq = true ∧ s.RegsBut weirRegs (t.relayedActs x) := by
  have hports : s.weirPorts x = [] := by simp [State.weirPorts, hscope, State.armPorts, hempty]
  have hnone : t.armSprings x.arm = [] := (h.weirs.armSprings hr (by decide) _).trans hempty
  rw [State.relayedActs, if_pos (by simp [hscope]), markArm_eq, if_pos (by simp [hnone])]
  refine ⟨?_, h.known, h.weirs.regs⟩
  simp [h.out, hports]

theorem newPair_marks (hscope : x.scope = 1) (hmembers : s.armSprings x.arm ≠ []) :
    t.relayedActs x = (t.armMarked x t.stamp).armLimits (s.armIsHeld x.arm) x.arm (t.armAfter x).marks.length := by
  have hsome : t.armSprings x.arm ≠ [] := (h.weirs.armSprings hr (by decide) _).symm ▸ hmembers
  have hheld : t.armIsHeld x.arm = s.armIsHeld x.arm := by rw [State.armIsHeld, h.weirs.get (by decide), State.armIsHeld]
  rw [State.relayedActs, if_pos (by simp [hscope]), markArm_eq, if_neg (by simp [hsome]), hheld]

/-- An arm marked held, where nothing escalates. -/
theorem newPair_holds (hscope : x.scope = 1) (harm : x.arm < 12) (hmembers : s.armSprings x.arm ≠ [])
    (hstays : s.isMaster = false ∨ s.armIsHeld x.arm = true ∨ s.get F.WEIR_ARM_STAT.STN_HOLD = 1 ∨ (s.get F.WEIR_CFG.ESC_ARMS = 0 ∧ s.get F.WEIR_CFG.ESC_MAX = 0)) :
    (t.relayedActs x).out = (if s.lanesOff then s.out else s.out ++ ((s.armPorts x.arm).filter (· != port)).map (fun p => .sets p (List.replicate 3 (weirSet x)))) ∧
      (t.relayedActs x).armIsHeld x.arm = true ∧ (t.relayedActs x).pairKnown x.origin x.seq = true ∧
      (x.cause = cauBYP → ((t.relayedActs x).get F.WEIR_ARM_STAT.NOAUTO).testBit x.arm = true) ∧
      (t.relayedActs x).get F.WEIR_RX_CNT.COUNT = min (s.get F.WEIR_RX_CNT.COUNT + 1) 0xFFFFFFFF ∧ s.RegsBut (weirRegs ++ markRegs) (t.relayedActs x) := by
  have hmark := armMarked_weirs t x t.stamp
  obtain ⟨hout, hrel, -⟩ := armMarked_keeps t x t.stamp
  have hmaster : (t.armMarked x t.stamp).isMaster = s.isMaster := (hmark.isMaster (by decide)).trans (h.weirs.isMaster (by decide))
  have hstn : (t.armMarked x t.stamp).get F.WEIR_ARM_STAT.STN_HOLD = s.get F.WEIR_ARM_STAT.STN_HOLD := (armMarked_stn t x t.stamp).trans (h.weirs.get (by decide))
  have hesc : ∀ f : Fld, f.off = F.WEIR_CFG.ESC_ARMS.off → (t.armMarked x t.stamp).get f = s.get f := fun f hf =>
    (hmark.get (by rw [hf]; decide)).trans (h.weirs.get (by rw [hf]; decide))
  rw [newPair_marks h hr hscope hmembers, armLimits_stays _ _ (by rwa [hmaster, hstn, hesc F.WEIR_CFG.ESC_ARMS rfl, hesc F.WEIR_CFG.ESC_MAX rfl])]
  refine ⟨?_, by simp [armMarked_isHeld t x _ harm], pairKnown_of hrel hmark.time h.known, fun hcause => armMarked_noauto t x _ hcause harm, (hmark.get (by decide)).trans h.count,
    regsBut_trans (regsBut_wider h.weirs.regs fun o ho => List.mem_append_left _ ho) (regsBut_wider hmark.regs fun o ho => List.mem_append_right _ ho)⟩
  rw [hout, h.out]
  simp [State.weirPorts, hscope]

/-- The arm that reaches the limit of arms held: the station blocked as well. -/
theorem newPair_escalates (hscope : x.scope = 1) (harm : x.arm < 12) (hmembers : s.armSprings x.arm ≠ []) (hmaster : s.isMaster = true) (hnew : s.armIsHeld x.arm = false)
    (hstn : s.get F.WEIR_ARM_STAT.STN_HOLD = 0) (harms : s.get F.WEIR_CFG.ESC_ARMS ≠ 0) (hlimit : s.get F.WEIR_CFG.ESC_ARMS ≤ ((List.range 12).filter s.armIsHeld).length + 1) :
    (t.relayedActs x).armIsHeld x.arm = true ∧ (t.relayedActs x).get F.WEIR_ARM_STAT.STN_HOLD = 1 ∧ (t.relayedActs x).get F.WEIR_LAST.SCOPE = 2 ∧
      (t.relayedActs x).get F.WEIR_LAST.CAUSE = cauESC ∧ (t.relayedActs x).weir.seq = (s.weir.seq + 1) % 256 := by
  have hmark := armMarked_weirs t x t.stamp
  obtain ⟨-, -, hseq⟩ := armMarked_keeps t x t.stamp
  have hheld : t.armIsHeld = s.armIsHeld := funext fun a => by rw [State.armIsHeld, h.weirs.get (by decide), State.armIsHeld]
  have hesc : (t.armMarked x t.stamp).get F.WEIR_CFG.ESC_ARMS = s.get F.WEIR_CFG.ESC_ARMS := (hmark.get (by decide)).trans (h.weirs.get (by decide))
  have hcount := armMarked_count t x t.stamp harm (by rw [hheld, hnew])
  rw [hheld] at hcount
  rw [newPair_marks h hr hscope hmembers, hnew, armLimits_escalates _ _ ((hmark.isMaster (by decide)).trans ((h.weirs.isMaster (by decide)).trans hmaster))
    ((armMarked_stn t x t.stamp).trans ((h.weirs.get (by decide)).trans hstn)) (by rwa [hesc]) (by rw [hesc]; exact hlimit.trans hcount)]
  have hweir := escalate_weirs (t.armMarked x t.stamp) 2 x.arm
  refine ⟨?_, hweir.stn, hweir.scope, hweir.cause, by rw [hweir.seq, hseq, h.seq]⟩
  have hmarked : (t.armMarked x t.stamp).armIsHeld x.arm = true := by simp [armMarked_isHeld t x _ harm]
  rwa [State.armIsHeld, hweir.held]

/-- A Weir for the station: relayed by the enrolled ports, and the station blocked. -/
theorem newPair_blocks (hscope : x.scope = 2) :
    (t.relayedActs x).get F.WEIR_ARM_STAT.STN_HOLD = 1 ∧ (t.relayedActs x).pairKnown x.origin x.seq = true ∧
      (∀ p ∈ s.enrolledPorts, p ≠ port → s.lanesOff = false → .sets p (List.replicate 3 (weirSet x)) ∈ (t.relayedActs x).out) ∧
      (s.get F.WEIR_CFG.STN_TRIP = 0 → s.ticking = true → (t.relayedActs x).ctl.hw = max s.ctl.hw ssFAULT ∧ (t.relayedActs x).station = s.station) := by
  have hblock := stationBlock_blocks t x.cause x.origin
  rw [State.relayedActs, if_neg (by simp [hscope])]
  refine ⟨hblock.stn, pairKnown_of ((congrArg WeirSt.relayed hblock.weir).trans rfl) hblock.time h.known, fun p hp hother hon => ?_, fun htrip htick => ?_⟩
  · have hports : s.weirPorts x = s.enrolledPorts := by simp [State.weirPorts, hscope]
    rw [hblock.out, h.out, hon, if_neg Bool.false_ne_true, hports]
    exact List.mem_append_right _ (List.mem_map.mpr ⟨p, List.mem_filter.mpr ⟨hp, by simpa using hother⟩, rfl⟩)
  · obtain ⟨hhw, hstation⟩ := stationBlock_waits (h.weirs.role.trans hr) ((h.weirs.get (by decide)).trans htrip) ((h.weirs.ticking hr (by decide)).trans htick) x.cause x.origin
    exact ⟨hhw.trans (by rw [h.weirs.ctl]), hstation.trans (h.weirs.get (by decide))⟩

end

end Sys2Proof.Machine
end

section
/-! PROOFS. The OCP channels' readings, their vote, and what a vote that begins to trip blocks (R206, R207). -/
namespace Sys2Proof.Machine

/-! ### The readings shown (R206) -/

/-- The channels that vote to trip: those that read TRIP or INVALID. -/
def ocpVotes (a b c : Nat) : List Bool := [a != 0, b != 0, c != 0]

/-- The readings sampled, before the vote follows them. -/
def State.ocpSampled (s : State) (a b c : Nat) : State :=
  (((s.set F.WEIR_OCP_STAT.STATE_A a).set F.WEIR_OCP_STAT.STATE_B b).set F.WEIR_OCP_STAT.STATE_C c).voteSample 0 (ocpVotes a b c) true

/-- The readings and their vote. -/
def State.ocpShown (s : State) (a b c : Nat) : State := (s.ocpSampled a b c).setFlag F.WEIR_OCP_STAT.VOTE (s.voteTrips 0 (ocpVotes a b c))

section

variable (s : State) (a b c : Nat)

theorem ocpSampled_get {f : Fld} (hok : f.ok = true) (ha : F.WEIR_OCP_STAT.STATE_A.apart f = true) (hb : F.WEIR_OCP_STAT.STATE_B.apart f = true) (hc : F.WEIR_OCP_STAT.STATE_C.apart f = true) :
    (s.ocpSampled a b c).get f = s.get f := by
  have hset : (((s.set F.WEIR_OCP_STAT.STATE_A a).set F.WEIR_OCP_STAT.STATE_B b).set F.WEIR_OCP_STAT.STATE_C c).get f = s.get f := by
    rw [State.get_set_apart _ _ _ _ hok hc, State.get_set_apart _ _ _ _ hok hb, State.get_set_apart _ _ _ _ hok ha]
  exact hset

theorem ocpSet_eq : s.ocpSet a b c = (s.ocpShown a b c).ocpAct s.ocpActing := by
  have hexcl : (s.ocpSampled a b c).voteTrips 0 (ocpVotes a b c) = s.voteTrips 0 (ocpVotes a b c) := by
    rw [State.voteTrips, State.exclOf, ocpSampled_get _ _ _ _ rfl rfl rfl rfl, State.voteTrips, State.exclOf]
  rw [State.ocpShown, ← hexcl]
  rfl

theorem ocpShown_regs : s.RegsBut [F.WEIR_OCP_STAT.VOTE.off] (s.ocpShown a b c) := by
  have hset : s.RegsBut [F.WEIR_OCP_STAT.VOTE.off] (((s.set F.WEIR_OCP_STAT.STATE_A a).set F.WEIR_OCP_STAT.STATE_B b).set F.WEIR_OCP_STAT.STATE_C c) :=
    (((regsBut_same s _).set F.WEIR_OCP_STAT.STATE_A a (by decide)).set F.WEIR_OCP_STAT.STATE_B b (by decide)).set F.WEIR_OCP_STAT.STATE_C c (by decide)
  have hsampled : s.RegsBut [F.WEIR_OCP_STAT.VOTE.off] (s.ocpSampled a b c) := hset
  exact hsampled.set F.WEIR_OCP_STAT.VOTE _ (by decide)

theorem ocpShown_vote : (s.ocpShown a b c).get F.WEIR_OCP_STAT.VOTE = b2n (s.voteTrips 0 (ocpVotes a b c)) := by
  rw [State.ocpShown, State.setFlag, State.get_set_same _ _ _ rfl]
  cases s.voteTrips 0 (ocpVotes a b c) <;> rfl

theorem ocpShown_states (ha : a < 4) (hb : b < 4) (hc : c < 4) :
    (s.ocpShown a b c).get F.WEIR_OCP_STAT.STATE_A = a ∧ (s.ocpShown a b c).get F.WEIR_OCP_STAT.STATE_B = b ∧ (s.ocpShown a b c).get F.WEIR_OCP_STAT.STATE_C = c := by
  have hvote : ∀ f : Fld, f.ok = true → F.WEIR_OCP_STAT.VOTE.apart f = true →
      (s.ocpShown a b c).get f = (((s.set F.WEIR_OCP_STAT.STATE_A a).set F.WEIR_OCP_STAT.STATE_B b).set F.WEIR_OCP_STAT.STATE_C c).get f :=
    fun f hok hap => State.get_set_apart (s.ocpSampled a b c) _ _ _ hok hap
  refine ⟨?_, ?_, ?_⟩
  · rw [hvote _ rfl rfl, State.get_set_apart _ _ _ _ rfl rfl, State.get_set_apart _ _ _ _ rfl rfl, State.get_set_same _ _ _ rfl]
    exact Nat.mod_eq_of_lt ha
  · rw [hvote _ rfl rfl, State.get_set_apart _ _ _ _ rfl rfl, State.get_set_same _ _ _ rfl]
    exact Nat.mod_eq_of_lt hb
  · rw [hvote _ rfl rfl, State.get_set_same _ _ _ rfl]
    exact Nat.mod_eq_of_lt hc

theorem ocpShown_acting : (s.ocpShown a b c).ocpActing = (s.voteTrips 0 (ocpVotes a b c) && s.flag F.WEIR_OCP_CFG.EN) := by
  have hvote : (s.ocpShown a b c).flag F.WEIR_OCP_STAT.VOTE = s.voteTrips 0 (ocpVotes a b c) := by
    rw [State.flag, ocpShown_vote]
    cases s.voteTrips 0 (ocpVotes a b c) <;> rfl
  rw [State.ocpActing, hvote, (ocpShown_regs s a b c).flag (by decide)]

end

/-! ### A vote that begins to act (R207) -/

/-- A vote that does not act, or acted before, brings nothing about. -/
theorem ocpAct_idle {s : State} {was : Bool} (h : s.ocpActing = false ∨ was = true) : s.ocpAct was = s := by
  unfold State.ocpAct
  rw [if_pos (by simpa using h)]

theorem ocpAct_basin {s : State} (hr : s.role = .basin) (h : s.ocpActing = true) : s.StationWeirs cauBOCP (s.ocpAct false) := by
  unfold State.ocpAct
  rw [if_neg (by simp [h])]
  simp only [hr]
  exact raise_stationWeir s _ _ (by decide)

/-- A Spring enters BLOCK; the vote goes on showing. -/
theorem ocpAct_spring {s : State} (hr : s.role = .spring) (h : s.ocpActing = true) : (s.ocpAct false).blocked = true ∧
    (s.ocpAct false).get F.WEIR_OCP_STAT.VOTE = s.get F.WEIR_OCP_STAT.VOTE ∧ (s.blocked = false → (s.ocpAct false).gate.cause = cauSOCP ∧ (s.ocpAct false).gate.bypCmd = false) := by
  have hvote : F.WEIR_OCP_STAT.VOTE.Unblocked := ⟨rfl, rfl, by decide⟩
  unfold State.ocpAct
  rw [if_neg (by simp [h])]
  simp only [hr]
  rw [enterBlock_get_unblocked hvote, State.raise_get _ _ _ _ rfl]
  have hkept : ∀ p, (s.raise Ev.OCP_TRIP p).blocked = s.blocked := fun p => blocked_of (State.raise_get _ _ _ _ rfl)
  by_cases hb : s.blocked = true
  · rw [State.enterBlock, if_pos ((hkept _).trans hb)]
    exact ⟨(hkept _).trans hb, rfl, fun hn => absurd (hb.symm.trans hn) (by decide)⟩
  · obtain ⟨hblocked, hcause, hbyp, -⟩ := enterBlock_ends ((hkept _).trans (Bool.eq_false_iff.mpr hb)) cauSOCP _
    exact ⟨hblocked, rfl, fun _ => ⟨hcause, hbyp⟩⟩

/-! ### OCP_TRIP and OCP_CHANNEL_CHANGE -/

section

variable {s : State} {dt : Nat} {a b c : Fin 3} {i : Instr} (hlive : s.live = true) (hi : i = .ocpTrip dt a b c ∨ i = .ocpChannelChange dt a b c)
include hlive hi

theorem ocpReads {p : State → Prop} (hp : p (((State.advance dt s).ocpShown a b c).ocpAct (State.advance dt s).ocpActing)) : GoesTo (exec i s) p := by
  have hexec : exec i s = whenLive s fun s => (State.advance dt s).ocpSet a b c := by rcases hi with rfl | rfl <;> rfl
  rw [hexec]
  refine goesTo_live hlive ?_
  rw [confine_hull (by simp), ocpSet_eq]
  exact hp

theorem ocpReads_idle (h : s.get F.WEIR_OCP_CFG.EN = 0 ∨ s.get F.WEIR_OCP_STAT.VOTE = 1 ∨ s.voteTrips 0 [a.val != 0, b.val != 0, c.val != 0] = false) :
    GoesTo (exec i s) fun t => t.get F.WEIR_OCP_STAT.STATE_A = a ∧ t.get F.WEIR_OCP_STAT.STATE_B = b ∧ t.get F.WEIR_OCP_STAT.STATE_C = c ∧
      t.get F.WEIR_OCP_STAT.VOTE = b2n (s.voteTrips 0 [a.val != 0, b.val != 0, c.val != 0]) ∧ s.RegsBut [F.WEIR_OCP_STAT.VOTE.off] t ∧ t.recd = s.recd ∧ t.gate = s.gate := by
  refine ocpReads hlive hi ?_
  have hidle : ((State.advance dt s).ocpShown a b c).ocpActing = false ∨ (State.advance dt s).ocpActing = true := by
    rw [ocpShown_acting]
    change (s.voteTrips 0 (ocpVotes a b c) && s.flag F.WEIR_OCP_CFG.EN) = false ∨ s.ocpActing = true
    rcases h with hen | hvote | htrips
    · simp [State.flag, hen]
    · cases hen : s.flag F.WEIR_OCP_CFG.EN with
      | false => exact .inl (Bool.and_false _)
      | true => exact .inr (by rw [State.ocpActing, hen, State.flag, hvote]; rfl)
    · exact .inl (by rw [ocpVotes, htrips, Bool.false_and])
  rw [ocpAct_idle hidle]
  obtain ⟨ha, hb, hc⟩ := ocpShown_states (State.advance dt s) a b c (a.isLt.trans (by decide)) (b.isLt.trans (by decide)) (c.isLt.trans (by decide))
  exact ⟨ha, hb, hc, ocpShown_vote _ a b c, regsBut_trans (advance_regs s dt _) (ocpShown_regs _ a b c), rfl, rfl⟩

section

variable (hen : s.get F.WEIR_OCP_CFG.EN = 1) (hvote : s.get F.WEIR_OCP_STAT.VOTE = 0) (htrips : s.voteTrips 0 [a.val != 0, b.val != 0, c.val != 0] = true)
include hen hvote htrips

theorem ocpReads_acts {p : State → Prop} (hp : ((State.advance dt s).ocpShown a b c).ocpActing = true → ((State.advance dt s).ocpShown a b c).get F.WEIR_OCP_STAT.VOTE = 1 →
    p (((State.advance dt s).ocpShown a b c).ocpAct false)) : GoesTo (exec i s) p := by
  have hbefore : (State.advance dt s).ocpActing = false := by
    change s.ocpActing = false
    simp [State.ocpActing, State.flag, hvote]
  have hnow : (State.advance dt s).voteTrips 0 (ocpVotes a b c) = true := htrips
  have henabled : (State.advance dt s).flag F.WEIR_OCP_CFG.EN = true := by
    change s.flag F.WEIR_OCP_CFG.EN = true
    simp [State.flag, hen]
  refine ocpReads hlive hi ?_
  rw [hbefore]
  exact hp (by rw [ocpShown_acting, hnow, henabled]; rfl) (by rw [ocpShown_vote, hnow]; rfl)

theorem ocpReads_spring (hr : s.role = .spring) : GoesTo (exec i s) fun t => t.blocked = true ∧ t.get F.WEIR_OCP_STAT.VOTE = 1 ∧ (s.blocked = false → t.gate.cause = cauSOCP ∧ t.gate.bypCmd = false) := by
  refine ocpReads_acts hlive hi hen hvote htrips fun hacting hshown => ?_
  obtain ⟨hblocked, hkept, hcause⟩ := ocpAct_spring (s := (State.advance dt s).ocpShown a b c) hr hacting
  have hbefore : ((State.advance dt s).ocpShown a b c).blocked = s.blocked := blocked_of ((ocpShown_regs _ a b c).get (by decide))
  exact ⟨hblocked, hkept.trans hshown, fun hb => hcause (hbefore.trans hb)⟩

theorem ocpReads_basin (hr : s.role = .basin) : GoesTo (exec i s) fun t => t.get F.WEIR_ARM_STAT.STN_HOLD = 1 ∧ t.get F.WEIR_OCP_STAT.VOTE = 1 ∧ t.get F.WEIR_LAST.SCOPE = 2 ∧
    t.get F.WEIR_LAST.CAUSE = cauBOCP ∧ t.weir.seq = (s.weir.seq + 1) % 256 ∧ t.get F.WEIR_TX_CNT.COUNT = min (s.get F.WEIR_TX_CNT.COUNT + 1) 0xFFFFFFFF := by
  refine ocpReads_acts hlive hi hen hvote htrips fun hacting hshown => ?_
  have hweir := ocpAct_basin (s := (State.advance dt s).ocpShown a b c) hr hacting
  have hcount : ((State.advance dt s).ocpShown a b c).get F.WEIR_TX_CNT.COUNT = s.get F.WEIR_TX_CNT.COUNT := (ocpShown_regs _ a b c).get (by decide)
  exact ⟨hweir.stn, (hweir.regs.get (by decide)).trans hshown, hweir.scope, hweir.cause, hweir.seq, by rw [hweir.count, hcount]⟩

end

end

end Sys2Proof.Machine
end

section
/-! PROOFS. A hold that lasts too long, pairs forgotten, the release of held arms asked for, and EN set while the vote trips (R195, R203, R204, R207). -/
namespace Sys2Proof.Machine

/-! ### WEIR_HOLD_MAX (R204) -/

/-- The active Basin finds an arm held for longer than the limit, and no station block in force. -/
def State.heldTooLong (s : State) (arm : Nat) : Bool :=
  s.isMaster && s.armIsHeld arm && s.get F.WEIR_HOLD_MAX.TICKS != 0 && decide (s.get F.WEIR_HOLD_MAX.TICKS < tickDist (s.armHold arm).since s.tickNow) && !s.flag F.WEIR_ARM_STAT.STN_HOLD

theorem weirHoldMax_eq (s : State) (dt : Nat) (arm : Fin 12) :
    exec (.weirHoldMax dt arm) s = onBasin s fun s => if (State.advance dt s).heldTooLong arm then (State.advance dt s).escalate 1 arm else State.advance dt s := rfl

theorem heldTooLong_advance (s : State) (dt arm : Nat) : (State.advance dt s).heldTooLong arm = s.heldTooLong arm := rfl

section

variable {s : State} {dt : Nat} {arm : Fin 12} (hlive : s.live = true) (hr : s.role = .basin)
include hlive hr

theorem weirHoldMax_escalates (hmaster : s.isMaster = true) (hheld : s.armIsHeld arm = true) (hlim : s.get F.WEIR_HOLD_MAX.TICKS ≠ 0)
    (hlong : s.get F.WEIR_HOLD_MAX.TICKS < tickDist (s.armHold arm).since s.tickNow) (hstn : s.get F.WEIR_ARM_STAT.STN_HOLD = 0) :
    GoesTo (exec (.weirHoldMax dt arm) s) fun t => t.get F.WEIR_ARM_STAT.STN_HOLD = 1 ∧ t.get F.WEIR_LAST.SCOPE = 2 ∧ t.get F.WEIR_LAST.CAUSE = cauESC ∧ t.weir.seq = (s.weir.seq + 1) % 256 ∧
      t.armIsHeld arm = true := by
  have htoo : s.heldTooLong arm = true := by simp [State.heldTooLong, hmaster, hheld, hlim, hlong, State.flag, hstn]
  rw [weirHoldMax_eq]
  refine goesTo_basin hlive hr ?_
  rw [heldTooLong_advance, if_pos htoo, confine_hull (by simp)]
  have hweir := escalate_weirs (State.advance dt s) 1 arm
  exact ⟨hweir.stn, hweir.scope, hweir.cause, hweir.seq, (congrArg (fun n => n.testBit arm.val) hweir.held).trans hheld⟩

theorem weirHoldMax_idles (h : s.isMaster = false ∨ s.armIsHeld arm = false ∨ s.get F.WEIR_HOLD_MAX.TICKS = 0 ∨ tickDist (s.armHold arm).since s.tickNow ≤ s.get F.WEIR_HOLD_MAX.TICKS ∨
    s.get F.WEIR_ARM_STAT.STN_HOLD = 1) : GoesTo (exec (.weirHoldMax dt arm) s) fun t => t = State.advance dt s := by
  have hnot : s.heldTooLong arm = false := by
    unfold State.heldTooLong
    rcases h with h | h | h | h | h
    · simp [h]
    · simp [h]
    · simp [h]
    · simp [not_lt.mpr h]
    · simp [State.flag, h]
  rw [weirHoldMax_eq]
  refine goesTo_basin hlive hr ?_
  rw [heldTooLong_advance, hnot, if_neg Bool.false_ne_true]
  exact confine_hull (hull_advance dt s)

/-! ### WEIR_MEMORY_EXPIRY (R195) -/

theorem weirMemoryExpiry_forgets : GoesTo (exec (.weirMemoryExpiry dt) s) fun t =>
    t.weir = { s.weir with relayed := s.weir.relayed.filter (fun x => decide (s.time.cyc + dt < x.2.2 + 500000)) } ∧ t.out = s.out ∧ s.RegsBut [] t := by
  have hexec : exec (.weirMemoryExpiry dt) s = onBasin s fun s =>
      { State.advance dt s with weir := { s.weir with relayed := s.weir.relayed.filter (fun x => decide (s.time.cyc + dt < x.2.2 + 500000)) } } := rfl
  rw [hexec]
  exact goesTo_basin hlive hr ⟨rfl, rfl, regsBut_hidden _ rfl rfl rfl⟩

end

/-! ### WEIR_REL (R203) -/

/-- An arm's release pending. -/
def State.relPends (s : State) (a : Nat) : State := if s.weir.req.contains a then s else { s with weir := { s.weir with req := s.weir.req ++ [a] } }

/-- What the request finds: an arm not held is refused and dropped, one held is refused during FAULT_BLOCK. -/
def State.relFinds (s : State) (a : Nat) : State :=
  if !s.armIsHeld a then
    { s with weir := { s.weir with req := s.weir.req.filter (· != a), reqGot := s.weir.reqGot.filter (· != a) } }.raise Ev.WEIR_REL_REFUSED [a, evNum Ev.WEIR_REL_REFUSED 0]
  else if s.station == ssFAULT then s.raise Ev.WEIR_REL_REFUSED [a, evNum Ev.WEIR_REL_REFUSED 1]
  else s

theorem weirRel_eq (s : State) (v : Nat) : s.weirRel v = (maskBits 12 v).foldl (fun s a => (s.relPends a).relFinds a) s := rfl

section

variable (s : State) (a b : Nat)

theorem relPends_weirs : s.Weirs recCounters (s.relPends a) := by
  unfold State.relPends
  split
  · exact .refl _ s
  · exact (State.Weirs.refl _ s).memory _

theorem relPends_req : b ∈ (s.relPends a).weir.req ↔ b = a ∨ b ∈ s.weir.req := by
  unfold State.relPends
  split
  · next hin => exact ⟨.inr, fun h => h.elim (fun e => e ▸ List.contains_iff_mem.mp hin) id⟩
  · simp [or_comm]

theorem relFinds_weirs : s.Weirs recCounters (s.relFinds a) := by
  unfold State.relFinds
  split
  · exact ((State.Weirs.refl _ s).memory _).raise _ _ fun _ ho => ho
  · split
    · exact (State.Weirs.refl _ s).raise _ _ fun _ ho => ho
    · exact .refl _ s

/-- Only a request for an arm that is not held is dropped. -/
theorem relFinds_req : b ∈ (s.relFinds a).weir.req ↔ b ∈ s.weir.req ∧ (b = a → s.armIsHeld a = true) := by
  unfold State.relFinds
  cases hheld : s.armIsHeld a with
  | false => simp
  | true =>
    rw [if_neg (by decide)]
    split <;> simp

end

/-- What asking for the release of some arms leaves. -/
structure State.Asks (s : State) (l : List Nat) (t : State) : Prop where
  weirs : s.Weirs recCounters t
  req : ∀ a, a ∈ t.weir.req ↔ if a ∈ l then s.armIsHeld a = true else a ∈ s.weir.req

theorem State.Weirs.armIsHeld {l : List Nat} {s t : State} (h : s.Weirs l t) (hl : F.WEIR_ARM_STAT.HELD.off ∉ l) (a : Nat) : t.armIsHeld a = s.armIsHeld a := by
  rw [State.armIsHeld, h.get hl, State.armIsHeld]

theorem relAsks_one (s : State) (a : Nat) : s.Asks [a] ((s.relPends a).relFinds a) := by
  refine ⟨(relPends_weirs s a).trans (relFinds_weirs _ a), fun b => ?_⟩
  rw [relFinds_req, relPends_req, (relPends_weirs s a).armIsHeld (by decide)]
  by_cases hb : b = a
  · simp [hb]
  · simp [hb]

theorem relAsks_all (l : List Nat) (s : State) : s.Asks l (l.foldl (fun s a => (s.relPends a).relFinds a) s) := by
  induction l generalizing s with
  | nil => exact ⟨.refl _ s, fun a => by simp⟩
  | cons a l ih =>
    obtain ⟨hone, hreq⟩ := relAsks_one s a
    obtain ⟨hrest, hall⟩ := ih ((s.relPends a).relFinds a)
    refine ⟨hone.trans hrest, fun b => ?_⟩
    rw [List.foldl_cons, hall, hone.armIsHeld (by decide), hreq]
    by_cases hb : b ∈ l
    · simp [hb]
    · simp [hb]

theorem mem_maskBits {n m a : Nat} : a ∈ maskBits n m ↔ a < n ∧ m.testBit a = true := by rw [maskBits, List.mem_filter, List.mem_range]

theorem weirRel_asks {s : State} (v : Word) (hlive : s.live = true) (hr : s.role = .basin) : GoesTo (exec (.weirRel v) s) fun t =>
    (∀ a, a < 12 → v.toNat.testBit a = true → (a ∈ t.weir.req ↔ s.armIsHeld a = true)) ∧ (∀ a, (12 ≤ a ∨ v.toNat.testBit a = false) → (a ∈ t.weir.req ↔ a ∈ s.weir.req)) ∧
    t.get F.WEIR_ARM_STAT.HELD = s.get F.WEIR_ARM_STAT.HELD ∧ s.RegsBut ((F.HIF_EVT_STAT.PEND 0).off :: recCounters) t := by
  have hexec : exec (.weirRel v) s = onBasin s fun s => s.weirRel v.toNat := rfl
  rw [hexec]
  refine goesTo_basin hlive hr ?_
  rw [confine_hull (hull_weirRel s _), weirRel_eq]
  obtain ⟨hweirs, hreq⟩ := relAsks_all (maskBits 12 v.toNat) s
  refine ⟨fun a ha hbit => ?_, fun a ha => ?_, hweirs.get (by decide), regsBut_wider hweirs.regs fun o ho => List.mem_cons_of_mem _ ho⟩
  · rw [hreq, if_pos (mem_maskBits.mpr ⟨ha, hbit⟩)]
  · have hout : a ∉ maskBits 12 v.toNat := fun hin => by
      obtain ⟨hlt, hbit⟩ := mem_maskBits.mp hin
      rcases ha with ha | ha
      · exact absurd hlt (not_lt.mpr ha)
      · exact Bool.false_ne_true (ha.symm.trans hbit)
    rw [hreq, if_neg hout]

/-! ### EN set while the vote trips (R207) -/

/-- The row of WEIR_OCP_CFG (R566). -/
def ocpCfgRow : RegRow := ⟨0x18014, 0, 1, 0, 1, 0, 0x0, 0x0, [⟨1, 2, .rwl, []⟩, ⟨0, 1, .rwl, []⟩]⟩

theorem rowAt_ocpCfg : rowAt F.WEIR_OCP_CFG.EN.off = some ocpCfgRow := by decide

theorem writeFields_recorded (s : State) (locked : Bool) (o v : Nat) : s.Recorded (s.writeFields locked o v) := by
  unfold State.writeFields
  split
  · exact .same s
  · split
    · dsimp only
      split
      · exact State.Recorded.trans (t := s.wr o _) rfl (State.recorded_raise _ _ _)
      · split
        · exact State.Recorded.trans (t := s.wr o _) rfl (State.recorded_set _ _ _)
        · rfl
    · exact .same s

section

variable {s : State} {v : Nat} (hr : s.role = .basin)
include hr

theorem writeFields_ocpEn (hv : bitOf v 0 = true) : (s.writeFields false F.WEIR_OCP_CFG.EN.off v).get F.WEIR_OCP_CFG.EN = 1 ∧
    s.RegsBut (F.WEIR_OCP_CFG.EN.off :: F.SAFE_CRC.CRC.off :: recCounters) (s.writeFields false F.WEIR_OCP_CFG.EN.off v) := by
  obtain ⟨hrd, hregs, -⟩ := writeFields_leaves (s := s) (v := v) false rowAt_ocpCfg (by rw [hr]; rfl) (by decide)
  refine ⟨?_, hregs⟩
  have hone : bitsOf v 0 1 = 1 := by
    have hmod := (bitOf_eq v 0).symm.trans hv
    simpa [bitsOf_eq] using hmod
  rw [State.get, hrd]
  exact (bitsOf_putField_same _ 0 1 (bitsOf v 0 1) (by decide)).trans (by rw [hone]; rfl)

theorem busWrite_ocpCfg (w : WrIn) : s.busWrite w F.WEIR_OCP_CFG.EN.off v = (s.writeFields s.cfgLocked F.WEIR_OCP_CFG.EN.off v).ocpAct s.ocpActing := by
  have hlive : s.liveReg F.WEIR_OCP_CFG.EN.off = true := by
    rw [State.liveReg, rowAt_ocpCfg, hr]
    rfl
  unfold State.busWrite State.cfgWrite
  rw [hlive]
  rfl

end

theorem sampleLate_seq (s : State) : s.sampleLate.weir.seq = s.weir.seq := by
  unfold State.sampleLate
  split <;> rfl

theorem registerWrite_ocpEn {s : State} (dt : Nat) {v : Word} (w : WrIn) (hlive : s.live = true) (hr : s.role = .basin) (hopen : s.cfgLocked = false)
    (hvote : s.get F.WEIR_OCP_STAT.VOTE = 1) (hoff : s.get F.WEIR_OCP_CFG.EN = 0) (hv : v.getLsbD 0 = true) :
    GoesTo (exec (.registerWrite dt F.WEIR_OCP_CFG.EN.off 4 [v] w) s) fun t => t.get F.WEIR_OCP_CFG.EN = 1 ∧ t.get F.WEIR_ARM_STAT.STN_HOLD = 1 ∧ t.get F.WEIR_LAST.SCOPE = 2 ∧
      t.get F.WEIR_LAST.CAUSE = cauBOCP ∧ t.weir.seq = (s.weir.seq + 1) % 256 := by
  have hrole : (State.advance dt s).role = .basin := hr
  have hlock : (State.advance dt s).cfgLocked = false := hopen
  have hidle : (State.advance dt s).ocpActing = false := by
    change s.ocpActing = false
    simp [State.ocpActing, State.flag, hoff]
  rw [exec_registerWrite]
  refine goesTo_basin hlive hr ?_
  rw [if_pos (by rfl), State.writeWords, State.writeWords, busWrite_ocpCfg hrole, hlock, hidle, confine_hull (by simp)]
  obtain ⟨hen, hregs⟩ := writeFields_ocpEn (s := State.advance dt s) (v := v.toNat) hrole hv
  have hrec := writeFields_recorded (State.advance dt s) false F.WEIR_OCP_CFG.EN.off v.toNat
  have hseq : ((State.advance dt s).writeFields false F.WEIR_OCP_CFG.EN.off v.toNat).weir.seq = s.weir.seq := congrArg WeirSt.seq hrec.weir
  have hshown : ((State.advance dt s).writeFields false F.WEIR_OCP_CFG.EN.off v.toNat).get F.WEIR_OCP_STAT.VOTE = 1 := (hregs.get (by decide)).trans hvote
  generalize (State.advance dt s).writeFields false F.WEIR_OCP_CFG.EN.off v.toNat = u at hen hrec hseq hshown
  have hweir := ocpAct_basin (s := u) (hrec.role.trans hr) (by simp [State.ocpActing, State.flag, hen, hshown])
  obtain ⟨hlate, -⟩ := sampleLate_keeps (u.ocpAct false)
  have hsame : ∀ f : Fld, (u.ocpAct false).sampleLate.get f = (u.ocpAct false).get f := fun f => by rw [State.get, hlate, State.get]
  rw [hsame, hsame, hsame, hsame, sampleLate_seq, hweir.seq, hseq]
  exact ⟨(hweir.regs.get (by decide)).trans hen, hweir.stn, hweir.scope, hweir.cause, rfl⟩

end Sys2Proof.Machine
end

section
/-! PROOFS. Weirs received, OCP votes and the hold's limits: every clause of O40. -/
namespace Sys2Proof.Machine

/-- Settles O40: each clause by the lemma of its command; a station block and an arm marked held each by what it leaves. -/
theorem weirAndVotes : Obligations.WeirAndVotes := by
  unfold Obligations.WeirAndVotes
  refine ⟨fun s dt v port hlive hr => ?_, fun s dt v port hlive hr => ?_, fun s dt a b c i hlive hi => ?_, fun s dt arm hlive hr => ?_, fun s dt hlive hr => ?_, fun s v hlive hr => ?_,
    fun s dt v w hlive hr hopen hvote hoff hv => ?_⟩
  · refine ⟨fun hother htrain hei => springRx hlive hr (weirTaken_other_counts hother htrain hei), fun htraining => springRx hlive hr (weirTaken_training htraining),
      fun hbad => springRx hlive hr ?_, fun x hx => springRx_valid hlive hr hx⟩
    obtain ⟨hcount, -, hout, hgate, hregs⟩ := weirTaken_bad_counts (s := s) hbad
    exact ⟨hcount, hout, hgate, hregs⟩
  · refine ⟨fun hother htrain hei => basinRx hlive hr (weirTaken_other_counts hother htrain hei), fun htraining => basinRx hlive hr (weirTaken_training htraining),
      fun hbad => basinRx hlive hr ?_, fun x hx hknown => basinRx_known hlive hr hx hknown, fun x hx hnew => ?_⟩
    · obtain ⟨hcount, hweir, -, -, hregs⟩ := weirTaken_bad_counts (s := s) hbad
      exact ⟨hcount, hweir, regsBut_wider hregs (by decide)⟩
    · have hpair := relays_newPair (s := State.advance dt s) hr port x
      have hfit := weirRx_valid hx
      have harm : x.scope = 1 → x.arm < 12 := fun hscope => by
        have := hfit.scope
        omega
      refine ⟨fun hscope hempty => basinRx_new hlive hr hx hnew ?_, fun hscope hmembers hstays => basinRx_new hlive hr hx hnew ?_,
        fun hscope hmembers hmaster hfree hstn harms hlimit => basinRx_new hlive hr hx hnew ?_, fun hscope => basinRx_new hlive hr hx hnew ?_⟩
      · exact newPair_memberless (s := State.advance dt s) hpair hr hscope hempty
      · obtain ⟨hout, hheld, hknown, hauto, hcount, hregs⟩ := newPair_holds (s := State.advance dt s) hpair hr hscope (harm hscope) hmembers hstays
        exact ⟨hout, hheld, hknown, hauto, hcount, regsBut_wider hregs (by decide)⟩
      · exact newPair_escalates (s := State.advance dt s) hpair hr hscope (harm hscope) hmembers hmaster hfree hstn harms hlimit
      · exact newPair_blocks (s := State.advance dt s) hpair hr hscope
  · exact ⟨ocpReads_idle hlive hi, fun hen hvote htrips => ⟨ocpReads_spring hlive hi hen hvote htrips, ocpReads_basin hlive hi hen hvote htrips⟩⟩
  · exact ⟨weirHoldMax_escalates hlive hr, weirHoldMax_idles hlive hr⟩
  · exact weirMemoryExpiry_forgets hlive hr
  · exact weirRel_asks v hlive hr
  · exact registerWrite_ocpEn dt w hlive hr hopen hvote hoff hv

end Sys2Proof.Machine
end
